-- ==== Sys2Proof/Word.lean ====
section
/-! DEFINITION. The word types of the TX9 (R3, R260) and the two container types the state is built from. -/

namespace Sys2Proof

/-- One byte of memory (R3). -/
abbrev Byte := BitVec 8
/-- A 32-bit instruction word or lane register (R260, R202). -/
abbrev Word := BitVec 32
/-- A 64-bit value: addresses, management registers, memory words. -/
abbrev DWord := BitVec 64

/-- A sparse map from numbers: pairs with rising keys and no entry equal to the default of the map (log 9). -/
abbrev NMap (α : Type) := List (Nat × α)

/-- A keyed table: one entry a key, the most recently written first. -/
abbrev Tab (κ α : Type) := List (κ × α)

end Sys2Proof
end

