-- ==== Sys2Proof/Syntax.lean ====
section
/-! DEFINITION. The steps of the TX9: one constructor per row of spec/opcode_table.json. The 161 instruction words come first and carry
the fields the table gives them, at their widths (c the chain bit, g the guard, d, a, b the operand codes of R10); the 162
events follow, and carry nothing: the objects an event concerns and the data that comes with it are its message
(Sys2Proof/Machine/Event.lean), which State holds while the event happens. -/

namespace Sys2Proof

/-- Every operation and event of the part (spec/opcode_table.json). -/
inductive Instr where
  /-- NOP (R271): Does nothing for one cycle -/
  | nop (c : BitVec 1)
  /-- END (R272): Trailer that commits the run, awaits tokens and optionally yields -/
  | endRun (w : BitVec 8) (y : BitVec 1) (l : BitVec 4)
  /-- BRA (R341): Branches to a packet displacement at the trailer -/
  | bra (c : BitVec 1) (g : BitVec 3) (i : BitVec 21)
  /-- CALL (R341): Pushes the return point and branches at the trailer -/
  | call (c : BitVec 1) (g : BitVec 3) (i : BitVec 21)
  /-- BRX (R342): Branches to the packet held in A -/
  | brx (c : BitVec 1) (g : BitVec 3) (a : BitVec 7)
  /-- EXIT (R344): Releases at RELS and ends the thread at the trailer -/
  | exit (c : BitVec 1) (g : BitVec 3)
  /-- RET (R342): Pops the call stack and continues at the popped packet -/
  | ret (c : BitVec 1) (g : BitVec 3)
  /-- ACQX (R345): Acquires an extended register block for the gang and pushes success -/
  | acqx (c : BitVec 1)
  /-- RELX (R345): Returns the gang's extended block to the pool at the trailer -/
  | relx (c : BitVec 1)
  /-- BRK (R347): Raises a BREAK trap and waits on a new fault entry -/
  | brk (c : BitVec 1) (g : BitVec 3)
  /-- JOIN (R338): Parks the thread in JOINWAIT with a lane mask until its siblings arrive -/
  | join (c : BitVec 1) (g : BitVec 3) (a : BitVec 7)
  /-- SVC (R346): Releases at SYSTEM, writes the argument block to the service ring and parks in SVCWAIT -/
  | svc (c : BitVec 1) (g : BitVec 3) (a : BitVec 7)
  /-- BAR (R337): Releases, arrives at the level-k barrier and waits, acquiring when all members arrive -/
  | bar (c : BitVec 1) (k : BitVec 7)
  /-- WAIT_ANY (R336): Waits at the trailer until any condition of the block holds or the timeout elapses -/
  | waitAny (c : BitVec 1) (g : BitVec 3) (d : BitVec 7) (a : BitVec 7) (b : BitVec 7)
  /-- WAIT_ALL (R336): Waits at the trailer until every present condition holds or the timeout elapses -/
  | waitAll (c : BitVec 1) (g : BitVec 3) (d : BitVec 7) (a : BitVec 7) (b : BitVec 7)
  /-- ARM (R335): Sets an arrival word's target and clears its count at the trailer -/
  | arm (c : BitVec 1) (g : BitVec 3) (a : BitVec 7) (b : BitVec 7)
  /-- FENCE_ACQ (R334): Orders later accesses after earlier strong loads -/
  | fenceAcq (c : BitVec 1) (g : BitVec 3) (s : BitVec 3)
  /-- FENCE_REL (R334): Orders later strong stores after earlier strong stores are acknowledged at the scope -/
  | fenceRel (c : BitVec 1) (g : BitVec 3) (s : BitVec 3)
  /-- FENCE_AR (R334): Performs both fence kinds at one scope; AQ and RL must be equal -/
  | fenceAr (c : BitVec 1) (g : BitVec 3) (s : BitVec 3) (r : BitVec 3)
  /-- PHASE (R334): Performs a phase boundary at the scope at the trailer; AQ and RL must be equal -/
  | phase (c : BitVec 1) (g : BitVec 3) (s : BitVec 3) (r : BitVec 3)
  /-- EMIT (R339): Releases at PACKAGE and appends a continuation record to a stage ring -/
  | emit (c : BitVec 1) (g : BitVec 3) (a : BitVec 7)
  /-- POST (R340): ORs A into the stage's P at the trailer -/
  | post (c : BitVec 1) (g : BitVec 3) (a : BitVec 7)
  /-- EACC (R380): Delivers the lane's value as binary64 to its draw at the trailer -/
  | eacc (c : BitVec 1) (g : BitVec 3) (a : BitVec 7) (t : BitVec 4)
  /-- KEXT (R267): Prefix that supplies 24 high bits to the next word's immediate -/
  | kext (p : BitVec 24)
  /-- IADD (R286): Adds two 32-bit integers -/
  | iadd (c : BitVec 1) (g : BitVec 3) (d : BitVec 7) (a : BitVec 7) (b : BitVec 7)
  /-- ISUB (R286): Subtracts two 32-bit integers -/
  | isub (c : BitVec 1) (g : BitVec 3) (d : BitVec 7) (a : BitVec 7) (b : BitVec 7)
  /-- IMUL (R286): Low 32 bits of an integer product -/
  | imul (c : BitVec 1) (g : BitVec 3) (d : BitVec 7) (a : BitVec 7) (b : BitVec 7)
  /-- IMAD (R286): Integer multiply-add into D -/
  | imad (c : BitVec 1) (g : BitVec 3) (d : BitVec 7) (a : BitVec 7) (b : BitVec 7)
  /-- IMULH_S32 (R286): High 32 bits of a signed product -/
  | imulhS32 (c : BitVec 1) (g : BitVec 3) (d : BitVec 7) (a : BitVec 7) (b : BitVec 7)
  /-- IMULH_N32 (R286): High 32 bits of an unsigned product -/
  | imulhN32 (c : BitVec 1) (g : BitVec 3) (d : BitVec 7) (a : BitVec 7) (b : BitVec 7)
  /-- IDIV_S32 (R287): Signed division truncated toward zero -/
  | idivS32 (c : BitVec 1) (g : BitVec 3) (d : BitVec 7) (a : BitVec 7) (b : BitVec 7)
  /-- IDIV_N32 (R287): Unsigned division -/
  | idivN32 (c : BitVec 1) (g : BitVec 3) (d : BitVec 7) (a : BitVec 7) (b : BitVec 7)
  /-- IREM_S32 (R287): Signed remainder -/
  | iremS32 (c : BitVec 1) (g : BitVec 3) (d : BitVec 7) (a : BitVec 7) (b : BitVec 7)
  /-- IREM_N32 (R287): Unsigned remainder -/
  | iremN32 (c : BitVec 1) (g : BitVec 3) (d : BitVec 7) (a : BitVec 7) (b : BitVec 7)
  /-- IMIN_S32 (R286): Signed minimum -/
  | iminS32 (c : BitVec 1) (g : BitVec 3) (d : BitVec 7) (a : BitVec 7) (b : BitVec 7)
  /-- IMIN_N32 (R286): Unsigned minimum -/
  | iminN32 (c : BitVec 1) (g : BitVec 3) (d : BitVec 7) (a : BitVec 7) (b : BitVec 7)
  /-- IMAX_S32 (R286): Signed maximum -/
  | imaxS32 (c : BitVec 1) (g : BitVec 3) (d : BitVec 7) (a : BitVec 7) (b : BitVec 7)
  /-- IMAX_N32 (R286): Unsigned maximum -/
  | imaxN32 (c : BitVec 1) (g : BitVec 3) (d : BitVec 7) (a : BitVec 7) (b : BitVec 7)
  /-- MOVI (R288): Moves a signed immediate into D -/
  | movi (c : BitVec 1) (g : BitVec 3) (d : BitVec 7) (i : BitVec 7)
  /-- MOV (R289): Copies A to D -/
  | mov (c : BitVec 1) (g : BitVec 3) (d : BitVec 7) (a : BitVec 7)
  /-- IABS (R289): Absolute value -/
  | iabs (c : BitVec 1) (g : BitVec 3) (d : BitVec 7) (a : BitVec 7)
  /-- INEG (R289): Negation -/
  | ineg (c : BitVec 1) (g : BitVec 3) (d : BitVec 7) (a : BitVec 7)
  /-- POPC (R289): Population count -/
  | popc (c : BitVec 1) (g : BitVec 3) (d : BitVec 7) (a : BitVec 7)
  /-- CLZ (R289): Count of leading zeros -/
  | clz (c : BitVec 1) (g : BitVec 3) (d : BitVec 7) (a : BitVec 7)
  /-- CTZ (R289): Count of trailing zeros -/
  | ctz (c : BitVec 1) (g : BitVec 3) (d : BitVec 7) (a : BitVec 7)
  /-- BREV (R289): Bit reversal -/
  | brev (c : BitVec 1) (g : BitVec 3) (d : BitVec 7) (a : BitVec 7)
  /-- AND (R290): Bitwise AND -/
  | andW (c : BitVec 1) (g : BitVec 3) (d : BitVec 7) (a : BitVec 7) (b : BitVec 7)
  /-- OR (R290): Bitwise OR -/
  | orW (c : BitVec 1) (g : BitVec 3) (d : BitVec 7) (a : BitVec 7) (b : BitVec 7)
  /-- XOR (R290): Bitwise XOR -/
  | xor (c : BitVec 1) (g : BitVec 3) (d : BitVec 7) (a : BitVec 7) (b : BitVec 7)
  /-- ANDN (R290): A AND NOT B -/
  | andn (c : BitVec 1) (g : BitVec 3) (d : BitVec 7) (a : BitVec 7) (b : BitVec 7)
  /-- SHL (R291): Shift left -/
  | shl (c : BitVec 1) (g : BitVec 3) (d : BitVec 7) (a : BitVec 7) (b : BitVec 7)
  /-- SHR (R291): Logical shift right -/
  | shr (c : BitVec 1) (g : BitVec 3) (d : BitVec 7) (a : BitVec 7) (b : BitVec 7)
  /-- SAR (R291): Arithmetic shift right -/
  | sar (c : BitVec 1) (g : BitVec 3) (d : BitVec 7) (a : BitVec 7) (b : BitVec 7)
  /-- ROTL (R291): Rotate left -/
  | rotl (c : BitVec 1) (g : BitVec 3) (d : BitVec 7) (a : BitVec 7) (b : BitVec 7)
  /-- BFX_N32 (R292): Unsigned bit-field extract -/
  | bfxN32 (c : BitVec 1) (g : BitVec 3) (d : BitVec 7) (a : BitVec 7) (b : BitVec 7)
  /-- BFX_S32 (R292): Signed bit-field extract -/
  | bfxS32 (c : BitVec 1) (g : BitVec 3) (d : BitVec 7) (a : BitVec 7) (b : BitVec 7)
  /-- BFI (R292): Bit-field insert into D -/
  | bfi (c : BitVec 1) (g : BitVec 3) (d : BitVec 7) (a : BitVec 7) (b : BitVec 7)
  /-- SEL (R293): Selects A or B by p1 -/
  | sel (c : BitVec 1) (g : BitVec 3) (d : BitVec 7) (a : BitVec 7) (b : BitVec 7)
  /-- ICMP (R305): Integer compare that pushes a predicate bit -/
  | icmp (c : BitVec 1) (t : BitVec 1) (cc : BitVec 3) (a : BitVec 7) (b : BitVec 7)
  /-- FCMP (R305): Floating compare that pushes a predicate bit -/
  | fcmp (c : BitVec 1) (cc : BitVec 3) (a : BitVec 7) (b : BitVec 7)
  /-- PPOP (R306): Pops the predicate register -/
  | ppop (c : BitVec 1)
  /-- PDUP (R306): Pushes a copy of p1 -/
  | pdup (c : BitVec 1)
  /-- PSWP (R306): Exchanges p1 and p2 -/
  | pswp (c : BitVec 1)
  /-- PAND (R306): Replaces p1 and p2 by their AND -/
  | pand (c : BitVec 1)
  /-- POR (R306): Replaces p1 and p2 by their OR -/
  | por (c : BitVec 1)
  /-- PXOR (R306): Replaces p1 and p2 by their XOR -/
  | pxor (c : BitVec 1)
  /-- PRD (R306): Reads the predicate register and depth into D -/
  | prd (c : BitVec 1) (d : BitVec 7)
  /-- PWR (R306): Writes the predicate register and depth from A -/
  | pwr (c : BitVec 1) (a : BitVec 7)
  /-- SRD (R313): Reads a special register into D -/
  | srd (c : BitVec 1) (g : BitVec 3) (d : BitVec 7) (s : BitVec 14)
  /-- SWR (R313): Writes a uniform value to a special register at the trailer -/
  | swr (c : BitVec 1) (g : BitVec 3) (s : BitVec 14) (a : BitVec 7)
  /-- FADD (R294): F32 addition with rounding code in the opcode -/
  | fadd (c : BitVec 1) (r : BitVec 2) (g : BitVec 3) (d : BitVec 7) (a : BitVec 7) (b : BitVec 7)
  /-- FSUB (R294): F32 subtraction -/
  | fsub (c : BitVec 1) (r : BitVec 2) (g : BitVec 3) (d : BitVec 7) (a : BitVec 7) (b : BitVec 7)
  /-- FMUL (R294): F32 multiplication -/
  | fmul (c : BitVec 1) (r : BitVec 2) (g : BitVec 3) (d : BitVec 7) (a : BitVec 7) (b : BitVec 7)
  /-- FMA (R294): Fused F32 multiply-add into D -/
  | fma (c : BitVec 1) (r : BitVec 2) (g : BitVec 3) (d : BitVec 7) (a : BitVec 7) (b : BitVec 7)
  /-- FMIN (R295): F32 minimum -/
  | fmin (c : BitVec 1) (g : BitVec 3) (d : BitVec 7) (a : BitVec 7) (b : BitVec 7)
  /-- FMAX (R295): F32 maximum -/
  | fmax (c : BitVec 1) (g : BitVec 3) (d : BitVec 7) (a : BitVec 7) (b : BitVec 7)
  /-- FSCL (R296): Scales A by a power of two -/
  | fscl (c : BitVec 1) (g : BitVec 3) (d : BitVec 7) (a : BitVec 7) (b : BitVec 7)
  /-- FRCP (R297): Correctly rounded reciprocal on a token -/
  | frcp (c : BitVec 1) (g : BitVec 3) (d : BitVec 7) (a : BitVec 7) (k : BitVec 3)
  /-- FRSQ (R297): Reciprocal square root -/
  | frsq (c : BitVec 1) (g : BitVec 3) (d : BitVec 7) (a : BitVec 7) (k : BitVec 3)
  /-- FSQRT (R297): Square root -/
  | fsqrt (c : BitVec 1) (g : BitVec 3) (d : BitVec 7) (a : BitVec 7) (k : BitVec 3)
  /-- FEX2 (R297): Power of two -/
  | fex2 (c : BitVec 1) (g : BitVec 3) (d : BitVec 7) (a : BitVec 7) (k : BitVec 3)
  /-- FLG2 (R297): Base-2 logarithm -/
  | flg2 (c : BitVec 1) (g : BitVec 3) (d : BitVec 7) (a : BitVec 7) (k : BitVec 3)
  /-- FSIN (R297): Sine of half-turns -/
  | fsin (c : BitVec 1) (g : BitVec 3) (d : BitVec 7) (a : BitVec 7) (k : BitVec 3)
  /-- FCOS (R297): Cosine of half-turns -/
  | fcos (c : BitVec 1) (g : BitVec 3) (d : BitVec 7) (a : BitVec 7) (k : BitVec 3)
  /-- FCLS (R298): Writes the class mask of A -/
  | fcls (c : BitVec 1) (g : BitVec 3) (d : BitVec 7) (a : BitVec 7) (k : BitVec 3)
  /-- CVT_S32_F32 (R299): Converts F32 to S32 -/
  | cvtS32F32 (c : BitVec 1) (g : BitVec 3) (d : BitVec 7) (a : BitVec 7) (r : BitVec 3)
  /-- CVT_N32_F32 (R299): Converts F32 to N32 -/
  | cvtN32F32 (c : BitVec 1) (g : BitVec 3) (d : BitVec 7) (a : BitVec 7) (r : BitVec 3)
  /-- CVT_F32_S32 (R299): Converts S32 to F32 -/
  | cvtF32S32 (c : BitVec 1) (g : BitVec 3) (d : BitVec 7) (a : BitVec 7) (r : BitVec 3)
  /-- CVT_F32_N32 (R299): Converts N32 to F32 -/
  | cvtF32N32 (c : BitVec 1) (g : BitVec 3) (d : BitVec 7) (a : BitVec 7) (r : BitVec 3)
  /-- CVTI (R299): Rounds an F32 to an integral F32 -/
  | cvti (c : BitVec 1) (g : BitVec 3) (d : BitVec 7) (a : BitVec 7) (r : BitVec 3)
  /-- PACK (R301): Converts A into one narrow element of D -/
  | pack (c : BitVec 1) (g : BitVec 3) (d : BitVec 7) (a : BitVec 7) (i : BitVec 7)
  /-- UNPK (R302): Decodes one narrow element of A into D -/
  | unpk (c : BitVec 1) (g : BitVec 3) (d : BitVec 7) (a : BitVec 7) (i : BitVec 7)
  /-- SHFL (R309): Shuffles A between lanes by an index temporary -/
  | shfl (c : BitVec 1) (g : BitVec 3) (d : BitVec 7) (a : BitVec 7) (t : BitVec 4) (k : BitVec 3)
  /-- VOTE (R310): Votes ALL, ANY, BALLOT or EQ over the gang's lanes -/
  | vote (c : BitVec 1) (g : BitVec 3) (d : BitVec 7) (a : BitVec 7) (f : BitVec 4) (k : BitVec 3)
  /-- REDX (R311): Reduces A over the gang's lanes -/
  | redx (c : BitVec 1) (g : BitVec 3) (d : BitVec 7) (a : BitVec 7) (f : BitVec 4) (k : BitVec 3)
  /-- SCAN (R311): Inclusive scan of A over the gang's lanes -/
  | scan (c : BitVec 1) (g : BitVec 3) (d : BitVec 7) (a : BitVec 7) (f : BitVec 4) (k : BitVec 3)
  /-- MATCH (R312): Masks of lanes with equal raw bits -/
  | matchW (c : BitVec 1) (g : BitVec 3) (d : BitVec 7) (a : BitVec 7) (k : BitVec 3)
  /-- MATCH_F (R312): Masks of lanes with equal canonical float bits -/
  | matchF (c : BitVec 1) (g : BitVec 3) (d : BitVec 7) (a : BitVec 7) (k : BitVec 3)
  /-- QUAL (R268): Prefix that gives the next memory word semantics, scope, cache policy and swizzle -/
  | qual (w : BitVec 3) (p : BitVec 3) (m : BitVec 3) (s : BitVec 3)
  /-- TRD (R356): Reads half a row or column of a tile register on a token -/
  | trd (c : BitVec 1) (g : BitVec 3) (d : BitVec 7) (a : BitVec 7) (n : BitVec 4) (k : BitVec 3)
  /-- THRD (R355): Reads a word of a tile register's header -/
  | thrd (c : BitVec 1) (g : BitVec 3) (d : BitVec 7) (a : BitVec 7) (n : BitVec 4)
  /-- THWR (R355): Writes a word of a tile register's header at the trailer -/
  | thwr (c : BitVec 1) (g : BitVec 3) (d : BitVec 7) (a : BitVec 7) (n : BitVec 4)
  /-- SCRD (R357): Reads a scale register -/
  | scrd (c : BitVec 1) (g : BitVec 3) (d : BitVec 7) (n : BitVec 3)
  /-- SCWR (R357): Writes a scale register at the trailer -/
  | scwr (c : BitVec 1) (g : BitVec 3) (d : BitVec 7) (n : BitVec 3)
  /-- TALLOC (R353): Maps a tile name to a free register and pushes success -/
  | talloc (c : BitVec 1) (n : BitVec 4)
  /-- TFREE (R353): Waits for tasks naming the tile, then zeroes and unmaps it -/
  | tfree (c : BitVec 1) (g : BitVec 3) (n : BitVec 4)
  /-- TWR (R356): Writes half a row or column of a tile register at the trailer -/
  | twr (c : BitVec 1) (g : BitVec 3) (d : BitVec 7) (a : BitVec 7) (n : BitVec 4)
  /-- TQ (R359): Checks a tile-task record and queues it on the Anvil -/
  | tq (c : BitVec 1) (g : BitVec 3) (a : BitVec 7) (q : BitVec 3) (l : BitVec 3)
  /-- PADD_B4 (R303): Packed 8-bit add -/
  | paddB4 (c : BitVec 1) (g : BitVec 3) (d : BitVec 7) (a : BitVec 7) (b : BitVec 7)
  /-- PSUB_B4 (R303): Packed 8-bit subtract -/
  | psubB4 (c : BitVec 1) (g : BitVec 3) (d : BitVec 7) (a : BitVec 7) (b : BitVec 7)
  /-- PMUL_B4 (R303): Packed 8-bit multiply -/
  | pmulB4 (c : BitVec 1) (g : BitVec 3) (d : BitVec 7) (a : BitVec 7) (b : BitVec 7)
  /-- PMIN_B4 (R303): Packed 8-bit signed minimum -/
  | pminB4 (c : BitVec 1) (g : BitVec 3) (d : BitVec 7) (a : BitVec 7) (b : BitVec 7)
  /-- PMAX_B4 (R303): Packed 8-bit signed maximum -/
  | pmaxB4 (c : BitVec 1) (g : BitVec 3) (d : BitVec 7) (a : BitVec 7) (b : BitVec 7)
  /-- PSHL_B4 (R303): Packed 8-bit shift left -/
  | pshlB4 (c : BitVec 1) (g : BitVec 3) (d : BitVec 7) (a : BitVec 7) (b : BitVec 7)
  /-- PSHR_B4 (R303): Packed 8-bit logical shift right -/
  | pshrB4 (c : BitVec 1) (g : BitVec 3) (d : BitVec 7) (a : BitVec 7) (b : BitVec 7)
  /-- PSAR_B4 (R303): Packed 8-bit arithmetic shift right -/
  | psarB4 (c : BitVec 1) (g : BitVec 3) (d : BitVec 7) (a : BitVec 7) (b : BitVec 7)
  /-- PADD_H2 (R303): Packed 16-bit add -/
  | paddH2 (c : BitVec 1) (g : BitVec 3) (d : BitVec 7) (a : BitVec 7) (b : BitVec 7)
  /-- PSUB_H2 (R303): Packed 16-bit subtract -/
  | psubH2 (c : BitVec 1) (g : BitVec 3) (d : BitVec 7) (a : BitVec 7) (b : BitVec 7)
  /-- PMUL_H2 (R303): Packed 16-bit multiply -/
  | pmulH2 (c : BitVec 1) (g : BitVec 3) (d : BitVec 7) (a : BitVec 7) (b : BitVec 7)
  /-- PMIN_H2 (R303): Packed 16-bit signed minimum -/
  | pminH2 (c : BitVec 1) (g : BitVec 3) (d : BitVec 7) (a : BitVec 7) (b : BitVec 7)
  /-- PMAX_H2 (R303): Packed 16-bit signed maximum -/
  | pmaxH2 (c : BitVec 1) (g : BitVec 3) (d : BitVec 7) (a : BitVec 7) (b : BitVec 7)
  /-- PSHL_H2 (R303): Packed 16-bit shift left -/
  | pshlH2 (c : BitVec 1) (g : BitVec 3) (d : BitVec 7) (a : BitVec 7) (b : BitVec 7)
  /-- PSHR_H2 (R303): Packed 16-bit logical shift right -/
  | pshrH2 (c : BitVec 1) (g : BitVec 3) (d : BitVec 7) (a : BitVec 7) (b : BitVec 7)
  /-- PSAR_H2 (R303): Packed 16-bit arithmetic shift right -/
  | psarH2 (c : BitVec 1) (g : BitVec 3) (d : BitVec 7) (a : BitVec 7) (b : BitVec 7)
  /-- LD_8 (R322): Loads a zero-extended byte on a token -/
  | ld8 (c : BitVec 1) (g : BitVec 3) (d : BitVec 7) (b : BitVec 7) (o : BitVec 4) (k : BitVec 3)
  /-- LD_8S (R322): Loads a sign-extended byte -/
  | ld8s (c : BitVec 1) (g : BitVec 3) (d : BitVec 7) (b : BitVec 7) (o : BitVec 4) (k : BitVec 3)
  /-- LD_16 (R322): Loads a zero-extended halfword -/
  | ld16 (c : BitVec 1) (g : BitVec 3) (d : BitVec 7) (b : BitVec 7) (o : BitVec 4) (k : BitVec 3)
  /-- LD_16S (R322): Loads a sign-extended halfword -/
  | ld16s (c : BitVec 1) (g : BitVec 3) (d : BitVec 7) (b : BitVec 7) (o : BitVec 4) (k : BitVec 3)
  /-- LD_32 (R322): Loads a word -/
  | ld32 (c : BitVec 1) (g : BitVec 3) (d : BitVec 7) (b : BitVec 7) (o : BitVec 4) (k : BitVec 3)
  /-- LD_64 (R322): Loads a doubleword into a register pair -/
  | ld64 (c : BitVec 1) (g : BitVec 3) (d : BitVec 7) (b : BitVec 7) (o : BitVec 4) (k : BitVec 3)
  /-- LD_128 (R322): Loads 16 bytes into four registers -/
  | ld128 (c : BitVec 1) (g : BitVec 3) (d : BitVec 7) (b : BitVec 7) (o : BitVec 4) (k : BitVec 3)
  /-- PREF (R333): Prefetches a line into L1 and L2 -/
  | pref (c : BitVec 1) (g : BitVec 3) (b : BitVec 7) (o : BitVec 4)
  /-- PREF_L2 (R333): Prefetches a line into the L2 slice only -/
  | prefL2 (c : BitVec 1) (g : BitVec 3) (b : BitVec 7) (o : BitVec 4)
  /-- EVCT (R333): Evicts an unread V line from the L1 -/
  | evct (c : BitVec 1) (g : BitVec 3) (b : BitVec 7) (o : BitVec 4)
  /-- EVCT_L2 (R333): Evicts a line from the L2 slice -/
  | evctL2 (c : BitVec 1) (g : BitVec 3) (b : BitVec 7) (o : BitVec 4)
  /-- ST_8 (R326): Stores a byte at the trailer -/
  | st8 (c : BitVec 1) (g : BitVec 3) (s : BitVec 7) (b : BitVec 7) (o : BitVec 4)
  /-- ST_16 (R326): Stores a halfword -/
  | st16 (c : BitVec 1) (g : BitVec 3) (s : BitVec 7) (b : BitVec 7) (o : BitVec 4)
  /-- ST_32 (R326): Stores a word -/
  | st32 (c : BitVec 1) (g : BitVec 3) (s : BitVec 7) (b : BitVec 7) (o : BitVec 4)
  /-- ST_64 (R326): Stores a doubleword -/
  | st64 (c : BitVec 1) (g : BitVec 3) (s : BitVec 7) (b : BitVec 7) (o : BitVec 4)
  /-- ST_128 (R326): Stores 16 bytes -/
  | st128 (c : BitVec 1) (g : BitVec 3) (s : BitVec 7) (b : BitVec 7) (o : BitVec 4)
  /-- ATOM (R329): Atomic read-modify-write returning the old value -/
  | atom (c : BitVec 1) (g : BitVec 3) (d : BitVec 7) (b : BitVec 7) (o : BitVec 4) (t : BitVec 3)
  /-- CAS (R330): Compare and swap returning the old value -/
  | cas (c : BitVec 1) (g : BitVec 3) (d : BitVec 7) (b : BitVec 7) (t : BitVec 3)
  /-- RED (R331): Atomic update without a result -/
  | red (c : BitVec 1) (g : BitVec 3) (d : BitVec 7) (b : BitVec 7) (o : BitVec 4) (t : BitVec 3)
  /-- LDS_8 (R327): Loads a scratchpad byte on a token -/
  | lds8 (c : BitVec 1) (g : BitVec 3) (d : BitVec 7) (b : BitVec 7) (w : BitVec 3) (f : BitVec 1) (k : BitVec 3)
  /-- LDS_16 (R327): Loads a scratchpad halfword -/
  | lds16 (c : BitVec 1) (g : BitVec 3) (d : BitVec 7) (b : BitVec 7) (w : BitVec 3) (f : BitVec 1) (k : BitVec 3)
  /-- LDS_32 (R327): Loads a scratchpad word -/
  | lds32 (c : BitVec 1) (g : BitVec 3) (d : BitVec 7) (b : BitVec 7) (w : BitVec 3) (f : BitVec 1) (k : BitVec 3)
  /-- LDS_64 (R327): Loads a scratchpad doubleword -/
  | lds64 (c : BitVec 1) (g : BitVec 3) (d : BitVec 7) (b : BitVec 7) (w : BitVec 3) (f : BitVec 1) (k : BitVec 3)
  /-- LDS_128 (R327): Loads 16 scratchpad bytes -/
  | lds128 (c : BitVec 1) (g : BitVec 3) (d : BitVec 7) (b : BitVec 7) (w : BitVec 3) (f : BitVec 1) (k : BitVec 3)
  /-- STS_8 (R327): Stores a scratchpad byte at the trailer -/
  | sts8 (c : BitVec 1) (g : BitVec 3) (s : BitVec 7) (b : BitVec 7) (w : BitVec 3) (f : BitVec 1)
  /-- STS_16 (R327): Stores a scratchpad halfword -/
  | sts16 (c : BitVec 1) (g : BitVec 3) (s : BitVec 7) (b : BitVec 7) (w : BitVec 3) (f : BitVec 1)
  /-- STS_32 (R327): Stores a scratchpad word -/
  | sts32 (c : BitVec 1) (g : BitVec 3) (s : BitVec 7) (b : BitVec 7) (w : BitVec 3) (f : BitVec 1)
  /-- STS_64 (R327): Stores a scratchpad doubleword -/
  | sts64 (c : BitVec 1) (g : BitVec 3) (s : BitVec 7) (b : BitVec 7) (w : BitVec 3) (f : BitVec 1)
  /-- STS_128 (R327): Stores 16 scratchpad bytes -/
  | sts128 (c : BitVec 1) (g : BitVec 3) (s : BitVec 7) (b : BitVec 7) (w : BitVec 3) (f : BitVec 1)
  /-- COPY (R370): Issues a copy command recorded as aliases at the homes -/
  | copy (c : BitVec 1) (g : BitVec 3) (a : BitVec 7) (q : BitVec 3) (l : BitVec 3)
  /-- RLAY (R371): Issues a relayout command recorded as transformed aliases -/
  | rlay (c : BitVec 1) (g : BitVec 3) (a : BitVec 7) (q : BitVec 3) (l : BitVec 3)
  /-- MATL (R372): Materialises every alias entry over a destination range -/
  | matl (c : BitVec 1) (g : BitVec 3) (a : BitVec 7) (q : BitVec 3) (l : BitVec 3)
  /-- GATH (R373): Gathers indexed elements to a destination -/
  | gath (c : BitVec 1) (g : BitVec 3) (a : BitVec 7) (q : BitVec 3) (l : BitVec 3)
  /-- SCAT (R373): Scatters elements to indexed positions -/
  | scat (c : BitVec 1) (g : BitVec 3) (a : BitVec 7) (q : BitVec 3) (l : BitVec 3)
  /-- SCAT_ACC (R373): Scatters with atomic accumulation into indexed elements -/
  | scatAcc (c : BitVec 1) (g : BitVec 3) (a : BitVec 7) (q : BitVec 3) (l : BitVec 3)
  /-- COLL (R377): Issues a collective to the stack's collective engine -/
  | coll (c : BitVec 1) (g : BitVec 3) (a : BitVec 7) (q : BitVec 3) (l : BitVec 3)
  /-- CPYQ (R374): Kicks the request engine with a list of command blocks -/
  | cpyq (c : BitVec 1) (g : BitVec 3) (a : BitVec 7) (b : BitVec 7) (q : BitVec 3) (l : BitVec 3)
  /-- PACKAGE_RESET (R19): Package reset is asserted or released; registers return to reset values and boot begins on release -/
  | packageReset
  /-- RAIL_OUT_OF_LIMITS (R19): A supply rail leaves its limits and the package holds its reset asserted -/
  | railOutOfLimits
  /-- RAIL_SETTLED_TIMER (R19): A rail has been within its limits for 1 ms, and the held reset is released -/
  | railSettledTimer
  /-- ISLAND_WRITE (R21): A write to ISLANDi is accepted or ignored as a whole; an accepted change starts and sets BUSY -/
  | islandWrite
  /-- ISLAND_CHANGE_COMPLETE (R21): An island's voltage or frequency change completes after the rail settles, and BUSY clears -/
  | islandChangeComplete
  /-- TCOL_SAMPLE (R23): Every 1,000 reference ticks the three sensors of a column are sampled and published in TCOL, setting VALID and HOT -/
  | tcolSample
  /-- THERMAL_THROTTLE (R24): A reading of 110 °C or more lowers the column's quadrant to its floor frequency within 20 µs, setting THROT -/
  | thermalThrottle
  /-- TCOL_HOT_CLEAR (R23): A write of 1 to HOT of a TCOL register clears it unless a reading is still at or above 105 °C -/
  | tcolHotClear
  /-- FLIT_SEND (R26): A Holt port or bridge sends one encrypted 256-byte flit and raises its direction's flit counter -/
  | flitSend
  /-- FLIT_RECEIVE (R26): A received flit is verified under the expected counter; a good flit is delivered, a bad one discarded -/
  | flitReceive
  /-- FLIT_REPLAY (R26): The sender receives a replay request and resends the same ciphertext under the same counter value -/
  | flitReplay
  /-- KEY_UPDATE_START (R27): A direction's flit counter reaches 2^62 - 2^32 and the port starts a key update -/
  | keyUpdateStart
  /-- KEY_EXPIRE (R27): A flit counter reaches 2^62 with the key not replaced; the key expires and the port goes to DRAIN -/
  | keyExpire
  /-- LINK_PEER_DETECTED (R28): With reset released, a peer is detected on a DOWN port or bridge and lane training begins -/
  | linkPeerDetected
  /-- LINK_TRAINING_COMPLETE (R28): Lane training completes and the link goes to KEYING to open an SPDM 1.3 session -/
  | linkTrainingComplete
  /-- LINK_TRAINING_TIMEOUT (R28): Training has not succeeded after 100 ms; the link returns to DOWN and the failure is reported -/
  | linkTrainingTimeout
  /-- LINK_SESSION_ESTABLISHED (R28): An SPDM session is established and keys installed; the link goes to UP with counters zero -/
  | linkSessionEstablished
  /-- LINK_KEYING_FAIL (R28): The SPDM session fails during KEYING; the link goes DOWN and LINKDOWN is logged -/
  | linkKeyingFail
  /-- LINK_KEYING_TIMEOUT (R28): No session is established within 1 s of KEYING; the link goes DOWN and LINKDOWN is logged -/
  | linkKeyingTimeout
  /-- LINK_SESSION_ATTEMPT_FAIL (R28): A new session attempt in REFUSE fails; LINKDOWN is logged and the state stays REFUSE -/
  | linkSessionAttemptFail
  /-- LINK_RETRY_TIMER (R28): One second after a failed attempt in REFUSE, the neighbours try a new session again -/
  | linkRetryTimer
  /-- KEY_UPDATE_COMPLETE (R28): A key update completes in UP; the new key takes effect at the next flit and counters reset -/
  | keyUpdateComplete
  /-- LINK_SESSION_EXPIRE (R28): The link session expires in UP; the link goes to DRAIN and sends no new flit -/
  | linkSessionExpire
  /-- LINK_DRAIN_COMPLETE (R28): Every flit sent under the old key has been received or discarded, and the link goes to REFUSE -/
  | linkDrainComplete
  /-- LINK_PORT_RESET (R28): System software resets a port or bridge, which returns to DOWN -/
  | linkPortReset
  /-- HOST_LINK_TRAINING_COMPLETE (R32): A host port completes training as a CXL port or, without 256-byte flits, as a CXL.io-only PCIe endpoint -/
  | hostLinkTrainingComplete
  /-- HDMBASE_WRITE (R33): A write to HDMBASE sets the HDM-DB range base, ignored while an HDM decoder is committed -/
  | hdmbaseWrite
  /-- HDMSIZE_WRITE (R33): A write to HDMSIZE sets the HDM-DB range size, ignored while an HDM decoder is committed -/
  | hdmsizeWrite
  /-- CXLMEM_REQUEST (R33): A host CXL.mem request to the HDM range is homed at its MSC slice and served there -/
  | cxlmemRequest
  /-- REGISTER_WRITE (R34): A write to a management-window register without behaviour of its own stores its writable fields; unassigned offsets ignore it -/
  | registerWrite
  /-- HARTID_WRITE (R37): A write to HARTID sets the hart identifier, ignored while a direct-mode context is live -/
  | hartidWrite
  /-- BRIDGE_PACKAGE_READ (R38): A package read of an I half makes the bridge send RdShared for that half -/
  | bridgePackageRead
  /-- BRIDGE_PACKAGE_STORE (R38): A package store to a host half sends RdOwn from I or S, or moves E to M silently -/
  | bridgePackageStore
  /-- BRIDGE_GRANT (R39): A RdShared or RdOwn grant arrives, sets the half's state and applies any waiting store -/
  | bridgeGrant
  /-- BRIDGE_MSC_EVICTION (R38): A host line is evicted from its MSC slice and each valid half sends its clean or dirty evict -/
  | bridgeMscEviction
  /-- HOST_SNPINV (R38): A host SnpInv removes the line from every L2 sharer, sets the half to I and answers -/
  | hostSnpinv
  /-- HOST_SNPDATA (R38): A host SnpData demotes an E or M half to S and answers with data if it was M -/
  | hostSnpdata
  /-- HOST_SNPCUR (R38): A host SnpCur leaves the half unchanged and answers with data if it is M -/
  | hostSnpcur
  /-- TENANT_MODES_WRITE (R41): A write of MODES takes effect, or is rejected with BUSY while the tenant has a live context or queued launch -/
  | tenantModesWrite
  /-- TENANT_SET_ON (R53): A write of STATE ON is accepted after the range and function checks, or logs BADTEN and leaves OFF -/
  | tenantSetOn
  /-- TENANT_SET_OFF (R53): A write of STATE OFF takes effect, is ignored while the tenant is busy, or clears DEAD once queues are closed -/
  | tenantSetOff
  /-- TENANT_RECORD_WRITE (R52): A write to other tenant-record fields is stored while STATE is OFF and ignored while it is ON -/
  | tenantRecordWrite
  /-- HREQBASE_WRITE (R44): Firmware places the request ring, ignored after READY or for a granule not homed at its slice -/
  | hreqbaseWrite
  /-- HFLTBASE_WRITE (R44): Firmware places the fault ring, ignored after READY or for a granule not homed at its slice -/
  | hfltbaseWrite
  /-- HREQHEAD_WRITE (R44): Firmware advances HREQHEAD past answered entries, freeing request-ring places for waiting lanes -/
  | hreqheadWrite
  /-- HFLTHEAD_WRITE (R44): Firmware advances HFLTHEAD, freeing fault-ring places for entries waiting in the arbiter -/
  | hfltheadWrite
  /-- HEARTH_RESTART (R72): A Hearth core restarts from the pinned image; keyed unanswered entries are reissued and unkeyed ones get LOST -/
  | hearthRestart
  /-- BOOT_START (R49): The boot ROM extends MEAS0 and reads and checks the boot locator, extending MEAS1 -/
  | bootStart
  /-- BOOT_CXL_READY (R49): Host port 0 offers CXL.cache and the ROM fetches the image header -/
  | bootCxlReady
  /-- BOOT_CXL_TIMEOUT (R49): Host port 0 has not offered CXL.cache within 10 s; boot fails with code 2 -/
  | bootCxlTimeout
  /-- BOOT_HEADER_FETCHED (R49): The image header arrives and is checked for layout, root key, signature and SVN, then MEAS2 is extended -/
  | bootHeaderFetched
  /-- BOOT_BODY_FETCHED (R49): The body is read into pinned MSC lines and checked, MEAS3 is extended, SVN written and the Hearth cores released -/
  | bootBodyFetched
  /-- MEAS_EXTEND (R48): Firmware extends MEAS4 to MEAS7 before READY -/
  | measExtend
  /-- FIRMWARE_READY (R49): The firmware completes start-up and sets READY, freezing the measurements and ring CSRs -/
  | firmwareReady
  /-- IMAGE_LINE_UE (R51): An uncorrectable error in a pinned image line sets RECOV, halts the Hearth cores and rereads the body -/
  | imageLineUe
  /-- RECOVERY_RELOAD_COMPLETE (R51): The reread body is compared with BODYHASH; the cores resume, or FAIL becomes 8 and they stay halted -/
  | recoveryReloadComplete
  /-- DOORBELL_SET_TAIL (R55): A doorbell CMD 0 sets the queue's TAIL, or is ignored with BADBELL -/
  | doorbellSetTail
  /-- DOORBELL_OPEN (R55): A doorbell CMD 1 opens an OFF queue after its descriptor checks, or logs BADBELL -/
  | doorbellOpen
  /-- DOORBELL_CLOSE (R60): A doorbell CMD 2 closes the queue to OFF; dispatched launches run on -/
  | doorbellClose
  /-- DOORBELL_CMD3 (R55): A doorbell CMD 3 is ignored -/
  | doorbellCmd3
  /-- LAUNCH_RECORD (R60): The Reeve reads a launch record, checks its tag and sequence, checks it under R58 and dispatches or drops it -/
  | launchRecord
  /-- CONTROL_RECORD (R60): A KIND 4 record with a valid tag resynchronises the queue if CTLNUM exceeds CTLSEQ, or is dropped as REPLAY -/
  | controlRecord
  /-- QUEUE_HEAD_RETRY (R78): A record held at its queue head for a world number, launch-table entry or save block dispatches once the resource frees -/
  | queueHeadRetry
  /-- LAUNCH_COMPLETE (R62): A dispatched launch ends; the release at RELS is performed, the completion record written and COMPLETE logged -/
  | launchComplete
  /-- HEARTBEAT_REQUEST (R92): An SPDM HEARTBEAT request arrives and restarts the tenant's heartbeat time-out -/
  | heartbeatRequest
  /-- HEARTBEAT_TIMEOUT (R92): No heartbeat for 2P while a launch is dispatched; queues and tenant go DEAD, worlds end, slots are zeroised -/
  | heartbeatTimeout
  /-- KEY_INSTALL (R75): A KEY_INSTALL request loads the lowest EMPTY slot and returns a sealed key handle, or NOSLOT -/
  | keyInstall
  /-- KEY_REMOVE (R76): A KEY_REMOVE request zeroises an unused slot, moves a used one to REMOVING, or is refused -/
  | keyRemove
  /-- WORLD_RETIRE (R88): A world's last TCB ends; dirty lines are sealed, aliases materialised, the release performed and the scrub started -/
  | worldRetire
  /-- WORLD_SCRUB_COMPLETE (R88): A world's scrub completes; its completion record is written, its number freed and its slot's USERS lowered -/
  | worldScrubComplete
  /-- WORLD_ABORT (R89): A world ends abnormally; threads stop at their next yield, dirty lines are discarded and the scrub follows -/
  | worldAbort
  /-- TDISP_LEAVE_RUN (R91): A TDISP interface leaves RUN; transactions are refused, writes dropped, TDIEND logged and bound worlds end -/
  | tdispLeaveRun
  /-- L1_FILL_RETURN (R99): A line fetched for an L1 load miss arrives and the line becomes V -/
  | l1FillReturn
  /-- L1_UPDATE (R99): A write update reaches an L1 line, which applies, queues or freezes it and acknowledges -/
  | l1Update
  /-- L1_INVALIDATION (R156): An invalidation reaches an L1 line, which goes to I, queues it or freezes, and acknowledges -/
  | l1Invalidation
  /-- DIR_READ_MISS (R101): A read miss reaches an L2 slice, which registers the core in the directory entry and sends the line -/
  | dirReadMiss
  /-- DIR_STORE (R101): A store or atomic at an L2 slice updates every targeted core and sets the acknowledgement count -/
  | dirStore
  /-- DIR_ACK (R101): An APPLIED or ABSENT acknowledgement lowers a store's count; at 0 the store is acknowledged toward the writer -/
  | dirAck
  /-- DIR_EVICTION_NOTICE (R101): An eviction notice removes the core from a pointer-form entry and leaves a coarse entry unchanged -/
  | dirEvictionNotice
  /-- L2_VICTIM (R101): A line chosen as an L2 victim is invalidated at every target and its entry freed when all acknowledge -/
  | l2Victim
  /-- HOME_STORE (R103): A store from a requester-side copy reaches its home, which applies it and updates every other L2 sharer -/
  | homeStore
  /-- L2_HOME_UPDATE (R103): An update from the home reaches an L2 slice, which applies it or discards it and updates its L1 sharers -/
  | l2HomeUpdate
  /-- HOME_ACK (R103): The home acknowledges a store to the writer's slice once all L2 sharers have acknowledged -/
  | homeAck
  /-- STORE_ACK (R150): A store acknowledgement at a scope reaches the writer's core, letting waiting releases complete -/
  | storeAck
  /-- MSC_VICTIM (R102): A line chosen as an MSC victim first invalidates every L2 sharer and takes the source-write steps -/
  | mscVictim
  /-- WORLD_LINE_HANDOVER (R104): A world access from another slice makes the holding slice seal, write back and hand over the line -/
  | worldLineHandover
  /-- STORE_ENTRY_DRAIN_COMPLETE (R97): A store that found all 16 entries in use proceeds once the forced boundary and releases have drained them -/
  | storeEntryDrainComplete
  /-- RELEASE_COMPLETE (R153): Every drained and earlier strong store of a thread is acknowledged at the scope, completing its release -/
  | releaseComplete
  /-- SOFT_ERROR (R105): A soft error is detected in a stored structure and is corrected, refetched or marked poison, and logged -/
  | softError
  /-- PATROL_SCRUB (R106): Every 24 hours the Cellar, MSC slices and HBM are patrol-scrubbed, rewriting corrected words -/
  | patrolScrub
  /-- HSCTL_WRITE (R109): A write to HSCTL enables or disables page-hotness sampling or moves RIDX -/
  | hsctlWrite
  /-- ALIAS_RECORD (R117): A copy piece arrives at its destination home, which records an alias entry or copies eagerly -/
  | aliasRecord
  /-- ALIAS_RESOLVE (R120): A home holding an entry over a source sets HOLD and composes or materialises it for the resolution -/
  | aliasResolve
  /-- ALIAS_RESOLVE_REPLY (R117): The resolution reply reaches the destination home, which checks the limit and sends MARK messages -/
  | aliasResolveReply
  /-- MARK (R117): MARK at a source home sets the destination home's bit in DEPH and replies MARKED -/
  | mark
  /-- MARKED (R117): A MARKED reply reaches the destination home; after the last it releases HOLD, invalidates sharers and installs the entry -/
  | marked
  /-- HOLD_RELEASE (R117): A home releases HOLD on its entries and reports whether they became STALE -/
  | holdRelease
  /-- SRCW (R118): SRCW at a dependent home materialises every entry whose source touches the line and replies SRCACK -/
  | srcw
  /-- SRCACK (R118): The last SRCACK reaches the source home, which clears DEPH and applies the waiting write -/
  | srcack
  /-- HOT_MATERIALISE (R121): In idle mesh cycles a home materialises entries queued as hot, raising HOTMAT -/
  | hotMaterialise
  /-- CATCTL_WRITE (R113): A write to CATCTL sets LIMIT, capped at 8,192, and HOT -/
  | catctlWrite
  /-- PAGE_WALK_COMPLETE (R131): A translation walk completes, installing the translation with A and D updated, or faulting -/
  | pageWalkComplete
  /-- FAULT_ENTRY_WAIT_FREE (R135): A fault that found no free entry opens one when an entry frees, and its threads restart or its poison is written -/
  | faultEntryWaitFree
  /-- FREPLY_RETRY (R140): FREPLY RETRY refills poisoned registers, frees the entry and restarts waiting threads, or is recorded for a saved gang -/
  | freplyRetry
  /-- FREPLY_KILL (R140): FREPLY KILL ends the launch with FAULT at once and discards its saved groups -/
  | freplyKill
  /-- ATS_TRANSLATION_COMPLETION (R142): An ATS translation completion arrives; it installs a translation, or opens a fault entry and sends a page request -/
  | atsTranslationCompletion
  /-- PRG_RESPONSE (R142): A page request group response answers its fault entry with RETRY, or with ATSDENY to the servicer -/
  | prgResponse
  /-- ATS_INVALIDATION_REQUEST (R143): A host invalidation request starts the removal and drain of R145 for the matching translations -/
  | atsInvalidationRequest
  /-- SHOOTDOWN_START (R144): A write to SDCTL starts a TLB shootdown, or logs SDBUSY while BUSY is set -/
  | shootdownStart
  /-- SHOOTDOWN_DRAIN_COMPLETE (R145): All accesses through removed translations have completed; the acknowledgement or completion is sent and BUSY clears -/
  | shootdownDrainComplete
  /-- DTINV_WRITE (R146): A write to DTINV queues a device-half invalidation; when drained it logs INVDONE -/
  | dtinvWrite
  /-- REGION_WRITEBACK (R148): A written region line with WB = 1 is written back lazily as plain stores -/
  | regionWriteback
  /-- TCB_PLACE (R169): The Reeve places a TCB on the coolest eligible cluster task queue with room -/
  | tcbPlace
  /-- TCB_BIND (R170): A cluster scheduler binds the first fitting TCB to gang slots, scratchpad, tiles and save blocks -/
  | tcbBind
  /-- STEAL_REQUEST (R172): An idle cluster with 32 free gang slots sends a steal request to its next victim -/
  | stealRequest
  /-- STEAL_SERVE (R172): A victim ships half of its eligible unpinned QUEUED TCBs from its tail with their parameters -/
  | stealServe
  /-- STEAL_RETRY_TIMER (R172): A thief that received nothing retries after 4,096 cycles -/
  | stealRetryTimer
  /-- PREEMPT_TIMER (R173): A launch has waited 100 µs for gang slots while lower-class gangs are bound; one group is chosen for pre-emption -/
  | preemptTimer
  /-- PREEMPT_SAVE (R174): Once a pre-empted group's threads, tokens and tasks are done it is saved, freed and returned as PREEMPTED -/
  | preemptSave
  /-- GROUP_RESTORE (R177): An eligible saved group is placed and loaded, recorded replies applied and SVCWAIT lanes with replies made runnable -/
  | groupRestore
  /-- GANG_PARK (R386): A group whose threads all wait on service, faults or joins is parked off-core and saved -/
  | gangPark
  /-- RUN_START (R178): The picker forms an issue group at a run start and the run begins -/
  | runStart
  /-- TOKEN_COMPLETE (R206): A token's result is written in every lane and the token frees, readying threads that await it -/
  | tokenComplete
  /-- ATOMIC_RETURN (R329): An atomic returns and writes the old value to D -/
  | atomicReturn
  /-- WATCHDOG_EXPIRE (R216): A thread's count of committed words since its last yield exceeds 256 times its deadline; the launch ends WATCHDOG -/
  | watchdogExpire
  /-- ARRIVAL_DELIVERY (R220): A completed command delivers bytes to an arrival word, advancing its generation and satisfying WAITs -/
  | arrivalDelivery
  /-- WAIT_TIMEOUT (R221): A WAIT's reference-tick timeout elapses and it commits with 0xFFFF_FFFF -/
  | waitTimeout
  /-- GRAPH_GANG_FORM (R181): The Reeve gathers 32 stage records with equal EOFF into a gang and binds it -/
  | graphGangForm
  /-- PARTIAL_GANG_TIMER (R181): A partial gang is bound once its oldest record has waited 16,384 mesh cycles -/
  | partialGangTimer
  /-- REBALANCE_TIMER (R181): Every 1,024 mesh cycles the Reeve moves gang slots between stages by occupancy -/
  | rebalanceTimer
  /-- WAVE_END (R182): A graph wave ends; the Reeve activates branch stages, logs GWAVE, or completes the graph -/
  | waveEnd
  /-- GSTEP_WRITE (R183): A write to GSTEP activates a stage of a waiting graph or completes it -/
  | gstepWrite
  /-- GSTEP_WAVE_TIMER (R183): The next wave starts 1 µs after the last GSTEP write for the context -/
  | gstepWaveTimer
  /-- CONTRIBUTION_ARRIVE (R189): A draw's contribution or empty end reaches the Reeve's window and ready draws are folded in order -/
  | contributionArrive
  /-- STOP_ARRIVE (R191): STOP reaches a cluster and each draw at or above K is discarded, removed, cancelled or left to run -/
  | stopArrive
  /-- ESTSEL_WRITE (R190): A write to ESTSEL latches a snapshot of the named context's estimator into ESTSNAP -/
  | estselWrite
  /-- SVC_REPLY (R70): A service writes a reply into the reply area, resuming the lane or keeping it for application at restore -/
  | svcReply
  /-- ANVIL_STEP (R362): The Anvil reads and checks a task's headers, then computes one 64 × 64 output step of an eligible task -/
  | anvilStep
  /-- TILE_TASK_COMPLETE (R365): A tile task's last step is written and acknowledged; its queue entry frees and its arrival word is delivered -/
  | tileTaskComplete
  /-- ENGINE_COMMAND_COMPLETE (R369): An engine command completes after its release, delivering to its arrival word and freeing its slot -/
  | engineCommandComplete
  /-- CPYQ_ENTRY_START (R374): The request engine reads and starts the next entry of a request list -/
  | cpyqEntryStart
  /-- COLL_MATCH (R377): Every rank of a collective has issued its CTAG; the engines exchange data and headers -/
  | collMatch
  /-- COLL_COMPLETE (R377): A collective writes every rank's DST and completes, or ends with COLLFAULT on a header mismatch -/
  | collComplete
  /-- SVCRING_WRITE (R382): A write to SVCRING places or enables the tenant's host service ring -/
  | svcringWrite
  /-- SVCHEAD_WRITE (R384): The daemon writes SVCHEAD to report host-ring consumption, freeing places for waiting lanes -/
  | svcheadWrite
  /-- SVRPLY_WRITE (R385): The daemon writes reply bytes into SVRPLY, or a bad width or alignment logs BADREPLY -/
  | svrplyWrite
  /-- SVRGO (R385): A write to SVRGO takes the staged reply, checks it and applies it to the calling thread, or logs BADREPLY -/
  | svrgo
  /-- PLACEPIN_WRITE (R388): A write to a placement pin sets the core, group and queue that later launches are pinned to -/
  | placepinWrite
  /-- NBCTL_WRITE (R390): A write to NBCTL places and enables the notice board, zeroing its status fields and ring -/
  | nbctlWrite
  /-- NB_ATTACH (R397): ATTACH arms the board for the next launch dispatched from the named queue -/
  | nbAttach
  /-- NB_SETBP (R399): SETBP sets a breakpoint slot at a packet of the held launch -/
  | nbSetbp
  /-- NB_CLRBP (R393): CLRBP clears a breakpoint slot -/
  | nbClrbp
  /-- NB_SETWP (R400): SETWP sets a scratchpad watchpoint slot for a gang or for every gang -/
  | nbSetwp
  /-- NB_CLRWP (R393): CLRWP clears a watchpoint slot -/
  | nbClrwp
  /-- NB_HALT (R401): HALT sets a gang's halt state; HALTED is written once its threads are all stopped or parked -/
  | nbHalt
  /-- NB_STEP (R402): STEP releases a gang's stopped threads for exactly one run each, then writes STEPPED -/
  | nbStep
  /-- NB_RESUME (R403): RESUME clears a gang's halt state and retries its stop sets -/
  | nbResume
  /-- NB_DETACH (R397): DETACH resumes every gang, clears breakpoints and watchpoints and ends the attachment -/
  | nbDetach
  /-- NB_BADCMD (R394): A command with OPC 0 or above 9 is acknowledged with BADCMD and changes nothing -/
  | nbBadcmd
  /-- TDISP_ENTER_RUN (R91): A host TDISP request moves a host-port function's interface into the RUN state -/
  | tdispEnterRun
  /-- SPDM_KEY_EXCHANGE (R92): A tenant's SPDM 1.3 secured session is established through a function's DOE mailbox, and KEY_EXCHANGE_RSP carries the heartbeat period HBP -/
  | spdmKeyExchange
  /-- HDM_DECODER_COMMIT (R33): System software commits or uncommits an HDM decoder of a host port -/
  | hdmDecoderCommit
deriving DecidableEq, Repr

end Sys2Proof
end

