-- ==== Sys2Proof/WellFormed.lean ====
section
/-! DEFINITION. Well-formed instructions: the word-local reserved values of R10, R206, R228, R261, R262, R268, R272, R276 to R280,
R317, R322, R326, R329, R330, R331, R336 and R380. What depends on the run or on the launch (prefixes,
immediates, BAR's level, EMIT and POST outside graphs) is checked when the run is decoded, in Machine/RunCheck.lean. -/

namespace Sys2Proof

/-- Why a word is no instruction (R281), by name. -/
inductive DecodeErr where
  /-- No row of the table matches (R274, R276): a reserved function code or a nonzero unused field (R265). -/
  | unassigned
  /-- G = 4 (R261). -/
  | reservedGuard
  /-- A destination of 97 to 103 (R10, R262), or one a WAIT may not name (R336). -/
  | reservedDestination
  /-- A token-carried result bound for a temporary or for 96 (R206). -/
  | tokenDestination
  /-- A base of an odd code or of 97 to 103 (R317). -/
  | reservedBase
  /-- A register group that is not aligned or leaves its level (R322, R326, R329, R330, R331, R380). -/
  | reservedRegister
  /-- A reserved function, condition or rounding code (R276, R277, R278). -/
  | reservedFunction
  /-- A combination R279 or R280 reserves. -/
  | reservedCombination
  /-- A special register that is not assigned, or a write of a read-only one (R313). -/
  | reservedSpecial
  /-- A QUAL payload R268 reserves. -/
  | reservedPayload
  /-- A Y and DL pair R272 forbids. -/
  | reservedTrailer
deriving DecidableEq, Repr

/-- A destination code of R10: not 97 to 103. -/
def destOk (d : BitVec 7) : Bool := !(decide (97 ≤ d.toNat) && decide (d.toNat ≤ 103))

/-- A destination of a token-carried word (R206): V, X or o. -/
def tokDestOk (d : BitVec 7) : Bool := decide (d.toNat ≤ 95) || (decide (104 ≤ d.toNat) && decide (d.toNat ≤ 111))

/-- A base of R317: an even code of 0 to 95 or 104 to 127, or 96. -/
def baseOk (b : BitVec 7) : Bool := decide (b.toNat % 2 = 0) && !(decide (97 ≤ b.toNat) && decide (b.toNat ≤ 103))

/-- A 64-bit element type of R279 (S64, N64, F64). -/
def wideTy (t : Nat) : Bool := t == 2 || t == 3 || t == 5

/-- The combinations of AOP and TY that R279 admits. -/
def atomOk (aop ty : Nat) : Bool :=
  decide (aop ≤ 7) && decide (ty ≤ 5) && (if aop = 7 then decide (4 ≤ ty) else decide (ty ≤ 3))

/-- The registers a CAS names lie in one level, outside 96 to 103 (R330). -/
def casRegOk (d : BitVec 7) (wide : Bool) : Bool :=
  let n := if wide then 3 else 1
  let last := d.toNat + n
  (!wide || d.toNat % 2 == 0) &&
    (decide (last ≤ 63) || (decide (64 ≤ d.toNat) && decide (last ≤ 95)) || (decide (104 ≤ d.toNat) && decide (last ≤ 111)) ||
      (decide (112 ≤ d.toNat) && decide (last ≤ 127)))

/-- The special registers that R314 assigns. -/
def sprReadable (n : Nat) : Bool :=
  n == 0 || n == 1 || (decide (0x08 ≤ n) && decide (n ≤ 0x0D)) || (decide (0x10 ≤ n) && decide (n ≤ 0x15)) ||
    (decide (0x18 ≤ n) && decide (n ≤ 0x1B)) || n == 0x20 || n == 0x28 || n == 0x29 || (decide (0x100 ≤ n) && decide (n ≤ 0x12F))

/-- The special registers of kind RW (R314). -/
def sprWritable (n : Nat) : Bool := decide (0x100 ≤ n) && decide (n ≤ 0x12F)

/-- One check: nothing when it holds, its name when it fails. -/
def req (p : Prop) [Decidable p] (e : DecodeErr) : Option DecodeErr := if p then none else some e

/-- The first failing check of a list. -/
def firstErr : List (Option DecodeErr) → Option DecodeErr
  | [] => none
  | some e :: _ => some e
  | none :: t => firstErr t

/-- The first check that an instruction fails, by name; none for a well-formed one. -/
def Instr.check (i : Instr) : Option DecodeErr :=
  match i with
  | .nop _ => none
  | .endRun _ y l => req ((y = 0 ∧ l = 0) ∨ (y = 1 ∧ l ≠ 0)) .reservedTrailer
  | .bra _ g _ => req (g ≠ 4) .reservedGuard
  | .call _ g _ => req (g ≠ 4) .reservedGuard
  | .brx _ g _ => req (g ≠ 4) .reservedGuard
  | .exit _ g => req (g ≠ 4) .reservedGuard
  | .ret _ g => req (g ≠ 4) .reservedGuard
  | .acqx _ => none
  | .relx _ => none
  | .brk _ g => req (g ≠ 4) .reservedGuard
  | .join _ g _ => req (g ≠ 4) .reservedGuard
  | .svc _ g _ => req (g ≠ 4) .reservedGuard
  | .bar _ _ => none
  | .waitAny _ g d _ _ => firstErr [req (g ≠ 4) .reservedGuard, req (tokDestOk d) .reservedDestination]
  | .waitAll _ g d _ _ => firstErr [req (g ≠ 4) .reservedGuard, req (tokDestOk d) .reservedDestination]
  | .arm _ g _ _ => req (g ≠ 4) .reservedGuard
  | .fenceAcq _ g s => firstErr [req (g ≠ 4) .reservedGuard, req (s ≠ 7) .reservedCombination]
  | .fenceRel _ g s => firstErr [req (g ≠ 4) .reservedGuard, req (s ≠ 7) .reservedCombination]
  | .fenceAr _ g s r => firstErr [req (g ≠ 4) .reservedGuard, req (s = r ∧ s ≠ 7) .reservedCombination]
  | .phase _ g s r => firstErr [req (g ≠ 4) .reservedGuard, req (s = r ∧ s ≠ 7) .reservedCombination]
  | .emit _ g _ => req (g ≠ 4) .reservedGuard
  | .post _ g _ => req (g ≠ 4) .reservedGuard
  | .eacc _ g a t => firstErr [req (g ≠ 4) .reservedGuard, req (t.toNat ≤ 5) .reservedFunction, req (3 ≤ t.toNat → baseOk a ∧ a ≠ 96) .reservedRegister]
  | .kext _ => none
  | .iadd _ g d _ _ => firstErr [req (g ≠ 4) .reservedGuard, req (destOk d) .reservedDestination]
  | .isub _ g d _ _ => firstErr [req (g ≠ 4) .reservedGuard, req (destOk d) .reservedDestination]
  | .imul _ g d _ _ => firstErr [req (g ≠ 4) .reservedGuard, req (destOk d) .reservedDestination]
  | .imad _ g d _ _ => firstErr [req (g ≠ 4) .reservedGuard, req (destOk d) .reservedDestination]
  | .imulhS32 _ g d _ _ => firstErr [req (g ≠ 4) .reservedGuard, req (destOk d) .reservedDestination]
  | .imulhN32 _ g d _ _ => firstErr [req (g ≠ 4) .reservedGuard, req (destOk d) .reservedDestination]
  | .idivS32 _ g d _ _ => firstErr [req (g ≠ 4) .reservedGuard, req (destOk d) .reservedDestination]
  | .idivN32 _ g d _ _ => firstErr [req (g ≠ 4) .reservedGuard, req (destOk d) .reservedDestination]
  | .iremS32 _ g d _ _ => firstErr [req (g ≠ 4) .reservedGuard, req (destOk d) .reservedDestination]
  | .iremN32 _ g d _ _ => firstErr [req (g ≠ 4) .reservedGuard, req (destOk d) .reservedDestination]
  | .iminS32 _ g d _ _ => firstErr [req (g ≠ 4) .reservedGuard, req (destOk d) .reservedDestination]
  | .iminN32 _ g d _ _ => firstErr [req (g ≠ 4) .reservedGuard, req (destOk d) .reservedDestination]
  | .imaxS32 _ g d _ _ => firstErr [req (g ≠ 4) .reservedGuard, req (destOk d) .reservedDestination]
  | .imaxN32 _ g d _ _ => firstErr [req (g ≠ 4) .reservedGuard, req (destOk d) .reservedDestination]
  | .movi _ g d _ => firstErr [req (g ≠ 4) .reservedGuard, req (destOk d) .reservedDestination]
  | .mov _ g d _ => firstErr [req (g ≠ 4) .reservedGuard, req (destOk d) .reservedDestination]
  | .iabs _ g d _ => firstErr [req (g ≠ 4) .reservedGuard, req (destOk d) .reservedDestination]
  | .ineg _ g d _ => firstErr [req (g ≠ 4) .reservedGuard, req (destOk d) .reservedDestination]
  | .popc _ g d _ => firstErr [req (g ≠ 4) .reservedGuard, req (destOk d) .reservedDestination]
  | .clz _ g d _ => firstErr [req (g ≠ 4) .reservedGuard, req (destOk d) .reservedDestination]
  | .ctz _ g d _ => firstErr [req (g ≠ 4) .reservedGuard, req (destOk d) .reservedDestination]
  | .brev _ g d _ => firstErr [req (g ≠ 4) .reservedGuard, req (destOk d) .reservedDestination]
  | .andW _ g d _ _ => firstErr [req (g ≠ 4) .reservedGuard, req (destOk d) .reservedDestination]
  | .orW _ g d _ _ => firstErr [req (g ≠ 4) .reservedGuard, req (destOk d) .reservedDestination]
  | .xor _ g d _ _ => firstErr [req (g ≠ 4) .reservedGuard, req (destOk d) .reservedDestination]
  | .andn _ g d _ _ => firstErr [req (g ≠ 4) .reservedGuard, req (destOk d) .reservedDestination]
  | .shl _ g d _ _ => firstErr [req (g ≠ 4) .reservedGuard, req (destOk d) .reservedDestination]
  | .shr _ g d _ _ => firstErr [req (g ≠ 4) .reservedGuard, req (destOk d) .reservedDestination]
  | .sar _ g d _ _ => firstErr [req (g ≠ 4) .reservedGuard, req (destOk d) .reservedDestination]
  | .rotl _ g d _ _ => firstErr [req (g ≠ 4) .reservedGuard, req (destOk d) .reservedDestination]
  | .bfxN32 _ g d _ _ => firstErr [req (g ≠ 4) .reservedGuard, req (destOk d) .reservedDestination]
  | .bfxS32 _ g d _ _ => firstErr [req (g ≠ 4) .reservedGuard, req (destOk d) .reservedDestination]
  | .bfi _ g d _ _ => firstErr [req (g ≠ 4) .reservedGuard, req (destOk d) .reservedDestination]
  | .sel _ g d _ _ => firstErr [req (g ≠ 4) .reservedGuard, req (destOk d) .reservedDestination]
  | .icmp _ _ cc _ _ => req (cc.toNat ≤ 5) .reservedFunction
  | .fcmp _ _ _ _ => none
  | .ppop _ => none
  | .pdup _ => none
  | .pswp _ => none
  | .pand _ => none
  | .por _ => none
  | .pxor _ => none
  | .prd _ d => req (destOk d) .reservedDestination
  | .pwr _ _ => none
  | .srd _ g d s => firstErr [req (g ≠ 4) .reservedGuard, req (destOk d) .reservedDestination, req (sprReadable s.toNat) .reservedSpecial]
  | .swr _ g s _ => firstErr [req (g ≠ 4) .reservedGuard, req (sprWritable s.toNat) .reservedSpecial]
  | .fadd _ _ g d _ _ => firstErr [req (g ≠ 4) .reservedGuard, req (destOk d) .reservedDestination]
  | .fsub _ _ g d _ _ => firstErr [req (g ≠ 4) .reservedGuard, req (destOk d) .reservedDestination]
  | .fmul _ _ g d _ _ => firstErr [req (g ≠ 4) .reservedGuard, req (destOk d) .reservedDestination]
  | .fma _ _ g d _ _ => firstErr [req (g ≠ 4) .reservedGuard, req (destOk d) .reservedDestination]
  | .fmin _ g d _ _ => firstErr [req (g ≠ 4) .reservedGuard, req (destOk d) .reservedDestination]
  | .fmax _ g d _ _ => firstErr [req (g ≠ 4) .reservedGuard, req (destOk d) .reservedDestination]
  | .fscl _ g d _ _ => firstErr [req (g ≠ 4) .reservedGuard, req (destOk d) .reservedDestination]
  | .frcp _ g d _ _ => firstErr [req (g ≠ 4) .reservedGuard, req (tokDestOk d) .tokenDestination]
  | .frsq _ g d _ _ => firstErr [req (g ≠ 4) .reservedGuard, req (tokDestOk d) .tokenDestination]
  | .fsqrt _ g d _ _ => firstErr [req (g ≠ 4) .reservedGuard, req (tokDestOk d) .tokenDestination]
  | .fex2 _ g d _ _ => firstErr [req (g ≠ 4) .reservedGuard, req (tokDestOk d) .tokenDestination]
  | .flg2 _ g d _ _ => firstErr [req (g ≠ 4) .reservedGuard, req (tokDestOk d) .tokenDestination]
  | .fsin _ g d _ _ => firstErr [req (g ≠ 4) .reservedGuard, req (tokDestOk d) .tokenDestination]
  | .fcos _ g d _ _ => firstErr [req (g ≠ 4) .reservedGuard, req (tokDestOk d) .tokenDestination]
  | .fcls _ g d _ _ => firstErr [req (g ≠ 4) .reservedGuard, req (tokDestOk d) .tokenDestination]
  | .cvtS32F32 _ g d _ r => firstErr [req (g ≠ 4) .reservedGuard, req (destOk d) .reservedDestination, req (r.toNat ≤ 4) .reservedFunction]
  | .cvtN32F32 _ g d _ r => firstErr [req (g ≠ 4) .reservedGuard, req (destOk d) .reservedDestination, req (r.toNat ≤ 4) .reservedFunction]
  | .cvtF32S32 _ g d _ r => firstErr [req (g ≠ 4) .reservedGuard, req (destOk d) .reservedDestination, req (r.toNat ≤ 4) .reservedFunction]
  | .cvtF32N32 _ g d _ r => firstErr [req (g ≠ 4) .reservedGuard, req (destOk d) .reservedDestination, req (r.toNat ≤ 4) .reservedFunction]
  | .cvti _ g d _ r => firstErr [req (g ≠ 4) .reservedGuard, req (destOk d) .reservedDestination, req (r.toNat ≤ 4) .reservedFunction]
  | .pack _ g d _ _ => firstErr [req (g ≠ 4) .reservedGuard, req (destOk d) .reservedDestination]
  | .unpk _ g d _ _ => firstErr [req (g ≠ 4) .reservedGuard, req (destOk d) .reservedDestination]
  | .shfl _ g d _ _ _ => firstErr [req (g ≠ 4) .reservedGuard, req (tokDestOk d) .tokenDestination]
  | .vote _ g d _ f _ => firstErr [req (g ≠ 4) .reservedGuard, req (tokDestOk d) .tokenDestination, req (f.toNat ≤ 3) .reservedFunction]
  | .redx _ g d _ f _ => firstErr [req (g ≠ 4) .reservedGuard, req (tokDestOk d) .tokenDestination, req (f.toNat ≤ 10) .reservedFunction]
  | .scan _ g d _ f _ => firstErr [req (g ≠ 4) .reservedGuard, req (tokDestOk d) .tokenDestination, req (f.toNat ≤ 10) .reservedFunction]
  | .matchW _ g d _ _ => firstErr [req (g ≠ 4) .reservedGuard, req (tokDestOk d) .tokenDestination]
  | .matchF _ g d _ _ => firstErr [req (g ≠ 4) .reservedGuard, req (tokDestOk d) .tokenDestination]
  | .qual _ p m s => req (p.toNat ≤ 3 ∧ m.toNat ≤ 4 ∧ s.toNat ≤ 6 ∧ (m = 0 → s = 0)) .reservedPayload
  | .trd _ g d _ _ _ => firstErr [req (g ≠ 4) .reservedGuard, req (tokDestOk d) .tokenDestination]
  | .thrd _ g d _ _ => firstErr [req (g ≠ 4) .reservedGuard, req (destOk d) .reservedDestination]
  | .thwr _ g _ _ _ => req (g ≠ 4) .reservedGuard
  | .scrd _ g d _ => firstErr [req (g ≠ 4) .reservedGuard, req (destOk d) .reservedDestination]
  | .scwr _ g _ _ => req (g ≠ 4) .reservedGuard
  | .talloc _ _ => none
  | .tfree _ g _ => req (g ≠ 4) .reservedGuard
  | .twr _ g _ _ _ => req (g ≠ 4) .reservedGuard
  | .tq _ g _ _ _ => req (g ≠ 4) .reservedGuard
  | .paddB4 _ g d _ _ => firstErr [req (g ≠ 4) .reservedGuard, req (destOk d) .reservedDestination]
  | .psubB4 _ g d _ _ => firstErr [req (g ≠ 4) .reservedGuard, req (destOk d) .reservedDestination]
  | .pmulB4 _ g d _ _ => firstErr [req (g ≠ 4) .reservedGuard, req (destOk d) .reservedDestination]
  | .pminB4 _ g d _ _ => firstErr [req (g ≠ 4) .reservedGuard, req (destOk d) .reservedDestination]
  | .pmaxB4 _ g d _ _ => firstErr [req (g ≠ 4) .reservedGuard, req (destOk d) .reservedDestination]
  | .pshlB4 _ g d _ _ => firstErr [req (g ≠ 4) .reservedGuard, req (destOk d) .reservedDestination]
  | .pshrB4 _ g d _ _ => firstErr [req (g ≠ 4) .reservedGuard, req (destOk d) .reservedDestination]
  | .psarB4 _ g d _ _ => firstErr [req (g ≠ 4) .reservedGuard, req (destOk d) .reservedDestination]
  | .paddH2 _ g d _ _ => firstErr [req (g ≠ 4) .reservedGuard, req (destOk d) .reservedDestination]
  | .psubH2 _ g d _ _ => firstErr [req (g ≠ 4) .reservedGuard, req (destOk d) .reservedDestination]
  | .pmulH2 _ g d _ _ => firstErr [req (g ≠ 4) .reservedGuard, req (destOk d) .reservedDestination]
  | .pminH2 _ g d _ _ => firstErr [req (g ≠ 4) .reservedGuard, req (destOk d) .reservedDestination]
  | .pmaxH2 _ g d _ _ => firstErr [req (g ≠ 4) .reservedGuard, req (destOk d) .reservedDestination]
  | .pshlH2 _ g d _ _ => firstErr [req (g ≠ 4) .reservedGuard, req (destOk d) .reservedDestination]
  | .pshrH2 _ g d _ _ => firstErr [req (g ≠ 4) .reservedGuard, req (destOk d) .reservedDestination]
  | .psarH2 _ g d _ _ => firstErr [req (g ≠ 4) .reservedGuard, req (destOk d) .reservedDestination]
  | .ld8 _ g d b _ _ => firstErr [req (g ≠ 4) .reservedGuard, req (tokDestOk d) .tokenDestination, req (baseOk b) .reservedBase]
  | .ld8s _ g d b _ _ => firstErr [req (g ≠ 4) .reservedGuard, req (tokDestOk d) .tokenDestination, req (baseOk b) .reservedBase]
  | .ld16 _ g d b _ _ => firstErr [req (g ≠ 4) .reservedGuard, req (tokDestOk d) .tokenDestination, req (baseOk b) .reservedBase]
  | .ld16s _ g d b _ _ => firstErr [req (g ≠ 4) .reservedGuard, req (tokDestOk d) .tokenDestination, req (baseOk b) .reservedBase]
  | .ld32 _ g d b _ _ => firstErr [req (g ≠ 4) .reservedGuard, req (tokDestOk d) .tokenDestination, req (baseOk b) .reservedBase]
  | .ld64 _ g d b _ _ => firstErr [req (g ≠ 4) .reservedGuard, req (tokDestOk d) .tokenDestination, req (d.toNat % 2 = 0) .reservedRegister, req (baseOk b) .reservedBase]
  | .ld128 _ g d b _ _ => firstErr [req (g ≠ 4) .reservedGuard, req (tokDestOk d) .tokenDestination, req (d.toNat % 4 = 0) .reservedRegister, req (baseOk b) .reservedBase]
  | .pref _ g b _ => firstErr [req (g ≠ 4) .reservedGuard, req (baseOk b) .reservedBase]
  | .prefL2 _ g b _ => firstErr [req (g ≠ 4) .reservedGuard, req (baseOk b) .reservedBase]
  | .evct _ g b _ => firstErr [req (g ≠ 4) .reservedGuard, req (baseOk b) .reservedBase]
  | .evctL2 _ g b _ => firstErr [req (g ≠ 4) .reservedGuard, req (baseOk b) .reservedBase]
  | .st8 _ g _ b _ => firstErr [req (g ≠ 4) .reservedGuard, req (baseOk b) .reservedBase]
  | .st16 _ g _ b _ => firstErr [req (g ≠ 4) .reservedGuard, req (baseOk b) .reservedBase]
  | .st32 _ g _ b _ => firstErr [req (g ≠ 4) .reservedGuard, req (baseOk b) .reservedBase]
  | .st64 _ g s b _ => firstErr [req (g ≠ 4) .reservedGuard, req (s.toNat % 2 = 0) .reservedRegister, req (baseOk b) .reservedBase]
  | .st128 _ g s b _ => firstErr [req (g ≠ 4) .reservedGuard, req (s.toNat % 4 = 0) .reservedRegister, req (baseOk b) .reservedBase]
  | .atom _ g d b o t => firstErr [req (g ≠ 4) .reservedGuard, req (baseOk b) .reservedBase, req (atomOk o.toNat t.toNat) .reservedCombination, req (destOk d) .reservedDestination, req (wideTy t.toNat = true → d.toNat % 2 = 0 ∧ ¬ (96 ≤ d.toNat ∧ d.toNat ≤ 103)) .reservedRegister]
  | .cas _ g d b t => firstErr [req (g ≠ 4) .reservedGuard, req (baseOk b) .reservedBase, req (t.toNat ≤ 3) .reservedCombination, req (casRegOk d (wideTy t.toNat)) .reservedRegister]
  | .red _ g d b o t => firstErr [req (g ≠ 4) .reservedGuard, req (baseOk b) .reservedBase, req (atomOk o.toNat t.toNat) .reservedCombination, req (o ≠ 6) .reservedCombination, req (wideTy t.toNat = true → d.toNat % 2 = 0) .reservedRegister]
  | .lds8 _ g d _ _ _ _ => firstErr [req (g ≠ 4) .reservedGuard, req (tokDestOk d) .tokenDestination]
  | .lds16 _ g d _ _ _ _ => firstErr [req (g ≠ 4) .reservedGuard, req (tokDestOk d) .tokenDestination]
  | .lds32 _ g d _ _ _ _ => firstErr [req (g ≠ 4) .reservedGuard, req (tokDestOk d) .tokenDestination]
  | .lds64 _ g d _ _ _ _ => firstErr [req (g ≠ 4) .reservedGuard, req (tokDestOk d) .tokenDestination, req (d.toNat % 2 = 0) .reservedRegister]
  | .lds128 _ g d _ _ _ _ => firstErr [req (g ≠ 4) .reservedGuard, req (tokDestOk d) .tokenDestination, req (d.toNat % 4 = 0) .reservedRegister]
  | .sts8 _ g _ _ _ _ => req (g ≠ 4) .reservedGuard
  | .sts16 _ g _ _ _ _ => req (g ≠ 4) .reservedGuard
  | .sts32 _ g _ _ _ _ => req (g ≠ 4) .reservedGuard
  | .sts64 _ g s _ _ _ => firstErr [req (g ≠ 4) .reservedGuard, req (s.toNat % 2 = 0) .reservedRegister]
  | .sts128 _ g s _ _ _ => firstErr [req (g ≠ 4) .reservedGuard, req (s.toNat % 4 = 0) .reservedRegister]
  | .copy _ g _ _ _ => req (g ≠ 4) .reservedGuard
  | .rlay _ g _ _ _ => req (g ≠ 4) .reservedGuard
  | .matl _ g _ _ _ => req (g ≠ 4) .reservedGuard
  | .gath _ g _ _ _ => req (g ≠ 4) .reservedGuard
  | .scat _ g _ _ _ => req (g ≠ 4) .reservedGuard
  | .scatAcc _ g _ _ _ => req (g ≠ 4) .reservedGuard
  | .coll _ g _ _ _ => req (g ≠ 4) .reservedGuard
  | .cpyq _ g a _ _ _ => firstErr [req (g ≠ 4) .reservedGuard, req (baseOk a) .reservedBase]
  | .packageReset => none
  | .railOutOfLimits => none
  | .railSettledTimer => none
  | .islandWrite => none
  | .islandChangeComplete => none
  | .tcolSample => none
  | .thermalThrottle => none
  | .tcolHotClear => none
  | .flitSend => none
  | .flitReceive => none
  | .flitReplay => none
  | .keyUpdateStart => none
  | .keyExpire => none
  | .linkPeerDetected => none
  | .linkTrainingComplete => none
  | .linkTrainingTimeout => none
  | .linkSessionEstablished => none
  | .linkKeyingFail => none
  | .linkKeyingTimeout => none
  | .linkSessionAttemptFail => none
  | .linkRetryTimer => none
  | .keyUpdateComplete => none
  | .linkSessionExpire => none
  | .linkDrainComplete => none
  | .linkPortReset => none
  | .hostLinkTrainingComplete => none
  | .hdmbaseWrite => none
  | .hdmsizeWrite => none
  | .cxlmemRequest => none
  | .registerWrite => none
  | .hartidWrite => none
  | .bridgePackageRead => none
  | .bridgePackageStore => none
  | .bridgeGrant => none
  | .bridgeMscEviction => none
  | .hostSnpinv => none
  | .hostSnpdata => none
  | .hostSnpcur => none
  | .tenantModesWrite => none
  | .tenantSetOn => none
  | .tenantSetOff => none
  | .tenantRecordWrite => none
  | .hreqbaseWrite => none
  | .hfltbaseWrite => none
  | .hreqheadWrite => none
  | .hfltheadWrite => none
  | .hearthRestart => none
  | .bootStart => none
  | .bootCxlReady => none
  | .bootCxlTimeout => none
  | .bootHeaderFetched => none
  | .bootBodyFetched => none
  | .measExtend => none
  | .firmwareReady => none
  | .imageLineUe => none
  | .recoveryReloadComplete => none
  | .doorbellSetTail => none
  | .doorbellOpen => none
  | .doorbellClose => none
  | .doorbellCmd3 => none
  | .launchRecord => none
  | .controlRecord => none
  | .queueHeadRetry => none
  | .launchComplete => none
  | .heartbeatRequest => none
  | .heartbeatTimeout => none
  | .keyInstall => none
  | .keyRemove => none
  | .worldRetire => none
  | .worldScrubComplete => none
  | .worldAbort => none
  | .tdispLeaveRun => none
  | .l1FillReturn => none
  | .l1Update => none
  | .l1Invalidation => none
  | .dirReadMiss => none
  | .dirStore => none
  | .dirAck => none
  | .dirEvictionNotice => none
  | .l2Victim => none
  | .homeStore => none
  | .l2HomeUpdate => none
  | .homeAck => none
  | .storeAck => none
  | .mscVictim => none
  | .worldLineHandover => none
  | .storeEntryDrainComplete => none
  | .releaseComplete => none
  | .softError => none
  | .patrolScrub => none
  | .hsctlWrite => none
  | .aliasRecord => none
  | .aliasResolve => none
  | .aliasResolveReply => none
  | .mark => none
  | .marked => none
  | .holdRelease => none
  | .srcw => none
  | .srcack => none
  | .hotMaterialise => none
  | .catctlWrite => none
  | .pageWalkComplete => none
  | .faultEntryWaitFree => none
  | .freplyRetry => none
  | .freplyKill => none
  | .atsTranslationCompletion => none
  | .prgResponse => none
  | .atsInvalidationRequest => none
  | .shootdownStart => none
  | .shootdownDrainComplete => none
  | .dtinvWrite => none
  | .regionWriteback => none
  | .tcbPlace => none
  | .tcbBind => none
  | .stealRequest => none
  | .stealServe => none
  | .stealRetryTimer => none
  | .preemptTimer => none
  | .preemptSave => none
  | .groupRestore => none
  | .gangPark => none
  | .runStart => none
  | .tokenComplete => none
  | .atomicReturn => none
  | .watchdogExpire => none
  | .arrivalDelivery => none
  | .waitTimeout => none
  | .graphGangForm => none
  | .partialGangTimer => none
  | .rebalanceTimer => none
  | .waveEnd => none
  | .gstepWrite => none
  | .gstepWaveTimer => none
  | .contributionArrive => none
  | .stopArrive => none
  | .estselWrite => none
  | .svcReply => none
  | .anvilStep => none
  | .tileTaskComplete => none
  | .engineCommandComplete => none
  | .cpyqEntryStart => none
  | .collMatch => none
  | .collComplete => none
  | .svcringWrite => none
  | .svcheadWrite => none
  | .svrplyWrite => none
  | .svrgo => none
  | .placepinWrite => none
  | .nbctlWrite => none
  | .nbAttach => none
  | .nbSetbp => none
  | .nbClrbp => none
  | .nbSetwp => none
  | .nbClrwp => none
  | .nbHalt => none
  | .nbStep => none
  | .nbResume => none
  | .nbDetach => none
  | .nbBadcmd => none
  | .tdispEnterRun => none
  | .spdmKeyExchange => none
  | .hdmDecoderCommit => none

/-- An instruction whose every word-local check holds. -/
def Instr.wf (i : Instr) : Prop := i.check = none

end Sys2Proof
end

