-- ==== Sys2Proof/Decode.lean ====
section
/-! DEFINITION. Decoding and encoding of the instruction words (R260 to R280). The patterns are those of the opcode map: each
row's fixed bits, and its fields cut out at the places R263 and R264 give. A word that no row matches, or whose fields hold a reserved value, is rejected
by name. -/

namespace Sys2Proof

/-- Bits [lo + n - 1 : lo] of a word (R3). -/
def fld (w : Word) (lo n : Nat) : BitVec n := BitVec.ofNat n (w.toNat / 2 ^ lo)

/-- The bits of w that mask selects equal pat. -/
def hits (w : Word) (mask pat : Nat) : Bool := (w.toNat &&& mask) == pat

/-- Row 0x00 of the opcode map, and the row below it (R274). -/
def pattern0 (op : Nat) (w : Word) : Option Instr :=
  match op with
  | 0 => if hits w 0x7FFFFFFF 0x00000000 then some (.nop (fld w 31 1)) else none
  | 1 => if hits w 0xFFE000FF 0x01000000 then some (.endRun (fld w 13 8) (fld w 12 1) (fld w 8 4)) else none
  | 2 => if hits w 0x7F000000 0x02000000 then some (.bra (fld w 31 1) (fld w 21 3) (fld w 0 21)) else none
  | 3 => if hits w 0x7F000000 0x03000000 then some (.call (fld w 31 1) (fld w 21 3) (fld w 0 21)) else none
  | 4 => if hits w 0x7F1FC07F 0x04000000 then some (.brx (fld w 31 1) (fld w 21 3) (fld w 7 7)) else none
  | 5 => if hits w 0x7F1FFFFF 0x05000000 then some (.exit (fld w 31 1) (fld w 21 3)) else if hits w 0x7F1FFFFF 0x05000001 then some (.ret (fld w 31 1) (fld w 21 3)) else if hits w 0x7FFFFFFF 0x05000002 then some (.acqx (fld w 31 1)) else if hits w 0x7FFFFFFF 0x05000003 then some (.relx (fld w 31 1)) else if hits w 0x7F1FFFFF 0x05000004 then some (.brk (fld w 31 1) (fld w 21 3)) else none
  | 6 => if hits w 0x7F1FC07F 0x06000000 then some (.join (fld w 31 1) (fld w 21 3) (fld w 7 7)) else none
  | 7 => if hits w 0x7F1FC07F 0x07000000 then some (.svc (fld w 31 1) (fld w 21 3) (fld w 7 7)) else none
  | 8 => if hits w 0x7FFFFF80 0x08000000 then some (.bar (fld w 31 1) (fld w 0 7)) else none
  | 9 => if hits w 0x7F000000 0x09000000 then some (.waitAny (fld w 31 1) (fld w 21 3) (fld w 14 7) (fld w 7 7) (fld w 0 7)) else none
  | 10 => if hits w 0x7F000000 0x0A000000 then some (.waitAll (fld w 31 1) (fld w 21 3) (fld w 14 7) (fld w 7 7) (fld w 0 7)) else none
  | 11 => if hits w 0x7F1FC000 0x0B000000 then some (.arm (fld w 31 1) (fld w 21 3) (fld w 7 7) (fld w 0 7)) else none
  | 12 => if hits w 0x7F1FFF8F 0x0C00000E then some (.fenceAcq (fld w 31 1) (fld w 21 3) (fld w 4 3)) else if hits w 0x7F1FFFF1 0x0C000070 then some (.fenceRel (fld w 31 1) (fld w 21 3) (fld w 1 3)) else if hits w 0x7F1FFF81 0x0C000000 then some (.fenceAr (fld w 31 1) (fld w 21 3) (fld w 4 3) (fld w 1 3)) else none
  | 13 => if hits w 0x7F1FFF81 0x0D000000 then some (.phase (fld w 31 1) (fld w 21 3) (fld w 4 3) (fld w 1 3)) else none
  | 14 => if hits w 0x7F1FC07F 0x0E000000 then some (.emit (fld w 31 1) (fld w 21 3) (fld w 7 7)) else if hits w 0x7F1FC07F 0x0E000010 then some (.post (fld w 31 1) (fld w 21 3) (fld w 7 7)) else if hits w 0x7F1FC070 0x0E000020 then some (.eacc (fld w 31 1) (fld w 21 3) (fld w 7 7) (fld w 0 4)) else none
  | 15 => if hits w 0xFF000000 0x0F000000 then some (.kext (fld w 0 24)) else none
  | _ => none

/-- Row 0x10 of the opcode map, and the row below it (R274). -/
def pattern1 (op : Nat) (w : Word) : Option Instr :=
  match op with
  | 0 => if hits w 0x7F000000 0x10000000 then some (.iadd (fld w 31 1) (fld w 21 3) (fld w 14 7) (fld w 7 7) (fld w 0 7)) else none
  | 1 => if hits w 0x7F000000 0x11000000 then some (.isub (fld w 31 1) (fld w 21 3) (fld w 14 7) (fld w 7 7) (fld w 0 7)) else none
  | 2 => if hits w 0x7F000000 0x12000000 then some (.imul (fld w 31 1) (fld w 21 3) (fld w 14 7) (fld w 7 7) (fld w 0 7)) else none
  | 3 => if hits w 0x7F000000 0x13000000 then some (.imad (fld w 31 1) (fld w 21 3) (fld w 14 7) (fld w 7 7) (fld w 0 7)) else none
  | 4 => if hits w 0x7F000000 0x14000000 then some (.imulhS32 (fld w 31 1) (fld w 21 3) (fld w 14 7) (fld w 7 7) (fld w 0 7)) else none
  | 5 => if hits w 0x7F000000 0x15000000 then some (.imulhN32 (fld w 31 1) (fld w 21 3) (fld w 14 7) (fld w 7 7) (fld w 0 7)) else none
  | 6 => if hits w 0x7F000000 0x16000000 then some (.idivS32 (fld w 31 1) (fld w 21 3) (fld w 14 7) (fld w 7 7) (fld w 0 7)) else none
  | 7 => if hits w 0x7F000000 0x17000000 then some (.idivN32 (fld w 31 1) (fld w 21 3) (fld w 14 7) (fld w 7 7) (fld w 0 7)) else none
  | 8 => if hits w 0x7F000000 0x18000000 then some (.iremS32 (fld w 31 1) (fld w 21 3) (fld w 14 7) (fld w 7 7) (fld w 0 7)) else none
  | 9 => if hits w 0x7F000000 0x19000000 then some (.iremN32 (fld w 31 1) (fld w 21 3) (fld w 14 7) (fld w 7 7) (fld w 0 7)) else none
  | 10 => if hits w 0x7F000000 0x1A000000 then some (.iminS32 (fld w 31 1) (fld w 21 3) (fld w 14 7) (fld w 7 7) (fld w 0 7)) else none
  | 11 => if hits w 0x7F000000 0x1B000000 then some (.iminN32 (fld w 31 1) (fld w 21 3) (fld w 14 7) (fld w 7 7) (fld w 0 7)) else none
  | 12 => if hits w 0x7F000000 0x1C000000 then some (.imaxS32 (fld w 31 1) (fld w 21 3) (fld w 14 7) (fld w 7 7) (fld w 0 7)) else none
  | 13 => if hits w 0x7F000000 0x1D000000 then some (.imaxN32 (fld w 31 1) (fld w 21 3) (fld w 14 7) (fld w 7 7) (fld w 0 7)) else none
  | 14 => if hits w 0x7F003F80 0x1E000000 then some (.movi (fld w 31 1) (fld w 21 3) (fld w 14 7) (fld w 0 7)) else none
  | 15 => if hits w 0x7F00007F 0x1F000000 then some (.mov (fld w 31 1) (fld w 21 3) (fld w 14 7) (fld w 7 7)) else if hits w 0x7F00007F 0x1F000001 then some (.iabs (fld w 31 1) (fld w 21 3) (fld w 14 7) (fld w 7 7)) else if hits w 0x7F00007F 0x1F000002 then some (.ineg (fld w 31 1) (fld w 21 3) (fld w 14 7) (fld w 7 7)) else if hits w 0x7F00007F 0x1F000003 then some (.popc (fld w 31 1) (fld w 21 3) (fld w 14 7) (fld w 7 7)) else if hits w 0x7F00007F 0x1F000004 then some (.clz (fld w 31 1) (fld w 21 3) (fld w 14 7) (fld w 7 7)) else if hits w 0x7F00007F 0x1F000005 then some (.ctz (fld w 31 1) (fld w 21 3) (fld w 14 7) (fld w 7 7)) else if hits w 0x7F00007F 0x1F000006 then some (.brev (fld w 31 1) (fld w 21 3) (fld w 14 7) (fld w 7 7)) else none
  | _ => none

/-- Row 0x20 of the opcode map, and the row below it (R274). -/
def pattern2 (op : Nat) (w : Word) : Option Instr :=
  match op with
  | 0 => if hits w 0x7F000000 0x20000000 then some (.andW (fld w 31 1) (fld w 21 3) (fld w 14 7) (fld w 7 7) (fld w 0 7)) else none
  | 1 => if hits w 0x7F000000 0x21000000 then some (.orW (fld w 31 1) (fld w 21 3) (fld w 14 7) (fld w 7 7) (fld w 0 7)) else none
  | 2 => if hits w 0x7F000000 0x22000000 then some (.xor (fld w 31 1) (fld w 21 3) (fld w 14 7) (fld w 7 7) (fld w 0 7)) else none
  | 3 => if hits w 0x7F000000 0x23000000 then some (.andn (fld w 31 1) (fld w 21 3) (fld w 14 7) (fld w 7 7) (fld w 0 7)) else none
  | 4 => if hits w 0x7F000000 0x24000000 then some (.shl (fld w 31 1) (fld w 21 3) (fld w 14 7) (fld w 7 7) (fld w 0 7)) else none
  | 5 => if hits w 0x7F000000 0x25000000 then some (.shr (fld w 31 1) (fld w 21 3) (fld w 14 7) (fld w 7 7) (fld w 0 7)) else none
  | 6 => if hits w 0x7F000000 0x26000000 then some (.sar (fld w 31 1) (fld w 21 3) (fld w 14 7) (fld w 7 7) (fld w 0 7)) else none
  | 7 => if hits w 0x7F000000 0x27000000 then some (.rotl (fld w 31 1) (fld w 21 3) (fld w 14 7) (fld w 7 7) (fld w 0 7)) else none
  | 8 => if hits w 0x7F000000 0x28000000 then some (.bfxN32 (fld w 31 1) (fld w 21 3) (fld w 14 7) (fld w 7 7) (fld w 0 7)) else none
  | 9 => if hits w 0x7F000000 0x29000000 then some (.bfxS32 (fld w 31 1) (fld w 21 3) (fld w 14 7) (fld w 7 7) (fld w 0 7)) else none
  | 10 => if hits w 0x7F000000 0x2A000000 then some (.bfi (fld w 31 1) (fld w 21 3) (fld w 14 7) (fld w 7 7) (fld w 0 7)) else none
  | 11 => if hits w 0x7F000000 0x2B000000 then some (.sel (fld w 31 1) (fld w 21 3) (fld w 14 7) (fld w 7 7) (fld w 0 7)) else none
  | 12 => if hits w 0x7FFC0000 0x2C000000 then some (.icmp (fld w 31 1) (fld w 17 1) (fld w 14 3) (fld w 7 7) (fld w 0 7)) else if hits w 0x7FFE0000 0x2C100000 then some (.fcmp (fld w 31 1) (fld w 14 3) (fld w 7 7) (fld w 0 7)) else none
  | 13 => if hits w 0x7FFFFFFF 0x2D000000 then some (.ppop (fld w 31 1)) else if hits w 0x7FFFFFFF 0x2D000001 then some (.pdup (fld w 31 1)) else if hits w 0x7FFFFFFF 0x2D000002 then some (.pswp (fld w 31 1)) else if hits w 0x7FFFFFFF 0x2D000003 then some (.pand (fld w 31 1)) else if hits w 0x7FFFFFFF 0x2D000004 then some (.por (fld w 31 1)) else if hits w 0x7FFFFFFF 0x2D000005 then some (.pxor (fld w 31 1)) else if hits w 0x7FE03FFF 0x2D000006 then some (.prd (fld w 31 1) (fld w 14 7)) else if hits w 0x7FFFC07F 0x2D000007 then some (.pwr (fld w 31 1) (fld w 7 7)) else none
  | 14 => if hits w 0x7F000000 0x2E000000 then some (.srd (fld w 31 1) (fld w 21 3) (fld w 14 7) (fld w 0 14)) else none
  | 15 => if hits w 0x7F000000 0x2F000000 then some (.swr (fld w 31 1) (fld w 21 3) (fld w 7 14) (fld w 0 7)) else none
  | _ => none

/-- Row 0x30 of the opcode map, and the row below it (R274). -/
def pattern3 (op : Nat) (w : Word) : Option Instr :=
  match op with
  | 0 => if hits w 0x7C000000 0x30000000 then some (.fadd (fld w 31 1) (fld w 24 2) (fld w 21 3) (fld w 14 7) (fld w 7 7) (fld w 0 7)) else none
  | 1 => if hits w 0x7C000000 0x30000000 then some (.fadd (fld w 31 1) (fld w 24 2) (fld w 21 3) (fld w 14 7) (fld w 7 7) (fld w 0 7)) else none
  | 2 => if hits w 0x7C000000 0x30000000 then some (.fadd (fld w 31 1) (fld w 24 2) (fld w 21 3) (fld w 14 7) (fld w 7 7) (fld w 0 7)) else none
  | 3 => if hits w 0x7C000000 0x30000000 then some (.fadd (fld w 31 1) (fld w 24 2) (fld w 21 3) (fld w 14 7) (fld w 7 7) (fld w 0 7)) else none
  | 4 => if hits w 0x7C000000 0x34000000 then some (.fsub (fld w 31 1) (fld w 24 2) (fld w 21 3) (fld w 14 7) (fld w 7 7) (fld w 0 7)) else none
  | 5 => if hits w 0x7C000000 0x34000000 then some (.fsub (fld w 31 1) (fld w 24 2) (fld w 21 3) (fld w 14 7) (fld w 7 7) (fld w 0 7)) else none
  | 6 => if hits w 0x7C000000 0x34000000 then some (.fsub (fld w 31 1) (fld w 24 2) (fld w 21 3) (fld w 14 7) (fld w 7 7) (fld w 0 7)) else none
  | 7 => if hits w 0x7C000000 0x34000000 then some (.fsub (fld w 31 1) (fld w 24 2) (fld w 21 3) (fld w 14 7) (fld w 7 7) (fld w 0 7)) else none
  | 8 => if hits w 0x7C000000 0x38000000 then some (.fmul (fld w 31 1) (fld w 24 2) (fld w 21 3) (fld w 14 7) (fld w 7 7) (fld w 0 7)) else none
  | 9 => if hits w 0x7C000000 0x38000000 then some (.fmul (fld w 31 1) (fld w 24 2) (fld w 21 3) (fld w 14 7) (fld w 7 7) (fld w 0 7)) else none
  | 10 => if hits w 0x7C000000 0x38000000 then some (.fmul (fld w 31 1) (fld w 24 2) (fld w 21 3) (fld w 14 7) (fld w 7 7) (fld w 0 7)) else none
  | 11 => if hits w 0x7C000000 0x38000000 then some (.fmul (fld w 31 1) (fld w 24 2) (fld w 21 3) (fld w 14 7) (fld w 7 7) (fld w 0 7)) else none
  | 12 => if hits w 0x7C000000 0x3C000000 then some (.fma (fld w 31 1) (fld w 24 2) (fld w 21 3) (fld w 14 7) (fld w 7 7) (fld w 0 7)) else none
  | 13 => if hits w 0x7C000000 0x3C000000 then some (.fma (fld w 31 1) (fld w 24 2) (fld w 21 3) (fld w 14 7) (fld w 7 7) (fld w 0 7)) else none
  | 14 => if hits w 0x7C000000 0x3C000000 then some (.fma (fld w 31 1) (fld w 24 2) (fld w 21 3) (fld w 14 7) (fld w 7 7) (fld w 0 7)) else none
  | 15 => if hits w 0x7C000000 0x3C000000 then some (.fma (fld w 31 1) (fld w 24 2) (fld w 21 3) (fld w 14 7) (fld w 7 7) (fld w 0 7)) else none
  | _ => none

/-- Row 0x40 of the opcode map, and the row below it (R274). -/
def pattern4 (op : Nat) (w : Word) : Option Instr :=
  match op with
  | 0 => if hits w 0x7F000000 0x40000000 then some (.fmin (fld w 31 1) (fld w 21 3) (fld w 14 7) (fld w 7 7) (fld w 0 7)) else none
  | 1 => if hits w 0x7F000000 0x41000000 then some (.fmax (fld w 31 1) (fld w 21 3) (fld w 14 7) (fld w 7 7) (fld w 0 7)) else none
  | 2 => if hits w 0x7F000000 0x42000000 then some (.fscl (fld w 31 1) (fld w 21 3) (fld w 14 7) (fld w 7 7) (fld w 0 7)) else none
  | 3 => if hits w 0x7F000078 0x43000000 then some (.frcp (fld w 31 1) (fld w 21 3) (fld w 14 7) (fld w 7 7) (fld w 0 3)) else if hits w 0x7F000078 0x43000008 then some (.frsq (fld w 31 1) (fld w 21 3) (fld w 14 7) (fld w 7 7) (fld w 0 3)) else if hits w 0x7F000078 0x43000010 then some (.fsqrt (fld w 31 1) (fld w 21 3) (fld w 14 7) (fld w 7 7) (fld w 0 3)) else if hits w 0x7F000078 0x43000018 then some (.fex2 (fld w 31 1) (fld w 21 3) (fld w 14 7) (fld w 7 7) (fld w 0 3)) else if hits w 0x7F000078 0x43000020 then some (.flg2 (fld w 31 1) (fld w 21 3) (fld w 14 7) (fld w 7 7) (fld w 0 3)) else if hits w 0x7F000078 0x43000028 then some (.fsin (fld w 31 1) (fld w 21 3) (fld w 14 7) (fld w 7 7) (fld w 0 3)) else if hits w 0x7F000078 0x43000030 then some (.fcos (fld w 31 1) (fld w 21 3) (fld w 14 7) (fld w 7 7) (fld w 0 3)) else if hits w 0x7F000078 0x43000038 then some (.fcls (fld w 31 1) (fld w 21 3) (fld w 14 7) (fld w 7 7) (fld w 0 3)) else none
  | 4 => if hits w 0x7F00000F 0x44000000 then some (.cvtS32F32 (fld w 31 1) (fld w 21 3) (fld w 14 7) (fld w 7 7) (fld w 4 3)) else if hits w 0x7F00000F 0x44000001 then some (.cvtN32F32 (fld w 31 1) (fld w 21 3) (fld w 14 7) (fld w 7 7) (fld w 4 3)) else if hits w 0x7F00000F 0x44000002 then some (.cvtF32S32 (fld w 31 1) (fld w 21 3) (fld w 14 7) (fld w 7 7) (fld w 4 3)) else if hits w 0x7F00000F 0x44000003 then some (.cvtF32N32 (fld w 31 1) (fld w 21 3) (fld w 14 7) (fld w 7 7) (fld w 4 3)) else if hits w 0x7F00000F 0x44000004 then some (.cvti (fld w 31 1) (fld w 21 3) (fld w 14 7) (fld w 7 7) (fld w 4 3)) else none
  | 5 => if hits w 0x7F000000 0x45000000 then some (.pack (fld w 31 1) (fld w 21 3) (fld w 14 7) (fld w 7 7) (fld w 0 7)) else none
  | 6 => if hits w 0x7F000000 0x46000000 then some (.unpk (fld w 31 1) (fld w 21 3) (fld w 14 7) (fld w 7 7) (fld w 0 7)) else none
  | 7 => if hits w 0x7F000000 0x47000000 then some (.shfl (fld w 31 1) (fld w 21 3) (fld w 14 7) (fld w 7 7) (fld w 3 4) (fld w 0 3)) else none
  | 8 => if hits w 0x7F000000 0x48000000 then some (.vote (fld w 31 1) (fld w 21 3) (fld w 14 7) (fld w 7 7) (fld w 3 4) (fld w 0 3)) else none
  | 9 => if hits w 0x7F000000 0x49000000 then some (.redx (fld w 31 1) (fld w 21 3) (fld w 14 7) (fld w 7 7) (fld w 3 4) (fld w 0 3)) else none
  | 10 => if hits w 0x7F000000 0x4A000000 then some (.scan (fld w 31 1) (fld w 21 3) (fld w 14 7) (fld w 7 7) (fld w 3 4) (fld w 0 3)) else none
  | 11 => if hits w 0x7F000078 0x4B000000 then some (.matchW (fld w 31 1) (fld w 21 3) (fld w 14 7) (fld w 7 7) (fld w 0 3)) else if hits w 0x7F000078 0x4B000008 then some (.matchF (fld w 31 1) (fld w 21 3) (fld w 14 7) (fld w 7 7) (fld w 0 3)) else none
  | 12 => if hits w 0xFFFFF000 0x4C000000 then some (.qual (fld w 9 3) (fld w 6 3) (fld w 3 3) (fld w 0 3)) else none
  | 13 => if hits w 0x7F000000 0x4D000000 then some (.trd (fld w 31 1) (fld w 21 3) (fld w 14 7) (fld w 7 7) (fld w 3 4) (fld w 0 3)) else none
  | 14 => if hits w 0x7F000070 0x4E000000 then some (.thrd (fld w 31 1) (fld w 21 3) (fld w 14 7) (fld w 7 7) (fld w 0 4)) else if hits w 0x7F000070 0x4E000010 then some (.thwr (fld w 31 1) (fld w 21 3) (fld w 14 7) (fld w 7 7) (fld w 0 4)) else if hits w 0x7F003FF8 0x4E000020 then some (.scrd (fld w 31 1) (fld w 21 3) (fld w 14 7) (fld w 0 3)) else if hits w 0x7F003FF8 0x4E000030 then some (.scwr (fld w 31 1) (fld w 21 3) (fld w 14 7) (fld w 0 3)) else if hits w 0x7FFFFFF0 0x4E000040 then some (.talloc (fld w 31 1) (fld w 0 4)) else if hits w 0x7F1FFFF0 0x4E000050 then some (.tfree (fld w 31 1) (fld w 21 3) (fld w 0 4)) else if hits w 0x7F000070 0x4E000060 then some (.twr (fld w 31 1) (fld w 21 3) (fld w 14 7) (fld w 7 7) (fld w 0 4)) else none
  | 15 => if hits w 0x7F003F81 0x4F000000 then some (.tq (fld w 31 1) (fld w 21 3) (fld w 14 7) (fld w 4 3) (fld w 1 3)) else none
  | _ => none

/-- Row 0x50 of the opcode map, and the row below it (R274). -/
def pattern5 (op : Nat) (w : Word) : Option Instr :=
  match op with
  | 0 => if hits w 0x7F000000 0x50000000 then some (.paddB4 (fld w 31 1) (fld w 21 3) (fld w 14 7) (fld w 7 7) (fld w 0 7)) else none
  | 1 => if hits w 0x7F000000 0x51000000 then some (.psubB4 (fld w 31 1) (fld w 21 3) (fld w 14 7) (fld w 7 7) (fld w 0 7)) else none
  | 2 => if hits w 0x7F000000 0x52000000 then some (.pmulB4 (fld w 31 1) (fld w 21 3) (fld w 14 7) (fld w 7 7) (fld w 0 7)) else none
  | 3 => if hits w 0x7F000000 0x53000000 then some (.pminB4 (fld w 31 1) (fld w 21 3) (fld w 14 7) (fld w 7 7) (fld w 0 7)) else none
  | 4 => if hits w 0x7F000000 0x54000000 then some (.pmaxB4 (fld w 31 1) (fld w 21 3) (fld w 14 7) (fld w 7 7) (fld w 0 7)) else none
  | 5 => if hits w 0x7F000000 0x55000000 then some (.pshlB4 (fld w 31 1) (fld w 21 3) (fld w 14 7) (fld w 7 7) (fld w 0 7)) else none
  | 6 => if hits w 0x7F000000 0x56000000 then some (.pshrB4 (fld w 31 1) (fld w 21 3) (fld w 14 7) (fld w 7 7) (fld w 0 7)) else none
  | 7 => if hits w 0x7F000000 0x57000000 then some (.psarB4 (fld w 31 1) (fld w 21 3) (fld w 14 7) (fld w 7 7) (fld w 0 7)) else none
  | 8 => if hits w 0x7F000000 0x58000000 then some (.paddH2 (fld w 31 1) (fld w 21 3) (fld w 14 7) (fld w 7 7) (fld w 0 7)) else none
  | 9 => if hits w 0x7F000000 0x59000000 then some (.psubH2 (fld w 31 1) (fld w 21 3) (fld w 14 7) (fld w 7 7) (fld w 0 7)) else none
  | 10 => if hits w 0x7F000000 0x5A000000 then some (.pmulH2 (fld w 31 1) (fld w 21 3) (fld w 14 7) (fld w 7 7) (fld w 0 7)) else none
  | 11 => if hits w 0x7F000000 0x5B000000 then some (.pminH2 (fld w 31 1) (fld w 21 3) (fld w 14 7) (fld w 7 7) (fld w 0 7)) else none
  | 12 => if hits w 0x7F000000 0x5C000000 then some (.pmaxH2 (fld w 31 1) (fld w 21 3) (fld w 14 7) (fld w 7 7) (fld w 0 7)) else none
  | 13 => if hits w 0x7F000000 0x5D000000 then some (.pshlH2 (fld w 31 1) (fld w 21 3) (fld w 14 7) (fld w 7 7) (fld w 0 7)) else none
  | 14 => if hits w 0x7F000000 0x5E000000 then some (.pshrH2 (fld w 31 1) (fld w 21 3) (fld w 14 7) (fld w 7 7) (fld w 0 7)) else none
  | 15 => if hits w 0x7F000000 0x5F000000 then some (.psarH2 (fld w 31 1) (fld w 21 3) (fld w 14 7) (fld w 7 7) (fld w 0 7)) else none
  | _ => none

/-- Row 0x60 of the opcode map, and the row below it (R274). -/
def pattern6 (op : Nat) (w : Word) : Option Instr :=
  match op with
  | 0 => if hits w 0x7F000000 0x60000000 then some (.ld8 (fld w 31 1) (fld w 21 3) (fld w 14 7) (fld w 7 7) (fld w 3 4) (fld w 0 3)) else none
  | 1 => if hits w 0x7F000000 0x61000000 then some (.ld8s (fld w 31 1) (fld w 21 3) (fld w 14 7) (fld w 7 7) (fld w 3 4) (fld w 0 3)) else none
  | 2 => if hits w 0x7F000000 0x62000000 then some (.ld16 (fld w 31 1) (fld w 21 3) (fld w 14 7) (fld w 7 7) (fld w 3 4) (fld w 0 3)) else none
  | 3 => if hits w 0x7F000000 0x63000000 then some (.ld16s (fld w 31 1) (fld w 21 3) (fld w 14 7) (fld w 7 7) (fld w 3 4) (fld w 0 3)) else none
  | 4 => if hits w 0x7F000000 0x64000000 then some (.ld32 (fld w 31 1) (fld w 21 3) (fld w 14 7) (fld w 7 7) (fld w 3 4) (fld w 0 3)) else none
  | 5 => if hits w 0x7F000000 0x65000000 then some (.ld64 (fld w 31 1) (fld w 21 3) (fld w 14 7) (fld w 7 7) (fld w 3 4) (fld w 0 3)) else none
  | 6 => if hits w 0x7F000000 0x66000000 then some (.ld128 (fld w 31 1) (fld w 21 3) (fld w 14 7) (fld w 7 7) (fld w 3 4) (fld w 0 3)) else none
  | 7 => if hits w 0x7F1FC007 0x67000000 then some (.pref (fld w 31 1) (fld w 21 3) (fld w 7 7) (fld w 3 4)) else if hits w 0x7F1FC007 0x67004000 then some (.prefL2 (fld w 31 1) (fld w 21 3) (fld w 7 7) (fld w 3 4)) else if hits w 0x7F1FC007 0x67008000 then some (.evct (fld w 31 1) (fld w 21 3) (fld w 7 7) (fld w 3 4)) else if hits w 0x7F1FC007 0x6700C000 then some (.evctL2 (fld w 31 1) (fld w 21 3) (fld w 7 7) (fld w 3 4)) else none
  | 8 => if hits w 0x7F000007 0x68000000 then some (.st8 (fld w 31 1) (fld w 21 3) (fld w 14 7) (fld w 7 7) (fld w 3 4)) else none
  | 9 => if hits w 0x7F000007 0x69000000 then some (.st16 (fld w 31 1) (fld w 21 3) (fld w 14 7) (fld w 7 7) (fld w 3 4)) else none
  | 10 => if hits w 0x7F000007 0x6A000000 then some (.st32 (fld w 31 1) (fld w 21 3) (fld w 14 7) (fld w 7 7) (fld w 3 4)) else none
  | 11 => if hits w 0x7F000007 0x6B000000 then some (.st64 (fld w 31 1) (fld w 21 3) (fld w 14 7) (fld w 7 7) (fld w 3 4)) else none
  | 12 => if hits w 0x7F000007 0x6C000000 then some (.st128 (fld w 31 1) (fld w 21 3) (fld w 14 7) (fld w 7 7) (fld w 3 4)) else none
  | 13 => if hits w 0x7F000000 0x6D000000 then some (.atom (fld w 31 1) (fld w 21 3) (fld w 14 7) (fld w 7 7) (fld w 3 4) (fld w 0 3)) else none
  | 14 => if hits w 0x7F000078 0x6E000000 then some (.cas (fld w 31 1) (fld w 21 3) (fld w 14 7) (fld w 7 7) (fld w 0 3)) else none
  | 15 => if hits w 0x7F000000 0x6F000000 then some (.red (fld w 31 1) (fld w 21 3) (fld w 14 7) (fld w 7 7) (fld w 3 4) (fld w 0 3)) else none
  | _ => none

/-- Row 0x70 of the opcode map, and the row below it (R274). -/
def pattern7 (op : Nat) (w : Word) : Option Instr :=
  match op with
  | 0 => if hits w 0x7F000000 0x70000000 then some (.lds8 (fld w 31 1) (fld w 21 3) (fld w 14 7) (fld w 7 7) (fld w 4 3) (fld w 3 1) (fld w 0 3)) else none
  | 1 => if hits w 0x7F000000 0x71000000 then some (.lds16 (fld w 31 1) (fld w 21 3) (fld w 14 7) (fld w 7 7) (fld w 4 3) (fld w 3 1) (fld w 0 3)) else none
  | 2 => if hits w 0x7F000000 0x72000000 then some (.lds32 (fld w 31 1) (fld w 21 3) (fld w 14 7) (fld w 7 7) (fld w 4 3) (fld w 3 1) (fld w 0 3)) else none
  | 3 => if hits w 0x7F000000 0x73000000 then some (.lds64 (fld w 31 1) (fld w 21 3) (fld w 14 7) (fld w 7 7) (fld w 4 3) (fld w 3 1) (fld w 0 3)) else none
  | 4 => if hits w 0x7F000000 0x74000000 then some (.lds128 (fld w 31 1) (fld w 21 3) (fld w 14 7) (fld w 7 7) (fld w 4 3) (fld w 3 1) (fld w 0 3)) else none
  | 5 => if hits w 0x7F000007 0x75000000 then some (.sts8 (fld w 31 1) (fld w 21 3) (fld w 14 7) (fld w 7 7) (fld w 4 3) (fld w 3 1)) else none
  | 6 => if hits w 0x7F000007 0x76000000 then some (.sts16 (fld w 31 1) (fld w 21 3) (fld w 14 7) (fld w 7 7) (fld w 4 3) (fld w 3 1)) else none
  | 7 => if hits w 0x7F000007 0x77000000 then some (.sts32 (fld w 31 1) (fld w 21 3) (fld w 14 7) (fld w 7 7) (fld w 4 3) (fld w 3 1)) else none
  | 8 => if hits w 0x7F000007 0x78000000 then some (.sts64 (fld w 31 1) (fld w 21 3) (fld w 14 7) (fld w 7 7) (fld w 4 3) (fld w 3 1)) else none
  | 9 => if hits w 0x7F000007 0x79000000 then some (.sts128 (fld w 31 1) (fld w 21 3) (fld w 14 7) (fld w 7 7) (fld w 4 3) (fld w 3 1)) else none
  | 10 => if hits w 0x7F003F81 0x7A000000 then some (.copy (fld w 31 1) (fld w 21 3) (fld w 14 7) (fld w 4 3) (fld w 1 3)) else if hits w 0x7F003F81 0x7A000001 then some (.rlay (fld w 31 1) (fld w 21 3) (fld w 14 7) (fld w 4 3) (fld w 1 3)) else none
  | 11 => if hits w 0x7F003F81 0x7B000000 then some (.matl (fld w 31 1) (fld w 21 3) (fld w 14 7) (fld w 4 3) (fld w 1 3)) else none
  | 12 => if hits w 0x7F003F81 0x7C000000 then some (.gath (fld w 31 1) (fld w 21 3) (fld w 14 7) (fld w 4 3) (fld w 1 3)) else none
  | 13 => if hits w 0x7F003F81 0x7D000000 then some (.scat (fld w 31 1) (fld w 21 3) (fld w 14 7) (fld w 4 3) (fld w 1 3)) else if hits w 0x7F003F81 0x7D000001 then some (.scatAcc (fld w 31 1) (fld w 21 3) (fld w 14 7) (fld w 4 3) (fld w 1 3)) else none
  | 14 => if hits w 0x7F003F81 0x7E000000 then some (.coll (fld w 31 1) (fld w 21 3) (fld w 14 7) (fld w 4 3) (fld w 1 3)) else none
  | 15 => if hits w 0x7F000001 0x7F000000 then some (.cpyq (fld w 31 1) (fld w 21 3) (fld w 14 7) (fld w 7 7) (fld w 4 3) (fld w 1 3)) else none
  | _ => none

/-- The instruction whose fixed bits a word carries (R274, R276). -/
def pattern (w : Word) : Option Instr :=
  let op := w.toNat / 2 ^ 24 % 128
  match op / 16 with
  | 0 => pattern0 (op % 16) w
  | 1 => pattern1 (op % 16) w
  | 2 => pattern2 (op % 16) w
  | 3 => pattern3 (op % 16) w
  | 4 => pattern4 (op % 16) w
  | 5 => pattern5 (op % 16) w
  | 6 => pattern6 (op % 16) w
  | 7 => pattern7 (op % 16) w
  | _ => none

/-- What a word decodes to: an instruction, or a refusal by name. -/
def decode (w : Word) : Except DecodeErr Instr :=
  match pattern w with
  | none => .error .unassigned
  | some i =>
    match i.check with
    | none => .ok i
    | some e => .error e

/-- decode without the reason of a refusal. -/
def decodeWord (w : Word) : Option Instr :=
  match decode w with
  | .ok i => some i
  | .error _ => none

/-- A word from its four bytes, lowest address first (R3). -/
def wordOfBytes : List Byte → Word
  | b0 :: b1 :: b2 :: b3 :: _ => BitVec.ofNat 32 (b0.toNat + 2 ^ 8 * b1.toNat + 2 ^ 16 * b2.toNat + 2 ^ 24 * b3.toNat)
  | _ => 0

/-- The four bytes of a word, lowest address first (R3). -/
def bytesOfWord (w : Word) : List Byte := [fld w 0 8, fld w 8 8, fld w 16 8, fld w 24 8]

/-- The instruction that the decoder reads from an instruction of the table whose bits are w: every row is one 32-bit word, laid out
as memory holds it (R3, R270) and read back. The table gives the events no bits. -/
def decodeTableWord (nbits w : Nat) : Option Instr :=
  if nbits ≤ 32 then decodeWord (wordOfBytes (bytesOfWord (BitVec.ofNat 32 w))) else none

/-- acc with the field x put at bit lo (R263, R264). -/
def put (acc : Nat) (n : Nat) (x : BitVec n) (lo : Nat) : Nat := acc + x.toNat * 2 ^ lo

/-- A word from its bits. -/
def mkWord (n : Nat) : Option Word := some (BitVec.ofNat 32 n)

/-- The word of an instruction (R260 to R280); an event has none. -/
def encode (i : Instr) : Option Word :=
  match i with
  | .nop c => mkWord (put 0x00000000 1 c 31)
  | .endRun w y l => mkWord (put (put (put 0x01000000 8 w 13) 1 y 12) 4 l 8)
  | .bra c g i => mkWord (put (put (put 0x02000000 1 c 31) 3 g 21) 21 i 0)
  | .call c g i => mkWord (put (put (put 0x03000000 1 c 31) 3 g 21) 21 i 0)
  | .brx c g a => mkWord (put (put (put 0x04000000 1 c 31) 3 g 21) 7 a 7)
  | .exit c g => mkWord (put (put 0x05000000 1 c 31) 3 g 21)
  | .ret c g => mkWord (put (put 0x05000001 1 c 31) 3 g 21)
  | .acqx c => mkWord (put 0x05000002 1 c 31)
  | .relx c => mkWord (put 0x05000003 1 c 31)
  | .brk c g => mkWord (put (put 0x05000004 1 c 31) 3 g 21)
  | .join c g a => mkWord (put (put (put 0x06000000 1 c 31) 3 g 21) 7 a 7)
  | .svc c g a => mkWord (put (put (put 0x07000000 1 c 31) 3 g 21) 7 a 7)
  | .bar c k => mkWord (put (put 0x08000000 1 c 31) 7 k 0)
  | .waitAny c g d a b => mkWord (put (put (put (put (put 0x09000000 1 c 31) 3 g 21) 7 d 14) 7 a 7) 7 b 0)
  | .waitAll c g d a b => mkWord (put (put (put (put (put 0x0A000000 1 c 31) 3 g 21) 7 d 14) 7 a 7) 7 b 0)
  | .arm c g a b => mkWord (put (put (put (put 0x0B000000 1 c 31) 3 g 21) 7 a 7) 7 b 0)
  | .fenceAcq c g s => mkWord (put (put (put 0x0C00000E 1 c 31) 3 g 21) 3 s 4)
  | .fenceRel c g s => mkWord (put (put (put 0x0C000070 1 c 31) 3 g 21) 3 s 1)
  | .fenceAr c g s r => mkWord (put (put (put (put 0x0C000000 1 c 31) 3 g 21) 3 s 4) 3 r 1)
  | .phase c g s r => mkWord (put (put (put (put 0x0D000000 1 c 31) 3 g 21) 3 s 4) 3 r 1)
  | .emit c g a => mkWord (put (put (put 0x0E000000 1 c 31) 3 g 21) 7 a 7)
  | .post c g a => mkWord (put (put (put 0x0E000010 1 c 31) 3 g 21) 7 a 7)
  | .eacc c g a t => mkWord (put (put (put (put 0x0E000020 1 c 31) 3 g 21) 7 a 7) 4 t 0)
  | .kext p => mkWord (put 0x0F000000 24 p 0)
  | .iadd c g d a b => mkWord (put (put (put (put (put 0x10000000 1 c 31) 3 g 21) 7 d 14) 7 a 7) 7 b 0)
  | .isub c g d a b => mkWord (put (put (put (put (put 0x11000000 1 c 31) 3 g 21) 7 d 14) 7 a 7) 7 b 0)
  | .imul c g d a b => mkWord (put (put (put (put (put 0x12000000 1 c 31) 3 g 21) 7 d 14) 7 a 7) 7 b 0)
  | .imad c g d a b => mkWord (put (put (put (put (put 0x13000000 1 c 31) 3 g 21) 7 d 14) 7 a 7) 7 b 0)
  | .imulhS32 c g d a b => mkWord (put (put (put (put (put 0x14000000 1 c 31) 3 g 21) 7 d 14) 7 a 7) 7 b 0)
  | .imulhN32 c g d a b => mkWord (put (put (put (put (put 0x15000000 1 c 31) 3 g 21) 7 d 14) 7 a 7) 7 b 0)
  | .idivS32 c g d a b => mkWord (put (put (put (put (put 0x16000000 1 c 31) 3 g 21) 7 d 14) 7 a 7) 7 b 0)
  | .idivN32 c g d a b => mkWord (put (put (put (put (put 0x17000000 1 c 31) 3 g 21) 7 d 14) 7 a 7) 7 b 0)
  | .iremS32 c g d a b => mkWord (put (put (put (put (put 0x18000000 1 c 31) 3 g 21) 7 d 14) 7 a 7) 7 b 0)
  | .iremN32 c g d a b => mkWord (put (put (put (put (put 0x19000000 1 c 31) 3 g 21) 7 d 14) 7 a 7) 7 b 0)
  | .iminS32 c g d a b => mkWord (put (put (put (put (put 0x1A000000 1 c 31) 3 g 21) 7 d 14) 7 a 7) 7 b 0)
  | .iminN32 c g d a b => mkWord (put (put (put (put (put 0x1B000000 1 c 31) 3 g 21) 7 d 14) 7 a 7) 7 b 0)
  | .imaxS32 c g d a b => mkWord (put (put (put (put (put 0x1C000000 1 c 31) 3 g 21) 7 d 14) 7 a 7) 7 b 0)
  | .imaxN32 c g d a b => mkWord (put (put (put (put (put 0x1D000000 1 c 31) 3 g 21) 7 d 14) 7 a 7) 7 b 0)
  | .movi c g d i => mkWord (put (put (put (put 0x1E000000 1 c 31) 3 g 21) 7 d 14) 7 i 0)
  | .mov c g d a => mkWord (put (put (put (put 0x1F000000 1 c 31) 3 g 21) 7 d 14) 7 a 7)
  | .iabs c g d a => mkWord (put (put (put (put 0x1F000001 1 c 31) 3 g 21) 7 d 14) 7 a 7)
  | .ineg c g d a => mkWord (put (put (put (put 0x1F000002 1 c 31) 3 g 21) 7 d 14) 7 a 7)
  | .popc c g d a => mkWord (put (put (put (put 0x1F000003 1 c 31) 3 g 21) 7 d 14) 7 a 7)
  | .clz c g d a => mkWord (put (put (put (put 0x1F000004 1 c 31) 3 g 21) 7 d 14) 7 a 7)
  | .ctz c g d a => mkWord (put (put (put (put 0x1F000005 1 c 31) 3 g 21) 7 d 14) 7 a 7)
  | .brev c g d a => mkWord (put (put (put (put 0x1F000006 1 c 31) 3 g 21) 7 d 14) 7 a 7)
  | .andW c g d a b => mkWord (put (put (put (put (put 0x20000000 1 c 31) 3 g 21) 7 d 14) 7 a 7) 7 b 0)
  | .orW c g d a b => mkWord (put (put (put (put (put 0x21000000 1 c 31) 3 g 21) 7 d 14) 7 a 7) 7 b 0)
  | .xor c g d a b => mkWord (put (put (put (put (put 0x22000000 1 c 31) 3 g 21) 7 d 14) 7 a 7) 7 b 0)
  | .andn c g d a b => mkWord (put (put (put (put (put 0x23000000 1 c 31) 3 g 21) 7 d 14) 7 a 7) 7 b 0)
  | .shl c g d a b => mkWord (put (put (put (put (put 0x24000000 1 c 31) 3 g 21) 7 d 14) 7 a 7) 7 b 0)
  | .shr c g d a b => mkWord (put (put (put (put (put 0x25000000 1 c 31) 3 g 21) 7 d 14) 7 a 7) 7 b 0)
  | .sar c g d a b => mkWord (put (put (put (put (put 0x26000000 1 c 31) 3 g 21) 7 d 14) 7 a 7) 7 b 0)
  | .rotl c g d a b => mkWord (put (put (put (put (put 0x27000000 1 c 31) 3 g 21) 7 d 14) 7 a 7) 7 b 0)
  | .bfxN32 c g d a b => mkWord (put (put (put (put (put 0x28000000 1 c 31) 3 g 21) 7 d 14) 7 a 7) 7 b 0)
  | .bfxS32 c g d a b => mkWord (put (put (put (put (put 0x29000000 1 c 31) 3 g 21) 7 d 14) 7 a 7) 7 b 0)
  | .bfi c g d a b => mkWord (put (put (put (put (put 0x2A000000 1 c 31) 3 g 21) 7 d 14) 7 a 7) 7 b 0)
  | .sel c g d a b => mkWord (put (put (put (put (put 0x2B000000 1 c 31) 3 g 21) 7 d 14) 7 a 7) 7 b 0)
  | .icmp c t cc a b => mkWord (put (put (put (put (put 0x2C000000 1 c 31) 1 t 17) 3 cc 14) 7 a 7) 7 b 0)
  | .fcmp c cc a b => mkWord (put (put (put (put 0x2C100000 1 c 31) 3 cc 14) 7 a 7) 7 b 0)
  | .ppop c => mkWord (put 0x2D000000 1 c 31)
  | .pdup c => mkWord (put 0x2D000001 1 c 31)
  | .pswp c => mkWord (put 0x2D000002 1 c 31)
  | .pand c => mkWord (put 0x2D000003 1 c 31)
  | .por c => mkWord (put 0x2D000004 1 c 31)
  | .pxor c => mkWord (put 0x2D000005 1 c 31)
  | .prd c d => mkWord (put (put 0x2D000006 1 c 31) 7 d 14)
  | .pwr c a => mkWord (put (put 0x2D000007 1 c 31) 7 a 7)
  | .srd c g d s => mkWord (put (put (put (put 0x2E000000 1 c 31) 3 g 21) 7 d 14) 14 s 0)
  | .swr c g s a => mkWord (put (put (put (put 0x2F000000 1 c 31) 3 g 21) 14 s 7) 7 a 0)
  | .fadd c r g d a b => mkWord (put (put (put (put (put (put 0x30000000 1 c 31) 2 r 24) 3 g 21) 7 d 14) 7 a 7) 7 b 0)
  | .fsub c r g d a b => mkWord (put (put (put (put (put (put 0x34000000 1 c 31) 2 r 24) 3 g 21) 7 d 14) 7 a 7) 7 b 0)
  | .fmul c r g d a b => mkWord (put (put (put (put (put (put 0x38000000 1 c 31) 2 r 24) 3 g 21) 7 d 14) 7 a 7) 7 b 0)
  | .fma c r g d a b => mkWord (put (put (put (put (put (put 0x3C000000 1 c 31) 2 r 24) 3 g 21) 7 d 14) 7 a 7) 7 b 0)
  | .fmin c g d a b => mkWord (put (put (put (put (put 0x40000000 1 c 31) 3 g 21) 7 d 14) 7 a 7) 7 b 0)
  | .fmax c g d a b => mkWord (put (put (put (put (put 0x41000000 1 c 31) 3 g 21) 7 d 14) 7 a 7) 7 b 0)
  | .fscl c g d a b => mkWord (put (put (put (put (put 0x42000000 1 c 31) 3 g 21) 7 d 14) 7 a 7) 7 b 0)
  | .frcp c g d a k => mkWord (put (put (put (put (put 0x43000000 1 c 31) 3 g 21) 7 d 14) 7 a 7) 3 k 0)
  | .frsq c g d a k => mkWord (put (put (put (put (put 0x43000008 1 c 31) 3 g 21) 7 d 14) 7 a 7) 3 k 0)
  | .fsqrt c g d a k => mkWord (put (put (put (put (put 0x43000010 1 c 31) 3 g 21) 7 d 14) 7 a 7) 3 k 0)
  | .fex2 c g d a k => mkWord (put (put (put (put (put 0x43000018 1 c 31) 3 g 21) 7 d 14) 7 a 7) 3 k 0)
  | .flg2 c g d a k => mkWord (put (put (put (put (put 0x43000020 1 c 31) 3 g 21) 7 d 14) 7 a 7) 3 k 0)
  | .fsin c g d a k => mkWord (put (put (put (put (put 0x43000028 1 c 31) 3 g 21) 7 d 14) 7 a 7) 3 k 0)
  | .fcos c g d a k => mkWord (put (put (put (put (put 0x43000030 1 c 31) 3 g 21) 7 d 14) 7 a 7) 3 k 0)
  | .fcls c g d a k => mkWord (put (put (put (put (put 0x43000038 1 c 31) 3 g 21) 7 d 14) 7 a 7) 3 k 0)
  | .cvtS32F32 c g d a r => mkWord (put (put (put (put (put 0x44000000 1 c 31) 3 g 21) 7 d 14) 7 a 7) 3 r 4)
  | .cvtN32F32 c g d a r => mkWord (put (put (put (put (put 0x44000001 1 c 31) 3 g 21) 7 d 14) 7 a 7) 3 r 4)
  | .cvtF32S32 c g d a r => mkWord (put (put (put (put (put 0x44000002 1 c 31) 3 g 21) 7 d 14) 7 a 7) 3 r 4)
  | .cvtF32N32 c g d a r => mkWord (put (put (put (put (put 0x44000003 1 c 31) 3 g 21) 7 d 14) 7 a 7) 3 r 4)
  | .cvti c g d a r => mkWord (put (put (put (put (put 0x44000004 1 c 31) 3 g 21) 7 d 14) 7 a 7) 3 r 4)
  | .pack c g d a i => mkWord (put (put (put (put (put 0x45000000 1 c 31) 3 g 21) 7 d 14) 7 a 7) 7 i 0)
  | .unpk c g d a i => mkWord (put (put (put (put (put 0x46000000 1 c 31) 3 g 21) 7 d 14) 7 a 7) 7 i 0)
  | .shfl c g d a t k => mkWord (put (put (put (put (put (put 0x47000000 1 c 31) 3 g 21) 7 d 14) 7 a 7) 4 t 3) 3 k 0)
  | .vote c g d a f k => mkWord (put (put (put (put (put (put 0x48000000 1 c 31) 3 g 21) 7 d 14) 7 a 7) 4 f 3) 3 k 0)
  | .redx c g d a f k => mkWord (put (put (put (put (put (put 0x49000000 1 c 31) 3 g 21) 7 d 14) 7 a 7) 4 f 3) 3 k 0)
  | .scan c g d a f k => mkWord (put (put (put (put (put (put 0x4A000000 1 c 31) 3 g 21) 7 d 14) 7 a 7) 4 f 3) 3 k 0)
  | .matchW c g d a k => mkWord (put (put (put (put (put 0x4B000000 1 c 31) 3 g 21) 7 d 14) 7 a 7) 3 k 0)
  | .matchF c g d a k => mkWord (put (put (put (put (put 0x4B000008 1 c 31) 3 g 21) 7 d 14) 7 a 7) 3 k 0)
  | .qual w p m s => mkWord (put (put (put (put 0x4C000000 3 w 9) 3 p 6) 3 m 3) 3 s 0)
  | .trd c g d a n k => mkWord (put (put (put (put (put (put 0x4D000000 1 c 31) 3 g 21) 7 d 14) 7 a 7) 4 n 3) 3 k 0)
  | .thrd c g d a n => mkWord (put (put (put (put (put 0x4E000000 1 c 31) 3 g 21) 7 d 14) 7 a 7) 4 n 0)
  | .thwr c g d a n => mkWord (put (put (put (put (put 0x4E000010 1 c 31) 3 g 21) 7 d 14) 7 a 7) 4 n 0)
  | .scrd c g d n => mkWord (put (put (put (put 0x4E000020 1 c 31) 3 g 21) 7 d 14) 3 n 0)
  | .scwr c g d n => mkWord (put (put (put (put 0x4E000030 1 c 31) 3 g 21) 7 d 14) 3 n 0)
  | .talloc c n => mkWord (put (put 0x4E000040 1 c 31) 4 n 0)
  | .tfree c g n => mkWord (put (put (put 0x4E000050 1 c 31) 3 g 21) 4 n 0)
  | .twr c g d a n => mkWord (put (put (put (put (put 0x4E000060 1 c 31) 3 g 21) 7 d 14) 7 a 7) 4 n 0)
  | .tq c g a q l => mkWord (put (put (put (put (put 0x4F000000 1 c 31) 3 g 21) 7 a 14) 3 q 4) 3 l 1)
  | .paddB4 c g d a b => mkWord (put (put (put (put (put 0x50000000 1 c 31) 3 g 21) 7 d 14) 7 a 7) 7 b 0)
  | .psubB4 c g d a b => mkWord (put (put (put (put (put 0x51000000 1 c 31) 3 g 21) 7 d 14) 7 a 7) 7 b 0)
  | .pmulB4 c g d a b => mkWord (put (put (put (put (put 0x52000000 1 c 31) 3 g 21) 7 d 14) 7 a 7) 7 b 0)
  | .pminB4 c g d a b => mkWord (put (put (put (put (put 0x53000000 1 c 31) 3 g 21) 7 d 14) 7 a 7) 7 b 0)
  | .pmaxB4 c g d a b => mkWord (put (put (put (put (put 0x54000000 1 c 31) 3 g 21) 7 d 14) 7 a 7) 7 b 0)
  | .pshlB4 c g d a b => mkWord (put (put (put (put (put 0x55000000 1 c 31) 3 g 21) 7 d 14) 7 a 7) 7 b 0)
  | .pshrB4 c g d a b => mkWord (put (put (put (put (put 0x56000000 1 c 31) 3 g 21) 7 d 14) 7 a 7) 7 b 0)
  | .psarB4 c g d a b => mkWord (put (put (put (put (put 0x57000000 1 c 31) 3 g 21) 7 d 14) 7 a 7) 7 b 0)
  | .paddH2 c g d a b => mkWord (put (put (put (put (put 0x58000000 1 c 31) 3 g 21) 7 d 14) 7 a 7) 7 b 0)
  | .psubH2 c g d a b => mkWord (put (put (put (put (put 0x59000000 1 c 31) 3 g 21) 7 d 14) 7 a 7) 7 b 0)
  | .pmulH2 c g d a b => mkWord (put (put (put (put (put 0x5A000000 1 c 31) 3 g 21) 7 d 14) 7 a 7) 7 b 0)
  | .pminH2 c g d a b => mkWord (put (put (put (put (put 0x5B000000 1 c 31) 3 g 21) 7 d 14) 7 a 7) 7 b 0)
  | .pmaxH2 c g d a b => mkWord (put (put (put (put (put 0x5C000000 1 c 31) 3 g 21) 7 d 14) 7 a 7) 7 b 0)
  | .pshlH2 c g d a b => mkWord (put (put (put (put (put 0x5D000000 1 c 31) 3 g 21) 7 d 14) 7 a 7) 7 b 0)
  | .pshrH2 c g d a b => mkWord (put (put (put (put (put 0x5E000000 1 c 31) 3 g 21) 7 d 14) 7 a 7) 7 b 0)
  | .psarH2 c g d a b => mkWord (put (put (put (put (put 0x5F000000 1 c 31) 3 g 21) 7 d 14) 7 a 7) 7 b 0)
  | .ld8 c g d b o k => mkWord (put (put (put (put (put (put 0x60000000 1 c 31) 3 g 21) 7 d 14) 7 b 7) 4 o 3) 3 k 0)
  | .ld8s c g d b o k => mkWord (put (put (put (put (put (put 0x61000000 1 c 31) 3 g 21) 7 d 14) 7 b 7) 4 o 3) 3 k 0)
  | .ld16 c g d b o k => mkWord (put (put (put (put (put (put 0x62000000 1 c 31) 3 g 21) 7 d 14) 7 b 7) 4 o 3) 3 k 0)
  | .ld16s c g d b o k => mkWord (put (put (put (put (put (put 0x63000000 1 c 31) 3 g 21) 7 d 14) 7 b 7) 4 o 3) 3 k 0)
  | .ld32 c g d b o k => mkWord (put (put (put (put (put (put 0x64000000 1 c 31) 3 g 21) 7 d 14) 7 b 7) 4 o 3) 3 k 0)
  | .ld64 c g d b o k => mkWord (put (put (put (put (put (put 0x65000000 1 c 31) 3 g 21) 7 d 14) 7 b 7) 4 o 3) 3 k 0)
  | .ld128 c g d b o k => mkWord (put (put (put (put (put (put 0x66000000 1 c 31) 3 g 21) 7 d 14) 7 b 7) 4 o 3) 3 k 0)
  | .pref c g b o => mkWord (put (put (put (put 0x67000000 1 c 31) 3 g 21) 7 b 7) 4 o 3)
  | .prefL2 c g b o => mkWord (put (put (put (put 0x67004000 1 c 31) 3 g 21) 7 b 7) 4 o 3)
  | .evct c g b o => mkWord (put (put (put (put 0x67008000 1 c 31) 3 g 21) 7 b 7) 4 o 3)
  | .evctL2 c g b o => mkWord (put (put (put (put 0x6700C000 1 c 31) 3 g 21) 7 b 7) 4 o 3)
  | .st8 c g s b o => mkWord (put (put (put (put (put 0x68000000 1 c 31) 3 g 21) 7 s 14) 7 b 7) 4 o 3)
  | .st16 c g s b o => mkWord (put (put (put (put (put 0x69000000 1 c 31) 3 g 21) 7 s 14) 7 b 7) 4 o 3)
  | .st32 c g s b o => mkWord (put (put (put (put (put 0x6A000000 1 c 31) 3 g 21) 7 s 14) 7 b 7) 4 o 3)
  | .st64 c g s b o => mkWord (put (put (put (put (put 0x6B000000 1 c 31) 3 g 21) 7 s 14) 7 b 7) 4 o 3)
  | .st128 c g s b o => mkWord (put (put (put (put (put 0x6C000000 1 c 31) 3 g 21) 7 s 14) 7 b 7) 4 o 3)
  | .atom c g d b o t => mkWord (put (put (put (put (put (put 0x6D000000 1 c 31) 3 g 21) 7 d 14) 7 b 7) 4 o 3) 3 t 0)
  | .cas c g d b t => mkWord (put (put (put (put (put 0x6E000000 1 c 31) 3 g 21) 7 d 14) 7 b 7) 3 t 0)
  | .red c g d b o t => mkWord (put (put (put (put (put (put 0x6F000000 1 c 31) 3 g 21) 7 d 14) 7 b 7) 4 o 3) 3 t 0)
  | .lds8 c g d b w f k => mkWord (put (put (put (put (put (put (put 0x70000000 1 c 31) 3 g 21) 7 d 14) 7 b 7) 3 w 4) 1 f 3) 3 k 0)
  | .lds16 c g d b w f k => mkWord (put (put (put (put (put (put (put 0x71000000 1 c 31) 3 g 21) 7 d 14) 7 b 7) 3 w 4) 1 f 3) 3 k 0)
  | .lds32 c g d b w f k => mkWord (put (put (put (put (put (put (put 0x72000000 1 c 31) 3 g 21) 7 d 14) 7 b 7) 3 w 4) 1 f 3) 3 k 0)
  | .lds64 c g d b w f k => mkWord (put (put (put (put (put (put (put 0x73000000 1 c 31) 3 g 21) 7 d 14) 7 b 7) 3 w 4) 1 f 3) 3 k 0)
  | .lds128 c g d b w f k => mkWord (put (put (put (put (put (put (put 0x74000000 1 c 31) 3 g 21) 7 d 14) 7 b 7) 3 w 4) 1 f 3) 3 k 0)
  | .sts8 c g s b w f => mkWord (put (put (put (put (put (put 0x75000000 1 c 31) 3 g 21) 7 s 14) 7 b 7) 3 w 4) 1 f 3)
  | .sts16 c g s b w f => mkWord (put (put (put (put (put (put 0x76000000 1 c 31) 3 g 21) 7 s 14) 7 b 7) 3 w 4) 1 f 3)
  | .sts32 c g s b w f => mkWord (put (put (put (put (put (put 0x77000000 1 c 31) 3 g 21) 7 s 14) 7 b 7) 3 w 4) 1 f 3)
  | .sts64 c g s b w f => mkWord (put (put (put (put (put (put 0x78000000 1 c 31) 3 g 21) 7 s 14) 7 b 7) 3 w 4) 1 f 3)
  | .sts128 c g s b w f => mkWord (put (put (put (put (put (put 0x79000000 1 c 31) 3 g 21) 7 s 14) 7 b 7) 3 w 4) 1 f 3)
  | .copy c g a q l => mkWord (put (put (put (put (put 0x7A000000 1 c 31) 3 g 21) 7 a 14) 3 q 4) 3 l 1)
  | .rlay c g a q l => mkWord (put (put (put (put (put 0x7A000001 1 c 31) 3 g 21) 7 a 14) 3 q 4) 3 l 1)
  | .matl c g a q l => mkWord (put (put (put (put (put 0x7B000000 1 c 31) 3 g 21) 7 a 14) 3 q 4) 3 l 1)
  | .gath c g a q l => mkWord (put (put (put (put (put 0x7C000000 1 c 31) 3 g 21) 7 a 14) 3 q 4) 3 l 1)
  | .scat c g a q l => mkWord (put (put (put (put (put 0x7D000000 1 c 31) 3 g 21) 7 a 14) 3 q 4) 3 l 1)
  | .scatAcc c g a q l => mkWord (put (put (put (put (put 0x7D000001 1 c 31) 3 g 21) 7 a 14) 3 q 4) 3 l 1)
  | .coll c g a q l => mkWord (put (put (put (put (put 0x7E000000 1 c 31) 3 g 21) 7 a 14) 3 q 4) 3 l 1)
  | .cpyq c g a b q l => mkWord (put (put (put (put (put (put 0x7F000000 1 c 31) 3 g 21) 7 a 14) 7 b 7) 3 q 4) 3 l 1)
  | .packageReset => none
  | .railOutOfLimits => none
  | .railSettledTimer => none
  | .islandWrite => none
  | .islandChangeComplete => none
  | .tcolSample => none
  | .thermalThrottle => none
  | .tcolHotClear => none
  | .flitSend => none
  | .flitReceive => none
  | .flitReplay => none
  | .keyUpdateStart => none
  | .keyExpire => none
  | .linkPeerDetected => none
  | .linkTrainingComplete => none
  | .linkTrainingTimeout => none
  | .linkSessionEstablished => none
  | .linkKeyingFail => none
  | .linkKeyingTimeout => none
  | .linkSessionAttemptFail => none
  | .linkRetryTimer => none
  | .keyUpdateComplete => none
  | .linkSessionExpire => none
  | .linkDrainComplete => none
  | .linkPortReset => none
  | .hostLinkTrainingComplete => none
  | .hdmbaseWrite => none
  | .hdmsizeWrite => none
  | .cxlmemRequest => none
  | .registerWrite => none
  | .hartidWrite => none
  | .bridgePackageRead => none
  | .bridgePackageStore => none
  | .bridgeGrant => none
  | .bridgeMscEviction => none
  | .hostSnpinv => none
  | .hostSnpdata => none
  | .hostSnpcur => none
  | .tenantModesWrite => none
  | .tenantSetOn => none
  | .tenantSetOff => none
  | .tenantRecordWrite => none
  | .hreqbaseWrite => none
  | .hfltbaseWrite => none
  | .hreqheadWrite => none
  | .hfltheadWrite => none
  | .hearthRestart => none
  | .bootStart => none
  | .bootCxlReady => none
  | .bootCxlTimeout => none
  | .bootHeaderFetched => none
  | .bootBodyFetched => none
  | .measExtend => none
  | .firmwareReady => none
  | .imageLineUe => none
  | .recoveryReloadComplete => none
  | .doorbellSetTail => none
  | .doorbellOpen => none
  | .doorbellClose => none
  | .doorbellCmd3 => none
  | .launchRecord => none
  | .controlRecord => none
  | .queueHeadRetry => none
  | .launchComplete => none
  | .heartbeatRequest => none
  | .heartbeatTimeout => none
  | .keyInstall => none
  | .keyRemove => none
  | .worldRetire => none
  | .worldScrubComplete => none
  | .worldAbort => none
  | .tdispLeaveRun => none
  | .l1FillReturn => none
  | .l1Update => none
  | .l1Invalidation => none
  | .dirReadMiss => none
  | .dirStore => none
  | .dirAck => none
  | .dirEvictionNotice => none
  | .l2Victim => none
  | .homeStore => none
  | .l2HomeUpdate => none
  | .homeAck => none
  | .storeAck => none
  | .mscVictim => none
  | .worldLineHandover => none
  | .storeEntryDrainComplete => none
  | .releaseComplete => none
  | .softError => none
  | .patrolScrub => none
  | .hsctlWrite => none
  | .aliasRecord => none
  | .aliasResolve => none
  | .aliasResolveReply => none
  | .mark => none
  | .marked => none
  | .holdRelease => none
  | .srcw => none
  | .srcack => none
  | .hotMaterialise => none
  | .catctlWrite => none
  | .pageWalkComplete => none
  | .faultEntryWaitFree => none
  | .freplyRetry => none
  | .freplyKill => none
  | .atsTranslationCompletion => none
  | .prgResponse => none
  | .atsInvalidationRequest => none
  | .shootdownStart => none
  | .shootdownDrainComplete => none
  | .dtinvWrite => none
  | .regionWriteback => none
  | .tcbPlace => none
  | .tcbBind => none
  | .stealRequest => none
  | .stealServe => none
  | .stealRetryTimer => none
  | .preemptTimer => none
  | .preemptSave => none
  | .groupRestore => none
  | .gangPark => none
  | .runStart => none
  | .tokenComplete => none
  | .atomicReturn => none
  | .watchdogExpire => none
  | .arrivalDelivery => none
  | .waitTimeout => none
  | .graphGangForm => none
  | .partialGangTimer => none
  | .rebalanceTimer => none
  | .waveEnd => none
  | .gstepWrite => none
  | .gstepWaveTimer => none
  | .contributionArrive => none
  | .stopArrive => none
  | .estselWrite => none
  | .svcReply => none
  | .anvilStep => none
  | .tileTaskComplete => none
  | .engineCommandComplete => none
  | .cpyqEntryStart => none
  | .collMatch => none
  | .collComplete => none
  | .svcringWrite => none
  | .svcheadWrite => none
  | .svrplyWrite => none
  | .svrgo => none
  | .placepinWrite => none
  | .nbctlWrite => none
  | .nbAttach => none
  | .nbSetbp => none
  | .nbClrbp => none
  | .nbSetwp => none
  | .nbClrwp => none
  | .nbHalt => none
  | .nbStep => none
  | .nbResume => none
  | .nbDetach => none
  | .nbBadcmd => none
  | .tdispEnterRun => none
  | .spdmKeyExchange => none
  | .hdmDecoderCommit => none

end Sys2Proof
end

