-- ==== Sys2Proof/Config.lean ====
section
/-! DEFINITION. What the spec leaves open: constants without a value. Nothing can be proved of them but what holds of every value, so a
statement that mentions one holds for every implementation (logs 1, 4, 8). -/

namespace Sys2Proof

/-- Periods of 1.7 GHz that pass before the n-th step: the spec fixes no duration (log 1). -/
opaque Config.elapsed : Nat → Nat

/-- Byte n of the secret drawn at the k-th package reset (R75; log 8). -/
opaque Config.secretByte : Nat → Nat → Byte

/-- Byte n of the SM3 hash of the boot ROM, fixed at manufacture (R49; log 8). -/
opaque Config.romHashByte : Nat → Byte

/-- The fused minimum security version (R49; log 8). -/
opaque Config.minSvn : Nat

/-- A free 32-bit value for an operand the spec gives no result for, from a fresh number (log 11). -/
opaque Config.freeWord : Nat → Word

/-- The Holt port over which traffic from one node to another leaves (R29, R87; log 18). -/
opaque Config.holtPort : Nat → Nat → Nat

/-- Physical tile registers of an Anvil: the spec gives no number (R353; log 19). -/
opaque Config.anvilTiles : Nat

/-- The n-th reading of the sensors of a column (R23; log 75). -/
opaque Config.reading : Nat → Nat → Nat

/-- The destination of unit j of what a collective sends to a rank of another package: that package knows it, this one does not (R86; log 87). -/
opaque Config.farPa : Nat → Nat → Nat → Nat

/-- Flits that the n-th message over a bridge takes: the spec gives no layout of payloads (R25; log 81). -/
opaque Config.flits : Nat → Nat

/-- The payload of the n-th flit of the package's own traffic over a bridge: the spec gives no layout of payloads (R25; log 81). -/
opaque Config.payload : Nat → List Byte

/-- How often the n-th flit over a bridge arrives damaged (R26; log 81). -/
opaque Config.noise : Nat → Nat

/-- Periods of 1.7 GHz for which a rail that has left its limits stays outside them: the spec gives none (R19; log 93). -/
opaque Config.railAway : Nat → Nat

/-- The Reeve-private address of the record indices of a graph gang's TCB: the spec gives no address (R166; log 91). -/
opaque Config.recList : Nat → DWord

/-- The device secret after the k-th reset. -/
def Config.secret (k : Nat) : List Byte := (List.range 32).map (Config.secretByte k)

/-- The hash of the boot ROM. -/
def Config.romHash : List Byte := (List.range 32).map Config.romHashByte

end Sys2Proof
end

