-- ==== Sys2Proof/Machine/Maps.lean ====
section
/-! DEFINITION. The containers of the state: sparse maps in canonical form, keyed tables, and the byte order of R3. -/

namespace Sys2Proof.Machine

open Sys2Proof

/-! ## Sparse maps -/

/-- The value at k; d where k is not listed. -/
def nget {α : Type} (d : α) (m : NMap α) (k : Nat) : α :=
  match m with
  | [] => d
  | (j, x) :: t => if j = k then x else nget d t k

/-- The map without an entry at k. -/
def nerase {α : Type} (k : Nat) (m : NMap α) : NMap α :=
  match m with
  | [] => []
  | (j, x) :: t => if j = k then nerase k t else (j, x) :: nerase k t

/-- The map with x put in its place by key. -/
def ninsert {α : Type} (k : Nat) (x : α) (m : NMap α) : NMap α :=
  match m with
  | [] => [(k, x)]
  | (j, y) :: t => if k < j then (k, x) :: (j, y) :: t else (j, y) :: ninsert k x t

/-- The map with the value x at k; writing d removes the entry. -/
def nset {α : Type} [DecidableEq α] (d : α) (m : NMap α) (k : Nat) (x : α) : NMap α :=
  if x = d then nerase k m else ninsert k x (nerase k m)

/-- Keys rise strictly and no entry holds d, from the key lo on. -/
def nwfFrom {α : Type} [DecidableEq α] (d : α) (lo : Nat) (m : NMap α) : Bool :=
  match m with
  | [] => true
  | (j, x) :: t => decide (lo ≤ j) && decide (x ≠ d) && nwfFrom d (j + 1) t

/-- The canonical form of a sparse map. -/
def nwf {α : Type} [DecidableEq α] (d : α) (m : NMap α) : Bool := nwfFrom d 0 m

/-! ## Keyed tables -/

/-- The entry at k. -/
def tget {κ α : Type} [DecidableEq κ] (m : Tab κ α) (k : κ) : Option α :=
  match m with
  | [] => none
  | (j, x) :: t => if j = k then some x else tget t k

/-- The table without k. -/
def tdel {κ α : Type} [DecidableEq κ] (m : Tab κ α) (k : κ) : Tab κ α := m.filter (fun e => !decide (e.1 = k))

/-- The table with x at k. -/
def tset {κ α : Type} [DecidableEq κ] (m : Tab κ α) (k : κ) (x : α) : Tab κ α := (k, x) :: tdel m k

/-! ## Bytes -/

/-- The number that bytes hold, lowest address first (R3). -/
def leNat : List Byte → Nat
  | [] => 0
  | b :: t => b.toNat + 256 * leNat t

/-- The n low bytes of a number, lowest address first (R3). -/
def leBytes : Nat → Nat → List Byte
  | 0, _ => []
  | n + 1, x => BitVec.ofNat 8 x :: leBytes n (x / 256)

/-- Bytes [off + n - 1 : off] of a record (R3). -/
def cut (l : List Byte) (off n : Nat) : List Byte := (l.drop off).take n

/-- The field in bytes [off + n - 1 : off] of a record. -/
def fieldOf (l : List Byte) (off n : Nat) : Nat := leNat (cut l off n)

/-- n zero bytes. -/
def zeros (n : Nat) : List Byte := List.replicate n 0

/-- l with its bytes from off on replaced by new, within its length. -/
def overlay (l : List Byte) (off : Nat) (new : List Byte) : List Byte :=
  l.take off ++ new.take (l.length - off) ++ l.drop (off + new.length)

/-- Bits [hi : lo] of a number. -/
def bits (x hi lo : Nat) : Nat := x / 2 ^ lo % 2 ^ (hi + 1 - lo)

/-- Bit i of a number. -/
def bit (x i : Nat) : Bool := x / 2 ^ i % 2 == 1

/-- x with bits [hi : lo] replaced by v. -/
def setBits (x hi lo v : Nat) : Nat :=
  x % 2 ^ lo + (v % 2 ^ (hi + 1 - lo)) * 2 ^ lo + x / 2 ^ (hi + 1) * 2 ^ (hi + 1)

/-- x with bit i set, or cleared. -/
def setBit (x i : Nat) (b : Bool) : Nat := setBits x i i (if b then 1 else 0)

/-- The lanes of a mask, rising. -/
def lanesOf (mask : Nat) : List Nat := (List.range 32).filter (fun l => bit mask l)

/-- The mask of a list of lanes. -/
def maskOf (l : List Nat) : Nat := l.foldl (fun m i => setBit m i true) 0

/-- The least power of two exponent with 2 ^ m at or above n (by fuel). -/
def log2Up (n : Nat) : Nat := ((List.range 65).find? (fun m => decide (n ≤ 2 ^ m))).getD 64

/-- n divided by k, rounded up. -/
def ceilDiv (n k : Nat) : Nat := (n + k - 1) / k

/-- A number as a two's-complement integer of w bits (n32's signed twin, R282). -/
def asInt (w x : Nat) : Int := if bit x (w - 1) then (x % 2 ^ w : Nat) - (2 ^ w : Nat) else ((x % 2 ^ w : Nat) : Int)

/-- An integer modulo 2 ^ w. -/
def ofInt (w : Nat) (x : Int) : Nat := (x % (2 ^ w : Nat)).toNat

/-- A list with the entry at i changed. -/
def modAt {α : Type} (l : List α) (i : Nat) (f : α → α) : List α :=
  match l, i with
  | [], _ => []
  | x :: t, 0 => f x :: t
  | x :: t, i + 1 => x :: modAt t i f

/-- x put into a list that rises by a key, after its equals. -/
def insertBy {α : Type} (key : α → Nat) (x : α) : List α → List α
  | [] => [x]
  | y :: t => if key x < key y then x :: y :: t else y :: insertBy key x t

/-- A list in rising order of a key; equals keep their order. -/
def sortBy {α : Type} (key : α → Nat) (l : List α) : List α := l.foldl (fun s x => insertBy key x s) []

/-- The bytes of a patch laid over a line. -/
def patchLine (data : List Byte) (p : List (Nat × Byte)) : List Byte :=
  p.foldl (fun d e => modAt d e.1 (fun _ => e.2)) data

/-- The patch that bytes at an offset make. -/
def patchOf (off : Nat) (bytes : List Byte) : List (Nat × Byte) := (List.range bytes.length).zip bytes |>.map (fun e => (off + e.1, e.2))

/-- The two patches in one, the newer winning. -/
def patchJoin (old new : List (Nat × Byte)) : List (Nat × Byte) :=
  old.filter (fun e => !(new.any (fun f => f.1 == e.1))) ++ new

/-- The 64-bit words of a line that a patch covers in full (R106). -/
def fullWords (p : List (Nat × Byte)) : List Nat :=
  (List.range 16).filter (fun w => (List.range 8).all (fun i => p.any (fun e => e.1 == 8 * w + i)))

end Sys2Proof.Machine
end

