-- ==== Sys2Proof/Machine/Event.lean ====
section
/-! DEFINITION. The messages of the events: which objects an event concerns and what data comes with it. A message stands in
State.ctl.agenda from the moment it is sent (or comes in from outside) until the event happens, and in State.ctl.op while
it does. -/

namespace Sys2Proof.Machine

open Sys2Proof

/-- A message: one constructor per event of spec/opcode_table.json. Register writes carry the value written (v); what comes from outside the package (flits,
host data, images, replies) carries its bytes. -/
inductive Ev where
  /-- PACKAGE_RESET (R19). -/
  | packageReset (assert : Bool)
  /-- RAIL_OUT_OF_LIMITS (R19). -/
  | railOutOfLimits (rail : Nat)
  /-- RAIL_SETTLED_TIMER (R19). -/
  | railSettledTimer (rail : Nat)
  /-- ISLAND_WRITE (R21). -/
  | islandWrite (island : Nat) (v : BitVec 64)
  /-- ISLAND_CHANGE_COMPLETE (R21). -/
  | islandChangeComplete (island : Nat)
  /-- TCOL_SAMPLE (R23). -/
  | tcolSample (column : Nat) (tbase : Nat) (tcel : Nat) (tcmp : Nat)
  /-- THERMAL_THROTTLE (R24). -/
  | thermalThrottle (quadrant : Nat)
  /-- TCOL_HOT_CLEAR (R23). -/
  | tcolHotClear (column : Nat) (v : BitVec 32)
  /-- FLIT_SEND (R26). -/
  | flitSend (link : Nat) (payload : List (BitVec 8))
  /-- FLIT_RECEIVE (R26). -/
  | flitReceive (link : Nat) (flit : List (BitVec 8))
  /-- FLIT_REPLAY (R26). -/
  | flitReplay (link : Nat) (counter : Nat)
  /-- KEY_UPDATE_START (R27). -/
  | keyUpdateStart (link : Nat)
  /-- KEY_EXPIRE (R27). -/
  | keyExpire (link : Nat)
  /-- LINK_PEER_DETECTED (R28). -/
  | linkPeerDetected (link : Nat)
  /-- LINK_TRAINING_COMPLETE (R28). -/
  | linkTrainingComplete (link : Nat)
  /-- LINK_TRAINING_TIMEOUT (R28). -/
  | linkTrainingTimeout (link : Nat)
  /-- LINK_SESSION_ESTABLISHED (R28). -/
  | linkSessionEstablished (link : Nat) (key : List (BitVec 8)) (txid : Nat) (rxid : Nat)
  /-- LINK_KEYING_FAIL (R28). -/
  | linkKeyingFail (link : Nat)
  /-- LINK_KEYING_TIMEOUT (R28). -/
  | linkKeyingTimeout (link : Nat)
  /-- LINK_SESSION_ATTEMPT_FAIL (R28). -/
  | linkSessionAttemptFail (link : Nat)
  /-- LINK_RETRY_TIMER (R28). -/
  | linkRetryTimer (link : Nat)
  /-- KEY_UPDATE_COMPLETE (R28). -/
  | keyUpdateComplete (link : Nat) (key : List (BitVec 8))
  /-- LINK_SESSION_EXPIRE (R28). -/
  | linkSessionExpire (link : Nat)
  /-- LINK_DRAIN_COMPLETE (R28). -/
  | linkDrainComplete (link : Nat)
  /-- LINK_PORT_RESET (R28). -/
  | linkPortReset (link : Nat)
  /-- HOST_LINK_TRAINING_COMPLETE (R32). -/
  | hostLinkTrainingComplete (port : Nat) (cxl : Bool) (rate : Nat) (width : Nat) (flits : Nat) (ide : Bool)
  /-- HDMBASE_WRITE (R33). -/
  | hdmbaseWrite (v : BitVec 64)
  /-- HDMSIZE_WRITE (R33). -/
  | hdmsizeWrite (v : BitVec 64)
  /-- CXLMEM_REQUEST (R33). -/
  | cxlmemRequest (port : Nat) (addr : Nat) (write : Bool) (bytes : List (BitVec 8))
  /-- REGISTER_WRITE (R34). -/
  | registerWrite (off : Nat) (v : BitVec 64)
  /-- HARTID_WRITE (R37). -/
  | hartidWrite (v : BitVec 64)
  /-- BRIDGE_PACKAGE_READ (R38). -/
  | bridgePackageRead (half : Nat)
  /-- BRIDGE_PACKAGE_STORE (R38). -/
  | bridgePackageStore (half : Nat) (off : Nat) (bytes : List (BitVec 8))
  /-- BRIDGE_GRANT (R39). -/
  | bridgeGrant (half : Nat) (owned : Bool) (excl : Bool) (bytes : List (BitVec 8))
  /-- BRIDGE_MSC_EVICTION (R38). -/
  | bridgeMscEviction (line : Nat)
  /-- HOST_SNPINV (R38). -/
  | hostSnpinv (half : Nat)
  /-- HOST_SNPDATA (R38). -/
  | hostSnpdata (half : Nat)
  /-- HOST_SNPCUR (R38). -/
  | hostSnpcur (half : Nat)
  /-- TENANT_MODES_WRITE (R41). -/
  | tenantModesWrite (tenant : Nat) (modes : Nat)
  /-- TENANT_SET_ON (R53). -/
  | tenantSetOn (tenant : Nat)
  /-- TENANT_SET_OFF (R53). -/
  | tenantSetOff (tenant : Nat)
  /-- TENANT_RECORD_WRITE (R52). -/
  | tenantRecordWrite (tenant : Nat) (word : Nat) (v : BitVec 64)
  /-- HREQBASE_WRITE (R44). -/
  | hreqbaseWrite (hearth : Nat) (v : BitVec 64)
  /-- HFLTBASE_WRITE (R44). -/
  | hfltbaseWrite (hearth : Nat) (v : BitVec 64)
  /-- HREQHEAD_WRITE (R44). -/
  | hreqheadWrite (hearth : Nat) (v : BitVec 32)
  /-- HFLTHEAD_WRITE (R44). -/
  | hfltheadWrite (hearth : Nat) (v : BitVec 32)
  /-- HEARTH_RESTART (R72). -/
  | hearthRestart (hearth : Nat)
  /-- BOOT_START (R49). -/
  | bootStart
  /-- BOOT_CXL_READY (R49). -/
  | bootCxlReady
  /-- BOOT_CXL_TIMEOUT (R49). -/
  | bootCxlTimeout
  /-- BOOT_HEADER_FETCHED (R49). -/
  | bootHeaderFetched (header : List (BitVec 8))
  /-- BOOT_BODY_FETCHED (R49). -/
  | bootBodyFetched (body : List (BitVec 8))
  /-- MEAS_EXTEND (R48). -/
  | measExtend (index : Nat) (value : List (BitVec 8))
  /-- FIRMWARE_READY (R49). -/
  | firmwareReady
  /-- IMAGE_LINE_UE (R51). -/
  | imageLineUe (line : Nat)
  /-- RECOVERY_RELOAD_COMPLETE (R51). -/
  | recoveryReloadComplete (body : List (BitVec 8))
  /-- DOORBELL_SET_TAIL (R55). -/
  | doorbellSetTail (port : Nat) (func : Nat) (v : BitVec 64)
  /-- DOORBELL_OPEN (R55). -/
  | doorbellOpen (port : Nat) (func : Nat) (v : BitVec 64)
  /-- DOORBELL_CLOSE (R60). -/
  | doorbellClose (port : Nat) (func : Nat) (v : BitVec 64)
  /-- DOORBELL_CMD3 (R55). -/
  | doorbellCmd3 (port : Nat) (func : Nat) (v : BitVec 64)
  /-- LAUNCH_RECORD (R60). -/
  | launchRecord (queue : Nat)
  /-- CONTROL_RECORD (R60). -/
  | controlRecord (queue : Nat)
  /-- QUEUE_HEAD_RETRY (R78). -/
  | queueHeadRetry (queue : Nat)
  /-- LAUNCH_COMPLETE (R62). -/
  | launchComplete (ctx : Nat)
  /-- HEARTBEAT_REQUEST (R92). -/
  | heartbeatRequest (tenant : Nat)
  /-- HEARTBEAT_TIMEOUT (R92). -/
  | heartbeatTimeout (tenant : Nat)
  /-- KEY_INSTALL (R75). -/
  | keyInstall (tenant : Nat) (payload : List (BitVec 8))
  /-- KEY_REMOVE (R76). -/
  | keyRemove (tenant : Nat) (payload : List (BitVec 8))
  /-- WORLD_RETIRE (R88). -/
  | worldRetire (world : Nat)
  /-- WORLD_SCRUB_COMPLETE (R88). -/
  | worldScrubComplete (world : Nat)
  /-- WORLD_ABORT (R89). -/
  | worldAbort (world : Nat) (status : Nat)
  /-- TDISP_LEAVE_RUN (R91). -/
  | tdispLeaveRun (port : Nat) (func : Nat)
  /-- L1_FILL_RETURN (R99). -/
  | l1FillReturn (core : Nat) (line : Nat) (tag : Nat) (cp : Nat) (keep : Bool) (bytes : List (BitVec 8)) (pois : List Nat)
  /-- L1_UPDATE (R99). -/
  | l1Update (core : Nat) (tx : Nat)
  /-- L1_INVALIDATION (R156). -/
  | l1Invalidation (core : Nat) (line : Nat) (tx : Nat)
  /-- DIR_READ_MISS (R101). -/
  | dirReadMiss (core : Nat) (line : Nat) (tag : Nat) (cp : Nat)
  /-- DIR_STORE (R101). -/
  | dirStore (tx : Nat)
  /-- DIR_ACK (R101). -/
  | dirAck (tx : Nat) (core : Nat) (applied : Bool)
  /-- DIR_EVICTION_NOTICE (R101). -/
  | dirEvictionNotice (core : Nat) (line : Nat)
  /-- L2_VICTIM (R101). -/
  | l2Victim (slice : Nat) (line : Nat) (world : Nat)
  /-- HOME_STORE (R103). -/
  | homeStore (tx : Nat)
  /-- L2_HOME_UPDATE (R103). -/
  | l2HomeUpdate (slice : Nat) (tx : Nat)
  /-- HOME_ACK (R103). -/
  | homeAck (tx : Nat)
  /-- STORE_ACK (R150). -/
  | storeAck (tx : Nat) (level : Nat)
  /-- MSC_VICTIM (R102). -/
  | mscVictim (line : Nat)
  /-- WORLD_LINE_HANDOVER (R104). -/
  | worldLineHandover (slice : Nat) (line : Nat)
  /-- STORE_ENTRY_DRAIN_COMPLETE (R97). -/
  | storeEntryDrainComplete (core : Nat) (slot : Nat)
  /-- RELEASE_COMPLETE (R153). -/
  | releaseComplete (rel : Nat)
  /-- SOFT_ERROR (R105). -/
  | softError (kind : Nat) (addr : Nat) (aux : Nat) (lost : Bool)
  /-- PATROL_SCRUB (R106). -/
  | patrolScrub
  /-- HSCTL_WRITE (R109). -/
  | hsctlWrite (tenant : Nat) (v : BitVec 64)
  /-- ALIAS_RECORD (R117). -/
  | aliasRecord (piece : Nat)
  /-- ALIAS_RESOLVE (R120). -/
  | aliasResolve (piece : Nat) (home : Nat)
  /-- ALIAS_RESOLVE_REPLY (R117). -/
  | aliasResolveReply (piece : Nat) (home : Nat)
  /-- MARK (R117). -/
  | mark (piece : Nat) (line : Nat)
  /-- MARKED (R117). -/
  | marked (piece : Nat) (line : Nat)
  /-- HOLD_RELEASE (R117). -/
  | holdRelease (piece : Nat) (home : Nat)
  /-- SRCW (R118). -/
  | srcw (home : Nat) (line : Nat)
  /-- SRCACK (R118). -/
  | srcack (line : Nat) (home : Nat)
  /-- HOT_MATERIALISE (R121). -/
  | hotMaterialise (home : Nat)
  /-- CATCTL_WRITE (R113). -/
  | catctlWrite (v : BitVec 64)
  /-- PAGE_WALK_COMPLETE (R131). -/
  | pageWalkComplete (walk : Nat)
  /-- FAULT_ENTRY_WAIT_FREE (R135). -/
  | faultEntryWaitFree (ctx : Nat)
  /-- FREPLY_RETRY (R140). -/
  | freplyRetry (ctx : Nat) (fid : Nat) (raw : Option Nat)
  /-- FREPLY_KILL (R140). -/
  | freplyKill (ctx : Nat) (fid : Nat) (raw : Nat)
  /-- ATS_TRANSLATION_COMPLETION (R142). -/
  | atsTranslationCompletion (walk : Nat) (r : Bool) (w : Bool) (pa : Nat) (size : Nat)
  /-- PRG_RESPONSE (R142). -/
  | prgResponse (prg : Nat) (ok : Bool)
  /-- ATS_INVALIDATION_REQUEST (R143). -/
  | atsInvalidationRequest (port : Nat) (pasid : Nat) (va : Nat) (order : Nat)
  /-- SHOOTDOWN_START (R144). -/
  | shootdownStart (v : BitVec 64)
  /-- SHOOTDOWN_DRAIN_COMPLETE (R145). -/
  | shootdownDrainComplete (inv : Nat)
  /-- DTINV_WRITE (R146). -/
  | dtinvWrite (v : BitVec 64)
  /-- REGION_WRITEBACK (R148). -/
  | regionWriteback (core : Nat) (slot : Nat) (region : Nat) (index : Nat)
  /-- TCB_PLACE (R169). -/
  | tcbPlace (tcb : Nat)
  /-- TCB_BIND (R170). -/
  | tcbBind (cluster : Nat)
  /-- STEAL_REQUEST (R172). -/
  | stealRequest (cluster : Nat)
  /-- STEAL_SERVE (R172). -/
  | stealServe (victim : Nat) (thief : Nat)
  /-- STEAL_RETRY_TIMER (R172). -/
  | stealRetryTimer (cluster : Nat)
  /-- PREEMPT_TIMER (R173). -/
  | preemptTimer (ctx : Nat)
  /-- PREEMPT_SAVE (R174). -/
  | preemptSave (ctx : Nat) (group : Nat)
  /-- GROUP_RESTORE (R177). -/
  | groupRestore (ctx : Nat) (group : Nat)
  /-- GANG_PARK (R386). -/
  | gangPark (ctx : Nat) (group : Nat)
  /-- RUN_START (R178). -/
  | runStart (core : Nat)
  /-- TOKEN_COMPLETE (R206). -/
  | tokenComplete (token : Nat)
  /-- ATOMIC_RETURN (R329). -/
  | atomicReturn (tx : Nat)
  /-- WATCHDOG_EXPIRE (R216). -/
  | watchdogExpire (ctx : Nat)
  /-- ARRIVAL_DELIVERY (R220). -/
  | arrivalDelivery (core : Nat) (alloc : Nat) (off : Nat) (count : Nat)
  /-- WAIT_TIMEOUT (R221). -/
  | waitTimeout (core : Nat) (slot : Nat) (lane : Nat) (serial : Nat)
  /-- GRAPH_GANG_FORM (R181). -/
  | graphGangForm (ctx : Nat) (stage : Nat)
  /-- PARTIAL_GANG_TIMER (R181). -/
  | partialGangTimer (ctx : Nat) (stage : Nat)
  /-- REBALANCE_TIMER (R181). -/
  | rebalanceTimer (ctx : Nat)
  /-- WAVE_END (R182). -/
  | waveEnd (ctx : Nat)
  /-- GSTEP_WRITE (R183). -/
  | gstepWrite (v : BitVec 64)
  /-- GSTEP_WAVE_TIMER (R183). -/
  | gstepWaveTimer (ctx : Nat) (serial : Nat)
  /-- CONTRIBUTION_ARRIVE (R189). -/
  | contributionArrive (ctx : Nat) (draw : Nat)
  /-- STOP_ARRIVE (R191). -/
  | stopArrive (ctx : Nat) (cluster : Nat)
  /-- ESTSEL_WRITE (R190). -/
  | estselWrite (v : BitVec 64)
  /-- SVC_REPLY (R70). -/
  | svcReply (hearth : Nat) (bytes : List (BitVec 8))
  /-- ANVIL_STEP (R362). -/
  | anvilStep (cluster : Nat)
  /-- TILE_TASK_COMPLETE (R365). -/
  | tileTaskComplete (task : Nat)
  /-- ENGINE_COMMAND_COMPLETE (R369). -/
  | engineCommandComplete (cmd : Nat)
  /-- CPYQ_ENTRY_START (R374). -/
  | cpyqEntryStart (list : Nat)
  /-- COLL_MATCH (R377). -/
  | collMatch (cmd : Nat)
  /-- COLL_COMPLETE (R377). -/
  | collComplete (cmd : Nat)
  /-- SVCRING_WRITE (R382). -/
  | svcringWrite (tenant : Nat) (v : BitVec 64)
  /-- SVCHEAD_WRITE (R384). -/
  | svcheadWrite (port : Nat) (func : Nat) (v : BitVec 64)
  /-- SVRPLY_WRITE (R385). -/
  | svrplyWrite (port : Nat) (func : Nat) (off : Nat) (width : Nat) (v : BitVec 64)
  /-- SVRGO (R385). -/
  | svrgo (port : Nat) (func : Nat) (v : BitVec 64)
  /-- PLACEPIN_WRITE (R388). -/
  | placepinWrite (pin : Nat) (v : BitVec 64)
  /-- NBCTL_WRITE (R390). -/
  | nbctlWrite (v : BitVec 64)
  /-- NB_ATTACH (R397). -/
  | nbAttach (command : BitVec 128)
  /-- NB_SETBP (R399). -/
  | nbSetbp (command : BitVec 128)
  /-- NB_CLRBP (R393). -/
  | nbClrbp (command : BitVec 128)
  /-- NB_SETWP (R400). -/
  | nbSetwp (command : BitVec 128)
  /-- NB_CLRWP (R393). -/
  | nbClrwp (command : BitVec 128)
  /-- NB_HALT (R401). -/
  | nbHalt (command : BitVec 128)
  /-- NB_STEP (R402). -/
  | nbStep (command : BitVec 128)
  /-- NB_RESUME (R403). -/
  | nbResume (command : BitVec 128)
  /-- NB_DETACH (R397). -/
  | nbDetach (command : BitVec 128)
  /-- NB_BADCMD (R394). -/
  | nbBadcmd (command : BitVec 128)
  /-- TDISP_ENTER_RUN (R91). -/
  | tdispEnterRun (port : Nat) (func : Nat)
  /-- SPDM_KEY_EXCHANGE (R92). -/
  | spdmKeyExchange (port : Nat) (func : Nat)
  /-- HDM_DECODER_COMMIT (R33). -/
  | hdmDecoderCommit (port : Nat) (decoder : Nat) (commit : Bool)
deriving DecidableEq, Repr

/-- The event that a message brings about. -/
def Ev.instr (e : Ev) : Instr :=
  match e with
  | .packageReset _ => .packageReset
  | .railOutOfLimits _ => .railOutOfLimits
  | .railSettledTimer _ => .railSettledTimer
  | .islandWrite _ _ => .islandWrite
  | .islandChangeComplete _ => .islandChangeComplete
  | .tcolSample _ _ _ _ => .tcolSample
  | .thermalThrottle _ => .thermalThrottle
  | .tcolHotClear _ _ => .tcolHotClear
  | .flitSend _ _ => .flitSend
  | .flitReceive _ _ => .flitReceive
  | .flitReplay _ _ => .flitReplay
  | .keyUpdateStart _ => .keyUpdateStart
  | .keyExpire _ => .keyExpire
  | .linkPeerDetected _ => .linkPeerDetected
  | .linkTrainingComplete _ => .linkTrainingComplete
  | .linkTrainingTimeout _ => .linkTrainingTimeout
  | .linkSessionEstablished _ _ _ _ => .linkSessionEstablished
  | .linkKeyingFail _ => .linkKeyingFail
  | .linkKeyingTimeout _ => .linkKeyingTimeout
  | .linkSessionAttemptFail _ => .linkSessionAttemptFail
  | .linkRetryTimer _ => .linkRetryTimer
  | .keyUpdateComplete _ _ => .keyUpdateComplete
  | .linkSessionExpire _ => .linkSessionExpire
  | .linkDrainComplete _ => .linkDrainComplete
  | .linkPortReset _ => .linkPortReset
  | .hostLinkTrainingComplete _ _ _ _ _ _ => .hostLinkTrainingComplete
  | .hdmbaseWrite _ => .hdmbaseWrite
  | .hdmsizeWrite _ => .hdmsizeWrite
  | .cxlmemRequest _ _ _ _ => .cxlmemRequest
  | .registerWrite _ _ => .registerWrite
  | .hartidWrite _ => .hartidWrite
  | .bridgePackageRead _ => .bridgePackageRead
  | .bridgePackageStore _ _ _ => .bridgePackageStore
  | .bridgeGrant _ _ _ _ => .bridgeGrant
  | .bridgeMscEviction _ => .bridgeMscEviction
  | .hostSnpinv _ => .hostSnpinv
  | .hostSnpdata _ => .hostSnpdata
  | .hostSnpcur _ => .hostSnpcur
  | .tenantModesWrite _ _ => .tenantModesWrite
  | .tenantSetOn _ => .tenantSetOn
  | .tenantSetOff _ => .tenantSetOff
  | .tenantRecordWrite _ _ _ => .tenantRecordWrite
  | .hreqbaseWrite _ _ => .hreqbaseWrite
  | .hfltbaseWrite _ _ => .hfltbaseWrite
  | .hreqheadWrite _ _ => .hreqheadWrite
  | .hfltheadWrite _ _ => .hfltheadWrite
  | .hearthRestart _ => .hearthRestart
  | .bootStart => .bootStart
  | .bootCxlReady => .bootCxlReady
  | .bootCxlTimeout => .bootCxlTimeout
  | .bootHeaderFetched _ => .bootHeaderFetched
  | .bootBodyFetched _ => .bootBodyFetched
  | .measExtend _ _ => .measExtend
  | .firmwareReady => .firmwareReady
  | .imageLineUe _ => .imageLineUe
  | .recoveryReloadComplete _ => .recoveryReloadComplete
  | .doorbellSetTail _ _ _ => .doorbellSetTail
  | .doorbellOpen _ _ _ => .doorbellOpen
  | .doorbellClose _ _ _ => .doorbellClose
  | .doorbellCmd3 _ _ _ => .doorbellCmd3
  | .launchRecord _ => .launchRecord
  | .controlRecord _ => .controlRecord
  | .queueHeadRetry _ => .queueHeadRetry
  | .launchComplete _ => .launchComplete
  | .heartbeatRequest _ => .heartbeatRequest
  | .heartbeatTimeout _ => .heartbeatTimeout
  | .keyInstall _ _ => .keyInstall
  | .keyRemove _ _ => .keyRemove
  | .worldRetire _ => .worldRetire
  | .worldScrubComplete _ => .worldScrubComplete
  | .worldAbort _ _ => .worldAbort
  | .tdispLeaveRun _ _ => .tdispLeaveRun
  | .l1FillReturn _ _ _ _ _ _ _ => .l1FillReturn
  | .l1Update _ _ => .l1Update
  | .l1Invalidation _ _ _ => .l1Invalidation
  | .dirReadMiss _ _ _ _ => .dirReadMiss
  | .dirStore _ => .dirStore
  | .dirAck _ _ _ => .dirAck
  | .dirEvictionNotice _ _ => .dirEvictionNotice
  | .l2Victim _ _ _ => .l2Victim
  | .homeStore _ => .homeStore
  | .l2HomeUpdate _ _ => .l2HomeUpdate
  | .homeAck _ => .homeAck
  | .storeAck _ _ => .storeAck
  | .mscVictim _ => .mscVictim
  | .worldLineHandover _ _ => .worldLineHandover
  | .storeEntryDrainComplete _ _ => .storeEntryDrainComplete
  | .releaseComplete _ => .releaseComplete
  | .softError _ _ _ _ => .softError
  | .patrolScrub => .patrolScrub
  | .hsctlWrite _ _ => .hsctlWrite
  | .aliasRecord _ => .aliasRecord
  | .aliasResolve _ _ => .aliasResolve
  | .aliasResolveReply _ _ => .aliasResolveReply
  | .mark _ _ => .mark
  | .marked _ _ => .marked
  | .holdRelease _ _ => .holdRelease
  | .srcw _ _ => .srcw
  | .srcack _ _ => .srcack
  | .hotMaterialise _ => .hotMaterialise
  | .catctlWrite _ => .catctlWrite
  | .pageWalkComplete _ => .pageWalkComplete
  | .faultEntryWaitFree _ => .faultEntryWaitFree
  | .freplyRetry _ _ _ => .freplyRetry
  | .freplyKill _ _ _ => .freplyKill
  | .atsTranslationCompletion _ _ _ _ _ => .atsTranslationCompletion
  | .prgResponse _ _ => .prgResponse
  | .atsInvalidationRequest _ _ _ _ => .atsInvalidationRequest
  | .shootdownStart _ => .shootdownStart
  | .shootdownDrainComplete _ => .shootdownDrainComplete
  | .dtinvWrite _ => .dtinvWrite
  | .regionWriteback _ _ _ _ => .regionWriteback
  | .tcbPlace _ => .tcbPlace
  | .tcbBind _ => .tcbBind
  | .stealRequest _ => .stealRequest
  | .stealServe _ _ => .stealServe
  | .stealRetryTimer _ => .stealRetryTimer
  | .preemptTimer _ => .preemptTimer
  | .preemptSave _ _ => .preemptSave
  | .groupRestore _ _ => .groupRestore
  | .gangPark _ _ => .gangPark
  | .runStart _ => .runStart
  | .tokenComplete _ => .tokenComplete
  | .atomicReturn _ => .atomicReturn
  | .watchdogExpire _ => .watchdogExpire
  | .arrivalDelivery _ _ _ _ => .arrivalDelivery
  | .waitTimeout _ _ _ _ => .waitTimeout
  | .graphGangForm _ _ => .graphGangForm
  | .partialGangTimer _ _ => .partialGangTimer
  | .rebalanceTimer _ => .rebalanceTimer
  | .waveEnd _ => .waveEnd
  | .gstepWrite _ => .gstepWrite
  | .gstepWaveTimer _ _ => .gstepWaveTimer
  | .contributionArrive _ _ => .contributionArrive
  | .stopArrive _ _ => .stopArrive
  | .estselWrite _ => .estselWrite
  | .svcReply _ _ => .svcReply
  | .anvilStep _ => .anvilStep
  | .tileTaskComplete _ => .tileTaskComplete
  | .engineCommandComplete _ => .engineCommandComplete
  | .cpyqEntryStart _ => .cpyqEntryStart
  | .collMatch _ => .collMatch
  | .collComplete _ => .collComplete
  | .svcringWrite _ _ => .svcringWrite
  | .svcheadWrite _ _ _ => .svcheadWrite
  | .svrplyWrite _ _ _ _ _ => .svrplyWrite
  | .svrgo _ _ _ => .svrgo
  | .placepinWrite _ _ => .placepinWrite
  | .nbctlWrite _ => .nbctlWrite
  | .nbAttach _ => .nbAttach
  | .nbSetbp _ => .nbSetbp
  | .nbClrbp _ => .nbClrbp
  | .nbSetwp _ => .nbSetwp
  | .nbClrwp _ => .nbClrwp
  | .nbHalt _ => .nbHalt
  | .nbStep _ => .nbStep
  | .nbResume _ => .nbResume
  | .nbDetach _ => .nbDetach
  | .nbBadcmd _ => .nbBadcmd
  | .tdispEnterRun _ _ => .tdispEnterRun
  | .spdmKeyExchange _ _ => .spdmKeyExchange
  | .hdmDecoderCommit _ _ _ => .hdmDecoderCommit

/-- The objects a message names exist, and its data has the size the spec gives it. -/
def Ev.ok (e : Ev) : Bool :=
  match e with
  | .packageReset _ => true
  | .railOutOfLimits rail => decide (rail < 6)
  | .railSettledTimer rail => decide (rail < 6)
  | .islandWrite island _ => decide (island < 24)
  | .islandChangeComplete island => decide (island < 24)
  | .tcolSample column tbase tcel tcmp => decide (column < 96 ∧ tbase < 1024 ∧ tcel < 1024 ∧ tcmp < 1024)
  | .thermalThrottle quadrant => decide (quadrant < 12)
  | .tcolHotClear column _ => decide (column < 96)
  | .flitSend link payload => decide (link < 22 ∧ payload.length = 240)
  | .flitReceive link flit => decide (link < 22 ∧ flit.length = 256)
  | .flitReplay link _ => decide (link < 22)
  | .keyUpdateStart link => decide (link < 19)
  | .keyExpire link => decide (link < 19)
  | .linkPeerDetected link => decide (link < 19)
  | .linkTrainingComplete link => decide (link < 19)
  | .linkTrainingTimeout link => decide (link < 19)
  | .linkSessionEstablished link key txid rxid => decide (link < 19 ∧ txid < 2 ^ 32 ∧ rxid < 2 ^ 32 ∧ key.length = 32)
  | .linkKeyingFail link => decide (link < 19)
  | .linkKeyingTimeout link => decide (link < 19)
  | .linkSessionAttemptFail link => decide (link < 19)
  | .linkRetryTimer link => decide (link < 19)
  | .keyUpdateComplete link key => decide (link < 19 ∧ key.length = 32)
  | .linkSessionExpire link => decide (link < 19)
  | .linkDrainComplete link => decide (link < 19)
  | .linkPortReset link => decide (link < 19)
  | .hostLinkTrainingComplete port cxl rate width flits _ => decide (port < 2 ∧ rate ∈ [640, 320, 160, 80, 50, 25] ∧ width ∈ [16, 8, 4, 2, 1] ∧ flits < 3 ∧ (cxl = true → flits ≠ 0))
  | .hdmbaseWrite _ => true
  | .hdmsizeWrite _ => true
  | .cxlmemRequest port addr _ bytes => decide (port < 2 ∧ bytes.length = 64 ∧ addr % 64 = 0)
  | .registerWrite off _ => decide (off < 65536)
  | .hartidWrite _ => true
  | .bridgePackageRead half => decide (half < 2 ^ 50)
  | .bridgePackageStore half off bytes => decide (half < 2 ^ 50 ∧ off + bytes.length ≤ 64)
  | .bridgeGrant half _ _ bytes => decide (half < 2 ^ 50 ∧ bytes.length = 64)
  | .bridgeMscEviction line => decide (line < 2 ^ 49)
  | .hostSnpinv half => decide (half < 2 ^ 50)
  | .hostSnpdata half => decide (half < 2 ^ 50)
  | .hostSnpcur half => decide (half < 2 ^ 50)
  | .tenantModesWrite tenant modes => decide (tenant < 256 ∧ modes < 16)
  | .tenantSetOn tenant => decide (tenant < 256)
  | .tenantSetOff tenant => decide (tenant < 256)
  | .tenantRecordWrite tenant word _ => decide (tenant < 256 ∧ word < 8)
  | .hreqbaseWrite hearth _ => decide (hearth < 48)
  | .hfltbaseWrite hearth _ => decide (hearth < 48)
  | .hreqheadWrite hearth _ => decide (hearth < 48)
  | .hfltheadWrite hearth _ => decide (hearth < 48)
  | .hearthRestart hearth => decide (hearth < 48)
  | .bootStart => true
  | .bootCxlReady => true
  | .bootCxlTimeout => true
  | .bootHeaderFetched header => decide (header.length = 256)
  | .bootBodyFetched _ => true
  | .measExtend index value => decide (4 ≤ index ∧ index < 8 ∧ value.length = 32)
  | .firmwareReady => true
  | .imageLineUe line => decide (line < 2 ^ 49)
  | .recoveryReloadComplete _ => true
  | .doorbellSetTail port func v => decide (port < 2 ∧ func < 256 ∧ v.toNat / 2 ^ 30 % 4 = 0)
  | .doorbellOpen port func v => decide (port < 2 ∧ func < 256 ∧ v.toNat / 2 ^ 30 % 4 = 1)
  | .doorbellClose port func v => decide (port < 2 ∧ func < 256 ∧ v.toNat / 2 ^ 30 % 4 = 2)
  | .doorbellCmd3 port func v => decide (port < 2 ∧ func < 256 ∧ v.toNat / 2 ^ 30 % 4 = 3)
  | .launchRecord queue => decide (queue < 131072)
  | .controlRecord queue => decide (queue < 131072)
  | .queueHeadRetry queue => decide (queue < 131072)
  | .launchComplete ctx => decide (ctx < 4096)
  | .heartbeatRequest tenant => decide (tenant < 256)
  | .heartbeatTimeout tenant => decide (tenant < 256)
  | .keyInstall tenant _ => decide (tenant < 256)
  | .keyRemove tenant _ => decide (tenant < 256)
  | .worldRetire world => decide (world < 64)
  | .worldScrubComplete world => decide (world < 64)
  | .worldAbort world status => decide (world < 64 ∧ (status = 6 ∨ status = 7))
  | .tdispLeaveRun port func => decide (port < 2 ∧ func < 256)
  | .l1FillReturn core line _ _ _ bytes _ => decide (core < 384 ∧ line < 2 ^ 49 ∧ bytes.length = 128)
  | .l1Update core _ => decide (core < 384)
  | .l1Invalidation core line _ => decide (core < 384 ∧ line < 2 ^ 49)
  | .dirReadMiss core line _ _ => decide (core < 384 ∧ line < 2 ^ 49)
  | .dirStore _ => true
  | .dirAck _ core _ => decide (core < 384)
  | .dirEvictionNotice core line => decide (core < 384 ∧ line < 2 ^ 49)
  | .l2Victim slice line _ => decide (slice < 96 ∧ line < 2 ^ 49)
  | .homeStore _ => true
  | .l2HomeUpdate slice _ => decide (slice < 96)
  | .homeAck _ => true
  | .storeAck _ level => decide (level < 2)
  | .mscVictim line => decide (line < 2 ^ 49)
  | .worldLineHandover slice line => decide (slice < 96 ∧ line < 2 ^ 49)
  | .storeEntryDrainComplete core slot => decide (core < 384 ∧ slot < 32)
  | .releaseComplete _ => true
  | .softError kind _ _ _ => decide (kind < 12)
  | .patrolScrub => true
  | .hsctlWrite tenant _ => decide (tenant < 256)
  | .aliasRecord _ => true
  | .aliasResolve _ home => decide (home < 48)
  | .aliasResolveReply _ home => decide (home < 48)
  | .mark _ line => decide (line < 2 ^ 49)
  | .marked _ line => decide (line < 2 ^ 49)
  | .holdRelease _ home => decide (home < 48)
  | .srcw home line => decide (home < 48 ∧ line < 2 ^ 49)
  | .srcack line home => decide (line < 2 ^ 49 ∧ home < 48)
  | .hotMaterialise home => decide (home < 48)
  | .catctlWrite _ => true
  | .pageWalkComplete _ => true
  | .faultEntryWaitFree ctx => decide (ctx < 4096)
  | .freplyRetry ctx fid _ => decide (ctx < 4096 ∧ fid < 1024)
  | .freplyKill ctx fid _ => decide (ctx < 4096 ∧ fid < 1024)
  | .atsTranslationCompletion _ _ _ _ _ => true
  | .prgResponse _ _ => true
  | .atsInvalidationRequest port pasid _ _ => decide (port < 2 ∧ pasid < 2 ^ 20)
  | .shootdownStart _ => true
  | .shootdownDrainComplete _ => true
  | .dtinvWrite _ => true
  | .regionWriteback core slot region _ => decide (core < 384 ∧ slot < 32 ∧ region < 16)
  | .tcbPlace _ => true
  | .tcbBind cluster => decide (cluster < 96)
  | .stealRequest cluster => decide (cluster < 96)
  | .stealServe victim thief => decide (victim < 96 ∧ thief < 96)
  | .stealRetryTimer cluster => decide (cluster < 96)
  | .preemptTimer ctx => decide (ctx < 4096)
  | .preemptSave ctx _ => decide (ctx < 4096)
  | .groupRestore ctx _ => decide (ctx < 4096)
  | .gangPark ctx _ => decide (ctx < 4096)
  | .runStart core => decide (core < 384)
  | .tokenComplete _ => true
  | .atomicReturn _ => true
  | .watchdogExpire ctx => decide (ctx < 4096)
  | .arrivalDelivery core _ _ _ => decide (core < 384)
  | .waitTimeout core slot lane _ => decide (core < 384 ∧ slot < 32 ∧ lane < 32)
  | .graphGangForm ctx stage => decide (ctx < 4096 ∧ stage < 64)
  | .partialGangTimer ctx stage => decide (ctx < 4096 ∧ stage < 64)
  | .rebalanceTimer ctx => decide (ctx < 4096)
  | .waveEnd ctx => decide (ctx < 4096)
  | .gstepWrite _ => true
  | .gstepWaveTimer ctx _ => decide (ctx < 4096)
  | .contributionArrive ctx _ => decide (ctx < 4096)
  | .stopArrive ctx cluster => decide (ctx < 4096 ∧ cluster < 96)
  | .estselWrite _ => true
  | .svcReply hearth bytes => decide (hearth < 48 ∧ bytes.length = 32)
  | .anvilStep cluster => decide (cluster < 96)
  | .tileTaskComplete _ => true
  | .engineCommandComplete _ => true
  | .cpyqEntryStart _ => true
  | .collMatch _ => true
  | .collComplete _ => true
  | .svcringWrite tenant _ => decide (tenant < 256)
  | .svcheadWrite port func _ => decide (port < 2 ∧ func < 256)
  | .svrplyWrite port func off _ _ => decide (port < 2 ∧ func < 256 ∧ 0x100 ≤ off ∧ off < 0x120)
  | .svrgo port func _ => decide (port < 2 ∧ func < 256)
  | .placepinWrite pin _ => decide (pin < 16)
  | .nbctlWrite _ => true
  | .nbAttach _ => true
  | .nbSetbp _ => true
  | .nbClrbp _ => true
  | .nbSetwp _ => true
  | .nbClrwp _ => true
  | .nbHalt _ => true
  | .nbStep _ => true
  | .nbResume _ => true
  | .nbDetach _ => true
  | .nbBadcmd _ => true
  | .tdispEnterRun port func => decide (port < 2 ∧ func < 256)
  | .spdmKeyExchange port func => decide (port < 2 ∧ func < 256)
  | .hdmDecoderCommit port _ _ => decide (port < 2)

end Sys2Proof.Machine
end

