-- ==== Sys2Proof/Machine/State.lean ====
section
/-! DEFINITION. The state of the TX9: everything the spec gives the package, grouped by the block that holds it, and the few fields of the
model's own (State.ctl). INVENTORY.md lists each field with its rule and reset value. -/

namespace Sys2Proof.Machine

open Sys2Proof

/-! ## Values of lanes -/

/-- A lane register with its poison tag in the layout of R175 (tag 0: not poisoned; R137). -/
structure PVal where
  val : Word
  tag : Word
deriving DecidableEq, Repr, Inhabited

/-- Status of a thread (R176). -/
inductive Status where
  | runnable | joinwait | svcwait | faultwait | exited | empty
deriving DecidableEq, Repr, Inhabited

/-- What keeps a runnable thread from its next run: nothing, a release or fence in progress (R334), a free fault entry (R135), or, in a parked gang, a place
in a full ring (R69). -/
inductive Hold where
  | none
  | release (rel : Nat)
  | noEntry
  | ring
deriving DecidableEq, Repr, Inhabited

/-- One thread, in the lane slot it keeps for life (R195): the thread-state entry of R176 and what R99, R155, R207, R216 and R387 add. -/
structure Thread where
  status : Status
  pc : Nat
  preds : Nat            -- p1 to p8 in bits 0 to 7
  depth : Nat            -- predicate depth, 0 to 8
  ppois : Nat            -- poison flags of p1 to p8 (R307)
  calls : List Nat       -- call stack, newest first
  joinPc : Nat
  joinMask : Nat
  fid : Nat              -- FID awaited
  dl : Nat               -- D of the last END with Y = 1 (R216), 0 before the first
  count : Nat            -- committed words since the last yield
  await : Nat            -- await mask of the last trailer; 0xFF after a yield (R207)
  pstart : Nat           -- arrival number of the phase start (R153)
  loaded : Bool          -- its bit of the gang slot's lane mask (R99)
  hold : Hold
  inRun : Bool           -- an issue group carries it
  stopped : Bool         -- stopped for pre-emption (R174)
  stamp : Nat            -- when it became ready (R178)
  first : Bool           -- has not begun its first run: acquire at ACQS (R157)
  derived : Bool         -- has had a DERIVED entry (R140)
  brkPass : Bool         -- its next run executes BRK as NOP (R347)
  quiet : Bool           -- its next run passes breakpoints and watchpoints (R403)
  stepping : Bool        -- released by STEP, to stop at its next run start (R402)
  ofStep : Bool          -- released by the gang's last STEP, or made RUNNABLE by a run of it: STEPPED waits for it (R402)
  call : Option Nat      -- key of the SVC outstanding (R385)
  reply : Option (List Byte)  -- a reply kept in the reply area until it is applied (R387)
  item : Nat             -- draw's EACC count: 0 before the first (R187)
deriving DecidableEq, Repr, Inhabited

/-- A region descriptor of a gang's allocation (R147): RGVA and RGCF as read by SRD. -/
structure Region where
  rgva : DWord
  rgcf : Word
deriving DecidableEq, Repr, Inhabited

/-- One gang bound to a gang slot (R166, R203, R205, R218). -/
structure Gang where
  core : Nat
  slot : Nat
  ctx : Nat
  gang : Nat             -- number within the launch
  group : Nat            -- level-L group
  tcb : Nat
  stage : Nat            -- graph stage, 255 for none
  world : Nat            -- 0x7F for none
  wid0 : Nat             -- WID of lane 0
  wids : List Nat        -- WID of each lane
  block : Nat            -- save block (physical address)
  tblocks : List Nat     -- tile save blocks
  v : NMap PVal          -- V and X: key 32 * code + lane
  o : NMap (Option PVal) -- live operand-cache entries: key 32 * entry + lane
  xacq : Bool            -- holds an extended block
  sc : List Word         -- SC0 to SC7
  tiles : List Nat       -- T names held
  ntiles : Nat           -- registers reserved at bind
  spad : NMap Byte       -- the level-1 allocation
  spois : List Nat       -- poisoned 64-bit words of it
  size : Nat             -- SPAD
  alloc : Nat            -- number of the allocation (R368)
  tseq : Nat             -- tile tasks queued so far
  base : Nat             -- first scratchpad line of the allocation
  regions : List Region  -- of this gang: R147 gives each core 16 descriptors, R175 and R177 save and restore them with a gang (DEDUCED, log 88)
  valid : List Nat       -- lines with the valid bit (R218)
  written : List Nat     -- lines of WB regions written and not written back (R148)
  preempt : Bool
  restoring : Bool       -- registers of it are still to be refilled at restore (R177, R407)
  saving : Bool          -- it is being saved: a reply accepted now is applied at restore (R387)
  threads : List Thread  -- 32 lanes
  bornAt : Nat           -- order of binding (R173)
deriving DecidableEq, Repr, Inhabited

/-! ## Runs in issue -/

/-- Effects of a run that take place at its trailer (R209), with the operands read at issue; lane is the place in the group. -/
inductive Fx where
  | store (lane pa va : Nat) (bytes : List Byte) (cp : Nat)
  | strong (lane pa va : Nat) (bytes : List Byte) (rel : Option Nat) (scope cp : Nat)
  | sts (lane off : Nat) (bytes : List Byte)
  | arm (lane off target : Nat)
  | fence (lane aq rl : Nat)
  | phase (lane scope : Nat)
  | bar (lane level : Nat)
  | wait (lane d off ticks : Nat) (all : Bool)
  | swr (slot spr : Nat) (v : Word)
  | post (lane : Nat) (v : Word)
  | thwr (slot tile w : Nat) (v : Word)
  | scwr (slot sc : Nat) (v : Word)
  | twr (lane tile x : Nat) (v : PVal)
  | tfree (slot tile : Nat)
  | relx (slot : Nat)
  | eacc (lane : Nat) (v : DWord)
  | exit (lane : Nat)
  | join (lane : Nat) (mask : Word)
  | svc (lane : Nat)
deriving DecidableEq, Repr

/-- One lane of an issue group: the working copies that its trailer commits. -/
structure RLane where
  lane : Nat             -- lane position, also the thread's lane slot
  slot : Nat
  gang : Nat             -- number of its gang within the launch, for the arithmetic log (R211, R212)
  lat : List PVal        -- b1 first (R202)
  tmp : NMap PVal        -- t0 to t15 (R203)
  wr : List (Nat × PVal) -- V and X writes held for the trailer, oldest first (R204)
  o : NMap (Option PVal) -- operand-cache entries as this run sees them
  preds : Nat
  depth : Nat
  ppois : Nat
  calls : List Nat
  next : Option Nat      -- branch target
  wait : Nat             -- 0 not waiting; WAIT: 1 + due time; BAR: arrived (R336, R337)
  relId : Option Nat     -- release in progress for the word at issue
  bar : Option Nat       -- release of a BAR, which covers earlier runs (R318, R337)
  did : Bool             -- this lane of an SVC or EMIT has taken effect (R174)
  dval : Option PVal     -- result of WAIT (R336)
  clk : Option DWord     -- count latched by the last SRD of CLK in the run (R315)
  ref : Option DWord     -- and of REFCLK
  rcd : List Byte        -- block or record that SVC, EMIT, TQ or an engine word has read at its check (R318, R359, R367)
  coll : Option (Nat × Nat) -- CTAG and rank of a COLL that has passed its check and is not accepted yet (R377)
  pages : List (Nat × Nat × Nat) -- translations that this check has found
  done : Bool            -- has committed or been abandoned
deriving DecidableEq, Repr, Inhabited

/-- The scratchpad of a gang slot as it stood at the start of a run (R318, R359, R367). -/
structure Pad where
  slot : Nat
  spad : NMap Byte
  spois : List Nat
  valid : List Nat
deriving DecidableEq, Repr, Inhabited

/-- An issue group at one word of its run (R197). -/
structure Grp where
  id : Nat
  core : Nat
  ctx : Nat
  pc : Nat                       -- packet of the run start
  words : List (Word × Nat)      -- the words that issue, prefixes and END among them, each with its packet
  idx : Nat
  kext : List Nat                -- payloads of KEXT words pending for the next word (R267)
  qual : Option Word             -- QUAL word pending for the next word (R268)
  named : List Nat               -- temporaries named as destinations
  shifted : Nat                  -- results shifted in (R202)
  fx : List Fx                   -- trailer effects, in program order
  arith : List (Nat × Nat × Nat) -- (gang slot, cause, lane mask) of the arithmetic log (R211)
  stage : Nat                    -- progress inside a word that waits
  stallTx : List Nat             -- atomics whose return the word waits for (R318)
  trailer : Bool                 -- trailer effects have begun
  pads : List Pad                -- scratchpads as they stood at the start of the run (R318)
  allocs : List (Nat × Nat)      -- tile registers that its TALLOC words have taken: gang slot, name (R353)
  lanes : List RLane
deriving DecidableEq, Repr, Inhabited

/-- What a token or atomic result is waiting for, one lane of it (R206). -/
structure TLane where
  slot : Nat
  lane : Nat
  va : Nat
  pa : Nat
  own : List (Nat × Byte)    -- bytes of the thread's own entries, by offset in the line
  fmt : Nat                  -- decoding of R323, 0 for none
  lost : List Nat            -- words of its own entries lost to an error (R105)
  vals : Option (List PVal)  -- the data, once it is there
  drop : Bool                -- its destination has died: discarded on arrival (R206, R345)
  walk : Option Nat          -- the faulted walk that found no free entry (R135)
deriving DecidableEq, Repr, Inhabited

/-- A pending token (R206), one for each word that carries one. -/
structure Token where
  id : Nat
  core : Nat
  ctx : Nat
  k : Nat
  dst : Nat                  -- operand code of the first register
  n : Nat                    -- registers written
  size : Nat
  sx : Bool
  strong : Bool              -- of a strong load (R160)
  grp : Nat                  -- issue group that named it
  dead : Bool                -- cancelled: results are discarded on arrival (R209)
  lanes : List TLane
deriving DecidableEq, Repr, Inhabited

/-! ## Memory hierarchy -/

/-- Bytes of a line, by offset. -/
abbrev Patch := List (Nat × Byte)

/-- A queued update of an L1 line (R99, R155, R156). -/
structure L1Upd where
  arr : Nat
  tx : Nat
  inval : Bool
  bytes : Patch
  pois : List Nat        -- words it makes poison (R409)
deriving DecidableEq, Repr, Inhabited

/-- An L1 line in V or F (R99); a line not listed is I. -/
structure L1Line where
  core : Nat
  line : Nat
  frozen : Bool
  rd : Nat
  data : List Byte
  pois : List Nat        -- poisoned 64-bit words, 0 to 15 (R106)
  queue : List L1Upd
  recNo : Nat            -- arrival number recorded on entering F
  wtag : Nat
deriving DecidableEq, Repr, Inhabited

/-- A directory entry in the forms of R100: pointers or a coarse vector. -/
structure Dir where
  coarse : Bool
  ptrs : List Nat
  cvec : Nat
deriving DecidableEq, Repr, Inhabited

/-- A line held by an L2 slice: a requester-side copy in ways 0 to 7 (world 0x7F), or a line in the ways of a world (R80, R103). -/
structure L2Line where
  slice : Nat
  line : Nat
  world : Nat
  way : Nat
  dirty : Bool
  data : List Byte
  pois : List Nat
  dir : Dir
deriving DecidableEq, Repr, Inhabited

/-- A line that the MSC slice of its home holds (R93, R102); its bytes are those of memory, which the slice writes back to. -/
structure MLine where
  line : Nat
  way : Nat
  dirty : Bool
deriving DecidableEq, Repr, Inhabited

/-- A store entry: bytes one thread has stored to a line and not drained (R97). -/
structure SEnt where
  core : Nat
  slot : Nat
  lane : Nat
  line : Nat
  va : Nat
  bytes : Patch
  hid : List Nat         -- offsets an atomic of the thread has written since (R98)
  pois : List Nat        -- words lost to an error (R105)
  cp : Nat               -- cache policy it drains under (R325)
deriving DecidableEq, Repr, Inhabited

/-- A forwarding entry: drained stores or an atomic's result, until the L1 applies the update or the line goes to I (R97, R98). -/
structure FwdEnt where
  core : Nat
  slot : Nat
  lane : Nat
  line : Nat
  bytes : Patch
  tx : Nat
  held : Bool            -- still counts among the 16 entries of its gang slot (R97)
  pois : List Nat        -- words lost to an error (R105)
deriving DecidableEq, Repr, Inhabited

/-- The read-modify-write of an atomic (R329, R330). -/
structure AtomOp where
  aop : Nat              -- 0 to 7 of R279; 8 for CAS
  ty : Nat
  off : Nat              -- byte offset of the element in the line
  x : Nat                -- operand; for CAS the expected value
  y : Nat                -- CAS: the new value
  scope : Nat
  dst : Option Nat       -- D, where the word returns the old value
  grp : Nat
deriving DecidableEq, Repr, Inhabited

/-- A store, atomic or invalidation under way, until every acknowledgement has come in (R101, R103, R150). -/
structure Tx where
  id : Nat
  core : Nat             -- writer's core; a writer without an L1: 384 the device, from 385 the engines and walkers of a stack
  slot : Nat
  lane : Nat
  tenant : Nat           -- 0xFFFF for the host
  world : Nat
  line : Nat
  va : Nat
  bytes : Patch
  pois : List Nat        -- 64-bit words written with poison (R409)
  strong : Bool
  inval : Bool           -- an invalidation of a victim (R101, R102)
  atom : Option AtomOp
  cp : Nat               -- cache policy (R325)
  cuts : List (Nat × List Nat) -- offsets that a slice keeps from its L1 sharers (R152)
  slice : Nat            -- the writer's slice, or the slice of a victim
  after : List (Nat × Nat) -- stores that must first be acknowledged at a scope (R158, R159)
  own : List Nat         -- cores whose acknowledgement of the writer's slice is due
  others : List (Nat × List Nat) -- other slices: cores whose acknowledgement is due
  l1 : Bool              -- the writer's L1 has seen it (GANG, CORE)
  ackStack : Bool        -- own count is 0 (CLUSTER, STACK)
  atHome : Bool          -- the home has applied it
  homeDone : Bool        -- the home has acknowledged it
  ackPkg : Bool          -- PACKAGE and SYSTEM
  drop : Bool            -- dropped under R84, or the other element of R81
  lost : Bool            -- its data is discarded: an atomic's register receives poison (R91)
  waitSrc : List Nat     -- homes whose SRCACK is due (R118)
  done : Option Nat      -- old value of an atomic
  irq : Option (Nat × Nat × Nat) -- vector raised once the home has applied it (R65)
deriving DecidableEq, Repr, Inhabited

/-- A release in progress (R153): the stores it waits for, and whether an acquire follows. -/
structure Rel where
  id : Nat
  core : Nat
  slot : Nat
  lane : Nat
  scope : Nat
  txs : List Nat
  acq : Bool
deriving DecidableEq, Repr, Inhabited

/-- The coherence machinery (R93 to R104, R108, R110, R155). -/
structure Coh where
  l1 : List L1Line
  l2 : List L2Line
  plru : Tab (Nat × Nat) Nat -- tree pseudo-LRU bits of the ways of a set (R107): (slice, 16 * set + first way)
  msc : List MLine
  mplru : Tab (Nat × Nat) Nat -- those of an MSC set: (home, set)
  cdir : Tab Nat Dir         -- Cellar lines: directory beside the bank group (R96)
  hdir : Tab Nat Dir         -- home directories: L2 slices that hold a line (R102)
  arr : NMap Nat             -- arrival number of each core (R155)
  sent : List SEnt
  fwd : List FwdEnt
  txs : List Tx
  rels : List Rel
  pins : List (Nat × Nat)    -- (line, what pins it: a command, task or 0 for the boot image)
  hot : NMap Nat             -- sampling counts: key 256 * core + tenant (R110)
deriving DecidableEq, Repr, Inhabited

/-- Metadata beside the stored lines (R82, R106, R112). -/
structure Meta where
  pois : List Nat            -- poisoned 64-bit words of memory, by PA / 8, rising
  sealed : Tab Nat (Nat × Nat) -- sealed lines: (SLOT, MAC)
  ctag : Tab Nat Nat         -- Cellar lines that carry a world's tag
  deph : NMap Nat            -- dependent-home masks
deriving DecidableEq, Repr, Inhabited

/-! ## Copy aliases -/

/-- A copy-alias entry (R111); left lists the destination bytes not yet materialised, as ranges (PA, length). -/
structure Alias where
  home : Nat
  holders : List Nat         -- the pieces that resolve a chain through it: HOLD is 1 while there are any
  stale : Bool
  wtag : Nat
  reads : Nat
  xform : Nat
  esz : Nat
  nrows : Nat
  ncols : Nat
  sstride : Nat
  sbase : Nat
  doff : Nat
  len : Nat
  dbase : Nat
  left : List (Nat × Nat)
  hot : Bool                 -- queued for materialisation as hot (R121)
deriving DecidableEq, Repr, Inhabited

/-- HOLD of an entry (R111). -/
def Alias.hold (e : Alias) : Bool := !e.holders.isEmpty

/-- A piece of a COPY or RLAY on its way to a record (R117). -/
structure Piece where
  id : Nat
  cmd : Nat
  entry : Alias              -- as asked for; dbase gives its home
  stage : Nat                -- 0 arrived, 1 resolving, 2 marking, 3 releasing, 4 done
  parts : List Alias         -- resolved pieces
  asked : List Nat           -- homes with entries held for it
  due : List Nat             -- MARK replies due, by granule
  stale : Bool
  failed : Bool
  marks : List Nat           -- granules marked
  caught : List (Nat × Byte × Bool) -- destination bytes whose source was written after its MARK: address, byte as at MARK, poison (R163)
deriving DecidableEq, Repr, Inhabited

/-- The alias tables of the 48 homes and their registers (R113). -/
structure AliS where
  entries : List Alias
  pieces : List Piece
  limit : Nat
  hot : Nat
  eager : NMap Nat           -- EAGER per slice
  hotmat : NMap Nat          -- HOTMAT per slice
  queue : List (Nat × Nat)   -- entries queued as hot: (home, DBASE) (R121)
  srcAcks : List (Nat × List Nat) -- lines waiting for SRCACK (R118)
deriving DecidableEq, Repr, Inhabited

/-! ## Translation -/

/-- Attributes of a leaf. -/
structure PAttr where
  fattr : Nat
  stbl : Bool
  uncached : Bool            -- PBMT 1 (R128)
  size : Nat                 -- log2 of the page the leaf maps (R130)
  r : Bool
  w : Bool
  x : Bool
deriving DecidableEq, Repr, Inhabited

/-- A TLB entry of a stack (R130, R131, R142): size is log2 of the page. -/
structure TlbEnt where
  stack : Nat
  tenant : Nat
  va : Nat
  size : Nat
  pa : Nat
  attr : PAttr
  a : Bool
  d : Bool
deriving DecidableEq, Repr, Inhabited

/-- A walk, or a translation request to the host (R131, R142), for one 4 KiB range of one context. -/
structure Walk where
  id : Nat
  stack : Nat
  tenant : Nat
  ctx : Nat                  -- 0xFFFF: the Reeve's own access
  va : Nat
  acc : Nat                  -- access kind of R136
  ats : Bool
  again : Bool               -- an overlapping invalidation came in (R143)
  fault : Option Nat         -- cause, once it has faulted
  fid : Option Nat           -- its fault entry
  fattr : Nat                -- FATTR of the leaf it faulted at; 0 for none (R137)
deriving DecidableEq, Repr, Inhabited

/-- What a translation answers: an address with its attributes, a fault (the walk that found it, its cause, its entry where one was free), or that a
walk or the host must first answer. -/
inductive XR where
  | ok (pa : Nat) (attr : PAttr)
  | fault (walk cause : Nat) (fid : Option Nat)
  | wait
deriving DecidableEq, Repr, Inhabited

/-- What a walk of the tables finds (R128 to R131): a translation with the place and new value of a leaf whose A or D it sets, a cause, or halves of host
memory it must first hold. -/
inductive WalkR where
  | ok (pa : Nat) (attr : PAttr) (a d : Bool) (upd : Option (Nat × Nat))
  | fault (cause fattr : Nat)
  | need (halves : List Nat) (store : Bool)
deriving DecidableEq, Repr, Inhabited

/-- An outstanding fault entry (R135). -/
structure FaultEnt where
  ctx : Nat
  fid : Nat
  va : Nat
  cause : Nat
  acc : Nat
  prg : Option Nat           -- its page request group (R142)
  stop : Option (Nat × Nat)  -- a debug stop: gang and reason (R398)
  logged : Bool
deriving DecidableEq, Repr, Inhabited

/-- An invalidation in progress (R145, R146). -/
structure Inval where
  id : Nat
  kind : Nat                 -- 0 SDCTL, 1 ATS, 2 DTINV
  v : DWord
  port : Nat
  rels : List Nat            -- phase boundaries it waits for
  txs : List Nat             -- stores it waits for
  toks : List Nat            -- loads it waits for
  cmds : List Nat            -- engine commands it waits for
  runs : List Nat            -- runs in issue that hold stores through a removed translation
  fills : List (Nat × Nat)   -- fills under way without a token: core, line
deriving DecidableEq, Repr, Inhabited

/-- Translation, faults and shootdown (07). -/
structure XlS where
  tlb : List TlbEnt
  walks : List Walk
  faults : List FaultEnt
  freply : Tab (Nat × Nat) Nat  -- recorded replies, beside the area in memory (R141)
  sdva : DWord
  sdack : DWord
  sdctl : DWord
  invals : List Inval
  dtq : List DWord           -- DTINV writes queued (R146)
deriving DecidableEq, Repr, Inhabited

/-! ## Package, links, host -/

/-- A voltage and frequency island (R21); change is the setting being applied, run the frequency the island runs at. -/
structure Island where
  floor : Nat
  fset : Nat
  vset : Nat
  run : Nat
  throt : Bool
  change : Option (Nat × Nat × Nat)
deriving DecidableEq, Repr, Inhabited

/-- States of a Holt port or bridge (R28). -/
inductive LinkState where
  | down | train | keying | up | drain | refuse | failed
deriving DecidableEq, Repr, Inhabited

/-- One Holt port (0 to 15), or one end of a bridge (R25 to R29): the bridges 0 with 1, 1 with 2 and 0 with 2 have the ends 16 to 18 at the first stack
named and 19 to 21 at the second. -/
structure Link where
  st : LinkState
  key : List Byte
  txId : Nat
  rxId : Nat
  tx : Nat                   -- send counter
  rx : Nat                   -- expected counter
  fails : Nat                -- failures of the expected counter value
  updating : Bool            -- a key update has been started (R27)
  replay : List (Nat × List Byte)
  out : List (List Byte)     -- flits put on the line
  inq : List (List Byte)     -- payloads delivered
  asks : List Nat            -- counter values asked to be replayed
deriving DecidableEq, Repr, Inhabited

/-- Package, power and temperature (01). -/
structure Pkg where
  inReset : Bool             -- reset asserted from outside; bad rails hold it too (R19)
  railBad : List Nat
  islands : List Island
  tcol : List Word
  clk : List Nat             -- periods of each compute quadrant, times 1,700 (behind CLK)
  links : List Link
  holtNode : Word
deriving DecidableEq, Repr, Inhabited

/-- State of a half-line of host memory (R38). -/
inductive Half where
  | I | S | E | M
deriving DecidableEq, Repr, Inhabited

/-- What the package sends to the host (R31, R38, R39, R142, R143, 04); pois are the poisoned words of a half's data (R409), backInv the snoop that takes a line of device
memory back from a host (R31). -/
inductive HostMsg where
  | rdShared (half : Nat)
  | rdOwn (half : Nat)
  | cleanEvictNoData (half : Nat)
  | cleanEvict (half : Nat)
  | dirtyEvict (half : Nat) (bytes : List Byte) (pois : List Nat)
  | snpAnswer (half : Nat) (bytes : Option (List Byte)) (pois : List Nat)
  | backInv (port addr : Nat)
  | memData (port addr : Nat) (bytes : List Byte)
  | memDone (port addr : Nat)
  | translate (walk pasid va : Nat) (write : Bool)
  | pageRequest (prg pasid va : Nat) (write : Bool)
  | invDone (port pasid va : Nat)
  | busy (tenant : Nat)
  | keyReply (port func : Nat) (bytes : List Byte)
  | keyExchangeRsp (port func period : Nat)
  | msi (port func vector : Nat)
  | completerAbort (port func : Nat)
  | memAbort (port addr : Nat)
  | pmbus (addr mv : Nat)
deriving DecidableEq, Repr

/-- The link of a host port as it has trained (R31): rate in units of 0.1 GT/s, width in lanes, flit mode (0 none, 1 standard, 2 latency-optimised), IDE. -/
structure PortLink where
  rate : Nat
  width : Nat
  flits : Nat
  ide : Bool
deriving DecidableEq, Repr, Inhabited

/-- Privilege of a Hearth core (R42). -/
inductive HMode where
  | machine | supervisor
deriving DecidableEq, Repr, Inhabited

/-- A Hearth core (R42; log 71): its registers x1 to x31, its program counter and privilege, its pending machine external interrupt (R44), the CSRs that hold a value of their own,
its reservation, and the lines that its two caches hold, most recently used last: coherent with the slice, they hold the bytes of memory. -/
structure Hearth where
  x : List DWord
  pc : Nat
  mode : HMode
  ext : Bool
  csr : NMap DWord
  resv : Option Nat          -- line reserved by LR
  wfi : Bool                 -- waits for an interrupt
  icache : List Nat
  dcache : List Nat
deriving DecidableEq, Repr, Inhabited

/-- Host ports, bridge and boot (02). -/
structure HostS where
  train : List Nat           -- 0 untrained, 1 PCIe, 2 CXL
  phys : List PortLink
  lent : List (Nat × Nat)    -- lines of device memory that a host may hold: port, address div 64 (R31)
  hdmBase : DWord
  hdmSize : DWord
  decoders : List (Nat × Nat)
  halves : Tab Nat Half      -- key: half number, PA div 64
  reqs : List (Nat × Bool)   -- RdShared (false) and RdOwn (true) outstanding
  sent : List HostMsg
  step : Nat
  fail : Nat
  ready : Bool
  recov : Bool
  svn : Nat
  hartid : Word
  meas : List (List Byte)
  flash : List Byte          -- the board flash's locator (R46)
  header : List Byte         -- the header the ROM has checked
  body : Nat                 -- BODYLEN of the pinned image
  waitCxl : Bool             -- the ROM waits at step 3
  stopped : Bool             -- the ROM has stopped
  held : Bool                -- the other Hearth cores are held in reset
  halted : Bool              -- every Hearth core is halted (R51)
  hearth : List Hearth
deriving DecidableEq, Repr, Inhabited

/-! ## Tenants, queues, keys, worlds -/

/-- A work queue's descriptor while the device owns it (R54), and the record held at its head. -/
structure Queue where
  q : Nat
  tenant : Nat
  ctlseq : Nat
  expseq : Nat
  head : Nat
  tail : Nat
  secure : Bool
  qst : Nat                  -- 0 OFF, 1 OPEN, 2 GAP, 3 SPENT, 4 DEAD
  cls : Nat
  rlog : Nat
  rbase : Nat
  held : Bool                -- the record at HEAD is held (R78, R165)
  again : Bool               -- a resource has come free: it is looked at again
deriving DecidableEq, Repr, Inhabited

/-- A key slot (R73): state 0 EMPTY, 1 LOADED, 2 REMOVING; typ 1 RING, 2 WORLD. -/
structure KeySlot where
  state : Nat
  tenant : Nat
  keyid : Nat
  typ : Nat
  ways : Nat
  gen : Nat
  users : Nat
  key : List Byte
deriving DecidableEq, Repr, Inhabited

/-- A live world (R78, R80, R88, R89): phase 0 live, 1 retiring, 2 ending abnormally, 3 scrubbing. -/
structure World where
  ctx : Nat
  slot : Nat
  ways : Nat
  phase : Nat
  status : Nat
  groups : List (Nat × Nat)  -- (slice, first way)
  failed : List Nat          -- lines whose integrity failure is logged (R83)
deriving DecidableEq, Repr, Inhabited

/-- A secured session of a function (R74, R92): heartbeat period in seconds, and when the last HEARTBEAT came. -/
structure Session where
  period : Nat
  last : Nat
  ending : Bool              -- the tenant is absent: it ends once every slot is zeroised
deriving DecidableEq, Repr, Inhabited

/-- An event entry on its way into a ring (R65): ring (256 the system ring), address, bytes, the vector raised after it. -/
structure RingEntry where
  ring : Nat
  addr : Nat
  bytes : List Byte
  irq : Option (Nat × Nat × Nat)
deriving DecidableEq, Repr, Inhabited

/-- Tenants, queues, events, keys, worlds (03, 04, 05: R109, 07: R127, 18). -/
structure TenS where
  trec : NMap Nat            -- tenant records: 64-bit word w of tenant t at 8 t + w (R52)
  hatp : NMap Nat
  txctl : NMap Nat
  hsring : NMap Nat
  hsctl : NMap Nat
  svcring : NMap Nat
  pidx : NMap Nat
  cidx : NMap Nat
  svrply : Tab (Nat × Nat) (List Byte)
  tseq : NMap Nat            -- TSEQ of each tenant ring; 256: the system ring
  serial : Nat               -- EVSERIAL
  sysevr : DWord
  qtbase : DWord
  wrrw : List Nat
  rr : List Nat              -- next queue of each class (R56)
  wrrAt : Nat                -- class of the Reeve's round
  wrrUsed : Nat              -- launches taken from it in this round
  queues : List Queue
  keys : Tab Nat KeySlot
  worlds : Tab Nat World
  tdi : Tab (Nat × Nat) Nat  -- TDISP: 0 CONFIG_UNLOCKED, 1 CONFIG_LOCKED, 2 RUN, 3 ERROR (R91)
  sess : Tab (Nat × Nat) Session
  hreqBase : Tab Nat Nat     -- listed once placed
  hfltBase : Tab Nat Nat
  hreqHead : NMap Nat
  hfltHead : NMap Nat
  hreqTail : NMap Nat
  hfltTail : NMap Nat
  hfltWait : List (Nat × List Byte) -- fault entries waiting for a full ring, or for the line of their place in it (R44)
  hsWait : List (Nat × List Byte) -- samples waiting for the line of their place in their tenant's ring (R110)
  evWait : List RingEntry    -- event entries waiting for the line of their ring, in serial order (R65)
deriving DecidableEq, Repr, Inhabited

/-! ## Launches -/

/-- A launch record (R57). -/
structure LRec where
  kind : Nat
  flags : Nat
  maxdl : Nat
  codebase : Nat
  entry : Nat
  spad : Nat
  w : List Nat
  dom : List Nat             -- DOM1 to DOM5
  xregs : Nat
  tiles : Nat
  count : Nat
  params : Nat
  compl : Nat
  acqs : Nat
  rels : Nat
  keyh : Nat
  kindArea : List Byte       -- bytes 80 to 191
  seq : Nat
  tag : List Byte
deriving DecidableEq, Repr, Inhabited

/-- A graph in progress (R179 to R183). -/
structure GraphS where
  stages : List (List Byte)  -- the stage table as read at dispatch, 32 bytes each
  p : List Nat               -- P of each stage
  ran : List Nat             -- stages that run in this wave
  tail : List Nat            -- records appended to each ring
  recs : List (Nat × Nat × Nat) -- records in the rings, oldest first: stage, sequence number, when it came in
  wave : Nat
  waiting : Bool             -- waits for GSTEP (R183)
  picked : List Nat          -- stages named by GSTEP, seeds due
  serial : Nat               -- of the last GSTEP write
  groups : Nat               -- gangs made so far
  given : List (Nat × Nat)   -- gang slots that one stage is giving to another (R181)
deriving DecidableEq, Repr, Inhabited

/-- An estimate in progress (R187 to R192). -/
structure EstS where
  p : Nat
  n : Nat
  mean : Nat                 -- binary64 bits
  m2 : Nat
  e : Nat
  window : List (Nat × Option Nat) -- draws that have arrived: value, or none for an empty draw
  k : Option Nat             -- K of stop(K)
  stopSerial : Nat
  disc : Nat
  cancelled : Bool
  reached : List Nat         -- clusters that STOP has reached
deriving DecidableEq, Repr, Inhabited

/-- A launch in the launch table (R165). -/
structure Launch where
  ctx : Nat
  tenant : Nat
  queue : Nat
  cls : Nat
  pins : List (Nat × Nat)    -- placement pins in force for it since its dispatch: group, core (R388, R389)
  world : Nat                -- 0x7F for none
  lrec : LRec
  hdr : Nat                  -- context header block, physical address
  arith : Nat                -- arithmetic-log records
  ending : Option Nat        -- status, once the launch is ending
  released : Bool            -- the release at RELS is done
  cut : Nat                  -- first level-L group not yet cut into a released TCB
  waitSince : Nat            -- since when it waits for gang slots (R173)
  graph : Option GraphS
  est : Option EstS
deriving DecidableEq, Repr, Inhabited

/-- A task control block (R166); state 0 QUEUED, 1 BOUND, 2 DONE, 3 PREEMPTED; at: 96 for the Reeve, else its cluster. -/
structure TCB where
  id : Nat
  ctx : Nat
  entry : Nat
  stage : Nat
  wtag : Nat
  reclist : DWord            -- RECLIST: the Reeve's own address of a graph gang's record indices, else 0
  recs : List (List Byte)    -- continuation records of a graph gang, one a lane
  seqs : List Nat            -- their sequence numbers
  gno : Nat                  -- number of its first group among all of the launch
  limit : Nat                -- identifiers from here on make no thread: COUNT, or SEED
  level : Nat
  pinned : Bool
  state : Nat
  ngrp : Nat
  first : Nat
  place : Nat
  passed : Nat
  pinCore : Option Nat       -- core of an enabled pin (R389)
  unit : Nat                 -- group of the highest STACK or PACKAGE level (R168)
  stackUnit : Nat            -- group of the lowest STACK level, whose TCBs share a stack
  since : Nat                -- when it began to wait for gang slots (R173)
deriving DecidableEq, Repr, Inhabited

/-- A gang that has been saved (R175): its block, and what the block's layout has no place for. -/
structure Saved where
  ctx : Nat
  group : Nat
  gang : Nat
  tcb : Nat
  parked : Bool
  block : Nat
  tblocks : List Nat
  wids : List Nat
  stage : Nat
  world : Nat
  tpois : List (Nat × List Nat) -- poisoned words of its tile registers (R410)
  threads : List Thread
deriving DecidableEq, Repr, Inhabited

/-- Scheduling (09, 10, 19). -/
structure RunS where
  launches : List Launch
  tcbs : List TCB            -- in the order they came into their queues
  saved : List Saved
  savebase : DWord
  savecnt : DWord
  blocks : List Nat          -- blocks of the pool in use
  steals : List (Nat × List Nat) -- thief, victims not yet tried
  params : List (Nat × List Nat) -- parameter caches: contexts, newest first
  preempts : List (Nat × Nat × Nat) -- (ctx, group) being pre-empted, and the launch that waits for its slots (R173); 4096: its own graph (R181)
  estsel : DWord
  estsnap : List Byte
  pins : List DWord          -- PLACEPIN0 to PLACEPIN15
deriving DecidableEq, Repr, Inhabited

/-- The cores: bound gangs, tokens, runs in issue (11). -/
structure CoreS where
  gangs : List Gang
  toks : List Token
  issue : List Grp
deriving DecidableEq, Repr, Inhabited

/-! ## Anvil and engines -/

/-- A tile register: its 4,096 words and header (R354), and its poisoned words (R410). -/
structure TileReg where
  ctx : Nat
  gang : Nat
  name : Nat
  words : NMap Word
  header : List Byte
  pois : List Nat
deriving DecidableEq, Repr, Inhabited

/-- A tile task in an Anvil queue (R358, R359). -/
structure Task where
  id : Nat
  cluster : Nat
  ctx : Nat
  gang : Nat
  alloc : Nat
  lane : Nat                 -- a lane of the gang that queued it
  pc : Nat                   -- packet of the run that queued it (R243)
  rcd : List Byte
  fsc : Word
  osc : Word
  seq : Nat                  -- its number among the gang's tasks
  deps : List Nat            -- ids of tasks it waits for
  rl : Nat
  grp : Nat                  -- the run that queued it, until its trailer has passed
  passed : Bool
  step : Nat                 -- next output step
  heads : List (List Byte)   -- its headers, A, B and the one at DADDR, once they have been read and checked
  fid : Option Nat
  log : List (Nat × Nat)     -- arithmetic causes already logged
  txs : List Nat
  finished : Bool
deriving DecidableEq, Repr, Inhabited

/-- A command in a slot of a request engine (R367, R368), or a collective (R377). -/
structure Cmd where
  id : Nat
  core : Nat
  slot : Nat
  lane : Nat
  ctx : Nat
  gang : Nat
  tenant : Nat
  world : Nat
  alloc : Nat
  opc : Nat                  -- 1 to 6; 7 COLL
  block : List Byte
  rl : Nat
  pos : Nat                  -- progress: next element, piece or line
  pieces : List Nat          -- pieces recorded but not acknowledged
  buf : List Byte            -- bytes read and not yet written
  idx : List Nat             -- the index list, once it has been read (R373)
  pages : List (Nat × Nat × Nat) -- translations held (R368): virtual page, physical page, log2 of the leaf's page
  fid : Option Nat
  txs : List Nat
  list : Option Nat          -- the request list it belongs to
  matched : Bool             -- COLL: every rank's command has met
  remote : List (List Byte)  -- COLL: data of the ranks of other packages
  ports : List Nat           -- COLL: Holt ports and bridges of its routes (R29, R379)
  away : List (Nat × Nat)    -- COLL: ranks of other packages, and the port to each
  finished : Bool
deriving DecidableEq, Repr, Inhabited

/-- A request list (R374). -/
structure CList where
  id : Nat
  core : Nat
  slot : Nat
  lane : Nat
  ctx : Nat
  gang : Nat
  tenant : Nat
  world : Nat
  alloc : Nat
  addr : Nat
  n : Nat
  next : Nat
  rl : Nat
  fid : Option Nat
deriving DecidableEq, Repr, Inhabited

/-- Anvil, request engines, collective engines (17). -/
structure EngS where
  tregs : List TileReg
  tasks : List Task
  rr : NMap Nat              -- gang slot of the cluster served next (R361)
  cmds : List Cmd
  lists : List CList
deriving DecidableEq, Repr, Inhabited

/-! ## Notice board -/

/-- A watchpoint (R393, R400). -/
structure Watch where
  flags : Nat
  len : Nat
  gang : Nat
  off : Nat
deriving DecidableEq, Repr, Inhabited

/-- The notice board (R390 to R403). -/
structure NbS where
  nbctl : DWord
  cseq : Nat
  eseq : Nat
  armed : Option Nat         -- queue
  heldCtx : Option Nat
  bps : Tab Nat Nat
  wps : Tab Nat Watch
  halted : List Nat          -- gangs in the halt state (R401)
  halting : List Nat         -- gangs whose HALTED is due
  steps : List Nat           -- gangs whose STEPPED is due
deriving DecidableEq, Repr, Inhabited

/-! ## The machine -/

/-- Which of the agents that the spec leaves unordered moves next (log 2). -/
inductive Turn where
  /-- The n-th message of the agenda, where its channel allows. -/
  | event (n : Nat)
  /-- The n-th issue group issues its next word. -/
  | issue (n : Nat)
  /-- The n-th waiting message tries again. -/
  | retry (n : Nat)
  /-- A Hearth core executes its next instruction (R42). -/
  | hearth (h : Nat)
  /-- The service instance of a Hearth core forwards the i-th request that its ring holds to another's (R43). -/
  | forward (h i owner : Nat)
deriving DecidableEq, Repr

/-- The model's own fields: messages under way, running timeouts, and the counters of log 1 and log 4. -/
structure Ctl where
  agenda : List Ev
  waiting : List Ev          -- messages that have arrived and wait at their place, in the order they are tried again
  schedule : List Turn
  timers : List (Nat × Ev)
  op : Option Ev             -- the message whose event happens
  freeCtr : Nat
  time : Nat
  nextId : Nat
  resets : Nat               -- package resets so far (log 8)
  badPA : Option Nat
  integDue : List (Nat × Nat) -- integrity failures of this step, world and address, not yet logged (R83)
  sealDue : List (Nat × Nat × Nat) -- writes of outsiders dropped in this step, not yet logged: address, world, writer (R84)
  failDue : List (Nat × Nat) -- bridge ends that have failed in this step, not yet reported, with the counter value (R26, R28)
  cut : Bool                 -- an access of this step has met a bridge in FAILED (R29, R87)
deriving DecidableEq, Repr, Inhabited

/-- Memory: the bytes of R94's address space, by physical address, in the canonical form of a sparse map (Memory.wf); an
unlisted byte reads as 0 (log 9). -/
abbrev Memory := List Host.Cell

/-- The whole package. -/
structure State where
  ctl : Ctl
  mem : Memory
  mm : Meta
  pkg : Pkg
  host : HostS
  ten : TenS
  coh : Coh
  ali : AliS
  xl : XlS
  run : RunS
  core : CoreS
  eng : EngS
  nb : NbS
deriving DecidableEq, Repr, Inhabited

/-- Why the machine stops. -/
inductive Fault where
  /-- Raised by step after a device access that bypasses translation (a ring, a table, a save block placed by a register) has met a
  physical address that R94 does not decode. Safe: the spec gives no effect (R94 names only translated accesses; log 5). -/
  | unmappedAddress (pa : Nat)
deriving DecidableEq, Repr

/-- Why an instruction has no meaning. -/
inductive Refusal where
  /-- Raised by exec for an instruction not modelled yet. Safe: nothing happens. -/
  | notModelled (mnemonic : String)
deriving DecidableEq, Repr

/-! ## Reset -/

/-- Reset values of ISLAND0 to ISLAND23 (R21). -/
def resetIsland (i : Nat) : Island :=
  let fv : Nat × Nat :=
    if i < 21 then
      match i % 7 with
      | 4 => (850, 750)
      | 5 => (1700, 800)
      | 6 => (2000, 1050)
      | _ => (850, 850)
    else if i = 21 then (1000, 900) else if i = 22 then (1750, 900) else (400, 1800)
  { floor := if i < 21 ∧ i % 7 < 4 then 300 else 0, fset := fv.1, vset := fv.2, run := fv.1, throt := false, change := none }

/-- A Holt port or bridge before any key (R28; log 6). -/
def resetLink : Link :=
  { st := .down, key := [], txId := 0, rxId := 0, tx := 0, rx := 0, fails := 0, updating := false, replay := [],
    out := [], inq := [], asks := [] }

/-- The first sampling of the 96 columns, 1,000 reference ticks after reset (R23), with free readings (log 75). -/
def sampleTimers (n : Nat) : List (Nat × Ev) :=
  (List.range 96).map (fun c => (17000, Ev.tcolSample c (Config.reading (3 * n) c % 1024) (Config.reading (3 * n + 1) c % 1024) (Config.reading (3 * n + 2) c % 1024)))

/-- A host port before training. -/
def resetPort : PortLink := { rate := 0, width := 0, flits := 0, ide := false }

/-- A Hearth core in reset (log 82). -/
def resetHearth : Hearth := { x := List.replicate 31 0, pc := 0, mode := .machine, ext := false, csr := [], resv := none, wfi := false, icache := [], dcache := [] }

/-- The package right after reset (INVENTORY.md, State): the ROM's boot is the first thing to happen (R49). What the spec gives no reset value for is 0, HSRING (R109) among it
(DESIGN CHOICE, log 4). -/
def State.reset : State :=
  { ctl := { agenda := [.bootStart], waiting := [], schedule := [], timers := sampleTimers 0, op := none, freeCtr := 0, time := 0, nextId := 0, resets := 0, badPA := none, integDue := [], sealDue := [], failDue := [], cut := false },
    mem := [],
    mm := { pois := [], sealed := [], ctag := [], deph := [] },
    pkg :=
      { inReset := false, railBad := [], islands := (List.range 24).map resetIsland, tcol := List.replicate 96 0,
        clk := List.replicate 12 0, links := List.replicate 22 resetLink, holtNode := 0 },
    host :=
      { train := [0, 0], phys := [resetPort, resetPort], lent := [], hdmBase := 0, hdmSize := 0, decoders := [], halves := [], reqs := [], sent := [], step := 0, fail := 0,
        ready := false, recov := false, svn := 0, hartid := 0, meas := List.replicate 8 (List.replicate 32 0),
        flash := List.replicate 64 0, header := [], body := 0, waitCxl := false, stopped := false, held := true, halted := false, hearth := List.replicate 48 resetHearth },
    ten :=
      { trec := [], hatp := [], txctl := [], hsring := [], hsctl := [], svcring := [], pidx := [], cidx := [], svrply := [],
        tseq := [], serial := 0, sysevr := 0, qtbase := 0, wrrw := List.replicate 8 1, rr := List.replicate 8 0, wrrAt := 7, wrrUsed := 0, queues := [],
        keys := [], worlds := [], tdi := [], sess := [], hreqBase := [], hfltBase := [], hreqHead := [], hfltHead := [],
        hreqTail := [], hfltTail := [], hfltWait := [], hsWait := [], evWait := [] },
    coh := { l1 := [], l2 := [], plru := [], msc := [], mplru := [], cdir := [], hdir := [], arr := [], sent := [], fwd := [], txs := [], rels := [], pins := [], hot := [] },
    ali := { entries := [], pieces := [], limit := 0x2000, hot := 16, eager := [], hotmat := [], queue := [], srcAcks := [] },
    xl := { tlb := [], walks := [], faults := [], freply := [], sdva := 0, sdack := 0, sdctl := 0, invals := [], dtq := [] },
    run :=
      { launches := [], tcbs := [], saved := [], savebase := 0, savecnt := 0, blocks := [], steals := [], params := [],
        preempts := [], estsel := 0, estsnap := List.replicate 32 0, pins := List.replicate 16 0 },
    core := { gangs := [], toks := [], issue := [] },
    eng := { tregs := [], tasks := [], rr := [], cmds := [], lists := [] },
    nb := { nbctl := 0, cseq := 0, eseq := 0, armed := none, heldCtx := none, bps := [], wps := [], halted := [], halting := [], steps := [] } }

end Sys2Proof.Machine
end

