-- ==== Sys2Proof/Machine/Base.lean ====
section
/-! DEFINITION. The smallest operations over the state: messages and timers, physical addresses (R94 to R96), raw memory, tenant records, launches, gangs and
threads. -/

namespace Sys2Proof.Machine

open Sys2Proof

/-! ## Messages, timers, fresh numbers -/

/-- s with a message sent. -/
def State.send (s : State) (e : Ev) : State := { s with ctl.agenda := s.ctl.agenda ++ [e] }

/-- s with messages sent, in order. -/
def State.sendAll (s : State) (es : List Ev) : State := { s with ctl.agenda := s.ctl.agenda ++ es }

/-- s with a message that happens before all others under way. -/
def State.urge (s : State) (e : Ev) : State := { s with ctl.agenda := e :: s.ctl.agenda }

/-- s with messages that happen, in order, before all others under way. -/
def State.urgeAll (s : State) (es : List Ev) : State := { s with ctl.agenda := es ++ s.ctl.agenda }

/-- s with a message that has arrived and must wait at its place. -/
def State.wait (s : State) (e : Ev) : State := { s with ctl.waiting := s.ctl.waiting ++ [e] }

/-- s with messages that wait at their place before all others that wait there. -/
def State.waitFirst (s : State) (es : List Ev) : State := { s with ctl.waiting := es ++ s.ctl.waiting }

/-- s with an event due after a number of 1.7 GHz periods. -/
def State.after (s : State) (periods : Nat) (e : Ev) : State := { s with ctl.timers := s.ctl.timers ++ [(s.ctl.time + periods, e)] }

/-- s without the timers that p picks. -/
def State.cancel (s : State) (p : Ev → Bool) : State := { s with ctl.timers := s.ctl.timers.filter (fun t => !p t.2) }

/-- s without the messages that p picks, on their way or waiting. -/
def State.unsend (s : State) (p : Ev → Bool) : State :=
  { s with ctl.agenda := s.ctl.agenda.filter (fun e => !p e), ctl.waiting := s.ctl.waiting.filter (fun e => !p e) }

/-- A message is on its way or waits, or a timer for it runs. -/
def State.due (s : State) (p : Ev → Bool) : Bool := s.ctl.agenda.any p || s.ctl.waiting.any p || s.ctl.timers.any (fun t => p t.2)

/-- A message waits and is looked at again, unless it is under way already. -/
def State.later (s : State) (e : Ev) : State := if s.due (fun x => x == e) then s else s.wait e

/-- s after a number has been taken. -/
def State.bump (s : State) : State := { s with ctl.nextId := s.ctl.nextId + 1 }

/-- Something goes to the host. -/
def State.toHost (s : State) (m : HostMsg) : State := { s with host.sent := s.host.sent ++ [m] }

/-- Periods of 1.7 GHz in a microsecond, a reference tick (R4), a cycle (R4), a mesh cycle. -/
def perUs : Nat := 1700
/-- A reference tick of 10 ns is 17 periods. -/
def perTick : Nat := 17
/-- A cycle of 850 MHz is 2 periods. -/
def perCycle : Nat := 2

/-- A left fold that threads the state. -/
def forAll {α : Type} (l : List α) (s : State) (f : State → α → State) : State := l.foldl f s

/-! ## Physical addresses -/

/-- An HBM address (R94). -/
def isHbm (pa : Nat) : Bool := decide (pa < 0xC000000000)
/-- A Cellar address (R94). -/
def isCellar (pa : Nat) : Bool := decide (0x10000000000 ≤ pa) && decide (pa < 0x100C0000000)
/-- A host address (R94). -/
def isHost (pa : Nat) : Bool := decide (pa < 2 ^ 56) && bit pa 55 && (bits pa 53 52 == 0)
/-- An address that R94 decodes. -/
def isMapped (pa : Nat) : Bool := isHbm pa || isCellar pa || isHost pa
/-- An MSC slice's address range does not matter below a line; this is the line's number. -/
def lineOf (pa : Nat) : Nat := pa / 128
/-- The home of an HBM or host address (R95). -/
def homeOf (pa : Nat) : Nat := pa / 4096 % 48
/-- The channel group of its home's base die that stores an HBM line (R95). -/
def channelGroup (pa : Nat) : Nat := pa / 4096 / 48 % 8
/-- The router of a channel group: the groups go by rank in the list of R16. -/
def groupRouter (c : Nat) : Nat := ([1, 2, 4, 7, 8, 11, 13, 14].drop c).headD 0
/-- The HBM stack of its base die that stores an HBM line (R16). -/
def hbmStack (pa : Nat) : Nat := channelGroup pa / 2
/-- The L2 slice of a stack that serves a line (R95). -/
def sliceFor (stack line : Nat) : Nat := 32 * stack + line % 32
/-- The package column of a Cellar address (R94). -/
def cellarColumn (pa : Nat) : Nat := (pa - 0x10000000000) / 0x2000000
/-- The stack of a core (R194). -/
def stackOf (core : Nat) : Nat := core / 128
/-- The cluster (package column) of a core. -/
def clusterOf (core : Nat) : Nat := core / 4
/-- The half-line of a host address (R38). -/
def halfOf (pa : Nat) : Nat := pa / 64
/-- The port over which a half is reached (R94). -/
def halfPort (half : Nat) : Nat := bits (64 * half) 54 54

/-- A port has trained as a CXL port (R32). -/
def State.isCxl (s : State) (port : Nat) : Bool := (s.host.train.drop port).headD 0 == 2
/-- A device address of host memory (R128). -/
def hostPa (port addr : Nat) : Nat := 2 ^ 55 + port * 2 ^ 54 + addr

/-! ## Raw memory -/

/-- The byte stored at an address. -/
def State.byteAt (s : State) (pa : Nat) : Byte := nget 0 s.mem pa

/-- n bytes stored from an address on. -/
def State.bytesAt (s : State) (pa n : Nat) : List Byte := (List.range n).map (fun i => s.byteAt (pa + i))

/-- Memory with one byte written. -/
def Memory.put (m : Memory) (pa : Nat) (b : Byte) : Memory := nset 0 m pa b

/-- Memory with bytes written from an address on. -/
def Memory.putAll : Memory → Nat → List Byte → Memory
  | m, _, [] => m
  | m, pa, b :: t => Memory.putAll (Memory.put m pa b) (pa + 1) t

/-- Memory with the bytes of a patch of a line written. -/
def Memory.patch : Memory → Nat → Patch → Memory
  | m, _, [] => m
  | m, base, e :: t => Memory.patch (Memory.put m (base + e.1) e.2) base t

/-- The canonical form of memory. -/
abbrev Memory.wf (m : Memory) : Bool := nwf (0 : Byte) m

/-- s with bytes stored from an address on, and nothing else. -/
def State.putBytes (s : State) (pa : Nat) (bytes : List Byte) : State := { s with mem := Memory.putAll s.mem pa bytes }

/-- A rising list with x in it. -/
def addSorted (l : List Nat) (x : Nat) : List Nat :=
  if l.contains x then l else (l.filter (fun y => decide (y < x))) ++ x :: (l.filter (fun y => decide (x < y)))

/-- A Hearth core starts, in machine mode (R45, R49): its CSRs are as at reset, and it holds no reservation. -/
def Hearth.start (x : Hearth) (pc : Nat) : Hearth := { x with pc := pc, mode := .machine, csr := [], resv := none, wfi := false }

/-- A Hearth core changed. -/
def State.updHearth (s : State) (h : Nat) (f : Hearth → Hearth) : State := { s with host.hearth := modAt s.host.hearth h f }

/-- s with a 64-bit word of memory marked poisoned, or clean (R106). -/
def State.setPoison (s : State) (word : Nat) (b : Bool) : State :=
  { s with mm.pois := if b then addSorted s.mm.pois word else s.mm.pois.filter (fun w => w != word) }

/-- The poisoned 64-bit words (0 to 15) of a line of memory. -/
def State.linePois (s : State) (line : Nat) : List Nat := (List.range 16).filter (fun w => s.mm.pois.contains (16 * line + w))

/-! ## Tenant records -/

/-- A 64-bit word of a tenant record. -/
def State.trec (s : State) (t w : Nat) : Nat := nget 0 s.ten.trec (8 * t + w)
/-- STATE of a tenant (R52): 0 OFF, 1 ON, 2 DEAD. -/
def State.tState (s : State) (t : Nat) : Nat := bits (s.trec t 0) 1 0
/-- SECURE. -/
def State.tSecure (s : State) (t : Nat) : Bool := bit (s.trec t 0) 3
/-- MAXPRI. -/
def State.tMaxPri (s : State) (t : Nat) : Nat := bits (s.trec t 0) 10 8
/-- MODES (R40). -/
def State.tModes (s : State) (t : Nat) : Nat := bits (s.trec t 0) 19 16
/-- RINGKEY. -/
def State.tRingKey (s : State) (t : Nat) : Nat := bits (s.trec t 0) 39 32
/-- FUNC. -/
def State.tFunc (s : State) (t : Nat) : Nat := bits (s.trec t 0) 47 40
/-- MSIBASE. -/
def State.tMsi (s : State) (t : Nat) : Nat := bits (s.trec t 0) 55 48
/-- PORT. -/
def State.tPort (s : State) (t : Nat) : Nat := bits (s.trec t 0) 56 56
/-- QBASE. -/
def State.tQBase (s : State) (t : Nat) : Nat := bits (s.trec t 1) 16 0
/-- QCOUNT. -/
def State.tQCount (s : State) (t : Nat) : Nat := bits (s.trec t 1) 49 32
/-- PASID. -/
def State.tPasid (s : State) (t : Nat) : Nat := bits (s.trec t 2) 19 0
/-- WINBASE. -/
def State.tWinBase (s : State) (t : Nat) : Nat := s.trec t 3
/-- WINLIM. -/
def State.tWinLim (s : State) (t : Nat) : Nat := s.trec t 4
/-- PTROOT. -/
def State.tPtRoot (s : State) (t : Nat) : Nat := s.trec t 5
/-- EVRING. -/
def State.tEvRing (s : State) (t : Nat) : Nat := s.trec t 6
/-- s with a word of a tenant record. -/
def State.setTrec (s : State) (t w v : Nat) : State := { s with ten.trec := nset 0 s.ten.trec (8 * t + w) v }
/-- s with a tenant's STATE. -/
def State.setTState (s : State) (t v : Nat) : State := s.setTrec t 0 (setBits (s.trec t 0) 1 0 v)
/-- TXCTL of a tenant, with HBP 10 before it has been written (R127). -/
def State.txctl (s : State) (t : Nat) : Nat := nget 0xA00 s.ten.txctl t
/-- The ON tenant that a function belongs to (R52, R55). -/
def State.tenantOf (s : State) (port func : Nat) : Option Nat :=
  (List.range 256).find? (fun t => s.tState t == 1 && s.tPort t == port && s.tFunc t == func)
/-- The tenant that a function belongs to: the ON one, else a DEAD one (R60). -/
def State.tenantOfAny (s : State) (port func : Nat) : Option Nat :=
  match s.tenantOf port func with
  | some t => some t
  | none => (List.range 256).find? (fun t => s.tState t == 2 && s.tPort t == port && s.tFunc t == func)

/-- A function's interface has left RUN: host accesses through it receive completer abort (R91). -/
def State.refuses (s : State) (port func : Nat) : Bool := tget s.ten.tdi (port, func) == some 3

/-! ## Levels and groups (R58, R166) -/

/-- The identifier bits below field k: the sum of the widths before it (R58). -/
def LRec.shift (r : LRec) (k : Nat) : Nat := (r.w.take k).foldl (fun a b => a + b) 0

/-- The number of present levels (R58). -/
def LRec.levels (r : LRec) : Nat := max 1 ((List.range 6).foldl (fun n k => if k ≥ 1 && (r.w.drop k).headD 0 != 0 then k else n) 0)

/-- DOM of a level. -/
def LRec.domOf (r : LRec) (k : Nat) : Nat := (r.dom.drop (k - 1)).headD 0

/-- The split level L (R166): the highest present level that is 1 or of a domain up to CLUSTER. -/
def LRec.split (r : LRec) : Nat := (List.range 6).foldl (fun n k => if k ≥ 2 && k ≤ r.levels && decide (r.domOf k ≤ 1) then k else n) 1

/-- The group of level k that an identifier belongs to. -/
def LRec.groupAt (r : LRec) (k wid : Nat) : Nat := wid / 2 ^ r.shift k

/-- The scope of a domain code (R57, R149). -/
def domScope (d : Nat) : Nat := d + 2

/-- The number of level-L groups of a launch that is not a graph (R166). -/
def LRec.groups (r : LRec) : Nat := ceilDiv r.count (2 ^ r.shift r.split)

/-! ## Queues, launches, TCBs -/

/-- A queue that is not OFF. -/
def State.queue (s : State) (q : Nat) : Option Queue := s.ten.queues.find? (fun x => x.q == q)
/-- s with a queue changed. -/
def State.updQueue (s : State) (q : Nat) (f : Queue → Queue) : State :=
  { s with ten.queues := s.ten.queues.map (fun x => if x.q = q then f x else x) }
/-- A queue has a record to read, or to look at again (R54, R56, R60). -/
def Queue.waiting (q : Queue) : Bool := q.head != q.tail && (!q.held || q.again)

/-- Queues of a class with a record to read, in round-robin order (R56). -/
def State.classQueues (s : State) (c : Nat) : List Nat :=
  let qs := sortBy (fun q => q) ((s.ten.queues.filter (fun q => q.cls == c && q.waiting)).map (fun q => q.q))
  let from_ := (s.ten.rr.drop c).headD 0
  qs.filter (fun q => decide (from_ ≤ q)) ++ qs.filter (fun q => decide (q < from_))

/-- The class and queue the Reeve turns to next, with the launches then taken from the class in the round (R56): by fuel, over two rounds of classes. -/
def State.nextQueue (s : State) : Nat → Nat → Nat → Option (Nat × Nat × Nat)
  | 0, _, _ => none
  | k + 1, c, used =>
    match s.classQueues c with
    | q :: _ => if used < (s.ten.wrrw.drop c).headD 0 then some (c, q, used) else State.nextQueue s k (if c = 0 then 7 else c - 1) 0
    | [] => State.nextQueue s k (if c = 0 then 7 else c - 1) 0

/-- The message that reads a queue's next record. -/
def reading (e : Ev) : Bool :=
  match e with
  | .launchRecord _ => true
  | .controlRecord _ => true
  | .queueHeadRetry _ => true
  | _ => false

/-- A queue's record is held at its head (R78, R165). -/
def State.headHeld (s : State) (q : Nat) : Bool := match s.queue q with | some x => x.held | none => false

/-- The Reeve turns to its next record, if it reads none. The round goes on from the class and count of its last turn, however long it has been idle (DESIGN CHOICE, log 99). -/
def State.pokeReeve (s : State) : State :=
  if s.due reading then s
  else
    match s.nextQueue 17 s.ten.wrrAt s.ten.wrrUsed with
    | some (c, q, used) => ({ s with ten.wrrAt := c, ten.wrrUsed := used, ten.rr := modAt s.ten.rr c (fun _ => q + 1) }).send (if s.headHeld q then .queueHeadRetry q else .launchRecord q)
    | none => s

/-- A resource has come free: held records are looked at again, each when the round comes to its queue (R56, R78, R165). -/
def State.retryHeld (s : State) : State :=
  if s.ten.queues.any (fun q => q.held && !q.again) then
    { s with ten.queues := s.ten.queues.map (fun (q : Queue) => if q.held then { q with again := true } else q) }.pokeReeve
  else s

/-- The launch of a context. -/
def State.launch (s : State) (ctx : Nat) : Option Launch := s.run.launches.find? (fun l => l.ctx == ctx)
/-- s with a launch changed. -/
def State.updLaunch (s : State) (ctx : Nat) (f : Launch → Launch) : State :=
  { s with run.launches := s.run.launches.map (fun l => if l.ctx = ctx then f l else l) }
/-- A TCB by its number. -/
def State.tcb (s : State) (id : Nat) : Option TCB := s.run.tcbs.find? (fun t => t.id == id)
/-- s with a TCB changed. -/
def State.updTcb (s : State) (id : Nat) (f : TCB → TCB) : State :=
  { s with run.tcbs := s.run.tcbs.map (fun t => if t.id = id then f t else t) }
/-- The tenant has a context dispatched and not completed (R37, R41, R53). -/
def State.hasContext (s : State) (t : Nat) : Bool := s.run.launches.any (fun l => l.tenant == t)
/-- The tenant of a context; 256 when there is no such context. -/
def State.tenantOfCtx (s : State) (ctx : Nat) : Nat := match s.launch ctx with | some l => l.tenant | none => 256
/-- MODES of a context's tenant. -/
def State.modesOfCtx (s : State) (ctx : Nat) : Nat := s.tModes (s.tenantOfCtx ctx)
/-- The world of a context. -/
def State.worldOfCtx (s : State) (ctx : Nat) : Nat := match s.launch ctx with | some l => l.world | none => 0x7F

/-! ## Gangs and threads -/

/-- The gang bound to a gang slot. -/
def State.gang (s : State) (core slot : Nat) : Option Gang := s.core.gangs.find? (fun g => g.core == core && g.slot == slot)
/-- s with the gang of a slot changed. -/
def State.updGang (s : State) (core slot : Nat) (f : Gang → Gang) : State :=
  { s with core.gangs := s.core.gangs.map (fun g => if g.core = core ∧ g.slot = slot then f g else g) }
/-- A gang of a launch. -/
def State.gangOf (s : State) (ctx gang : Nat) : Option Gang := s.core.gangs.find? (fun g => g.ctx == ctx && g.gang == gang)
/-- An empty lane slot. -/
def emptyThread : Thread :=
  { status := .empty, pc := 0, preds := 0, depth := 0, ppois := 0, calls := [], joinPc := 0, joinMask := 0, fid := 0, dl := 0, count := 0,
    await := 0, pstart := 0, loaded := false, hold := .none, inRun := false, stopped := false, stamp := 0, first := false, derived := false,
    brkPass := false, quiet := false, stepping := false, ofStep := false, call := none, reply := none, item := 0 }
/-- The thread in a lane of a gang. -/
def Gang.thread (g : Gang) (lane : Nat) : Thread := (g.threads.drop lane).headD emptyThread
/-- g with a thread changed. -/
def Gang.updThread (g : Gang) (lane : Nat) (f : Thread → Thread) : Gang := { g with threads := modAt g.threads lane f }
/-- The thread in a lane slot. -/
def State.thread (s : State) (core slot lane : Nat) : Thread :=
  match s.gang core slot with
  | some g => g.thread lane
  | none => emptyThread
/-- s with a thread changed. -/
def State.updThread (s : State) (core slot lane : Nat) (f : Thread → Thread) : State :=
  s.updGang core slot (fun g => g.updThread lane f)
/-- s with a token changed. -/
def State.updTok (s : State) (id : Nat) (f : Token → Token) : State :=
  { s with core.toks := s.core.toks.map (fun t => if t.id = id then f t else t) }
/-- s with a store or atomic under way changed. -/
def State.updTx (s : State) (id : Nat) (f : Tx → Tx) : State :=
  { s with coh.txs := s.coh.txs.map (fun t => if t.id = id then f t else t) }
/-- The store or atomic of a message. -/
def Ev.txOf (e : Ev) : Option Nat :=
  match e with
  | .l1Update _ x => some x
  | .dirStore x => some x
  | .dirAck x _ _ => some x
  | .homeStore x => some x
  | .l2HomeUpdate _ x => some x
  | .homeAck x => some x
  | .storeAck x _ => some x
  | .atomicReturn x => some x
  | _ => none
/-- A store or atomic under way. -/
def State.tx (s : State) (id : Nat) : Option Tx := s.coh.txs.find? (fun t => t.id == id)
/-- s with a task changed. -/
def State.updTask (s : State) (id : Nat) (f : Task → Task) : State :=
  { s with eng.tasks := s.eng.tasks.map (fun t => if t.id = id then f t else t) }
/-- s with a command changed. -/
def State.updCmd (s : State) (id : Nat) (f : Cmd → Cmd) : State :=
  { s with eng.cmds := s.eng.cmds.map (fun c => if c.id = id then f c else c) }
/-- The home of the head of a context's header block (R44): its Hearth core. -/
def State.hearthOf (s : State) (ctx : Nat) : Nat := match s.launch ctx with | some l => homeOf l.hdr | none => 0
/-- The number of the gang slots of a gang slot's cluster, in the order of R361. -/
def clusterSlot (g : Gang) : Nat := 32 * (g.core % 4) + g.slot
/-- A thread is a live thread: in a lane that has one, and not exited. -/
def Thread.live (t : Thread) : Bool := t.status != .empty && t.status != .exited
/-- A key slot; none where it is EMPTY and has never been used (R73). -/
def State.key (s : State) (slot : Nat) : Option KeySlot := tget s.ten.keys slot
/-- A world is to end abnormally with a status: of two endings, or an ending and a completion, the one stamped first decides (R90), so the status stands from the ending's
event on. -/
def State.sendAbort (s : State) (w status : Nat) : State :=
  match tget s.ten.worlds w with
  | some x =>
    let s1 := if x.status = 0 then { s with ten.worlds := tset s.ten.worlds w { x with status := status } } else s
    if s1.due (fun e => e == .worldAbort w 6 || e == .worldAbort w 7) then s1 else s1.send (.worldAbort w status)
  | none => s
/-- The key material of a world's slot. -/
def State.worldKey (s : State) (w : Nat) : Option (Nat × List Byte) :=
  match tget s.ten.worlds w with
  | some wd => match s.key wd.slot with
    | some k => some (wd.slot, k.key)
    | none => none
  | none => none

end Sys2Proof.Machine
end

