-- ==== Sys2Proof/Machine/Crypto.lean ====
section
/-! DEFINITION. The published algorithms that the spec names: AES-256 with GCM, XTS and CMAC, SM3, HMAC-SM3 and the verification of SM2
signatures (R25, R48, R60, R75, R82). The spec names them and gives no definition; they are written from their standards (PRESUMED, log 12). -/

namespace Sys2Proof.Machine

open Sys2Proof

/-! ## AES-256 -/

/-- Doubling in GF(2^8) modulo x^8 + x^4 + x^3 + x + 1. -/
def xtime (a : Nat) : Nat := if a < 128 then 2 * a else (2 * a) ^^^ 0x11B

/-- Multiplication in GF(2^8), over the bits of b from the top. -/
def gmul (a b : Nat) : Nat := [7, 6, 5, 4, 3, 2, 1, 0].foldl (fun r i => xtime r ^^^ (if bit b i then a else 0)) 0

/-- The 254th power: the inverse of a in GF(2^8), 0 for 0. -/
def ginv (a : Nat) : Nat := [1, 1, 1, 1, 1, 1, 1, 0].foldl (fun r b => if b = 1 then gmul (gmul r r) a else gmul r r) 1

/-- A byte turned left by n bits. -/
def rotl8 (x n : Nat) : Nat := (x * 2 ^ n + x / 2 ^ (8 - n)) % 256

/-- The S-box. -/
def sbox (a : Nat) : Nat :=
  let i := ginv a
  i ^^^ rotl8 i 1 ^^^ rotl8 i 2 ^^^ rotl8 i 3 ^^^ rotl8 i 4 ^^^ 0x63

/-- The inverse S-box. -/
def sboxInv (b : Nat) : Nat :=
  let x := b ^^^ 0x63
  ginv (rotl8 x 1 ^^^ rotl8 x 3 ^^^ rotl8 x 6)

/-- Bytes as numbers. -/
def nums (l : List Byte) : List Nat := l.map (fun b => b.toNat)

/-- Numbers as bytes. -/
def unnums (l : List Nat) : List Byte := l.map (fun n => BitVec.ofNat 8 n)

/-- The bytewise exclusive or. -/
def xorl (a b : List Nat) : List Nat := List.zipWith (fun x y => x ^^^ y) a b

/-- The words (4 bytes each) of the key schedule after the first eight, newest first in acc. -/
def keyGrow : Nat → Nat → Nat → List (List Nat) → List (List Nat)
  | 0, _, _, acc => acc
  | n + 1, i, rcon, acc =>
    let prev := acc.headD []
    let t :=
      if i % 8 = 0 then
        match (prev.drop 1 ++ prev.take 1).map sbox with
        | a :: r => (a ^^^ rcon) :: r
        | [] => []
      else if i % 8 = 4 then prev.map sbox else prev
    let w := xorl ((acc.drop 7).headD []) t
    keyGrow n (i + 1) (if i % 8 = 0 then xtime rcon else rcon) (w :: acc)

/-- The 15 round keys of a 32-byte key. -/
def roundKeys (key : List Nat) : List (List Nat) :=
  let ws := ((List.range 8).map (fun i => (key.drop (4 * i)).take 4)).reverse
  let all := (keyGrow 52 8 1 ws).reverse
  (List.range 15).map (fun r => ((all.drop (4 * r)).take 4).flatten)

/-- ShiftRows, and its inverse: byte 4 c + r comes from column c + r, or c - r. -/
def shiftRows (s : List Nat) : List Nat := (List.range 16).map (fun i => (s.drop (4 * ((i / 4 + i % 4) % 4) + i % 4)).headD 0)
/-- The inverse of shiftRows. -/
def shiftRowsInv (s : List Nat) : List Nat := (List.range 16).map (fun i => (s.drop (4 * ((i / 4 + 4 - i % 4) % 4) + i % 4)).headD 0)

/-- One column times the circulant matrix whose first row is m. -/
def mixCol (m : List Nat) (c : List Nat) : List Nat :=
  (List.range 4).map (fun r => (List.range 4).foldl (fun acc j => acc ^^^ gmul ((m.drop ((j + 4 - r) % 4)).headD 0) ((c.drop j).headD 0)) 0)

/-- MixColumns with a matrix. -/
def mixCols (m : List Nat) (s : List Nat) : List Nat := ((List.range 4).map (fun c => mixCol m ((s.drop (4 * c)).take 4))).flatten

/-- One block enciphered, under expanded keys. -/
def aesEncK (ks : List (List Nat)) (blk : List Nat) : List Nat :=
  let s0 := xorl blk (ks.headD [])
  let s := ((ks.drop 1).take 13).foldl (fun s k => xorl (mixCols [2, 3, 1, 1] (shiftRows (s.map sbox))) k) s0
  xorl (shiftRows (s.map sbox)) ((ks.drop 14).headD [])

/-- One block deciphered, under expanded keys. -/
def aesDecK (ks : List (List Nat)) (blk : List Nat) : List Nat :=
  let s0 := (shiftRowsInv (xorl blk ((ks.drop 14).headD []))).map sboxInv
  let s := ((ks.drop 1).take 13).reverse.foldl (fun s k => (shiftRowsInv (mixCols [14, 11, 13, 9] (xorl s k))).map sboxInv) s0
  xorl s (ks.headD [])

/-! ## XTS and CMAC over a 128-byte line (R82) -/

/-- Doubling of an XTS tweak: 16 bytes, little-endian. -/
def tweakDouble (t : List Nat) : List Nat :=
  let n := t.reverse.foldl (fun a b => 256 * a + b) 0
  let d := (2 * n) % 2 ^ 128 ^^^ (if n / 2 ^ 127 = 1 then 0x87 else 0)
  (List.range 16).map (fun i => d / 256 ^ i % 256)

/-- The blocks of a message under one tweak chain. -/
def xtsBlocks (f : List Nat → List Nat) : Nat → List Nat → List Nat → List Nat
  | 0, _, _ => []
  | n + 1, t, m => xorl (f (xorl (m.take 16) t)) t ++ xtsBlocks f n (tweakDouble t) (m.drop 16)

/-- AES256_XTS_ENC with a tweak number. -/
def xtsEnc (k1 k2 : List Byte) (tweak : Nat) (data : List Byte) : List Byte :=
  let t := aesEncK (roundKeys (nums k2)) ((List.range 16).map (fun i => tweak / 256 ^ i % 256))
  unnums (xtsBlocks (aesEncK (roundKeys (nums k1))) (data.length / 16) t (nums data))

/-- Its inverse. -/
def xtsDec (k1 k2 : List Byte) (tweak : Nat) (data : List Byte) : List Byte :=
  let t := aesEncK (roundKeys (nums k2)) ((List.range 16).map (fun i => tweak / 256 ^ i % 256))
  unnums (xtsBlocks (aesDecK (roundKeys (nums k1))) (data.length / 16) t (nums data))

/-- Doubling of a CMAC subkey: 16 bytes, big-endian. -/
def cmacDouble (t : List Nat) : List Nat :=
  let n := t.foldl (fun a b => 256 * a + b) 0
  let d := (2 * n) % 2 ^ 128 ^^^ (if n / 2 ^ 127 = 1 then 0x87 else 0)
  ((List.range 16).map (fun i => d / 256 ^ i % 256)).reverse

/-- The chained blocks of a CMAC, all but the last. -/
def cbcMac (ks : List (List Nat)) : Nat → List Nat → List Nat → List Nat
  | 0, acc, _ => acc
  | n + 1, acc, m => cbcMac ks n (aesEncK ks (xorl acc (m.take 16))) (m.drop 16)

/-- AES256_CMAC of a message that is not empty. -/
def cmac (key msg : List Byte) : List Byte :=
  let ks := roundKeys (nums key)
  let k1 := cmacDouble (aesEncK ks (List.replicate 16 0))
  let n := (msg.length + 15) / 16 - 1
  let acc := cbcMac ks n (List.replicate 16 0) (nums msg)
  let lastPart := (nums msg).drop (16 * n)
  let lastBlk :=
    if lastPart.length = 16 then xorl lastPart k1
    else xorl ((lastPart ++ [0x80] ++ List.replicate 16 0).take 16) (cmacDouble k1)
  unnums (aesEncK ks (xorl acc lastBlk))

/-! ## GCM (R25, R60) -/

/-- Multiplication in GF(2^128) in GCM's bit order; x and y are 128-bit numbers, first bit on top. -/
def ghashMul (x y : Nat) : Nat :=
  ((List.range 128).foldl
    (fun (zv : Nat × Nat) i =>
      (if bit x (127 - i) then zv.1 ^^^ zv.2 else zv.1,
        if zv.2 % 2 = 1 then zv.2 / 2 ^^^ (0xE1 * 2 ^ 120) else zv.2 / 2)) (0, y)).1

/-- A big-endian number. -/
def beNat (l : List Nat) : Nat := l.foldl (fun a b => 256 * a + b) 0

/-- n bytes of a number, highest first. -/
def beBytes (n x : Nat) : List Nat := ((List.range n).map (fun i => x / 256 ^ i % 256)).reverse

/-- GHASH over whole blocks. -/
def ghash (h : Nat) : Nat → Nat → List Nat → Nat
  | 0, y, _ => y
  | n + 1, y, m => ghash h n (ghashMul (y ^^^ beNat (m.take 16)) h) (m.drop 16)

/-- A message padded with zeros to whole blocks. -/
def padBlocks (m : List Nat) : List Nat := m ++ List.replicate ((16 - m.length % 16) % 16) 0

/-- Counter blocks from a 12-byte nonce and a start, laid over the message. -/
def ctrMode (ks : List (List Nat)) (iv : List Nat) : Nat → Nat → List Nat → List Nat
  | 0, _, _ => []
  | n + 1, c, m => xorl (m.take 16) (aesEncK ks (iv ++ beBytes 4 c)) ++ ctrMode ks iv n (c + 1) (m.drop 16)

/-- The GCM tag of a ciphertext and additional data. -/
def gcmTag (key iv aad cipher : List Byte) : List Byte :=
  let ks := roundKeys (nums key)
  let h := beNat (aesEncK ks (List.replicate 16 0))
  let m := padBlocks (nums aad) ++ padBlocks (nums cipher) ++ beBytes 8 (8 * aad.length) ++ beBytes 8 (8 * cipher.length)
  let s := ghash h (m.length / 16) 0 m
  unnums (xorl (beBytes 16 s) (aesEncK ks (nums iv ++ [0, 0, 0, 1])))

/-- GCM's ciphertext of a plaintext, or the plaintext of a ciphertext. -/
def gcmCrypt (key iv text : List Byte) : List Byte :=
  unnums (ctrMode (roundKeys (nums key)) (nums iv) ((text.length + 15) / 16) 2 (nums text))

/-! ## SM3 -/

/-- A 32-bit word turned left. -/
def rotl32 (x n : Nat) : Nat := (x * 2 ^ (n % 32) + x / 2 ^ (32 - n % 32)) % 2 ^ 32

/-- The permutation P0. -/
def sm3P0 (x : Nat) : Nat := x ^^^ rotl32 x 9 ^^^ rotl32 x 17
/-- The permutation P1. -/
def sm3P1 (x : Nat) : Nat := x ^^^ rotl32 x 15 ^^^ rotl32 x 23

/-- The expanded words of a block, newest first. -/
def sm3Expand : Nat → List Nat → List Nat
  | 0, ws => ws
  | n + 1, ws =>
    let w (k : Nat) : Nat := (ws.drop (k - 1)).headD 0
    sm3Expand n ((sm3P1 (w 16 ^^^ w 9 ^^^ rotl32 (w 3) 15) ^^^ rotl32 (w 13) 7 ^^^ w 6) :: ws)

/-- One round over the eight working words. -/
def sm3Round (ws : List Nat) (v : List Nat) (j : Nat) : List Nat :=
  match v with
  | [a, b, c, d, e, f, g, h] =>
    let t := if j < 16 then 0x79CC4519 else 0x7A879D8A
    let wj := (ws.drop j).headD 0
    let wj4 := wj ^^^ (ws.drop (j + 4)).headD 0
    let ff := if j < 16 then a ^^^ b ^^^ c else (a &&& b) ||| (a &&& c) ||| (b &&& c)
    let gg := if j < 16 then e ^^^ f ^^^ g else (e &&& f) ||| ((e ^^^ 0xFFFFFFFF) &&& g)
    let ss1 := rotl32 ((rotl32 a 12 + e + rotl32 t j) % 2 ^ 32) 7
    let ss2 := ss1 ^^^ rotl32 a 12
    let tt1 := (ff + d + ss2 + wj4) % 2 ^ 32
    let tt2 := (gg + h + ss1 + wj) % 2 ^ 32
    [tt1, a, rotl32 b 9, c, sm3P0 tt2, e, rotl32 f 19, g]
  | _ => v

/-- Blocks compressed one after another. -/
def sm3Blocks : Nat → List Nat → List Nat → List Nat
  | 0, v, _ => v
  | n + 1, v, m =>
    let w0 := ((List.range 16).map (fun i => beNat ((m.drop (4 * i)).take 4))).reverse
    let ws := (sm3Expand 52 w0).reverse
    sm3Blocks n (xorl ((List.range 64).foldl (sm3Round ws) v) v) (m.drop 64)

/-- The SM3 hash, 32 bytes. -/
def sm3 (msg : List Byte) : List Byte :=
  let l := msg.length
  let m := nums msg ++ [0x80] ++ List.replicate ((119 - l % 64) % 64) 0 ++ beBytes 8 (8 * l)
  let v := sm3Blocks (m.length / 64)
    [0x7380166F, 0x4914B2B9, 0x172442D7, 0xDA8A0600, 0xA96F30BC, 0x163138AA, 0xE38DEE4D, 0xB0FB0E4E] m
  unnums ((v.map (beBytes 4)).flatten)

/-- HMAC-SM3 under a key of at most 64 bytes. -/
def hmacSm3 (key msg : List Byte) : List Byte :=
  let k := key ++ zeros (64 - key.length)
  let pad (c : Byte) : List Byte := k.map (fun b => b ^^^ c)
  sm3 (pad 0x5C ++ sm3 (pad 0x36 ++ msg))

/-! ## SM2 verification (GB/T 32918.2) -/

/-- The prime of the curve. -/
def sm2P : Nat := 0xFFFFFFFEFFFFFFFFFFFFFFFFFFFFFFFFFFFFFFFF00000000FFFFFFFFFFFFFFFF
/-- The coefficient a. -/
def sm2A : Nat := sm2P - 3
/-- The coefficient b. -/
def sm2B : Nat := 0x28E9FA9E9D9F5E344D5A9E4BCF6509A7F39789F515AB8F92DDBCBD414D940E93
/-- The order of the base point. -/
def sm2N : Nat := 0xFFFFFFFEFFFFFFFFFFFFFFFFFFFFFFFF7203DF6B21C6052B53BBF40939D54123
/-- The base point's x. -/
def sm2Gx : Nat := 0x32C4AE2C1F1981195F9904466A39C9948FE30BBFF2660BE1715A4589334C74C7
/-- The base point's y. -/
def sm2Gy : Nat := 0xBC3736A2F4F6779C59BDCEE36B692153D0A9877CC62A474002DF32E52139F0A0

/-- x to the power e modulo the prime, over the low n bits of e from the top. -/
def powMod : Nat → Nat → Nat → Nat → Nat
  | 0, _, _, r => r
  | n + 1, x, e, r => powMod n x e (if bit e n then r * r % sm2P * x % sm2P else r * r % sm2P)

/-- The inverse modulo the prime. -/
def invP (x : Nat) : Nat := powMod 256 x (sm2P - 2) 1

/-- The sum of two points; none is the point at infinity. -/
def ecAdd (p q : Option (Nat × Nat)) : Option (Nat × Nat) :=
  match p, q with
  | none, _ => q
  | _, none => p
  | some (x1, y1), some (x2, y2) =>
    if x1 = x2 ∧ (y1 + y2) % sm2P = 0 then none
    else
      let m :=
        if x1 = x2 then (3 * x1 * x1 + sm2A) % sm2P * invP (2 * y1 % sm2P) % sm2P
        else (y2 + sm2P - y1) % sm2P * invP ((x2 + sm2P - x1) % sm2P) % sm2P
      let x3 := (m * m + 2 * sm2P - x1 - x2) % sm2P
      some (x3, (m * ((x1 + sm2P - x3) % sm2P) + sm2P - y1) % sm2P)

/-- A multiple of a point, over the low n bits of k from the top. -/
def ecMul : Nat → Nat → Option (Nat × Nat) → Option (Nat × Nat) → Option (Nat × Nat)
  | 0, _, _, r => r
  | n + 1, k, p, r =>
    let d := ecAdd r r
    ecMul n k p (if bit k n then ecAdd d p else d)

/-- The default signer identifier. -/
def sm2Id : List Byte := unnums [0x31, 0x32, 0x33, 0x34, 0x35, 0x36, 0x37, 0x38, 0x31, 0x32, 0x33, 0x34, 0x35, 0x36, 0x37, 0x38]

/-- The signer's digest Z of an identifier and a public key. -/
def sm2Z (pub : List Byte) : List Byte :=
  sm3 (unnums [0, 0x80] ++ sm2Id ++ unnums ((([sm2A, sm2B, sm2Gx, sm2Gy]).map (beBytes 32)).flatten) ++ pub)

/-- A signature (r then s, 64 bytes) over a message under a public key (x then y, 64 bytes) is good. R47 gives no byte order within r, s, x and y: big-endian, as the other
numbers of SM2 are (PRESUMED, log 12). -/
def sm2Verify (pub msg sig : List Byte) : Bool :=
  let r := beNat ((nums sig).take 32)
  let s := beNat ((nums sig).drop 32)
  let x := beNat ((nums pub).take 32)
  let y := beNat ((nums pub).drop 32)
  let onCurve := decide (x < sm2P ∧ y < sm2P) && (y * y % sm2P == (x * x * x + sm2A * x + sm2B) % sm2P)
  let e := beNat (nums (sm3 (sm2Z pub ++ msg)))
  let t := (r + s) % sm2N
  if decide (1 ≤ r ∧ r < sm2N ∧ 1 ≤ s ∧ s < sm2N ∧ t ≠ 0) && onCurve then
    match ecAdd (ecMul 256 s (some (sm2Gx, sm2Gy)) none) (ecMul 256 t (some (x, y)) none) with
    | some (x1, _) => decide ((e + x1) % sm2N = r)
    | none => false
  else false

end Sys2Proof.Machine
end

