-- ==== Sys2Proof/Machine/Ways.lean ====
section
/-! DEFINITION. The ways of the package: places and the routes of messages between them (R15 to R18), links (R25, R26), islands (R20), and what an access that reads a home at
once must find on its way: order, crossings, and bridges that let it through (R15, R18, R20, R28, R29). -/

namespace Sys2Proof.Machine

open Sys2Proof

/-- The line of a store or atomic under way. -/
def lineOfTx (s : State) (x : Nat) : Nat := match s.tx x with | some t => t.line | none => 0

/-! ## Places -/

/-- Places that messages travel between: cores 0 to 383, L2 slices from 384, homes from 480, Cellar bank groups from 528, host ports from 624, Holt ports from 626, the device's
own writes (the Reeve's, on stack 0) 642, and the engines and walkers of a stack from 643 (log 92). -/
abbrev Node := Nat

/-- The stack a Holt port attaches to (R17). -/
def holtStack (p : Nat) : Nat := if p < 4 then 0 else if p < 10 then 1 else 2

/-- The corner router that serves a Holt port (R17). -/
def holtRouter (p : Nat) : Nat := ([3, 12, 15, 15, 0, 0, 3, 12, 15, 15, 0, 3, 3, 12, 15, 15].drop p).headD 0

/-- The stack a place lies on; the host ports are on stack 0 (R17). -/
def nodeStack (n : Node) : Nat :=
  if n < 384 then n / 128 else if n < 480 then (n - 384) / 32 else if n < 528 then (n - 480) / 16 else if n < 624 then (n - 528) / 32
  else if n < 626 then 0 else if n < 642 then holtStack (n - 626) else n - 643

/-- The router of its stack that serves a place (R16, R17). -/
def nodeRouter (n : Node) : Nat :=
  if n < 384 then n / 4 % 32 / 2 else if n < 480 then (n - 384) % 32 / 2 else if n < 528 then (n - 480) % 16 else if n < 624 then (n - 528) % 32 / 2
  else if 626 ≤ n ∧ n < 642 then holtRouter (n - 626) else 0

/-- The island that serves a place (R20): its column's compute quadrant, the mesh, the Cellar die, the host or Holt links. -/
def nodeIsland (n : Node) : Nat :=
  if n < 384 then 7 * (n / 128) + n / 4 % 32 / 8 else if n < 480 then 7 * ((n - 384) / 32) + (n - 384) % 32 / 8
  else if n < 528 then 7 * ((n - 480) / 16) + 5 else if n < 624 then 7 * ((n - 528) / 32) + 4
  else if n < 626 then 21 else if n < 642 then 22 else 7 * (n - 643) + 5

/-- Where a core's accesses to a line go: the slice of its die, or the line's bank group. -/
def placeFor (core line : Nat) : Node :=
  if isCellar (128 * line) then 528 + cellarColumn (128 * line) else 384 + sliceFor (stackOf core) line

/-- Where a core's accesses at a line's home come from: its slice, or, for a Cellar line, the core itself. -/
def accessNode (core line : Nat) : Node := if isCellar (128 * line) then core else 384 + sliceFor (stackOf core) line

/-- The home of a line. -/
def homeNode (line : Nat) : Node := 480 + homeOf (128 * line)

/-- Where a line's home writes it: its home, or its bank group. -/
def lineNode (line : Nat) : Node := if isCellar (128 * line) then 528 + cellarColumn (128 * line) else homeNode line

/-- The engines and walkers of a stack. -/
def engineNode (stack : Nat) : Node := 643 + stack

/-- The place of a store's writer: its core, or, for a writer without an L1 (core 384 the device, from 385 the engines of a stack), its own. -/
def Tx.source (t : Tx) : Node := if t.core < 384 then t.core else 642 + (t.core - 384)

/-- The place that a store comes to its home from: its slice, or its source where it has none. -/
def Tx.from (t : Tx) : Node := if t.slice < 96 then 384 + t.slice else t.source

/-- Source and destination of a message that travels between two places. -/
def Ev.route (s : State) (e : Ev) : Option (Node × Node) :=
  let txRoute (x : Nat) (f : Tx → Option (Node × Node)) : Option (Node × Node) := (s.tx x).bind f
  let piece (p : Nat) (f : Piece → Node × Node) : Option (Node × Node) := (s.ali.pieces.find? (fun q => q.id == p)).map f
  match e with
  | .l1FillReturn c l _ _ _ _ _ => some (placeFor c l, c)
  | .l1Update c x => txRoute x (fun t => some (placeFor c t.line, c))
  | .l1Invalidation c l _ => some (placeFor c l, c)
  | .dirReadMiss c l _ _ => some (c, placeFor c l)
  | .dirStore x => txRoute x (fun t => some (t.source, if t.slice < 96 then 384 + t.slice else lineNode t.line))
  | .dirAck x c _ => txRoute x (fun t => some (c, placeFor c t.line))
  | .dirEvictionNotice c l => some (c, placeFor c l)
  | .homeStore x => txRoute x (fun t => some (t.from, lineNode t.line))
  | .l2HomeUpdate sl x => txRoute x (fun t => some (homeNode t.line, 384 + sl))
  | .homeAck x => txRoute x (fun t => some (lineNode t.line, t.from))
  | .storeAck x _ => txRoute x (fun t => if t.core < 384 then some (placeFor t.core t.line, t.core) else none)
  | .atomicReturn x => txRoute x (fun t => if t.core < 384 then some (placeFor t.core t.line, t.core) else none)
  | .worldLineHandover sl l => some (homeNode l, 384 + sl)
  | .srcw h l => some (homeNode l, 480 + h)
  | .srcack l h => some (480 + h, homeNode l)
  | .aliasRecord p =>
    (s.ali.pieces.find? (fun q => q.id == p)).bind (fun q =>
      if q.stage = 0 then (s.eng.cmds.find? (fun c => c.id == q.cmd)).map (fun c => (engineNode (stackOf c.core), 480 + homeOf q.entry.dbase)) else none)
  | .aliasResolveReply p h => piece p (fun q => (480 + h, 480 + homeOf q.entry.dbase))
  | .marked p l => piece p (fun q => (homeNode l, 480 + homeOf q.entry.dbase))
  | .stealServe v c => some (384 + c, 384 + v)
  | .aliasResolve p h => piece p (fun q => (480 + homeOf q.entry.dbase, 480 + h))
  | .mark p l => piece p (fun q => (480 + homeOf q.entry.dbase, homeNode l))
  | .holdRelease p h => piece p (fun q => (480 + homeOf q.entry.dbase, 480 + h))
  | .bridgePackageRead h => some (480 + homeOf (64 * h), 624 + halfPort h)
  | .bridgePackageStore h _ _ => some (480 + homeOf (64 * h), 624 + halfPort h)
  | .bridgeMscEviction l => some (homeNode l, 624 + halfPort (2 * l))
  | .bridgeGrant h _ _ _ => some (624 + halfPort h, 480 + homeOf (64 * h))
  | .hostSnpinv h => some (624 + halfPort h, 480 + homeOf (64 * h))
  | .hostSnpdata h => some (624 + halfPort h, 480 + homeOf (64 * h))
  | .hostSnpcur h => some (624 + halfPort h, 480 + homeOf (64 * h))
  | _ => none

/-- A message between stacks, by the routers at its two ends: the bridges keep the order of each such pair (R18). -/
def crossKey (r : Node × Node) : Option (Nat × Nat) :=
  if nodeStack r.1 = nodeStack r.2 then none else some (16 * nodeStack r.1 + nodeRouter r.1, 16 * nodeStack r.2 + nodeRouter r.2)

/-! ## Links -/

/-- An island. -/
def State.island (s : State) (i : Nat) : Island := (s.pkg.islands.drop i).headD (resetIsland i)

/-- A Holt port or bridge. -/
def State.link (s : State) (l : Nat) : Link := (s.pkg.links.drop l).headD resetLink
/-- s with a link changed. -/
def State.updLink (s : State) (l : Nat) (f : Link → Link) : State := { s with pkg.links := modAt s.pkg.links l f }
/-- The number that names a Holt port or bridge: that of its first end. -/
def linkId (l : Nat) : Nat := if l < 19 then l else l - 3
/-- The other end of a bridge. -/
def mate (l : Nat) : Option Nat := if l < 16 then none else if l < 19 then some (l + 3) else some (l - 3)
/-- s with both ends of a bridge changed, or a Holt port. -/
def State.updEnds (s : State) (l : Nat) (f : Link → Link) : State :=
  match mate l with
  | none => s.updLink l f
  | some m => (s.updLink l f).updLink m f
/-- s with the state of a Holt port or bridge. -/
def State.setLink (s : State) (l : Nat) (st : LinkState) : State := s.updEnds l (fun x => { x with st := st })

/-- The end, on the first stack named, of the bridge between that stack and another (R18). -/
def bridgeEnd (a b : Nat) : Nat :=
  match a, b with
  | 0, 1 => 16
  | 1, 0 => 19
  | 1, 2 => 17
  | 2, 1 => 20
  | 0, 2 => 18
  | _, _ => 21

/-- The nonce of R26. -/
def flitNonce (dir counter : Nat) : List Byte := leBytes 4 dir ++ leBytes 8 counter

/-- What a counter that has reached n brings (R27): the key's end comes before any other flit. -/
def State.counted (s : State) (l n : Nat) : State :=
  if n = 2 ^ 62 - 2 ^ 32 then s.send (.keyUpdateStart (linkId l)) else if n = 2 ^ 62 then s.urge (.keyExpire (linkId l)) else s

/-- A flit is on its way between the ends of a bridge. -/
def State.flying (s : State) (l : Nat) : Bool := s.due (fun e => match e with | .flitReceive k _ => decide (16 ≤ l) && linkId k == l | .flitReplay k _ => decide (16 ≤ l) && linkId k == l | _ => false)

/-! ## Over a bridge -/

/-- The number of flits that a message over a bridge takes: at least one and at most 2^32, free between (log 81). -/
def flitCount (n : Nat) : Nat := 1 + Config.flits n % 2 ^ 32

/-- One flit of the package's own goes over a bridge from one end (R25, R26): encrypted under the next counter value, kept for replay, and verified at the other end, after as
many failures as the line causes; a third failure puts the bridge into FAILED. Whether it arrived. -/
def State.bridgeFlit (s : State) (l k : Nat) : State × Bool :=
  match mate l with
  | none => (s, false)
  | some m =>
    let x := s.link l
    let y := s.link m
    let n := flitNonce x.txId x.tx
    let c := gcmCrypt x.key n (Config.payload k)
    let f := c ++ gcmTag x.key n [] c
    let good := gcmTag y.key (flitNonce y.rxId y.rx) [] c == f.drop 240
    let bad := if good then min 3 (Config.noise k) else 3
    let s1 := s.updLink l (fun x => { x with tx := x.tx + 1, out := x.out ++ List.replicate (min 3 (bad + 1)) f, replay := x.replay ++ [(x.tx, f)] })
    if 3 ≤ bad then
      ({ (s1.updLink m (fun y => { y with fails := 3, asks := y.asks ++ List.replicate 3 y.rx })).setLink l .failed with
          ctl.failDue := s1.ctl.failDue ++ [(m, y.rx)] }, false)
    else
      ((s1.updLink m (fun y => { y with rx := y.rx + 1, fails := 0, asks := y.asks ++ List.replicate bad y.rx })).counted l (x.tx + 1), true)

/-- n flits go over a bridge, one after the other, until one is lost for good. -/
def State.sendOver (s : State) (l n : Nat) : State × Bool :=
  (List.range n).foldl (fun (q : State × Bool) i => if q.2 then q.1.bridgeFlit l (s.ctl.freeCtr + i) else q) (s, true)

/-- A bridge lets n flits through from one end: it is UP, none of an older message is on the line, and the counter has room for them under its key (R27, R28). -/
def State.lets (s : State) (l n : Nat) : Bool := (s.link l).st == .up && decide ((s.link l).tx + n ≤ 2 ^ 62) && !s.flying (linkId l)

/-- Messages of one place to one place, or of one router to one router of another stack, keep their order (R15, R18). -/
def sameWay (a b : Node × Node) : Bool := a == b || ((crossKey a).isSome && crossKey a == crossKey b)

/-- The islands that a transfer between two places passes (R20): those of its ends, the mesh of a stack whose home it goes to or comes from, and the meshes at both ends of a
bridge. -/
def wayIslands (r : Node × Node) : List Nat :=
  let mesh : List Nat := if nodeStack r.1 ≠ nodeStack r.2 ∨ 480 ≤ r.1 ∨ 480 ≤ r.2 then [7 * nodeStack r.1 + 5, 7 * nodeStack r.2 + 5] else []
  (nodeIsland r.1 :: nodeIsland r.2 :: mesh).eraseDups

/-- A transfer that crosses into an island whose setting is changing waits in the crossing (R20). -/
def State.changing (s : State) (is : List Nat) : Bool := decide (2 ≤ is.length) && is.any (fun i => (s.island i).change.isSome)

/-- What an access finds on its way. -/
inductive Way where
  | clear
  | blocked
  | cut
deriving DecidableEq, Repr

/-- The way of an access from one place to another and of its answer back: behind every message that was sent before it either way, through no island that is changing, and
over a bridge that lets its flits through (R15, R18, R20, R28, R29). -/
def State.way (s : State) (a b : Node) : Way :=
  if s.ctl.agenda.any (fun e => match e.route s with | some r => sameWay r (a, b) || sameWay r (b, a) | none => false) then .blocked
  else if s.changing (wayIslands (a, b)) then .blocked
  else if nodeStack a = nodeStack b then .clear
  else if (s.link (bridgeEnd (nodeStack a) (nodeStack b))).st = .failed then .cut
  else if s.lets (bridgeEnd (nodeStack a) (nodeStack b)) (flitCount s.ctl.freeCtr) && s.lets (bridgeEnd (nodeStack b) (nodeStack a)) (flitCount (s.ctl.freeCtr + 1)) then .clear
  else .blocked

/-- An access goes its way and its answer comes back, where the way is clear: the flits of both cross the bridge. What was cut off is ended after the step (R29, R87). -/
def State.reach (s : State) (a b : Node) : State × Bool :=
  match s.way a b with
  | .blocked => (s, false)
  | .cut => ({ s with ctl.cut := true }, false)
  | .clear =>
    if nodeStack a = nodeStack b then (s, true)
    else
      let r := s.sendOver (bridgeEnd (nodeStack a) (nodeStack b)) (flitCount s.ctl.freeCtr)
      let q := if r.2 then r.1.sendOver (bridgeEnd (nodeStack b) (nodeStack a)) (flitCount (s.ctl.freeCtr + 1)) else r
      if q.2 then q else ({ q.1 with ctl.cut := true }, false)

/-- Accesses to some homes from one place, one after the other, as far as their ways are clear. -/
def State.reachAll (s : State) (a : Node) (bs : List Node) : State × Bool :=
  bs.foldl (fun (q : State × Bool) b => if q.2 then q.1.reach a b else q) (s, true)

end Sys2Proof.Machine
end

