-- ==== Sys2Proof/Machine/Homes.lean ====
section
/-! DEFINITION. What a home does with one line: sealing (R82, R83), the alias transforms (R115, R116), reading a line through the aliases over it,
materialising entries (R118), half-lines of host memory (R38), and the writes the device itself makes. -/

namespace Sys2Proof.Machine

open Sys2Proof

/-! ## Sealing -/

/-- MAC input and key parts of R82; PA is taken as eight bytes, SLOT as one (log 12). -/
def lineMac (key : List Byte) (pa slot : Nat) (c : List Byte) : Nat := leNat ((cmac (cut key 64 32) (leBytes 8 pa ++ leBytes 1 slot ++ c)).take 8)

/-- A plaintext line sealed: ciphertext and MAC (R82). -/
def sealLine (key : List Byte) (line slot : Nat) (data : List Byte) : List Byte × Nat :=
  let c := xtsEnc (cut key 0 32) (cut key 32 32) line data
  (c, lineMac key (128 * line) slot c)

/-- A sealed line opened, where the MAC is right (R83). -/
def openLine (key : List Byte) (line slot mac : Nat) (c : List Byte) : Option (List Byte) :=
  if lineMac key (128 * line) slot c = mac then some (xtsDec (cut key 0 32) (cut key 32 32) line c) else none

/-- A unit of a world's transfer sealed for a destination under a KEYID (R86). -/
def sealUnit (key : List Byte) (pa keyid : Nat) (data : List Byte) : List Byte × Nat :=
  let c := xtsEnc (cut key 0 32) (cut key 32 32) (pa / 128) data
  (c, leNat ((cmac (cut key 64 32) (leBytes 8 pa ++ leBytes 4 keyid ++ c)).take 8))

/-- Such a unit opened at its destination; none where the MAC is wrong (R86). -/
def openUnit (key : List Byte) (pa keyid mac : Nat) (c : List Byte) : Option (List Byte) :=
  if leNat ((cmac (cut key 64 32) (leBytes 8 pa ++ leBytes 4 keyid ++ c)).take 8) = mac then some (xtsDec (cut key 0 32) (cut key 32 32) (pa / 128) c) else none

/-- Bytes in pieces of n, by fuel. -/
def chunks (n : Nat) : Nat → List Byte → List (List Byte)
  | 0, _ => []
  | k + 1, b => if b.isEmpty then [] else b.take n :: chunks n k (b.drop n)

/-- A payload sealed unit by unit, the last filled up with zeros: ciphertext and MAC of each; pa gives the destination of unit j (R86). -/
def sealUnits (key : List Byte) (keyid : Nat) (pa : Nat → Nat) (b : List Byte) : List Byte :=
  let us := chunks 128 (b.length / 128 + 1) b
  ((List.range us.length).zip us).flatMap (fun e =>
    let c := sealUnit key (pa e.1) keyid ((e.2 ++ zeros 128).take 128)
    c.1 ++ leBytes 8 c.2)

/-- Its units opened: n bytes, or none where a MAC is wrong. -/
def openUnits (key : List Byte) (keyid : Nat) (pa : Nat → Nat) (n : Nat) (b : List Byte) : Option (List Byte) :=
  let us := chunks 136 (b.length / 136 + 1) b
  (((List.range us.length).zip us).foldl (fun (acc : Option (List Byte)) e =>
    match acc, openUnit key (pa e.1) keyid (fieldOf e.2 128 8) (e.2.take 128) with
    | some a, some d => some (a ++ d)
    | _, _ => none) (some [])).map (fun d => d.take n)

/-! ## Aliases -/

/-- The source byte of a destination byte of an entry (R115). -/
def aliasSrc (e : Alias) (p : Nat) : Nat :=
  let es := 2 ^ e.esz
  let d := e.doff + (p - e.dbase)
  let q := d / es
  let b := d % es
  let r := e.nrows + 1
  let c := e.ncols + 1
  let st := e.sstride
  let t := q / 64
  let w := q % 64
  match e.xform with
  | 0 => e.sbase + (p - e.dbase)
  | 1 => e.sbase + (q % r * st + q / r) * es + b
  | 2 => e.sbase + ((8 * (t / (c / 8)) + w / 8) * st + (8 * (t % (c / 8)) + w % 8)) * es + b
  | 3 => e.sbase + ((8 * (t / (c / 8)) + w / 8) * st + (8 * (t % (c / 8)) + ((w % 8) ^^^ (w / 8)))) * es + b
  | _ =>
    let i := q / c
    let j := q % c
    e.sbase + (i / 8 * (c / 8) * 64 + j / 8 * 64 + i % 8 * 8 + j % 8) * es + b

/-- The source extent of an entry (R115): first byte and length. -/
def aliasExtent (e : Alias) : Nat × Nat :=
  let es := 2 ^ e.esz
  match e.xform with
  | 0 => (e.sbase, e.len)
  | 4 => (e.sbase, (e.nrows + 1) * (e.ncols + 1) * es)
  | _ => (e.sbase, (e.nrows * e.sstride + (e.ncols + 1)) * es)

/-- Two ranges (first byte, length) have a byte in common. -/
def meet (a b : Nat × Nat) : Bool := decide (a.1 < b.1 + b.2) && decide (b.1 < a.1 + a.2)

/-- A byte lies in what is left of an entry. -/
def aliasHas (e : Alias) (p : Nat) : Bool := e.left.any (fun r => decide (r.1 ≤ p) && decide (p < r.1 + r.2))

/-- The entry that covers a destination byte (R111). -/
def State.aliasAt (s : State) (p : Nat) : Option Alias := s.ali.entries.find? (fun e => aliasHas e p)

/-- Live entries with bytes in a line. -/
def State.aliasesOn (s : State) (line : Nat) : List Alias :=
  s.ali.entries.filter (fun e => e.left.any (fun r => meet r (128 * line, 128)))

/-- USED of a home (R113). -/
def State.used (s : State) (home : Nat) : Nat := (s.ali.entries.filter (fun e => e.home == home && !e.left.isEmpty)).length

/-- The stored bytes of a line as plaintext for a world's slot: opened when sealed under it; none where that is an integrity failure (R83, R122). -/
def State.plainLine (s : State) (slot : Nat) (key : List Byte) (line : Nat) : Option (List Byte) :=
  match tget s.mm.sealed line with
  | some (sl, mac) => if sl = slot then openLine key line slot mac (s.bytesAt (128 * line) 128) else none
  | none => some (s.bytesAt (128 * line) 128)

/-- The lines that a world's entries over a line read, the line itself first. -/
def State.aliasLinesOf (s : State) (line : Nat) : List Nat :=
  line :: ((List.range 128).filterMap (fun i => (s.aliasAt (128 * line + i)).map (fun e => aliasSrc e (128 * line + i) / 128))).eraseDups

/-- The world whose entries lie over a line, with the address of a line that fails its check when they are read (R83, R122). -/
def State.aliasFails (s : State) (line : Nat) : Option (Nat × Nat) :=
  match (s.aliasesOn line).find? (fun e => e.wtag != 0x7F) with
  | some e =>
    match s.worldKey e.wtag with
    | some (slot, key) => ((s.aliasLinesOf line).find? (fun l => (s.plainLine slot key l).isNone)).map (fun l => (e.wtag, 128 * l))
    | none => none
  | none => none

/-- What a home answers for a line: its bytes merged with aliased bytes (R116, R118), its poisoned words (R409: a word that was poisoned before
it was partly written stays so; installPiece clears the words that a piece writes whole), and the sealing metadata. Words that a world's entries read from a line that fails its check are poison: no load gets their data (R83). -/
def State.homeLine (s : State) (line : Nat) : List Byte × List Nat × Option (Nat × Nat) :=
  let base := 128 * line
  let es := s.aliasesOn line
  if es.isEmpty then (s.bytesAt base 128, s.linePois line, tget s.mm.sealed line)
  else
    let byteSrc (i : Nat) : Nat := match s.aliasAt (base + i) with | some e => aliasSrc e (base + i) | none => base + i
    let pois := (List.range 16).filter (fun w => s.mm.pois.contains (16 * line + w) || (List.range 8).any (fun i =>
      let p := byteSrc (8 * w + i)
      s.mm.pois.contains (p / 8)))
    match es.find? (fun e => e.wtag != 0x7F) with
    | some e =>
      match s.worldKey e.wtag with
      | some (slot, key) =>
        let byte (i : Nat) : Option Byte :=
          let p := byteSrc i
          (s.plainLine slot key (p / 128)).map (fun d => (d.drop (p % 128)).headD 0)
        let data := (List.range 128).map (fun i => (byte i).getD 0)
        let lost := (List.range 16).filter (fun w => !pois.contains w && (List.range 8).any (fun i => (byte (8 * w + i)).isNone))
        let c := sealLine key line slot data
        (c.1, pois ++ lost, some (slot, c.2))
      | none => (s.bytesAt base 128, pois, tget s.mm.sealed line)
    | none => ((List.range 128).map (fun i => s.byteAt (byteSrc i)), pois, none)

/-- A range list without the bytes of a line. -/
def cutRanges (rs : List (Nat × Nat)) (line : Nat) : List (Nat × Nat) :=
  (rs.map (fun r =>
    let lo := 128 * line
    let hi := 128 * line + 128
    let e := r.1 + r.2
    [(r.1, min e lo - r.1), (max r.1 hi, e - max r.1 hi)].filter (fun x => decide (0 < x.2)))).flatten

/-- An entry is this one. -/
def sameAlias (a b : Alias) : Bool := a.home == b.home && a.dbase == b.dbase && a.left == b.left

/-- One line of an entry materialised: bytes, poison and sealing written as a reader would have received them; the entry loses the line,
goes STALE if held, and is freed when nothing is left (R118, R122). -/
def State.materialiseLine (s : State) (e : Alias) (line : Nat) : State :=
  let h := s.homeLine line
  let fails := if e.wtag = 0x7F then none else s.aliasFails line
  let mine := (List.range 128).filter (fun i => aliasHas e (128 * line + i))
  let s1 :=
    if e.wtag = 0x7F then
      { s with mem := Memory.patch s.mem (128 * line) (mine.map (fun i => (i, (h.1.drop i).headD 0))), mm.sealed := tdel s.mm.sealed line }
    else
      match h.2.2 with
      | some m => { s with mem := Memory.putAll s.mem (128 * line) h.1, mm.sealed := tset s.mm.sealed line m }
      | none => s
  let s2 := (List.range 16).foldl (fun (s : State) w =>
    if h.2.1.contains w && mine.any (fun i => i / 8 == w) then s.setPoison (16 * line + w) true else s) s1
  let es := s2.ali.entries.map (fun x =>
    if sameAlias x e then { x with left := cutRanges x.left line, stale := x.stale || x.hold } else x)
  { s2 with ali.entries := es.filter (fun x => !x.left.isEmpty || x.hold), ctl.integDue := s2.ctl.integDue ++ fails.toList }

/-- The lines that an entry still covers. -/
def aliasLines (e : Alias) : List Nat :=
  let lo := lineOf e.dbase
  (List.range 34).map (fun i => lo + i) |>.filter (fun l => e.left.any (fun r => meet r (128 * l, 128)))

/-- materialise(E, lines) of R118; an entry is followed by its DBASE while lines go. -/
def State.materialise (s : State) (e : Alias) (lines : List Nat) : State :=
  lines.foldl (fun (s : State) l =>
    match s.ali.entries.find? (fun x => x.home == e.home && x.dbase == e.dbase && x.left.any (fun r => meet r (128 * l, 128))) with
    | some x => s.materialiseLine x l
    | none => s) s

/-- dest_write of R118 over a line. -/
def State.destWrite (s : State) (line : Nat) : State := (s.aliasesOn line).foldl (fun (s : State) e => s.materialise e [line]) s

/-- The stored bytes of a line as a world tag's entries take them: none where the line fails its check (R83, R122). -/
def State.lineFor (s : State) (wtag line : Nat) : Option (List Byte) :=
  match s.worldKey wtag with
  | some (slot, key) => s.plainLine slot key line
  | none => some (s.bytesAt (128 * line) 128)

/-- The destination bytes of a piece that come from a line, as the line stands; poison where it fails its check (R83). -/
def State.catchLine (s : State) (p : Piece) (line : Nat) : List (Nat × Byte × Bool) :=
  let d := s.lineFor p.entry.wtag line
  p.parts.flatMap (fun e => (List.range e.len).filterMap (fun i =>
    let x := aliasSrc e (e.dbase + i)
    if x / 128 = line then some (e.dbase + i, ((d.getD []).drop (x % 128)).headD 0, s.mm.pois.contains (x / 8) || d.isNone) else none))

/-- The failure of a line's check is to be logged (R83). -/
def State.failLine (s : State) (wtag line : Nat) : State :=
  if (s.lineFor wtag line).isNone then { s with ctl.integDue := s.ctl.integDue ++ [(wtag, 128 * line)] } else s

/-- Every entry at a home whose source touches a line, materialised whole: what SRCW does (R118). A piece being recorded there that has marked the line keeps the
line's bytes as they are now, which is as they were at its MARK (R163). -/
def State.srcMaterialise (s : State) (home line : Nat) : State :=
  let hit (p : Piece) : Bool := homeOf p.entry.dbase == home && p.marks.contains (line / 32) && decide (2 ≤ p.stage) && decide (p.stage ≤ 4)
  let s0 := (s.ali.pieces.filter (fun p => hit p && !(s.catchLine p line).isEmpty)).foldl (fun (s : State) p => s.failLine p.entry.wtag line) s
  let s1 : State := { s0 with ali.pieces := s0.ali.pieces.map (fun (p : Piece) =>
    if hit p then { p with caught := p.caught ++ (s.catchLine p line).filter (fun b => !p.caught.any (fun c => c.1 == b.1)) } else p) }
  (s1.ali.entries.filter (fun e => e.home == home && !e.left.isEmpty && meet (aliasExtent e) (128 * line, 128))).foldl
    (fun (s : State) e => s.materialise e (aliasLines e)) s1

/-- The homes in a line's DEPH (R112). -/
def State.dephHomes (s : State) (line : Nat) : List Nat := (List.range 48).filter (fun m => bit (nget 0 s.mm.deph line) m)

/-- src_write of R118 done at once, for the device's own writes: every dependent home materialises, DEPH clears. -/
def State.srcWriteNow (s : State) (line : Nat) : State :=
  let s1 := (s.dephHomes line).foldl (fun (s : State) m => s.srcMaterialise m line) s
  { s1 with mm.deph := nset 0 s1.mm.deph line 0 }

/-! ## Halves of host memory -/

/-- The bridge's state of a half (R38). -/
def State.half (s : State) (h : Nat) : Half := (tget s.host.halves h).getD .I
/-- s with a half's state; I is not listed. -/
def State.setHalf (s : State) (h : Nat) (x : Half) : State :=
  { s with host.halves := match x with | .I => tdel s.host.halves h | _ => tset s.host.halves h x }

/-- The halves of a range that an access would wait for: I for a read, not E or M for a store (R38), and any half that a snoop is taking away (R39). -/
def State.halvesMissing (s : State) (pa n : Nat) (store : Bool) : List Nat :=
  if isHost pa then
    ((List.range ((pa + n - 1) / 64 - pa / 64 + 1)).map (fun i => pa / 64 + i)).filter (fun h =>
      s.ctl.waiting.any (fun e => e == .hostSnpinv h) ||
        (match s.half h with
         | .I => true
         | .S => store
         | _ => false))
  else []

/-- An access by a tenant that would need the host is refused: its interface has left RUN (R91). -/
def State.barred (s : State) (t pa n : Nat) (store : Bool) : Bool :=
  decide (t < 256) && isHost pa && s.refuses (s.tPort t) (s.tFunc t) && !(s.halvesMissing pa n store).isEmpty

/-- The package asks the bridge for halves: a read, or a store of nothing that takes the half to M (R38). -/
def State.askHalves (s : State) (hs : List Nat) (store : Bool) : State :=
  hs.foldl (fun (s : State) h =>
    if s.host.reqs.contains (h, store) || s.due (fun e => e == .bridgePackageRead h || e == .bridgePackageStore h 0 []) then s
    else s.send (if store then .bridgePackageStore h 0 [] else .bridgePackageRead h)) s

/-- The halves of a line that a patch touches are now M (R38). -/
def State.dirtyHalves (s : State) (line : Nat) (p : Patch) : State :=
  if isHost (128 * line) then
    ([0, 1].filter (fun h => p.any (fun e => e.1 / 64 == h))).foldl (fun (s : State) h => s.setHalf (2 * line + h) .M) s
  else s

/-! ## The lines an MSC slice holds -/

/-- A line of a Hearth core's ring (R44): granules of one home, 48 apart. -/
def State.ringLine (s : State) (line : Nat) : Bool :=
  let in_ (base granules : Nat) : Bool := decide (base ≤ 128 * line) && decide (128 * line < base + granules * 196608) && decide ((128 * line - base) % 196608 < 4096)
  s.ten.hreqBase.any (fun b => in_ b.2 64) || s.ten.hfltBase.any (fun b => in_ b.2 8)

/-- A transfer's pin (R108): the target of an engine's write or of a copy that its home has taken up. -/
def State.transferPin (s : State) (line : Nat) : Bool :=
  s.coh.pins.any (fun p => p.1 == line && p.2 != 0) || s.ali.pieces.any (fun p => decide (1 ≤ p.stage) && meet (p.entry.dbase, p.entry.len) (128 * line, 128))

/-- A line that is never chosen as a victim (R44, R108): of the boot image or a ring, or a transfer's target. -/
def State.pinned (s : State) (line : Nat) : Bool := s.transferPin line || s.coh.pins.contains (line, 0) || s.ringLine line

/-- A tree pseudo-LRU over 2^k ways (R107): bit n of t says which half below node n was used less recently; the first way that ok lets through. -/
def plruPick (ok : Nat → Bool) (t : Nat) : Nat → Nat → Nat → Option Nat
  | 0, _, way => if ok way then some way else none
  | k + 1, node, way =>
    let b := if bit t node then 1 else 0
    (plruPick ok t k (2 * node + b) (way + b * 2 ^ k)).orElse (fun _ => plruPick ok t k (2 * node + (1 - b)) (way + (1 - b) * 2 ^ k))

/-- The tree after a way has become the most recently used, or the least. -/
def plruMark (recent : Bool) (way : Nat) : Nat → Nat → Nat → Nat
  | 0, _, t => t
  | k + 1, node, t => plruMark recent way k (2 * node + (if bit way k then 1 else 0)) (setBit t node (if recent then !bit way k else bit way k))

/-- The set of an MSC slice that a line goes to: the lines of one home in turn (DESIGN CHOICE, log 77). -/
def mscSet (line : Nat) : Nat := (line / 1536 * 32 + line % 32) % 8192

/-- The line as its home's MSC slice holds it. -/
def State.mscAt (s : State) (line : Nat) : Option MLine := s.coh.msc.find? (fun m => m.line == line)

/-- The lines of a line's MSC set. -/
def State.mscHere (s : State) (line : Nat) : List MLine :=
  s.coh.msc.filter (fun m => homeOf (128 * m.line) == homeOf (128 * line) && mscSet m.line == mscSet line)

/-- A line of an MSC slice is used (R107). -/
def State.mscUse (s : State) (line : Nat) : State :=
  match s.mscAt line with
  | some m =>
    let k := (homeOf (128 * line), mscSet line)
    { s with coh.mplru := tset s.coh.mplru k (plruMark true m.way 4 1 ((tget s.coh.mplru k).getD 0)) }
  | none => s

/-- A line of an MSC slice is written: it goes back to memory when it leaves (R93). -/
def State.mscDirty (s : State) (line : Nat) : State :=
  { s with coh.msc := s.coh.msc.map (fun m => if m.line = line then { m with dirty := true } else m) }

/-- The home's MSC slice takes a line it does not hold, or a victim is chosen (R107) and the access waits. -/
def State.mscFill (s : State) (line : Nat) : State × Bool :=
  if isCellar (128 * line) || (s.mscAt line).isSome then (s.mscUse line, true)
  else
    let here := s.mscHere line
    match (List.range 16).find? (fun w => !here.any (fun m => m.way == w)) with
    | some w =>
      let s1 : State := { s with coh.msc := s.coh.msc ++ [{ line := line, way := w, dirty := false }] }
      (s1.mscUse line, true)
    | none =>
      if here.any (fun m => s.due (fun e => e == Ev.mscVictim m.line)) then (s, false)
      else
        let t := (tget s.coh.mplru (homeOf (128 * line), mscSet line)).getD 0
        match (plruPick (fun w => here.any (fun m => m.way == w && !s.pinned m.line)) t 4 1 0).bind (fun w => here.find? (fun m => m.way == w)) with
        | some m => (s.send (.mscVictim m.line), false)
        | none => (s, false)

/-- The set of a slice that a line goes to (DESIGN CHOICE, log 77). -/
def l2Set (line : Nat) : Nat := line / 32 % 2048

/-- The ways of a slice that an access may use: the first, and the logarithm of their number (R80, R107). -/
def State.wayGroup (s : State) (slice world : Nat) : Option (Nat × Nat) :=
  if world = 0x7F then some (0, 3)
  else (tget s.ten.worlds world).bind (fun w => (w.groups.find? (fun g => g.1 == slice)).map (fun g => (g.2, Nat.log2 w.ways)))

/-- Other lines of one set leave room for a transfer's pin (half of the ways) or for a pin of any kind (all ways but one) (R108). -/
def State.pinsLeave (s : State) (ways : Nat) (others : List Nat) (transfer : Bool) : Bool :=
  (!transfer || decide ((others.filter s.transferPin).length < ways / 2)) && decide ((others.filter s.pinned).length < ways - 1)

/-- A line may be pinned in a slice's ways for a world tag (R108). -/
def State.sliceRoom (s : State) (slice line world : Nat) (transfer : Bool) : Bool :=
  match s.wayGroup slice world with
  | none => true
  | some g => s.pinsLeave (2 ^ g.2) ((s.coh.l2.filter (fun l => l.slice == slice && l2Set l.line == l2Set line && l.line != line && decide (g.1 ≤ l.way) &&
      decide (l.way < g.1 + 2 ^ g.2))).map (fun l => l.line)) transfer

/-- A line may be pinned, by a transfer or in another way: in its MSC set, and in the sets of the slices that hold it (R108). -/
def State.pinRoomFor (s : State) (line : Nat) (transfer : Bool) : Bool :=
  s.pinned line ||
    (s.pinsLeave 16 (((s.mscHere line).filter (fun m => m.line != line)).map (fun m => m.line)) transfer &&
      (s.coh.l2.filter (fun l => l.line == line)).all (fun l => s.sliceRoom l.slice line l.world transfer))

/-- A transfer's target may be pinned (R108). -/
def State.pinRoom (s : State) (line : Nat) : Bool := s.pinRoomFor line true

/-! ## Lines of a world -/

/-- A world other than the reader's holds the line in some slice. -/
def State.worldHolder (s : State) (line world : Nat) : Option L2Line :=
  s.coh.l2.find? (fun l => l.line == line && l.world != 0x7F && l.world != world)

/-- A write from outside a world to a line in a world's ways, or sealed under a slot in use, or a Cellar line with another tag, is dropped (R81, R84): the world
that is written into. -/
def State.outsider (s : State) (t : Tx) : Option Nat :=
  match s.worldHolder t.line t.world with
  | some l => some l.world
  | none =>
    match tget s.mm.sealed t.line with
    | some (slot, _) =>
      let mine := match tget s.ten.worlds t.world with | some w => w.slot == slot | none => false
      match s.key slot with
      | some k => if k.users > 0 && !mine then (s.ten.worlds.find? (fun e => e.2.slot == slot)).map (fun e => e.1) else none
      | none => none
    | none =>
      match tget s.mm.ctag t.line, (s.aliasesOn t.line).find? (fun e => e.wtag != 0x7F && e.wtag != t.world) with
      | some w, _ => if w = t.world then none else some w
      -- a world's destination not yet materialised: the write would first seal it (R118, R122)
      | none, some e => some e.wtag
      | none, none => none

/-- A piece being recorded has a line among its destination's: a write of the line comes after it (R117). -/
def State.recording (s : State) (line : Nat) : Bool :=
  s.ali.pieces.any (fun p => decide (1 ≤ p.stage) && decide (p.stage ≤ 4) && meet (p.entry.dbase, p.entry.len) (128 * line, 128))

/-- What a reader outside a line's world receives at the home (R84): of a line in a world's ways its sealed form. -/
def State.outLine (s : State) (line : Nat) : List Byte × List Nat :=
  match s.worldHolder line 0x7F with
  | some l =>
    match s.worldKey l.world with
    | some (slot, key) => ((sealLine key line slot l.data).1, l.pois)
    | none => ((s.homeLine line).1, (s.homeLine line).2.1)
  | none => ((s.homeLine line).1, (s.homeLine line).2.1)

/-- The device is about to read n bytes from an address: a line in a world's ways is handed over, and a world's destination is materialised (R84, R85). -/
def State.giveUp (s : State) (pa n : Nat) : State :=
  ((List.range ((pa + n - 1) / 128 - pa / 128 + 1)).map (fun i => pa / 128 + i)).foldl (fun (s : State) line =>
    let s1 := if (s.aliasesOn line).any (fun e => e.wtag != 0x7F) then s.destWrite line else s
    match s1.worldHolder line 0x7F with
    | some l => if s1.due (fun e => e == .worldLineHandover l.slice line) then s1 else s1.send (.worldLineHandover l.slice line)
    | none => s1) s

/-! ## Writes by the device -/

/-- The package is about to change a line of device memory: a host that may hold one of its halves is snooped, over a port that has trained as CXL (R31, R32; log 83). -/
def State.snoopHost (s : State) (line : Nat) (p : Patch) : State :=
  let base := s.host.hdmBase.toNat
  let hit := s.host.lent.filter (fun e => let pa := base + 64 * e.2; s.isCxl e.1 && pa / 128 == line && p.any (fun b => b.1 / 64 == pa % 128 / 64))
  hit.foldl (fun (s : State) e => ({ s with host.lent := s.host.lent.erase e }).toHost (.backInv e.1 (64 * e.2))) s

/-- The slices that hold a requester-side copy of a line, by the home's directory (R102). -/
def dirSlices (d : Dir) : List Nat :=
  if d.coarse then ((List.range 12).filter (fun q => bit d.cvec q)).flatMap (fun q => (List.range 8).map (fun i => 8 * q + i)) else d.ptrs

/-- The cores a directory entry targets; stack gives the die (R100, R101). -/
def dirCores (stack : Nat) (d : Dir) : List Nat :=
  (if d.coarse then ((List.range 32).filter (fun c => bit d.cvec c)).flatMap (fun c => (List.range 4).map (fun i => 4 * c + i)) else d.ptrs).map
    (fun c => 128 * stack + c)

/-- No sharer. -/
def noDir : Dir := { coarse := false, ptrs := [], cvec := 0 }

/-- A store under way with nothing done; core 384 and above names a writer without an L1. -/
def blankTx (id line : Nat) (bytes : Patch) : Tx :=
  { id := id, core := 384, slot := 0, lane := 0, tenant := 0xFFFE, world := 0x7F, line := line, va := 0, bytes := bytes, pois := [],
    strong := true, inval := false, atom := none, cp := 0, cuts := [], slice := 96, after := [], own := [], others := [], l1 := true, ackStack := true,
    atHome := false, homeDone := false, ackPkg := false, drop := false, lost := false, waitSrc := [], done := none, irq := none }

/-- The reservations of Hearth cores on a line that is written are gone (R42; log 71). -/
def State.dropResv (s : State) (line : Nat) : State :=
  if s.host.hearth.any (fun x => x.resv == some line) then
    { s with host.hearth := s.host.hearth.map (fun (x : Hearth) => if x.resv = some line then { x with resv := none } else x) }
  else s

/-- The memory side of a store at its home or bank group: bytes written, poison of R106 and R409 updated, SEALED cleared, a host's copy snooped. -/
def State.applyPatch (s : State) (line : Nat) (p : Patch) (pois : List Nat) : State :=
  let s0 := (s.snoopHost line p).dropResv line
  let s1 := { s0 with mem := Memory.patch s0.mem (128 * line) p, mm.sealed := tdel s0.mm.sealed line }
  let s2 := (fullWords p).foldl (fun (s : State) w => s.setPoison (16 * line + w) false) s1
  (pois.foldl (fun (s : State) w => s.setPoison (16 * line + w) true) s2).dirtyHalves line p

/-- Updates of a store that its home has applied: to every L2 sharer but the writer's slice, or, for a Cellar line, to the L1 sharers (R96, R101,
R103). -/
def State.homeUpdates (s : State) (t : Tx) : State :=
  if isCellar (128 * t.line) then
    let cs := dirCores (cellarColumn (128 * t.line) / 32) ((tget s.coh.cdir t.line).getD noDir)
    (s.updTx t.id (fun t => { t with own := cs })).sendAll (cs.map (fun c => .l1Update c t.id))
  else
    let sl := (dirSlices ((tget s.coh.hdir t.line).getD noDir)).filter (fun x => x != t.slice)
    (s.updTx t.id (fun t => { t with others := sl.map (fun x => (x, [])) })).sendAll (sl.map (fun x => .l2HomeUpdate x t.id))

/-- The device raises an MSI-X vector of a function (R65, R66), whose interface has not left RUN (R91). -/
def State.raiseMsi (s : State) (v : Option (Nat × Nat × Nat)) : State :=
  match v with
  | some (port, func, vec) => if s.refuses port func then s else s.toHost (.msi port func vec)
  | none => s

/-- A device's store with no sharer to wait for is over. -/
def State.settleDev (s : State) (id : Nat) : State :=
  { s with coh.txs := s.coh.txs.filter (fun t => !(t.id == id && t.own.isEmpty && t.others.isEmpty)) }

/-- A command write covers the first 16 bytes of the notice board (R392): the event of its OPC (R393). -/
def nbEvent (cmd : List Byte) : Ev :=
  let v := BitVec.ofNat 128 (leNat cmd)
  match (cmd.headD 0).toNat with
  | 1 => .nbAttach v
  | 2 => .nbSetbp v
  | 3 => .nbClrbp v
  | 4 => .nbSetwp v
  | 5 => .nbClrwp v
  | 6 => .nbHalt v
  | 7 => .nbStep v
  | 8 => .nbResume v
  | 9 => .nbDetach v
  | _ => .nbBadcmd v

/-- The board's page (R390). -/
def State.nbBase (s : State) : Nat := bits s.nb.nbctl.toNat 55 12 * 4096

/-- A store that the home applies is taken as a command where it covers the slot (R392). -/
def State.nbTake (s : State) (line : Nat) (p : Patch) : State :=
  if bit s.nb.nbctl.toNat 0 && line == lineOf s.nbBase && (List.range 16).all (fun i => p.any (fun e => e.1 == i)) then
    s.send (nbEvent ((List.range 16).map (fun i => ((p.find? (fun e => e.1 == i)).map (fun e => e.2)).getD 0)))
  else s

/-- A store of a line that its home has applied still waits for the sharers' acknowledgements (R103 step 4). -/
def State.lineOpen (s : State) (line : Nat) : Bool := s.coh.txs.any (fun u => u.line == line && u.atHome && !u.others.isEmpty && decide (u.slice < 96))

/-- A store of a line is on its way to its home, or waits there: a later write of the line comes after it (R15, R117). -/
def State.storeDue (s : State) (line : Nat) : Bool := s.due (fun e => match e with | .homeStore x => lineOfTx s x == line | _ => false)

/-- The node of the device's own writes (log 92). -/
def deviceNode : Node := 642

/-- A write of a line from a place would be done at once: its way is clear, or cut off for good, no store of the line goes before it, and no piece is being recorded on it. -/
def State.lineReadyAt (s : State) (a : Node) (line : Nat) : Bool := (s.way a (lineNode line) != .blocked) && !s.storeDue line && !s.recording line && !s.lineOpen line

/-- Such a write of the Reeve's. -/
def State.lineReady (s : State) (line : Nat) : Bool := s.lineReadyAt deviceNode line

/-- A write of a line takes effect at its home (R103, R118), and its sharers hear of it. -/
def State.homeWrite (s : State) (t : Tx) (irq : Option (Nat × Nat × Nat)) : State :=
  let s2 := ((s.destWrite t.line).srcWriteNow t.line)
  let s3 := (((s2.applyPatch t.line t.bytes []).mscDirty t.line).updTx t.id (fun t => { t with atHome := true, irq := none })).nbTake t.line t.bytes
  ((s3.homeUpdates t).raiseMsi irq).settleDev t.id

/-- One line's worth of a write by the device: at once where its way is clear, the home has the line and no host half is missing, else as a store that waits for them (R15,
R38, R107); one into a world's line is dropped (R84), and one that a bridge in FAILED cuts off is lost (R29; log 92). -/
def State.devStoreLine (s : State) (pa : Nat) (bytes : List Byte) (irq : Option (Nat × Nat × Nat)) : State :=
  if !isMapped pa then { s with ctl.badPA := some pa }
  else
    let id := s.ctl.nextId
    let line := lineOf pa
    let t := { blankTx id line (patchOf (pa % 128) bytes) with irq := irq }
    let f := s.mscFill line
    let s1 := { f.1.bump with coh.txs := f.1.coh.txs ++ [t] }
    match s.outsider t with
    | some w => ({ s with ctl.sealDue := s.ctl.sealDue ++ [(pa, w, t.tenant)] }).raiseMsi irq
    | none =>
    if s.way deviceNode (lineNode line) = .cut then s.raiseMsi irq
    else if f.2 && s.lineReady line && (s.halvesMissing pa bytes.length true).isEmpty then
      let r := s1.reach deviceNode (lineNode line)
      if !r.2 then { r.1 with ctl.cut := s.ctl.cut, coh.txs := r.1.coh.txs.filter (fun t => t.id != id) }.raiseMsi irq
      else
        r.1.homeWrite t irq
    else s1.send (.homeStore id)

/-- The lines of an extent. -/
def linesOf (pa n : Nat) : List Nat := (List.range ((pa + n - 1) / 128 - pa / 128 + 1)).map (fun i => pa / 128 + i)

/-- A write of an extent from a place would be done at once: its lines are ready and have their places in the MSC, and no half is missing. -/
def State.storeReadyAt (s : State) (a : Node) (pa n : Nat) : Bool :=
  !isMapped pa || ((linesOf pa n).all (fun l => s.lineReadyAt a l && (s.mscFill l).2) && (s.halvesMissing pa n true).isEmpty)

/-- Such a write of the Reeve's. -/
def State.storeReady (s : State) (pa n : Nat) : Bool := s.storeReadyAt deviceNode pa n

/-- A read of an extent from a place may be made: its ways are clear, no store of its lines goes before it, and no half is missing (R15, R38). -/
def State.readReadyAt (s : State) (a : Node) (pa n : Nat) : Bool :=
  !isMapped pa || ((linesOf pa n).all (fun l => s.way a (lineNode l) == .clear && !s.storeDue l) && (s.halvesMissing pa n false).isEmpty)

/-- Such a read of the Reeve's. -/
def State.readReady (s : State) (pa n : Nat) : Bool := s.readReadyAt deviceNode pa n

/-- What such a read still needs is asked for; one that a bridge in FAILED cuts off is noted (R29). -/
def State.readNeed (s : State) (pa n : Nat) : State :=
  let s1 := s.askHalves (s.halvesMissing pa n false) false
  if (linesOf pa n).any (fun l => s.way deviceNode (lineNode l) == .cut) then { s1 with ctl.cut := true } else s1

/-- Such a read goes its ways and back. -/
def State.readOver (s : State) (pa n : Nat) : State × Bool := s.reachAll deviceNode ((linesOf pa n).map lineNode)

/-- What such a write still needs is asked for. -/
def State.storeNeed (s : State) (pa n : Nat) : State :=
  ((linesOf pa n).foldl (fun (s : State) l => (s.mscFill l).1) s).askHalves (s.halvesMissing pa n true) true

/-- A write by the device, line by line; the vector goes with the last. -/
def State.devStoreN : Nat → State → Nat → List Byte → Option (Nat × Nat × Nat) → State
  | 0, s, _, _, _ => s
  | k + 1, s, pa, bytes, irq =>
    let n := 128 - pa % 128
    if bytes.length ≤ n then s.devStoreLine pa bytes irq
    else State.devStoreN k (s.devStoreLine pa (bytes.take n) none) (pa + n) (bytes.drop n) irq

/-- A write by the device of at most 64 KiB. -/
def State.devStore (s : State) (pa : Nat) (bytes : List Byte) (irq : Option (Nat × Nat × Nat)) : State :=
  if bytes.isEmpty then s.raiseMsi irq else s.devStoreN 514 pa bytes irq

/-- A write by the device of bytes in one line that comes after another of its stores: as such a write where that store is done, else when it is. -/
def State.devStoreAfter (s : State) (pa : Nat) (bytes : List Byte) (before : Nat) : State :=
  if (match s.tx before with | some t => t.atHome | none => true) then s.devStore pa bytes none
  else
    let id := s.ctl.nextId
    { s.bump with coh.txs := s.coh.txs ++ [{ blankTx id (lineOf pa) (patchOf (pa % 128) bytes) with after := [(before, 0)] }] }.send (.homeStore id)

/-- The Cellar's answer to an access with a tag (R81): another's tagged line reads as poison. -/
def State.cellarLine (s : State) (line world : Nat) : List Byte × List Nat :=
  let tag := (tget s.mm.ctag line).getD 0x7F
  if tag = world || tag = 0x7F then (s.bytesAt (128 * line) 128, s.linePois line) else (zeros 128, List.range 16)

/-- A read by the device at the home, through aliases; of a Cellar line with a world's tag it gets no plaintext (R81); a byte outside R94 stops the machine at the next step
(log 5). -/
def State.devByte (s : State) (pa : Nat) : Byte :=
  if isCellar pa then ((s.cellarLine (pa / 128) 0x7F).1.drop (pa % 128)).headD 0
  else if (s.aliasAt pa).isSome || (s.worldHolder (pa / 128) 0x7F).isSome then ((s.outLine (pa / 128)).1.drop (pa % 128)).headD 0 else s.byteAt pa

/-- n bytes read by the device. -/
def State.devBytes (s : State) (pa n : Nat) : List Byte := (List.range n).map (fun i => s.devByte (pa + i))

/-- Bytes of one line as they will stand once the stores on their way to its home have been applied. -/
def State.bytesOwed (s : State) (pa n : Nat) : List Byte :=
  let line := lineOf pa
  let d := (s.ctl.waiting ++ s.ctl.agenda).foldl (fun (d : List Byte) e => match e with
    | .homeStore x => match s.tx x with
      | some t => if t.line == line && !t.atHome && !t.drop then patchLine d t.bytes else d
      | none => d
    | _ => d) (s.devBytes (128 * line) 128)
  cut d (pa % 128) n

/-- The device read an address that R94 does not decode. -/
def State.noteRead (s : State) (pa : Nat) : State := if isMapped pa then s else { s with ctl.badPA := some pa }

end Sys2Proof.Machine
end

