-- ==== Sys2Proof/Machine/Events.lean ====
section
/-! DEFINITION. The event arbiter (R64 to R68): stamping, the rings, the interrupts, and the fault rings of the Hearth cores (R44). -/

namespace Sys2Proof.Machine

open Sys2Proof

/-- The 16 bytes of DATA from its fields: (byte of the entry, bytes, value); every other byte is 0 (R68). -/
def eventData (fs : List (Nat × Nat × Nat)) : List Byte :=
  fs.foldl (fun d f => overlay d (f.1 - 16) (leBytes f.2.1 f.2.2)) (zeros 16)

/-- An event entry (R65). -/
def eventEntry (serial tseq code source : Nat) (data : List Byte) : List Byte :=
  leBytes 8 serial ++ leBytes 4 tseq ++ leBytes 2 code ++ leBytes 2 source ++ data

/-- An entry goes into its ring: after those of the ring that still wait for their line (R65). -/
def State.ringPut (s : State) (e : RingEntry) : State :=
  if !s.ten.evWait.any (fun x => x.ring == e.ring) && s.storeReady e.addr e.bytes.length then s.devStore e.addr e.bytes e.irq
  else { s with ten.evWait := s.ten.evWait ++ [e] }.storeNeed e.addr e.bytes.length

/-- The oldest waiting entry of each event ring is written once its line is there (R65). -/
def State.eventDrain (s : State) : State :=
  ((s.ten.evWait.map (fun e => e.ring)).eraseDups).foldl (fun (s : State) r =>
    match s.ten.evWait.find? (fun e => e.ring == r) with
    | some e =>
      if s.storeReady e.addr e.bytes.length then { s with ten.evWait := s.ten.evWait.erase e }.devStore e.addr e.bytes e.irq
      else s.storeNeed e.addr e.bytes.length
    | none => s) s

/-- The arbiter stamps an event and writes it into a ring: a tenant's, with an interrupt of a class where one is named, or the system ring for
ring 256 (R64, R65, R66). A ring that is not set up only counts. The entry with TSEQ n has place (n - 1) mod 1024 of its ring (DESIGN CHOICE, log 86). -/
def State.logEvent (s : State) (ring source code : Nat) (cls : Option Nat) (fs : List (Nat × Nat × Nat)) : State :=
  let serial := s.ten.serial + 1
  let tseq := (nget 0 s.ten.tseq ring + 1) % 2 ^ 32
  let s1 := { s with ten.serial := serial, ten.tseq := nset 0 s.ten.tseq ring tseq }
  let place := if ring < 256 then s.tEvRing ring else s.ten.sysevr.toNat
  if bit place 0 then
    let addr := place / 2 ^ 15 * 2 ^ 15 + 32 * ((tseq + 1023) % 1024)
    let irq :=
      if ring < 256 then
        match cls with
        | some c => some (s.tPort ring, s.tFunc ring, s.tMsi ring + c)
        | none => none
      else none
    s1.ringPut { ring := ring, addr := addr, bytes := eventEntry serial tseq code source (eventData fs), irq := irq }
  else s1

/-- An event that concerns a tenant, or the system ring when no tenant is named (R68). -/
def State.logTenant (s : State) (t : Option Nat) (source code cls : Nat) (fs : List (Nat × Nat × Nat)) : State :=
  match t with
  | some t => s.logEvent t source code (some cls) fs
  | none => s.logEvent 256 source code none fs

/-- An internal error of a block: a pair of state and event that its table omits (R7). Numbers of states and events are the model's (log 3). -/
def State.intErr (s : State) (state event : Nat) : State := s.logEvent 256 1 0x47 none [(24, 8, state), (16, 8, event)]

/-- Where entry i of a Hearth core's fault ring lies (R44). -/
def hfltAddr (base i : Nat) : Nat := base + i % 1024 / 128 * 196608 + i % 128 * 32
/-- Where entry i of a Hearth core's request ring lies (R44). -/
def hreqAddr (base i : Nat) : Nat := base + i % 4096 / 64 * 196608 + i % 64 * 64

/-- The fault ring of a Hearth core is full. -/
def State.hfltFull (s : State) (h : Nat) : Bool :=
  (nget 0 s.ten.hfltTail h + 2 ^ 32 - nget 0 s.ten.hfltHead h) % 2 ^ 32 == 1024
/-- The request ring of a Hearth core is full. -/
def State.hreqFull (s : State) (h : Nat) : Bool :=
  (nget 0 s.ten.hreqTail h + 2 ^ 32 - nget 0 s.ten.hreqHead h) % 2 ^ 32 == 4096

/-- Where a Hearth core's next fault entry lies. -/
def State.hfltNext (s : State) (h : Nat) : Nat := hfltAddr ((tget s.ten.hfltBase h).getD 0) (nget 0 s.ten.hfltTail h)

/-- The line of the next fault entry is there: the entry is stored before its interrupt is pending (R44). -/
def State.hfltReady (s : State) (h : Nat) : Bool := s.storeReady (s.hfltNext h) 32

/-- An entry goes into a Hearth core's fault ring. -/
def State.hfltPut (s : State) (h : Nat) (entry : List Byte) : State :=
  let tail := nget 0 s.ten.hfltTail h
  let s1 := { s with ten.hfltTail := nset 0 s.ten.hfltTail h ((tail + 1) % 2 ^ 32) }
  (s1.devStore (hfltAddr ((tget s.ten.hfltBase h).getD 0) tail) (overlay entry 8 (leBytes 4 ((tail + 1) % 2 ^ 32))) none).updHearth h (fun x => { x with ext := true })

/-- A fault entry is logged: into the fault ring of the home Hearth core, or the tenant's ring with MODES bit 1 set (R136). A full fault ring holds the
entry back in the arbiter (R44), as does a line that is not there yet. -/
def State.logFault (s : State) (ctx source : Nat) (fs : List (Nat × Nat × Nat)) : State :=
  let t := s.tenantOfCtx ctx
  if bit (s.tModes t) 1 then s.logEvent t source 0x10 (some 1) fs
  else
    let h := s.hearthOf ctx
    let serial := s.ten.serial + 1
    let e := eventEntry serial 0 0x10 source (eventData fs)
    let s1 := { s with ten.serial := serial }
    if s1.hfltFull h || s1.ten.hfltWait.any (fun w => w.1 == h) then { s1 with ten.hfltWait := s1.ten.hfltWait ++ [(h, e)] }
    else if s1.hfltReady h then s1.hfltPut h e
    else { s1 with ten.hfltWait := s1.ten.hfltWait ++ [(h, e)] }.storeNeed (s1.hfltNext h) 32

/-- Entries held back for a Hearth core go into its ring while it has room (R44), by fuel. -/
def State.hfltDrain : Nat → State → Nat → State
  | 0, s, _ => s
  | k + 1, s, h =>
    match s.ten.hfltWait.find? (fun w => w.1 == h) with
    | some w =>
      if s.hfltFull h then s
      else if !s.hfltReady h then s.storeNeed (s.hfltNext h) 32
      else State.hfltDrain k ({ s with ten.hfltWait := s.ten.hfltWait.erase w }.hfltPut h w.2) h
    | none => s

/-- Where a tenant's next sample lies (R110). -/
def State.hsNext (s : State) (t : Nat) : Nat := nget 0 s.ten.hsring t + 32 * (bits (nget 0 s.ten.hsctl t) 47 32 % 2 ^ bits (nget 0 s.ten.hsctl t) 10 7)

/-- A sample is stored, and then WIDX advances (R110). -/
def State.hsPut (s : State) (t : Nat) (r : List Byte) : State :=
  let s1 := s.devStore (s.hsNext t) r none
  let c := nget 0 s1.ten.hsctl t
  { s1 with ten.hsctl := nset 0 s1.ten.hsctl t (setBits c 47 32 ((bits c 47 32 + 1) % 2 ^ 16)) }

/-- The samples of a tenant that wait for their line. -/
def State.hsHeld (s : State) (t : Nat) : List (Nat × List Byte) := s.ten.hsWait.filter (fun w => w.1 == t)

/-- The oldest waiting sample of each tenant is stored once its line is there. -/
def State.sampleDrain (s : State) : State :=
  ((s.ten.hsWait.map (fun w => w.1)).eraseDups).foldl (fun (s : State) t =>
    match s.ten.hsWait.find? (fun w => w.1 == t) with
    | some w => if s.storeReady (s.hsNext t) 32 then { s with ten.hsWait := s.ten.hsWait.erase w }.hsPut t w.2 else s.storeNeed (s.hsNext t) 32
    | none => s) s

/-- What waits to be written into rings is written once its line is there, in the order of each ring (R44, R65, R110). -/
def State.ringDrain (s : State) : State :=
  (((s.ten.hfltWait.map (fun w => w.1)).eraseDups).foldl (fun (s : State) h => State.hfltDrain (s.ten.hfltWait.length + 1) s h) s.eventDrain).sampleDrain

/-- A translated access of a lane is counted, and sampled where the count meets a multiple of 2 ^ K (R109, R110); types: 0 plain load, 1 strong load, 2 plain store,
3 strong store, 4 atomic, 5 region fill, 6 region write-back. -/
def State.sample (s : State) (ctx core slot lane va typ : Nat) : State :=
  let t := s.tenantOfCtx ctx
  let n := nget 0 s.coh.hot (256 * core + t) + 1
  let s1 := { s with coh.hot := nset 0 s.coh.hot (256 * core + t) n }
  let c := nget 0 s1.ten.hsctl t
  if bit c 0 && n % 2 ^ bits c 15 11 == 0 then
    let w := bits c 47 32 + (s1.hsHeld t).length
    if (w + 2 ^ 16 - bits c 31 16) % 2 ^ 16 = 2 ^ bits c 10 7 then
      { s1 with ten.hsctl := nset 0 s1.ten.hsctl t (setBits c 63 48 (min 0xFFFF (bits c 63 48 + 1))) }
    else
      let r := zeros 11 ++ leBytes 1 slot ++ leBytes 1 lane ++ leBytes 1 typ ++ leBytes 2 core ++ leBytes 8 va ++ leBytes 8 (s.ctl.time / perTick)
      if (s1.hsHeld t).isEmpty && s1.storeReady (s1.hsNext t) 32 then s1.hsPut t r
      else { s1 with ten.hsWait := s1.ten.hsWait ++ [(t, r)] }.storeNeed (s1.hsNext t) 32
  else s1

/-- SOURCE of a core, an L2 slice or Anvil, a home, a translation unit, a host port (R67). -/
def srcCore (c : Nat) : Nat := 0x100 + c
/-- SOURCE of an L2 slice or Anvil. -/
def srcSlice (c : Nat) : Nat := 0x80 + c
/-- SOURCE of an MSC slice. -/
def srcHome (h : Nat) : Nat := 0x40 + h
/-- SOURCE of a translation unit. -/
def srcXlate (stack : Nat) : Nat := 0x28 + stack
/-- SOURCE of a host port. -/
def srcPort (p : Nat) : Nat := 8 + p
/-- SOURCE of a Holt port (0 to 15) or bridge (16 to 18). -/
def srcLink (l : Nat) : Nat := if l < 16 then 0x10 + l else 0x20 + (l - 16)

/-- A memory error that lost data, with the structure and address (R106). -/
def State.logMemUe (s : State) (source structure_ addr : Nat) : State := s.logEvent 256 source 0x42 none [(24, 8, addr), (22, 2, structure_)]
/-- A corrected memory error, or one repaired by refetch (R105, R106). -/
def State.logMemCe (s : State) (source structure_ addr : Nat) (refetch : Bool) : State :=
  s.logEvent 256 source 0x41 none [(24, 8, addr), (22, 2, structure_), (21, 1, if refetch then 1 else 0)]

/-- The 16 DATA bytes' fields of an ARITH or CORETRAP record (R212). -/
def trapFields (mask pc ctx gang cause : Nat) : List (Nat × Nat × Nat) := [(28, 4, mask), (24, 4, pc), (22, 2, ctx), (20, 2, gang), (19, 1, cause)]

/-- A reply or command register was written with nothing to answer (BADREPLY). -/
def State.badReply (s : State) (t : Option Nat) (source off v : Nat) : State := s.logTenant t source 0x28 2 [(24, 8, v), (16, 8, off)]

/-- A write of an outsider into a world's line was dropped: SEALWR in both tenants' rings (R84). -/
def State.sealWr (s : State) (pa world writer : Nat) : State :=
  let owner := match tget s.ten.worlds world with | some w => some (s.tenantOfCtx w.ctx) | none => none
  let fs : List (Nat × Nat × Nat) := [(24, 8, pa), (22, 2, world), (20, 2, writer)]
  let s1 := match owner with | some t => s.logEvent t (srcHome (homeOf pa)) 0x32 (some 3) fs | none => s
  if writer < 256 ∧ owner ≠ some writer then s1.logEvent writer (srcHome (homeOf pa)) 0x32 (some 3) fs else s1

end Sys2Proof.Machine
end

