-- ==== Sys2Proof/Machine/Translate.lean ====
section
/-! DEFINITION. Address translation (R126 to R133), walks (R131), and fault entries (R134 to R136). -/

namespace Sys2Proof.Machine

open Sys2Proof

/-- Access kinds of R136 that write. -/
def accWrites (acc : Nat) : Bool := acc == 1 || acc == 2 || acc == 5 || acc == 7

/-- A canonical virtual address (R126). -/
def canonical (va : Nat) : Bool := bits va 63 57 == (if bit va 56 then 127 else 0)

/-- A leaf permits an access; U has been checked when it was taken. -/
def permits (a : PAttr) (acc : Nat) : Bool := if acc = 3 then a.x else if accWrites acc then a.w else a.r

/-- The address lies in the tenant's HBM window, or is no HBM address (R129). -/
def State.inWindow (s : State) (t pa : Nat) : Bool := !isHbm pa || (decide (s.tWinBase t ≤ pa) && decide (pa < s.tWinLim t))

/-! ## Walks -/

/-- The halves a walk still needs: all it touches while their port is no CXL port, which is never used for a direct walk (R32). -/
def State.walkMissing (s : State) (pa n : Nat) (store : Bool) : List Nat :=
  if isHost pa && !s.isCxl (halfPort (halfOf pa)) then [halfOf pa] else s.halvesMissing pa n store

/-- The checks a permitted leaf still has to pass, and the A and D it needs (R128, R129, R131, R132). Of several causes at one leaf the first in this order is reported: PERM, STABLE,
WINDOW, NOMAP (R134 gives no order; DESIGN CHOICE, log 102). -/
def State.leafEnd (s : State) (t acc pa : Nat) (attr : PAttr) (u a d dev : Bool) (at_ pte : Nat) : WalkR :=
  if !u || !permits attr acc then .fault 0x03 attr.fattr
  else if accWrites acc && attr.stbl then .fault 0x08 attr.fattr
  else if dev && !s.inWindow t pa then .fault 0x05 attr.fattr
  else if !isMapped pa then .fault 0x06 attr.fattr
  else
    let needD := accWrites acc && !d
    if !a || needD then
      let v := setBit (setBit pte 6 true) 7 (d || accWrites acc)
      let missing := s.walkMissing at_ 8 true
      if missing.isEmpty then .ok pa attr true (d || accWrites acc) (some (at_, v)) else .need missing true
    else .ok pa attr a d none

/-- A leaf of the host tables at a level (R128, R130). -/
def State.hostLeaf (s : State) (t va acc level at_ pte : Nat) : WalkR :=
  let ppn := bits pte 53 10
  let n := bit pte 63
  let pbmt := bits pte 62 61
  if n && (level != 0 || bits ppn 3 0 != 8) then .fault 0x04 0
  else if ppn % 2 ^ (9 * level) != 0 then .fault 0x04 0
  else if pbmt ≥ 2 then .fault 0x07 0
  else
    let sz := if n then 16 else 12 + 9 * level
    let addr := ppn * 4096 / 2 ^ sz * 2 ^ sz + va % 2 ^ sz
    let attr : PAttr := { fattr := 0, stbl := false, uncached := pbmt == 1, size := sz, r := bit pte 1, w := bit pte 2, x := bit pte 3 }
    if addr ≥ 2 ^ 52 then .fault 0x06 0
    else s.leafEnd t acc (hostPa (s.tPort t) addr) attr (bit pte 4) (bit pte 6) (bit pte 7) false at_ pte

/-- A leaf of the device tables at a level (R129, R130). -/
def State.devLeaf (s : State) (t va acc level at_ pte : Nat) : WalkR :=
  let ppn := bits pte 53 10
  let c := bits pte 55 54
  if (decide (level = 1) && c == 3) || (decide (level > 1) && c != 0) then .fault 0x04 (bits pte 63 56)
  else if ppn % 2 ^ (9 * level) != 0 then .fault 0x04 (bits pte 63 56)
  else
    let sz := 12 + 9 * level + 2 * c
    let addr := ppn * 4096 / 2 ^ sz * 2 ^ sz + va % 2 ^ sz
    let attr : PAttr :=
      { fattr := bits pte 63 56, stbl := bit pte 9, uncached := false, size := sz, r := bit pte 1, w := bit pte 2, x := bit pte 3 }
    s.leafEnd t acc addr attr (bit pte 4) (bit pte 6) (bit pte 7) true at_ pte

/-- The walk from a table on: level counts down from 5 to 1 above the level read (R128 to R131). -/
def State.walkFrom (s : State) (t va acc : Nat) (dev : Bool) : Nat → Nat → WalkR
  | 0, _ => .fault 0x04 0
  | k + 1, table =>
    let at_ := table + 8 * bits va (20 + 9 * k) (12 + 9 * k)
    let missing := s.walkMissing at_ 8 false
    if !isMapped at_ then .fault 0x06 0
    else if !missing.isEmpty then .need missing false
    else
      let pte := leNat (s.devBytes at_ 8)
      if !bit pte 0 then .fault 0x02 0
      else if bit pte 2 && !bit pte 1 then .fault 0x04 0
      else if dev && bit pte 8 then .fault 0x04 0
      else if !dev && bits pte 60 54 != 0 then .fault 0x04 0
      else if bit pte 1 || bit pte 3 then (if dev then s.devLeaf t va acc k at_ pte else s.hostLeaf t va acc k at_ pte)
      else if dev && (bits pte 63 54 != 0 || bit pte 9 || bit pte 6 || bit pte 7) then .fault 0x04 0
      else if !dev && (bits pte 63 61 != 0 || bit pte 4 || bit pte 6 || bit pte 7) then .fault 0x04 0
      else
        let next := bits pte 53 10 * 4096
        if !dev && next ≥ 2 ^ 52 then .fault 0x06 0
        else State.walkFrom s t va acc dev k (if dev then next else hostPa (s.tPort t) next)

/-- The walk of a virtual address for a tenant (R126, R127). -/
def State.walkVa (s : State) (t va acc : Nat) : WalkR :=
  if !canonical va then .fault 0x01 0
  else if bit va 56 then
    let root := s.tPtRoot t
    if bits root 63 60 != 10 then .fault 0x04 0 else s.walkFrom t va acc true 5 (bits root 43 0 * 4096)
  else
    let hatp := nget 0 s.ten.hatp t
    if bits hatp 63 60 != 10 then .fault 0x04 0
    else if bits hatp 43 0 * 4096 ≥ 2 ^ 52 then .fault 0x06 0
    else s.walkFrom t va acc false 5 (hostPa (s.tPort t) (bits hatp 43 0 * 4096))

/-! ## Lookups -/

/-- The TLB entry of a stack that serves an access. -/
def State.tlbHit (s : State) (stack t va acc : Nat) : Option TlbEnt :=
  s.xl.tlb.find? (fun e => e.stack == stack && e.tenant == t && e.va / 2 ^ e.size == va / 2 ^ e.size && permits e.attr acc &&
    !(accWrites acc && (e.attr.stbl || !e.d)))

/-- The translation of an access: from the TLB, from a walk that has faulted, or not yet known. An entry whose address has left the tenant's window is not used: the walk then finds
WINDOW (R129). -/
def State.xlate (s : State) (stack t ctx va acc : Nat) : XR :=
  match (s.tlbHit stack t va acc).filter (fun e => !bit va 56 || s.inWindow t (e.pa + va % 2 ^ e.size)) with
  | some e => .ok (e.pa + va % 2 ^ e.size) e.attr
  | none =>
    match s.xl.walks.find? (fun w => w.stack == stack && w.tenant == t && w.ctx == ctx && w.va / 4096 == va / 4096 && w.acc == acc) with
    | some w => match w.fault with
      | some c => .fault w.id c w.fid
      | none => .wait
    | none => .wait

/-- A walk, or a translation request to the host, is under way for an access (R131, R142); a request of an interface that has left RUN is refused (R91). -/
def State.needWalk (s : State) (stack t ctx va acc : Nat) : State :=
  if s.xl.walks.any (fun w => w.stack == stack && w.tenant == t && w.ctx == ctx && w.va / 4096 == va / 4096 && w.acc == acc) then s
  else
    let id := s.ctl.nextId
    let ats := canonical va && !bit va 56 && bit (s.tModes t) 0
    let w : Walk := { id := id, stack := stack, tenant := t, ctx := ctx, va := va, acc := acc, ats := ats, again := false, fault := none, fid := none, fattr := 0 }
    let s1 := { s.bump with xl.walks := s.xl.walks ++ [w] }
    if ats && !s.refuses (s.tPort t) (s.tFunc t) then s1.toHost (.translate id (s.tPasid t) va (accWrites acc)) else s1.send (.pageWalkComplete id)

/-- s without a walk. -/
def State.dropWalk (s : State) (id : Nat) : State := { s with xl.walks := s.xl.walks.filter (fun w => w.id != id) }

/-- s with a walk changed. -/
def State.updWalk (s : State) (id : Nat) (f : Walk → Walk) : State :=
  { s with xl.walks := s.xl.walks.map (fun w => if w.id = id then f w else w) }

/-- A translation installed for a 4 KiB range (R130, R131). -/
def State.installTlb (s : State) (stack t va pa size : Nat) (attr : PAttr) (a d : Bool) : State :=
  let e : TlbEnt := { stack := stack, tenant := t, va := va / 2 ^ size * 2 ^ size, size := size, pa := pa / 2 ^ size * 2 ^ size, attr := attr, a := a, d := d }
  { s with xl.tlb := e :: s.xl.tlb.filter (fun x => !(x.stack == stack && x.tenant == t && x.va == e.va && x.size == size)) }

/-! ## Fault entries -/

/-- The limit on outstanding entries of a context (R127, R135). -/
def State.faultLimit (s : State) (ctx : Nat) : Nat :=
  match bits (s.txctl (s.tenantOfCtx ctx)) 7 0 with
  | 0 => 1024
  | n => 4 * n

/-- Outstanding entries of a context. -/
def State.faultsOf (s : State) (ctx : Nat) : List FaultEnt := s.xl.faults.filter (fun f => f.ctx == ctx)

/-- The entry a faulting access joins (R135): same 4 KiB range, same cause. -/
def State.faultFor (s : State) (ctx va cause : Nat) : Option FaultEnt :=
  s.xl.faults.find? (fun f => f.ctx == ctx && f.va / 4096 == va / 4096 && f.cause == cause && f.stop.isNone)

/-- The lowest free FID of a context. -/
def State.freeFid (s : State) (ctx : Nat) : Option Nat :=
  if (s.faultsOf ctx).length ≥ s.faultLimit ctx then none
  else (List.range 1024).find? (fun n => !(s.faultsOf ctx).any (fun f => f.fid == n))

/-- An entry of its own is opened and logged as TFAULT (R135, R136); a debug stop is not logged (R397). -/
def State.newFault (s : State) (ctx fid va cause acc source : Nat) (stop : Option (Nat × Nat)) : State :=
  let e : FaultEnt := { ctx := ctx, fid := fid, va := va, cause := cause, acc := acc, prg := none, stop := stop, logged := stop.isNone }
  let s1 := { s with xl.faults := s.xl.faults ++ [e] }
  if stop.isSome then s1 else s1.logFault ctx source [(24, 8, va), (22, 2, ctx), (20, 2, fid), (19, 1, cause), (18, 1, acc)]

/-- A faulting access opens or joins an entry: the FID, or none where no entry is free (R135). -/
def State.openFault (s : State) (ctx va cause acc source : Nat) : State × Option Nat :=
  match s.faultFor ctx va cause with
  | some f => (s, some f.fid)
  | none =>
    match s.freeFid ctx with
    | some fid => (s.newFault ctx fid va cause acc source none, some fid)
    | none => (s, none)

/-- An entry freed: walks that ended in it go, and those who wait for a free entry hear of it (R135, R140). -/
def State.freeFault (s : State) (ctx fid : Nat) : State :=
  let s1 := { s with xl.faults := s.xl.faults.filter (fun f => !(f.ctx == ctx && f.fid == fid)),
                     xl.walks := s.xl.walks.filter (fun w => !(w.ctx == ctx && w.fid == some fid)) }
  if s1.due (fun e => e == .faultEntryWaitFree ctx) then s1 else s1.send (.faultEntryWaitFree ctx)

/-- A walk ends in a fault: its entry opens, or it waits for one (R135). The Reeve's own walks have no context to open one in (log 13). -/
def State.failWalk (s : State) (w : Walk) (cause fattr : Nat) : State :=
  if w.ctx = 0xFFFF then s.updWalk w.id (fun w => { w with fault := some cause })
  else
    let r := s.openFault w.ctx w.va cause w.acc (srcXlate w.stack)
    r.1.updWalk w.id (fun w => { w with fault := some cause, fid := r.2, fattr := fattr })

/-- The addresses of the entries that a walk reads, from a table on. -/
def State.walkReads (s : State) (t va : Nat) (dev : Bool) : Nat → Nat → List Nat
  | 0, _ => []
  | k + 1, table =>
    let at_ := table + 8 * bits va (20 + 9 * k) (12 + 9 * k)
    if !isMapped at_ then []
    else
      let pte := leNat (s.devBytes at_ 8)
      if !bit pte 0 || bit pte 1 || bit pte 3 then [at_]
      else at_ :: State.walkReads s t va dev k (if dev then bits pte 53 10 * 4096 else hostPa (s.tPort t) (bits pte 53 10 * 4096))

/-- A walk's reads go from the walker of its stack to the homes of its tables and back (R15, R18, R20); a root that R127 refuses is never read. -/
def State.walkOver (s : State) (w : Walk) : State × Bool :=
  let root := if bit w.va 56 then s.tPtRoot w.tenant else nget 0 s.ten.hatp w.tenant
  let base := bits root 43 0 * 4096
  if !canonical w.va || bits root 63 60 != 10 then (s, true)
  else s.reachAll (engineNode w.stack) ((s.walkReads w.tenant w.va (bit w.va 56) 5 (if bit w.va 56 then base else hostPa (s.tPort w.tenant) base)).map (fun a => lineNode (lineOf a)))

/-- PAGE_WALK_COMPLETE: the walk reads its entries, sets A and D, and installs the translation or faults (R131). -/
def State.pageWalk (s : State) (id : Nat) : State :=
  match s.xl.walks.find? (fun w => w.id == id) with
  | none => s
  | some w =>
    if w.fault.isSome then s
    else if w.ats then (if s.refuses (s.tPort w.tenant) (s.tFunc w.tenant) then s.failWalk w 0x09 0 else s)
    else
      match s.walkVa w.tenant w.va w.acc with
      | .need hs store => (s.askHalves hs store).wait (.pageWalkComplete id)
      | .fault c f =>
        let r := s.walkOver w
        if r.2 then r.1.failWalk w c f else r.1.wait (.pageWalkComplete id)
      | .ok pa attr a d upd =>
        let r := s.walkOver w
        if !r.2 then r.1.wait (.pageWalkComplete id)
        else
          match upd with
          | some (at_, v) =>
            if r.1.storeReady at_ 8 then ((r.1.devStore at_ (leBytes 8 v) none).installTlb w.stack w.tenant w.va pa 12 attr a d).dropWalk id
            else (r.1.storeNeed at_ 8).wait (.pageWalkComplete id)
          | none => (r.1.installTlb w.stack w.tenant w.va pa 12 attr a d).dropWalk id

/-- A page request for an ATS walk's fault entry (R142), unless its interface has left RUN (R91). -/
def State.pageRequest (s : State) (w : Walk) (ctx fid : Nat) : State :=
  let prg := s.ctl.nextId
  let s1 := { s.bump with xl.faults := s.xl.faults.map (fun (f : FaultEnt) => if f.ctx = ctx ∧ f.fid = fid then { f with prg := some prg } else f) }
  if s.refuses (s.tPort w.tenant) (s.tFunc w.tenant) then s1 else s1.toHost (.pageRequest prg (s.tPasid w.tenant) (w.va / 4096 * 4096) (accWrites w.acc))

/-- An ATS walk ends in a fault: its entry opens, with a page request of its own where a permission is missing, or it waits for one (R135, R142). -/
def State.failAts (s : State) (k : Walk) (cause : Nat) : State :=
  if k.ctx = 0xFFFF then s.updWalk k.id (fun x => { x with fault := some cause })
  else
    let fresh := (s.faultFor k.ctx k.va cause).isNone
    let q := s.openFault k.ctx k.va cause k.acc (srcPort (s.tPort k.tenant))
    let s1 := q.1.updWalk k.id (fun x => { x with fault := some cause, fid := q.2 })
    match q.2 with
    | some fid => if fresh && cause != 0x06 then s1.pageRequest k k.ctx fid else s1
    | none => s1

/-- ATS_TRANSLATION_COMPLETION: a translation, or a page request for the fault entry (R142, R408), or NOMAP for an address beyond the port's (R128); discarded and asked again when an overlapping
invalidation came in meanwhile (R143). -/
def State.atsComplete (s : State) (id : Nat) (r w : Bool) (pa size : Nat) : State :=
  match s.xl.walks.find? (fun x => x.id == id) with
  | none => s
  | some k =>
    if !k.ats || k.fault.isSome then s
    else if k.again then
      (s.updWalk id (fun x => { x with again := false })).toHost (.translate id (s.tPasid k.tenant) k.va (accWrites k.acc))
    else
      let attr : PAttr := { fattr := 0, stbl := false, uncached := false, size := size, r := r, w := w, x := r }
      let addr := hostPa (s.tPort k.tenant) (pa / 2 ^ size * 2 ^ size + k.va % 2 ^ size)
      if permits attr k.acc && isMapped addr then (s.installTlb k.stack k.tenant k.va addr (min size 12) attr true w).dropWalk id
      else s.failAts k (if permits attr k.acc then 0x06 else if r || w then 0x03 else 0x02)

/-- The decoding form in the poison tag of a load (R137): 0 for a load that never decodes, else FATTR of the leaf that the walk faulted at, or 0xFF where it gives no
format (DESIGN CHOICE, log 45). -/
def State.tagFmt (s : State) (decodes : Bool) (size walk : Nat) : Nat :=
  if !decodes || 2 < size then 0
  else
    match s.xl.walks.find? (fun w => w.id == walk) with
    | some w => if w.fattr = 0 then 0xFF else w.fattr
    | none => 0xFF

/-- FAULT_ENTRY_WAIT_FREE: walks that found no free entry open theirs while one is free, an ATS walk with its page request (R135, R142); threads that wait for one may start
again. The entry of an access that traps opens so too, from its kept walk, before its thread translates again (DESIGN CHOICE, log 105). -/
def State.entryFreed (s : State) (ctx : Nat) : State :=
  let s1 := (s.xl.walks.filter (fun w => w.ctx == ctx && w.fault.isSome && w.fid.isNone)).foldl
    (fun (s : State) w => match w.fault with
      | some c => if w.ats && c != 0x09 then s.failAts w c else s.failWalk w c w.fattr
      | none => s) s
  { s1 with core.gangs := s1.core.gangs.map (fun g => if g.ctx = ctx then
      { g with threads := g.threads.map (fun t => if t.hold = .noEntry then { t with hold := .none, stamp := s.ctl.freeCtr } else t) } else g) }

end Sys2Proof.Machine
end

