-- ==== Sys2Proof/Machine/Coherence.lean ====
section
/-! DEFINITION. Store entries, the L1, the L2 slices and their directories, the homes' side of stores, acknowledgements and releases (R93 to R108, R149 to R156, R160, R161).
Each message of the protocol is one event; events on one line at one place happen in the order their messages were sent. -/

namespace Sys2Proof.Machine

open Sys2Proof

/-! ## L1 -/

/-- The L1 line of a core that an access with a world tag can hit (R81). -/
def State.l1At (s : State) (core line tag : Nat) : Option L1Line :=
  s.coh.l1.find? (fun l => l.core == core && l.line == line && l.wtag == tag)

/-- s with the L1 line of a core changed. -/
def State.updL1 (s : State) (core line : Nat) (f : L1Line → L1Line) : State :=
  { s with coh.l1 := s.coh.l1.map (fun l => if l.core = core ∧ l.line = line then f l else l) }

/-- Forwarding entries of a line in a core end, but for those whose update has still to come (R97, R98). -/
def State.endFwd (s : State) (core line : Nat) : State :=
  { s with coh.fwd := s.coh.fwd.filter (fun f => !(f.core == core && f.line == line) || s.due (fun e => e == .l1Update core f.tx || e == .dirStore f.tx)) }

/-- The L1 line goes to I: queued updates are discarded, forwarding entries end. -/
def State.dropL1 (s : State) (core line : Nat) : State :=
  ({ s with coh.l1 := s.coh.l1.filter (fun l => !(l.core == core && l.line == line)) }).endFwd core line

/-- An eviction notice goes to the slice or bank group (R99). -/
def State.notice (s : State) (core line : Nat) : State := s.send (.dirEvictionNotice core line)

/-- A patch over the data and poison of a line: a full word clears its poison (R106). -/
def patchData (data : List Byte) (pois : List Nat) (p : Patch) (bad : List Nat) : List Byte × List Nat :=
  (patchLine data p, (pois.filter (fun w => !(fullWords p).contains w)) ++ bad.filter (fun w => !pois.contains w || (fullWords p).contains w))

/-- Queued updates applied in arrival order until an invalidation takes the line to I (R99, R156). -/
def applyQueue : L1Line → List L1Upd → Option L1Line
  | l, [] => some l
  | l, u :: t =>
    if u.inval then none
    else
      let d := patchData l.data l.pois u.bytes u.pois
      applyQueue { l with data := d.1, pois := d.2 } t

/-- RD of a line has become 0 (R99): V applies its queue, F goes to I. -/
def State.rdZero (s : State) (l : L1Line) : State :=
  if l.frozen then s.dropL1 l.core l.line
  else
    match applyQueue { l with queue := [] } l.queue with
    | none => s.dropL1 l.core l.line
    | some l' =>
      let s1 := s.updL1 l.core l.line (fun _ => l')
      { s1 with coh.fwd := s1.coh.fwd.filter (fun f => !(f.core == l.core && f.line == l.line && l.queue.any (fun u => u.tx == f.tx))) }

/-- Bit g of RD clears in every line of a core's L1 (R99). -/
def State.clearRd (s : State) (core slot : Nat) : State :=
  (s.coh.l1.filter (fun l => l.core == core && bit l.rd slot)).foldl (fun (s : State) l =>
    let l' : L1Line := { l with rd := setBit l.rd slot false }
    let s1 := s.updL1 core l.line (fun _ => l')
    if l'.rd = 0 then s1.rdZero l' else s1) s

/-- A lane's phase boundary, or the end of its thread, clears its bit of the gang slot's lane mask; RD follows when the mask is 0 (R99). -/
def State.clearLoaded (s : State) (core slot lane : Nat) : State :=
  let s1 := s.updThread core slot lane (fun t => { t with loaded := false })
  match s1.gang core slot with
  | some g => if g.threads.any (fun t => t.loaded) then s1 else s1.clearRd core slot
  | none => s1

/-- acquire(h, s) of R153, once the thread's loads have returned. -/
def State.acquire (s : State) (core slot lane : Nat) : State :=
  (s.clearLoaded core slot lane).updThread core slot lane (fun t => { t with pstart := nget 0 s.coh.arr core })

/-- The thread has loads that have not returned their data (R153). -/
def State.loadsPending (s : State) (core slot lane : Nat) : Bool :=
  s.core.toks.any (fun k => k.core == core && k.lanes.any (fun l => l.slot == slot && l.lane == lane && l.vals.isNone))

/-- The thread has strong loads that have not returned (R160). -/
def State.strongPending (s : State) (core slot lane : Nat) : Bool :=
  s.core.toks.any (fun k => k.strong && k.core == core && k.lanes.any (fun l => l.slot == slot && l.lane == lane && l.vals.isNone))

/-- What a plain load of a lane finds in an L1 line (R99, R155): the data and poison, or none when the slice must serve it. -/
def l1View (l : L1Line) (slot pstart : Nat) : Option (List Byte × List Nat) :=
  if l.frozen && (!bit l.rd slot || decide (l.recNo < pstart)) then none
  else
    match applyQueue l (l.queue.filter (fun u => decide (u.arr < pstart))) with
    | some x => some (x.data, x.pois)
    | none => none

/-- Updates in a core's deferral buffer, which holds 32 (R99). -/
def State.deferred (s : State) (core : Nat) : Nat :=
  (s.coh.l1.filter (fun l => l.core == core)).foldl (fun n l => n + l.queue.length) 0

/-- An update enters the deferral buffer with the next arrival number (R155). -/
def State.defer (s : State) (core line tx : Nat) (inval : Bool) (p : Patch) (pois : List Nat) : State :=
  let n := nget 0 s.coh.arr core
  let u : L1Upd := { arr := n, tx := tx, inval := inval, bytes := p, pois := pois }
  State.updL1 { s with coh.arr := nset 0 s.coh.arr core (n + 1) } core line (fun l => { l with queue := l.queue ++ [u] })

/-- The line freezes: the deferral buffer is full (R99, R155). -/
def State.freeze (s : State) (core line : Nat) : State :=
  (s.updL1 core line (fun l => { l with frozen := true, recNo := nget 0 s.coh.arr core })).notice core line

/-- The forwarding entry of an update ends. -/
def State.endFwdTx (s : State) (core tx : Nat) : State :=
  { s with coh.fwd := s.coh.fwd.filter (fun f => !(f.core == core && f.tx == tx)) }

/-- A forwarding entry leaves the 16 of its gang slot: its update waits with the L1 line, or the line is in F (R97). -/
def State.letFwd (s : State) (core tx : Nat) : State :=
  { s with coh.fwd := s.coh.fwd.map (fun f => if f.core = core ∧ f.tx = tx then { f with held := false } else f) }

/-- The update of a store does not go to its own core: its entry ends, or stays until the core's line goes to I (R97, R98). -/
def State.fwdAway (s : State) (core line tx : Nat) : State :=
  if s.coh.l1.any (fun l => l.core == core && l.line == line) then s.letFwd core tx else s.endFwdTx core tx

/-- The bytes of a store that the slice of a die lets through to its L1 sharers: not those of its own unacknowledged stores (R152). -/
def Tx.through (t : Tx) (slice : Nat) : Patch :=
  let mine := t.cuts.flatMap (fun c => if c.1 = slice then c.2 else [])
  t.bytes.filter (fun e => !mine.contains e.1)

/-- L1_UPDATE (R99): the update reaches a core's L1, which applies, queues or refuses it, and acknowledges. -/
def State.l1Update (s : State) (core id : Nat) : State :=
  match s.tx id with
  | none => s
  | some t =>
    let s0 := if t.core = core then s.updTx id (fun t => { t with l1 := true }) else s
    let p := t.through (sliceFor (stackOf core) t.line)
    match s0.l1At core t.line t.world with
    | none => (s0.endFwdTx core id).send (.dirAck id core false)
    | some l =>
      if l.frozen then (s0.letFwd core id).send (.dirAck id core false)
      else if l.rd = 0 then
        let d := patchData l.data l.pois p t.pois
        ((s0.updL1 core t.line (fun l => { l with data := d.1, pois := d.2 })).endFwdTx core id).send (.dirAck id core true)
      else if s0.deferred core < 32 then ((s0.defer core t.line id false p t.pois).letFwd core id).send (.dirAck id core true)
      else ((s0.freeze core t.line).letFwd core id).send (.dirAck id core false)

/-- L1_INVALIDATION (R156). -/
def State.l1Invalidation (s : State) (core line id : Nat) : State :=
  match s.coh.l1.find? (fun l => l.core == core && l.line == line) with
  | none => s.send (.dirAck id core false)
  | some l =>
    if l.frozen then s.send (.dirAck id core false)
    else if l.rd = 0 then (s.dropL1 core line).send (.dirAck id core true)
    else if s.deferred core < 32 then (s.defer core line id true [] []).send (.dirAck id core true)
    else (s.freeze core line).send (.dirAck id core false)

/-! ## Directories (R100 to R102) -/

/-- A sharer is registered; unit is how many sharers one coarse bit stands for, width the pointers it maps. -/
def dirAdd (d : Dir) (c per : Nat) : Dir :=
  if d.coarse then { d with cvec := setBit d.cvec (c / per) true }
  else if d.ptrs.contains c then d
  else if d.ptrs.length < 4 then { d with ptrs := d.ptrs ++ [c] }
  else { coarse := true, ptrs := [], cvec := (c :: d.ptrs).foldl (fun v x => setBit v (x / per) true) 0 }

/-- A sharer's eviction notice: removed from pointer form, ignored in coarse form. -/
def dirRemove (d : Dir) (c : Nat) : Dir := if d.coarse then d else { d with ptrs := d.ptrs.filter (fun x => x != c) }

/-- The entry as R100 lays it out. -/
def dirBits (d : Dir) : Nat :=
  if d.coarse then 2 ^ 35 + d.cvec
  else d.ptrs.length * 2 ^ 32 + ((List.range d.ptrs.length).zip d.ptrs).foldl (fun n e => n + e.2 * 2 ^ (7 * e.1)) 0

/-- The copy of a line in a slice: shared ways for world 0x7F, else the ways of that world. -/
def State.l2At (s : State) (slice line world : Nat) : Option L2Line :=
  s.coh.l2.find? (fun l => l.slice == slice && l.line == line && l.world == world)

/-- s with a slice's copy changed. -/
def State.updL2 (s : State) (slice line world : Nat) (f : L2Line → L2Line) : State :=
  { s with coh.l2 := s.coh.l2.map (fun l => if l.slice = slice ∧ l.line = line ∧ l.world = world then f l else l) }

/-- s without a slice's copy. -/
def State.dropL2 (s : State) (slice line world : Nat) : State :=
  { s with coh.l2 := s.coh.l2.filter (fun l => !(l.slice == slice && l.line == line && l.world == world)) }

/-- The home's directory registers a slice (R102). -/
def State.hdirAdd (s : State) (line slice : Nat) : State :=
  { s with coh.hdir := tset s.coh.hdir line (dirAdd ((tget s.coh.hdir line).getD noDir) slice 8) }

/-- The home's directory loses a slice that has dropped its copy; the entry goes with the last, in coarse form too (R102). -/
def State.hdirRemove (s : State) (line slice : Nat) : State :=
  match tget s.coh.hdir line with
  | some d =>
    let d' := dirRemove d slice
    let empty := if d'.coarse then !s.coh.l2.any (fun l => l.line == line && l.world == 0x7F) else d'.ptrs.isEmpty
    { s with coh.hdir := if empty then tdel s.coh.hdir line else tset s.coh.hdir line d' }
  | none => s

/-- A slice is invalidating its copy of a line. -/
def State.invalBusy (s : State) (slice line : Nat) : Bool := s.coh.txs.any (fun t => t.inval && t.line == line && t.slice == slice)

/-- The last acknowledgement of an invalidation: the slice's copy goes, and the home forgets the slice; of a Cellar line the bank group's directory entry goes (R101, R102). -/
def State.invalDone (s : State) (t : Tx) : State :=
  let s1 := { s with coh.txs := s.coh.txs.filter (fun u => u.id != t.id) }
  if t.slice < 96 then (s1.dropL2 t.slice t.line t.world).hdirRemove t.line t.slice
  else if isCellar (128 * t.line) then { s1 with coh.cdir := tdel s1.coh.cdir t.line } else s1

/-- A slice's shared copy is invalidated at every sharer (R101); with no sharer the line goes at once. -/
def State.sharedInval (s : State) (slice line : Nat) : State :=
  match s.l2At slice line 0x7F with
  | none => s
  | some l =>
    if s.invalBusy slice line then s
    else
      let cs := dirCores (slice / 32) l.dir
      let id := s.ctl.nextId
      let t := { blankTx id line [] with inval := true, slice := slice, own := cs }
      if cs.isEmpty then s.invalDone t
      else { s.bump with coh.txs := s.coh.txs ++ [t] }.sendAll (cs.map (fun c => .l1Invalidation c line id))

/-! ## World lines (R80 to R84, R104) -/

/-- A slice's world line is sealed and written back to its home (R82); shared copies of what the line was go (R84). -/
def State.sealBack (s : State) (l : L2Line) : State :=
  match s.worldKey l.world with
  | some (slot, key) =>
    let c := sealLine key l.line slot l.data
    let s1 := ((s.destWrite l.line).srcWriteNow l.line).snoopHost l.line [(0, 0), (64, 0)]
    let s2 := { s1 with mem := Memory.putAll s1.mem (128 * l.line) c.1, mm.sealed := tset s1.mm.sealed l.line (slot, c.2) }
    let s3 := ((List.range 16).foldl (fun (s : State) w => s.setPoison (16 * l.line + w) (l.pois.contains w)) s2).mscDirty l.line
    let s4 := (s3.dirtyHalves l.line [(0, 0), (64, 0)]).updL2 l.slice l.line l.world (fun l => { l with dirty := false })
    (s4.coh.l2.filter (fun x => x.line == l.line && x.world == 0x7F)).foldl (fun (s : State) x => s.sharedInval x.slice x.line) s4
  | none => s

/-- A world line leaves its slice, and its L1 copies are invalidated. -/
def State.dropWorldLine (s : State) (l : L2Line) : State :=
  let cs := dirCores (l.slice / 32) l.dir
  let id := s.ctl.nextId
  let t := { blankTx id l.line [] with inval := true, slice := l.slice, own := cs, world := l.world }
  let s1 := s.dropL2 l.slice l.line l.world
  if cs.isEmpty then s1 else { s1.bump with coh.txs := s1.coh.txs ++ [t] }.sendAll (cs.map (fun c => .l1Invalidation c l.line id))

/-- Halves of a host line that the package does not own. -/
def State.unowned (s : State) (line : Nat) : List Nat :=
  if isHost (128 * line) then [2 * line, 2 * line + 1].filter (fun h => s.half h == .I || s.half h == .S) else []

/-- WORLD_LINE_HANDOVER (R84, R104): the slice seals the line, writes it back, and drops it with its L1 copies. A clean line that memory holds sealed is there
already; a host line's halves must be the package's (R38). -/
def State.handOver (s : State) (slice line : Nat) : State :=
  match s.coh.l2.find? (fun l => l.slice == slice && l.line == line && l.world != 0x7F) with
  | none => s
  | some l =>
    if !l.dirty && (tget s.mm.sealed line).isSome then s.dropWorldLine l
    else if !(s.unowned line).isEmpty then (s.askHalves (s.unowned line) true).wait (.worldLineHandover slice line)
    else (s.sealBack l).dropWorldLine l

/-- A line as a world reads it: from its ways, else opened at its home; none where that is an integrity failure (R83). -/
def State.worldLine (s : State) (w line : Nat) : Option (List Byte × List Nat) :=
  if isCellar (128 * line) then some (s.cellarLine line w) else
  match s.coh.l2.find? (fun l => l.line == line && l.world == w) with
  | some l => some (l.data, l.pois)
  | none =>
    let h := s.homeLine line
    match h.2.2, s.worldKey w with
    | none, _ => some (h.1, h.2.1)
    | some (sl, mac), some (slot, key) => if sl = slot then (openLine key line slot mac h.1).map (fun d => (d, h.2.1)) else none
    | some _, none => none

/-- Bytes that the device stores into a line on behalf of a world (R79, R81): the line leaves the world's ways, and is stored sealed with the bytes in it; a Cellar line takes
them and the world's tag at its bank group. A store that R84 drops is dropped, and one into a line that fails its check is an integrity failure (R83). -/
def State.worldPut (s : State) (w line : Nat) (p : Patch) : State :=
  let id := s.ctl.nextId
  let t := { blankTx id line p with world := w, tenant := match tget s.ten.worlds w with | some x => s.tenantOfCtx x.ctx | none => 0xFFFE }
  match s.outsider t with
  | some v => { s with ctl.sealDue := s.ctl.sealDue ++ [(128 * line, v, t.tenant)] }
  | none =>
    if isCellar (128 * line) then { s.bump with coh.txs := s.coh.txs ++ [t] }.send (.dirStore id)
    else
      match if p.length = 128 then some (zeros 128, []) else s.worldLine w line with
      | none => { s with ctl.integDue := s.ctl.integDue ++ [(w, 128 * line)] }
      | some d =>
        let q := patchData d.1 d.2 p []
        let s1 := (s.coh.l2.filter (fun l => l.line == line && l.world == w)).foldl (fun (s : State) l => s.dropWorldLine l) s
        s1.sealBack { slice := 96, line := line, way := 8, world := w, data := q.1, pois := q.2, dir := noDir, dirty := true }

/-- A store by the device for a world (R79); 0x7F: for none. -/
def State.putAs (s : State) (w pa : Nat) (bytes : List Byte) : State :=
  if w = 0x7F then s.devStore pa bytes none
  else (linesOf pa bytes.length).foldl (fun (s : State) l =>
    let lo := max pa (128 * l)
    s.worldPut w l (patchOf (lo % 128) ((bytes.drop (lo - pa)).take (min (pa + bytes.length) (128 * l + 128) - lo)))) s

/-- A read by the device for a world: lines that fail their check are integrity failures (R83). -/
def State.checkAs (s : State) (w pa n : Nat) : State :=
  if w = 0x7F then s
  else { s with ctl.integDue := s.ctl.integDue ++ ((linesOf pa n).filter (fun l => (s.worldLine w l).isNone)).map (fun l => (w, 128 * l)) }

/-- n bytes read by the device for a world (R79); checkAs ends the world where one fails its check, so that nothing comes of them (R83). -/
def State.bytesAs (s : State) (w pa n : Nat) : List Byte :=
  if w = 0x7F then s.devBytes pa n
  else (((linesOf pa n).flatMap (fun l => (((s.worldLine w l).map (fun d => d.1)).getD (zeros 128)))).drop (pa % 128)).take n

/-- INTEG is logged, once for a line, and the world ends abnormally (R83, R89). -/
def State.integrity (s : State) (source world pa : Nat) : State :=
  match tget s.ten.worlds world with
  | some w =>
    if w.failed.contains (pa / 128) then s
    else
      let s1 : State := { s with ten.worlds := tset s.ten.worlds world { w with failed := pa / 128 :: w.failed } }
      let s2 := s1.logTenant (some (s.tenantOfCtx w.ctx)) source 0x31 3 [(24, 8, pa), (22, 2, world)]
      s2.sendAbort world 6
  | none => s

/-! ## The ways of a slice (R80, R107) -/

/-- The free aligned way groups of a slice, lowest first (R80). -/
def State.freeWays (s : State) (slice ways : Nat) : List Nat :=
  let taken := s.ten.worlds.flatMap (fun e => (e.2.groups.filter (fun g => g.1 == slice)).map (fun g => (g.2, e.2.ways)))
  ((List.range (8 / max ways 1)).map (fun i => 8 + ways * i)).filter (fun w => taken.all (fun t => decide (w + ways ≤ t.1) || decide (t.1 + t.2 ≤ w)))

/-- A world has its ways in a cluster's slice, or can take them (R80). -/
def State.waysOk (s : State) (world slice : Nat) : Bool :=
  if world = 0x7F then true
  else
    match tget s.ten.worlds world with
    | some w => w.groups.any (fun g => g.1 == slice) || !(s.freeWays slice w.ways).isEmpty
    | none => false

/-- The world takes its ways in a slice: at its first bind on the cluster (R80), or with the first line it fills there (DESIGN CHOICE, log 78). -/
def State.takeWays (s : State) (world slice : Nat) : State :=
  match tget s.ten.worlds world with
  | some w =>
    if w.groups.any (fun g => g.1 == slice) then s
    else
      match s.freeWays slice w.ways with
      | f :: _ => { s with ten.worlds := tset s.ten.worlds world { w with groups := w.groups ++ [(slice, f)] } }
      | [] => s
  | none => s

/-- A store or atomic that a slice has passed on is not at the home yet: the slice does not fetch the line before it is. -/
def State.homePending (s : State) (slice line : Nat) : Bool :=
  s.coh.txs.any (fun t => t.slice == slice && t.line == line && !t.inval && !t.atHome && !t.drop && !s.due (fun e => e == .dirStore t.id))

/-- A line of a slice is used under a cache policy (R107, R325): it becomes the most recently used of its ways, or the least, for LAST and where STREAM or NOALLOC fills
it. -/
def State.l2Use (s : State) (slice line world cp : Nat) (fill : Bool) : State :=
  match s.l2At slice line world, s.wayGroup slice world with
  | some l, some g =>
    let k := (slice, 16 * l2Set line + g.1)
    let recent := !(cp == 3 || (fill && (cp == 1 || cp == 2)))
    { s with coh.plru := tset s.coh.plru k (plruMark recent (l.way - g.1) g.2 1 ((tget s.coh.plru k).getD 0)) }
  | _, _ => s

/-- A way for a line that a slice is to fill: an invalid one; else the pseudo-least recently used that is not pinned is sent out as a victim, and the fill waits
(R107). -/
def State.l2Room (s : State) (slice line world : Nat) : State × Option Nat :=
  match s.wayGroup slice world with
  | none => (s.takeWays world slice, none)
  | some g =>
    let here := s.coh.l2.filter (fun l => l.slice == slice && l2Set l.line == l2Set line && decide (g.1 ≤ l.way) && decide (l.way < g.1 + 2 ^ g.2))
    match (List.range (2 ^ g.2)).find? (fun w => !here.any (fun l => l.way == g.1 + w)) with
    | some w => (s, some (g.1 + w))
    | none =>
      if here.any (fun l => s.invalBusy slice l.line || s.due (fun e => e == Ev.l2Victim slice l.line l.world)) then (s, none)
      else
        let t := (tget s.coh.plru (slice, 16 * l2Set line + g.1)).getD 0
        match (plruPick (fun w => here.any (fun l => l.way == g.1 + w && !s.pinned l.line)) t g.2 1 0).bind (fun w => here.find? (fun l => l.way == g.1 + w)) with
        | some l => (s.send (.l2Victim slice l.line l.world), none)
        | none => (s, none)

/-! ## Reads at the slice, bank group or home -/

/-- A read served through alias entries raises their READS, and queues hot ones (R121). -/
def State.countReads (s : State) (line : Nat) : State :=
  (s.aliasesOn line).foldl (fun (s : State) e =>
    let r := min 255 (e.reads + 1)
    let hit := s.ali.hot != 0 && r == s.ali.hot && !e.hot
    let s1 := { s with ali.entries := s.ali.entries.map (fun x => if sameAlias x e then { x with reads := r, hot := x.hot || hit } else x) }
    if hit then
      { s1 with ali.queue := s1.ali.queue ++ [(e.home, e.dbase)] }.send (.hotMaterialise e.home)
    else s1) s

/-- What a fetch of a line comes to: the copy is there, something must come first, or it never comes (an integrity failure, R83). -/
inductive Fetch where
  | ok
  | wait
  | dead
deriving DecidableEq, Repr

/-- Fetch of a line by a slice from its home for a tag under a cache policy. It waits for a hand-over or an invalidation under way, for its way there and back (R15, R18, R20,
R28), for the home's MSC slice, for halves of host memory, and for a way; the state of a wait carries the requests. A reader outside the world has a world's destination materialised first (R85). -/
def State.sliceFill (s : State) (slice line world cp : Nat) : State × Fetch :=
  match s.coh.l2.find? (fun l => l.line == line && l.world != 0x7F && !(l.world == world && l.slice == slice)) with
  | some l => (if s.due (fun e => e == .worldLineHandover l.slice line) then s else s.send (.worldLineHandover l.slice line), .wait)
  | none =>
    if (s.l2At slice line world).isSome then
      if s.invalBusy slice line then (s, .wait) else (s.l2Use slice line world cp false, .ok)
    else if s.homePending slice line || s.coh.txs.any (fun t => t.inval && t.line == line && (t.slice == slice || t.world != 0x7F)) then (s, .wait)
    else if s.way (384 + slice) (homeNode line) = .cut then ({ s with ctl.cut := true }, .wait)
    else if s.way (384 + slice) (homeNode line) = .blocked then (s, .wait)
    else
      let s0 := if world == 0x7F && (s.aliasesOn line).any (fun e => e.wtag != 0x7F) then s.destWrite line else s
      let m := s0.mscFill line
      let missing := m.1.halvesMissing (128 * line) 128 false
      if !m.2 then (m.1, .wait)
      else if !missing.isEmpty then (m.1.askHalves missing false, .wait)
      else
        match if world = 0x7F then none else m.1.aliasFails line with
        | some f => (m.1.integrity (srcSlice slice) world f.2, .dead)
        | none =>
          let r := m.1.l2Room slice line world
          match r.2 with
          | none => (r.1, .wait)
          | some way =>
            let q := r.1.reach (384 + slice) (homeNode line)
            if !q.2 then (q.1, .wait) else
            let h := q.1.homeLine line
            let s1 := q.1.countReads line
            let put (data : List Byte) (pois : List Nat) : State × Fetch :=
              let l : L2Line := { slice := slice, line := line, world := world, way := way, dirty := false, data := data, pois := pois, dir := noDir }
              let s2 : State := { s1 with coh.l2 := s1.coh.l2 ++ [l] }
              ((if world = 0x7F then s2.hdirAdd line slice else s2).l2Use slice line world cp true, .ok)
            if world = 0x7F then put h.1 h.2.1
            else
              match h.2.2, s.worldKey world with
              | none, _ => put h.1 h.2.1
              | some (sl, mac), some (slot, key) =>
                if sl = slot then
                  match openLine key line slot mac h.1 with
                  | some p => put p h.2.1
                  | none => (s1.integrity (srcSlice slice) world (128 * line), .dead)
                else (s1.integrity (srcSlice slice) world (128 * line), .dead)
              | some _, none => (s, .dead)

/-- A read of a Cellar line at its bank group from some place, once its way is clear (R15, R18, R96). -/
def State.bankRead (s : State) (node line world : Nat) : State × Option (List Byte × List Nat) :=
  let q := s.reach node (lineNode line)
  (q.1, if q.2 then some (q.1.cellarLine line world) else none)

/-- A read at the slice of a die, uncached at the core, or at the bank group from some place (R99, R158). -/
def State.sliceRead (s : State) (node stack line world cp : Nat) : State × Option (List Byte × List Nat) :=
  if isCellar (128 * line) then s.bankRead node line world
  else
    let r := s.sliceFill (sliceFor stack line) line world cp
    match r.2 with
    | .ok => (r.1, (r.1.l2At (sliceFor stack line) line world).map (fun l => (l.data, l.pois)))
    | _ => (r.1, none)

/-- A read of n bytes of a line at the home or bank group (R158 at PACKAGE and SYSTEM, R162) from some place of a stack, once its way is clear, which asks the host for no more than the halves they lie in (R38): a
world's own line is read where it is held; a line in another's ways is handed over first (R84), and a world's destination materialised (R85). -/
def State.homeRead (s : State) (node stack line world off n : Nat) : State × Option (List Byte × List Nat) :=
  if isCellar (128 * line) then s.bankRead node line world
  else if world != 0x7F then s.sliceRead node stack line world 0
  else
    match s.worldHolder line 0x7F with
    | some l => (if s.due (fun e => e == .worldLineHandover l.slice line) then s else s.send (.worldLineHandover l.slice line), none)
    | none =>
      if s.way node (lineNode line) = .cut then ({ s with ctl.cut := true }, none)
      else if s.way node (lineNode line) = .blocked then (s, none)
      else
      let s0 := if (s.aliasesOn line).any (fun e => e.wtag != 0x7F) then s.destWrite line else s
      let m := s0.mscFill line
      let missing := m.1.halvesMissing (128 * line + off) n false
      if !m.2 then (m.1, none)
      else if !missing.isEmpty then (m.1.askHalves missing false, none)
      else
        let q := m.1.reach node (lineNode line)
        if !q.2 then (q.1, none)
        else
          let h := q.1.homeLine line
          (q.1.countReads line, some (h.1, h.2.1))

/-- DIR_READ_MISS (R101): the slice or bank group registers the core and sends the line. A core of another stack reads a Cellar line
uncached (R96). -/
def State.readMiss (s : State) (core line tag cp : Nat) : State :=
  let stack := stackOf core
  if isCellar (128 * line) then
    if s.coh.txs.any (fun t => t.inval && t.line == line) then s.wait (.dirReadMiss core line tag cp) else
    let d := s.cellarLine line tag
    if cellarColumn (128 * line) / 32 = stack then
      let s1 : State := { s with coh.cdir := tset s.coh.cdir line (dirAdd ((tget s.coh.cdir line).getD noDir) (core % 128) 4) }
      s1.send (.l1FillReturn core line tag cp true d.1 d.2)
    else s.send (.l1FillReturn core line tag cp false d.1 d.2)
  else
    let slice := sliceFor stack line
    let r := s.sliceFill slice line tag cp
    match r.2, r.1.l2At slice line tag with
    | .ok, some l =>
      (r.1.updL2 slice line tag (fun l => { l with dir := dirAdd l.dir (core % 128) 4 })).send (.l1FillReturn core line tag cp true l.data l.pois)
    | .wait, _ => r.1.wait (.dirReadMiss core line tag cp)
    | _, _ => r.1

/-- DIR_EVICTION_NOTICE (R101). -/
def State.evictionNotice (s : State) (core line : Nat) : State :=
  if isCellar (128 * line) then
    match tget s.coh.cdir line with
    | some d => { s with coh.cdir := tset s.coh.cdir line (dirRemove d (core % 128)) }
    | none => s
  else
    { s with coh.l2 := s.coh.l2.map (fun l =>
        if l.slice = sliceFor (stackOf core) line ∧ l.line = line then { l with dir := dirRemove l.dir (core % 128) } else l) }

/-! ## Atomics (R329, R330) -/

/-- The 64-bit element type codes of R279 (S64, N64, F64). -/
def tyWide (ty : Nat) : Bool := ty == 2 || ty == 3 || ty == 5
/-- The signed ones (S32, S64). -/
def tySigned (ty : Nat) : Bool := ty == 0 || ty == 2

/-- The element's new value; fadd is the addition of R294 for F32 and F64. -/
def atomNew (fadd : Nat → Nat → Nat → Nat) (a : AtomOp) (m : Nat) : Nat :=
  let w := if tyWide a.ty then 64 else 32
  let less : Bool := if tySigned a.ty then decide (asInt w m < asInt w a.x) else decide (m < a.x)
  match a.aop with
  | 0 => (m + a.x) % 2 ^ w
  | 1 => if less then m else a.x
  | 2 => if less then a.x else m
  | 3 => m &&& a.x
  | 4 => m ||| a.x
  | 5 => m ^^^ a.x
  | 6 => a.x
  | 7 => fadd a.ty m a.x
  | _ => if m = a.x then a.y else m

/-- The patch an atomic makes of the line it finds, and the old element. -/
def atomPatch (fadd : Nat → Nat → Nat → Nat) (a : AtomOp) (data : List Byte) : Patch × Nat :=
  let n := if tyWide a.ty then 8 else 4
  let m := fieldOf data a.off n
  (patchOf a.off (leBytes n (atomNew fadd a m)), m)

/-- An atomic is performed: its transaction carries the bytes, and the thread's forwarding entry the result (R98). -/
def State.atomDone (s : State) (t : Tx) (p : Patch) (old : Nat) : State :=
  let s1 := s.updTx t.id (fun t => { t with bytes := p, done := some old })
  { s1 with coh.fwd := s1.coh.fwd ++ [{ core := t.core, slot := t.slot, lane := t.lane, line := t.line, bytes := p, tx := t.id, held := false, pois := [] }] }

/-- An atomic at a scope below PACKAGE is performed at the slice (R161). -/
def atomAtSlice (t : Tx) : Bool := match t.atom with | some a => decide (a.scope < 5) && t.world == 0x7F | none => false

/-! ## Stores -/

/-- A store is acknowledged at a scope (R149), a Cellar line of another stack at PACKAGE always (R151); a transaction no longer kept is acknowledged
everywhere. -/
def State.acked1 (s : State) (id scope : Nat) : Bool :=
  match s.tx id with
  | none => true
  | some t =>
    let far := isCellar (128 * t.line) && t.core < 384 && cellarColumn (128 * t.line) / 32 != stackOf t.core
    if far then t.ackPkg
    else if scope = 0 then true else if scope ≤ 2 then t.l1 else if scope ≤ 4 then t.ackStack else t.ackPkg

/-- A store is acknowledged at a scope only after every earlier strong store of its thread (R159). -/
def State.acked (s : State) (id scope : Nat) : Bool :=
  s.acked1 id scope &&
    (match s.tx id with
     | none => true
     | some t => !t.strong || s.coh.txs.all (fun u =>
         !(u.strong && u.core == t.core && u.slot == t.slot && u.lane == t.lane && decide (u.id < id)) || s.acked1 u.id scope))

/-- A transaction with everything acknowledged goes, and its pin (an atomic keeps its result until it has returned). -/
def State.reap (s : State) (id : Nat) : State :=
  match s.tx id with
  | some t =>
    if t.ackStack && t.ackPkg && t.l1 && (t.done.isNone || t.core ≥ 384) then
      { s with coh.txs := s.coh.txs.filter (fun u => u.id != id), coh.pins := s.coh.pins.filter (fun p => p.2 != id + 1) }
    else s
  | none => s

/-- The counts of a store are looked at: at 0 the slice acknowledges (R101, R103, R150). -/
def State.checkAcks (s : State) (id : Nat) : State :=
  match s.tx id with
  | none => s
  | some t =>
    let own := t.own.isEmpty
    let s1 := if own && t.homeDone && !t.ackPkg then s.send (.storeAck id 1)
      else if own && !t.ackStack then s.send (.storeAck id 0) else s
    s1

/-- Bytes of a line for which a slice's own stores, but for one, are still unacknowledged by the home (R152). -/
def State.ownPending (s : State) (slice line but : Nat) : List Nat :=
  (s.coh.txs.filter (fun t => t.slice == slice && t.line == line && t.id != but && !t.homeDone && !t.drop)).flatMap (fun t => t.bytes.map (fun e => e.1))

/-- DIR_STORE (R101, R103): a store, atomic or reduction reaches its slice or bank group. -/
def State.dirStore (fadd : Nat → Nat → Nat → Nat) (s : State) (id : Nat) : State :=
  match s.tx id with
  | none => s
  | some t =>
    if !(t.after.all (fun a => s.acked a.1 a.2)) then s.wait (.dirStore id)
    else if (s.outsider t).isSome && !isCellar (128 * t.line) then
      ((s.updTx id (fun t => { t with drop := true, l1 := true })).endFwdTx t.core id).send (.homeStore id)
    else if t.cp == 2 && t.world == 0x7F && !isCellar (128 * t.line) && (s.l2At t.slice t.line 0x7F).isNone && !s.invalBusy t.slice t.line then
      -- NOALLOC: forwarded to the home without a fill (R325)
      ((s.updTx id (fun t => { t with l1 := true })).fwdAway t.core t.line id).send (.homeStore id)
    else if isCellar (128 * t.line) then
      match s.outsider t with
      | some w =>
        let s1 := s.sealWr (128 * t.line) w t.tenant
        ((s1.updTx id (fun t => { t with drop := true, l1 := true, homeDone := true, done := some 0 })).endFwdTx t.core id).checkAcks id
      | none =>
        let cur := s.bytesAt (128 * t.line) 128
        let pa : Patch × Option Nat := match t.atom with
          | some a => let r := atomPatch fadd a cur; (r.1, some r.2)
          | none => (t.bytes, none)
        let s1 := match pa.2 with | some old => s.atomDone t pa.1 old | none => s
        let s2 := s1.applyPatch t.line pa.1 t.pois
        let s3 := if t.world = 0x7F then s2 else { s2 with mm.ctag := tset s2.mm.ctag t.line t.world }
        let cs := dirCores (cellarColumn (128 * t.line) / 32) ((tget s3.coh.cdir t.line).getD noDir)
        let s4 := (s3.updTx id (fun t => { t with own := cs, atHome := true, homeDone := true, l1 := t.l1 || !cs.contains t.core })).sendAll
          (cs.map (fun c => .l1Update c id))
        let s5 := if cs.contains t.core then s4 else s4.fwdAway t.core t.line id
        let s6 := if pa.2.isSome then s5.send (.atomicReturn id) else s5
        s6.checkAcks id
    else
      let held := if t.world = 0x7F then [] else s.halvesMissing (128 * t.line) 128 true
      let r := if held.isEmpty then s.sliceFill t.slice t.line t.world t.cp else (s.askHalves held true, .wait)
      match r.2, r.1.l2At t.slice t.line t.world with
        | .wait, _ => r.1.wait (.dirStore id)
        | .dead, _ => r.1
        | .ok, none => r.1
        | .ok, some l =>
          if t.atom.isSome && !atomAtSlice t && t.world == 0x7F then r.1.send (.homeStore id)
          else
            let pa : Patch × Option Nat := match t.atom with
              | some a => let q := atomPatch fadd a l.data; (q.1, some q.2)
              | none => (t.bytes, none)
            let s1 := match pa.2 with | some old => r.1.atomDone t pa.1 old | none => r.1
            let d := patchData l.data l.pois pa.1 t.pois
            let s2 := s1.updL2 t.slice t.line t.world (fun l => { l with data := d.1, pois := d.2, dirty := l.dirty || t.world != 0x7F })
            let cs := dirCores (t.slice / 32) l.dir
            let s3 := (s2.updTx id (fun x => { x with own := cs, l1 := x.l1 || !cs.contains t.core,
                                                       atHome := x.atHome || t.world != 0x7F, homeDone := x.homeDone || t.world != 0x7F })).sendAll
              (cs.map (fun c => .l1Update c id))
            let s4 := if cs.contains t.core then s3 else s3.fwdAway t.core t.line id
            let s5 := if pa.2.isSome then s4.send (.atomicReturn id) else s4
            let s6 := if t.world = 0x7F then s5.send (.homeStore id) else s5
            s6.checkAcks id

/-- HOME_STORE (R103, R118): the home takes the alias steps, applies a store or performs an atomic, and updates every other sharer. A store of a line waits while an earlier one's
updates are out (R152; log 94). An outside atomic on a world's line reads what the line is sealed to (R84). -/
def State.homeStore (fadd : Nat → Nat → Nat → Nat) (s : State) (id : Nat) : State :=
  match s.tx id with
  | none => s
  | some t =>
    if t.core = 384 && t.after.any (fun a => match s.tx a.1 with | some u => !u.atHome | none => false) then s.wait (.homeStore id)
    else if s.barred t.tenant (128 * t.line) 128 true then
      (((s.updTx id (fun t => { t with drop := true, lost := true, atHome := true, done := t.atom.map (fun _ => 0), l1 := true })).sharedInval t.slice t.line).sendAll
        (if t.atom.isSome then [.atomicReturn id, .homeAck id] else [.homeAck id]))
    else if t.drop || (s.outsider t).isSome then
      if t.atom.isSome && (s.worldHolder t.line t.world).isSome then s.giveUp (128 * t.line) 128 |>.wait (.homeStore id)
      else
      let s1 := match s.outsider t with | some w => s.sealWr (128 * t.line) w t.tenant | none => s
      let s2 := (s1.updTx id (fun t => { t with drop := true, atHome := true, done := t.atom.map (fun a => fieldOf (s.outLine t.line).1 a.off (if tyWide a.ty then 8 else 4)), l1 := true })).sharedInval t.slice t.line
      let s3 := if t.atom.isSome then s2.send (.atomicReturn id) else s2
      s3.send (.homeAck id)
    else
      let touched : Nat × Nat := match t.atom, t.bytes with
        | some a, _ => (128 * t.line + a.off, 4)
        | none, [] => (128 * t.line, 1)
        | none, e :: _ =>
          let lo := t.bytes.foldl (fun m x => min m x.1) e.1
          (128 * t.line + lo, t.bytes.foldl (fun m x => max m x.1) e.1 + 1 - lo)
      let missing := s.halvesMissing touched.1 touched.2 true
      if s.recording t.line || s.lineOpen t.line || (t.core > 384 && !s.coh.pins.contains (t.line, id + 1) && !s.pinRoom t.line) then s.wait (.homeStore id)
      else
      let s0 : State := if t.core > 384 && !s.coh.pins.contains (t.line, id + 1) then { s with coh.pins := s.coh.pins ++ [(t.line, id + 1)] } else s
      let m := s0.mscFill t.line
      if !m.2 then m.1.wait (.homeStore id)
      else if !missing.isEmpty then (m.1.askHalves missing true).wait (.homeStore id)
      else if s.coh.txs.any (fun u => u.line == t.line && u.id != id && !u.waitSrc.isEmpty) then m.1.wait (.homeStore id)
      else
        let s1 := m.1.destWrite t.line
        let deps := s1.dephHomes t.line
        if !deps.isEmpty then
          (s1.updTx id (fun t => { t with waitSrc := deps })).sendAll (deps.map (fun m => .srcw m t.line))
        else
          let pa : Patch × Option Nat := match t.atom with
            | some a => if t.done.isSome then (t.bytes, none) else let r := atomPatch fadd a (s1.bytesAt (128 * t.line) 128); (r.1, some r.2)
            | none => (t.bytes, none)
          let s2 := match pa.2 with | some old => s1.atomDone t pa.1 old | none => s1
          let s3 := (s2.applyPatch t.line pa.1 t.pois).mscDirty t.line
          let s4 := (s3.updTx id (fun t => { t with atHome := true, irq := none })).nbTake t.line pa.1
          let s5 := match pa.2, s4.l2At t.slice t.line 0x7F with
            | some _, some l =>
              let mine := (s4.ownPending t.slice t.line id)
              let d := patchData l.data l.pois (pa.1.filter (fun e => !mine.contains e.1)) []
              let cs := dirCores (t.slice / 32) l.dir
              let q := ((s4.updL2 t.slice t.line 0x7F (fun l => { l with data := d.1, pois := d.2 })).updTx id (fun t => { t with own := cs, cuts := (t.slice, mine) :: t.cuts })).sendAll
                (cs.map (fun c => .l1Update c id))
              if cs.contains t.core then q else (q.fwdAway t.core t.line id).updTx id (fun t => { t with l1 := true })
            | some _, none => (s4.fwdAway t.core t.line id).updTx id (fun t => { t with l1 := true })
            | none, _ => s4
          let s6 := if pa.2.isSome then s5.send (.atomicReturn id) else s5
          let s7 := (s6.homeUpdates { t with bytes := pa.1 }).raiseMsi t.irq
          match s7.tx id with
          | some u => if u.others.isEmpty then s7.send (.homeAck id) else s7
          | none => s7

/-- L2_HOME_UPDATE (R103, R152): a slice takes the home's update, without bytes its own unacknowledged stores write, and updates its L1
sharers. -/
def State.l2HomeUpdate (s : State) (slice id : Nat) : State :=
  match s.tx id with
  | none => s
  | some t =>
    match s.l2At slice t.line 0x7F with
    | none =>
      let s1 := s.updTx id (fun t => { t with others := t.others.filter (fun o => o.1 != slice) })
      match s1.tx id with
      | some u => if u.others.isEmpty && u.atHome then s1.send (.homeAck id) else s1
      | none => s1
    | some l =>
      let mine := s.ownPending slice t.line id
      let d := patchData l.data l.pois (t.bytes.filter (fun e => !mine.contains e.1)) t.pois
      let cs := dirCores (slice / 32) l.dir
      let s1 := s.updL2 slice t.line 0x7F (fun l => { l with data := d.1, pois := d.2 })
      if cs.isEmpty then
        let s2 := s1.updTx id (fun t => { t with others := t.others.filter (fun o => o.1 != slice) })
        match s2.tx id with
        | some u => if u.others.isEmpty && u.atHome then s2.send (.homeAck id) else s2
        | none => s2
      else
        (s1.updTx id (fun t => { t with cuts := (slice, mine) :: t.cuts, others := t.others.map (fun o => if o.1 = slice then (slice, cs) else o) })).sendAll
          (cs.map (fun c => .l1Update c id))

/-- DIR_ACK (R101): a core's acknowledgement is counted at its slice. -/
def State.dirAck (s : State) (id core : Nat) : State :=
  match s.tx id with
  | none => s
  | some t =>
    let slice := sliceFor (stackOf core) t.line
    if t.own.contains core && (t.slice == slice || isCellar (128 * t.line) || t.inval) then
      let t' := { t with own := t.own.erase core }
      let s1 := s.updTx id (fun _ => t')
      if t.inval then (if t'.own.isEmpty then s1.invalDone t' else s1)
      else if t.core ≥ 384 && t'.own.isEmpty && t'.others.isEmpty then s1.updTx id (fun t => { t with homeDone := true, ackPkg := true }) |>.reap id
      else s1.checkAcks id
    else
      let others := t.others.map (fun o => if o.1 = slice then (o.1, o.2.erase core) else o)
      let left := others.filter (fun o => !(o.1 == slice && o.2.isEmpty))
      let s1 := s.updTx id (fun t => { t with others := left })
      if left.isEmpty && t.atHome then s1.send (.homeAck id) else s1

/-- HOME_ACK (R103 step 4). -/
def State.homeAck (s : State) (id : Nat) : State :=
  match s.tx id with
  | none => s
  | some t =>
    if t.core ≥ 384 then (s.updTx id (fun t => { t with homeDone := true, ackPkg := true, ackStack := true, l1 := true })).reap id
    else (s.updTx id (fun t => { t with homeDone := true })).checkAcks id

/-- STORE_ACK (R150): the slice acknowledges to the writer's core, for CLUSTER and STACK (level 0) or for PACKAGE and SYSTEM (level 1). -/
def State.storeAck (s : State) (id level : Nat) : State :=
  (s.updTx id (fun t => if level = 0 then { t with ackStack := true } else { t with ackStack := true, ackPkg := true, l1 := true })).reap id

/-- A slice's copy is invalidated at every sharer (R101); with no sharer the line goes at once. A world's line is sealed and written back, unless memory holds it
sealed as it is (R82). -/
def State.l2Inval (s : State) (slice line world : Nat) : State :=
  match s.l2At slice line world with
  | none => s
  | some l =>
    if world = 0x7F then s.sharedInval slice line
    else if !l.dirty && (tget s.mm.sealed line).isSome then s.dropWorldLine l
    else if !(s.unowned line).isEmpty then
      if s.due (fun e => e == .worldLineHandover slice line) then s else s.send (.worldLineHandover slice line)
    else (s.sealBack l).dropWorldLine l

/-- A victim's invalidations go out (R101). -/
def State.l2Victim (s : State) (slice line world : Nat) : State := if s.pinned line then s else s.l2Inval slice line world

/-- Every slice's copy of a line is sent on its way out (R38, R102). -/
def State.purge (s : State) (line : Nat) : State :=
  (s.coh.l2.filter (fun l => l.line == line)).foldl (fun (s : State) l => s.l2Inval l.slice line l.world) s

/-- A slice holds a copy of a line, or is still invalidating one. -/
def State.l2Holds (s : State) (line : Nat) : Bool := s.coh.l2.any (fun l => l.line == line) || s.coh.txs.any (fun t => t.inval && t.line == line)

/-- The source-write steps of a line are under way: SRCW goes to every dependent home (R118), unless it has. -/
def State.askSources (s : State) (line : Nat) : State :=
  if s.ali.srcAcks.any (fun a => a.1 == line) then s
  else { s with ali.srcAcks := s.ali.srcAcks ++ [(line, s.dephHomes line)] }.sendAll ((s.dephHomes line).map (fun m => .srcw m line))

/-- MSC_VICTIM (R102, R118): the source-write steps first, then every L2 sharer is invalidated; once they are gone the line leaves the MSC slice, and the bridge gives
up the halves (R38). -/
def State.mscVictim (s : State) (line : Nat) : State :=
  if s.pinned line then s
  else if !(s.dephHomes line).isEmpty then
    (s.askSources line).wait (.mscVictim line)
  else if s.l2Holds line then (s.purge line).wait (.mscVictim line)
  else
    let s1 : State := { s with coh.msc := s.coh.msc.filter (fun m => m.line != line) }
    if isHost (128 * line) then s1.send (.bridgeMscEviction line) else s1

/-- A store leaves for its slice: a transaction is made and its message sent. -/
def State.launchTx (s : State) (t : Tx) : State :=
  ({ s.bump with coh.txs := s.coh.txs ++ [{ t with id := s.ctl.nextId }] }).send (.dirStore s.ctl.nextId)

/-- A core's L1 waits for a fill of a line, whatever its tag. -/
def State.lineComing (s : State) (core line : Nat) : Bool :=
  s.due (fun e => match e with
    | .dirReadMiss c l _ _ => c == core && l == line
    | .l1FillReturn c l _ _ _ _ _ => c == core && l == line
    | _ => false)

/-- The transaction of a thread's store: at scopes up to CORE it is acknowledged once the L1 has neither the line nor a fill of it on its way (R149, R154). -/
def State.threadTx (s : State) (core slot lane va line : Nat) (bytes : Patch) (strong : Bool) : Tx :=
  let g := s.gang core slot
  let world := match g with | some g => g.world | none => 0x7F
  let tenant := match g with | some g => s.tenantOfCtx g.ctx | none => 0xFFFE
  { blankTx 0 line bytes with
      core := core, slot := slot, lane := lane, tenant := tenant, world := world, va := va, strong := strong,
      slice := if isCellar (128 * line) then 96 else sliceFor (stackOf core) line,
      ackStack := false,
      l1 := !(s.coh.l1.any (fun l => l.core == core && l.line == line && !l.frozen)) && !s.lineComing core line }

/-- The strong stores and atomics of a thread under way, each to be acknowledged at a scope before a later one leaves (R159). -/
def State.earlierStrong (s : State) (core slot lane scope : Nat) : List (Nat × Nat) :=
  (s.coh.txs.filter (fun t => t.strong && t.core == core && t.slot == slot && t.lane == lane)).map (fun t => (t.id, max 3 scope))

/-- A store entry drains (R97): it becomes a store under way and a forwarding entry. -/
def State.drainEntry (s : State) (e : SEnt) : State :=
  let id := s.ctl.nextId
  let s1 := s.launchTx { s.threadTx e.core e.slot e.lane e.va e.line e.bytes false with pois := e.pois, cp := e.cp }
  { s1 with coh.sent := s1.coh.sent.erase e,
            coh.fwd := s1.coh.fwd ++ [{ core := e.core, slot := e.slot, lane := e.lane, line := e.line, bytes := e.bytes, tx := id, held := true, pois := e.pois }] }

/-- Every store entry of a thread drains. -/
def State.drain (s : State) (core slot lane : Nat) : State :=
  (s.coh.sent.filter (fun e => e.core == core && e.slot == slot && e.lane == lane)).foldl (fun (s : State) e => s.drainEntry e) s

/-- Stores, reductions and atomics of a thread under way. -/
def State.txsOf (s : State) (core slot lane : Nat) : List Nat :=
  (s.coh.txs.filter (fun t => t.core == core && t.slot == slot && t.lane == lane)).map (fun t => t.id)

/-- A release at a scope starts, with an acquire to follow where acq is set (R153). Its number is the next one. -/
def State.startRelease (s : State) (core slot lane scope : Nat) (acq : Bool) : State :=
  let s1 := s.drain core slot lane
  let id := s1.ctl.nextId
  let r : Rel := { id := id, core := core, slot := slot, lane := lane, scope := scope, txs := s1.txsOf core slot lane, acq := acq }
  ({ s1.bump with coh.rels := s1.coh.rels ++ [r] }).send (.releaseComplete id)

/-- The number the next release will get. -/
def State.nextRelease (s : State) (core slot lane : Nat) : Nat := (s.drain core slot lane).ctl.nextId

/-- A release is over. -/
def State.relDone (s : State) (id : Nat) : Bool := !(s.coh.rels.any (fun r => r.id == id))

/-- RELEASE_COMPLETE (R153): once every store is acknowledged at the scope, and for a boundary every load has returned, the release is over and its thread
goes on. -/
def State.releaseComplete (s : State) (id : Nat) : State :=
  match s.coh.rels.find? (fun r => r.id == id) with
  | none => s
  | some r =>
    if r.txs.all (fun x => s.acked x r.scope) && !(r.acq && s.loadsPending r.core r.slot r.lane) then
      let s1 := { s with coh.rels := s.coh.rels.filter (fun x => x.id != id) }
      let s2 := if r.acq then s1.acquire r.core r.slot r.lane else s1
      s2.updThread r.core r.slot r.lane (fun t => if t.hold = .release id then { t with hold := .none, stamp := s.ctl.freeCtr } else t)
    else s.wait (.releaseComplete id)

/-- Store entries of a gang slot. -/
def State.slotEntries (s : State) (core slot : Nat) : List SEnt := s.coh.sent.filter (fun e => e.core == core && e.slot == slot)

/-- Entries of a gang slot that are draining: they count among its 16 until the L1 has their updates (R97). -/
def State.draining (s : State) (core slot : Nat) : List FwdEnt := s.coh.fwd.filter (fun f => f.core == core && f.slot == slot && f.held)

/-- A store finds all 16 entries in use (R97): a phase boundary at STACK for its thread, a release at STACK for every other holder, in lane order (R320). -/
def State.spill (s : State) (core slot lane : Nat) : State :=
  let holds (l : Nat) : Bool := (s.slotEntries core slot).any (fun e => e.lane == l) || (s.draining core slot).any (fun f => f.lane == l)
  (((List.range 32).filter (fun l => l == lane || holds l)).foldl (fun (s : State) l => s.startRelease core slot l 4 (l == lane)) s).send
    (.storeEntryDrainComplete core slot)

/-- STORE_ENTRY_DRAIN_COMPLETE (R97): over once no store release of the gang slot at STACK is left; until then it comes again. -/
def State.entryDrained (s : State) (core slot : Nat) : State :=
  if s.coh.rels.any (fun r => r.core == core && r.slot == slot && r.scope == 4) then s.wait (.storeEntryDrainComplete core slot) else s

/-- A plain store enters its thread's entry for the line (R97); the caller has seen that there is room. Whole words clear what an error has lost (R106); the
entry drains under the cache policy of its newest store (log 46). -/
def State.enterStore (s : State) (core slot lane va pa : Nat) (bytes : List Byte) (cp : Nat) : State :=
  let line := lineOf pa
  let p := patchOf (pa % 128) bytes
  if s.coh.sent.any (fun e => e.core == core && e.slot == slot && e.lane == lane && e.line == line) then
    { s with coh.sent := s.coh.sent.map (fun e =>
        if e.core = core ∧ e.slot = slot ∧ e.lane = lane ∧ e.line = line then
          { e with bytes := patchJoin e.bytes p, hid := e.hid.filter (fun i => !p.any (fun b => b.1 == i)), pois := e.pois.filter (fun w => !(fullWords p).contains w), cp := cp } else e) }
  else { s with coh.sent := s.coh.sent ++ [{ core := core, slot := slot, lane := lane, line := line, va := va, bytes := p, hid := [], pois := [], cp := cp }] }

/-- A store would need a new entry, and all 16 of the gang slot are in use. -/
def State.entriesFull (s : State) (core slot lane pa : Nat) : Bool :=
  !(s.coh.sent.any (fun e => e.core == core && e.slot == slot && e.lane == lane && e.line == lineOf pa)) &&
    decide ((s.slotEntries core slot).length + (s.draining core slot).length ≥ 16)

/-- Bytes of a line that a thread's own entries hold, newest last (R97, R98). -/
def State.ownAll (s : State) (core slot lane line : Nat) : Patch :=
  let f := (s.coh.fwd.filter (fun f => f.core == core && f.slot == slot && f.lane == lane && f.line == line)).foldl
    (fun p f => patchJoin p f.bytes) []
  (s.coh.sent.filter (fun e => e.core == core && e.slot == slot && e.lane == lane && e.line == line)).foldl (fun p e =>
    patchJoin p (e.bytes.filter (fun b => !e.hid.contains b.1))) f

/-- The 64-bit words of a line that an error has taken from a thread's own entries: its loads of them are poison (R105). -/
def State.ownLost (s : State) (core slot lane line : Nat) : List Nat :=
  (s.coh.fwd.filter (fun f => f.core == core && f.slot == slot && f.lane == lane && f.line == line)).flatMap (fun f => f.pois) ++
    (s.coh.sent.filter (fun e => e.core == core && e.slot == slot && e.lane == lane && e.line == line)).flatMap (fun e => e.pois)

/-- Bytes of a line that a thread reads from its own entries. -/
def State.ownBytes (s : State) (core slot lane line : Nat) : Patch :=
  let lost := s.ownLost core slot lane line
  (s.ownAll core slot lane line).filter (fun b => !lost.contains (b.1 / 8))

/-! ## What a thread's loads wait for -/

/-- A store of the thread's core to a line has left and is not at its slice yet: a read at the slice goes after it. -/
def State.storeOnWay (s : State) (core line : Nat) : Bool :=
  s.coh.txs.any (fun t => t.core == core && t.line == line && s.due (fun e => e == .dirStore t.id))

/-- The scope of a release by one thread includes another (R149). -/
def inScope (scope core slot lane core2 slot2 lane2 : Nat) : Bool :=
  if scope = 0 then core == core2 && slot == slot2 && lane == lane2
  else if scope = 1 then core == core2 && slot == slot2
  else if scope = 2 then core == core2
  else if scope = 3 then clusterOf core == clusterOf core2
  else if scope = 4 then stackOf core == stackOf core2
  else true

/-- Some of the bytes are plain stores of another thread whose release includes the reader and is not complete: no load returns them before it is (R154). -/
def State.veiled (s : State) (core slot lane line off n : Nat) : Bool :=
  s.coh.rels.any (fun r => inScope r.scope r.core r.slot r.lane core slot lane && !(r.core == core && r.slot == slot && r.lane == lane) &&
    r.txs.any (fun x => match s.tx x with
      | some t => t.line == line && !t.strong && t.bytes.any (fun e => decide (off ≤ e.1) && decide (e.1 < off + n))
      | none => false) &&
    !r.txs.all (fun x => s.acked x r.scope))

end Sys2Proof.Machine
end

