-- ==== Sys2Proof/Machine/Ops.lean ====
section
/-! DEFINITION. The shared operations over registers and threads: lane registers and poison tags (R10, R137, R175), the end of a run (R209), taking a trap or waiting on a
fault entry (R138, R207, R210, R406) and the way back (R139, R140), parking and joining (R214, R215, R386), the end of a launch (R62, R63). -/

namespace Sys2Proof.Machine

open Sys2Proof

/-- What a meaning answers. -/
abbrev Out := Host.Outcome State Fault Refusal

/-! ## Lane registers and tags -/

/-- A register that holds 0. -/
def pzero : PVal := { val := 0, tag := 0 }
/-- A clean value. -/
def clean (w : Word) : PVal := { val := w, tag := 0 }
/-- A poison tag (R175): kind 0 refillable, 1 derived, 2 memory. -/
def mkTag (kind size : Nat) (sx : Bool) (fmt fid : Nat) : Word :=
  BitVec.ofNat 32 (2 ^ 31 + kind * 2 ^ 29 + size * 2 ^ 26 + (if sx then 2 ^ 25 else 0) + fmt % 256 * 2 ^ 17 + fid % 1024)
/-- A value is poisoned. -/
def PVal.bad (p : PVal) : Bool := bit p.tag.toNat 31
/-- The kind of a poisoned value. -/
def PVal.kind (p : PVal) : Nat := bits p.tag.toNat 30 29
/-- The FID in a tag. -/
def PVal.fid (p : PVal) : Nat := bits p.tag.toNat 9 0
/-- Derived poison (R137); its value is 0. -/
def derivedPoison : PVal := { val := 0, tag := mkTag 1 0 false 0 0 }
/-- Poison from a memory error (R106, R138). -/
def memPoison : PVal := { val := 0, tag := mkTag 2 0 false 0 0 }
/-- Refillable poison: the low half of the faulting address in the value (R137; log 14). -/
def refillable (va size : Nat) (sx : Bool) (fmt fid : Nat) : PVal := { val := BitVec.ofNat 32 va, tag := mkTag 0 size sx fmt fid }

/-- Register code (V0 to V63, X0 to X31) of a lane of a gang. -/
def Gang.reg (g : Gang) (code lane : Nat) : PVal := nget pzero g.v (32 * code + lane)
/-- g with a lane register written. -/
def Gang.setReg (g : Gang) (code lane : Nat) (p : PVal) : Gang := { g with v := nset pzero g.v (32 * code + lane) p }
/-- A live operand-cache entry of a lane. -/
def Gang.oc (g : Gang) (e lane : Nat) : Option PVal := nget none g.o (32 * e + lane)
/-- g with an operand-cache entry written, or dead. -/
def Gang.setOc (g : Gang) (e lane : Nat) (p : Option PVal) : Gang := { g with o := nset none g.o (32 * e + lane) p }
/-- A lane's operand-cache entries die (R203). -/
def Gang.killOc (g : Gang) (lane : Nat) : Gang := { g with o := g.o.filter (fun e => e.1 % 32 != lane) }

/-- The operand-cache entries of a thread die (R203), and results on their way to one are dropped (R206). -/
def State.killOps (s : State) (core slot lane : Nat) : State :=
  let s1 := s.updGang core slot (fun g => g.killOc lane)
  { s1 with core.toks := s1.core.toks.map (fun (t : Token) =>
      if t.core = core ∧ 104 ≤ t.dst ∧ t.dst < 112 then
        { t with lanes := t.lanes.map (fun (l : TLane) => if l.slot = slot ∧ l.lane = lane then { l with drop := true } else l) } else t) }

/-! ## The arithmetic log -/

/-- One record for each cause and gang of a committed run or task (R211, R243), counted for the completion record (R62): gang, cause, lane mask. -/
def State.logArith (s : State) (source pc ctx : Nat) (rs : List (Nat × Nat × Nat)) : State :=
  rs.foldl (fun (s : State) r =>
    let s1 := s.logEvent (s.tenantOfCtx ctx) source 0x15 none (trapFields r.2.2 pc ctx r.1 r.2.1)
    s1.updLaunch ctx (fun l => { l with arith := l.arith + 1 })) s

/-- A cause added to a group's records: the union of lanes for each cause and gang slot. -/
def addArith (rs : List (Nat × Nat × Nat)) (slot cause lane : Nat) : List (Nat × Nat × Nat) :=
  if rs.any (fun r => r.1 == slot && r.2.1 == cause) then
    rs.map (fun r => if r.1 = slot ∧ r.2.1 = cause then (r.1, r.2.1, setBit r.2.2 lane true) else r)
  else rs ++ [(slot, cause, setBit 0 lane true)]

/-- The records of a run in issue (R211): of each cause and gang the lanes that have committed. -/
def Grp.records (g : Grp) : List (Nat × Nat × Nat) :=
  (g.arith.map (fun r => (((g.lanes.find? (fun l => l.slot == r.1)).map (fun l => l.gang)).getD 0, r.2.1,
    maskOf ((lanesOf r.2.2).filter (fun n => g.lanes.any (fun l => l.slot == r.1 && l.lane == n && l.done)))))).filter (fun r => r.2.2 != 0)

/-- The records of the lanes that have committed are written (R211). -/
def State.logRun (s : State) (g : Grp) : State := s.logArith (srcCore g.core) g.pc g.ctx g.records

/-! ## Leaving a run -/

/-- An issue group. -/
def State.grp (s : State) (id : Nat) : Option Grp := s.core.issue.find? (fun g => g.id == id)
/-- s with an issue group changed. -/
def State.updGrp (s : State) (id : Nat) (f : Grp → Grp) : State :=
  { s with core.issue := s.core.issue.map (fun g => if g.id = id then f g else g) }
/-- s without an issue group. -/
def State.dropGrp (s : State) (id : Nat) : State := { s with core.issue := s.core.issue.filter (fun g => g.id != id) }
/-- The issue group goes to the back: another's turn (R201). -/
def State.rotate (s : State) : State :=
  match s.core.issue with
  | [] => s
  | g :: t => { s with core.issue := t ++ [g] }

/-- Tokens that a group named are cancelled: their results are discarded on arrival (R209). -/
def State.cancelToks (s : State) (grp : Nat) : State :=
  { s with core.toks := s.core.toks.map (fun t => if t.grp = grp then { t with dead := true } else t) }

/-- A thread leaves its issue group, changed by f. -/
def State.leave (s : State) (core slot lane : Nat) (f : Thread → Thread) : State :=
  s.updThread core slot lane (fun t => f { t with inRun := false, stamp := s.ctl.freeCtr })

/-- Tile registers that a run has taken for a gang slot go back: no word of an abandoned run takes effect (R209, R353, R406). -/
def State.undoAllocs (s : State) (g : Grp) (slots : Nat → Bool) : State :=
  (g.allocs.filter (fun a => slots a.1)).foldl (fun (s : State) a =>
    match s.gang g.core a.1 with
    | some x => { s with eng.tregs := s.eng.tregs.filter (fun t => !(t.ctx == x.ctx && t.gang == x.gang && t.name == a.2)) }.updGang g.core a.1
        (fun x => { x with tiles := x.tiles.filter (fun m => m != a.2) })
    | none => s) s

/-- The tokens of the lanes of a group that have not committed are cancelled (R209). -/
def State.cancelLanes (s : State) (g : Grp) : State :=
  let out (l : TLane) : Bool := g.lanes.any (fun r => r.slot == l.slot && r.lane == l.lane && !r.done)
  { s with core.toks := s.core.toks.map (fun (t : Token) => if t.grp = g.id then { t with lanes := t.lanes.map (fun (l : TLane) => if out l then { l with drop := true } else l) } else t) }

/-- The run is abandoned for every lane that has not committed (R209): nothing of its trailer happens, tokens are cancelled, and the threads stand
at its first word. What lanes that have committed did stands, and is logged (R211). A tile that a TALLOC of the run
mapped is free again (DEDUCED, log 109). -/
def State.abandon (s : State) (g : Grp) : State :=
  let some_ := g.lanes.any (fun l => l.done)
  let s1 := ((s.logRun g).undoAllocs g (fun x => !g.lanes.any (fun l => l.slot == x && l.done)))
  let s2 := (if some_ then s1.cancelLanes g else s1.cancelToks g.id).dropGrp g.id
  (g.lanes.filter (fun l => !l.done)).foldl (fun (s : State) l => s.leave g.core l.slot l.lane id) s2

/-! ## Joins -/

/-- The release condition of a parked thread (R214). -/
def joinReady (g : Gang) (lane : Nat) : Bool :=
  let t := g.thread lane
  t.status == .joinwait && (lanesOf t.joinMask).all (fun l =>
    let u := g.thread l
    l == lane || u.status == .exited || u.status == .empty || (u.status == .joinwait && u.joinPc == t.joinPc))

/-- A lane has parked at its JOIN or ended: parked siblings whose condition holds are released at JOINPC (R214). Those that a stepped run releases are of the step (R402). -/
def State.evalJoins (s : State) (core slot lane : Nat) : State :=
  s.updGang core slot (fun g =>
    let rel := (List.range 32).filter (fun l => joinReady g l)
    let step := (g.thread lane).ofStep
    rel.foldl (fun g' l => g'.updThread l (fun t => { t with status := .runnable, pc := t.joinPc, stamp := s.ctl.freeCtr, ofStep := t.ofStep || step })) g)

/-! ## The end of a launch -/

/-- Zeros written over n bytes, sealed or not, as a scrub does. -/
def State.wipe (s : State) (pa n : Nat) : State :=
  (linesOf pa n).foldl (fun (s : State) l =>
    let s1 := (List.range 16).foldl (fun (s : State) i => s.setPoison (16 * l + i) false) (s.putBytes (128 * l) (zeros 128))
    { s1 with mm.sealed := tdel s1.mm.sealed l }) s

/-- Save blocks go back to the pool; those of a world's launch are zeroed first (R177). Held records look again (R165). -/
def State.releaseBlocks (s : State) (world : Nat) (bs : List Nat) : State :=
  let s1 := if world = 0x7F then s else bs.foldl (fun (s : State) b => s.wipe b 32768) s
  { s1 with run.blocks := s1.run.blocks.filter (fun b => !bs.contains b) }.retryHeld

/-- The launch is to end, with a status, the first that comes (R63): no thread of it runs further, its saved groups are discarded (R177), its entries
are freed, and LAUNCH_COMPLETE follows. -/
def State.endLaunch (s : State) (ctx status : Nat) : State :=
  match s.launch ctx with
  | none => s
  | some l =>
    if l.ending.isSome then s
    else
      let s := (s.core.issue.filter (fun g => g.ctx == ctx)).foldl (fun (s : State) g => s.logRun g) s
      let s1 := s.updLaunch ctx (fun l => { l with ending := some status })
      let s2 := { s1 with
        core.issue := s1.core.issue.filter (fun g => g.ctx != ctx),
        core.toks := s1.core.toks.map (fun (t : Token) => if t.ctx = ctx then
          { t with dead := true, lanes := t.lanes.map (fun (l : TLane) => if l.walk.isSome then { l with vals := some [], walk := none } else l) } else t),
        core.gangs := s1.core.gangs.map (fun (g : Gang) => if g.ctx = ctx then
          { g with threads := g.threads.map (fun (t : Thread) =>
              if t.status = Status.empty then t else { t with status := .exited, inRun := false, hold := .none }) } else g) }
      let s2 := (s2.core.gangs.filter (fun g => g.ctx == ctx)).foldl (fun (s : State) g => (List.range 32).foldl (fun (s : State) l => s.clearLoaded g.core g.slot l) s) s2
      let gone := (s2.run.saved.filter (fun x => x.ctx == ctx)).flatMap (fun x => x.block :: x.tblocks)
      let s3 := { s2.releaseBlocks l.world gone with
        run.saved := s2.run.saved.filter (fun x => x.ctx != ctx),
        run.tcbs := s2.run.tcbs.filter (fun t => !(t.ctx == ctx && t.state != 1)),
        run.preempts := s2.run.preempts.filter (fun p => p.1 != ctx) }
      let s4 := { s3 with
        xl.faults := s3.xl.faults.filter (fun f => f.ctx != ctx),
        xl.walks := s3.xl.walks.filter (fun w => w.ctx != ctx),
        eng.lists := s3.eng.lists.filter (fun c => c.ctx != ctx),
        eng.cmds := s3.eng.cmds.filter (fun c => !(c.ctx == ctx && (c.fid.isSome || (c.opc == 7 && decide (c.pos < 2))))),
        coh.pins := s3.coh.pins.filter (fun p => !(s3.eng.cmds.any (fun c => c.ctx == ctx && (c.fid.isSome || (c.opc == 7 && decide (c.pos < 2))) && p.2 == c.id + 1))),
        eng.tasks := s3.eng.tasks.filter (fun t => !(t.ctx == ctx && (t.fid.isSome || t.step == 0))) }
      let s4 := s4.sendAll ((s1.core.toks.filter (fun t => t.ctx == ctx && t.lanes.any (fun l => l.walk.isSome) &&
        t.lanes.all (fun l => l.vals.isSome || l.walk.isSome))).map (fun t => .tokenComplete t.id))
      if s4.due (fun e => e == .launchComplete ctx) then s4 else s4.send (.launchComplete ctx)

/-- Groups not yet cut into a TCB: none once the launch ends, none for a graph, and none at or above K after stop(K) (R167, R188, R191). -/
def Launch.uncut (l : Launch) : Bool :=
  l.graph.isNone && l.ending.isNone && decide (l.cut < l.lrec.groups) &&
    (match l.est with
     | some e => match e.k with
       | some k => decide (l.cut * 2 ^ l.lrec.shift l.lrec.split < k)
       | none => true
     | none => true)

/-- Work of a launch that is still to come: a TCB, a live thread, groups not yet cut, a graph at work. -/
def State.launchBusy (s : State) (l : Launch) : Bool :=
  s.run.tcbs.any (fun t => t.ctx == l.ctx && t.state != 2) || s.core.gangs.any (fun g => g.ctx == l.ctx && g.threads.any (fun t => t.live)) ||
    s.run.saved.any (fun x => x.ctx == l.ctx) || l.uncut

/-- The launch completes when no thread of it remains (R62, R182, R192). A graph goes by its waves, and looks at its rings again (R181). -/
def State.checkDone (s : State) (ctx : Nat) : State :=
  match s.launch ctx with
  | none => s
  | some l =>
    match l.graph with
    | some q =>
      let stages := (q.recs.map (fun r => r.1)).eraseDups
      let s1 := stages.foldl (fun (s : State) st => if s.due (fun e => e == .graphGangForm ctx st) then s else s.send (.graphGangForm ctx st)) s
      if s.launchBusy l || s.due (fun e => e == .launchComplete ctx) then s1
      else if l.ending.isSome then s1.send (.launchComplete ctx)
      else if !q.recs.isEmpty || q.waiting || s.due (fun e => e == .waveEnd ctx) then s1
      else s1.send (.waveEnd ctx)
    | none => if s.launchBusy l || s.due (fun e => e == .launchComplete ctx) then s else s.send (.launchComplete ctx)

/-! ## Traps -/

/-- A precise trap handled as ILLEGAL (R210): one CORETRAP record for each gang concerned, and the launch ends with FAULT. -/
def State.coreTrap (s : State) (g : Grp) (cause : Nat) (lanes : List RLane) : State :=
  let slots := (List.range 32).filter (fun x => lanes.any (fun l => l.slot == x))
  let s1 := slots.foldl (fun (s : State) x =>
    let gang := match s.gang g.core x with | some y => y.gang | none => 0
    let mask := maskOf ((lanes.filter (fun l => l.slot == x)).map (fun l => l.lane))
    s.logTenant (some (s.tenantOfCtx g.ctx)) (srcCore g.core) 0x11 1 (trapFields mask g.pc g.ctx gang cause)) s
  (s1.abandon g).endLaunch g.ctx 4

/-- A gang's thread is at a debug stop (R398). -/
def State.atStop (s : State) (g : Gang) : Bool :=
  g.threads.any (fun t => t.status == .faultwait && s.xl.faults.any (fun f => f.ctx == g.ctx && f.fid == t.fid && f.stop.isSome))

/-- The lane of an effect; none for an effect of a gang slot. -/
def Fx.lane? (f : Fx) : Option Nat :=
  match f with
  | .store l _ _ _ _ => some l
  | .strong l _ _ _ _ _ _ => some l
  | .sts l _ _ => some l
  | .arm l _ _ => some l
  | .fence l _ _ => some l
  | .phase l _ => some l
  | .bar l _ => some l
  | .wait l _ _ _ _ => some l
  | .post l _ => some l
  | .twr l _ _ _ => some l
  | .eacc l _ => some l
  | .exit l => some l
  | .join l _ => some l
  | .svc l => some l
  | .swr _ _ _ => none
  | .thwr _ _ _ _ => none
  | .scwr _ _ _ => none
  | .tfree _ _ => none
  | .relx _ => none

/-- The effects that a lane waits for before it commits (R334, R336, R337, R344). -/
def Fx.waits (f : Fx) : Bool :=
  match f with
  | .fence _ _ _ => true
  | .phase _ _ => true
  | .bar _ _ => true
  | .wait _ _ _ _ _ => true
  | .exit _ => true
  | _ => false

/-- A lane stands at its WAIT, which has found nothing yet (R221). -/
def State.atWait (s : State) (core slot lane : Nat) : Bool :=
  s.core.issue.any (fun r => r.core == core && r.trailer && r.lanes.any (fun l => l.slot == slot && l.lane == lane && !l.done && l.wait != 0) &&
    (match r.fx.find? (fun f => f.waits && f.lane? == some lane) with
     | some (.wait _ _ _ _ _) => true
     | _ => false))

/-- A thread waits for a token whose load waits for a free fault entry (R135). -/
def State.awaitsEntry (s : State) (core slot lane : Nat) (t : Thread) : Bool :=
  !t.inRun && s.core.toks.any (fun k => k.core == core && bit t.await k.k && k.lanes.any (fun l => l.slot == slot && l.lane == lane && l.walk.isSome))

/-- A thread counts as parked for R386: parked, ended, waiting on a full ring (R69) or a full task queue (R359), for a free entry (R135), or at WAIT (R221). One whose reply is
there runs on as soon as its tokens are complete, unless its gang is being saved (R387). -/
def State.parkedLane (s : State) (g : Gang) (lane : Nat) : Bool :=
  let t := g.thread lane
  let full := decide ((s.eng.tasks.filter (fun t => t.ctx == g.ctx && t.gang == g.gang && !t.finished)).length ≥ 16)
  let ring := s.core.issue.any (fun r => r.core == g.core && (r.stage == 10 || (r.stage == 11 && full)) && r.lanes.any (fun l => l.slot == g.slot && l.lane == lane && !l.did))
  match t.status with
  | .svcwait => t.reply.isNone || g.saving
  | .runnable => ring || t.hold == .noEntry || s.awaitsEntry g.core g.slot lane t || s.atWait g.core g.slot lane
  | _ => true

/-- At least one thread waits in SVCWAIT or FAULTWAIT, on a full ring or for a fault entry (R386). A thread at WAIT counts as parked beside such a one, but parks no gang: the
words it waits for would be lost with the scratchpad (DEDUCED, log 89). -/
def State.parkCause (s : State) (g : Gang) : Bool :=
  (List.range 32).any (fun l => (g.thread l).status == .svcwait || (g.thread l).status == .faultwait ||
    ((g.thread l).status == .runnable && s.parkedLane g l && !s.atWait g.core g.slot l))

/-- The level-L group of a gang meets the condition of R386 in every gang. -/
def State.parkable (s : State) (ctx group : Nat) : Bool :=
  let gs := s.core.gangs.filter (fun g => g.ctx == ctx && g.group == group)
  let pinned := gs.any (fun g => match s.tcb g.tcb with | some t => t.pinned | none => false)
  !gs.isEmpty && !pinned && gs.all (fun g => (List.range 32).all (fun l => s.parkedLane g l) && !s.atStop g && s.parkCause g)

/-- It is then to be parked. -/
def State.maybePark (s : State) (ctx group : Nat) : State :=
  if s.parkable ctx group && !s.due (fun e => e == .gangPark ctx group) then s.send (.gangPark ctx group) else s

/-- R386 looked at for the gang of a slot. -/
def State.maybeParkSlot (s : State) (core slot : Nat) : State :=
  match s.gang core slot with
  | some g => s.maybePark g.ctx g.group
  | none => s

/-- Taking a translation fault or poison trap (R138, R406): the run is abandoned for all, the lanes named wait on their FID, or for a free entry
where they have none; the others restart at once. A stepped thread that parks so stops before its first word when it is let go (R401). -/
def State.waitTrap (s : State) (g : Grp) (ws : List (RLane × Option Nat)) : State :=
  let s1 := s.abandon g
  let s2 := ws.foldl (fun (s : State) w =>
    (s.killOps g.core w.1.slot w.1.lane).updThread g.core w.1.slot w.1.lane (fun t =>
      match w.2 with
      | some f => { t with status := .faultwait, fid := f, quiet := t.quiet && !t.stepping }
      | none => { t with hold := .noEntry })) s1
  ws.foldl (fun (s : State) w => s.maybeParkSlot g.core w.1.slot) s2

/-- The virtual address recorded in an entry that no access opens (DERIVED, MEMPOISON, BREAK): the spec names none, so it is free (log 15). -/
def State.openVa (s : State) : Nat := (Config.freeWord s.ctl.freeCtr).toNat + 2 ^ 32 * (Config.freeWord (s.ctl.freeCtr + 1)).toNat

/-- A new entry of its own: the FID, or none where no entry is free. -/
def State.ownFault (s : State) (ctx va cause acc source : Nat) : State × Option Nat :=
  match s.freeFid ctx with
  | some fid => (s.newFault ctx fid va cause acc source none, some fid)
  | none => (s, none)

/-- The number under which the refills of an entry's RETRY run; no issue group has it. -/
def refillGrp (ctx fid : Nat) : Nat := 2 ^ 128 + 1024 * ctx + fid

/-- The poison a lane has consumed is repaired already: its entry has been freed, or its refill has its data and waits for the end of the run (R140). -/
def State.refilled (s : State) (g : Grp) (l : RLane) (fid : Nat) : Bool :=
  !(s.xl.faults.any (fun f => f.ctx == g.ctx && f.fid == fid)) ||
    s.core.toks.any (fun t => t.core == g.core && t.grp == refillGrp g.ctx fid && t.lanes.any (fun m => m.slot == l.slot && m.lane == l.lane && m.vals.isSome))

/-- Taking a poison trap (R138): lanes with refillable poison wait on its FID, lanes with derived or memory poison share a new entry of that cause; a
second DERIVED entry of one thread ends the launch (R140). A lane whose refill is there restarts at once (log 95). -/
def State.poisonTrap (s : State) (g : Grp) (acc : Nat) (ls : List (RLane × PVal)) : State :=
  let der := ls.filter (fun x => x.2.kind == 1)
  let mem := ls.filter (fun x => x.2.kind ≥ 2)
  let mended (x : RLane × PVal) : Bool := x.2.kind == 0 && s.refilled g x.1 x.2.fid
  let r1 := if der.isEmpty then (s, none) else s.ownFault g.ctx s.openVa 0x0A acc (srcCore g.core)
  let r2 := if mem.isEmpty then (r1.1, none) else r1.1.ownFault g.ctx s.openVa 0x0B acc (srcCore g.core)
  if r1.2.isSome && der.any (fun x => (s.thread g.core x.1.slot x.1.lane).derived) then (r2.1.abandon g).endLaunch g.ctx 4
  else
    let s3 := if r1.2.isNone then r2.1 else der.foldl (fun (s : State) x => s.updThread g.core x.1.slot x.1.lane (fun t => { t with derived := true })) r2.1
    let s4 := s3.waitTrap g ((ls.filter (fun x => !mended x)).map (fun x => (x.1, if x.2.kind = 0 then some x.2.fid else if x.2.kind = 1 then r1.2 else r2.2)))
    (ls.filter mended).foldl (fun (s : State) x => s.killOps g.core x.1.slot x.1.lane) s4

/-- A trap with cause DERIVED that no poison caused (R221, R339). -/
def State.derivedTrap (s : State) (g : Grp) (acc : Nat) (ls : List RLane) : State := s.poisonTrap g acc (ls.map (fun l => (l, derivedPoison)))

/-! ## The end of a thread -/

/-- A write-back of a region line of a gang slot is under way: its stores go by lane 32 (R148). -/
def State.writingBack (s : State) (core slot : Nat) : Bool := s.coh.txs.any (fun t => t.core == core && t.slot == slot && t.lane == 32)

/-- A launch that ends before its threads have released their stores keeps their gangs: the release at RELS is still to drain them (R62). -/
def State.unreleased (s : State) (g : Gang) : Bool :=
  (match s.launch g.ctx with | some l => l.ending.isSome && !l.released | none => false) &&
    (s.coh.sent.any (fun e => e.core == g.core && e.slot == g.slot) || s.coh.txs.any (fun t => t.core == g.core && t.slot == g.slot))

/-- A level-L group of a bound TCB has no live thread and nothing of its gangs left to wait for: it can be freed. -/
def State.groupIdle (s : State) (ctx group : Nat) : Bool :=
  let gs := s.core.gangs.filter (fun g => g.ctx == ctx && g.group == group)
  !gs.isEmpty && gs.all (fun g => !(g.threads.any (fun t => t.live)) &&
    !(s.eng.tasks.any (fun t => t.ctx == ctx && t.gang == g.gang && !t.finished)) &&
    !(s.core.toks.any (fun t => t.core == g.core && t.lanes.any (fun l => l.slot == g.slot))) &&
    !(s.coh.rels.any (fun r => r.core == g.core && r.slot == g.slot)) && g.written.isEmpty && !s.writingBack g.core g.slot && !s.unreleased g)

/-- Lines of WB regions not yet written back are sent on their way: each is one REGION_WRITEBACK (R148). -/
def State.flushRegions (s : State) (core slot : Nat) : State :=
  match s.gang core slot with
  | none => s
  | some g =>
    g.written.foldl (fun (s : State) line =>
      match (List.range 16).find? (fun r =>
          let d := (g.regions.drop r).headD { rgva := 0, rgcf := 0 }
          let sp := bits d.rgcf.toNat 10 0
          bit d.rgcf.toNat 31 && decide (sp ≤ line) && decide (line ≤ sp + bits d.rgcf.toNat 26 16)) with
      | some r =>
        let i := line - bits ((g.regions.drop r).headD { rgva := 0, rgcf := 0 }).rgcf.toNat 10 0
        if s.due (fun e => e == .regionWriteback core slot r i) then s else s.send (.regionWriteback core slot r i)
      | none => s) s

/-- Resources have come free on some clusters, and save blocks for all: their schedulers look at their queues (R170, R171). -/
def State.pokeBinds (s : State) (clusters : List Nat) : State :=
  let queued := (s.run.tcbs.filter (fun t => decide (t.place < 96) && t.state != 1)).map (fun t => t.place)
  s.sendAll (((clusters ++ queued).eraseDups.map (fun c => Ev.tcbBind c)).filter (fun e => !s.due (fun x => x == e)))

/-- Gangs whose threads have all ended give up their slots, registers, scratchpad, tiles and save blocks; a TCB with no group left is DONE (R166,
R203). -/
def State.freeGroup (s : State) (ctx group : Nat) : State :=
  if !s.groupIdle ctx group then s
  else
    let gs := s.core.gangs.filter (fun g => g.ctx == ctx && g.group == group)
    let s1 := { s.releaseBlocks (s.worldOfCtx ctx) (gs.flatMap (fun g => g.block :: g.tblocks)) with
      core.gangs := s.core.gangs.filter (fun g => !(g.ctx == ctx && g.group == group)),
      eng.tregs := s.eng.tregs.filter (fun t => !(t.ctx == ctx && gs.any (fun g => g.gang == t.gang))) }
    let s2 := gs.foldl (fun (s : State) g =>
      if s.core.gangs.any (fun x => x.tcb == g.tcb) || s.run.saved.any (fun x => x.tcb == g.tcb) then s
      else { s with run.tcbs := s.run.tcbs.map (fun (t : TCB) => if t.id = g.tcb ∧ t.state = 1 then { t with state := 2, place := 97 } else t) }) s1
    (s2.pokeBinds (gs.map (fun g => clusterOf g.core))).checkDone ctx

/-- The group of a slot's gang is freed when nothing of it is left. -/
def State.freeSlot (s : State) (core slot : Nat) : State :=
  match s.gang core slot with
  | some g => s.freeGroup g.ctx g.group
  | none => s

/-- A thread ends (R215, R344): EXITED, its load bit cleared (R99), its lane bit cleared in parked siblings' masks, joins looked at, and
its group freed when nothing is left. -/
def State.endThread (s : State) (core slot lane : Nat) : State :=
  let s1 := ((s.clearLoaded core slot lane).killOps core slot lane).updGang core slot (fun g =>
    (g.updThread lane (fun t => { t with status := .exited, inRun := false, hold := .none })))
  let s2 := s1.updGang core slot (fun g =>
    { g with threads := g.threads.map (fun t => if t.status = .joinwait then { t with joinMask := setBit t.joinMask lane false } else t) })
  let s3 := (s2.evalJoins core slot lane).flushRegions core slot
  match s3.gang core slot with
  | some g =>
    let s4 := match s3.launch g.ctx with
      | some l => match l.est with
        | some _ => s3.send (.contributionArrive g.ctx ((g.wids.drop lane).headD 0))
        | none => s3
      | none => s3
    s4.freeGroup g.ctx g.group
  | none => s3

/-! ## The answer to a fault entry (R139, R140, R407) -/

/-- Whether a saved gang's block holds a register with refillable poison of an FID. -/
def State.savedHolds (s : State) (x : Saved) (fid : Nat) : Bool :=
  let tags := s.bytesAs x.world (x.block + 0x4000) 12288
  (List.range 3072).any (fun i =>
    let tag := fieldOf tags (4 * i) 4
    bit tag 31 && bits tag 30 29 == 0 && bits tag 9 0 == fid)

/-- A live thread of a saved gang waits on an FID or holds its poison (R191). -/
def State.savedNeeds (s : State) (ctx fid : Nat) : Bool :=
  s.run.saved.any (fun x => x.ctx == ctx && (x.threads.any (fun t => t.status == .faultwait && t.fid == fid) ||
    (let tags := s.bytesAs x.world (x.block + 0x4000) 12288
     (List.range 3072).any (fun i =>
      let tag := fieldOf tags (4 * i) 4
      ((x.threads.drop (i % 32)).headD emptyThread).live && bit tag 31 && bits tag 30 29 == 0 && bits tag 9 0 == fid))))

/-- A saved gang waits on an FID or holds its poison (R407). -/
def State.savedWaits (s : State) (ctx fid : Nat) : Bool :=
  s.run.saved.any (fun x => x.ctx == ctx && (x.threads.any (fun t => t.status == .faultwait && t.fid == fid) || s.savedHolds x fid))

/-- Registers of a gang with refillable poison of an FID: (code, lane). -/
def Gang.poisonOf (g : Gang) (fid : Nat) : List (Nat × Nat) :=
  (g.v.filter (fun e => e.2.bad && e.2.kind == 0 && e.2.fid == fid)).map (fun e => (e.1 / 32, e.1 % 32))

/-- The virtual address a poisoned register was loaded from: its value gives the low half, the entry the high half (R137; log 14). -/
def refillVa (entryVa : Nat) (p : PVal) : Nat := entryVa / 2 ^ 32 * 2 ^ 32 + p.val.toNat

/-- The form of a refill: size in bytes for one register, sign extension, decoding (0 for a load that never decodes, log 45). -/
def refillForm (p : PVal) : Nat × Bool × Nat :=
  (min 4 (2 ^ bits p.tag.toNat 28 26), bit p.tag.toNat 25, bits p.tag.toNat 24 17)

/-- Threads of bound gangs that wait on an FID go on at the first word of their runs (R140 step 4). -/
def State.wake (s : State) (ctx fid : Nat) (f : Thread → Thread) : State :=
  { s with core.gangs := s.core.gangs.map (fun g => if g.ctx = ctx then
      { g with threads := g.threads.map (fun t => if t.status = .faultwait ∧ t.fid = fid then
          f { t with status := .runnable, stamp := s.ctl.freeCtr } else t) } else g) }

/-- Tasks, commands and lists that wait on an FID go on (R362, R368, R374). -/
def State.wakeEngines (s : State) (ctx fid : Nat) : State :=
  let tasks := s.eng.tasks.filter (fun t => t.ctx == ctx && t.fid == some fid)
  let cmds := s.eng.cmds.filter (fun t => t.ctx == ctx && t.fid == some fid)
  let lists := s.eng.lists.filter (fun t => t.ctx == ctx && t.fid == some fid)
  let s1 := { s with
    eng.tasks := s.eng.tasks.map (fun (t : Task) => if t.ctx = ctx ∧ t.fid = some fid then { t with fid := none } else t),
    eng.cmds := s.eng.cmds.map (fun (t : Cmd) => if t.ctx = ctx ∧ t.fid = some fid then { t with fid := none } else t),
    eng.lists := s.eng.lists.map (fun (t : CList) => if t.ctx = ctx ∧ t.fid = some fid then { t with fid := none } else t) }
  s1.sendAll ((tasks.map (fun t => Ev.anvilStep t.cluster) ++
    cmds.map (fun c => if c.opc = 7 then Ev.collComplete c.id else Ev.engineCommandComplete c.id) ++
    lists.map (fun c => Ev.cpyqEntryStart c.id)).filter (fun e => !s.due (fun x => x == e)))

/-- The reply is recorded in the fault-reply area (R141, R407). -/
def State.recordReply (s : State) (ctx fid res : Nat) : State :=
  match s.launch ctx with
  | some l => { s with xl.freply := tset s.xl.freply (ctx, fid) res }.devStore (l.hdr + fid) (leBytes 1 res) none
  | none => s

end Sys2Proof.Machine
end

