-- ==== Sys2Proof/Machine/Flags.lean ====
section
/-! DEFINITION. The predicate register (R304 to R307) and the guards that read it (R261), over the working copy of a lane. -/

namespace Sys2Proof.Machine

open Sys2Proof

/-- What a guard does with a lane (R261). -/
inductive Gate where
  | off | on | pois
deriving DecidableEq, Repr

/-- The predicate entry a guard reads: 0 for none. -/
def guardEntry (gd : BitVec 3) : Nat := gd.toNat % 4

/-- The guard of a word in a lane. -/
def RLane.gate (l : RLane) (gd : BitVec 3) : Gate :=
  let k := guardEntry gd
  if k = 0 then .on
  else if bit l.ppois (k - 1) then .pois
  else if bit l.preds (k - 1) != bit gd.toNat 2 then .on else .off

/-- Every lane of the group is at least n deep (R304). -/
def Grp.deep (g : Grp) (n : Nat) : Bool := g.lanes.all (fun l => decide (n ≤ l.depth))

/-- push of R282, with the poison flag of the new entry. -/
def RLane.push (l : RLane) (v bad : Bool) : RLane :=
  { l with preds := (2 * l.preds + (if v then 1 else 0)) % 256, ppois := (2 * l.ppois + (if bad then 1 else 0)) % 256,
           depth := min (l.depth + 1) 8 }

/-- pop of R282. -/
def RLane.pop (l : RLane) : RLane := { l with preds := l.preds / 2, ppois := l.ppois / 2, depth := l.depth - 1 }

/-- Entry pk of a lane. -/
def RLane.p (l : RLane) (k : Nat) : Bool := bit l.preds (k - 1)
/-- Its poison flag. -/
def RLane.pp (l : RLane) (k : Nat) : Bool := bit l.ppois (k - 1)

/-- PSWP: p1 and p2 exchanged. -/
def RLane.swap (l : RLane) : RLane :=
  { l with preds := setBit (setBit l.preds 0 (l.p 2)) 1 (l.p 1), ppois := setBit (setBit l.ppois 0 (l.pp 2)) 1 (l.pp 1) }

/-- PAND, POR, PXOR: p1 and p2 replaced by one entry, poisoned if either was (R285). -/
def RLane.fold2 (l : RLane) (f : Bool → Bool → Bool) : RLane := (l.pop.pop).push (f (l.p 1) (l.p 2)) (l.pp 1 || l.pp 2)

/-- What PRD reads (R306). -/
def RLane.pword (l : RLane) : Nat := l.preds % 256 + 256 * l.depth

/-- PWR: the register from a word; a poisoned word poisons every entry (R285). -/
def RLane.setPword (l : RLane) (a : PVal) : RLane :=
  { l with preds := a.val.toNat % 256, depth := min (bits a.val.toNat 11 8) 8, ppois := if a.bad then 255 else 0 }

end Sys2Proof.Machine
end

