-- ==== Sys2Proof/Machine/Operands.lean ====
section
/-! DEFINITION. Operand forms (R10, R202 to R206, R262, R318), how a word that only writes results goes through its group (R282, R285), how a result rides on a token
(R206), immediates and prefixes (R266 to R268). Every meaning of a word acts on the group at the head of the issue queue. -/

namespace Sys2Proof.Machine

open Sys2Proof

/-! ## The group at work -/

/-- A meaning of a word: what it does to the group at the head of the issue queue; nothing where no group is in issue. -/
def State.word (s : State) (body : State → Grp → State) : State :=
  match s.core.issue with
  | [] => s
  | g :: _ => body s g

/-- The word has issued: the next is due, its prefixes are used up. -/
def Grp.adv (g : Grp) : Grp := { g with idx := g.idx + 1, kext := [], qual := none, stage := 0, stallTx := [] }

/-- s with a group that has issued its word. -/
def State.advance (s : State) (g : Grp) : State := s.updGrp g.id (fun _ => g.adv)

/-- The immediate of a field of w bits at its extended width (R267). -/
def Grp.imm (g : Grp) (w field : Nat) : Nat := (g.kext.foldl (fun n p => n * 2 ^ 24 + p) 0) * 2 ^ w + field

/-- The extended width of a field (R266). -/
def Grp.immWidth (g : Grp) (w : Nat) : Nat := w + 24 * g.kext.length

/-- The lanes a guard lets through. -/
def Grp.active (g : Grp) (gd : BitVec 3) : List RLane := g.lanes.filter (fun l => l.gate gd == .on)

/-- The lanes whose guard is poisoned. -/
def Grp.guardPois (g : Grp) (gd : BitVec 3) : List RLane := g.lanes.filter (fun l => l.gate gd == .pois)

/-- Gang slots of a list of lanes, rising (gangs of R352). -/
def slotsOf (ls : List RLane) : List Nat := (List.range 32).filter (fun x => ls.any (fun l => l.slot == x))

/-! ## Reading and writing registers -/

/-- An operand code read in a lane: V and X as at the start of the run (R318), latches, operand-cache entries and temporaries as earlier words of
the run left them; or the cause of a trap (R202, R203, R205). -/
def State.read (s : State) (g : Grp) (l : RLane) (code : Nat) : Except Nat PVal :=
  if code < 96 then
    match s.gang g.core l.slot with
    | some x => if code < 64 || x.xacq then .ok (x.reg code l.lane) else .error 0x14
    | none => .error 0x14
  else if code < 104 then
    if code - 96 < g.shifted then .ok ((l.lat.drop (code - 96)).headD pzero) else .error 0x13
  else if code < 112 then
    match nget none l.o (code - 104) with
    | some p => .ok p
    | none =>
      match s.gang g.core l.slot with
      | some x => match x.oc (code - 104) l.lane with
        | some p => .ok p
        | none => .error 0x13
      | none => .error 0x13
  else if g.named.contains code then .ok (nget pzero l.tmp code) else .error 0x13

/-- The value of an operand that is known to be readable. -/
def State.readD (s : State) (g : Grp) (l : RLane) (code : Nat) : PVal :=
  match s.read g l code with
  | .ok p => p
  | .error _ => pzero

/-- A destination an X register may be written in: its gang holds a block (R205). -/
def State.dstOk (s : State) (g : Grp) (l : RLane) (d : Nat) : Bool :=
  if 64 ≤ d ∧ d < 96 then
    match s.gang g.core l.slot with
    | some x => x.xacq
    | none => false
  else true

/-- The trap that reading an operand meets. -/
def State.readTrap (s : State) (g : Grp) (l : RLane) (c : Nat) : Option Nat :=
  match s.read g l c with
  | .ok _ => none
  | .error e => some e

/-- The first trap that reading sources and writing destinations meets in some lanes. -/
def State.operandTrap (s : State) (g : Grp) (ls : List RLane) (srcs dsts : List Nat) : Option Nat :=
  match ls.flatMap (fun l => srcs.filterMap (s.readTrap g l)) with
  | e :: _ => some e
  | [] => if ls.all (fun l => dsts.all (fun d => s.dstOk g l d)) then none else some 0x14

/-- A result enters its register level; V and X wait for the trailer (R204). -/
def RLane.put (l : RLane) (d : Nat) (p : PVal) : RLane :=
  if d < 96 then { l with wr := l.wr ++ [(d, p)] }
  else if 104 ≤ d ∧ d < 112 then { l with o := nset none l.o (d - 104) (some p) }
  else if 112 ≤ d then { l with tmp := nset pzero l.tmp d p }
  else l

/-- A result enters the latch window (R202). -/
def RLane.shift (l : RLane) (p : PVal) : RLane := { l with lat := (p :: l.lat).take 8 }

/-- The result of a word in an active lane. -/
def RLane.result (l : RLane) (d : Nat) (p : PVal) : RLane := (l.put d p).shift p

/-- A lane whose guard is false: the latch takes the destination's previous value, or 0 for 96 (R202); a temporary then holds 0 (R203). -/
def State.offLane (s : State) (g : Grp) (l : RLane) (d : Nat) : RLane :=
  let l' := l.shift (if d = 96 then pzero else s.readD g l d)
  if 112 ≤ d then { l' with tmp := nset pzero l'.tmp d pzero } else l'

/-- The group after a word with a destination field: the window has shifted, a temporary is named. -/
def Grp.shiftedTo (g : Grp) (d : Nat) (lanes : List RLane) : Grp :=
  { g with lanes := lanes, shifted := g.shifted + 1, named := if 112 ≤ d then d :: g.named else g.named }

/-- A lane behind a false guard after a word whose result takes several registers: each temporary among them holds 0 (R203). -/
def State.offLanes (s : State) (g : Grp) (l : RLane) (ds : List Nat) : RLane :=
  (ds.drop 1).foldl (fun (l : RLane) d => if 112 ≤ d then { l with tmp := nset pzero l.tmp d pzero } else l) (s.offLane g l (ds.headD 96))

/-- The group after such a word: all of its temporaries are named. -/
def Grp.shiftedToAll (g : Grp) (ds : List Nat) (lanes : List RLane) : Grp :=
  let g1 := g.shiftedTo (ds.headD 96) lanes
  { g1 with named := (ds.drop 1).filter (fun d => decide (112 ≤ d)) ++ g1.named }

/-! ## Words that only write results -/

/-- A lane after a lane-wise word, and what it logs: f of the values where the guard lets it through; a poisoned input gives derived poison and logs nothing
(R285); a poisoned guard writes derived poison (R261). -/
def State.laneStep (s : State) (g : Grp) (gd : BitVec 3) (d : Nat) (srcs : List Nat) (np : Nat) (f : RLane → List Nat → Nat × List Nat) (l : RLane) :
    RLane × List Nat :=
  match l.gate gd with
  | .off => (s.offLane g l d, [])
  | .pois => (l.result d derivedPoison, [])
  | .on =>
    let vs := srcs.map (s.readD g l)
    if vs.any PVal.bad || (List.range np).any (fun k => l.pp (k + 1)) then (l.result d derivedPoison, [])
    else
      let r := f l (vs.map (fun v => v.val.toNat))
      (l.result d (clean (BitVec.ofNat 32 r.1)), r.2)

/-- An arithmetic log with the causes of some lanes. -/
def logAll (a : List (Nat × Nat × Nat)) (rs : List (RLane × List Nat)) : List (Nat × Nat × Nat) :=
  rs.foldl (fun a r => r.2.foldl (fun a c => addArith a r.1.slot c r.1.lane) a) a

/-- A lane-wise word with destination d, sources srcs and the np newest predicate entries as inputs: LIVENESS and XREG first, then each lane by itself. f answers the
32-bit result and the causes of R211 it logs. -/
def State.lanewise (s : State) (gd : BitVec 3) (d : Nat) (srcs : List Nat) (np : Nat) (f : RLane → List Nat → Nat × List Nat) : State :=
  s.word (fun s g =>
    if !g.deep (max (guardEntry gd) np) then s.coreTrap g 0x13 g.lanes
    else
      match s.operandTrap g (g.active gd) srcs [d], s.operandTrap g (g.guardPois gd) [] [d] with
      | some c, _ => s.coreTrap g c g.lanes
      | none, some c => s.coreTrap g c g.lanes
      | none, none =>
        let rs := g.lanes.map (s.laneStep g gd d srcs np f)
        s.advance { g.shiftedTo d (rs.map (fun r => r.1)) with arith := logAll g.arith rs })

/-- A lane-wise word that logs nothing. -/
def State.lanewise' (s : State) (gd : BitVec 3) (d : Nat) (srcs : List Nat) (f : List Nat → Nat) : State :=
  s.lanewise gd d srcs 0 (fun _ vs => (f vs, []))

/-- A two-operand integer word (R286, R290, R291, R303). -/
def State.int2 (s : State) (gd : BitVec 3) (d a b : BitVec 7) (f : Nat → Nat → Nat) : State :=
  s.lanewise' gd d.toNat [a.toNat, b.toNat] (fun vs => match vs with | [x, y] => f x y | _ => 0)

/-- A one-operand integer word (R289). -/
def State.int1 (s : State) (gd : BitVec 3) (d a : BitVec 7) (f : Nat → Nat) : State :=
  s.lanewise' gd d.toNat [a.toNat] (fun vs => match vs with | [x] => f x | _ => 0)

/-- A two-operand word that may log. -/
def State.log2 (s : State) (gd : BitVec 3) (d a b : BitVec 7) (f : Nat → Nat → Nat × List Nat) : State :=
  s.lanewise gd d.toNat [a.toNat, b.toNat] 0 (fun _ vs => match vs with | [x, y] => f x y | _ => (0, []))

/-- An accumulating word (R262). -/
def State.log3 (s : State) (gd : BitVec 3) (d a b : BitVec 7) (f : Nat → Nat → Nat → Nat × List Nat) : State :=
  s.lanewise gd d.toNat [a.toNat, b.toNat, d.toNat] 0 (fun _ vs => match vs with | [x, y, z] => f x y z | _ => (0, []))

/-- A one-operand word that may log. -/
def State.log1 (s : State) (gd : BitVec 3) (d a : BitVec 7) (f : Nat → Nat × List Nat) : State :=
  s.lanewise gd d.toNat [a.toNat] 0 (fun _ vs => match vs with | [x] => f x | _ => (0, []))

/-! ## Predicate words -/

/-- A word without guard that changes the predicate register of every lane, with sources srcs and the depth it needs (R304 to R306). -/
def State.predWord (s : State) (need : Nat) (srcs : List Nat) (f : RLane → List PVal → RLane × List Nat) : State :=
  s.word (fun s g =>
    if !g.deep need then s.coreTrap g 0x13 g.lanes
    else
      match s.operandTrap g g.lanes srcs [] with
      | some c => s.coreTrap g c g.lanes
      | none =>
        let rs := g.lanes.map (fun l => f l (srcs.map (s.readD g l)))
        s.advance { g with lanes := rs.map (fun r => r.1), arith := logAll g.arith rs })

/-! ## Tokens -/

/-- A lane of a token whose data is known and comes from no line. -/
def doneLane (l : RLane) (vs : List PVal) : TLane :=
  { slot := l.slot, lane := l.lane, va := 0, pa := 2 ^ 60, own := [], fmt := 0, lost := [], vals := some vs, drop := false, walk := none }

/-- A lane of a load whose translation has failed with no free entry: pending until one frees (R135). -/
def waitingLane (l : RLane) (va fmt walk : Nat) : TLane := { doneLane l [] with va := va, fmt := fmt, vals := none, walk := some walk }

/-- Token k of a lane's thread is pending (R206). -/
def State.tokPending (s : State) (core slot lane k : Nat) : Bool :=
  s.core.toks.any (fun t => t.core == core && t.k == k && t.lanes.any (fun l => l.slot == slot && l.lane == lane))

/-- Some lane of the group has token k pending: the word stalls (R206). -/
def State.tokBusy (s : State) (g : Grp) (k : Nat) : Bool := g.lanes.any (fun l => s.tokPending g.core l.slot l.lane k)

/-- A token is named; with all its data there it completes (R206). No lane, no token. -/
def State.nameToken (s : State) (t : Token) : State :=
  if t.lanes.isEmpty then s
  else
    let id := s.ctl.nextId
    let s1 := { s.bump with core.toks := s.core.toks ++ [{ t with id := id }] }
    if t.lanes.all (fun l => l.vals.isSome) then s1.send (.tokenComplete id) else s1

/-- The token of a word of a group, its data in registers from d on. -/
def Grp.token (g : Grp) (k d n : Nat) (lanes : List TLane) : Token :=
  { id := 0, core := g.core, ctx := g.ctx, k := k, dst := d, n := n, size := 4, sx := false, strong := false, grp := g.id, dead := false, lanes := lanes }

/-- A word with one result on a token: traps and stall first, then f gives the result of each lane that gets one, from the active lanes and what they read, with the
causes logged for a lane. -/
def State.tokWord (s : State) (gd : BitVec 3) (d k : Nat) (srcs : List Nat)
    (f : List (RLane × List PVal) → RLane → Gate → Option (PVal × List Nat)) : State :=
  s.word (fun s g =>
    if !g.deep (guardEntry gd) then s.coreTrap g 0x13 g.lanes
    else
      match s.operandTrap g (g.active gd) srcs [d], s.operandTrap g (g.guardPois gd) [] [d] with
      | some c, _ => s.coreTrap g c g.lanes
      | none, some c => s.coreTrap g c g.lanes
      | none, none =>
        if s.tokBusy g k then s.rotate
        else
          let acts := (g.active gd).map (fun l => (l, srcs.map (s.readD g l)))
          let rs := g.lanes.filterMap (fun l => (f acts l (l.gate gd)).map (fun r => (l, r)))
          (s.nameToken (g.token k d 1 (rs.map (fun r => doneLane r.1 [r.2.1])))).advance
            { g with arith := logAll g.arith (rs.map (fun r => (r.1, r.2.2))) })

/-- A special-function word (R284, R297): lane-wise on a token. -/
def State.funWord (s : State) (gd : BitVec 3) (d a : BitVec 7) (k : BitVec 3) (f : Nat → Nat × List Nat) : State :=
  s.tokWord gd d.toNat k.toNat [a.toNat] (fun acts l gt =>
    match gt with
    | .off => none
    | .pois => some (derivedPoison, [])
    | .on =>
      match acts.find? (fun x => x.1.lane == l.lane) with
      | some (_, [v]) => if v.bad then some (derivedPoison, []) else let r := f v.val.toNat; some (clean (BitVec.ofNat 32 r.1), r.2)
      | _ => none)

/-- set(l) of R282 with what its lanes read, in increasing lane position. -/
def setOf (acts : List (RLane × List PVal)) (l : RLane) : List (RLane × PVal) :=
  (acts.filter (fun x => x.1.slot == l.slot)).map (fun x => (x.1, x.2.headD pzero))

/-- A cross-lane word (R308): f gives the result of an active lane from its set(l), derived poison where a value of the set is poisoned (R285). -/
def State.crossWord (s : State) (gd : BitVec 3) (d a : BitVec 7) (k : BitVec 3) (f : List (RLane × PVal) → RLane → Nat × List Nat) : State :=
  s.tokWord gd d.toNat k.toNat [a.toNat] (fun acts l gt =>
    match gt with
    | .off => none
    | .pois => some (derivedPoison, [])
    | .on =>
      let st := setOf acts l
      if st.any (fun x => x.2.bad) then some (derivedPoison, []) else let r := f st l; some (clean (BitVec.ofNat 32 r.1), r.2))

/-! ## Words that consume poison -/

/-- uniform of R282: the value in the lowest lane given, and the lanes that log NUNIF. -/
def uniformOf (vs : List (RLane × PVal)) : PVal × List (Nat × Nat × Nat) :=
  match vs with
  | [] => (pzero, [])
  | v :: _ =>
    if vs.all (fun x => x.2.val == v.2.val) then (v.2, []) else (v.2, vs.map (fun x => (x.1.slot, 5, x.1.lane)))

/-- The checks of a word that consumes poison (R138): LIVENESS, XREG, then a poisoned guard or source, which traps or waits (acc: the access kind its entries record). What follows acts on the
active lanes and what they read. -/
def State.consume (s : State) (acc : Nat) (gd : BitVec 3) (srcs : List Nat) (body : State → Grp → List (RLane × List PVal) → State) : State :=
  s.word (fun s g =>
    if !g.deep (guardEntry gd) then s.coreTrap g 0x13 g.lanes
    else
      match s.operandTrap g (g.active gd) srcs [] with
      | some c => s.coreTrap g c g.lanes
      | none =>
        let acts := (g.active gd).map (fun l => (l, srcs.map (s.readD g l)))
        let bad := (g.guardPois gd).map (fun l => (l, derivedPoison)) ++
          acts.filterMap (fun x => (x.2.find? PVal.bad).map (fun p => (x.1, p)))
        if !bad.isEmpty then s.poisonTrap g acc bad else body s g acts)

/-- A trailer effect joins the group's list (R209). -/
def Grp.addFx (g : Grp) (l : List Fx) : Grp := { g with fx := g.fx ++ l }

/-- NUNIF records join the group's log. -/
def Grp.addLog (g : Grp) (l : List (Nat × Nat × Nat)) : Grp := { g with arith := l.foldl (fun a e => addArith a e.1 e.2.1 e.2.2) g.arith }

/-! ## Scratchpad -/

/-- n bytes of a gang's allocation. -/
def Gang.spadBytes (g : Gang) (off n : Nat) : List Byte := (List.range n).map (fun i => nget 0 g.spad (off + i))

/-- The 64-bit words of the allocation a range touches carry poison. -/
def Gang.spadPois (g : Gang) (off n : Nat) : Bool := g.spois.any (fun w => decide (off < 8 * w + 8) && decide (8 * w < off + n))

/-- g with bytes of its allocation written; a full 64-bit word clears its poison (R106). -/
def Gang.spadPut (g : Gang) (off : Nat) (bytes : List Byte) : Gang :=
  { g with spad := ((List.range bytes.length).zip bytes).foldl (fun m e => nset 0 m (off + e.1) e.2) g.spad,
           spois := g.spois.filter (fun w => !(decide (off ≤ 8 * w) && decide (8 * w + 8 ≤ off + bytes.length))) }

/-- The swizzle of R219 and R268. -/
def swizzle (sw a : Nat) : Nat := if sw = 0 then a else a ^^^ (a / 2 ^ (6 + sw) % 4 * 32)

end Sys2Proof.Machine
end

