-- ==== Sys2Proof/Machine/Debug.lean ====
section
/-! DEFINITION. The notice board's records and debug stops (R390 to R404): what the device writes to the board, stop sets, and breakpoints and watchpoints as the
cores check them. The commands are events of Board.lean. -/

namespace Sys2Proof.Machine

open Sys2Proof

/-- The fields of a record that its code uses (R395). -/
structure NbRec where
  code : Nat
  stat : Nat := 0
  gang : Nat := 0
  pc : Nat := 0
  lanes : Nat := 0
  other : Nat := 0
  arg : Nat := 0
  data : Nat := 0
deriving DecidableEq, Repr

/-- A write of the device to the board, within a line: after those before it (R392, R395). -/
def State.boardStore (s : State) (off : Nat) (bytes : List Byte) : State :=
  match (s.coh.txs.filter (fun t => t.core == 384 && !t.atHome && 128 * t.line / 4096 == s.nbBase / 4096)).getLast? with
  | some t => s.devStoreAfter (s.nbBase + off) bytes t.id
  | none => s.devStore (s.nbBase + off) bytes none

/-- A record written to the board, then ESEQ (R395). -/
def State.nbRecord (s : State) (r : NbRec) : State :=
  if !bit s.nb.nbctl.toNat 0 then s
  else
    let n := (s.nb.eseq + 1) % 2 ^ 32
    let serial := s.ten.serial + 1
    let bytes := leBytes 4 n ++ leBytes 1 r.code ++ leBytes 1 r.stat ++ leBytes 2 r.gang ++ leBytes 4 r.pc ++ leBytes 4 r.lanes ++
      leBytes 4 r.other ++ leBytes 4 r.arg ++ leBytes 4 r.data ++ leBytes 4 serial
    let s1 := { s with nb.eseq := n, ten.serial := serial }
    (s1.boardStore (0x800 + 32 * ((n + 2 ^ 32 - 1) % 2 ^ 32 % 64)) bytes).boardStore 0x84 (leBytes 4 n)

/-- ATTQ and ATTCTX as they stand (R391). -/
def State.nbStatus (s : State) : State :=
  let queue := match s.nb.heldCtx.bind s.launch with
    | some l => l.queue
    | none => s.nb.armed.getD 0
  let attq := (if s.nb.heldCtx.isSome then 2 ^ 31 else 0) + (if s.nb.armed.isSome then 2 ^ 30 else 0) + queue
  s.boardStore 0x88 (leBytes 4 attq ++ leBytes 4 (s.nb.heldCtx.getD 0))

/-- A context is held by the board (R397). -/
def State.held (s : State) (ctx : Nat) : Bool := s.nb.heldCtx == some ctx

/-- Threads of one gang stop at one packet for one reason: one fault entry with cause BREAK and one STOP record (R398). With no free entry they wait (R135). -/
def State.stopSet (s : State) (core slot : Nat) (lanes : List Nat) (reason : Nat) (r : NbRec) : State :=
  match s.gang core slot with
  | none => s
  | some x =>
    match s.freeFid x.ctx with
    | none => lanes.foldl (fun (s : State) l => s.updThread core slot l (fun t => { t with hold := .noEntry, inRun := false })) s
    | some fid =>
      let s1 := s.newFault x.ctx fid s.openVa 0x0C 3 (srcCore core) (some (x.gang, reason))
      let s2 := lanes.foldl (fun (s : State) l =>
        (s.killOps core slot l).updThread core slot l (fun t => { t with status := .faultwait, fid := fid, inRun := false, stepping := false })) s1
      s2.nbRecord { r with code := 3, stat := reason, gang := x.gang, lanes := maskOf lanes }

/-- Why a thread at a run start stops there (a thread released by STEP has one run, which the halt state lets it have), by the held launch's breakpoints and halting rules (R399, R401, R402): 1 BP, 2 HALT, 3 STEP. -/
def State.stopReason (s : State) (x : Gang) (lane pc : Nat) : Option Nat :=
  let t := x.thread lane
  if !s.held x.ctx then none
  else if t.stepping && !t.quiet then some 3
  else if s.nb.halted.contains x.gang && !(t.stepping && t.quiet) then some 2
  else if s.nb.bps.any (fun b => b.2 == pc) && !t.quiet then some 1
  else none

/-- A watchpoint covers a gang. -/
def Watch.covers (w : Watch) (x : Gang) : Bool := w.gang == 0xFFFFFFFF || w.gang == x.gang

/-- The watchpoints that a lane's access hits (R400). -/
def State.watchHit (s : State) (x : Gang) (lane off n : Nat) (write : Bool) : List (Nat × Watch) :=
  if s.held x.ctx && !(x.thread lane).quiet then
    s.nb.wps.filter (fun w => w.2.covers x && bit w.2.flags (if write then 1 else 0) && decide (off < w.2.off + w.2.len) && decide (w.2.off < off + n))
  else []

/-- The watchpoint hits of a word: lane, offset, data (R400). -/
def State.watchHits (s : State) (g : Grp) (write : Bool) (n : Nat) (acc : List (RLane × Nat × Nat)) : List (RLane × Nat × Nat) :=
  acc.filter (fun a => match s.gang g.core a.1.slot with
    | some x => !(s.watchHit x a.1.lane a.2.1 n write).isEmpty
    | none => false)

/-- A word's watchpoint hits: the run is abandoned, the threads of the gangs that a hit slot covers stop with reason WATCH, gang by gang, the others restart (R398, R400). For one
released by STEP the abandoned run was its one run (R402). -/
def State.watchTrap (s : State) (g : Grp) (write : Bool) (n : Nat) (hits : List (RLane × Nat × Nat)) : State :=
  let wps := hits.flatMap (fun h => match s.gang g.core h.1.slot with | some x => s.watchHit x h.1.lane h.2.1 n write | none => [])
  let s0 := s.abandon g
  let s1 := g.lanes.foldl (fun (s : State) l => s.updThread g.core l.slot l.lane (fun t => { t with quiet := t.quiet && !t.stepping })) s0
  let number (slot : Nat) : Nat := match s.gang g.core slot with | some x => x.gang | none => 0
  (sortBy number (slotsOf g.lanes)).foldl (fun (s : State) slot =>
    match s.gang g.core slot with
    | none => s
    | some x =>
      if !wps.any (fun w => w.2.covers x) then s
      else
        let mine := hits.filter (fun h => h.1.slot == slot)
        let first := mine.head?
        s.stopSet g.core slot ((g.lanes.filter (fun l => l.slot == slot)).map (fun l => l.lane)) 4
          { code := 3, pc := g.pc, other := maskOf (mine.map (fun h => h.1.lane)), arg := (first.map (fun h => h.2.1)).getD 0,
            data := (first.map (fun h => h.2.2)).getD 0 }) s1

/-- No thread of a gang is on its way: each is at a debug stop, parked, exited or empty (R401). -/
def gangStill (x : Gang) : Bool := x.threads.all (fun t => t.status != .runnable)

/-- Lanes of a gang at a debug stop, and lanes parked otherwise (R395). -/
def State.stillLanes (s : State) (x : Gang) : Nat × Nat :=
  let at_ (l : Nat) : Bool :=
    let t := x.thread l
    t.status == .faultwait && s.xl.faults.any (fun f => f.ctx == x.ctx && f.fid == t.fid && f.stop.isSome)
  let parked (l : Nat) : Bool :=
    let t := x.thread l
    t.status == .joinwait || t.status == .svcwait || (t.status == .faultwait && !at_ l)
  (maskOf ((List.range 32).filter at_), maskOf ((List.range 32).filter parked))

end Sys2Proof.Machine
end

