-- ==== Sys2Proof/Machine/Num.lean ====
section
/-! DEFINITION. Number formats (R222 to R226), rounding and conversion (R228 to R230), and the F32 and F64 operations of R294 to R299. Numbers are exact: a
finite value is (-1)^s * m * 2^e. Logged causes are the codes of R211. -/

namespace Sys2Proof.Machine

open Sys2Proof

/-- A floating-point value: NaN (signalling or quiet), an infinity, or a finite value. -/
inductive Num where
  | nan (sig : Bool)
  | inf (s : Bool)
  | fin (s : Bool) (m : Nat) (e : Int)
deriving DecidableEq, Repr, Inhabited

/-- A floating-point format: its width, exponent and trailing bits, bias; signed; binary8; with infinities (R222 to R225). -/
structure FFmt where
  w : Nat
  ebits : Nat
  t : Nat
  bias : Nat
  signed : Bool
  b8 : Bool
  hasInf : Bool
deriving DecidableEq, Repr, Inhabited

/-- F32 (R225). -/
def fF32 : FFmt := { w := 32, ebits := 8, t := 23, bias := 127, signed := true, b8 := false, hasInf := true }
/-- F64. -/
def fF64 : FFmt := { w := 64, ebits := 11, t := 52, bias := 1023, signed := true, b8 := false, hasInf := true }

/-- The floating format of a code (R11), or none. -/
def floatFmt (code : Nat) : Option FFmt :=
  let p := code % 8 + 1
  match code / 8 with
  | 2 => if p ≤ 7 then some { w := 8, ebits := 8 - p, t := p - 1, bias := 2 ^ (7 - p), signed := true, b8 := true, hasInf := false } else none
  | 3 => if p ≤ 7 then some { w := 8, ebits := 8 - p, t := p - 1, bias := 2 ^ (7 - p), signed := true, b8 := true, hasInf := true } else none
  | 4 => if p ≤ 7 then some { w := 8, ebits := 9 - p, t := p - 1, bias := 2 ^ (8 - p), signed := false, b8 := true, hasInf := false } else none
  | 5 => if p ≤ 7 then some { w := 8, ebits := 9 - p, t := p - 1, bias := 2 ^ (8 - p), signed := false, b8 := true, hasInf := true } else none
  | 10 =>
    match p with
    | 1 => some { w := 16, ebits := 5, t := 10, bias := 15, signed := true, b8 := false, hasInf := true }
    | 2 => some { w := 16, ebits := 8, t := 7, bias := 127, signed := true, b8 := false, hasInf := true }
    | 3 => some fF32
    | 4 => some fF64
    | _ => none
  | _ => none

/-- The integer format of a code (R11): width and signedness. -/
def intFmt (code : Nat) : Option (Nat × Bool) :=
  if 0x40 ≤ code ∧ code ≤ 0x49 then some (2 ^ ((code - 0x40) / 2 + 2), code % 2 == 0) else none

/-- The width in bits of a format code; 0 for one R11 does not list. -/
def fmtBits (code : Nat) : Nat :=
  match floatFmt code with
  | some f => f.w
  | none => match intFmt code with
    | some i => i.1
    | none => 0

/-! ## Decoding and encoding -/

/-- The NaN code of a format (R222, R223, R225). -/
def FFmt.nanCode (f : FFmt) : Nat :=
  if f.b8 then (if f.signed then 0x80 else 0xFF)
  else (2 ^ f.ebits - 1) * 2 ^ f.t + 2 ^ (f.t - 1)

/-- The code of an infinity. -/
def FFmt.infCode (f : FFmt) (s : Bool) : Nat :=
  if f.b8 then (if f.signed then (if s then 0xFF else 0x7F) else 0xFE)
  else (if s then 2 ^ (f.w - 1) else 0) + (2 ^ f.ebits - 1) * 2 ^ f.t

/-- The code of the largest finite value of a sign (R224). -/
def FFmt.maxCode (f : FFmt) (s : Bool) : Nat :=
  if f.b8 then
    let c := (if f.signed then 0x7F else 0xFE) - (if f.hasInf then 1 else 0)
    if s then 0x80 + c else c
  else (if s then 2 ^ (f.w - 1) else 0) + (2 ^ f.ebits - 1) * 2 ^ f.t - 1

/-- The code of a zero of a sign (R229). -/
def FFmt.zeroCode (f : FFmt) (s : Bool) : Nat := if f.b8 then 0 else if s then 2 ^ (f.w - 1) else 0

/-- The value of a code in a format. -/
def FFmt.decode (f : FFmt) (c : Nat) : Num :=
  let s := f.signed && bit c (f.w - 1)
  let e := c / 2 ^ f.t % 2 ^ f.ebits
  let t := c % 2 ^ f.t
  let fin : Num :=
    if e = 0 then .fin s t (1 - (f.bias : Int) - (f.t : Int)) else .fin s (2 ^ f.t + t) ((e : Int) - (f.bias : Int) - (f.t : Int))
  if f.b8 then
    if c = f.nanCode then .nan false
    else if f.hasInf && c == f.infCode s then .inf s
    else fin
  else if e = 2 ^ f.ebits - 1 then (if t = 0 then .inf s else .nan (!bit t (f.t - 1)))
  else fin

/-- The sign of a value; NaN counts as positive. -/
def Num.sign : Num → Bool
  | .nan _ => false
  | .inf s => s
  | .fin s _ _ => s

/-- A value is a NaN. -/
def Num.isNan : Num → Bool
  | .nan _ => true
  | _ => false

/-- A value is a signalling NaN. -/
def Num.isSig : Num → Bool
  | .nan s => s
  | _ => false

/-- rnd(m / 2^k, rm, s) of R229: m a natural number, k at least 0. -/
def rndShift (m k₀ rm : Nat) (s : Bool) : Nat :=
  -- beyond the length of m and two more bits, one shift is as good as another
  let k := min k₀ (Nat.log2 m + 3)
  let n := m / 2 ^ k
  let r := m % 2 ^ k
  let up : Bool :=
    match rm with
    | 0 => decide (2 * r > 2 ^ k) || (decide (2 * r = 2 ^ k) && n % 2 == 1)
    | 1 => false
    | 2 => decide (0 < r) && !s
    | 3 => decide (0 < r) && s
    | _ => decide (0 < r) && decide (2 * r ≥ 2 ^ k)
  if up then n + 1 else n

/-- rnd(m * 2^e / 2^q). -/
def rndAt (m : Nat) (e q : Int) (rm : Nat) (s : Bool) : Nat :=
  if e ≥ q then m * 2 ^ (e - q).toNat else rndShift m (q - e).toNat rm s

/-- floor(log2(m * 2^e)) for m above 0. -/
def ilog2 (m : Nat) (e : Int) : Int := (Nat.log2 m : Int) + e

/-- m1 * 2^e1 is less than m2 * 2^e2. -/
def dyLt (m1 : Nat) (e1 : Int) (m2 : Nat) (e2 : Int) : Bool :=
  if m1 = 0 ∨ m2 = 0 then decide (m1 = 0 ∧ m2 ≠ 0)
  else if ilog2 m1 e1 ≠ ilog2 m2 e2 then decide (ilog2 m1 e1 < ilog2 m2 e2)
  else
    let e := min e1 e2
    decide (m1 * 2 ^ (e1 - e).toNat < m2 * 2 ^ (e2 - e).toNat)

/-- FINITE of R229: the code of n * 2^q, where n has at most t + 2 bits and q is as convert chooses it. -/
def FFmt.finite (f : FFmt) (s : Bool) (n : Nat) (q : Int) : Nat :=
  let sgn := if s then 2 ^ (f.w - 1) else 0
  if n < 2 ^ f.t then sgn + n
  else
    let up := decide (n ≥ 2 ^ (f.t + 1))
    let n' := if up then n / 2 else n
    let e := q + (f.t : Int) + (f.bias : Int) + (if up then 1 else 0)
    sgn + e.toNat * 2 ^ f.t + (n' - 2 ^ f.t)

/-- convert of R229: the code, and the causes logged. ovf is true for INF. -/
def convert (x : Num) (f : FFmt) (rm : Nat) (ovf : Bool) : Nat × List Nat :=
  match x with
  | .nan sig => (f.nanCode, if sig then [1] else [])
  | .inf s =>
    if !f.signed && s then (if ovf then f.nanCode else f.zeroCode false, [1])
    else if ovf && f.hasInf then (f.infCode s, [])
    else if !ovf then (f.maxCode s, [])
    else (f.nanCode, [1])
  | .fin s m e =>
    let q := max (ilog2 m e) (1 - (f.bias : Int)) - (f.t : Int)
    let n := if m = 0 then 0 else rndAt m e q rm s
    if !f.signed && s then
      if n = 0 then (f.zeroCode false, []) else (if ovf then f.nanCode else f.zeroCode false, [1])
    else
      let past := match f.decode (f.maxCode false) with
        | .fin _ mm me => dyLt mm me n q
        | _ => false
      if past then
        if !ovf || rm == 1 || (rm == 2 && s) || (rm == 3 && !s) then (f.maxCode s, [3])
        else if f.hasInf then (f.infCode s, [3]) else (f.nanCode, [3])
      else if n = 0 then (f.zeroCode s, [])
      else (f.finite s n q, [])

/-- The least and greatest values of an integer format. -/
def intMax (w : Nat) (signed : Bool) : Int := if signed then 2 ^ (w - 1) - 1 else 2 ^ w - 1
/-- The least value. -/
def intMin (w : Nat) (signed : Bool) : Int := if signed then -(2 ^ (w - 1)) else 0

/-- convert_int of R230, modulo 2^w. -/
def convertInt (x : Num) (w : Nat) (signed : Bool) (rm : Nat) : Nat × List Nat :=
  match x with
  | .nan _ => (0, [1])
  | .inf s => (ofInt w (if s then intMin w signed else intMax w signed), [1])
  | .fin s m e =>
    let a : Nat := rndAt m e 0 rm s
    let n : Int := if s then -(a : Int) else a
    if n > intMax w signed then (ofInt w (intMax w signed), [1])
    else if n < intMin w signed then (ofInt w (intMin w signed), [1])
    else (ofInt w n, [])

/-- An integer as a value. -/
def numOfInt (n : Int) : Num := .fin (decide (n < 0)) n.natAbs 0

/-- value of R282. -/
def f32Val (x : Nat) : Num := fF32.decode x

/-- round32 of R282. -/
def round32 (x : Num) (rm : Nat) : Nat × List Nat := convert x fF32 rm true

/-! ## Arithmetic -/

/-- The sum of two finite values with its sign at zero left to the caller. -/
def addFin (s1 : Bool) (m1 : Nat) (e1 : Int) (s2 : Bool) (m2 : Nat) (e2 : Int) : Bool × Nat × Int :=
  let e := min e1 e2
  let a : Int := (m1 * 2 ^ (e1 - e).toNat : Nat)
  let b : Int := (m2 * 2 ^ (e2 - e).toNat : Nat)
  let r := (if s1 then -a else a) + (if s2 then -b else b)
  (decide (r < 0), r.natAbs, e)

/-- The rounding of a sum of two addends, neither NaN (R294): the sign of an exact zero, infinities of both signs. -/
def addNum (f : FFmt) (rm : Nat) (x y : Num) : Nat × List Nat :=
  match x, y with
  | .fin s1 m1 e1, .fin s2 m2 e2 =>
    let r := addFin s1 m1 e1 s2 m2 e2
    if r.2.1 = 0 then
      let z := if m1 = 0 ∧ m2 = 0 ∧ s1 = s2 then s1 else rm == 3
      (f.zeroCode z, [])
    else convert (.fin r.1 r.2.1 r.2.2) f rm true
  | .inf s1, .inf s2 => if s1 = s2 then (f.infCode s1, []) else (f.nanCode, [1])
  | .inf s, _ => (f.infCode s, [])
  | _, .inf s => (f.infCode s, [])
  | _, _ => (f.nanCode, [])

/-- The exact product of two values, neither NaN; none for 0 times infinity. -/
def mulNum (x y : Num) : Option Num :=
  let s := x.sign != y.sign
  match x, y with
  | .fin _ m1 e1, .fin _ m2 e2 => some (.fin s (m1 * m2) (e1 + e2))
  | .fin _ m _, _ => if m = 0 then none else some (.inf s)
  | _, .fin _ m _ => if m = 0 then none else some (.inf s)
  | _, _ => some (.inf s)

/-- The negation of a value. -/
def Num.neg : Num → Num
  | .nan s => .nan s
  | .inf s => .inf (!s)
  | .fin s m e => .fin (!s) m e

/-- INVALID where an input is a signalling NaN (R294). -/
def sigLog (l : List Num) : List Nat := if l.any Num.isSig then [1] else []

/-- fop of R294 for A + B in a format. -/
def fopAdd (f : FFmt) (rm : Nat) (x y : Num) : Nat × List Nat :=
  if x.isNan || y.isNan then (f.nanCode, sigLog [x, y]) else addNum f rm x y

/-- fop for A * B. -/
def fopMul (f : FFmt) (rm : Nat) (x y : Num) : Nat × List Nat :=
  if x.isNan || y.isNan then (f.nanCode, sigLog [x, y])
  else match mulNum x y with
    | none => (f.nanCode, [1])
    | some (.fin s 0 _) => (f.zeroCode s, [])
    | some p => convert p f rm true

/-- fop for A * B + D. -/
def fopFma (f : FFmt) (rm : Nat) (x y z : Num) : Nat × List Nat :=
  if x.isNan || y.isNan || z.isNan then (f.nanCode, sigLog [x, y, z])
  else match mulNum x y with
    | none => (f.nanCode, [1])
    | some p => addNum f rm p z

/-- FMIN and FMAX (R295) on F32 bits. -/
def fminmax (mx : Bool) (a b : Nat) : Nat × List Nat :=
  let x := f32Val a
  let y := f32Val b
  let lg := sigLog [x, y]
  -- a total order of the codes of numbers, with -0 below +0
  let key (c : Nat) : Int := if bit c 31 then -(c % 2 ^ 31 : Nat) - 1 else (c : Nat)
  let r :=
    if x.isNan && y.isNan then 0x7FC00000
    else if x.isNan then b
    else if y.isNan then a
    else if mx then (if key a < key b then b else a)
    else (if key b < key a then b else a)
  (r, lg)

/-- FSCL (R296) on F32 bits. -/
def fscale (a b : Nat) : Nat × List Nat :=
  match f32Val a with
  | .nan sig => (0x7FC00000, if sig then [1] else [])
  | .inf _ => (a, [])
  | .fin s m e => if m = 0 then (a, []) else round32 (.fin s m (e + asInt 32 b)) 0

/-- The class bit of FCLS (R298). -/
def fclass (a : Nat) : Nat :=
  let s := bit a 31
  match f32Val a with
  | .inf _ => if s then 0 else 7
  | .nan sig => if sig then 8 else 9
  | .fin _ m _ => if m = 0 then (if s then 3 else 4) else if a / 2 ^ 23 % 256 = 0 then (if s then 2 else 5) else (if s then 1 else 6)

/-- CVTI (R299). -/
def fround (a rm : Nat) : Nat × List Nat :=
  match f32Val a with
  | .nan sig => (0x7FC00000, if sig then [1] else [])
  | .inf _ => (a, [])
  | .fin s m e =>
    if m = 0 then (a, [])
    else
      let n := rndAt m e 0 rm s
      if n = 0 then (fF32.zeroCode s, []) else ((convert (.fin s n 0) fF32 0 true).1, [])

/-- The ordering of two values for FCMP (R305): less, equal; NaN excluded by the caller. -/
def numLt (x y : Num) : Bool :=
  match x, y with
  | .inf s, .inf u => s && !u
  | .inf s, _ => s
  | _, .inf u => !u
  | .fin s m e, .fin u n k =>
    let r := addFin s m e (!u) n k
    r.1 && decide (r.2.1 ≠ 0)
  | _, _ => false

/-- Equality of two values, -0 equal to +0. -/
def numEq (x y : Num) : Bool :=
  match x, y with
  | .inf s, .inf u => s == u
  | .fin s m e, .fin u n k => (addFin s m e (!u) n k).2.1 == 0
  | _, _ => false

/-- The relation of R305 with its INVALID: cc 0 EQ, 1 NE, 2 LT, 3 LE, 4 GT, 5 GE, 6 ORD, 7 UNO. -/
def fcmpRel (cc a b : Nat) : Bool × List Nat :=
  let x := f32Val a
  let y := f32Val b
  let un := x.isNan || y.isNan
  let sg := x.isSig || y.isSig
  let lg := if sg || (un && decide (2 ≤ cc) && decide (cc ≤ 5)) then [1] else []
  let r := match cc with
    | 0 => !un && numEq x y
    | 1 => un || !numEq x y
    | 2 => !un && numLt x y
    | 3 => !un && (numLt x y || numEq x y)
    | 4 => !un && numLt y x
    | 5 => !un && (numLt y x || numEq x y)
    | 6 => !un
    | _ => un
  (r, lg)

/-- UNPK of an element (R302): the F32 bits, or the extended integer. -/
def unpackElem (fmt e : Nat) : Nat :=
  match floatFmt fmt with
  | some f => (convert (f.decode e) fF32 0 true).1
  | none => match intFmt fmt with
    | some i => if i.2 then ofInt 32 (asInt i.1 e) else e % 2 ^ 32
    | none => 0

/-- The value of an element of a format, an integer as its exact value. -/
def elemVal (fmt e : Nat) : Num :=
  match floatFmt fmt with
  | some f => f.decode e
  | none => match intFmt fmt with
    | some i => numOfInt (if i.2 then asInt i.1 e else (e : Int))
    | none => .fin false 0 0

/-- A value converted into a format, floating or integer (R229, R230). -/
def convertTo (x : Num) (fmt rm : Nat) (ovf : Bool) : Nat × List Nat :=
  match floatFmt fmt with
  | some f => convert x f rm ovf
  | none => match intFmt fmt with
    | some i => convertInt x i.1 i.2 rm
    | none => (0, [])

/-- The atomic addition of R329 and R125: F32 for type 4, F64 for type 5, by RNE, without a log. -/
def faddBits (ty m x : Nat) : Nat :=
  let f := if ty = 5 then fF64 else fF32
  (fopAdd f 0 (f.decode m) (f.decode x)).1

end Sys2Proof.Machine
end

