-- ==== Sys2Proof/Machine/Access.lean ====
section
/-! DEFINITION. What the memory words share: addresses (R317), the decoding of a load (R322, R323), plain and strong reads of a lane (R97 to R99, R154 to R158), translation of a
word's lanes (R131, R135, R138), region fills (R148) and the checks of scratchpad accesses (R218, R319). -/

namespace Sys2Proof.Machine

open Sys2Proof

/-! ## Addresses -/

/-- SEM of a QUAL payload; 0 without one (R268). -/
def Grp.sem (g : Grp) : Nat := match g.qual with | some q => bits q.toNat 5 3 | none => 0
/-- SCOPE of a QUAL payload. -/
def Grp.scope (g : Grp) : Nat := match g.qual with | some q => bits q.toNat 2 0 | none => 0
/-- CP of a QUAL payload (R325). -/
def Grp.cp (g : Grp) : Nat := match g.qual with | some q => bits q.toNat 8 6 | none => 0
/-- SWZ of a QUAL payload. -/
def Grp.swz (g : Grp) : Nat := match g.qual with | some q => bits q.toNat 11 9 | none => 0

/-- The registers of a BASE (R317): none for 96. -/
def baseSrcs (b : Nat) : List Nat := if b = 96 then [] else [b, b + 1]

/-- The parameter base of a group's launch. -/
def State.params (s : State) (ctx : Nat) : Nat := match s.launch ctx with | some l => l.lrec.params | none => 0

/-- VA of R317 from what the base registers hold. -/
def State.va (s : State) (g : Grp) (base : List PVal) (off : Int) : Nat :=
  let b : Nat := match base with
    | [lo, hi] => lo.val.toNat + 2 ^ 32 * hi.val.toNat
    | _ => s.params g.ctx
  swizzle g.swz (ofInt 64 ((b : Int) + off))

/-- OFF4 in bytes, signed at its extended width (R266). -/
def Grp.off4 (g : Grp) (o size : Nat) : Int := asInt (g.immWidth 4) (g.imm 4 o) * (size : Int)

/-! ## Data -/

/-- The decoding of R323: what a load of one or two bytes makes of a value under a page format. -/
def decodeNarrow (size : Nat) (sx : Bool) (fmt v : Nat) : Nat :=
  let w := 8 * size
  let ext (signed : Bool) : Nat := if signed then ofInt 32 (asInt w v) else v
  match floatFmt fmt with
  | some f => if f.w = w then unpackElem fmt v else ext sx
  | none => match intFmt fmt with
    | some i => if i.1 = w then ext i.2 else ext sx
    | none => ext sx

/-- The registers a load writes from its bytes; bad says which bytes are poisoned (R106). -/
def loadRegs (size : Nat) (sx : Bool) (fmt : Nat) (bytes : List Byte) (bad : Nat → Bool) : List PVal :=
  if size ≤ 2 then
    [if (List.range size).any bad then memPoison else clean (BitVec.ofNat 32 (decodeNarrow size sx fmt (leNat bytes)))]
  else
    (List.range (size / 4)).map (fun i =>
      if (List.range 4).any (fun j => bad (4 * i + j)) then memPoison else clean (BitVec.ofNat 32 (fieldOf bytes (4 * i) 4)))

/-- The registers from a line, with the thread's own bytes laid over it (R97). -/
def lineRegs (size : Nat) (sx : Bool) (fmt off : Nat) (own : Patch) (data : List Byte) (pois : List Nat) : List PVal :=
  loadRegs size sx fmt (cut (patchLine data own) off size)
    (fun i => pois.contains ((off + i) / 8) && !(own.any (fun e => e.1 == off + i)))

/-- The refillable poison of every register of a faulting load (R137). -/
def faultRegs (size : Nat) (sx : Bool) (fmt va fid : Nat) : List PVal :=
  (List.range (max 1 (size / 4))).map (fun i => refillable (va + 4 * i) (Nat.log2 size) sx fmt fid)

/-- The lane of a token whose load took a translation fault: refillable poison, or pending where no entry is free (R135, R137). -/
def faultLane (l : RLane) (size : Nat) (sx : Bool) (fmt va walk : Nat) (fid : Option Nat) : TLane :=
  match fid with
  | some f => doneLane l (faultRegs size sx fmt va f)
  | none => waitingLane l va fmt walk

/-- Tokens whose loads waited for a free entry receive their poison (R135): their walks have an entry now. -/
def State.feedFaults (s : State) (ctx : Nat) : State :=
  let fidOf (w : Nat) : Option Nat := (s.xl.walks.find? (fun x => x.id == w)).bind (fun x => x.fid)
  let hit (t : Token) : Bool := t.ctx == ctx && t.lanes.any (fun l => l.walk.any (fun w => (fidOf w).isSome))
  (s.core.toks.filter hit).foldl (fun (s : State) t =>
    let lanes := t.lanes.map (fun (l : TLane) => match l.walk.bind fidOf with
      | some f => { l with vals := some (faultRegs t.size t.sx l.fmt l.va f), walk := none }
      | none => l)
    let s1 := { s with core.toks := s.core.toks.map (fun (x : Token) => if x.id = t.id then { x with lanes := lanes } else x),
                       xl.walks := s.xl.walks.filter (fun w => !(t.lanes.any (fun l => l.walk == some w.id) && w.fid.isSome)) }
    if lanes.all (fun l => l.vals.isSome) then s1.send (.tokenComplete t.id) else s1) s

/-! ## Reads of a lane -/

/-- What a read of a lane finds: its registers, a fill on its way, or something that must come first. -/
inductive ReadR where
  | vals (l : List PVal)
  | fill
  | wait
deriving DecidableEq, Repr

/-- A line of an L1 becomes the most recently used: the lines of a core stand in that order. -/
def State.useL1 (s : State) (core line : Nat) : State :=
  let mine (l : L1Line) : Bool := l.core == core && l.line == line
  { s with coh.l1 := s.coh.l1.filter (fun l => !mine l) ++ s.coh.l1.filter mine }

/-- A lane has made a plain load (R99): its bit of the gang slot's lane mask. -/
def State.markLoad (s : State) (core slot lane : Nat) : State := s.updThread core slot lane (fun t => { t with loaded := true })

/-- A plain load hits or fills a line (R99): RD of the gang slot, and the lane's bit. -/
def State.noteLoad (s : State) (core slot lane line : Nat) : State :=
  (s.updL1 core line (fun l => { l with rd := setBit l.rd slot true })).updThread core slot lane (fun t => { t with loaded := true })

/-- A store or atomic of the thread to some of the bytes has not been performed at its home yet. -/
def State.ownUnderWay (s : State) (core slot lane line off n : Nat) : Bool :=
  s.coh.txs.any (fun t => t.core == core && t.slot == slot && t.lane == lane && t.line == line && !t.atHome && !t.drop &&
    (match t.atom with
     | some a => decide (a.off < off + n) && decide (off < a.off + 8)
     | none => t.bytes.any (fun e => decide (off ≤ e.1) && decide (e.1 < off + n))))

/-- An atomic of the thread to some of the bytes has not been performed yet (R98). -/
def State.atomUnderWay (s : State) (core slot lane line off n : Nat) : Bool :=
  s.coh.txs.any (fun t => t.core == core && t.slot == slot && t.lane == lane && t.line == line && t.bytes.isEmpty && !t.drop &&
    (match t.atom with
     | some a => decide (a.off < off + n) && decide (off < a.off + 8)
     | none => false))

/-- A fill of a line for a core's L1 is on its way. -/
def State.fillDue (s : State) (core line tag : Nat) : Bool :=
  s.due (fun e => match e with
    | .dirReadMiss c l t _ => c == core && l == line && t == tag
    | .l1FillReturn c l t _ _ _ _ => c == core && l == line && t == tag
    | _ => false)

/-- A plain read of bytes of one line by a thread: its own bytes, the L1, the slice uncached (a Cellar line of another stack too, R96), or a fill (R97 to R99, R155). The answer is the line with its poisoned words. -/
def State.threadLine (s : State) (core slot lane line tag pstart cp : Nat) : State × Option (List Byte × List Nat) × Bool :=
  let slice : State × Option (List Byte × List Nat) × Bool :=
    if s.storeOnWay core line then (s, none, false)
    else
      let r := s.sliceRead core (stackOf core) line tag (if cp = 2 then 1 else cp)
      (r.1, r.2, false)
  if isCellar (128 * line) && cellarColumn (128 * line) / 32 != stackOf core then slice
  else
  match s.l1At core line tag with
  | some l =>
    match l1View l slot pstart with
    | some d => ((s.noteLoad core slot lane line).useL1 core line, some d, false)
    | none => slice
  | none => (if s.fillDue core line tag then s else s.send (.dirReadMiss core line tag cp), none, true)

/-- The world of a gang slot. -/
def State.slotWorld (s : State) (core slot : Nat) : Nat := match s.gang core slot with | some x => x.world | none => 0x7F

/-- The bytes a thread's store entries hold of a line (R158), without those an atomic of its own has overwritten. -/
def State.entryBytes (s : State) (core slot lane line : Nat) : Patch :=
  (s.coh.sent.filter (fun e => e.core == core && e.slot == slot && e.lane == lane && e.line == line)).foldl
    (fun p e => patchJoin p (e.bytes.filter (fun b => !e.hid.contains b.1 && !e.pois.contains (b.1 / 8)))) []

/-- A strong read of a lane (R158): at the home or bank group for PACKAGE and SYSTEM and for a Cellar line of another stack, else at the slice of the die. -/
def State.strongRead (s : State) (core slot lane pa size : Nat) (sx : Bool) (home : Bool) (cp : Nat) : State × ReadR :=
  let line := lineOf pa
  let tag := s.slotWorld core slot
  -- NOALLOC: at the home without an L2 fill (R325)
  let far := home || (cp == 2 && tag == 0x7F && !isCellar pa && (s.l2At (sliceFor (stackOf core) line) line tag).isNone && !s.homePending (sliceFor (stackOf core) line) line)
  if s.ownUnderWay core slot lane line (pa % 128) size || (!home && s.storeOnWay core line) then (s, .wait)
  else
    let r := if far then s.homeRead (accessNode core line) (stackOf core) line tag (pa % 128) size else s.sliceRead core (stackOf core) line tag cp
    -- LAST: the slice's copy becomes the least recently used (R325)
    match r.2 with
    | some d => (if far && cp == 3 then r.1.l2Use (sliceFor (stackOf core) line) line tag 3 false else r.1, .vals (lineRegs size sx 0 (pa % 128) (s.entryBytes core slot lane line) d.1 (d.2 ++ s.ownLost core slot lane line)))
    | none => (r.1, .wait)

/-- What a plain load of a lane finds; a fill leaves its token pending. It waits for an atomic of its own (R98) and for a release that would show it bytes too early
(R154). -/
def State.plainFind (s : State) (core slot lane pa size : Nat) (sx : Bool) (fmt : Nat) (uncached : Bool) (cp : Nat) : State × ReadR :=
  let line := lineOf pa
  let off := pa % 128
  let own := s.ownBytes core slot lane line
  if s.atomUnderWay core slot lane line off size then (s, .wait)
  else if uncached then s.strongRead core slot lane pa size sx true cp
  else if (List.range size).all (fun i => own.any (fun e => e.1 == off + i)) then
    (s, .vals (lineRegs size sx fmt off own (zeros 128) []))
  else
    if s.veiled core slot lane line off size then (s, .wait)
    else
    let r := s.threadLine core slot lane line (s.slotWorld core slot) (s.thread core slot lane).pstart cp
    match r.2.1 with
    | some d => (r.1, .vals (lineRegs size sx fmt off own d.1 (d.2 ++ s.ownLost core slot lane line)))
    | none => (r.1, if r.2.2 then .fill else .wait)

/-- A plain load of a lane (R99): once it is made its lane's bit is set, wherever its bytes come from. -/
def State.plainRead (s : State) (core slot lane pa size : Nat) (sx : Bool) (fmt : Nat) (uncached : Bool) (cp : Nat) : State × ReadR :=
  let r := s.plainFind core slot lane pa size sx fmt uncached cp
  (match r.2 with | .wait => r.1 | _ => r.1.markLoad core slot lane, r.2)

/-! ## Translation of a word's lanes -/

/-- What the translation of a word's lanes answers: whether some must wait, those translated, those that faulted with their FID. -/
structure XLanes where
  st : State
  wait : Bool
  ok : List (RLane × Nat × Nat × PAttr)       -- lane, VA, PA, attributes
  bad : List (RLane × Nat × Option Nat)       -- lane, VA, FID
  walks : List Nat
  badWalk : List (Nat × Nat)                  -- lane, the walk that faulted

/-- One more lane's address is translated. -/
def State.xlLane (s : State) (g : Grp) (acc : Nat) (x : XLanes) (a : RLane × Nat) : XLanes :=
  let t := s.tenantOfCtx g.ctx
  match x.st.xlate (stackOf g.core) t g.ctx a.2 acc with
  | .ok pa attr => { x with ok := x.ok ++ [(a.1, a.2, pa, attr)] }
  | .fault w _ fid => { x with bad := x.bad ++ [(a.1, a.2, fid)], walks := w :: x.walks, badWalk := x.badWalk ++ [(a.1.lane, w)] }
  | .wait => { x with st := x.st.needWalk (stackOf g.core) t g.ctx a.2 acc, wait := true }

/-- Every lane's address translated for an access kind; walks start where none is known yet (R131, R135). -/
def State.xlLanes (s : State) (g : Grp) (acc : Nat) (l : List (RLane × Nat)) : XLanes :=
  l.foldl (s.xlLane g acc) { st := s, wait := false, ok := [], bad := [], walks := [], badWalk := [] }

/-- Faults that have been taken leave their walks; a walk without an entry stays until one is free (R135). -/
def State.takeFaults (s : State) (ws : List Nat) : State :=
  { s with xl.walks := s.xl.walks.filter (fun w => !(ws.contains w.id && w.fid.isSome)) }

/-- The accesses of a word's translated lanes are counted (R110). -/
def State.sampleLanes (s : State) (g : Grp) (typ : PAttr → Nat) (l : List (RLane × Nat × Nat × PAttr)) : State :=
  l.foldl (fun (s : State) e => s.sample g.ctx g.core e.1.slot e.1.lane e.2.1 (typ e.2.2.2)) s

/-- A translation fault of a word that traps: the faulting lanes wait on their FID (R138). -/
def State.faultTrap (s : State) (g : Grp) (x : XLanes) : State :=
  (s.takeFaults x.walks).waitTrap g (x.bad.map (fun b => (b.1, b.2.2)))

/-- The lanes of a list whose address breaks an alignment (R319). -/
def misaligned (n : Nat) (l : List (RLane × Nat)) : List RLane := (l.filter (fun a => a.2 % n != 0)).map (fun a => a.1)

/-! ## Scratchpad -/

/-- The allocation size of a lane's gang. -/
def State.spadSize (s : State) (g : Grp) (l : RLane) : Nat := match s.gang g.core l.slot with | some x => x.size | none => 0

/-- The lanes whose access reaches beyond SPAD (R218). -/
def State.beyondSpad (s : State) (g : Grp) (n : Nat) (l : List (RLane × Nat)) : List RLane :=
  (l.filter (fun a => decide (a.2 + n > s.spadSize g a.1))).map (fun a => a.1)

/-- The enabled region that covers a scratchpad line of a gang's allocation, and the virtual line it maps (R147). -/
def Gang.regionOf (x : Gang) (line : Nat) : Option (Nat × Nat × Bool) :=
  (List.range 16).findSome? (fun n =>
    let r := (x.regions.drop n).headD { rgva := 0, rgcf := 0 }
    let cf := r.rgcf.toNat
    let sp := bits cf 10 0
    if bit cf 31 && decide (sp ≤ line) && decide (line ≤ sp + bits cf 26 16) then
      some (n, (r.rgva.toNat / 128 * 128 + 128 * (line - sp)) % 2 ^ 64, bit cf 30) else none)

/-- The gang of a slot with the scratchpad line of an offset as it stood at the start of a run (R318); a region line that was not filled by then is there since its fill. -/
def State.runGang (s : State) (g : Grp) (slot off : Nat) : Option Gang :=
  (s.gang g.core slot).map (fun x =>
    match g.pads.find? (fun p => p.slot == slot) with
    | some p => if (x.regionOf (off / 128)).isSome && !p.valid.contains (off / 128) then x else { x with spad := p.spad, spois := p.spois }
    | none => x)

/-- A 64-byte block of a lane's gang as it stood at the start of the run. -/
def State.runBlock (s : State) (g : Grp) (slot off : Nat) : List Byte := match s.runGang g slot off with | some x => x.spadBytes off 64 | none => []

/-- Such a block holds a poisoned word. -/
def State.runPois (s : State) (g : Grp) (slot off : Nat) : Bool := match s.runGang g slot off with | some x => x.spadPois off 64 | none => false

/-- A region line filled by a thread's plain load (R148): done, still waiting, or faulted with its FID. -/
inductive FillR where
  | done
  | wait
  | fault (va : Nat) (walk : Nat) (fid : Option Nat)
deriving DecidableEq, Repr

/-- The fill of the region line that an access of a lane touches, where it is due. -/
def State.fillLine (s : State) (g : Grp) (l : RLane) (off : Nat) : State × FillR :=
  match s.gang g.core l.slot with
  | none => (s, .done)
  | some x =>
    match x.regionOf (off / 128) with
    | none => (s, .done)
    | some (_, va, _) =>
      if x.valid.contains (off / 128) then (s, .done)
      else
        let t := s.tenantOfCtx g.ctx
        match s.xlate (stackOf g.core) t g.ctx va 6 with
        | .wait => (s.needWalk (stackOf g.core) t g.ctx va 6, .wait)
        | .fault w _ fid => (s, .fault va w fid)
        | .ok pa attr =>
          let line := lineOf pa
          let own := s.ownBytes g.core l.slot l.lane line
          let r := if s.barred t (128 * line) 128 false then (s, some (zeros 128, List.range 16), false)
            else if attr.uncached then let q := s.homeRead (accessNode g.core line) (stackOf g.core) line x.world 0 128; (q.1, q.2, false)
            else if s.veiled g.core l.slot l.lane line 0 128 then (s, none, false)
            else s.threadLine g.core l.slot l.lane line x.world (s.thread g.core l.slot l.lane).pstart 0
          match r.2.1 with
          | none => (r.1, .wait)
          | some d =>
            let base := off / 128 * 128
            let pois := ((d.2.filter (fun w => !(fullWords own).contains w)) ++ s.ownLost g.core l.slot l.lane line).map (fun w => base / 8 + w)
            ((r.1.sample g.ctx g.core l.slot l.lane va 5).updGang g.core l.slot (fun x =>
              let y := x.spadPut base (patchLine d.1 own)
              { y with spois := y.spois ++ pois, valid := (off / 128) :: y.valid }), .done)

/-- A region line that the device itself accesses for a gang is filled first (R148); the plain load is that of the gang's lane 0, since no thread makes the access, and a fill
that faults is tried again once its entry has its answer (DESIGN CHOICE, log 90). -/
def State.fillFor (s : State) (g : Gang) (off : Nat) : State × Bool :=
  if (s.launch g.ctx).any (fun l => l.ending.isSome) then (s, true) else
  let r := s.fillLine { (default : Grp) with core := g.core, ctx := g.ctx } { (default : RLane) with slot := g.slot } off
  (r.1, r.2 == .done)

/-- The fills of a word's lanes: what still waits, and the lanes whose fill faulted. -/
structure Fills where
  st : State
  wait : Bool
  bad : List (RLane × Nat × Option Nat)
  walks : List Nat
  badWalk : List (Nat × Nat)

/-- Every region line that a word's lanes touch is filled (R148). -/
def State.fillLanes (s : State) (g : Grp) (l : List (RLane × Nat)) : Fills :=
  l.foldl (fun (x : Fills) a =>
    let r := x.st.fillLine g a.1 a.2
    match r.2 with
    | .done => { x with st := r.1 }
    | .wait => { x with st := r.1, wait := true }
    | .fault va w fid => { x with st := r.1, bad := x.bad ++ [(a.1, va + a.2 % 128, fid)], walks := w :: x.walks, badWalk := x.badWalk ++ [(a.1.lane, w)] })
    { st := s, wait := false, bad := [], walks := [], badWalk := [] }

/-- The checks of a scratchpad access that traps: alignment, SPAD, region fills; then body on the state with the lines filled. -/
def State.spadCheck (s : State) (g : Grp) (align n : Nat) (l : List (RLane × Nat)) (body : State → State) : State :=
  let mis := misaligned align l
  let out := s.beyondSpad g n l
  if !mis.isEmpty then s.coreTrap g 0x16 mis
  else if !out.isEmpty then s.coreTrap g 0x11 out
  else
    let f := s.fillLanes g l
    if !f.bad.isEmpty then (f.st.takeFaults f.walks).waitTrap g (f.bad.map (fun b => (b.1, b.2.2)))
    else if f.wait then f.st.rotate
    else body f.st

end Sys2Proof.Machine
end

