-- ==== Sys2Proof/Machine/Mem.lean ====
section
/-! DEFINITION. The memory words of 16: LD, ST, ATOM, CAS, RED, LDS, STS, CACHE (R317 to R333). Loads and atomics act at issue, stores at the trailer (R209). -/

namespace Sys2Proof.Machine

open Sys2Proof

/-! ## Loads -/

/-- The checks every load shares (R322, R327, R349): LIVENESS and XREG, a poisoned address, a token still pending. What follows gets the active lanes with what they read, and
the lanes whose guard is poisoned. -/
def State.loading (s : State) (gd : BitVec 3) (k : BitVec 3) (srcs dsts : List Nat)
    (body : State → Grp → List (RLane × List PVal) → List RLane → State) : State :=
  s.word (fun s g =>
    if !g.deep (guardEntry gd) then s.coreTrap g 0x13 g.lanes
    else
      match s.operandTrap g (g.active gd) srcs dsts, s.operandTrap g (g.guardPois gd) [] dsts with
      | some c, _ => s.coreTrap g c g.lanes
      | none, some c => s.coreTrap g c g.lanes
      | none, none =>
        let acts := (g.active gd).map (fun l => (l, srcs.map (s.readD g l)))
        let bad := acts.filterMap (fun x => (x.2.find? PVal.bad).map (fun p => (x.1, p)))
        if !bad.isEmpty then s.poisonTrap g 0 bad
        else if s.tokBusy g k.toNat then s.rotate
        else body s g acts (g.guardPois gd))

/-- The number of registers of a size. -/
def regCount (size : Nat) : Nat := max 1 (size / 4)

/-- The codes of a multi-register operand. -/
def regCodes (d n : Nat) : List Nat := (List.range n).map (fun i => d + i)

/-- A load after its acquire: every earlier load of the active lanes has returned, and the word is over (R153, R158, R324). -/
def State.acquireLanes (s : State) (g : Grp) (lanes : List RLane) : State :=
  if lanes.any (fun l => s.loadsPending g.core l.slot l.lane) then s.rotate
  else (lanes.foldl (fun (s : State) l => s.acquire g.core l.slot l.lane) s).advance g

/-- LD (R322): translation, then each lane's read; the results ride on token k. -/
def State.loadWord (s : State) (gd : BitVec 3) (d b : BitVec 7) (o : BitVec 4) (k : BitVec 3) (size : Nat) (sx : Bool) : State :=
  s.word (fun s g =>
    if g.stage = 1 then s.acquireLanes g (g.active gd)
    else
      let n := regCount size
      s.loading gd k (baseSrcs b.toNat) (regCodes d.toNat n) (fun s g acts pois =>
        let vas := acts.map (fun x => (x.1, s.va g x.2 (g.off4 o.toNat size)))
        let mis := misaligned size vas
        if !mis.isEmpty then s.coreTrap g 0x16 mis
        else
          let x := s.xlLanes g 0 vas
          if x.wait then x.st.rotate
          else
            let strong := g.sem ≠ 0
            let fmtOf (a : PAttr) : Nat := if strong then 0 else a.fattr
            let rd := x.ok.foldl (fun (q : State × List TLane × Bool) e =>
              let slot := e.1.slot
              let lane := e.1.lane
              let pa := e.2.2.1
              let attr := e.2.2.2
              let r := if s.barred (s.tenantOfCtx g.ctx) pa size false then (q.1, ReadR.vals (List.replicate n memPoison)) else if strong then q.1.strongRead g.core slot lane pa size sx (decide (g.scope ≥ 5) || attr.uncached) g.cp
                else q.1.plainRead g.core slot lane pa size sx attr.fattr attr.uncached g.cp
              let t (v : Option (List PVal)) : TLane :=
                { slot := slot, lane := lane, va := e.2.1, pa := pa, own := q.1.ownBytes g.core slot lane (lineOf pa),
                  fmt := fmtOf attr, lost := q.1.ownLost g.core slot lane (lineOf pa), vals := v, drop := false, walk := none }
              match r.2 with
              | .vals v => (r.1, q.2.1 ++ [t (some v)], q.2.2)
              | .fill => (r.1, q.2.1 ++ [t none], q.2.2)
              | .wait => (r.1, q.2.1, true)) (x.st, [], false)
            if rd.2.2 then rd.1.rotate
            else
              let faults := x.bad.map (fun e =>
                let w := (tget x.badWalk e.1.lane).getD 0
                faultLane e.1 size sx (x.st.tagFmt (!strong) size w) e.2.1 w e.2.2)
              let guards := pois.map (fun l => doneLane l (List.replicate n derivedPoison))
              let tok := { g.token k.toNat d.toNat n (rd.2.1 ++ faults ++ guards) with size := size, sx := sx, strong := strong }
              let s1 := ((rd.1.takeFaults x.walks).sampleLanes g (fun a => if strong || a.uncached then 1 else 0) x.ok).nameToken tok
              if g.sem = 2 then s1.updGrp g.id (fun g => { g with stage := 1 }) else s1.advance g))

/-! ## Stores -/

/-- The bytes a store takes from its registers (R326). -/
def storeBytes (size : Nat) (vs : List PVal) : List Byte := (vs.flatMap (fun v => leBytes 4 v.val.toNat)).take size

/-- ST (R326): data and address are read and checked at issue; the store takes effect at the trailer. A page with PBMT 1 makes it strong at its home (R128). -/
def State.storeWord (s : State) (gd : BitVec 3) (ds b : BitVec 7) (o : BitVec 4) (size : Nat) : State :=
  let n := regCount size
  s.consume 1 gd (regCodes ds.toNat n ++ baseSrcs b.toNat) (fun s g acts =>
    let vas := acts.map (fun x => (x.1, s.va g (x.2.drop n) (g.off4 o.toNat size)))
    let mis := misaligned size vas
    if !mis.isEmpty then s.coreTrap g 0x16 mis
    else
      let x := s.xlLanes g 1 vas
      if x.wait then x.st.rotate
      else if !x.bad.isEmpty then x.st.faultTrap g x
      else
        let fx := x.ok.map (fun e =>
          let bytes := storeBytes size (((acts.find? (fun a => a.1.lane == e.1.lane)).map (fun a => a.2.take n)).getD [])
          if g.sem ≠ 0 then Fx.strong e.1.lane e.2.2.1 e.2.1 bytes (if g.sem = 3 then some g.scope else none) (if e.2.2.2.uncached then max 5 g.scope else g.scope) g.cp
          else if e.2.2.2.uncached then Fx.strong e.1.lane e.2.2.1 e.2.1 bytes none 5 g.cp
          else Fx.store e.1.lane e.2.2.1 e.2.1 bytes g.cp)
        (x.st.sampleLanes g (fun a => if g.sem ≠ 0 || a.uncached then 3 else 2) x.ok).advance (g.addFx fx))

/-! ## Atomics -/

/-- The bytes of the thread's store entries that an atomic overwrites are no longer what its loads see (R98). -/
def State.hideEntry (s : State) (core slot lane pa n : Nat) : State :=
  { s with coh.sent := s.coh.sent.map (fun (e : SEnt) =>
      if e.core = core ∧ e.slot = slot ∧ e.lane = lane ∧ e.line = lineOf pa then
        { e with hid := e.hid ++ (e.bytes.map (fun b => b.1)).filter (fun i => decide (pa % 128 ≤ i) && decide (i < pa % 128 + n)) } else e) }

/-- The scope of an atomic: without QUAL PACKAGE (R332), and PACKAGE at least on an uncached page (R128). -/
def Grp.atomScope (g : Grp) (uncached : Bool) : Nat := if g.qual.isNone || uncached then max 5 g.scope else g.scope

/-- An atomic leaves for its slice (R320, R329 to R331). -/
def State.sendAtom (s : State) (g : Grp) (l : RLane) (va pa : Nat) (a : AtomOp) : State :=
  let s1 := s.hideEntry g.core l.slot l.lane pa (if tyWide a.ty then 8 else 4)
  s1.launchTx { s1.threadTx g.core l.slot l.lane va (lineOf pa) [] true with atom := some a, cp := g.cp, after := s1.earlierStrong g.core l.slot l.lane a.scope }

/-- ATOM, CAS and RED (R329 to R332) in stages: 0 the checks and the release of REL and AR; 1 that release; 2 the atomics leave; 3 they have returned. D is 0 for RED. nd is the
number of registers of an element, nx of the operands. -/
def State.atomWord (s : State) (gd : BitVec 3) (d b : BitVec 7) (aop ty : Nat) (returns : Bool) : State :=
  let n := if tyWide ty then 2 else 1
  let nx := if aop = 8 then 2 * n else n
  s.word (fun s g =>
    if g.stage = 3 then
      if !g.stallTx.isEmpty then s.rotate
      else if g.sem = 2 || g.sem = 4 then s.acquireLanes g (g.active gd)
      else s.advance g
    else if g.stage = 1 then
      if g.lanes.any (fun l => match l.relId with | some r => !s.relDone r | none => false) then s.rotate
      else s.updGrp g.id (fun g => { g with stage := 2, lanes := g.lanes.map (fun (l : RLane) => { l with relId := none }) })
    else
      s.consume 2 gd (regCodes d.toNat nx ++ baseSrcs b.toNat) (fun s g acts =>
        match if returns then s.operandTrap g (g.active gd) [] (regCodes d.toNat n) else none with
        | some c => s.coreTrap g c g.lanes
        | none =>
          let vas := acts.map (fun x => (x.1, s.va g (x.2.drop nx) 0))
          let mis := misaligned (4 * n) vas
          if !mis.isEmpty then s.coreTrap g 0x16 mis
          else
            let x := s.xlLanes g 2 vas
            if x.wait then x.st.rotate
            else if !x.bad.isEmpty then x.st.faultTrap g x
            else if g.stage = 0 && (g.sem = 3 || g.sem = 4) then
              let r := x.ok.foldl (fun (q : State × List (Nat × Nat)) e =>
                (q.1.startRelease g.core e.1.slot e.1.lane g.scope false, q.2 ++ [(e.1.lane, q.1.nextRelease g.core e.1.slot e.1.lane)])) (x.st, [])
              r.1.updGrp g.id (fun g => { g with stage := 1, lanes := g.lanes.map (fun (l : RLane) => { l with relId := tget r.2 l.lane }) })
            else
              let val (vs : List PVal) : Nat := leNat (storeBytes (4 * n) vs)
              let r := x.ok.foldl (fun (q : State × List Nat) e =>
                let vs := ((acts.find? (fun a => a.1.lane == e.1.lane)).map (fun a => a.2)).getD []
                let a : AtomOp :=
                  { aop := aop, ty := ty, off := e.2.2.1 % 128, x := val (vs.take n), y := if aop = 8 then val ((vs.drop n).take n) else 0,
                    scope := g.atomScope e.2.2.2.uncached, dst := if returns then some d.toNat else none, grp := g.id }
                (q.1.sendAtom g e.1 e.2.1 e.2.2.1 a, q.2 ++ [q.1.ctl.nextId])) (x.st.sampleLanes g (fun _ => 4) x.ok, [])
              if returns then
                let lanes := g.lanes.map (fun l => match l.gate gd with
                  | .on => l.shift pzero
                  | _ => s.offLanes g l (regCodes d.toNat n))
                r.1.updGrp g.id (fun g => { g.shiftedToAll (regCodes d.toNat n) lanes with stage := 3, stallTx := r.2 })
              else if g.sem = 2 || g.sem = 4 then r.1.updGrp g.id (fun g => { g with stage := 3, stallTx := r.2 })
              else r.1.advance g))

/-! ## Scratchpad -/

/-- The scratchpad bytes accessed (R219, R327). -/
def spadOff (base : PVal) (g : Grp) (f size sw : Nat) : Nat := swizzle sw (base.val.toNat + g.imm 1 f * size)

/-- LDS (R327): the region line is filled first; the data is read at issue. -/
def State.ldsWord (s : State) (gd : BitVec 3) (d b : BitVec 7) (w : BitVec 3) (f : BitVec 1) (k : BitVec 3) (size : Nat) : State :=
  let n := regCount size
  s.loading gd k [b.toNat] (regCodes d.toNat n) (fun s g acts pois =>
    let offs := acts.map (fun x => (x.1, spadOff (x.2.headD pzero) g f.toNat size w.toNat))
    let mis := misaligned size offs
    let out := s.beyondSpad g size offs
    let hits := s.watchHits g false size (offs.map (fun a => (a.1, a.2, 0)))
    if !mis.isEmpty then s.coreTrap g 0x16 mis
    else if !out.isEmpty then s.coreTrap g 0x11 out
    else if !hits.isEmpty then s.watchTrap g false size hits
    else
      let x := s.fillLanes g offs
      if x.wait then x.st.rotate
      else
        let lane (a : RLane × Nat) : TLane :=
          match x.bad.find? (fun e => e.1.lane == a.1.lane) with
          | some e => faultLane a.1 size false 0 e.2.1 ((tget x.badWalk e.1.lane).getD 0) e.2.2
          | none =>
            match x.st.gang g.core a.1.slot with
            | some y => doneLane a.1 (loadRegs size false 0 (y.spadBytes a.2 size) (fun i => y.spadPois (a.2 + i) 1))
            | none => doneLane a.1 (List.replicate n pzero)
        let guards := pois.map (fun l => doneLane l (List.replicate n derivedPoison))
        ((x.st.takeFaults x.walks).nameToken { g.token k.toNat d.toNat n (offs.map lane ++ guards) with size := size }).advance g)

/-- STS (R327): checked at issue, written at the trailer. -/
def State.stsWord (s : State) (gd : BitVec 3) (ds b : BitVec 7) (w : BitVec 3) (f : BitVec 1) (size : Nat) : State :=
  let n := regCount size
  s.consume 1 gd (b.toNat :: regCodes ds.toNat n) (fun s g acts =>
    let offs := acts.map (fun x => (x.1, spadOff (x.2.headD pzero) g f.toNat size w.toNat))
    let data (l : RLane) : List Byte := storeBytes size (((acts.find? (fun a => a.1.lane == l.lane)).map (fun a => a.2.drop 1)).getD [])
    let hits := s.watchHits g true size (offs.map (fun a => (a.1, a.2, leNat ((data a.1).take 4))))
    if !(misaligned size offs).isEmpty || !(s.beyondSpad g size offs).isEmpty || hits.isEmpty then
      s.spadCheck g size size offs (fun s => s.advance (g.addFx (offs.map (fun a => Fx.sts a.1.lane a.2 (data a.1)))))
    else s.watchTrap g true size hits)

/-! ## Cache hints -/

/-- CACHE (R333): each lane's line, where its address is clean and its translation succeeds on a cached page; nothing else, and no fault of any kind (R349). f says whether it is
done with a line, or must come back. -/
def State.cacheWord (s : State) (gd : BitVec 3) (b : BitVec 7) (o : BitVec 4) (f : State → Grp → Nat → Nat → State × Bool) : State :=
  s.word (fun s g =>
    if !g.deep (guardEntry gd) then s.advance g
    else
      match s.operandTrap g (g.active gd) (baseSrcs b.toNat) [] with
      | some _ => s.advance g
      | none =>
        let t := s.tenantOfCtx g.ctx
        let acts := ((g.active gd).map (fun l => (l, (baseSrcs b.toNat).map (s.readD g l)))).filter (fun x => !x.2.any PVal.bad)
        let r := acts.foldl (fun (q : State × Bool × List (RLane × Nat)) x =>
          let va := q.1.va g x.2 (g.off4 o.toNat 128)
          -- a hint opens no fault entry: its walk belongs to no context
          match q.1.xlate (stackOf g.core) t 0xFFFF va 0 with
          | .ok pa attr => (q.1, q.2.1, if attr.uncached then q.2.2 else q.2.2 ++ [(x.1, lineOf pa)])
          | .fault w _ _ => (q.1.dropWalk w, q.2.1, q.2.2)
          | .wait => (q.1.needWalk (stackOf g.core) t 0xFFFF va 0, true, q.2.2)) (s, false, [])
        if r.2.1 then r.1.rotate
        else
          let q := r.2.2.foldl (fun (q : State × Bool) e =>
            let y := f q.1 g (q.1.slotWorld g.core e.1.slot) e.2
            (y.1, q.2 && y.2)) (r.1, true)
          if q.2 then q.1.advance g else q.1.rotate)

/-! ## The words -/

/-- LD.8 (R322). -/
def execLd8 (_c : BitVec 1) (g : BitVec 3) (d : BitVec 7) (b : BitVec 7) (o : BitVec 4) (k : BitVec 3) (s : State) : Out := .next (s.loadWord g d b o k 1 false)

/-- LD.8S (R322). -/
def execLd8s (_c : BitVec 1) (g : BitVec 3) (d : BitVec 7) (b : BitVec 7) (o : BitVec 4) (k : BitVec 3) (s : State) : Out := .next (s.loadWord g d b o k 1 true)

/-- LD.16 (R322). -/
def execLd16 (_c : BitVec 1) (g : BitVec 3) (d : BitVec 7) (b : BitVec 7) (o : BitVec 4) (k : BitVec 3) (s : State) : Out := .next (s.loadWord g d b o k 2 false)

/-- LD.16S (R322). -/
def execLd16s (_c : BitVec 1) (g : BitVec 3) (d : BitVec 7) (b : BitVec 7) (o : BitVec 4) (k : BitVec 3) (s : State) : Out := .next (s.loadWord g d b o k 2 true)

/-- LD.32 (R322). -/
def execLd32 (_c : BitVec 1) (g : BitVec 3) (d : BitVec 7) (b : BitVec 7) (o : BitVec 4) (k : BitVec 3) (s : State) : Out := .next (s.loadWord g d b o k 4 false)

/-- LD.64 (R322). -/
def execLd64 (_c : BitVec 1) (g : BitVec 3) (d : BitVec 7) (b : BitVec 7) (o : BitVec 4) (k : BitVec 3) (s : State) : Out := .next (s.loadWord g d b o k 8 false)

/-- LD.128 (R322). -/
def execLd128 (_c : BitVec 1) (g : BitVec 3) (d : BitVec 7) (b : BitVec 7) (o : BitVec 4) (k : BitVec 3) (s : State) : Out := .next (s.loadWord g d b o k 16 false)

/-- PREF (R333): the line is fetched as for a plain load, without an RD bit. -/
def execPref (_c : BitVec 1) (g : BitVec 3) (b : BitVec 7) (o : BitVec 4) (s : State) : Out := .next (s.cacheWord g b o (fun s r tag line =>
    (if (s.l1At r.core line tag).isSome || s.fillDue r.core line tag then s else s.send (.dirReadMiss r.core line tag 0), true)))

/-- PREF.L2 (R333): the line is fetched into the slice, once nothing must come first. -/
def execPrefL2 (_c : BitVec 1) (g : BitVec 3) (b : BitVec 7) (o : BitVec 4) (s : State) : Out := .next (s.cacheWord g b o (fun s r tag line =>
    if isCellar (128 * line) then (s, true)
    else
      let f := s.sliceFill (sliceFor (stackOf r.core) line) line tag 0
      (f.1, f.2 != .wait)))

/-- EVCT (R333): a V line that no gang slot has read leaves the L1, with a notice. -/
def execEvct (_c : BitVec 1) (g : BitVec 3) (b : BitVec 7) (o : BitVec 4) (s : State) : Out := .next (s.cacheWord g b o (fun s r tag line =>
    match s.l1At r.core line tag with
    | some l => (if !l.frozen && l.rd = 0 then (s.dropL1 r.core line).notice r.core line else s, true)
    | none => (s, true)))

/-- EVCT.L2 (R333): the line leaves the ways of its world tag as a victim, a world's sealed. -/
def execEvctL2 (_c : BitVec 1) (g : BitVec 3) (b : BitVec 7) (o : BitVec 4) (s : State) : Out := .next (s.cacheWord g b o (fun s r tag line =>
    let slice := sliceFor (stackOf r.core) line
    (if (s.l2At slice line tag).isSome && !s.due (fun e => e == .l2Victim slice line tag) then s.send (.l2Victim slice line tag) else s, true)))

/-- ST.8 (R326). -/
def execSt8 (_c : BitVec 1) (g : BitVec 3) (ds : BitVec 7) (b : BitVec 7) (o : BitVec 4) (s : State) : Out := .next (s.storeWord g ds b o 1)

/-- ST.16 (R326). -/
def execSt16 (_c : BitVec 1) (g : BitVec 3) (ds : BitVec 7) (b : BitVec 7) (o : BitVec 4) (s : State) : Out := .next (s.storeWord g ds b o 2)

/-- ST.32 (R326). -/
def execSt32 (_c : BitVec 1) (g : BitVec 3) (ds : BitVec 7) (b : BitVec 7) (o : BitVec 4) (s : State) : Out := .next (s.storeWord g ds b o 4)

/-- ST.64 (R326). -/
def execSt64 (_c : BitVec 1) (g : BitVec 3) (ds : BitVec 7) (b : BitVec 7) (o : BitVec 4) (s : State) : Out := .next (s.storeWord g ds b o 8)

/-- ST.128 (R326). -/
def execSt128 (_c : BitVec 1) (g : BitVec 3) (ds : BitVec 7) (b : BitVec 7) (o : BitVec 4) (s : State) : Out := .next (s.storeWord g ds b o 16)

/-- ATOM (R329). -/
def execAtom (_c : BitVec 1) (g : BitVec 3) (d : BitVec 7) (b : BitVec 7) (o : BitVec 4) (t : BitVec 3) (s : State) : Out := .next (s.atomWord g d b o.toNat t.toNat true)

/-- CAS (R330). -/
def execCas (_c : BitVec 1) (g : BitVec 3) (d : BitVec 7) (b : BitVec 7) (t : BitVec 3) (s : State) : Out := .next (s.atomWord g d b 8 t.toNat true)

/-- RED (R331): D is read only. -/
def execRed (_c : BitVec 1) (g : BitVec 3) (d : BitVec 7) (b : BitVec 7) (o : BitVec 4) (t : BitVec 3) (s : State) : Out := .next (s.atomWord g d b o.toNat t.toNat false)

/-- LDS.8 (R327). -/
def execLds8 (_c : BitVec 1) (g : BitVec 3) (d : BitVec 7) (b : BitVec 7) (w : BitVec 3) (f : BitVec 1) (k : BitVec 3) (s : State) : Out := .next (s.ldsWord g d b w f k 1)

/-- LDS.16 (R327). -/
def execLds16 (_c : BitVec 1) (g : BitVec 3) (d : BitVec 7) (b : BitVec 7) (w : BitVec 3) (f : BitVec 1) (k : BitVec 3) (s : State) : Out := .next (s.ldsWord g d b w f k 2)

/-- LDS.32 (R327). -/
def execLds32 (_c : BitVec 1) (g : BitVec 3) (d : BitVec 7) (b : BitVec 7) (w : BitVec 3) (f : BitVec 1) (k : BitVec 3) (s : State) : Out := .next (s.ldsWord g d b w f k 4)

/-- LDS.64 (R327). -/
def execLds64 (_c : BitVec 1) (g : BitVec 3) (d : BitVec 7) (b : BitVec 7) (w : BitVec 3) (f : BitVec 1) (k : BitVec 3) (s : State) : Out := .next (s.ldsWord g d b w f k 8)

/-- LDS.128 (R327). -/
def execLds128 (_c : BitVec 1) (g : BitVec 3) (d : BitVec 7) (b : BitVec 7) (w : BitVec 3) (f : BitVec 1) (k : BitVec 3) (s : State) : Out := .next (s.ldsWord g d b w f k 16)

/-- STS.8 (R327). -/
def execSts8 (_c : BitVec 1) (g : BitVec 3) (ds : BitVec 7) (b : BitVec 7) (w : BitVec 3) (f : BitVec 1) (s : State) : Out := .next (s.stsWord g ds b w f 1)

/-- STS.16 (R327). -/
def execSts16 (_c : BitVec 1) (g : BitVec 3) (ds : BitVec 7) (b : BitVec 7) (w : BitVec 3) (f : BitVec 1) (s : State) : Out := .next (s.stsWord g ds b w f 2)

/-- STS.32 (R327). -/
def execSts32 (_c : BitVec 1) (g : BitVec 3) (ds : BitVec 7) (b : BitVec 7) (w : BitVec 3) (f : BitVec 1) (s : State) : Out := .next (s.stsWord g ds b w f 4)

/-- STS.64 (R327). -/
def execSts64 (_c : BitVec 1) (g : BitVec 3) (ds : BitVec 7) (b : BitVec 7) (w : BitVec 3) (f : BitVec 1) (s : State) : Out := .next (s.stsWord g ds b w f 8)

/-- STS.128 (R327). -/
def execSts128 (_c : BitVec 1) (g : BitVec 3) (ds : BitVec 7) (b : BitVec 7) (w : BitVec 3) (f : BitVec 1) (s : State) : Out := .next (s.stsWord g ds b w f 16)

end Sys2Proof.Machine
end

