-- ==== Sys2Proof/Machine/Tiles.lean ====
section
/-! DEFINITION. Levels of a launch (R58, R166), tile headers (R231 to R234) and tile registers (R353 to R357), and the words on them. -/

namespace Sys2Proof.Machine

open Sys2Proof

/-! ## Levels -/

/-- The identifier of a lane of a gang. -/
def Gang.wid (x : Gang) (lane : Nat) : Nat := (x.wids.drop lane).headD 0

/-! ## Tile headers -/

/-- One step of crc8 (R234). -/
def crcBit (c : Nat) : Nat := if c ≥ 0x80 then (2 * c % 256) ^^^ 0x2F else 2 * c % 256
/-- Eight steps. -/
def crcByte (c b : Nat) : Nat := crcBit (crcBit (crcBit (crcBit (crcBit (crcBit (crcBit (crcBit (c ^^^ b))))))))
/-- crc8 of a 32-byte header (R234): byte 7 is left out. -/
def crc8 (h : List Byte) : Nat := (h.take 7 ++ (h.drop 8).take 24).foldl (fun c b => crcByte c b.toNat) 0

/-- A header with its CHK set. -/
def withChk (h : List Byte) : List Byte := overlay h 7 (leBytes 1 (crc8 h))

/-- A header of a dense tile with no other field than these (R242, R354). -/
def plainHeader (fmt rows cols rm row0 col0 : Nat) (ovf : Bool) : List Byte :=
  withChk (leBytes 8 (fmt + rows * 2 ^ 16 + cols * 2 ^ 28) ++ leBytes 8 (rm * 2 ^ 29 + (if ovf then 2 ^ 28 else 0)) ++ zeros 8 ++
    leBytes 4 row0 ++ leBytes 4 col0)

/-- The register header of R354. -/
def regHeader (fmt row0 col0 : Nat) : List Byte := plainHeader fmt 63 63 0 row0 col0 false

/-- The fields of a tile header (R12, R231, R232). -/
structure Hdr where
  fmt : Nat
  sly : Nat
  spr : Nat
  rows : Nat          -- R, not minus 1
  cols : Nat
  lay : Nat
  sfm : Nat
  chk : Nat
  stride : Nat
  rm : Nat
  ovf : Bool
  doff : Nat
  moff : Nat
  soff : Nat
  col0 : Nat
  row0 : Nat
deriving DecidableEq, Repr, Inhabited

/-- A header taken apart. -/
def hdrOf (h : List Byte) : Hdr :=
  let w0 := fieldOf h 0 8
  let w1 := fieldOf h 8 8
  let d := bits w1 27 0
  { fmt := bits w0 7 0, sly := bits w0 11 8, spr := bits w0 15 12, rows := bits w0 27 16 + 1, cols := bits w0 39 28 + 1,
    lay := bits w0 47 40, sfm := bits w0 55 48, chk := bits w0 63 56, stride := bits w1 63 32, rm := bits w1 31 29, ovf := bit w1 28,
    doff := if d = 0 then 128 else d, moff := fieldOf h 20 4, soff := fieldOf h 16 4, col0 := fieldOf h 28 4, row0 := fieldOf h 24 4 }

/-! ## Tile registers -/

/-- The register a gang holds under a name (R353). -/
def State.treg (s : State) (x : Gang) (n : Nat) : Option TileReg :=
  if x.tiles.contains n then s.eng.tregs.find? (fun t => t.ctx == x.ctx && t.gang == x.gang && t.name == n) else none

/-- s with a tile register changed. -/
def State.updTreg (s : State) (ctx gang n : Nat) (f : TileReg → TileReg) : State :=
  { s with eng.tregs := s.eng.tregs.map (fun t => if t.ctx = ctx ∧ t.gang = gang ∧ t.name = n then f t else t) }

/-- The tile names a task writes or accumulates into (R358). -/
def Task.names (t : Task) : List Nat :=
  let ctl := fieldOf t.rcd 25 1
  let mn := fieldOf t.rcd 31 1
  if bit ctl 1 then [] else (List.range ((bits mn 2 0 + 1) * (bits mn 5 3 + 1))).map (fun i => fieldOf t.rcd 24 1 % 16 + i)

/-- A task of a gang that names a tile has not completed (R353, R355, R356). -/
def State.tileBusy (s : State) (x : Gang) (n : Nat) : Bool :=
  s.eng.tasks.any (fun t => t.ctx == x.ctx && t.gang == x.gang && !t.finished && t.names.contains n)

/-- The gangs of a list of lanes that do not hold a tile name. -/
def State.tregMissing (s : State) (g : Grp) (ls : List RLane) (n : Nat) : List RLane :=
  ls.filter (fun l => match s.gang g.core l.slot with
    | some x => !x.tiles.contains n
    | none => true)

/-- Some gang of a list of lanes has a task that names the tile. -/
def State.tilesBusy (s : State) (g : Grp) (ls : List RLane) (n : Nat) : Bool :=
  ls.any (fun l => match s.gang g.core l.slot with
    | some x => s.tileBusy x n
    | none => false)

/-- THWR (R355): word w of a register header; fixed fields stand, FMT only takes F32 and S32, CHK follows. -/
def TileReg.setHeader (t : TileReg) (w v : Nat) : TileReg :=
  let h := overlay t.header (4 * w) (leBytes 4 v)
  let fmt := if fieldOf h 0 1 = 0x46 ∨ fieldOf h 0 1 = 0x52 then fieldOf h 0 1 else fieldOf t.header 0 1
  { t with header := regHeader fmt (fieldOf h 24 4) (fieldOf h 28 4) }

/-- Element (i, j) that lane l reaches under an index x (R356), as its word in the register. -/
def tileWord (x l : Nat) : Nat :=
  let i := x % 64
  let e := 32 * (x / 64 % 2) + l
  if bit x 7 then 64 * e + i else 64 * i + e

/-- A group's lanes by gang slot, with the value in each slot's lowest lane and NUNIF (guniform of R352). -/
def guniform (vs : List (RLane × PVal)) (slot : Nat) : PVal × List (Nat × Nat × Nat) := uniformOf (vs.filter (fun v => v.1.slot == slot))

/-! ## Words on tile and scale registers -/

/-- THRD (R355): the index is uniform in a gang; a poisoned index gives derived poison (R285); TREG where the name is not held (R353). -/
def execThrd (_c : BitVec 1) (g : BitVec 3) (d : BitVec 7) (a : BitVec 7) (n : BitVec 4) (s : State) : Out :=
  .next (s.word (fun s r =>
    if !r.deep (guardEntry g) then s.coreTrap r 0x13 r.lanes
    else
      match s.operandTrap r (r.active g) [a.toNat] [d.toNat] with
      | some c => s.coreTrap r c r.lanes
      | none =>
        let miss := s.tregMissing r (r.active g) n.toNat
        if !miss.isEmpty then s.coreTrap r 0x28 miss
        else
          let vs := (r.active g).map (fun l => (l, s.readD r l a.toNat))
          let lanes := r.lanes.map (fun l =>
            match l.gate g with
            | .off => s.offLane r l d.toNat
            | .pois => l.result d.toNat derivedPoison
            | .on =>
              let u := guniform vs l.slot
              if (vs.filter (fun v => v.1.slot == l.slot)).any (fun v => v.2.bad) then l.result d.toNat derivedPoison
              else
                match (s.gang r.core l.slot).bind (fun x => s.treg x n.toNat) with
                | some t => l.result d.toNat (clean (BitVec.ofNat 32 (fieldOf t.header (4 * (u.1.val.toNat % 8)) 4)))
                | none => l.result d.toNat pzero)
          let logs := (slotsOf (r.active g)).flatMap (fun x => (guniform (vs.filter (fun v => !v.2.bad)) x).2)
          s.advance ((r.shiftedTo d.toNat lanes).addLog logs)))

/-- THWR (R355): the write is checked at issue and takes effect at the trailer. -/
def execThwr (_c : BitVec 1) (g : BitVec 3) (d : BitVec 7) (a : BitVec 7) (n : BitVec 4) (s : State) : Out :=
  .next (s.consume 0 g [d.toNat, a.toNat] (fun s r acts =>
    let miss := s.tregMissing r (r.active g) n.toNat
    if !miss.isEmpty then s.coreTrap r 0x28 miss
    else
      let vd := acts.map (fun x => (x.1, x.2.headD pzero))
      let va := acts.map (fun x => (x.1, (x.2.drop 1).headD pzero))
      let fx := (slotsOf (r.active g)).map (fun x => Fx.thwr x n.toNat ((guniform va x).1.val.toNat % 8) (guniform vd x).1.val)
      s.advance ((r.addFx fx).addLog ((slotsOf (r.active g)).flatMap (fun x => (guniform vd x).2 ++ (guniform va x).2)))))

/-- SCRD (R357). -/
def execScrd (_c : BitVec 1) (g : BitVec 3) (d : BitVec 7) (n : BitVec 3) (s : State) : Out :=
  .next (s.word (fun s r => s.lanewise g d.toNat [] 0 (fun l _ =>
    (match s.gang r.core l.slot with
     | some x => ((x.sc.drop n.toNat).headD 0).toNat
     | none => 0, []))))

/-- SCWR (R357): at the trailer. -/
def execScwr (_c : BitVec 1) (g : BitVec 3) (d : BitVec 7) (n : BitVec 3) (s : State) : Out :=
  .next (s.consume 0 g [d.toNat] (fun s r acts =>
    let vd := acts.map (fun x => (x.1, x.2.headD pzero))
    let slots := slotsOf (r.active g)
    s.advance ((r.addFx (slots.map (fun x => Fx.scwr x n.toNat (guniform vd x).1.val))).addLog (slots.flatMap (fun x => (guniform vd x).2)))))

/-- TALLOC (R353): maps a name to a free reserved register, zeroed, and pushes whether it did. -/
def execTalloc (_c : BitVec 1) (n : BitVec 4) (s : State) : Out :=
  .next (s.word (fun s r =>
    let beyond := r.lanes.filter (fun _ => match s.launch r.ctx with
      | some L => decide (n.toNat ≥ L.lrec.tiles)
      | none => true)
    if !beyond.isEmpty then s.coreTrap r 0x28 beyond
    else
      let free (slot : Nat) : Bool := match s.gang r.core slot with
        | some x => !x.tiles.contains n.toNat
        | none => false
      let s1 := (slotsOf r.lanes).foldl (fun (s : State) slot =>
        match s.gang r.core slot with
        | none => s
        | some x =>
          if x.tiles.contains n.toNat then s
          else
            let t : TileReg := { ctx := x.ctx, gang := x.gang, name := n.toNat, words := [], header := regHeader 0x52 0 0, pois := [] }
            ({ s with eng.tregs := s.eng.tregs ++ [t] }).updGang r.core slot (fun x => { x with tiles := addSorted x.tiles n.toNat })) s
      let took := ((slotsOf r.lanes).filter free).map (fun x => (x, n.toNat))
      s1.advance { r with lanes := r.lanes.map (fun l => l.push (free l.slot) false), allocs := r.allocs ++ took }))

/-- TFREE (R353): at the trailer, once no task of the gang names the tile. -/
def execTfree (_c : BitVec 1) (g : BitVec 3) (n : BitVec 4) (s : State) : Out :=
  .next (s.consume 0 g [] (fun s r _ => s.advance (r.addFx ((slotsOf (r.active g)).map (fun x => Fx.tfree x n.toNat)))))

/-- TWR (R356): waits at issue for the gang's tasks on the tile; the elements are written at the trailer. -/
def execTwr (_c : BitVec 1) (g : BitVec 3) (d : BitVec 7) (a : BitVec 7) (n : BitVec 4) (s : State) : Out :=
  .next (s.consume 0 g [d.toNat, a.toNat] (fun s r acts =>
    let miss := s.tregMissing r (r.active g) n.toNat
    if !miss.isEmpty then s.coreTrap r 0x28 miss
    else if s.tilesBusy r (r.active g) n.toNat then s.rotate
    else
      let u := uniformOf (acts.map (fun x => (x.1, (x.2.drop 1).headD pzero)))
      s.advance ((r.addFx (acts.map (fun x => Fx.twr x.1.lane n.toNat u.1.val.toNat (x.2.headD pzero)))).addLog u.2)))

/-- TRD (R356): waits at issue for the gang's tasks on the tile; a poisoned word reads as memory poison (R410). -/
def execTrd (_c : BitVec 1) (g : BitVec 3) (d : BitVec 7) (a : BitVec 7) (n : BitVec 4) (k : BitVec 3) (s : State) : Out :=
  .next (s.loading g k [a.toNat] [d.toNat] (fun s r acts pois =>
    let miss := s.tregMissing r (r.active g) n.toNat
    if !miss.isEmpty then s.coreTrap r 0x28 miss
    else if s.tilesBusy r (r.active g) n.toNat then s.rotate
    else
      let u := uniformOf (acts.map (fun x => (x.1, x.2.headD pzero)))
      let lane (l : RLane) : TLane :=
        let w := tileWord u.1.val.toNat l.lane
        match (s.gang r.core l.slot).bind (fun x => s.treg x n.toNat) with
        | some t => doneLane l [if t.pois.contains w then memPoison else clean (nget 0 t.words w)]
        | none => doneLane l [pzero]
      let ls := acts.map (fun x => lane x.1) ++ pois.map (fun l => doneLane l [derivedPoison])
      (s.nameToken (r.token k.toNat d.toNat 1 ls)).advance (r.addLog u.2)))

end Sys2Proof.Machine
end

