-- ==== Sys2Proof/Machine/Control.lean ====
section
/-! DEFINITION. The words of 16 that move threads from one run to the next or make them wait, and the special registers (R313 to R316, R334 to R347). Branches are
checked at issue; what they and the waits do is the trailer's (Trailer.lean). -/

namespace Sys2Proof.Machine

open Sys2Proof

/-! ## Branches -/

/-- The packet that holds the word at issue. -/
def Grp.packet (g : Grp) : Nat := match g.words.drop g.idx with | w :: _ => w.2 | [] => g.pc

/-- The packet after the one that holds END (R197, R273). -/
def Grp.nextPc (g : Grp) : Nat := match g.words.getLast? with | some w => (w.2 + 1) % 2 ^ 32 | none => g.pc

/-- A branch: poison, then CALLSTK in lanes that bad picks, then f of each active lane (R341 to R343). -/
def State.branchWord (s : State) (gd : BitVec 3) (srcs : List Nat) (bad : RLane → Bool) (f : Grp → RLane → List PVal → RLane) : State :=
  s.consume 3 gd srcs (fun s g acts =>
    let tr := (acts.map (fun x => x.1)).filter bad
    if !tr.isEmpty then s.coreTrap g 0x17 tr
    else s.advance { g with lanes := g.lanes.map (fun l =>
      match acts.find? (fun x => x.1.lane == l.lane) with
      | some x => f g l x.2
      | none => l) })

/-- The target of DISP (R273). -/
def Grp.target (g : Grp) (i : BitVec 21) : Nat := ofInt 32 ((g.packet : Int) + asInt 21 i.toNat)

/-- BRA (R341). -/
def execBra (_c : BitVec 1) (g : BitVec 3) (i : BitVec 21) (s : State) : Out :=
  .next (s.branchWord g [] (fun _ => false) (fun r l _ => { l with next := some (r.target i) }))

/-- CALL (R341): the return point of R273 goes onto the call stack; CALLSTK at depth 16. -/
def execCall (_c : BitVec 1) (g : BitVec 3) (i : BitVec 21) (s : State) : Out :=
  .next (s.branchWord g [] (fun l => decide (l.calls.length ≥ 16))
    (fun r l _ => { l with next := some (r.target i), calls := r.nextPc :: l.calls }))

/-- BRX (R342). -/
def execBrx (_c : BitVec 1) (g : BitVec 3) (a : BitVec 7) (s : State) : Out :=
  .next (s.branchWord g [a.toNat] (fun _ => false) (fun _ l vs => { l with next := some (vs.headD pzero).val.toNat }))

/-- RET (R342): CALLSTK at depth 0. -/
def execRet (_c : BitVec 1) (g : BitVec 3) (s : State) : Out :=
  .next (s.branchWord g [] (fun l => l.calls.isEmpty) (fun _ l _ => { l with next := l.calls.head?, calls := l.calls.drop 1 }))

/-- EXIT (R344): acts at the trailer. -/
def execExit (_c : BitVec 1) (g : BitVec 3) (s : State) : Out :=
  .next (s.consume 3 g [] (fun s r acts => s.advance (r.addFx (acts.map (fun x => Fx.exit x.1.lane)))))

/-- JOIN (R338): the mask is read at issue, the thread parks at the trailer. -/
def execJoin (_c : BitVec 1) (g : BitVec 3) (a : BitVec 7) (s : State) : Out :=
  .next (s.consume 3 g [a.toNat] (fun s r acts => s.advance (r.addFx (acts.map (fun x => Fx.join x.1.lane (x.2.headD pzero).val)))))

/-! ## Waits and fences -/

/-- BAR (R337): arrives at the trailer. -/
def execBar (_c : BitVec 1) (k : BitVec 7) (s : State) : Out :=
  .next (s.consume 0 0 [] (fun s r acts => s.advance (r.addFx (acts.map (fun x => Fx.bar x.1.lane (r.imm 7 k.toNat))))))

/-- WAIT (R336): the block's place is checked at issue, and read at the trailer. The window shifts, but the result is there only at the commit: what b1 then holds is a
free value (log 16). -/
def State.waitWord (s : State) (gd : BitVec 3) (d a b : BitVec 7) (all : Bool) : State :=
  s.consume 0 gd [a.toNat, b.toNat] (fun s g acts =>
    match s.operandTrap g (g.active gd) [] [d.toNat] with
    | some c => s.coreTrap g c g.lanes
    | none =>
      let offs := acts.map (fun x => (x.1, (x.2.headD pzero).val.toNat))
      s.spadCheck g 32 32 offs (fun s =>
        let fx := acts.map (fun x => Fx.wait x.1.lane d.toNat (x.2.headD pzero).val.toNat ((x.2.drop 1).headD pzero).val.toNat all)
        let lanes := g.lanes.map (fun l => match l.gate gd with
          | .on => l.shift (clean (Config.freeWord s.ctl.freeCtr))
          | _ => s.offLane g l d.toNat)
        s.advance ((g.shiftedTo d.toNat lanes).addFx fx)))

/-- WAIT.ANY (R336). -/
def execWaitAny (_c : BitVec 1) (g : BitVec 3) (d : BitVec 7) (a : BitVec 7) (b : BitVec 7) (s : State) : Out := .next (s.waitWord g d a b false)

/-- WAIT.ALL (R336). -/
def execWaitAll (_c : BitVec 1) (g : BitVec 3) (d : BitVec 7) (a : BitVec 7) (b : BitVec 7) (s : State) : Out := .next (s.waitWord g d a b true)

/-- ARM (R335): checked at issue, watchpoints among the checks (R400); the arrival word changes at the trailer. -/
def execArm (_c : BitVec 1) (g : BitVec 3) (a : BitVec 7) (b : BitVec 7) (s : State) : Out :=
  .next (s.consume 1 g [a.toNat, b.toNat] (fun s r acts =>
    let offs := acts.map (fun x => (x.1, (x.2.headD pzero).val.toNat))
    let target (l : RLane) : Nat := match acts.find? (fun x => x.1.lane == l.lane) with
      | some x => ((x.2.drop 1).headD pzero).val.toNat % 2 ^ 24
      | none => 0
    let hits := s.watchHits r true 8 (offs.map (fun a => (a.1, a.2, target a.1)))
    if !(misaligned 8 offs).isEmpty || !(s.beyondSpad r 8 offs).isEmpty || hits.isEmpty then
      s.spadCheck r 8 8 offs (fun s => s.advance (r.addFx (offs.map (fun x => Fx.arm x.1.lane x.2 (target x.1)))))
    else s.watchTrap r true 8 hits))

/-- FENCE and PHASE (R334): act at the trailer. -/
def State.fenceWord (s : State) (gd : BitVec 3) (f : Nat → Fx) : State :=
  s.consume 0 gd [] (fun s g acts => s.advance (g.addFx (acts.map (fun x => f x.1.lane))))

/-- FENCE.ACQ (R334). -/
def execFenceAcq (_c : BitVec 1) (g : BitVec 3) (q : BitVec 3) (s : State) : Out := .next (s.fenceWord g (fun l => Fx.fence l q.toNat 7))

/-- FENCE.REL (R334). -/
def execFenceRel (_c : BitVec 1) (g : BitVec 3) (r : BitVec 3) (s : State) : Out := .next (s.fenceWord g (fun l => Fx.fence l 7 r.toNat))

/-- FENCE.AR (R334). -/
def execFenceAr (_c : BitVec 1) (g : BitVec 3) (q : BitVec 3) (r : BitVec 3) (s : State) : Out :=
  .next (s.fenceWord g (fun l => Fx.fence l q.toNat r.toNat))

/-- PHASE (R334). -/
def execPhase (_c : BitVec 1) (g : BitVec 3) (q : BitVec 3) (_r : BitVec 3) (s : State) : Out := .next (s.fenceWord g (fun l => Fx.phase l q.toNat))

/-! ## Extended registers and breakpoints -/

/-- The extended blocks of a core in use (R205). -/
def State.blocksUsed (s : State) (core : Nat) : Nat := (s.core.gangs.filter (fun g => g.core == core && g.xacq)).length

/-- ACQX (R205, R345): one block for each gang slot of the group, in slot order; the push says whether it holds one. -/
def execAcqx (_c : BitVec 1) (s : State) : Out :=
  .next (s.word (fun s r =>
    if (match s.launch r.ctx with | some L => L.lrec.xregs | none => 0) = 0 then s.coreTrap r 0x14 r.lanes
    else
      let s1 := (slotsOf r.lanes).foldl (fun (s : State) x =>
        match s.gang r.core x with
        | some g =>
          if g.xacq || decide (s.blocksUsed r.core ≥ 16) then s
          else s.updGang r.core x (fun g => { g with xacq := true, v := g.v.filter (fun e => decide (e.1 / 32 < 64)) })
        | none => s) s
      let has (x : Nat) : Bool := match s1.gang r.core x with | some g => g.xacq | none => false
      s1.advance { r with lanes := r.lanes.map (fun l => l.push (has l.slot) false) }))

/-- RELX (R345): at the trailer. -/
def execRelx (_c : BitVec 1) (s : State) : Out := .next (s.word (fun s r => s.advance (r.addFx ((slotsOf r.lanes).map Fx.relx))))

/-- BRK (R347): lanes on the pass after a RETRY go on; else a BREAK trap, to the board for a held launch (R397, R398). -/
def execBrk (_c : BitVec 1) (g : BitVec 3) (s : State) : Out :=
  .next (s.consume 3 g [] (fun s r acts =>
    let hit := (acts.map (fun x => x.1)).filter (fun l => !(s.thread r.core l.slot l.lane).brkPass)
    if hit.isEmpty then s.advance r
    else if s.held r.ctx then
      let s1 := s.abandon r
      let gs := (slotsOf hit).filterMap (fun x => (s.gang r.core x).map (fun g => (g.gang, x)))
      (sortBy (fun a => a.1) gs).foldl (fun (s : State) x =>
        s.stopSet r.core x.2 ((hit.filter (fun l => l.slot == x.2)).map (fun l => l.lane)) 0 { code := 3, pc := r.pc }) s1
    else
      match s.freeFid r.ctx with
      | some fid => (s.newFault r.ctx fid s.openVa 0x0C 3 (srcCore r.core) none).waitTrap r (hit.map (fun l => (l, some fid)))
      | none => s.waitTrap r (hit.map (fun l => (l, none)))))

/-- POST (R340): at the trailer. -/
def execPost (_c : BitVec 1) (g : BitVec 3) (a : BitVec 7) (s : State) : Out :=
  .next (s.consume 0 g [a.toNat] (fun s r acts => s.advance (r.addFx (acts.map (fun x => Fx.post x.1.lane (x.2.headD pzero).val)))))

/-! ## The permutation of an estimating launch (R186) -/

/-- An 8-byte field of the kind area (bytes 80 to 191), by its place in the record. -/
def LRec.kind8 (r : LRec) (off : Nat) : Nat := fieldOf r.kindArea (off - 80) 8

/-- mix64 of R186. -/
def mix64 (z : Nat) : Nat :=
  let a := ((z ^^^ (z / 2 ^ 30)) * 0xBF58476D1CE4E5B9) % 2 ^ 64
  let b := ((a ^^^ (a / 2 ^ 27)) * 0x94D049BB133111EB) % 2 ^ 64
  b ^^^ (b / 2 ^ 31)

/-- feistel of R186 on m bits. -/
def feistel (pkey m x : Nat) : Nat :=
  let v := m / 2
  let r := [1, 2, 3, 4].foldl (fun (q : Nat × Nat × Nat × Nat) k =>
    let f := mix64 (pkey ^^^ (k * 2 ^ 32) ^^^ q.2.1) % 2 ^ q.2.2.1
    (q.2.1, q.1 ^^^ f, q.2.2.2, q.2.2.1)) (x / 2 ^ v, x % 2 ^ v, m - v, v)
  r.1 * 2 ^ r.2.2.2 + r.2.1

/-- Cycle walking: y, while it is n or above, goes through f again. -/
def cycleWalk (f : Nat → Nat) (n : Nat) : Nat → Nat → Nat
  | 0, y => y
  | k + 1, y => if y < n then y else cycleWalk f n k (f y)

/-- Term j, counted from 0, among those below n of a sequence. -/
def nthBelow (f : Nat → Nat) (n : Nat) : Nat → Nat → Nat → Nat
  | 0, _, x => x
  | k + 1, j, x => if x < n then (if j = 0 then x else nthBelow f n k (j - 1) (f x)) else nthBelow f n k j (f x)

/-- pi of R186. -/
def LRec.item (r : LRec) (j : Nat) : Nat :=
  let n := r.count
  let m := log2Up n
  let pkey := r.kind8 88
  match fieldOf r.kindArea 0 1 with
  | 0 => j
  | 1 => cycleWalk (feistel pkey m) n (2 ^ m) (feistel pkey m j)
  | _ => nthBelow (fun x => (r.kind8 120 * x + r.kind8 128) % 2 ^ m) n (2 ^ m) j (pkey % 2 ^ m)

/-! ## Special registers -/

/-- The compute-clock count of a core, and the reference ticks (R314). -/
def State.clkOf (s : State) (core : Nat) : Nat := (s.pkg.clk.drop (clusterOf core / 8)).headD 0 / 1700
/-- Reference ticks since reset (R4). -/
def State.refOf (s : State) : Nat := s.ctl.time / perTick

/-- What SRD reads in a lane (R314). -/
def State.sprRead (s : State) (g : Grp) (gd : BitVec 3) (l : RLane) (n : Nat) : Nat :=
  match s.gang g.core l.slot, s.launch g.ctx with
  | some x, some L =>
    let wid := x.wid l.lane
    let region (k : Nat) : Region := (x.regions.drop k).headD { rgva := 0, rgcf := 0 }
    let item := if L.lrec.kind = 3 then L.lrec.item wid else wid
    if n = 0 then wid % 2 ^ 32
    else if n = 1 then wid / 2 ^ 32
    else if 8 ≤ n ∧ n ≤ 13 then (wid / 2 ^ L.lrec.shift (n - 8) % 2 ^ (L.lrec.w.drop (n - 8)).headD 0) % 2 ^ 32
    else if n = 0x10 then l.lane
    else if n = 0x11 then l.slot
    else if n = 0x12 then g.core
    else if n = 0x13 then g.ctx
    else if n = 0x14 then x.gang
    else if n = 0x15 then maskOf (((g.active gd).filter (fun a => a.slot == l.slot)).map (fun a => a.lane))
    else if n = 0x18 then s.clkOf g.core % 2 ^ 32
    else if n = 0x19 then (l.clk.map (fun c => c.toNat)).getD (s.clkOf g.core) / 2 ^ 32
    else if n = 0x1A then s.refOf % 2 ^ 32
    else if n = 0x1B then (l.ref.map (fun c => c.toNat)).getD s.refOf / 2 ^ 32
    else if n = 0x20 then ((s.pkg.tcol.drop (clusterOf g.core)).headD 0).toNat
    else if n = 0x28 then item % 2 ^ 32
    else if n = 0x29 then item / 2 ^ 32
    else if 0x100 ≤ n ∧ n < 0x110 then (region (n - 0x100)).rgva.toNat % 2 ^ 32
    else if 0x110 ≤ n ∧ n < 0x120 then (region (n - 0x110)).rgva.toNat / 2 ^ 32
    else if 0x120 ≤ n ∧ n < 0x130 then (region (n - 0x120)).rgcf.toNat
    else 0
  | _, _ => 0

/-- SRD (R313, R315): a read of CLK or REFCLK keeps its count for the high half. -/
def execSrd (_c : BitVec 1) (g : BitVec 3) (d : BitVec 7) (n : BitVec 14) (s : State) : Out :=
  .next (s.word (fun s r =>
    let s1 := s.lanewise g d.toNat [] 0 (fun l _ => (s.sprRead r g l n.toNat, []))
    let mark (l : RLane) : RLane :=
      if l.gate g != .on then l
      else if n.toNat = 0x18 then { l with clk := some (BitVec.ofNat 64 (s.clkOf r.core)) }
      else if n.toNat = 0x1A then { l with ref := some (BitVec.ofNat 64 s.refOf) } else l
    s1.updGrp r.id (fun r => { r with lanes := r.lanes.map mark })))

/-- First and last scratchpad line of a descriptor. -/
def regionLines (cf : Nat) : Nat × Nat := (bits cf 10 0, bits cf 10 0 + bits cf 26 16)

/-- A write to RGCFn that the checks of R147 refuse. -/
def Gang.regionBad (x : Gang) (n cf : Nat) : Bool :=
  let ls := regionLines cf
  bit cf 31 && (decide (128 * (ls.2 + 1) > x.size) || (List.range 16).any (fun k =>
    let c := ((x.regions.drop k).headD { rgva := 0, rgcf := 0 }).rgcf.toNat
    k != n && bit c 31 && decide ((regionLines c).1 ≤ ls.2) && decide (ls.1 ≤ (regionLines c).2)))

/-- SWR of a gang is refused with REGION (R147, R316). The check looks at the regions as they stand at issue: an earlier SWR of the same run, which its trailer writes, is not seen
(DESIGN CHOICE, log 104). -/
def Gang.swrBad (x : Gang) (n v : Nat) : Bool :=
  if 0x120 ≤ n then x.regionBad (n - 0x120) v
  else bit ((x.regions.drop (n % 16)).headD { rgva := 0, rgcf := 0 }).rgcf.toNat 31

/-- SWR (R313, R316): uniform over the group, checked at issue, written at the trailer for each gang that acts. -/
def execSwr (_c : BitVec 1) (g : BitVec 3) (n : BitVec 14) (a : BitVec 7) (s : State) : Out :=
  .next (s.consume 0 g [a.toNat] (fun s r acts =>
    let u := uniformOf (acts.map (fun x => (x.1, x.2.headD pzero)))
    let bad := (acts.map (fun x => x.1)).filter (fun l => match s.gang r.core l.slot with
      | some x => x.swrBad n.toNat u.1.val.toNat
      | none => false)
    if !bad.isEmpty then s.coreTrap r 0x18 bad
    else s.advance ((r.addFx ((slotsOf (r.active g)).map (fun x => Fx.swr x n.toNat u.1.val))).addLog u.2)))

end Sys2Proof.Machine
end

