-- ==== Sys2Proof/Machine/Trailer.lean ====
section
/-! DEFINITION. END and what a run does at its trailer (R209, R216): the stores, then each lane's waits, then its commit. -/

namespace Sys2Proof.Machine

open Sys2Proof

/-! ## Effects -/

/-- The gang slot of an effect of a gang slot. -/
def Fx.slot? (f : Fx) : Option Nat :=
  match f with
  | .swr x _ _ => some x
  | .thwr x _ _ _ => some x
  | .scwr x _ _ => some x
  | .tfree x _ => some x
  | .relx x => some x
  | _ => none

/-- The effects that stand even where the run is abandoned at its trailer (R209). -/
def Fx.early (f : Fx) : Bool :=
  match f with
  | .store _ _ _ _ _ => true
  | .strong _ _ _ _ _ _ _ => true
  | .sts _ _ _ => true
  | .arm _ _ _ => true
  | _ => false

/-- The lane of a group at a lane position. -/
def Grp.rlane (g : Grp) (lane : Nat) : RLane := (g.lanes.find? (fun l => l.lane == lane)).getD default
/-- The group with a lane changed. -/
def Grp.updLane (g : Grp) (lane : Nat) (f : RLane → RLane) : Grp :=
  { g with lanes := g.lanes.map (fun l => if l.lane = lane then f l else l) }
/-- The group without an effect. -/
def Grp.dropFx (g : Grp) (f : Fx) : Grp := { g with fx := g.fx.erase f }

/-! ## Stores, STS and ARM -/

/-- The bytes of a thread's own store entry that a strong store writes leave the entry: the strong store is the later one (log 17). -/
def State.supersede (s : State) (core slot lane line : Nat) (p : Patch) : State :=
  { s with coh.sent := (s.coh.sent.map (fun (e : SEnt) =>
      if e.core = core ∧ e.slot = slot ∧ e.lane = lane ∧ e.line = line then
        { e with bytes := e.bytes.filter (fun b => !p.any (fun q => q.1 == b.1)) } else e)).filter (fun e => !e.bytes.isEmpty) }

/-- A strong store leaves the thread, once every earlier strong access of its own is acknowledged at its scope (R158, R159, R209). -/
def State.strongStore (s : State) (core slot lane va pa : Nat) (bytes : List Byte) (scope cp : Nat) : State :=
  let line := lineOf pa
  let p := patchOf (pa % 128) bytes
  let s0 := s.supersede core slot lane line p
  let id := s0.ctl.nextId
  let s1 := s0.launchTx { s0.threadTx core slot lane va line p true with cp := cp, after := s0.earlierStrong core slot lane scope }
  { s1 with coh.fwd := s1.coh.fwd ++ [{ core := core, slot := slot, lane := lane, line := line, bytes := p, tx := id, held := false, pois := [] }] }

/-- A line written in a region with WB = 1 is to be written back (R148). -/
def Gang.noteWrite (x : Gang) (off : Nat) : Gang :=
  match x.regionOf (off / 128) with
  | some (_, _, true) => { x with written := addSorted x.written (off / 128) }
  | _ => x

/-- ARM (R335): target set, count cleared, generation kept. -/
def Gang.arm (x : Gang) (off target : Nat) : Gang :=
  (x.spadPut off (leBytes 6 target)).noteWrite off

/-- One early effect: the state, the group, and whether it is over. -/
def State.early (s : State) (g : Grp) (f : Fx) : State × Grp × Bool :=
  match f with
  | .store lane pa va bytes cp =>
    let slot := (g.rlane lane).slot
    if g.stage = 5 then
      if s.coh.rels.any (fun r => r.core == g.core && r.slot == slot && r.scope == 4) then (s, g, false)
      else (s.enterStore g.core slot lane va pa bytes cp, { g with stage := 0 }, true)
    else if s.entriesFull g.core slot lane pa then (s.spill g.core slot lane, { g with stage := 5 }, false)
    else (s.enterStore g.core slot lane va pa bytes cp, g, true)
  | .strong lane pa va bytes rel scope cp =>
    let slot := (g.rlane lane).slot
    match rel, (g.rlane lane).relId with
    | some sc, none =>
      (s.startRelease g.core slot lane sc false, g.updLane lane (fun l => { l with relId := some (s.nextRelease g.core slot lane) }), false)
    | some _, some r =>
      if s.relDone r then (s.strongStore g.core slot lane va pa bytes scope cp, g.updLane lane (fun l => { l with relId := none }), true)
      else (s, g, false)
    | none, _ => (s.strongStore g.core slot lane va pa bytes scope cp, g, true)
  | .sts lane off bytes => (s.updGang g.core (g.rlane lane).slot (fun x => (x.spadPut off bytes).noteWrite off), g, true)
  | .arm lane off target => (s.updGang g.core (g.rlane lane).slot (fun x => x.arm off target), g, true)
  | _ => (s, g, true)

/-- The early effects in program order, as far as they get. -/
def State.earlies : Nat → State → Grp → State × Grp × Bool
  | 0, s, g => (s, g, true)
  | k + 1, s, g =>
    match g.fx.find? Fx.early with
    | none => (s, g, true)
    | some f =>
      let r := s.early g f
      if r.2.2 then State.earlies k r.1 (r.2.1.dropFx f) else r

/-! ## WAIT -/

/-- The conditions of a block that are present (R221): number, generation, test, offset. -/
def conditions (block : List Byte) : List (Nat × Nat × Bool × Nat) :=
  ((List.range 4).map (fun i => (i, fieldOf block (8 * i) 8))).filterMap (fun c =>
    if bit c.2 47 then some (c.1, bits c.2 63 48, bit c.2 43, bits c.2 39 0) else none)

/-- A present condition breaks the layout of R221. -/
def badBlock (block : List Byte) (size : Nat) : Bool :=
  (List.range 4).any (fun i =>
    let c := fieldOf block (8 * i) 8
    bit c 47 && (bits c 42 40 != 0 || bits c 46 44 == 7 || decide (bits c 39 0 + 8 > size)))

/-- The lines of scratchpad offsets that a lane reads are filled where their region asks for it (R148): whether it may go on, and the state; a fill that faults traps. -/
def State.readyAt (s : State) (g : Grp) (l : RLane) (offs : List Nat) : State × Bool :=
  let f := s.fillLanes g (offs.map (fun o => (l, o)))
  if !f.bad.isEmpty then ((f.st.takeFaults f.walks).waitTrap g (f.bad.map (fun b => (b.1, b.2.2))), false)
  else (f.st, !f.wait)

/-- The generation of an arrival word of a gang. -/
def Gang.generation (x : Gang) (off : Nat) : Nat := leNat (x.spadBytes (off + 6) 2)

/-- What WAIT finds (R221): its value once a condition, or all of them, holds; 0xFFFF_FFFF where none is present. -/
def Gang.waitValue (x : Gang) (off : Nat) (all : Bool) : Option Nat :=
  let cs := conditions (x.spadBytes off 32)
  let holds (c : Nat × Nat × Bool × Nat) : Bool := (x.generation c.2.2.2 == c.2.1) == c.2.2.1
  if cs.isEmpty then some 0xFFFFFFFF
  else if all then (if cs.all holds then some 0 else none)
  else (cs.find? holds).map (fun c => c.1)

/-- A timeout of 0xFFFF_FFFF never elapses; it is kept as a time out of reach. -/
def never : Nat := 2 ^ 80

/-! ## Lane waits -/

/-- The members of the barrier of a lane (R337): threads of its level-k group that are neither exited nor empty; (core, slot, lane), or none where one of them is saved. -/
def State.barMembers (s : State) (ctx k key : Nat) : Option (List (Nat × Nat × Nat)) :=
  match s.launch ctx with
  | none => some []
  | some L =>
    if s.run.saved.any (fun x => x.ctx == ctx && (List.range 32).any (fun l =>
        ((x.threads.drop l).headD emptyThread).live && L.lrec.groupAt k ((x.wids.drop l).headD 0) == key)) then none
    else
      some ((s.core.gangs.filter (fun x => x.ctx == ctx)).flatMap (fun x =>
        ((List.range 32).filter (fun l => (x.thread l).live && L.lrec.groupAt k (x.wid l) == key)).map (fun l => (x.core, x.slot, l))))

/-- A lane of a group waits at BAR k, having arrived. -/
def Grp.arrived (g : Grp) (m : Nat × Nat × Nat) (k : Nat) : Bool :=
  g.core == m.1 && g.lanes.any (fun l => l.slot == m.2.1 && l.lane == m.2.2 && !l.done && l.wait == 1) &&
    (match g.fx.find? (fun f => f.waits && f.lane? == some m.2.2) with
     | some (.bar _ k') => k' == k
     | _ => false)

/-- Every member has arrived: all of them go on (R337). -/
def State.barCheck (s : State) (ctx k key : Nat) : State :=
  match s.barMembers ctx k key with
  | none => s
  | some ms =>
    if ms.all (fun m => s.core.issue.any (fun g => g.arrived m k)) then
      { s with core.issue := s.core.issue.map (fun g =>
          { g with lanes := g.lanes.map (fun l => if ms.contains (g.core, l.slot, l.lane) ∧ l.wait = 1 then { l with wait := 2 } else l) }) }
    else s

/-- A fence's wait (R160): the strong stores of the thread at a scope, nothing drained. -/
def State.startFence (s : State) (core slot lane scope : Nat) : State :=
  let txs := (s.coh.txs.filter (fun t => t.core == core && t.slot == slot && t.lane == lane && t.strong && t.bytes.length != 0)).map (fun t => t.id)
  let r : Rel := { id := s.ctl.nextId, core := core, slot := slot, lane := lane, scope := scope, txs := txs, acq := false }
  ({ s.bump with coh.rels := s.coh.rels ++ [r] }).send (.releaseComplete s.ctl.nextId)

/-- The lane waits for a release that is put under way at its first look (number id): over when the release is. -/
def State.awaitRel (s : State) (g : Grp) (l : RLane) (start : State → State) (id : Nat) (f : Fx) : State :=
  match l.relId with
  | none => (start s).updGrp g.id (fun g => g.updLane l.lane (fun l => { l with relId := some id }))
  | some r => if s.relDone r then s.updGrp g.id (fun g => (g.updLane l.lane (fun l => { l with relId := none })).dropFx f) else s

/-- One step of the first effect a lane waits for. -/
def State.laneWait (s : State) (g : Grp) (l : RLane) (f : Fx) : State :=
  let core := g.core
  match f with
  | .fence _ aq rl =>
    if aq ≠ 7 && l.relId.isNone && s.strongPending core l.slot l.lane then s
    else if rl = 7 then s.updGrp g.id (fun g => g.dropFx f)
    else s.awaitRel g l (fun s => s.startFence core l.slot l.lane rl) s.ctl.nextId f
  | .phase _ sc => s.awaitRel g l (fun s => s.startRelease core l.slot l.lane sc true) (s.nextRelease core l.slot l.lane) f
  | .exit _ =>
    if l.did then s
    else
      let sc := match s.launch g.ctx with | some L => L.lrec.rels | none => 0
      match l.relId with
      | none => (s.startRelease core l.slot l.lane sc false).updGrp g.id (fun g => g.updLane l.lane (fun l => { l with relId := some (s.nextRelease core l.slot l.lane) }))
      | some r => if s.relDone r then s.updGrp g.id (fun g => g.updLane l.lane (fun l => { l with relId := none, did := true })) else s
  | .bar _ k =>
    match s.launch g.ctx, s.gang core l.slot with
    | some L, some x =>
      let key := L.lrec.groupAt k (x.wid l.lane)
      if l.wait = 2 then
        if s.loadsPending core l.slot l.lane then s
        else (s.acquire core l.slot l.lane).updGrp g.id (fun g => (g.updLane l.lane (fun l => { l with wait := 0 })).dropFx f)
      else if l.wait = 1 then s.barCheck g.ctx k key
      else
        match l.bar with
        | none => s
        | some r =>
          if s.relDone r then (s.updGrp g.id (fun g => g.updLane l.lane (fun l => { l with bar := none, wait := 1 }))).barCheck g.ctx k key else s
    | _, _ => s
  | .wait _ d off ticks all =>
    match s.gang core l.slot with
    | none => s
    | some x =>
      let finish (v : Nat) (s : State) : State :=
        (s.cancel (fun e => e == .waitTimeout core l.slot l.lane g.id)).updGrp g.id (fun g =>
          (g.updLane l.lane (fun l => { l with wait := 0, dval := none }.put d (clean (BitVec.ofNat 32 v)))).dropFx f)
      match l.dval with
      | some v =>
        if s.loadsPending core l.slot l.lane then s else finish v.val.toNat (s.acquire core l.slot l.lane)
      | none =>
        let block := s.readyAt g l [off, off + 31]
        if !block.2 then block.1
        else
        let s := block.1
        let x := (s.gang core l.slot).getD x
        if l.wait = 0 && badBlock (x.spadBytes off 32) x.size then s.derivedTrap g 0 [l]
        else
        let words := s.readyAt g l ((conditions (x.spadBytes off 32)).flatMap (fun c => [c.2.2.2, c.2.2.2 + 7]))
        if !words.2 then words.1
        else
        let s := words.1
        let x := (s.gang core l.slot).getD x
        match x.waitValue off all with
        | some v =>
          if v = 0xFFFFFFFF then finish v s
          else if s.loadsPending core l.slot l.lane then
            s.updGrp g.id (fun g => g.updLane l.lane (fun l => { l with dval := some (clean (BitVec.ofNat 32 v)) }))
          else finish v (s.acquire core l.slot l.lane)
        | none =>
          if l.wait = 1 || (l.wait = 0 && ticks = 0) then finish 0xFFFFFFFF s
          else if l.wait = 0 then
            let s1 := s.updGrp g.id (fun g => g.updLane l.lane (fun l =>
              { l with wait := if ticks = 0xFFFFFFFF then never else 2 + s.ctl.time + perTick * ticks }))
            (if ticks = 0xFFFFFFFF then s1 else s1.after (perTick * ticks) (.waitTimeout core l.slot l.lane g.id)).maybeParkSlot core l.slot
          else s
  | _ => s

/-- WAIT_TIMEOUT (R221): the lane's timeout has elapsed; its WAIT returns 0xFFFF_FFFF unless a condition holds when it looks. -/
def State.waitTimedOut (s : State) (core slot lane id : Nat) : State :=
  { s with core.issue := s.core.issue.map (fun g =>
      if g.id = id ∧ g.core = core then
        { g with lanes := g.lanes.map (fun l =>
            if l.lane = lane ∧ l.slot = slot ∧ !l.done ∧ 2 ≤ l.wait ∧ l.wait < never ∧ l.wait ≤ 2 + s.ctl.time then { l with wait := 1 } else l) }
      else g) }

/-! ## Effects of a gang slot -/

/-- Written lines of a region wait for their write-back. -/
def Gang.dirtyIn (x : Gang) (cf : Nat) : Bool :=
  bit cf 31 && x.written.any (fun l => decide ((regionLines cf).1 ≤ l) && decide (l ≤ (regionLines cf).2))

/-- A special register of a gang written (R316, R218). -/
def Gang.setSpr (x : Gang) (n : Nat) (v : Word) : Gang :=
  let k := n % 16
  let put (f : Region → Region) : Gang := { x with regions := modAt x.regions k f }
  if n < 0x110 then put (fun r => { r with rgva := BitVec.ofNat 64 (setBits r.rgva.toNat 31 0 (v.toNat / 128 * 128)) })
  else if n < 0x120 then put (fun r => { r with rgva := BitVec.ofNat 64 (setBits r.rgva.toNat 63 32 v.toNat) })
  else
    let cf := setBits (setBits v.toNat 29 27 0) 15 11 0
    let y := put (fun r => { r with rgcf := BitVec.ofNat 32 cf })
    { y with valid := y.valid.filter (fun l => !(decide ((regionLines cf).1 ≤ l) && decide (l ≤ (regionLines cf).2))) }

/-- A task of a gang queued before this run names the tile (R353, R355). -/
def State.olderTask (s : State) (g : Grp) (x : Gang) (n : Nat) : Bool :=
  s.eng.tasks.any (fun t => t.ctx == x.ctx && t.gang == x.gang && !t.finished && (t.passed || t.grp != g.id) && t.names.contains n)

/-- The first effect of a gang slot, where nothing holds it back (R316, R345, R353, R355, R357). -/
def State.slotFx (s : State) (g : Grp) (slot : Nat) (f : Fx) : State × Bool :=
  match s.gang g.core slot with
  | none => (s, true)
  | some x =>
    match f with
    | .swr _ n v =>
      if 0x120 ≤ n ∧ (x.dirtyIn ((x.regions.drop (n % 16)).headD { rgva := 0, rgcf := 0 }).rgcf.toNat ∨ s.writingBack g.core slot) then
        (s.flushRegions g.core slot, false)
      else (s.updGang g.core slot (fun x => x.setSpr n v), true)
    | .scwr _ n v => (s.updGang g.core slot (fun x => { x with sc := modAt x.sc n (fun _ => v) }), true)
    | .thwr _ n w v =>
      if s.olderTask g x n then (s, false) else (s.updTreg x.ctx x.gang n (fun t => t.setHeader w v.toNat), true)
    | .tfree _ n =>
      if s.olderTask g x n then (s, false)
      else
        ({ s with eng.tregs := s.eng.tregs.filter (fun t => !(t.ctx == x.ctx && t.gang == x.gang && t.name == n)) }.updGang g.core slot
          (fun x => { x with tiles := x.tiles.filter (fun m => m != n) }), true)
    | .relx _ =>
      let s1 := s.updGang g.core slot (fun x => { x with xacq := false, v := x.v.filter (fun e => decide (e.1 / 32 < 64)) })
      ({ s1 with core.toks := s1.core.toks.map (fun (t : Token) => if t.core = g.core ∧ 64 ≤ t.dst ∧ t.dst < 96 then
          { t with lanes := t.lanes.map (fun (l : TLane) => if l.slot = slot then { l with drop := true } else l) } else t) }, true)
    | _ => (s, true)

/-! ## Commit -/

/-- Lane registers, operand-cache entries, predicates and the call stack of a lane as its run leaves them (R204, R209). -/
def Gang.commitRegs (x : Gang) (l : RLane) : Gang :=
  let x1 := l.wr.foldl (fun (x : Gang) p => if 64 ≤ p.1 ∧ !x.xacq then x else x.setReg p.1 l.lane p.2) x
  l.o.foldl (fun (x : Gang) e => x.setOc e.1 l.lane e.2) x1

/-- The deadline in force for a thread (R216). -/
def State.deadline (s : State) (ctx : Nat) (t : Thread) : Nat :=
  let m := match s.launch ctx with | some L => L.lrec.maxdl | none => 0
  if t.dl = 0 then m else min t.dl m

/-- A thread has gone past its deadline (R216). -/
def State.overdue (s : State) (ctx : Nat) (t : Thread) : Bool := decide (t.count > 256 * s.deadline ctx t)

/-- A draw at or above K whose cluster STOP has reached, in a launch with CANCEL (R191). -/
def State.cancelled (s : State) (x : Gang) (lane : Nat) : Bool :=
  match s.launch x.ctx with
  | some L => match L.est with
    | some e => match e.k with
      | some k => bit L.lrec.flags 0 && decide (k ≤ x.wid lane) && e.reached.contains (clusterOf x.core)
      | none => false
    | none => false
  | none => false

/-- POST (R340): P of the thread's stage. -/
def State.post (s : State) (ctx stage : Nat) (v : Nat) : State :=
  s.updLaunch ctx (fun L => { L with graph := L.graph.map (fun (q : GraphS) => { q with p := modAt q.p stage (fun p => p ||| v) }) })

/-- EACC (R187): the first contribution of a draw reaches the Reeve; a later one is discarded. -/
def State.contribute (s : State) (ctx draw : Nat) (first : Bool) (v : DWord) : State :=
  let s1 := s.updLaunch ctx (fun L => { L with est := L.est.map (fun (e : EstS) =>
    let late := match e.k with | some k => decide (k ≤ draw) | none => false
    if first && !late then { e with window := e.window ++ [(draw, some v.toNat)] } else { e with disc := e.disc + 1 }) })
  if first then s1.send (.contributionArrive ctx draw) else s1

/-- A reply that a thread in SVCWAIT has is applied, once its tokens have completed; at restore where its gang is being saved (R346, R387). -/
def State.tryReply (s : State) (core slot lane : Nat) : State :=
  let t := s.thread core slot lane
  let saving := match s.gang core slot with | some g => g.saving | none => false
  match t.status, t.reply with
  | .svcwait, some r =>
    if saving || s.core.toks.any (fun k => k.core == core && k.lanes.any (fun l => l.slot == slot && l.lane == lane)) then s
    else
      let s1 := s.updGang core slot (fun x =>
        ((List.range 4).foldl (fun (x : Gang) i => x.setReg i lane (clean (BitVec.ofNat 32 (fieldOf r (16 + 4 * i) 4)))) x).setReg 4 lane
          (clean (BitVec.ofNat 32 (fieldOf r 8 2))))
      (s1.acquire core slot lane).updThread core slot lane (fun t =>
        { t with status := .runnable, call := none, reply := none, stamp := s.ctl.freeCtr })
  | _, _ => s

/-- The commit of one lane (R209, R216): registers, results, posts and contributions; then its thread goes on, parks or ends. -/
def State.commitLane (s : State) (g : Grp) (l : RLane) (aw : Nat) (y : Bool) (d : Nat) : State :=
  let core := g.core
  let mine := g.fx.filter (fun f => f.lane? == some l.lane)
  let pc := l.next.getD g.nextPc
  match s.gang core l.slot with
  | none => s
  | some x0 =>
    let s1 := s.updGang core l.slot (fun x => x.commitRegs l)
    let s2 := mine.foldl (fun (s : State) f => match f with
      | .twr _ n w v => s.updTreg x0.ctx x0.gang n (fun t =>
          { t with words := nset 0 t.words (tileWord w l.lane) v.val, pois := t.pois.filter (fun p => p != tileWord w l.lane) })
      | .post _ v => s.post g.ctx x0.stage v.toNat
      | .eacc _ v =>
        (s.contribute g.ctx (x0.wid l.lane) (decide ((x0.thread l.lane).item = 0)) v).updThread core l.slot l.lane (fun t => { t with item := t.item + 1 })
      | _ => s) s1
    let n := g.words.length
    let late := s.overdue g.ctx { x0.thread l.lane with count := (x0.thread l.lane).count + n }
    let s3 := s2.updThread core l.slot l.lane (fun t =>
      { t with pc := pc, preds := l.preds, depth := l.depth, ppois := l.ppois, calls := l.calls, quiet := false, brkPass := false,
               first := false, inRun := false, stamp := s.ctl.freeCtr, await := if y then 0xFF else aw,
               stopped := y && x0.preempt, dl := if y && !late then d else t.dl, count := if y && !late then 0 else t.count + n })
    let s4 := if y then s3.killOps core l.slot l.lane else s3
    let s5 := { s4 with eng.tasks := s4.eng.tasks.map (fun (t : Task) =>
      if t.grp = g.id ∧ t.ctx = x0.ctx ∧ t.gang = x0.gang then { t with passed := true } else t) }
    let a := Ev.anvilStep (clusterOf core)
    let s5 := if s4.eng.tasks.any (fun t => t.grp == g.id && t.ctx == x0.ctx && t.gang == x0.gang && !t.passed) && !s5.due (fun e => e == a) then s5.send a else s5
    let s6 := s5.updGrp g.id (fun g => { (g.updLane l.lane (fun l => { l with done := true })) with fx := g.fx.filter (fun f => f.lane? != some l.lane) })
    if late then s6.send (.watchdogExpire g.ctx)
    else if mine.any (fun f => f == .exit l.lane) then
      let s7 := if s6.cancelled x0 l.lane && y then
          s6.updLaunch g.ctx (fun L => { L with est := L.est.map (fun (e : EstS) => { e with cancelled := true }) }) else s6
      s7.endThread core l.slot l.lane
    else
      match mine.findSome? (fun f => match f with | .join _ m => some m | _ => none) with
      | some m =>
        let s7 := (s6.killOps core l.slot l.lane).updThread core l.slot l.lane (fun t =>
          { t with status := .joinwait, joinPc := pc, joinMask := setBit m.toNat l.lane true })
        s7.evalJoins core l.slot l.lane
      | none =>
        if mine.any (fun f => f == .svc l.lane) then
          ((s6.killOps core l.slot l.lane).updThread core l.slot l.lane (fun t => { t with status := .svcwait })).tryReply core l.slot l.lane
        else s6

/-- The group is over once every lane is: its arithmetic log is written (R211), and parking is looked at (R386). -/
def State.finishGrp (s : State) (id : Nat) : State :=
  match s.grp id with
  | none => s
  | some g =>
    if g.lanes.all (fun l => l.done) then
      let s1 := (s.logRun g).dropGrp id
      (slotsOf g.lanes).foldl (fun (s : State) x => s.maybeParkSlot g.core x) s1
    else s

/-- A lane as far as it gets: its waits, the effects of its gang slot, its commit; by fuel. -/
def State.lanePass (aw : Nat) (y : Bool) (d id lane : Nat) : Nat → State → State
  | 0, s => s
  | k + 1, s =>
    match s.grp id with
    | none => s
    | some g =>
      let l := g.rlane lane
      if l.done then s
      else
        match g.fx.find? (fun f => f.waits && f.lane? == some lane && !(f == .exit lane && l.did)) with
        | some f =>
          let s1 := s.laneWait g l f
          match s1.grp id with
          | some g1 => if g1.fx.contains f && !(g1.rlane lane).did then s1 else State.lanePass aw y d id lane k s1
          | none => s1
        | none =>
          match g.fx.find? (fun f => f.slot? == some l.slot) with
          | some f =>
            let r := s.slotFx g l.slot f
            if r.2 then State.lanePass aw y d id lane k (r.1.updGrp id (fun g => g.dropFx f)) else r.1
          | none =>
            -- STOP has reached the draw while its run waited: it ends with this run (R191)
            if y && !g.fx.contains (.exit lane) && (s.gang g.core l.slot).any (fun x => s.cancelled x lane) then
              State.lanePass aw y d id lane k (s.updGrp id (fun g => { g with fx := g.fx ++ [.exit lane] }))
            else s.commitLane g l aw y d

/-- The releases of a run's BAR words start before its own stores take effect, since they cover earlier runs alone (R318, R337). -/
def State.barReleases (s : State) (g : Grp) : State × Grp :=
  match s.launch g.ctx with
  | none => (s, g)
  | some L =>
    g.lanes.foldl (fun (q : State × Grp) l =>
      match l.bar, g.fx.find? (fun f => match f with | .bar n _ => n == l.lane | _ => false) with
      | none, some (.bar _ k) =>
        (q.1.startRelease g.core l.slot l.lane (domScope (L.lrec.domOf k)) false,
         q.2.updLane l.lane (fun l => { l with bar := some (q.1.nextRelease g.core l.slot l.lane) }))
      | _, _ => q) (s, g)

/-- A run at its trailer, as far as it gets in this step. -/
def State.trailerStep (s : State) (g0 : Grp) (aw : Nat) (y : Bool) (d : Nat) : State :=
  let b := if g0.trailer then (s, g0) else s.barReleases g0
  let r := if g0.trailer then (s, g0, true) else b.1.earlies g0.fx.length b.2
  let s1 := r.1.updGrp g0.id (fun _ => r.2.1)
  if !r.2.2 then s1.rotate
  else
    let cancels := if y && !g0.trailer then
      (r.2.1.lanes.filter (fun l => match s1.gang g0.core l.slot with | some x => s1.cancelled x l.lane | none => false) |>.filter
        (fun l => !r.2.1.fx.contains (.exit l.lane))).map (fun l => Fx.exit l.lane) else []
    let s2 := s1.updGrp g0.id (fun g => { g with trailer := true, fx := g.fx ++ cancels })
    match s2.grp g0.id with
    | none => s2
    | some g =>
      -- lanes that come to a WAIT with nothing before it: their blocks are read and checked before any lane commits
      let firsts := g.lanes.filterMap (fun l => if !l.done && l.wait == 0 && l.dval.isNone then
        (match g.fx.find? (fun f => f.waits && f.lane? == some l.lane) with
         | some (.wait _ _ off _ _) => some (l, off)
         | _ => none) else none)
      let fills := s2.fillLanes g (firsts.flatMap (fun e => [(e.1, e.2), (e.1, e.2 + 31)]))
      let s2 := fills.st
      let bad := (firsts.filter (fun e => match s2.gang g.core e.1.slot with
        | some x => badBlock (x.spadBytes e.2 32) x.size
        | none => false)).map (fun e => e.1)
      if !fills.bad.isEmpty then (s2.takeFaults fills.walks).waitTrap g (fills.bad.map (fun b => (b.1, b.2.2)))
      else if fills.wait then s2.rotate
      else if !bad.isEmpty then s2.derivedTrap g 0 bad
      else
        let s3 := g.lanes.foldl (fun (s : State) l => State.lanePass aw y d g.id l.lane (g.fx.length + 8) s) s2
        let s4 := s3.finishGrp g.id
        if (s4.grp g.id).isSome then s4.rotate else s4

/-- END (R216, R272): the run's trailer. -/
def execEndRun (w : BitVec 8) (y : BitVec 1) (l : BitVec 4) (s : State) : Out := .next (s.word (fun s g => s.trailerStep g w.toNat (y == 1) l.toNat))

end Sys2Proof.Machine
end

