-- ==== Sys2Proof/Machine/Service.lean ====
section
/-! DEFINITION. SVC, EMIT and EACC (R339, R346, R380): requests of a run to a service, to a graph stage and to an estimate. -/

namespace Sys2Proof.Machine

open Sys2Proof

/-! ## Accesses of the Reeve at virtual addresses -/

/-- The translation of an access that the device makes for a tenant outside any run (tables, rings and records of a launch): it has no fault entry (log 13). -/
def State.reeveXl (s : State) (t va acc : Nat) : XR := s.xlate 0 t 0xFFFF va acc

/-- Such a translation is asked for. -/
def State.reeveNeed (s : State) (t va acc : Nat) : State := s.needWalk 0 t 0xFFFF va acc

/-- n bytes at a virtual address, in one page, read for a world: the bytes, none where the translation or the check of a line fails (R83), or that something must first be found
(the outer none). -/
def State.reeveReadAs (s : State) (w t va n : Nat) : Option (Option (List Byte)) :=
  match s.reeveXl t va 4 with
  | .ok pa _ => if !s.readReady pa n then none else if (s.checkAs w pa n).ctl.integDue.length = s.ctl.integDue.length then some (some (s.bytesAs w pa n)) else some none
  | .fault _ _ _ => some none
  | .wait => none

/-- The lines of such a read that fail their check are to be logged (R83). -/
def State.reeveCheck (s : State) (w t va n : Nat) : State :=
  match s.reeveXl t va 4 with
  | .ok pa _ => s.checkAs w pa n
  | _ => s

/-- Such bytes read for no world. -/
def State.reeveRead (s : State) (t va n : Nat) : Option (Option (List Byte)) := s.reeveReadAs 0x7F t va n

/-- A write of n bytes by the device at a virtual address is prepared: its translation, its lines and its halves are asked for. -/
def State.reeveWriteAsk (s : State) (t va n : Nat) : State :=
  match s.reeveXl t va 5 with
  | .ok pa _ => s.storeNeed pa n
  | .fault _ _ _ => s
  | .wait => s.reeveNeed t va 5

/-- What has to be asked for before such a read can be made. -/
def State.reeveAsk (s : State) (t va n : Nat) : State :=
  match s.reeveXl t va 4 with
  | .ok pa _ => s.readNeed pa n
  | .fault w _ _ => s.dropWalk w
  | .wait => s.reeveNeed t va 4

/-- A write by the device at a virtual address, in one page: none where its translation, its line or a host half must first be found, so that what follows the write
in the spec follows it here; a write whose translation fails is lost (log 13). -/
def State.reeveWrite (s : State) (t va : Nat) (bytes : List Byte) (irq : Option (Nat × Nat × Nat)) : Option State :=
  match s.reeveXl t va 5 with
  | .ok pa _ => if s.storeReady pa bytes.length then some (s.devStore pa bytes irq) else none
  | .fault w _ _ => some ((s.dropWalk w).raiseMsi irq)
  | .wait => none

/-- Such a write for a world (R79). -/
def State.reeveWriteAs (s : State) (w t va : Nat) (bytes : List Byte) : Option State :=
  match s.reeveXl t va 5 with
  | .ok pa _ => if s.storeReady pa bytes.length then some (s.putAs w pa bytes) else none
  | .fault q _ _ => some (s.dropWalk q)
  | .wait => none

/-! ## Words that write one entry for each lane -/

/-- SVC and EMIT in stages: 0 the checks and the start of the releases at a scope, 8 those releases, 9 the entries, lane by lane, of which put makes one unless it must wait (stage 10:
for a full ring); fin is the effect left for the trailer. chk looks at a lane's 64-byte block, which the lane keeps as the scratchpad stood (R318). -/
def State.ringWord (s : State) (gd : BitVec 3) (a : BitVec 7) (scope : Nat) (chk : State → Grp → RLane → List Byte → Bool)
    (put : State → Grp → RLane → List Byte → Option State) (full : State → Grp → RLane → List Byte → Bool)
    (ask : State → Grp → RLane → List Byte → State) (fin : Nat → List Fx) : State :=
  s.word (fun s g =>
    let off (l : RLane) : Nat := (s.readD g l a.toNat).val.toNat
    let block (s : State) (l : RLane) : List Byte := s.runBlock g l.slot (off l)
    if g.stage = 8 then
      if (g.active gd).any (fun l => match l.relId with | some r => !s.relDone r | none => false) then s.rotate
      else s.updGrp g.id (fun g => { g with stage := 9, lanes := g.lanes.map (fun (l : RLane) => { l with relId := none }) })
    else if g.stage = 9 ∨ g.stage = 10 then
      match (g.active gd).find? (fun l => !l.did) with
      | none =>
        let fx := ((g.active gd).map (fun l => l.lane)).flatMap fin
        s.advance { g.addFx fx with lanes := g.lanes.map (fun (l : RLane) => { l with did := false }) }
      | some l =>
        match put s g l l.rcd with
        | some s1 => s1.updGrp g.id (fun g => { g.updLane l.lane (fun l => { l with did := true }) with stage := 9 })
        | none =>
          if full s g l l.rcd then ((s.updGrp g.id (fun g => { g with stage := 10 })).maybeParkSlot g.core l.slot).rotate
          else (ask s g l l.rcd).rotate
    else
      s.consume 0 gd [a.toNat] (fun s g acts =>
        s.spadCheck g 64 64 (acts.map (fun x => (x.1, off x.1))) (fun s =>
          let bad := (acts.map (fun x => x.1)).filter (fun l => s.runPois g l.slot (off l))
          let der := (acts.map (fun x => x.1)).filter (fun l => chk s g l (block s l))
          if !bad.isEmpty then s.poisonTrap g 0 (bad.map (fun l => (l, memPoison)))
          else if !der.isEmpty then s.derivedTrap g 0 der
          else
            let r := acts.foldl (fun (q : State × List (Nat × Nat)) x =>
              (q.1.startRelease g.core x.1.slot x.1.lane scope false, q.2 ++ [(x.1.lane, q.1.nextRelease g.core x.1.slot x.1.lane)])) (s, [])
            r.1.updGrp g.id (fun g => { g with stage := 8, lanes := g.lanes.map (fun (l : RLane) => { l with relId := tget r.2 l.lane, did := false, rcd := block s l }) }))))

/-! ## SVC -/

/-- An SVC entry: bytes 10 to 15 are the device's (R69, R383). -/
def svcEntry (block : List Byte) (ctx gang lane phase : Nat) : List Byte :=
  overlay block 10 (leBytes 1 phase ++ leBytes 1 lane ++ leBytes 2 gang ++ leBytes 2 ctx)

/-- The thread has an SVC outstanding under a key (R385). -/
def State.noteCall (s : State) (g : Grp) (l : RLane) (block : List Byte) : State :=
  s.updThread g.core l.slot l.lane (fun t => { t with call := some (fieldOf block 0 8), reply := none })

/-- Where the next entry of a tenant's host service ring goes (R383). -/
def State.svcSlot (s : State) (t : Nat) : Nat :=
  let r := nget 0 s.ten.svcring t
  hostPa (s.tPort t) (r / 2 ^ 12 * 2 ^ 12 + 64 * (nget 0 s.ten.pidx t % 2 ^ bits r 4 1))

/-- Where the next entry of a Hearth core's request ring goes (R44). -/
def State.hreqSlot (s : State) (h : Nat) : Nat := hreqAddr ((tget s.ten.hreqBase h).getD 0) (nget 0 s.ten.hreqTail h % 4096)

/-- The ring that takes a context's calls is full (R69, R384). -/
def State.svcFull (s : State) (ctx : Nat) : Bool :=
  let t := s.tenantOfCtx ctx
  if bit (s.tModes t) 3 then
    let r := nget 0 s.ten.svcring t
    bit r 0 && (nget 0 s.ten.pidx t + 2 ^ 16 - nget 0 s.ten.cidx t) % 2 ^ 16 == 2 ^ bits r 4 1
  else s.hreqFull (s.hearthOf ctx)

/-- One lane's SVC entry, into the home Hearth core's ring or the tenant's host ring (R69, R346, R382 to R384); none while the ring is full or the entry's half of host
memory is not there yet: entries are written in increasing lane position. -/
def State.svcPut (s : State) (g : Grp) (l : RLane) (block : List Byte) : Option State :=
  match s.gang g.core l.slot with
  | none => some s
  | some x =>
    let t := s.tenantOfCtx g.ctx
    let s1 := s.noteCall g l block
    if bit (s.tModes t) 3 then
      let r := nget 0 s.ten.svcring t
      let slog := bits r 4 1
      if !bit r 0 then
        let e := svcEntry block g.ctx x.gang l.lane 0
        some (s1.updThread g.core l.slot l.lane (fun th => { th with reply := some (overlay (e.take 16) 8 (leBytes 2 2) ++ zeros 16) }))
      else
        let p := nget 0 s.ten.pidx t
        let addr := s.svcSlot t
        if s.svcFull g.ctx || !s.storeReady addr 64 then none
        else
          let phase := 1 - p / 2 ^ slog % 2
          some ({ s1 with ten.pidx := nset 0 s1.ten.pidx t ((p + 1) % 2 ^ 16) }.devStore addr (svcEntry block g.ctx x.gang l.lane phase) none)
    else
      let h := s.hearthOf g.ctx
      let addr := s.hreqSlot h
      if s.svcFull g.ctx || !s.storeReady addr 64 then none
      else
        let tail := nget 0 s.ten.hreqTail h
        some (({ s1 with ten.hreqTail := nset 0 s1.ten.hreqTail h ((tail + 1) % 2 ^ 32) }.devStore addr
          (svcEntry block g.ctx x.gang l.lane 0) none).updHearth h (fun x => { x with ext := true }))

/-- The line of the ring that a lane's entry waits for. -/
def svcAsk (s : State) (g : Grp) (_l : RLane) (_b : List Byte) : State :=
  let t := s.tenantOfCtx g.ctx
  s.storeNeed (if bit (s.tModes t) 3 then s.svcSlot t else s.hreqSlot (s.hearthOf g.ctx)) 64

/-- SVC (R346). -/
def execSvc (_c : BitVec 1) (g : BitVec 3) (a : BitVec 7) (s : State) : Out :=
  .next (s.ringWord g a 6 (fun _ _ _ _ => false) State.svcPut (fun s g _ _ => s.svcFull g.ctx) svcAsk (fun l => [Fx.svc l]))

/-! ## EMIT -/

/-- A field of a stage of a graph (R179). -/
def GraphS.fld (q : GraphS) (stage off n : Nat) : Nat := fieldOf ((q.stages.drop stage).headD []) off n
/-- QBUF. -/
def GraphS.qbuf (q : GraphS) (stage : Nat) : Nat := q.fld stage 24 8
/-- QLOG. -/
def GraphS.qlog (q : GraphS) (stage : Nat) : Nat := q.fld stage 19 1
/-- Records of a stage's ring, oldest first. -/
def GraphS.ring (q : GraphS) (stage : Nat) : List (Nat × Nat × Nat) := q.recs.filter (fun r => r.1 == stage)
/-- Places of a stage's ring in use: from its oldest record on. -/
def GraphS.fill (q : GraphS) (stage : Nat) : Nat :=
  match q.ring stage with
  | r :: _ => (q.tail.drop stage).headD 0 - r.2.1
  | [] => 0

/-- The graph of a launch. -/
def State.graphOf (s : State) (ctx : Nat) : Option GraphS := (s.launch ctx).bind (fun L => L.graph)

/-- s with the graph of a launch changed. -/
def State.updGraph (s : State) (ctx : Nat) (f : GraphS → GraphS) : State :=
  s.updLaunch ctx (fun L => { L with graph := L.graph.map f })

/-- Where a record of a stage lies, by its sequence number. -/
def GraphS.recVa (q : GraphS) (stage seq : Nat) : Nat := q.qbuf stage + 64 * (seq % 2 ^ q.qlog stage)
/-- Where the next record of a stage goes. -/
def GraphS.slotVa (q : GraphS) (stage : Nat) : Nat := q.recVa stage ((q.tail.drop stage).headD 0)

/-- A record that EMIT refuses (R339). -/
def emitBad (s : State) (g : Grp) (_l : RLane) (block : List Byte) : Bool :=
  match s.graphOf g.ctx with
  | some q => decide (fieldOf block 5 1 ≥ q.stages.length) || fieldOf block 4 1 != 0
  | none => false

/-- One lane's record, appended to its stage's ring with ORIGIN filled (R339); none while the ring is full, or its page is not known yet. -/
def State.emitPut (s : State) (g : Grp) (l : RLane) (block : List Byte) : Option State :=
  match s.graphOf g.ctx, s.gang g.core l.slot with
  | some q, some x =>
    let st := fieldOf block 5 1
    if q.fill st ≥ 2 ^ q.qlog st then none
    else
      let rec_ := overlay block 0 (leBytes 4 (x.wid l.lane))
      (s.reeveWriteAs x.world (s.tenantOfCtx g.ctx) (q.slotVa st) rec_).map (fun s =>
        let s1 := s.updGraph g.ctx (fun q =>
          { q with tail := modAt q.tail st (fun n => n + 1), ran := addSorted q.ran st, recs := q.recs ++ [(st, (q.tail.drop st).headD 0, s.ctl.time)] })
        let s2 := if s1.due (fun e => e == .partialGangTimer g.ctx st) then s1 else s1.after 16384 (.partialGangTimer g.ctx st)
        if s2.due (fun e => e == .graphGangForm g.ctx st) then s2 else s2.send (.graphGangForm g.ctx st))
  | _, _ => some s

/-- The translation EMIT still needs. -/
def emitAsk (s : State) (g : Grp) (_l : RLane) (block : List Byte) : State :=
  match s.graphOf g.ctx with
  | some q =>
    s.reeveWriteAsk (s.tenantOfCtx g.ctx) (q.slotVa (fieldOf block 5 1)) 64
  | none => s

/-- The ring of the stage a record names is full. -/
def emitFull (s : State) (g : Grp) (_l : RLane) (block : List Byte) : Bool :=
  match s.graphOf g.ctx with
  | some q => decide (q.fill (fieldOf block 5 1) ≥ 2 ^ q.qlog (fieldOf block 5 1))
  | none => false

/-- EMIT (R339). -/
def execEmit (_c : BitVec 1) (g : BitVec 3) (a : BitVec 7) (s : State) : Out :=
  .next (s.ringWord g a 5 emitBad State.emitPut emitFull emitAsk (fun _ => []))

/-! ## EACC -/

/-- The binary64 value of a contribution, with the causes it logs (R380): types of R276. -/
def eaccValue (ty v : Nat) : Nat × List Nat :=
  match ty with
  | 0 => ((convert (numOfInt (asInt 32 v)) fF64 0 true).1, [])
  | 1 => ((convert (numOfInt (v : Int)) fF64 0 true).1, [])
  | 2 => convert (f32Val v) fF64 0 true
  | 3 => (v, [])
  | 4 => ((convert (numOfInt (asInt 64 v)) fF64 0 true).1, [])
  | _ => ((convert (numOfInt (v : Int)) fF64 0 true).1, [])

/-- EACC (R187, R380): read at issue, delivered at the trailer; a draw's later EACC logs EACCDUP. -/
def execEacc (_c : BitVec 1) (g : BitVec 3) (a : BitVec 7) (t : BitVec 4) (s : State) : Out :=
  let wide := decide (t.toNat ≥ 3)
  .next (s.consume 0 g (if wide then [a.toNat, a.toNat + 1] else [a.toNat]) (fun s r acts =>
    let vs := acts.map (fun x => (x.1, eaccValue t.toNat (leNat (x.2.flatMap (fun v => leBytes 4 v.val.toNat)))))
    let logs := vs.flatMap (fun v => v.2.2.map (fun c => (v.1.slot, c, v.1.lane)))
    let dups := (acts.map (fun x => x.1)).filter (fun l => decide ((s.thread r.core l.slot l.lane).item > 0))
    s.advance ((r.addFx (vs.map (fun v => Fx.eacc v.1.lane (BitVec.ofNat 64 v.2.1)))).addLog (logs ++ dups.map (fun l => (l.slot, 6, l.lane))))))

end Sys2Proof.Machine
end

