-- ==== Sys2Proof/Machine/EngineWords.lean ====
section
/-! DEFINITION. The words that queue work for the Anvil and the engines: TQ (R358, R359), COPY, RLAY, MATL, GATH, SCAT, SCAT.ACC (R366, R367), CPYQ (R374) and COLL
(R376 to R378): the checks of their blocks and extents, and how commands enter their queues. -/

namespace Sys2Proof.Machine

open Sys2Proof

/-! ## Blocks -/

/-- ARRIVE of a record or block breaks R358, or names an offset at or beyond SPAD. -/
def arriveBad (v size : Nat) : Bool :=
  bits v 30 24 != 0 || v % 8 != 0 || (bit v 31 && decide (bits v 23 0 + 8 > size))

/-- Bytes of an element of a format of whole bytes up to 8; 0 for another. -/
def elemBytes (fmt : Nat) : Nat := if fmtBits fmt = 4 then 0 else fmtBits fmt / 8

/-- The formats that accumulate (R125, R373). -/
def accFmt (fmt : Nat) : Bool := [0x46, 0x47, 0x48, 0x49, 0x50, 0x51, 0x52, 0x53].contains fmt

/-- The 64-byte command block of R366, taken apart. -/
structure CmdBlk where
  stride : Nat
  ncols : Nat
  nrows : Nat
  flg : Nat
  esz : Nat
  xform : Nat
  ety : Nat
  opc : Nat
  arrive : Nat
  len : Nat
  idx : Nat
  src : Nat
  dst : Nat
deriving DecidableEq, Repr, Inhabited

/-- A block taken apart. -/
def cmdBlk (b : List Byte) : CmdBlk :=
  { stride := fieldOf b 42 3, ncols := fieldOf b 40 2, nrows := fieldOf b 38 2, flg := fieldOf b 36 1, esz := fieldOf b 35 1,
    xform := fieldOf b 34 1, ety := fieldOf b 33 1, opc := fieldOf b 32 1, arrive := fieldOf b 28 4, len := fieldOf b 24 4,
    idx := fieldOf b 16 8, src := fieldOf b 8 8, dst := fieldOf b 0 8 }

/-- Bytes of the source extent of an RLAY (R115). -/
def CmdBlk.srcLen (k : CmdBlk) : Nat :=
  if k.xform = 4 then (k.nrows + 1) * (k.ncols + 1) * 2 ^ k.esz else (k.nrows * k.stride + (k.ncols + 1)) * 2 ^ k.esz

/-- Bytes of its destination. -/
def CmdBlk.dstLen (k : CmdBlk) : Nat := (k.nrows + 1) * (k.ncols + 1) * 2 ^ k.esz

/-- A block breaks R366, R371 or R373; lst is set for an entry of a request list (R374). -/
def cmdBad (opc : Nat) (lst : Bool) (size : Nat) (b : List Byte) : Bool :=
  let k := cmdBlk b
  let e := elemBytes k.ety
  let dsp := bit k.flg 1
  let ssp := bit k.flg 2
  let waitOk := bits k.flg 7 4 == 0 && (lst || !bit k.flg 0)
  let noMatrix := k.stride == 0 && k.ncols == 0 && k.nrows == 0 && k.esz == 0 && k.xform == 0
  let noList := k.ety == 0 && k.idx == 0 && bits k.flg 3 1 == 0
  let listOk := decide (1 ≤ k.len) && decide (k.len ≤ 2 ^ 20) && k.idx % (if bit k.flg 3 then 8 else 4) == 0 && [1, 2, 4, 8].contains e
  let body : Bool :=
    match opc with
    | 1 => noMatrix && noList && decide (1 ≤ k.len) && decide (k.len ≤ 2 ^ 26)
    | 2 =>
      noList && k.len == 0 && decide (1 ≤ k.xform) && decide (k.xform ≤ 4) && decide (k.esz ≤ 3) && decide (k.nrows < 4096) && decide (k.ncols < 4096) &&
        (k.xform == 1 || ((k.nrows + 1) % 8 == 0 && (k.ncols + 1) % 8 == 0)) && (k.xform == 4 || decide (k.ncols + 1 ≤ k.stride))
    | 3 => noMatrix && noList && k.src == 0 && decide (1 ≤ k.len) && decide (k.len ≤ 2 ^ 26)
    | 4 => noMatrix && listOk && !ssp && k.dst % e == 0 && (!dsp || decide (k.dst + k.len * e ≤ size))
    | _ => noMatrix && listOk && !dsp && k.src % e == 0 && (!ssp || decide (k.src + k.len * e ≤ size)) && (opc == 5 || accFmt k.ety)
  !(k.opc == opc && fieldOf b 37 1 == 0 && (b.drop 45).all (fun x => x == 0) && waitOk && !arriveBad k.arrive size && body)

/-! ## Extents -/

/-- What the check phase finds for one lane. -/
inductive EngChk where
  | ok (pages : List (Nat × Nat × Nat))
  | wait
  | trap (cause : Nat)
  | fault (va walk : Nat) (fid : Option Nat)
deriving DecidableEq, Repr

/-- The translations of an extent, page by page from the k-th on (R367). -/
def State.xlRange (s : State) (stack t ctx va acc : Nat) (pages : List Nat) : State × EngChk :=
  pages.foldl (fun (q : State × EngChk) p =>
    match q.2 with
    | .trap c => (q.1, .trap c)
    | .fault v w f => (q.1, .fault v w f)
    | .wait => (q.1.needWalk stack t ctx (max va (4096 * p)) acc, .wait)
    | .ok l =>
      let a := max va (4096 * p)
      match q.1.xlate stack t ctx a acc with
      | .ok pa attr => (q.1, .ok (l ++ [(p, pa / 4096, attr.size)]))
      | .fault w _ fid => (q.1, .fault a w fid)
      | .wait => (q.1.needWalk stack t ctx a acc, .wait)) (s, .ok [])

/-- The pages of n bytes from an address on. -/
def pagesOf (va n : Nat) : List Nat := (List.range ((va + n - 1) / 4096 + 1 - va / 4096)).map (fun i => va / 4096 + i)

/-- Several extents (address, bytes, access kind), one after the other. -/
def State.xlExtents (s : State) (stack t ctx : Nat) (es : List (Nat × Nat × Nat)) : State × EngChk :=
  es.foldl (fun (q : State × EngChk) e =>
    match q.2 with
    | .ok l =>
      let r := q.1.xlRange stack t ctx e.1 e.2.2 (pagesOf e.1 e.2.1)
      match r.2 with
      | .ok l' => (r.1, .ok (l ++ l'))
      | x => (r.1, x)
    | x => (q.1, x)) (s, .ok [])

/-- The fixed extents of a command (R367). -/
def cmdExtents (opc : Nat) (b : List Byte) : List (Nat × Nat × Nat) :=
  let k := cmdBlk b
  let e := elemBytes k.ety
  let ilen := k.len * (if bit k.flg 3 then 8 else 4)
  match opc with
  | 1 => [(k.src, k.len, 4), (k.dst, k.len, 5)]
  | 2 => [(k.src, k.srcLen, 4), (k.dst, k.dstLen, 5)]
  | 3 => [(k.dst, k.len, 5)]
  | 4 => (k.idx, ilen, 4) :: (if bit k.flg 1 then [] else [(k.dst, k.len * e, 5)])
  | _ => (k.idx, ilen, 4) :: (if bit k.flg 2 then [] else [(k.src, k.len * e, 4)])

/-- The physical address of a virtual one under the translations a command holds. -/
def heldPa (pages : List (Nat × Nat × Nat)) (va : Nat) : Option Nat :=
  (pages.find? (fun p => p.1 == va / 4096)).map (fun p => 4096 * p.2.1 + va % 4096)

/-! ## Reads of an engine -/

/-- A store, reduction or atomic of a stack that may have been acknowledged at some scope is not at the home yet: an engine's read waits (R149, R162). -/
def State.lineBusy (s : State) (stack line : Nat) : Bool :=
  s.coh.txs.any (fun t => t.line == line && !t.atHome && !t.drop && (t.ackStack || t.l1) && decide (t.slice / 32 = stack) && decide (t.slice < 96))

/-- A line read by an engine of a stack for a world: its bytes and poisoned words (R162), or none while something must come first. -/
def State.engLine (s : State) (stack line world tenant off n : Nat) : State × Option (List Byte × List Nat) :=
  if s.barred tenant (128 * line) 128 false then (s, some (zeros 128, List.range 16))
  else if s.lineBusy stack line then (s, none) else s.homeRead (engineNode stack) stack line world off n

/-- n bytes at a physical address inside one line, with a mark on each byte that is poisoned. -/
def State.engBytes (s : State) (stack world tenant pa n : Nat) : State × Option (List (Byte × Bool)) :=
  let r := s.engLine stack (lineOf pa) world tenant (pa % 128) n
  match r.2 with
  | none => (r.1, none)
  | some d => (r.1, some ((List.range n).map (fun i => ((d.1.drop (pa % 128 + i)).headD 0, d.2.contains ((pa % 128 + i) / 8)))))

/-! ## COLL -/

/-- The block of R376, taken apart. -/
structure CollBlk where
  arrive : Nat
  len : Nat
  ety : Nat
  mode : Nat
  op : Nat
  me : Nat
  nr : Nat
  ctag : Nat
  rtab : Nat
  dst : Nat
  src : Nat
deriving DecidableEq, Repr, Inhabited

/-- A block taken apart. -/
def collBlk (b : List Byte) : CollBlk :=
  { arrive := fieldOf b 44 4, len := fieldOf b 40 4, ety := fieldOf b 38 1, mode := fieldOf b 37 1, op := fieldOf b 36 1, me := fieldOf b 34 2,
    nr := fieldOf b 32 2, ctag := fieldOf b 24 8, rtab := fieldOf b 16 8, dst := fieldOf b 8 8, src := fieldOf b 0 8 }

/-- A block breaks R376 or R377. -/
def collBad (size : Nat) (b : List Byte) : Bool :=
  let k := collBlk b
  let e := fmtBits k.ety
  !(fieldOf b 39 1 == 0 && (b.drop 48).all (fun x => x == 0) && !arriveBad k.arrive size && decide (1 ≤ k.nr) && decide (k.nr ≤ 4096) && decide (k.me < k.nr) &&
    k.rtab % 16 == 0 && decide (k.op ≤ 2) &&
    (match k.mode with
     | 0 => decide (1 ≤ k.len) && decide (k.len ≤ 2 ^ 26) && decide (0 < e) && 8 * k.len % e == 0 && (k.op != 0 || accFmt k.ety)
     | 1 => k.op == 0 && k.len == 0 && k.ety == 0 && k.src % 128 == 0 && k.dst % 128 == 0
     | _ => false))

/-- Bytes that each rank writes at DST under PLAIN (R377). -/
def CollBlk.dstLen (k : CollBlk) : Nat := if k.op = 1 then k.nr * k.len else k.len

/-! ### Tile areas (R231 to R238) -/

/-- The number of stored elements of a row, and the packed stride, in bits (R232, R235, R237). -/
def Hdr.rowBits (h : Hdr) : Nat :=
  let w := fmtBits h.fmt
  match h.lay with
  | 0 => (if h.spr = 1 then h.cols / 2 else if h.spr = 2 then h.cols / 4 else h.cols) * w
  | 1 => h.rows * w
  | _ => 8 * h.cols * w

/-- The stride in bytes. -/
def Hdr.st (h : Hdr) : Nat := if h.stride = 0 then (h.rowBits + 7) / 8 else h.stride

/-- The scale groups of a tile (R236). -/
def Hdr.groups (h : Hdr) : Nat :=
  match h.sly with
  | 0 => 0
  | 1 => 1
  | 2 => h.rows
  | 3 => h.cols
  | 4 => h.rows * (h.cols / 16)
  | 5 => h.rows * (h.cols / 32)
  | 6 => h.rows / 16 * h.cols
  | _ => h.rows / 32 * h.cols

/-- The scale index of an element (R236). -/
def Hdr.groupOf (h : Hdr) (i j : Nat) : Nat :=
  match h.sly with
  | 0 => 0
  | 1 => 0
  | 2 => i
  | 3 => j
  | 4 => i * (h.cols / 16) + j / 16
  | 5 => i * (h.cols / 32) + j / 32
  | 6 => i / 16 * h.cols + j
  | _ => i / 32 * h.cols + j

/-- Bytes of a scale. -/
def Hdr.scaleBytes (h : Hdr) : Nat := if h.sfm = 0x50 then 2 else 1

/-- The place of element (i, j) of a dense tile in its data area, in bits (R235). -/
def Hdr.place (h : Hdr) (i j : Nat) : Nat :=
  let w := fmtBits h.fmt
  let st := 8 * h.st
  match h.lay with
  | 0 => i * st + j * w
  | 1 => j * st + i * w
  | 2 => i / 8 * st + (j / 8 * 64 + 8 * (i % 8) + j % 8) * w
  | _ => i / 8 * st + (j / 8 * 64 + 8 * (i % 8) + ((j % 8) ^^^ (i % 8))) * w

/-- Bytes of the data area of a dense tile. -/
def Hdr.dataBytes (h : Hdr) : Nat :=
  match h.lay with
  | 0 => (h.rows - 1) * h.st + (h.rowBits + 7) / 8
  | 1 => (h.cols - 1) * h.st + (h.rowBits + 7) / 8
  | _ => (h.rows / 8 - 1) * h.st + (h.rowBits + 7) / 8

/-- HFIELD of R238: a reserved value, or an offset, stride or dimension that breaks R232, R235, R236 or R237. -/
def Hdr.fieldBad (h : Hdr) : Bool :=
  let w := fmtBits h.fmt
  let res := decide (h.sly > 7) || decide (h.spr > 3) || decide (h.lay > 3) || decide (h.rm > 4) ||
    (if h.sly = 0 then h.sfm != 0 else h.sfm != 0x20 && h.sfm != 0x50)
  let off := h.doff % 128 != 0 || h.moff % 16 != 0 || h.soff % 16 != 0 || (h.moff == 0) != (h.spr == 0) || (h.soff == 0) != (h.sly == 0)
  let st := h.spr != 3 && h.stride != 0 && (h.stride % 16 != 0 || decide (8 * h.stride < h.rowBits))
  let dim := (decide (h.lay ≥ 2) && (h.rows % 8 != 0 || h.cols % 8 != 0)) || (w == 4 && h.lay == 0 && h.cols % 2 != 0) ||
    (w == 4 && h.lay == 1 && h.rows % 2 != 0)
  let scl := (h.sly == 4 && h.cols % 16 != 0) || (h.sly == 5 && h.cols % 32 != 0) || (h.sly == 6 && h.rows % 16 != 0) || (h.sly == 7 && h.rows % 32 != 0)
  let spr := (h.spr == 1 && (h.cols % 8 != 0 || h.lay != 0)) || (h.spr == 2 && (h.cols % 16 != 0 || h.lay != 0)) || (h.spr == 3 && decide (h.lay < 2))
  res || off || st || dim || scl || spr

/-- The first check of R238 that a header in memory fails; fattr is that of its page. -/
def hdrCheck (hb : List Byte) (fattr : Nat) : Option Nat :=
  let h := hdrOf hb
  if h.chk != crc8 hb then some 0x21
  else if h.fmt = 0 then some 0x22
  else if fmtBits h.fmt = 0 then some 0x23
  else if h.fieldBad then some 0x24
  else if fattr ≠ 0 ∧ fattr ≠ h.fmt then some 0x25
  else none

/-- B(f) of R246, or none for a format that common-scale mode does not support. -/
def commonBits (fmt : Nat) : Option Nat :=
  match fmt with
  | 0x12 => some 33 | 0x1A => some 33 | 0x13 => some 18 | 0x1B => some 18 | 0x14 => some 11 | 0x1C => some 11
  | 0x15 => some 8 | 0x1D => some 8 | 0x16 => some 7 | 0x1E => some 7
  | 0x23 => some 34 | 0x2B => some 34 | 0x24 => some 19 | 0x2C => some 19 | 0x25 => some 12 | 0x2D => some 12 | 0x26 => some 9 | 0x2E => some 9
  | 0x42 => some 8 | 0x43 => some 8 | 0x40 => some 4 | 0x41 => some 4
  | _ => none

/-- The checks of R378 over the two headers. -/
def commonBad (sb db : List Byte) (nr : Nat) : Bool :=
  let a := hdrOf sb
  let d := hdrOf db
  !(a.sfm == 0x20 && d.sfm == 0x20 && a.spr == 0 && d.spr == 0 && a.fmt == d.fmt && a.sly == d.sly && a.rows == d.rows && a.cols == d.cols && d.rm == 0 &&
    (match commonBits a.fmt with | some n => decide (n + log2Up nr + 1 ≤ 64) | none => false))

/-- The check phase of a COLL under COMMON, once its header lines translate: headers read and checked, then the areas translated (R367, R378). -/
def State.commonCheck (s : State) (stack world t ctx : Nat) (k : CollBlk) : State × EngChk :=
  match s.xlate stack t ctx k.src 4, s.xlate stack t ctx k.dst 5 with
  | .ok spa sat, .ok dpa dat =>
    let a := s.engLine stack (lineOf spa) world t (spa % 128) 32
    let b := a.1.engLine stack (lineOf dpa) world t (dpa % 128) 32
    match a.2, b.2 with
    | some sl, some dl =>
      let sh := hdrOf (sl.1.take 32)
      let dh := hdrOf (dl.1.take 32)
      match hdrCheck (sl.1.take 32) sat.fattr, hdrCheck (dl.1.take 32) dat.fattr with
      | some c, _ => (b.1, .trap c)
      | none, some c => (b.1, .trap c)
      | none, none =>
        if commonBad (sl.1.take 32) (dl.1.take 32) k.nr then (b.1, .trap 0x26)
        else b.1.xlExtents stack t ctx [(k.src, 128, 4), (k.src + sh.doff, sh.dataBytes, 4), (k.src + sh.soff, sh.groups, 4), (k.dst, 128, 5),
          (k.dst + dh.doff, dh.dataBytes, 5), (k.dst + dh.soff, dh.groups, 5), (k.rtab, 16 * k.nr, 4)]
    | _, _ => (b.1, .wait)
  | .fault w _ fid, _ => (s, .fault k.src w fid)
  | _, .fault w _ fid => (s, .fault k.dst w fid)
  | _, _ => ((s.needWalk stack t ctx k.src 4).needWalk stack t ctx k.dst 5, .wait)

/-- A second command of one rank of a context under one CTAG: a second collective (R377, log 24), beside a command or one that has passed its check. -/
def State.collTwice (s : State) (g : Grp) (k : CollBlk) : Bool :=
  s.core.issue.any (fun h => h.id != g.id && h.ctx == g.ctx && h.lanes.any (fun l => !l.did && l.coll == some (k.ctag, k.me))) ||
  s.eng.cmds.any (fun c => c.opc == 7 && c.ctx == g.ctx && !c.finished && (collBlk c.block).ctag == k.ctag && (collBlk c.block).me == k.me)

/-- The check phase of COLL in one lane (R376 to R378). -/
def State.collCheck (s : State) (g : Grp) (l : RLane) (b : List Byte) : State × EngChk :=
  let k := collBlk b
  let stack := stackOf g.core
  let t := s.tenantOfCtx g.ctx
  if collBad (s.spadSize g l) b || s.collTwice g k then (s, .trap 0x2A)
  else if k.mode = 1 then s.commonCheck stack (s.slotWorld g.core l.slot) t g.ctx k
  else s.xlExtents stack t g.ctx [(k.src, k.len, 4), (k.dst, k.dstLen, 5), (k.rtab, 16 * k.nr, 4)]

/-! ## Placing commands -/

/-- The check phase of an engine word in one lane. -/
def State.cmdCheck (opc : Nat) (s : State) (g : Grp) (l : RLane) (b : List Byte) : State × EngChk :=
  if opc = 7 then s.collCheck g l b
  else if cmdBad opc false (s.spadSize g l) b then (s, .trap 0x2A)
  else s.xlExtents (stackOf g.core) (s.tenantOfCtx g.ctx) g.ctx (cmdExtents opc b)

/-- Slots of a core's request engine in use (R367). -/
def State.cmdSlots (s : State) (core : Nat) : Nat := (s.eng.cmds.filter (fun c => c.core == core)).length

/-- The commands of a collective in this package (R377): those of its context that carry its CTAG, which is unique in a context alone. -/
def State.collPeers (s : State) (c : Cmd) : List Cmd :=
  s.eng.cmds.filter (fun d => d.opc == 7 && d.ctx == c.ctx && !d.finished && (collBlk d.block).ctag == (collBlk c.block).ctag)

/-- The scratchpad bytes that a SCAT takes its elements from, each with its poison as a byte, read as the command takes its slot; none where the
allocation has ended. -/
def State.spadTaken (s : State) (c : Cmd) : List Byte :=
  let k := cmdBlk c.block
  if (c.opc = 5 ∨ c.opc = 6) ∧ bit k.flg 2 then
    match s.core.gangs.find? (fun g => g.core == c.core && g.alloc == c.alloc) with
    | some g =>
      let n := k.len * elemBytes k.ety
      (List.range n).map (fun i => nget 0 g.spad (k.src + i)) ++ (List.range n).map (fun i => if g.spadPois (k.src + i) 1 then 1 else 0)
    | none => []
  else []

/-- The region lines that a SCAT takes its elements from are filled before it takes its slot (R148, log 90). -/
def State.sourceFilled (s : State) (core : Nat) (alloc : Option Nat) (opc : Nat) (b : List Byte) : State × Bool :=
  let k := cmdBlk b
  if (opc = 5 ∨ opc = 6) ∧ bit k.flg 2 then
    match s.core.gangs.find? (fun g => g.core == core && some g.alloc == alloc) with
    | some g => (linesOf k.src (k.len * elemBytes k.ety)).foldl (fun (q : State × Bool) l => let y := q.1.fillFor g (128 * l); (y.1, q.2 && y.2)) (s, true)
    | none => (s, true)
  else (s, true)

/-- A command takes a slot; a COLL goes on to its collective engine (R367). -/
def State.placeCmd (s : State) (c : Cmd) : State :=
  let id := s.ctl.nextId
  let s1 := { s.bump with eng.cmds := s.eng.cmds ++ [{ c with id := id, buf := s.spadTaken c }] }
  if c.opc = 7 then s1.send (.collMatch id) else s1.send (.engineCommandComplete id)

/-- The command of a lane. -/
def State.laneCmd (s : State) (g : Grp) (l : RLane) (opc rl : Nat) (b : List Byte) (pages : List (Nat × Nat × Nat)) : Cmd :=
  let x := s.gang g.core l.slot
  { id := 0, core := g.core, slot := l.slot, lane := l.lane, ctx := g.ctx, gang := (x.map (fun x => x.gang)).getD 0, tenant := s.tenantOfCtx g.ctx,
    world := s.slotWorld g.core l.slot, alloc := (x.map (fun x => x.alloc)).getD 0, opc := opc, block := b, rl := rl, pos := 0, pieces := [], buf := [], idx := [],
    pages := pages, fid := none, txs := [], list := none, matched := false, remote := [], ports := [], away := [], finished := false }

/-- The lanes' releases of an AQ flag start; stage 8 waits for them, or stage 9 follows at once where the flag is clear (R162, R359, R367). -/
def State.startAq (s : State) (g : Grp) (lanes : List RLane) (aq : Nat) : State :=
  if aq = 7 then s.updGrp g.id (fun g => { g with stage := 9, lanes := g.lanes.map (fun (l : RLane) => { l with did := false }) })
  else
    let r := lanes.foldl (fun (q : State × List (Nat × Nat)) l =>
      (q.1.startRelease g.core l.slot l.lane aq false, q.2 ++ [(l.lane, q.1.nextRelease g.core l.slot l.lane)])) (s, [])
    r.1.updGrp g.id (fun g => { g with stage := 8, lanes := g.lanes.map (fun (l : RLane) => { l with relId := tget r.2 l.lane, did := false }) })

/-- Stage 8 of an engine word: the releases. -/
def State.awaitAq (s : State) (g : Grp) : State :=
  if g.lanes.any (fun l => match l.relId with | some r => !s.relDone r | none => false) then s.rotate
  else s.updGrp g.id (fun g => { g with stage := 9, lanes := g.lanes.map (fun (l : RLane) => { l with relId := none }) })

/-- The lane has done its part of the word. -/
def State.didLane (s : State) (g : Grp) (lane : Nat) : State := s.updGrp g.id (fun g => g.updLane lane (fun l => { l with did := true }))

/-- The word is over for every lane. -/
def State.advanceDid (s : State) (g : Grp) : State := s.advance { g with lanes := g.lanes.map (fun (l : RLane) => { l with did := false, coll := none, pages := [] }) }

/-- The outcome of the check phase over the lanes: state, translations by lane, whether one waits, traps by cause, faults. -/
structure ChkAll where
  st : State
  pages : List (Nat × List (Nat × Nat × Nat))
  wait : Bool
  traps : List (RLane × Nat)
  faults : List (RLane × Nat × Option Nat)

/-- The check phase of every active lane (R367). -/
def State.checkLanes (s : State) (ls : List RLane) (f : State → RLane → State × EngChk) : ChkAll :=
  ls.foldl (fun (x : ChkAll) l =>
    let r := f x.st l
    match r.2 with
    | .ok p => { x with st := r.1, pages := x.pages ++ [(l.lane, p)] }
    | .wait => { x with st := r.1, wait := true }
    | .trap c => { x with st := r.1, traps := x.traps ++ [(l, c)] }
    | .fault _ w fid => { x with st := r.1, faults := x.faults ++ [(l, w, fid)] }) { st := s, pages := [], wait := false, traps := [], faults := [] }

/-- What the check phase leads to: a trap of the lowest lane's cause, a wait, a translation trap, or body. -/
def ChkAll.finish (x : ChkAll) (g : Grp) (body : State → State) : State :=
  match x.traps with
  | t :: _ => x.st.coreTrap g t.2 ((x.traps.filter (fun y => y.2 == t.2)).map (fun y => y.1))
  | [] =>
    if x.wait then x.st.rotate
    else if !x.faults.isEmpty then
      (x.st.takeFaults (x.faults.map (fun f => f.2.1))).waitTrap g (x.faults.map (fun f => (f.1, f.2.2)))
    else body x.st

/-- The lanes keep what their check has read and translated: the commit phase acts on it whatever comes between (R318, R359, R367). -/
def State.holdChecked (s : State) (g : Grp) (block : RLane → List Byte) (coll : RLane → Option (Nat × Nat)) (pages : List (Nat × List (Nat × Nat × Nat))) : State :=
  s.updGrp g.id (fun g => { g with lanes := g.lanes.map (fun l => { l with rcd := block l, coll := coll l, pages := (tget pages l.lane).getD [] }) })

/-- A lane's COLL repeats the CTAG and rank of a lower lane's: a second collective (R377). -/
def twiceColl (opc : Nat) (ls : List RLane) (block : RLane → List Byte) (l : RLane) : Bool :=
  let tag (l : RLane) : Nat × Nat := ((collBlk (block l)).ctag, (collBlk (block l)).me)
  opc == 7 && ls.any (fun m => decide (m.lane < l.lane) && tag m == tag l)

/-- COPY, RLAY, MATL, GATH, SCAT, SCAT.ACC, COLL (R367). -/
def State.engineWord (s : State) (gd : BitVec 3) (a : BitVec 7) (opc aq rl : Nat) : State :=
  s.word (fun s g =>
    let off (l : RLane) : Nat := (s.readD g l a.toNat).val.toNat
    let block (s : State) (l : RLane) : List Byte := s.runBlock g l.slot (off l)
    if g.stage = 8 then s.awaitAq g
    else if g.stage = 9 then
      match (g.active gd).find? (fun l => !l.did) with
      | none => s.advanceDid g
      | some l =>
        if s.cmdSlots g.core ≥ 64 then s.rotate
        else
          let f := s.sourceFilled g.core ((s.gang g.core l.slot).map (fun x => x.alloc)) opc l.rcd
          if f.2 then (f.1.placeCmd (f.1.laneCmd g l opc rl l.rcd l.pages)).didLane g l.lane else f.1.rotate
    else
      s.consume 4 gd [a.toNat] (fun s g acts =>
        let ls := acts.map (fun x => x.1)
        let out := ls.filter (fun l => off l % 64 != 0 || decide (off l + 64 > s.spadSize g l))
        if !out.isEmpty then s.coreTrap g 0x2A out
        else
          let f := s.fillLanes g (ls.map (fun l => (l, off l)))
          if !f.bad.isEmpty then (f.st.takeFaults f.walks).waitTrap g (f.bad.map (fun b => (b.1, b.2.2)))
          else if f.wait then f.st.rotate
          else
            let bad := ls.filter (fun l => f.st.runPois g l.slot (off l))
            if !bad.isEmpty then f.st.poisonTrap g 4 (bad.map (fun l => (l, memPoison)))
            else
              let x := f.st.checkLanes ls (fun s l => if twiceColl opc ls (block s) l then (s, .trap 0x2A) else s.cmdCheck opc g l (block s l))
              x.finish g (fun s => (s.holdChecked g (block s) (if opc = 7 then fun l => some ((collBlk (block s l)).ctag, (collBlk (block s l)).me) else fun _ => none) x.pages).startAq g ls aq)))

/-- COPY (R370). -/
def execCopy (_c : BitVec 1) (g : BitVec 3) (a : BitVec 7) (q : BitVec 3) (l : BitVec 3) (s : State) : Out := .next (s.engineWord g a 1 q.toNat l.toNat)
/-- RLAY (R371). -/
def execRlay (_c : BitVec 1) (g : BitVec 3) (a : BitVec 7) (q : BitVec 3) (l : BitVec 3) (s : State) : Out := .next (s.engineWord g a 2 q.toNat l.toNat)
/-- MATL (R372). -/
def execMatl (_c : BitVec 1) (g : BitVec 3) (a : BitVec 7) (q : BitVec 3) (l : BitVec 3) (s : State) : Out := .next (s.engineWord g a 3 q.toNat l.toNat)
/-- GATH (R373). -/
def execGath (_c : BitVec 1) (g : BitVec 3) (a : BitVec 7) (q : BitVec 3) (l : BitVec 3) (s : State) : Out := .next (s.engineWord g a 4 q.toNat l.toNat)
/-- SCAT (R373). -/
def execScat (_c : BitVec 1) (g : BitVec 3) (a : BitVec 7) (q : BitVec 3) (l : BitVec 3) (s : State) : Out := .next (s.engineWord g a 5 q.toNat l.toNat)
/-- SCAT.ACC (R373). -/
def execScatAcc (_c : BitVec 1) (g : BitVec 3) (a : BitVec 7) (q : BitVec 3) (l : BitVec 3) (s : State) : Out := .next (s.engineWord g a 6 q.toNat l.toNat)
/-- COLL (R376 to R378). -/
def execColl (_c : BitVec 1) (g : BitVec 3) (a : BitVec 7) (q : BitVec 3) (l : BitVec 3) (s : State) : Out := .next (s.engineWord g a 7 q.toNat l.toNat)

/-! ## CPYQ -/

/-- CPYQ (R374): the list goes into the kick register of the core, which holds 16. -/
def execCpyq (_c : BitVec 1) (g : BitVec 3) (a : BitVec 7) (b : BitVec 7) (q : BitVec 3) (l : BitVec 3) (s : State) : Out :=
  .next (s.word (fun s r =>
    let base (x : RLane) : Nat := s.va r ((baseSrcs a.toNat).map (s.readD r x)) 0
    let count (x : RLane) : Nat := (s.readD r x b.toNat).val.toNat
    if r.stage = 8 then s.awaitAq r
    else if r.stage = 9 then
      match (r.active g).find? (fun l => !l.did) with
      | none => s.advanceDid r
      | some x =>
        if (s.eng.lists.filter (fun c => c.core == r.core)).length ≥ 16 then s.rotate
        else
          let id := s.ctl.nextId
          let y := s.gang r.core x.slot
          let c : CList :=
            { id := id, core := r.core, slot := x.slot, lane := x.lane, ctx := r.ctx, gang := (y.map (fun y => y.gang)).getD 0, tenant := s.tenantOfCtx r.ctx,
              world := s.slotWorld r.core x.slot, alloc := (y.map (fun y => y.alloc)).getD 0, addr := base x, n := count x, next := 0, rl := l.toNat, fid := none }
          (({ s.bump with eng.lists := s.eng.lists ++ [c] }).send (.cpyqEntryStart id)).didLane r x.lane
    else
      s.consume 4 g (baseSrcs a.toNat ++ [b.toNat]) (fun s r acts =>
        let ls := acts.map (fun x => x.1)
        let bad := ls.filter (fun x => base x % 64 != 0 || count x == 0 || decide (count x > 4096))
        if !bad.isEmpty then s.coreTrap r 0x2A bad else s.startAq r ls q.toNat)))

/-! ## TQ -/

/-- The record of R358, taken apart. -/
structure TaskRec where
  arrive : Nat
  diag : Int
  m : Nat
  n : Nat
  deps : Nat
  fsc : Nat
  osc : Nat
  oscEn : Bool
  rm : Nat
  ovf : Bool
  dfmt : Nat
  acc : Bool
  dst : Bool
  tri : Bool
  fill : Nat
  td : Nat
  daddr : Nat
  baddr : Nat
  aaddr : Nat
deriving DecidableEq, Repr, Inhabited

/-- A record taken apart. -/
def taskRec (b : List Byte) : TaskRec :=
  let sc := fieldOf b 28 1
  let dr := fieldOf b 27 1
  let ctl := fieldOf b 25 1
  let mn := fieldOf b 31 1
  { arrive := fieldOf b 36 4, diag := asInt 32 (fieldOf b 32 4), m := 64 * (bits mn 2 0 + 1), n := 64 * (bits mn 5 3 + 1), deps := fieldOf b 29 2,
    fsc := bits sc 2 0, osc := bits sc 6 4, oscEn := bit sc 7, rm := bits dr 2 0, ovf := bit dr 3, dfmt := fieldOf b 26 1, acc := bit ctl 0, dst := bit ctl 1,
    tri := bit ctl 2, fill := bits ctl 4 3, td := fieldOf b 24 1 % 16, daddr := fieldOf b 16 8, baddr := fieldOf b 8 8, aaddr := fieldOf b 0 8 }

/-- The destination formats a DFMT may name (R358). -/
def dfmtOk (f : Nat) : Bool :=
  f == 0 || f == 0xFF || [0x50, 0x51, 0x52, 0x42, 0x43, 0x44, 0x45, 0x46].contains f || (fmtBits f == 8 && decide (f < 0x30))

/-- BADTASK (R359). -/
def taskBad (size : Nat) (b : List Byte) : Bool :=
  let t := taskRec b
  let ctl := fieldOf b 25 1
  let shape := (b.drop 40).any (fun x => x != 0) || arriveBad t.arrive size || bits (fieldOf b 31 1) 7 6 != 0 || bit t.deps 15 || bit (fieldOf b 28 1) 3 ||
    decide (t.rm > 4) || bits (fieldOf b 27 1) 7 4 != 0 || !dfmtOk t.dfmt || bits ctl 7 5 != 0 || t.fill == 3 || fieldOf b 24 1 ≥ 16 ||
    (if t.dst then t.daddr % 128 != 0 else t.daddr != 0) || t.baddr % 128 != 0 || t.aaddr % 128 != 0
  shape || (!t.dst && (t.dfmt != 0 || fieldOf b 27 1 != 0 || t.oscEn || decide (t.td + t.m / 64 * (t.n / 64) > 16))) || (t.dst && t.acc && t.dfmt != 0) ||
    ((t.dfmt == 0 || t.dfmt == 0xFF) && fieldOf b 27 1 != 0)

/-- The tile registers a record names. -/
def TaskRec.names (t : TaskRec) : List Nat := if t.dst then [] else (List.range (t.m / 64 * (t.n / 64))).map (fun i => t.td + i)

/-- Tasks in a gang's queue (R361). -/
def State.gangTasks (s : State) (ctx gang : Nat) : List Task := s.eng.tasks.filter (fun t => t.ctx == ctx && t.gang == gang && !t.finished)

/-- TQ (R358, R359): once for each gang that acts, in two phases; a queue of 16 tasks makes it wait. -/
def execTq (_c : BitVec 1) (g : BitVec 3) (a : BitVec 7) (q : BitVec 3) (l : BitVec 3) (s : State) : Out :=
  .next (s.word (fun s r =>
    let vs := (r.active g).map (fun l => (l, s.readD r l a.toNat))
    let off (slot : Nat) : Nat := (guniform vs slot).1.val.toNat
    let rec_ (s : State) (slot : Nat) : List Byte := s.runBlock r slot (off slot)
    if r.stage = 8 then s.awaitAq r
    else if r.stage = 9 ∨ r.stage = 11 then
      match (r.active g).find? (fun l => !l.did), slotsOf ((r.active g).filter (fun l => !l.did)) with
      | none, _ => s.advanceDid (r.addLog ((slotsOf (r.active g)).flatMap (fun x => (guniform vs x).2)))
      | _, [] => s
      | some _, slot :: _ =>
        match s.gang r.core slot with
        | none => s
        | some x =>
          if (s.gangTasks x.ctx x.gang).length ≥ 16 then ((s.updGrp r.id (fun r => { r with stage := 11 })).maybeParkSlot r.core slot).rotate
          else
            let b := (((r.active g).filter (fun l => l.slot == slot)).map (fun l => l.rcd)).headD []
            let t := taskRec b
            let deps := (s.gangTasks x.ctx x.gang).filter (fun u => decide (u.seq < x.tseq) && bit t.deps (x.tseq - u.seq - 1) && decide (x.tseq - u.seq ≤ 15))
            let task : Task :=
              { id := s.ctl.nextId, cluster := clusterOf r.core, ctx := x.ctx, gang := x.gang, alloc := x.alloc,
                lane := (((r.active g).filter (fun l => l.slot == slot)).map (fun l => l.lane)).headD 0, pc := r.pc, rcd := b,
                fsc := if t.fill = 2 then (x.sc.drop t.fsc).headD 0 else 0, osc := if t.oscEn then (x.sc.drop t.osc).headD 0 else 0, seq := x.tseq,
                deps := deps.map (fun u => u.id), rl := l.toNat, grp := r.id, passed := false, step := 0, heads := [], fid := none, log := [], txs := [],
                finished := false }
            let s1 := ({ s.bump with eng.tasks := s.eng.tasks ++ [task] }).updGang r.core slot (fun x => { x with tseq := x.tseq + 1 })
            let s2 := if s1.due (fun e => e == .anvilStep (clusterOf r.core)) then s1 else s1.send (.anvilStep (clusterOf r.core))
            s2.updGrp r.id (fun r => { r with stage := 9, lanes := r.lanes.map (fun l => if l.slot = slot then { l with did := true } else l) })
    else
      s.consume 4 g [a.toNat] (fun s r acts =>
        let ls := acts.map (fun x => x.1)
        let mis := ls.filter (fun l => off l.slot % 64 != 0)
        let out := ls.filter (fun l => decide (off l.slot + 64 > s.spadSize r l))
        if !mis.isEmpty then s.coreTrap r 0x29 mis
        else if !out.isEmpty then s.coreTrap r 0x11 out
        else
          let f := s.fillLanes r (ls.map (fun l => (l, off l.slot)))
          if !f.bad.isEmpty then (f.st.takeFaults f.walks).waitTrap r (f.bad.map (fun b => (b.1, b.2.2)))
          else if f.wait then f.st.rotate
          else
            let bad := ls.filter (fun l => f.st.runPois r l.slot (off l.slot))
            let bt := ls.filter (fun l => taskBad (f.st.spadSize r l) (rec_ f.st l.slot))
            let tr := ls.filter (fun l => match f.st.gang r.core l.slot with
              | some x => (taskRec (rec_ f.st l.slot)).names.any (fun n => !x.tiles.contains n)
              | none => true)
            if !bad.isEmpty then f.st.poisonTrap r 4 (bad.map (fun l => (l, memPoison)))
            else if !bt.isEmpty then f.st.coreTrap r 0x29 bt
            else if !tr.isEmpty then f.st.coreTrap r 0x28 tr
            else (f.st.holdChecked r (fun l => rec_ f.st l.slot) (fun _ => none) []).startAq r ls q.toNat)))

end Sys2Proof.Machine
end

