-- ==== Sys2Proof/Machine/Aliases.lean ====
section
/-! DEFINITION. Copy aliases in the making: recording a piece at its home, resolving chains, marking sources, eager copies, source writes and hot
destinations (R111 to R121, R163, R409). A piece is one 4 KiB-granule part of a COPY or RLAY. -/

namespace Sys2Proof.Machine

open Sys2Proof

/-! ## Engine writes -/

/-- A command under way. -/
def State.cmd (s : State) (id : Nat) : Option Cmd := s.eng.cmds.find? (fun c => c.id == id)

/-- The command has progress to make. -/
def State.pokeCmd (s : State) (id : Nat) : State :=
  if s.due (fun e => e == .engineCommandComplete id) then s else s.send (.engineCommandComplete id)

/-- The 64-bit words of a line that bytes from poisoned words enter (R409). -/
def badWords (off : Nat) (bs : List (Byte × Bool)) : List Nat :=
  (List.range 16).filter (fun w => ((List.range bs.length).zip bs).any (fun e => e.2.2 && (off + e.1) / 8 == w))

/-- A write to one line by an engine of a core for a world: at the slice for a world's line, else at the home (R118, R162). The answer is the number of the
store. -/
def State.engPatch (s : State) (core world tenant line : Nat) (p : Patch) (bad : List Nat) : State × Nat :=
  let id := s.ctl.nextId
  let t := { blankTx id line p with
    core := 385 + stackOf core, tenant := tenant, world := world, pois := bad, slice := if world = 0x7F ∨ isCellar (128 * line) then 96 else sliceFor (stackOf core) line }
  let s1 := { s.bump with coh.txs := s.coh.txs ++ [t] }
  (s1.send (if world = 0x7F then .homeStore id else .dirStore id), id)

/-- A line's worth of consecutive bytes. -/
def State.engStoreLine (s : State) (core world tenant pa : Nat) (bs : List (Byte × Bool)) : State × Nat :=
  s.engPatch core world tenant (lineOf pa) (patchOf (pa % 128) (bs.map (fun b => b.1))) (badWords (pa % 128) bs)

/-- An engine's write, line by line: the state and the numbers of its stores. -/
def State.engStoreN : Nat → State → Nat → Nat → Nat → Nat → List (Byte × Bool) → State × List Nat
  | 0, s, _, _, _, _, _ => (s, [])
  | k + 1, s, core, world, tenant, pa, bs =>
    if bs.isEmpty then (s, [])
    else
      let n := 128 - pa % 128
      let a := s.engStoreLine core world tenant pa (bs.take n)
      let b := State.engStoreN k a.1 core world tenant (pa + n) (bs.drop n)
      (b.1, a.2 :: b.2)

/-- Stores of a command carry its number in place of a slot (R145). -/
def State.ofCmd (s : State) (id : Nat) (txs : List Nat) : State :=
  { s with coh.txs := s.coh.txs.map (fun (t : Tx) => if txs.contains t.id then { t with slot := id + 1 } else t) }

/-- A write of a command. -/
def State.cmdStore (s : State) (c : Cmd) (pa : Nat) (bs : List (Byte × Bool)) : State :=
  let r := s.engStoreN (bs.length / 128 + 2) c.core c.world c.tenant pa bs
  (r.1.ofCmd c.id r.2).updCmd c.id (fun c => { c with txs := c.txs ++ r.2 })

/-- Scattered bytes written by a command, line by line; of two for one byte the later counts. -/
def State.cmdPatch (s : State) (c : Cmd) (bs : List (Nat × Byte × Bool)) : State :=
  ((bs.map (fun b => lineOf b.1)).eraseDups).foldl (fun (s : State) line =>
    let mine := bs.filter (fun b => lineOf b.1 == line)
    let p := mine.foldl (fun (p : List (Nat × Byte × Bool)) b => p.filter (fun x => x.1 != b.1) ++ [b]) []
    let bad := (List.range 16).filter (fun w => p.any (fun b => b.2.2 && b.1 % 128 / 8 == w))
    let r := s.engPatch c.core c.world c.tenant line (p.map (fun b => (b.1 % 128, b.2.1))) bad
    (r.1.ofCmd c.id [r.2]).updCmd c.id (fun c => { c with txs := c.txs ++ [r.2] })) s

/-- Whole lines read for a command: those found, and whether one must wait. -/
def State.readLines (s : State) (stack world tenant : Nat) (lines : List Nat) : State × List (Nat × List Byte × List Nat) × Bool :=
  lines.foldl (fun (q : State × List (Nat × List Byte × List Nat) × Bool) line =>
    let r := q.1.engLine stack line world tenant 0 128
    match r.2 with
    | some d => (r.1, (line, d.1, d.2) :: q.2.1, q.2.2)
    | none => (r.1, q.2.1, true)) (s, [], false)

/-- A byte of lines read, with its poison. -/
def byteOf (ls : List (Nat × List Byte × List Nat)) (pa : Nat) : Byte × Bool :=
  match tget ls (lineOf pa) with
  | some d => ((d.1.drop (pa % 128)).headD 0, d.2.contains (pa % 128 / 8))
  | none => (0, false)

/-- The lines of some addresses, each once. -/
def linesOfAll (pas : List Nat) : List Nat := (pas.map lineOf).eraseDups

/-! ## Pieces -/

/-- A piece on its way to a record. -/
def State.piece (s : State) (id : Nat) : Option Piece := s.ali.pieces.find? (fun p => p.id == id)

/-- s with a piece changed. -/
def State.updPiece (s : State) (id : Nat) (f : Piece → Piece) : State :=
  { s with ali.pieces := s.ali.pieces.map (fun p => if p.id = id then f p else p) }

/-- The entry of an identity copy. -/
def plainAlias (world sbase dbase len : Nat) : Alias :=
  { home := homeOf dbase, holders := [], stale := false, wtag := world, reads := 0, xform := 0, esz := 0, nrows := 0, ncols := 0, sstride := 0, sbase := sbase,
    doff := 0, len := len, dbase := dbase, left := [(dbase, len)], hot := false }

/-- A piece of a command leaves for its destination home. -/
def State.sendPiece (s : State) (cmd : Nat) (e : Alias) : State :=
  let id := s.ctl.nextId
  let p : Piece := { id := id, cmd := cmd, entry := e, stage := 0, parts := [], asked := [], due := [], stale := false, failed := false, marks := [], caught := [] }
  (({ s.bump with ali.pieces := s.ali.pieces ++ [p] }).updCmd cmd (fun c => { c with pieces := id :: c.pieces })).send (.aliasRecord id)

/-- The home acknowledges the piece to the engine (R117). -/
def State.pieceDone (s : State) (p : Piece) : State :=
  ({ s with ali.pieces := s.ali.pieces.filter (fun x => x.id != p.id) }.updCmd p.cmd (fun c => { c with pieces := c.pieces.filter (fun x => x != p.id) })).pokeCmd p.cmd

/-- The lines of a range of bytes. -/
def rangeLines (pa n : Nat) : List Nat := (List.range (lineOf (pa + n - 1) + 1 - lineOf pa)).map (fun i => lineOf pa + i)

/-- The granules of a range of bytes. -/
def rangeGranules (pa n : Nat) : List Nat := (List.range ((pa + n - 1) / 4096 + 1 - pa / 4096)).map (fun i => pa / 4096 + i)

/-- The homes of a range of bytes. -/
def rangeHomes (pa n : Nat) : List Nat :=
  let a := pa / 4096
  let b := (pa + n - 1) / 4096
  if b - a ≥ 47 then List.range 48 else (List.range 48).filter (fun h => (rangeGranules pa n).any (fun g => g % 48 == h))

/-- The destination lines of an entry. -/
def Alias.lines (e : Alias) : List Nat := rangeLines e.dbase e.len

/-- The range of its destination. -/
def Alias.range (e : Alias) : Nat × Nat := (e.dbase, e.len)

/-- The piece is dropped as a write of an outsider (R84, R123): the world that holds one of its lines. -/
def State.pieceOutsider (s : State) (c : Cmd) (e : Alias) : Option (Nat × Nat) :=
  e.lines.findSome? (fun l => (s.outsider { blankTx 0 l [] with world := c.world, tenant := c.tenant }).map (fun w => (w, l)))

/-- World lines of a source extent that must be handed back before it can be read in place (R84, R122). -/
def State.worldSources (s : State) (e : Alias) : List L2Line :=
  s.coh.l2.filter (fun l => l.world != 0x7F && meet (aliasExtent e) (128 * l.line, 128))

/-- The hand-overs of some world lines are asked for. -/
def State.askHandovers (s : State) (ls : List L2Line) : State :=
  ls.foldl (fun (s : State) l =>
    if s.due (fun e => e == .worldLineHandover l.slice l.line) then s else s.send (.worldLineHandover l.slice l.line)) s

/-- A piece is copied eagerly (R119, R409): its whole source read through the current aliases, then its destination written. -/
def State.eagerPiece (s : State) (p : Piece) (c : Cmd) : State :=
  let srcs := (List.range p.entry.len).map (fun i => aliasSrc p.entry (p.entry.dbase + i))
  let r := s.readLines (stackOf c.core) c.world c.tenant (linesOfAll srcs)
  if r.2.2 then r.1.wait (.aliasRecord p.id)
  else
    let h := p.entry.home
    let s1 := r.1.cmdStore c p.entry.dbase (srcs.map (byteOf r.2.1))
    ({ s1 with ali.eager := nset 0 s1.ali.eager h (min 0xFFFF (nget 0 s1.ali.eager h + 1)) }).pieceDone p

/-- The piece goes the eager way, its holds released first. -/
def State.goEager (s : State) (p : Piece) : State :=
  let s1 := s.updPiece p.id (fun p => { p with stage := 5 })
  if p.asked.isEmpty then s1.send (.aliasRecord p.id) else s1.sendAll (p.asked.map (fun h => .holdRelease p.id h))

/-- Entries live at a home, with those that pieces under way there have been let install (R113, R114). -/
def State.usedSoon (s : State) (home but : Nat) : Nat :=
  s.used home + ((s.ali.pieces.filter (fun q => q.id != but && decide (2 ≤ q.stage) && decide (q.stage ≤ 4) && q.entry.home == home)).map (fun q => q.parts.length)).sum

/-- The first step of record (R112, R114, R117, R123): pieces of one destination in the order they arrived, once their lines may be pinned (R108). A piece that goes eager is a
write line by line (R84). -/
def State.recordPiece (s : State) (p : Piece) (c : Cmd) : State :=
  let e := p.entry
  let ext := aliasExtent e
  if s.ali.pieces.any (fun q => decide (q.id < p.id) && decide (1 ≤ q.stage) && meet q.entry.range e.range) || !e.lines.all s.pinRoom then s.wait (.aliasRecord p.id)
  else if decide (s.ali.limit ≤ s.usedSoon e.home p.id) || meet ext e.range || !isHbm (e.dbase + e.len - 1) || !isHbm e.dbase || !isHbm ext.1 ||
      !isHbm (ext.1 + ext.2 - 1) then s.goEager p
  else
    match s.pieceOutsider c e with
    | some (w, l) => (s.sealWr (128 * l) w c.tenant).pieceDone p
    | none =>
      let held := s.worldSources e
      if !held.isEmpty then (s.askHandovers held).wait (.aliasRecord p.id)
      else
        let homes := rangeHomes ext.1 ext.2
        let s1 := e.lines.foldl (fun (s : State) l => s.destWrite l) s
        (s1.updPiece p.id (fun p => { p with stage := 1, parts := [], asked := [], due := homes, stale := false, failed := false, marks := [], caught := [] })).sendAll
          (homes.map (fun h => .aliasResolve p.id h))

/-- Bytes written into a destination line at its home, as materialisation writes them (R118, R122, R409): under the slot of a world's entry; what of the line fails its check is poison (R83). A host that may hold
it is snooped (R31). -/
def State.putDest (s : State) (wtag line : Nat) (bs : List (Nat × Byte × Bool)) : State :=
  let p : Patch := bs.map (fun b => (b.1 % 128, b.2.1))
  let bad := (List.range 16).filter (fun w => bs.any (fun b => b.2.2 && b.1 % 128 / 8 == w))
  let s1 : State :=
    match s.worldKey wtag with
    | some (slot, key) =>
      let s0 := if p.length = 128 then s else s.failLine wtag line
      let c := sealLine key line slot (patchLine ((s.plainLine slot key line).getD (zeros 128)) p)
      let s9 : State := { s0 with mem := Memory.putAll s0.mem (128 * line) c.1, mm.sealed := tset s0.mm.sealed line (slot, c.2) }
      if (s.plainLine slot key line).isNone then (List.range 16).foldl (fun (s : State) w => s.setPoison (16 * line + w) true) s9 else s9
    | none => { s with mem := Memory.patch s.mem (128 * line) p }
  let s2 := (fullWords p).foldl (fun (s : State) w => s.setPoison (16 * line + w) false) s1
  bad.foldl (fun (s : State) w => s.setPoison (16 * line + w) true) s2

/-- What a piece has caught of its sources goes into its destination's lines, which are materialised (R163). -/
def State.putCaught (s : State) (p : Piece) : State :=
  (linesOfAll (p.caught.map (fun b => b.1))).foldl (fun (s : State) l => (s.destWrite l).putDest p.entry.wtag l (p.caught.filter (fun b => lineOf b.1 == l))) s

/-- The destination words, as numbers of 64-bit words of memory, that an entry's range holds whole. -/
def Alias.wholeWords (e : Alias) : List Nat := (List.range ((e.dbase + e.len) / 8 - (e.dbase + 7) / 8)).map (fun i => (e.dbase + 7) / 8 + i)

/-- The last step of record: sharers of the destination invalidated, the source-write steps of its lines taken (R405), then the entries installed. A held entry that was
materialised has the piece begin again; one that has become a write of an outsider is dropped (R123). A line that is both source and destination keeps its DEPH bit; a word
that the piece writes whole has no poison but its sources' (R409). -/
def State.installPiece (s : State) (p : Piece) (c : Cmd) : State :=
  if p.stale then (s.updPiece p.id (fun p => { p with stage := 0, marks := [], caught := [] })).send (.aliasRecord p.id)
  else
    match s.pieceOutsider c p.entry with
    | some (w, l) => (s.sealWr (128 * l) w c.tenant).pieceDone p
    | none =>
    let lines := p.entry.lines
    let copies := s.coh.l2.filter (fun l => lines.contains l.line)
    if !copies.isEmpty || s.coh.txs.any (fun t => t.inval && lines.contains t.line) then
      (copies.foldl (fun (s : State) l => s.l2Inval l.slice l.line l.world) s).wait (.aliasRecord p.id)
    else if lines.any (fun l => !(s.dephHomes l).isEmpty) then
      ((lines.filter (fun l => !(s.dephHomes l).isEmpty)).foldl (fun (s : State) l => s.askSources l) s).wait (.aliasRecord p.id)
    else
      let s0 := { s with ali.pieces := s.ali.pieces.filter (fun x => x.id != p.id) }
      let s1 := lines.foldl (fun (s : State) l => (s.destWrite l).snoopHost l ((List.range 128).filterMap (fun i => if meet p.entry.range (128 * l + i, 1) then some (i, 0) else none))) s0
      let again := lines.filter (fun l => p.parts.any (fun e => meet (aliasExtent e) (128 * l, 128)))
      let s2 := again.foldl (fun (s : State) l => { s with mm.deph := nset 0 s.mm.deph l (setBit (nget 0 s.mm.deph l) p.entry.home true) }) s1
      let s3 := p.entry.wholeWords.foldl (fun (s : State) w => s.setPoison w false) s2
      ({ s3 with ali.entries := s3.ali.entries ++ p.parts }.putCaught p).pieceDone p

/-- ALIAS_RECORD (R117): the piece at its home, as far as it gets. -/
def State.aliasRecord (s : State) (id : Nat) : State :=
  match s.piece id with
  | none => s
  | some p =>
    match s.cmd p.cmd with
    | none => { s with ali.pieces := s.ali.pieces.filter (fun x => x.id != id) }
    | some c =>
      match p.stage with
      | 0 => s.recordPiece p c
      | 4 => s.installPiece p c
      | 5 => s.eagerPiece p c
      | _ => s

/-- ALIAS_RECORD (R117). -/
def execAliasRecord (s : State) : Out :=
  .next (match s.ctl.op with
    | some (.aliasRecord id) => s.aliasRecord id
    | _ => s)

/-! ## Chains (R120) -/

/-- The parts of a range that entries cover, and the gaps between them, in order. -/
def coverParts : Nat → Nat → List (Nat × Nat × Alias) → List (Nat × Nat × Option Alias)
  | lo, hi, [] => if lo < hi then [(lo, hi - lo, none)] else []
  | lo, hi, (a, n, e) :: t => (if lo < a then [(lo, a - lo, none)] else []) ++ (a, n, some e) :: coverParts (a + n) hi t

/-- What of a range an entry covers. -/
def coversOf (e : Alias) (lo hi : Nat) : List (Nat × Nat × Alias) :=
  e.left.filterMap (fun r =>
    let a := max r.1 lo
    let b := min (r.1 + r.2) hi
    if a < b then some (a, b - a, e) else none)

/-- An identity piece over a part of its source: plain, or composed with the entry that covers it (R120). -/
def composePart (p : Alias) (x : Nat × Nat × Option Alias) : Alias :=
  let db := p.dbase + (x.1 - p.sbase)
  let base : Alias := { p with home := homeOf db, dbase := db, len := x.2.1, left := [(db, x.2.1)] }
  match x.2.2 with
  | none => { base with sbase := x.1 }
  | some e =>
    if e.xform = 0 then { base with sbase := e.sbase + (x.1 - e.dbase) }
    else
      { base with xform := e.xform, esz := e.esz, nrows := e.nrows, ncols := e.ncols, sstride := e.sstride, sbase := e.sbase,
                  doff := e.doff + (x.1 - e.dbase) }

/-- The granule parts of a range at a home. -/
def homeParts (pa n home : Nat) : List (Nat × Nat) :=
  ((rangeGranules pa n).filter (fun g => g % 48 == home)).map (fun g => (max pa (4096 * g), min (pa + n) (4096 * g + 4096)))

/-- Entries set HOLD for a piece. -/
def State.holdEntries (s : State) (piece : Nat) (es : List Alias) : State :=
  { s with ali.entries := s.ali.entries.map (fun (e : Alias) => if es.any (fun x => sameAlias x e) then { e with holders := addSorted e.holders piece } else e) }

/-- The entries at a home over a range. -/
def State.entriesOver (s : State) (home : Nat) (r : Nat × Nat) : List Alias :=
  s.ali.entries.filter (fun e => e.home == home && e.left.any (fun x => meet x r))

/-- A word that an entry covers in part was poisoned before. -/
def State.ownPoison (s : State) (e : Alias) : Bool := s.mm.pois.any (fun w => e.left.any (fun r => meet r (8 * w, 8)))

/-- An identity piece resolved at a home. Entries of another world cannot be composed with and are materialised, nor
can one over a word of its own poison, which its readers meet (R409). -/
def State.resolvePlain (s : State) (piece : Nat) (p : Alias) (home : Nat) : State × List Alias :=
  (homeParts p.sbase p.len home).foldl (fun (q : State × List Alias) g =>
    let r := (g.1, g.2 - g.1)
    let other := (q.1.entriesOver home r).filter (fun e => e.wtag != p.wtag || s.ownPoison e)
    let s1 := other.foldl (fun (s : State) e => s.materialise e (rangeLines r.1 r.2)) q.1
    let es := s1.entriesOver home r
    let cov := sortBy (fun c => c.1) (es.flatMap (fun e => coversOf e g.1 g.2))
    (s1.holdEntries piece es, q.2 ++ (coverParts g.1 g.2 cov).map (composePart p))) (s, [])

/-- A transform resolved at a home: rebased over one identity entry that covers its whole source; else what covers it is materialised (R120). -/
def State.resolveForm (s : State) (piece : Nat) (p : Alias) (home : Nat) : State × List Alias :=
  let ext := aliasExtent p
  let es := s.entriesOver home ext
  match es.find? (fun e => e.xform == 0 && e.wtag == p.wtag && !s.ownPoison e && e.left.any (fun r => decide (r.1 ≤ ext.1) && decide (ext.1 + ext.2 ≤ r.1 + r.2))) with
  | some e => (s.holdEntries piece [e], [{ p with sbase := e.sbase + (p.sbase - e.dbase) }])
  | none => (es.foldl (fun (s : State) e => s.materialise e ((aliasLines e).filter (fun l => meet ext (128 * l, 128)))) s, [])

/-- ALIAS_RESOLVE (R117, R120): a home answers for the source bytes it is home of. -/
def State.aliasResolve (s : State) (id home : Nat) : State :=
  match s.piece id with
  | none => s
  | some p =>
    if p.stage != 1 then s
    else
      let r := if p.entry.xform = 0 then s.resolvePlain id p.entry home else s.resolveForm id p.entry home
      (r.1.updPiece id (fun p => { p with parts := p.parts ++ r.2, asked := p.asked ++ [home] })).send (.aliasResolveReply id home)

/-- ALIAS_RESOLVE (R120). -/
def execAliasResolve (s : State) : Out :=
  .next (match s.ctl.op with
    | some (.aliasResolve id home) => s.aliasResolve id home
    | _ => s)

/-- Two plain neighbours of a piece are one. -/
def mergeParts (p : Alias) : List Alias → List Alias
  | a :: t =>
    match mergeParts p t with
    | b :: u =>
      let flat (x : Alias) : Bool := x.xform == 0 && x.sbase + p.dbase == p.sbase + x.dbase
      if flat a && flat b && a.dbase + a.len == b.dbase then { a with len := a.len + b.len, left := [(a.dbase, a.len + b.len)] } :: u else a :: b :: u
    | [] => [a]
  | [] => []

/-- The pieces that a resolution yields. -/
def Piece.resolved (p : Piece) : List Alias :=
  if p.entry.xform = 0 then mergeParts p.entry (sortBy (fun e => e.dbase) p.parts)
  else if p.parts.isEmpty then [p.entry] else p.parts

/-- A source byte of an entry lies in a range. -/
def Alias.takesFrom (e : Alias) (r : Nat × Nat) : Bool :=
  meet (aliasExtent e) r && (List.range e.len).any (fun i => meet (aliasSrc e (e.dbase + i), 1) r)

/-- ALIAS_RESOLVE_REPLY (R117): with the last, the piece is marked at its sources, or goes eager. -/
def State.resolveReply (s : State) (id : Nat) : State :=
  match s.piece id with
  | none => s
  | some p =>
    if p.stage != 1 then s
    else
      let due := p.due.drop 1
      if !due.isEmpty then s.updPiece id (fun p => { p with due := due })
      else
        let parts := p.resolved
        if decide (4 < parts.length) || parts.any (fun e => e.takesFrom p.entry.range) || decide (s.ali.limit < s.usedSoon p.entry.home id + parts.length) then
          s.goEager { p with parts := parts }
        else
          let gs := (parts.flatMap (fun e => rangeGranules (aliasExtent e).1 (aliasExtent e).2)).eraseDups
          (s.updPiece id (fun p => { p with stage := 2, parts := parts, due := gs, marks := [] })).sendAll (gs.map (fun g => .mark id (32 * g)))

/-- ALIAS_RESOLVE_REPLY (R117). -/
def execAliasResolveReply (s : State) : Out :=
  .next (match s.ctl.op with
    | some (.aliasResolveReply id _) => s.resolveReply id
    | _ => s)

/-! ## Marks and releases -/

/-- A write to a granule is waiting for its dependents: what came later waits behind it (R117). -/
def State.granuleBusy (s : State) (g : Nat) : Bool :=
  s.coh.txs.any (fun t => t.line / 32 == g && !t.waitSrc.isEmpty) || s.ali.srcAcks.any (fun a => a.1 / 32 == g)

/-- Stores to a granule that may have been acknowledged at some scope are not at the home yet: a command's read there comes after them (R149, R162). -/
def State.granuleOwed (s : State) (g : Nat) : Bool := s.coh.txs.any (fun t => t.line / 32 == g && (t.ackStack || t.l1) && !t.atHome && !t.drop && !t.inval)

/-- World lines of a granule that a piece's parts read: they are handed back before they are marked (R84, R122). -/
def State.partWorlds (s : State) (p : Piece) (g : Nat) : List L2Line :=
  s.coh.l2.filter (fun l => l.world != 0x7F && l.line / 32 == g && p.parts.any (fun e => meet (aliasExtent e) (128 * l.line, 128)))

/-- MARK (R117): the lines of a granule that a piece takes bytes from get the destination's home in DEPH. Where an entry has come to cover one of the bytes since they
were resolved, the piece begins again, as after STALE: an entry never points at covered bytes (R120). -/
def State.markGranule (s : State) (id line : Nat) : State :=
  match s.piece id with
  | none => s
  | some p =>
    if p.stage != 2 then s
    else if s.granuleBusy (line / 32) || s.granuleOwed (line / 32) then s.wait (.mark id line)
    else if !(s.partWorlds p (line / 32)).isEmpty then (s.askHandovers (s.partWorlds p (line / 32))).wait (.mark id line)
    else
      let lines := (List.range 32).map (fun i => line / 32 * 32 + i) |>.filter (fun l => p.parts.any (fun e => meet (aliasExtent e) (128 * l, 128)))
      let s1 := lines.foldl (fun (s : State) l => { s with mm.deph := nset 0 s.mm.deph l (setBit (nget 0 s.mm.deph l) p.entry.home true) }) s
      let covered := p.parts.any (fun e => (List.range e.len).any (fun i =>
        let x := aliasSrc e (e.dbase + i)
        decide (x / 4096 = line / 32) && (s.aliasAt x).isSome))
      (s1.updPiece id (fun p => { p with marks := (line / 32) :: p.marks, stale := p.stale || covered })).send (.marked id line)

/-- MARK (R117). -/
def execMark (s : State) : Out :=
  .next (match s.ctl.op with
    | some (.mark id line) => s.markGranule id line
    | _ => s)

/-- MARKED (R117): with the last, the holds are released. -/
def State.markedReply (s : State) (id : Nat) : State :=
  match s.piece id with
  | none => s
  | some p =>
    if p.stage != 2 then s
    else
      let due := p.due.drop 1
      if !due.isEmpty then s.updPiece id (fun p => { p with due := due })
      else if p.asked.isEmpty then (s.updPiece id (fun p => { p with due := [], stage := 4 })).send (.aliasRecord id)
      else (s.updPiece id (fun p => { p with due := [], stage := 3 })).sendAll (p.asked.map (fun h => .holdRelease id h))

/-- MARKED (R117). -/
def execMarked (s : State) : Out :=
  .next (match s.ctl.op with
    | some (.marked id _) => s.markedReply id
    | _ => s)

/-- HOTMAT rises (R113, R121). -/
def State.hotFreed (s : State) (home : Nat) : State := { s with ali.hotmat := nset 0 s.ali.hotmat home (min 0xFFFF (nget 0 s.ali.hotmat home + 1)) }

/-- HOLD_RELEASE (R117): the home gives up the piece's HOLD on its entries, and reports STALE; HOLD is 0 once no piece holds them. -/
def State.releaseHold (s : State) (id home : Nat) : State :=
  match s.piece id with
  | none => s
  | some p =>
    if p.stage != 3 && p.stage != 5 then s
    else
      let mine (e : Alias) : Bool := e.home == home && e.holders.contains id
      let stale := s.ali.entries.any (fun e => mine e && e.stale)
      let es := s.ali.entries.map (fun (e : Alias) => if mine e then { e with holders := e.holders.erase id, stale := e.stale && decide (1 < e.holders.length) } else e)
      let freed := es.filter (fun e => e.left.isEmpty && !e.hold && e.hot && !s.ali.queue.contains (e.home, e.dbase))
      let s1 := freed.foldl (fun (s : State) e => s.hotFreed e.home) { s with ali.entries := es.filter (fun e => !e.left.isEmpty || e.hold) }
      let asked := p.asked.erase home
      let s2 := s1.updPiece id (fun p => { p with asked := asked, stale := p.stale || stale, stage := if asked.isEmpty && p.stage == 3 then 4 else p.stage })
      if asked.isEmpty then s2.send (.aliasRecord id) else s2

/-- HOLD_RELEASE (R117). -/
def execHoldRelease (s : State) : Out :=
  .next (match s.ctl.op with
    | some (.holdRelease id home) => s.releaseHold id home
    | _ => s)

/-! ## Source writes and hot destinations -/

/-- SRCW (R118). -/
def execSrcw (s : State) : Out :=
  .next (match s.ctl.op with
    | some (.srcw home line) => (s.srcMaterialise home line).send (.srcack line home)
    | _ => s)

/-- SRCACK (R118): with the last, DEPH clears, and the write goes on, before those of its line that came after it (R117, R320); a victim or an installation waits at the home
and finds DEPH clear. -/
def State.srcAck (s : State) (line home : Nat) : State :=
  let txs := s.coh.txs.filter (fun t => t.line == line && t.waitSrc.contains home)
  let s1 := txs.foldl (fun (s : State) t => s.updTx t.id (fun t => { t with waitSrc := t.waitSrc.erase home })) s
  let ready := txs.filter (fun t => (t.waitSrc.erase home).isEmpty)
  let acks := s1.ali.srcAcks.map (fun a => if a.1 = line then (a.1, a.2.erase home) else a)
  let free := acks.any (fun a => a.1 == line && a.2.isEmpty)
  let s2 := { s1 with ali.srcAcks := acks.filter (fun a => !a.2.isEmpty) }
  let s3 := if ready.isEmpty && !free then s2 else { s2 with mm.deph := nset 0 s2.mm.deph line 0 }
  s3.waitFirst (ready.map (fun t => .homeStore t.id))

/-- SRCACK (R118). -/
def execSrcack (s : State) : Out :=
  .next (match s.ctl.op with
    | some (.srcack line home) => s.srcAck line home
    | _ => s)

/-- A home has a request pending: a message on its way to it, or waiting there (R121). -/
def State.homeBusy (s : State) (home : Nat) : Bool :=
  (s.ctl.agenda ++ s.ctl.waiting).any (fun e => match e.route s with | some r => r.2 == 480 + home | none => false)

/-- HOT_MATERIALISE (R121): once the home has no request pending, the entry queued first is materialised; an entry that has come to the place of one freed since is not it, and is
left. HOTMAT rises when one is freed. -/
def State.hotOne (s : State) (home : Nat) : State :=
  match s.ali.queue.find? (fun q => q.1 == home) with
  | none => s
  | some q =>
    if s.ali.hot = 0 || s.homeBusy home then s.wait (.hotMaterialise home)
    else
      let s1 := { s with ali.queue := s.ali.queue.erase q }
      match s1.ali.entries.find? (fun e => e.home == home && e.dbase == q.2 && e.hot && !e.left.isEmpty) with
      | none => s1
      | some e =>
        let s2 := s1.materialise e (aliasLines e)
        if e.hold then s2 else s2.hotFreed home

/-- HOT_MATERIALISE (R121). -/
def execHotMaterialise (s : State) : Out :=
  .next (match s.ctl.op with
    | some (.hotMaterialise home) => s.hotOne home
    | _ => s)

/-- CATCTL_WRITE (R113). -/
def execCatctlWrite (s : State) : Out :=
  .next (match s.ctl.op with
    | some (.catctlWrite v) => { s with ali.limit := min 8192 (bits v.toNat 29 16), ali.hot := bits v.toNat 7 0 }
    | _ => s)

end Sys2Proof.Machine
end

