-- ==== Sys2Proof/Machine/Special.lean ====
section
/-! DEFINITION. The special functions of R297. Each exact value is rounded once: roots and reciprocals from an integer quotient with a sticky bit; the
transcendental ones from 448 fractional bits, more than twice what any F32 argument needs to decide the rounding, as their values at
arguments that are not special are irrational. -/

namespace Sys2Proof.Machine

open Sys2Proof

/-- The integer square root, one bit a step from bit k down. -/
def isqrtFrom (n : Nat) : Nat → Nat → Nat
  | 0, r => r
  | k + 1, r => let c := r + 2 ^ k; isqrtFrom n k (if c * c ≤ n then c else r)

/-- floor(sqrt(n)). -/
def isqrt (n : Nat) : Nat := isqrtFrom n (Nat.log2 n / 2 + 1) 0

/-- A value known to lie in [n, n + 1) * 2^e, exact at n where exact is set: the sticky bit below. -/
def sticky (s : Bool) (n : Nat) (e : Int) (exact : Bool) : Num := .fin s (2 * n + (if exact then 0 else 1)) (e - 1)

/-- 1 / (m * 2^e). -/
def recip (s : Bool) (m : Nat) (e : Int) : Num :=
  let k := Nat.log2 m + 64
  sticky s (2 ^ k / m) (-e - (k : Int)) (2 ^ k % m == 0)

/-- sqrt(m * 2^e). -/
def rootOf (m : Nat) (e : Int) : Num :=
  let odd := e % 2 == 1
  let m' := (if odd then 2 * m else m) * 2 ^ 64
  let e' := (if odd then e - 1 else e) - 64
  let r := isqrt m'
  sticky false r (e' / 2) (r * r == m')

/-- 1 / sqrt(m * 2^e). -/
def recipRoot (m : Nat) (e : Int) : Num :=
  let odd := e % 2 == 1
  let m' := if odd then 2 * m else m
  let e' := if odd then e - 1 else e
  let k := Nat.log2 m' + 64
  let r := isqrt (2 ^ (2 * k) / m')
  sticky false r (-(e' / 2) - (k : Int)) (r * r * m' == 2 ^ (2 * k))

/-- Fractional bits of the fixed-point series. -/
def fxBits : Nat := 448
/-- One in fixed point. -/
def fxOne : Nat := 2 ^ fxBits
/-- A product in fixed point. -/
def fxMul (a b : Nat) : Nat := a * b / fxOne

/-- Sum of t^(2k+1) / (2k+1) from the term p = t^(2k+1) on, n terms; q is t^2. -/
def atanhSum : Nat → Nat → Nat → Nat → Nat
  | 0, _, _, _ => 0
  | n + 1, k, p, q => p / (2 * k + 1) + atanhSum n (k + 1) (fxMul p q) q

/-- atanh of t up to 1/3. -/
def fxAtanh (t : Nat) : Nat := atanhSum 150 0 t (fxMul t t)

/-- ln 2. -/
def fxLn2 : Nat := 2 * fxAtanh (fxOne / 3)

/-- The alternating sum of t^(2k+1) / (2k+1), for arctangents of 1/a. -/
def atanSum : Nat → Nat → Nat → Nat → Int
  | 0, _, _, _ => 0
  | n + 1, k, p, a => ((p / (2 * k + 1) : Nat) : Int) - atanSum n (k + 1) (p / (a * a)) a

/-- pi, by Machin's formula. -/
def fxPi : Nat := (16 * atanSum 110 0 (fxOne / 5) 5 - 4 * atanSum 60 0 (fxOne / 239) 239).toNat

/-- Sum of the exponential series from the k-th term on. -/
def expSum : Nat → Nat → Nat → Nat → Nat
  | 0, _, _, _ => 0
  | n + 1, k, term, y => term + expSum n (k + 1) (fxMul term y / (k + 1)) y

/-- Sum of the sine series from the term at k on; q is the argument squared. -/
def sinSum : Nat → Nat → Nat → Nat → Int
  | 0, _, _, _ => 0
  | n + 1, k, term, q => (term : Int) - sinSum n (k + 2) (fxMul term q / ((k + 1) * (k + 2))) q

/-- 2^x for x = m * 2^e with e at least -448, not an integer; x beyond 200 either way is cut there, where F32 no longer tells. -/
def exp2Of (s : Bool) (m : Nat) (e : Int) : Num :=
  if ilog2 m e ≥ 8 then (if s then .fin false 1 (-200) else .fin false 1 200)
  else
    let x : Int := (if s then -1 else 1) * ((m : Int) * 2 ^ (e + (fxBits : Int)).toNat)
    let i := x / (fxOne : Int)
    let f := (x % (fxOne : Int)).toNat
    if f = 0 then .fin false 1 i
    else sticky false (expSum 100 0 fxOne (fxMul f fxLn2)) (i - (fxBits : Int)) false

/-- log2(m * 2^e) for a value other than a power of two; for one the exponent itself. -/
def log2Of (m : Nat) (e : Int) : Num :=
  let k := Nat.log2 m
  let x : Int := (k : Int) + e
  if m = 2 ^ k then numOfInt x
  else
    let t := (m - 2 ^ k) * fxOne / (m + 2 ^ k)
    let l : Int := ((2 * fxAtanh t * fxOne / fxLn2 : Nat) : Int)
    let v := x * (fxOne : Int) + l
    sticky (decide (v < 0)) (if v < 0 then v.natAbs - 1 else v.natAbs) (-(fxBits : Int)) false

/-- sin(pi * r) for a fixed-point r strictly between 0 and 1/2. -/
def sinPi (r : Nat) : Nat :=
  let y := fxMul fxPi r
  (sinSum 70 1 y (fxMul y y)).toNat

/-- sin(pi * r), r from 0 to 2 in fixed point, exact at multiples of 1/2. -/
def sinTurn (r₀ : Nat) : Num :=
  let neg := decide (r₀ ≥ fxOne)
  let r := r₀ % fxOne
  let q := if 2 * r > fxOne then fxOne - r else r
  if q = 0 then .fin neg 0 0
  else if 2 * q = fxOne then .fin neg 1 0
  else sticky neg (sinPi q) (-(fxBits : Int)) false

/-- x modulo 2 in fixed point, for x = (-1)^s * m * 2^e. -/
def turnOf (s : Bool) (m : Nat) (e : Int) : Nat :=
  let r := if e ≥ 1 then 0 else m * 2 ^ (e + (fxBits : Int)).toNat % (2 * fxOne)
  if s then (2 * fxOne - r) % (2 * fxOne) else r

/-- A special function (FN 0 to 6 of R276) of F32 bits: the F32 result and its log (R297). -/
def special (fn a : Nat) : Nat × List Nat :=
  let qn := 0x7FC00000
  let pinf := 0x7F800000
  match f32Val a with
  | .nan sig => (qn, if sig then [1] else [])
  | .inf s =>
    match fn with
    | 0 => (fF32.zeroCode s, [])
    | 1 => if s then (qn, [1]) else (0, [])
    | 2 => if s then (qn, [1]) else (pinf, [])
    | 3 => if s then (0, []) else (pinf, [])
    | 4 => if s then (qn, [1]) else (pinf, [])
    | _ => (qn, [1])
  | .fin s 0 _ =>
    match fn with
    | 0 => (fF32.infCode s, [2])
    | 1 => (fF32.infCode s, [2])
    | 2 => (a, [])
    | 3 => (0x3F800000, [])
    | 4 => (fF32.infCode true, [2])
    | 5 => (a, [])
    | _ => (0x3F800000, [])
  | .fin s m e =>
    match fn with
    | 0 => round32 (recip s m e) 0
    | 1 => if s then (qn, [1]) else round32 (recipRoot m e) 0
    | 2 => if s then (qn, [1]) else round32 (rootOf m e) 0
    | 3 => round32 (exp2Of s m e) 0
    | 4 => if s then (qn, [1]) else round32 (log2Of m e) 0
    | 5 =>
      match sinTurn (turnOf s m e) with
      | .fin _ 0 _ => (fF32.zeroCode s, [])
      | x => round32 x 0
    | _ =>
      -- cos(pi x) = sin(pi (x + 1/2)); its zeros are +0
      match sinTurn ((turnOf s m e + fxOne / 2) % (2 * fxOne)) with
      | .fin _ 0 _ => (0, [])
      | x => round32 x 0

end Sys2Proof.Machine
end

