-- ==== Sys2Proof/Machine/Alu.lean ====
section
/-! DEFINITION. The words of 15: integer, logic, shifts, bit fields, floating point, conversions, packed words, predicates and cross-lane words (R282 to R312). Each meaning is one call of a
shared form of Operands over a function of the values; c, the chain bit, has its say at the run's start (R200). -/

namespace Sys2Proof.Machine

open Sys2Proof

/-! ## Functions of values -/

/-- A 32-bit word read as two's complement (R282). -/
def s32 (x : Nat) : Int := asInt 32 x

/-- An integer as a 32-bit word (R282). -/
def b32 (x : Int) : Nat := ofInt 32 x

/-- IDIV and IREM (R287): the result and IDIVZERO. -/
def divide (signed rem : Bool) (a b : Nat) : Nat × List Nat :=
  if b = 0 then (if rem then a else 0xFFFFFFFF, [4])
  else if signed then
    let q := Int.tdiv (s32 a) (s32 b)
    (b32 (if rem then s32 a - s32 b * q else q), [])
  else (if rem then a % b else a / b, [])

/-- The shift amount (R291). -/
def amount (b : Nat) : Nat := b % 256

/-- An arithmetic shift right of a w-bit element: floor division by a power of two (R291, R303). -/
def sarBits (w a s : Nat) : Nat := ofInt w (asInt w a / (2 ^ min s (w - 1) : Nat))

/-- ROTL (R291). -/
def rotLeft (a s : Nat) : Nat := let m := s % 32; a * 2 ^ m % 2 ^ 32 ||| a / 2 ^ (32 - m)

/-- The length field of a bit-field operand (R292). -/
def fieldLen (b : Nat) : Nat := min (b / 256 % 256) 32

/-- BFX (R292). -/
def bfx (signed : Bool) (a b : Nat) : Nat :=
  let pos := b % 256
  let len := fieldLen b
  if len = 0 then 0
  else
    let wide : Nat := if signed then ofInt 320 (s32 a) else a
    let f := wide / 2 ^ pos % 2 ^ len
    if signed then b32 (asInt len f) else f

/-- BFI (R292). -/
def bfi (a b d : Nat) : Nat :=
  let pos := b % 256
  let m := (2 ^ fieldLen b - 1) * 2 ^ pos % 2 ^ 32
  (d &&& (0xFFFFFFFF ^^^ m)) ||| (a * 2 ^ pos % 2 ^ 32 &&& m)

/-- The number of 1 bits of a 32-bit word. -/
def popcount (a : Nat) : Nat := ((List.range 32).filter (fun i => bit a i)).length

/-- The number of 0 bits above the highest 1 bit. -/
def leadZeros (a : Nat) : Nat := if a = 0 then 32 else 31 - Nat.log2 a

/-- The number of 0 bits below the lowest 1 bit. -/
def trailZeros (a : Nat) : Nat := ((List.range 32).find? (fun i => bit a i)).getD 32

/-- Bit k moved to bit 31 - k. -/
def revBits (a : Nat) : Nat := (List.range 32).foldl (fun n i => n + (if bit a i then 2 ^ (31 - i) else 0)) 0

/-- A packed word: f on each element of w bits (R303). -/
def packed (w : Nat) (f : Nat → Nat → Nat) (a b : Nat) : Nat :=
  (List.range (32 / w)).foldl (fun n i => n + f (a / 2 ^ (w * i) % 2 ^ w) (b / 2 ^ (w * i) % 2 ^ w) % 2 ^ w * 2 ^ (w * i)) 0

/-- A packed shift: one amount for every element. -/
def packedShift (w : Nat) (f : Nat → Nat → Nat) (a b : Nat) : Nat :=
  (List.range (32 / w)).foldl (fun n i => n + f (a / 2 ^ (w * i) % 2 ^ w) (amount b) % 2 ^ w * 2 ^ (w * i)) 0

/-- The lesser or greater of two elements read as signed. -/
def pick (mx : Bool) (w a b : Nat) : Nat := if asInt w a < asInt w b then (if mx then b else a) else (if mx then a else b)

/-- The lesser or greater read as unsigned. -/
def pickN (mx : Bool) (a b : Nat) : Nat := if mx then max a b else min a b

/-- The fields of the PACK and UNPK immediate (R300). -/
structure PackImm where
  s32src : Bool
  ovf : Bool
  rm : Nat
  fmt : Nat
  pos : Nat
deriving DecidableEq, Repr

/-- The immediate taken apart. -/
def packImm (i : Nat) : PackImm := { s32src := bit i 15, ovf := bit i 14, rm := bits i 13 11, fmt := bits i 10 3, pos := bits i 2 0 }

/-- PACK (R301). -/
def packElem (p : PackImm) (a d : Nat) : Nat × List Nat :=
  let w := fmtBits p.fmt
  let x := if p.s32src then numOfInt (s32 a) else f32Val a
  let r := convertTo x p.fmt p.rm p.ovf
  (setBits d (w * p.pos + w - 1) (w * p.pos) r.1, r.2)

/-- UNPK (R302). -/
def unpack (p : PackImm) (a : Nat) : Nat :=
  let w := fmtBits p.fmt
  unpackElem p.fmt (a / 2 ^ (w * p.pos) % 2 ^ w)

/-- A conversion of R278 by its selector. -/
def cvt (sel rm a : Nat) : Nat × List Nat :=
  match sel with
  | 0 => convertInt (f32Val a) 32 true rm
  | 1 => convertInt (f32Val a) 32 false rm
  | 2 => round32 (numOfInt (s32 a)) rm
  | 3 => round32 (numOfInt (a : Int)) rm
  | _ => fround a rm

/-- The key of MATCH.F (R312). -/
def matchKey (a : Nat) : Nat := if (f32Val a).isNan then 0x7FC00000 else if a = 0x80000000 then 0 else a

/-- One combination of a fold (R311), with its log. -/
def foldOp (op x y : Nat) : Nat × List Nat :=
  match op with
  | 0 => ((x + y) % 2 ^ 32, [])
  | 1 => fopAdd fF32 0 (f32Val x) (f32Val y)
  | 2 => (pick false 32 x y, [])
  | 3 => (min x y, [])
  | 4 => fminmax false x y
  | 5 => (pick true 32 x y, [])
  | 6 => (max x y, [])
  | 7 => fminmax true x y
  | 8 => (x &&& y, [])
  | 9 => (x ||| y, [])
  | _ => (x ^^^ y, [])

/-- A fold of values in order, with everything its combinations log. -/
def foldLanes (op : Nat) : List Nat → Nat × List Nat
  | [] => (0, [])
  | v :: t => t.foldl (fun r y => let q := foldOp op r.1 y; (q.1, r.2 ++ q.2)) (v, [])

/-- The mask of the lanes of a set. -/
def maskOfSet (st : List (RLane × PVal)) : Nat := maskOf (st.map (fun x => x.1.lane))

/-- A fold word: REDX over the whole of set(l), SCAN up to lane l; poison from the first poisoned lane on, and the log of the operations before it for every lane of the
set (R285, R311). -/
def State.foldWord (s : State) (gd : BitVec 3) (d a : BitVec 7) (k : BitVec 3) (op : Nat) (scan : Bool) : State :=
  s.tokWord gd d.toNat k.toNat [a.toNat] (fun acts l gt =>
    match gt with
    | .off => none
    | .pois => some (derivedPoison, [])
    | .on =>
      let st := setOf acts l
      let part := if scan then st.filter (fun x => decide (x.1.lane ≤ l.lane)) else st
      let clean_ := st.takeWhile (fun x => !x.2.bad)
      let logs := (foldLanes op (clean_.map (fun x => x.2.val.toNat))).2
      if part.any (fun x => x.2.bad) then some (derivedPoison, logs)
      else some (clean (BitVec.ofNat 32 (foldLanes op (part.map (fun x => x.2.val.toNat))).1), logs))

/-! ## The words -/


/-- IADD (R286). -/
def execIadd (_c : BitVec 1) (g : BitVec 3) (d a b : BitVec 7) (s : State) : Out := .next (s.int2 g d a b (fun x y => (x + y) % 2 ^ 32))

/-- ISUB (R286). -/
def execIsub (_c : BitVec 1) (g : BitVec 3) (d a b : BitVec 7) (s : State) : Out := .next (s.int2 g d a b (fun x y => (x + 2 ^ 32 - y) % 2 ^ 32))

/-- IMUL (R286). -/
def execImul (_c : BitVec 1) (g : BitVec 3) (d a b : BitVec 7) (s : State) : Out := .next (s.int2 g d a b (fun x y => x * y % 2 ^ 32))

/-- IMAD (R286). -/
def execImad (_c : BitVec 1) (g : BitVec 3) (d a b : BitVec 7) (s : State) : Out := .next (s.log3 g d a b (fun x y z => ((x * y + z) % 2 ^ 32, [])))

/-- IMULH.S32 (R286). -/
def execImulhS32 (_c : BitVec 1) (g : BitVec 3) (d a b : BitVec 7) (s : State) : Out := .next (s.int2 g d a b (fun x y => b32 (s32 x * s32 y / (2 ^ 32 : Nat))))

/-- IMULH.N32 (R286). -/
def execImulhN32 (_c : BitVec 1) (g : BitVec 3) (d a b : BitVec 7) (s : State) : Out := .next (s.int2 g d a b (fun x y => x * y / 2 ^ 32))

/-- IDIV.S32 (R287). -/
def execIdivS32 (_c : BitVec 1) (g : BitVec 3) (d a b : BitVec 7) (s : State) : Out := .next (s.log2 g d a b (divide true false))

/-- IDIV.N32 (R287). -/
def execIdivN32 (_c : BitVec 1) (g : BitVec 3) (d a b : BitVec 7) (s : State) : Out := .next (s.log2 g d a b (divide false false))

/-- IREM.S32 (R287). -/
def execIremS32 (_c : BitVec 1) (g : BitVec 3) (d a b : BitVec 7) (s : State) : Out := .next (s.log2 g d a b (divide true true))

/-- IREM.N32 (R287). -/
def execIremN32 (_c : BitVec 1) (g : BitVec 3) (d a b : BitVec 7) (s : State) : Out := .next (s.log2 g d a b (divide false true))

/-- IMIN.S32 (R286). -/
def execIminS32 (_c : BitVec 1) (g : BitVec 3) (d a b : BitVec 7) (s : State) : Out := .next (s.int2 g d a b (pick false 32))

/-- IMIN.N32 (R286). -/
def execIminN32 (_c : BitVec 1) (g : BitVec 3) (d a b : BitVec 7) (s : State) : Out := .next (s.int2 g d a b (pickN false))

/-- IMAX.S32 (R286). -/
def execImaxS32 (_c : BitVec 1) (g : BitVec 3) (d a b : BitVec 7) (s : State) : Out := .next (s.int2 g d a b (pick true 32))

/-- IMAX.N32 (R286). -/
def execImaxN32 (_c : BitVec 1) (g : BitVec 3) (d a b : BitVec 7) (s : State) : Out := .next (s.int2 g d a b (pickN true))

/-- MOVI (R288): the immediate is signed at its extended width (R266). -/
def execMovi (_c : BitVec 1) (g : BitVec 3) (d : BitVec 7) (i : BitVec 7) (s : State) : Out := .next (s.word (fun s r => s.lanewise' g d.toNat [] (fun _ => b32 (asInt (r.immWidth 7) (r.imm 7 i.toNat)))))

/-- MOV (R289). -/
def execMov (_c : BitVec 1) (g : BitVec 3) (d a : BitVec 7) (s : State) : Out := .next (s.int1 g d a (fun x => x))

/-- IABS (R289). -/
def execIabs (_c : BitVec 1) (g : BitVec 3) (d a : BitVec 7) (s : State) : Out := .next (s.int1 g d a (fun x => b32 ((s32 x).natAbs : Int)))

/-- INEG (R289). -/
def execIneg (_c : BitVec 1) (g : BitVec 3) (d a : BitVec 7) (s : State) : Out := .next (s.int1 g d a (fun x => b32 (-(s32 x))))

/-- POPC (R289). -/
def execPopc (_c : BitVec 1) (g : BitVec 3) (d a : BitVec 7) (s : State) : Out := .next (s.int1 g d a (popcount))

/-- CLZ (R289). -/
def execClz (_c : BitVec 1) (g : BitVec 3) (d a : BitVec 7) (s : State) : Out := .next (s.int1 g d a (leadZeros))

/-- CTZ (R289). -/
def execCtz (_c : BitVec 1) (g : BitVec 3) (d a : BitVec 7) (s : State) : Out := .next (s.int1 g d a (trailZeros))

/-- BREV (R289). -/
def execBrev (_c : BitVec 1) (g : BitVec 3) (d a : BitVec 7) (s : State) : Out := .next (s.int1 g d a (revBits))

/-- AND (R290). -/
def execAndW (_c : BitVec 1) (g : BitVec 3) (d a b : BitVec 7) (s : State) : Out := .next (s.int2 g d a b (fun x y => x &&& y))

/-- OR (R290). -/
def execOrW (_c : BitVec 1) (g : BitVec 3) (d a b : BitVec 7) (s : State) : Out := .next (s.int2 g d a b (fun x y => x ||| y))

/-- XOR (R290). -/
def execXor (_c : BitVec 1) (g : BitVec 3) (d a b : BitVec 7) (s : State) : Out := .next (s.int2 g d a b (fun x y => x ^^^ y))

/-- ANDN (R290). -/
def execAndn (_c : BitVec 1) (g : BitVec 3) (d a b : BitVec 7) (s : State) : Out := .next (s.int2 g d a b (fun x y => x &&& (0xFFFFFFFF ^^^ y)))

/-- SHL (R291). -/
def execShl (_c : BitVec 1) (g : BitVec 3) (d a b : BitVec 7) (s : State) : Out := .next (s.int2 g d a b (fun x y => if amount y ≥ 32 then 0 else x * 2 ^ amount y % 2 ^ 32))

/-- SHR (R291). -/
def execShr (_c : BitVec 1) (g : BitVec 3) (d a b : BitVec 7) (s : State) : Out := .next (s.int2 g d a b (fun x y => if amount y ≥ 32 then 0 else x / 2 ^ amount y))

/-- SAR (R291). -/
def execSar (_c : BitVec 1) (g : BitVec 3) (d a b : BitVec 7) (s : State) : Out := .next (s.int2 g d a b (fun x y => sarBits 32 x (amount y)))

/-- ROTL (R291). -/
def execRotl (_c : BitVec 1) (g : BitVec 3) (d a b : BitVec 7) (s : State) : Out := .next (s.int2 g d a b (fun x y => rotLeft x (amount y)))

/-- BFX.N32 (R292). -/
def execBfxN32 (_c : BitVec 1) (g : BitVec 3) (d a b : BitVec 7) (s : State) : Out := .next (s.int2 g d a b (bfx false))

/-- BFX.S32 (R292). -/
def execBfxS32 (_c : BitVec 1) (g : BitVec 3) (d a b : BitVec 7) (s : State) : Out := .next (s.int2 g d a b (bfx true))

/-- BFI (R292). -/
def execBfi (_c : BitVec 1) (g : BitVec 3) (d a b : BitVec 7) (s : State) : Out := .next (s.log3 g d a b (fun x y z => (bfi x y z, [])))

/-- SEL (R293): p1 is read, and is an input (R285, R304). -/
def execSel (_c : BitVec 1) (g : BitVec 3) (d a b : BitVec 7) (s : State) : Out := .next (s.lanewise g d.toNat [a.toNat, b.toNat] 1 (fun l vs => match vs with | [x, y] => (if l.p 1 then x else y, []) | _ => (0, [])))

/-- ICMP (R305): t 0 S32, 1 N32. -/
def execIcmp (_c : BitVec 1) (t : BitVec 1) (cc : BitVec 3) (a b : BitVec 7) (s : State) : Out := .next (s.predWord 0 [a.toNat, b.toNat] (fun l vs =>
    match vs with
    | [x, y] =>
      let u : Int := if t = 1 then x.val.toNat else s32 x.val.toNat
      let v : Int := if t = 1 then y.val.toNat else s32 y.val.toNat
      let r := match cc.toNat with
        | 0 => decide (u = v) | 1 => decide (u ≠ v) | 2 => decide (u < v) | 3 => decide (u ≤ v) | 4 => decide (u > v) | _ => decide (u ≥ v)
      (if x.bad || y.bad then l.push false true else l.push r false, [])
    | _ => (l, [])))

/-- FCMP (R305). -/
def execFcmp (_c : BitVec 1) (cc : BitVec 3) (a b : BitVec 7) (s : State) : Out := .next (s.predWord 0 [a.toNat, b.toNat] (fun l vs =>
    match vs with
    | [x, y] =>
      let r := fcmpRel cc.toNat x.val.toNat y.val.toNat
      if x.bad || y.bad then (l.push false true, []) else (l.push r.1 false, r.2)
    | _ => (l, [])))

/-- PPOP (R306). -/
def execPpop (_c : BitVec 1) (s : State) : Out := .next (s.predWord 1 [] (fun l _ => (l.pop, [])))

/-- PDUP (R306). -/
def execPdup (_c : BitVec 1) (s : State) : Out := .next (s.predWord 1 [] (fun l _ => (l.push (l.p 1) (l.pp 1), [])))

/-- PSWP (R306). -/
def execPswp (_c : BitVec 1) (s : State) : Out := .next (s.predWord 2 [] (fun l _ => (l.swap, [])))

/-- PAND (R306). -/
def execPand (_c : BitVec 1) (s : State) : Out := .next (s.predWord 2 [] (fun l _ => (l.fold2 and, [])))

/-- POR (R306). -/
def execPor (_c : BitVec 1) (s : State) : Out := .next (s.predWord 2 [] (fun l _ => (l.fold2 or, [])))

/-- PXOR (R306). -/
def execPxor (_c : BitVec 1) (s : State) : Out := .next (s.predWord 2 [] (fun l _ => (l.fold2 xor, [])))

/-- PRD (R306): derived poison where any entry is poisoned (R285). -/
def execPrd (_c : BitVec 1) (d : BitVec 7) (s : State) : Out := .next (s.word (fun s g =>
    match s.operandTrap g g.lanes [] [d.toNat] with
    | some c => s.coreTrap g c g.lanes
    | none => s.advance (g.shiftedTo d.toNat (g.lanes.map (fun l =>
        l.result d.toNat (if l.ppois = 0 then clean (BitVec.ofNat 32 l.pword) else derivedPoison))))))

/-- PWR (R306). -/
def execPwr (_c : BitVec 1) (a : BitVec 7) (s : State) : Out := .next (s.predWord 0 [a.toNat] (fun l vs => (l.setPword (vs.headD pzero), [])))

/-- FADD (R294). -/
def execFadd (_c : BitVec 1) (r : BitVec 2) (g : BitVec 3) (d a b : BitVec 7) (s : State) : Out := .next (s.log2 g d a b (fun x y => fopAdd fF32 r.toNat (f32Val x) (f32Val y)))

/-- FSUB (R294): the addends are A and -B. -/
def execFsub (_c : BitVec 1) (r : BitVec 2) (g : BitVec 3) (d a b : BitVec 7) (s : State) : Out := .next (s.log2 g d a b (fun x y => fopAdd fF32 r.toNat (f32Val x) (f32Val y).neg))

/-- FMUL (R294). -/
def execFmul (_c : BitVec 1) (r : BitVec 2) (g : BitVec 3) (d a b : BitVec 7) (s : State) : Out := .next (s.log2 g d a b (fun x y => fopMul fF32 r.toNat (f32Val x) (f32Val y)))

/-- FMA (R294). -/
def execFma (_c : BitVec 1) (r : BitVec 2) (g : BitVec 3) (d a b : BitVec 7) (s : State) : Out := .next (s.log3 g d a b (fun x y z => fopFma fF32 r.toNat (f32Val x) (f32Val y) (f32Val z)))

/-- FMIN (R295). -/
def execFmin (_c : BitVec 1) (g : BitVec 3) (d a b : BitVec 7) (s : State) : Out := .next (s.log2 g d a b (fminmax false))

/-- FMAX (R295). -/
def execFmax (_c : BitVec 1) (g : BitVec 3) (d a b : BitVec 7) (s : State) : Out := .next (s.log2 g d a b (fminmax true))

/-- FSCL (R296). -/
def execFscl (_c : BitVec 1) (g : BitVec 3) (d a b : BitVec 7) (s : State) : Out := .next (s.log2 g d a b fscale)

/-- FRCP (R297). -/
def execFrcp (_c : BitVec 1) (g : BitVec 3) (d a : BitVec 7) (k : BitVec 3) (s : State) : Out := .next (s.funWord g d a k (special 0))

/-- FRSQ (R297). -/
def execFrsq (_c : BitVec 1) (g : BitVec 3) (d a : BitVec 7) (k : BitVec 3) (s : State) : Out := .next (s.funWord g d a k (special 1))

/-- FSQRT (R297). -/
def execFsqrt (_c : BitVec 1) (g : BitVec 3) (d a : BitVec 7) (k : BitVec 3) (s : State) : Out := .next (s.funWord g d a k (special 2))

/-- FEX2 (R297). -/
def execFex2 (_c : BitVec 1) (g : BitVec 3) (d a : BitVec 7) (k : BitVec 3) (s : State) : Out := .next (s.funWord g d a k (special 3))

/-- FLG2 (R297). -/
def execFlg2 (_c : BitVec 1) (g : BitVec 3) (d a : BitVec 7) (k : BitVec 3) (s : State) : Out := .next (s.funWord g d a k (special 4))

/-- FSIN (R297). -/
def execFsin (_c : BitVec 1) (g : BitVec 3) (d a : BitVec 7) (k : BitVec 3) (s : State) : Out := .next (s.funWord g d a k (special 5))

/-- FCOS (R297). -/
def execFcos (_c : BitVec 1) (g : BitVec 3) (d a : BitVec 7) (k : BitVec 3) (s : State) : Out := .next (s.funWord g d a k (special 6))

/-- FCLS (R298). -/
def execFcls (_c : BitVec 1) (g : BitVec 3) (d a : BitVec 7) (k : BitVec 3) (s : State) : Out := .next (s.funWord g d a k (fun x => (2 ^ fclass x, [])))

/-- CVT.S32.F32 (R299). -/
def execCvtS32F32 (_c : BitVec 1) (g : BitVec 3) (d a : BitVec 7) (r : BitVec 3) (s : State) : Out := .next (s.log1 g d a (cvt 0 r.toNat))

/-- CVT.N32.F32 (R299). -/
def execCvtN32F32 (_c : BitVec 1) (g : BitVec 3) (d a : BitVec 7) (r : BitVec 3) (s : State) : Out := .next (s.log1 g d a (cvt 1 r.toNat))

/-- CVT.F32.S32 (R299). -/
def execCvtF32S32 (_c : BitVec 1) (g : BitVec 3) (d a : BitVec 7) (r : BitVec 3) (s : State) : Out := .next (s.log1 g d a (cvt 2 r.toNat))

/-- CVT.F32.N32 (R299). -/
def execCvtF32N32 (_c : BitVec 1) (g : BitVec 3) (d a : BitVec 7) (r : BitVec 3) (s : State) : Out := .next (s.log1 g d a (cvt 3 r.toNat))

/-- CVTI (R299). -/
def execCvti (_c : BitVec 1) (g : BitVec 3) (d a : BitVec 7) (r : BitVec 3) (s : State) : Out := .next (s.log1 g d a (cvt 4 r.toNat))

/-- PACK (R301): D is read and written. -/
def execPack (_c : BitVec 1) (g : BitVec 3) (d a : BitVec 7) (i : BitVec 7) (s : State) : Out := .next (s.word (fun s r => s.lanewise g d.toNat [a.toNat, d.toNat] 0 (fun _ vs => match vs with | [x, z] => packElem (packImm (r.imm 7 i.toNat)) x z | _ => (0, []))))

/-- UNPK (R302). -/
def execUnpk (_c : BitVec 1) (g : BitVec 3) (d a : BitVec 7) (i : BitVec 7) (s : State) : Out := .next (s.word (fun s r => s.int1 g d a (unpack (packImm (r.imm 7 i.toNat)))))

/-- SHFL (R309): the index comes from a temporary. -/
def execShfl (_c : BitVec 1) (g : BitVec 3) (d a : BitVec 7) (t : BitVec 4) (k : BitVec 3) (s : State) : Out := .next (s.tokWord g d.toNat k.toNat [a.toNat, 112 + t.toNat] (fun acts l gt =>
    match gt with
    | .off => none
    | .pois => some (derivedPoison, [])
    | .on =>
      match acts.find? (fun x => x.1.lane == l.lane) with
      | some (_, [own, idx]) =>
        let src := (acts.find? (fun x => x.1.lane == idx.val.toNat && x.1.slot == l.slot)).map (fun x => x.2.headD pzero)
        let v := src.getD own
        if idx.bad || v.bad then some (derivedPoison, []) else some (v, [])
      | _ => none))

/-- VOTE (R310): f 0 ALL, 1 ANY, 2 BALLOT, 3 EQ. -/
def execVote (_c : BitVec 1) (g : BitVec 3) (d a : BitVec 7) (f : BitVec 4) (k : BitVec 3) (s : State) : Out := .next (s.crossWord g d a k (fun st _ =>
    match f.toNat with
    | 0 => (if st.all (fun x => x.2.val != 0) then 1 else 0, [])
    | 1 => (if st.any (fun x => x.2.val != 0) then 1 else 0, [])
    | 2 => (maskOfSet (st.filter (fun x => x.2.val != 0)), [])
    | _ => (if st.all (fun x => x.2.val == (st.map (fun y => y.2.val)).headD 0) then 1 else 0, [])))

/-- REDX (R311). -/
def execRedx (_c : BitVec 1) (g : BitVec 3) (d a : BitVec 7) (f : BitVec 4) (k : BitVec 3) (s : State) : Out := .next (s.foldWord g d a k f.toNat false)

/-- SCAN (R311). -/
def execScan (_c : BitVec 1) (g : BitVec 3) (d a : BitVec 7) (f : BitVec 4) (k : BitVec 3) (s : State) : Out := .next (s.foldWord g d a k f.toNat true)

/-- MATCH (R312): a lane with a false guard receives 0. -/
def execMatchW (_c : BitVec 1) (g : BitVec 3) (d a : BitVec 7) (k : BitVec 3) (s : State) : Out := .next (s.tokWord g d.toNat k.toNat [a.toNat] (fun acts l gt =>
    match gt with
    | .off => some (pzero, [])
    | .pois => some (derivedPoison, [])
    | .on =>
      let st := setOf acts l
      let key : Nat → Nat := fun x => x
      let own := (st.find? (fun x => x.1.lane == l.lane)).map (fun x => key x.2.val.toNat)
      if st.any (fun x => x.2.bad) then some (derivedPoison, [])
      else some (clean (BitVec.ofNat 32 (maskOfSet (st.filter (fun x => some (key x.2.val.toNat) == own)))), [])))

/-- MATCH.F (R312): a lane with a false guard receives 0. -/
def execMatchF (_c : BitVec 1) (g : BitVec 3) (d a : BitVec 7) (k : BitVec 3) (s : State) : Out := .next (s.tokWord g d.toNat k.toNat [a.toNat] (fun acts l gt =>
    match gt with
    | .off => some (pzero, [])
    | .pois => some (derivedPoison, [])
    | .on =>
      let st := setOf acts l
      let key : Nat → Nat := matchKey
      let own := (st.find? (fun x => x.1.lane == l.lane)).map (fun x => key x.2.val.toNat)
      if st.any (fun x => x.2.bad) then some (derivedPoison, [])
      else some (clean (BitVec.ofNat 32 (maskOfSet (st.filter (fun x => some (key x.2.val.toNat) == own)))), [])))

/-- PADD.B4 (R303). -/
def execPaddB4 (_c : BitVec 1) (g : BitVec 3) (d a b : BitVec 7) (s : State) : Out := .next (s.int2 g d a b (packed 8 (fun x y => x + y)))

/-- PSUB.B4 (R303). -/
def execPsubB4 (_c : BitVec 1) (g : BitVec 3) (d a b : BitVec 7) (s : State) : Out := .next (s.int2 g d a b (packed 8 (fun x y => x + 2 ^ 16 - y)))

/-- PMUL.B4 (R303). -/
def execPmulB4 (_c : BitVec 1) (g : BitVec 3) (d a b : BitVec 7) (s : State) : Out := .next (s.int2 g d a b (packed 8 (fun x y => x * y)))

/-- PMIN.B4 (R303). -/
def execPminB4 (_c : BitVec 1) (g : BitVec 3) (d a b : BitVec 7) (s : State) : Out := .next (s.int2 g d a b (packed 8 (pick false 8)))

/-- PMAX.B4 (R303). -/
def execPmaxB4 (_c : BitVec 1) (g : BitVec 3) (d a b : BitVec 7) (s : State) : Out := .next (s.int2 g d a b (packed 8 (pick true 8)))

/-- PSHL.B4 (R303). -/
def execPshlB4 (_c : BitVec 1) (g : BitVec 3) (d a b : BitVec 7) (s : State) : Out := .next (s.int2 g d a b (packedShift 8 (fun x n => if n ≥ 8 then 0 else x * 2 ^ n)))

/-- PSHR.B4 (R303). -/
def execPshrB4 (_c : BitVec 1) (g : BitVec 3) (d a b : BitVec 7) (s : State) : Out := .next (s.int2 g d a b (packedShift 8 (fun x n => if n ≥ 8 then 0 else x / 2 ^ n)))

/-- PSAR.B4 (R303). -/
def execPsarB4 (_c : BitVec 1) (g : BitVec 3) (d a b : BitVec 7) (s : State) : Out := .next (s.int2 g d a b (packedShift 8 (fun x n => sarBits 8 x n)))

/-- PADD.H2 (R303). -/
def execPaddH2 (_c : BitVec 1) (g : BitVec 3) (d a b : BitVec 7) (s : State) : Out := .next (s.int2 g d a b (packed 16 (fun x y => x + y)))

/-- PSUB.H2 (R303). -/
def execPsubH2 (_c : BitVec 1) (g : BitVec 3) (d a b : BitVec 7) (s : State) : Out := .next (s.int2 g d a b (packed 16 (fun x y => x + 2 ^ 16 - y)))

/-- PMUL.H2 (R303). -/
def execPmulH2 (_c : BitVec 1) (g : BitVec 3) (d a b : BitVec 7) (s : State) : Out := .next (s.int2 g d a b (packed 16 (fun x y => x * y)))

/-- PMIN.H2 (R303). -/
def execPminH2 (_c : BitVec 1) (g : BitVec 3) (d a b : BitVec 7) (s : State) : Out := .next (s.int2 g d a b (packed 16 (pick false 16)))

/-- PMAX.H2 (R303). -/
def execPmaxH2 (_c : BitVec 1) (g : BitVec 3) (d a b : BitVec 7) (s : State) : Out := .next (s.int2 g d a b (packed 16 (pick true 16)))

/-- PSHL.H2 (R303). -/
def execPshlH2 (_c : BitVec 1) (g : BitVec 3) (d a b : BitVec 7) (s : State) : Out := .next (s.int2 g d a b (packedShift 16 (fun x n => if n ≥ 16 then 0 else x * 2 ^ n)))

/-- PSHR.H2 (R303). -/
def execPshrH2 (_c : BitVec 1) (g : BitVec 3) (d a b : BitVec 7) (s : State) : Out := .next (s.int2 g d a b (packedShift 16 (fun x n => if n ≥ 16 then 0 else x / 2 ^ n)))

/-- PSAR.H2 (R303). -/
def execPsarH2 (_c : BitVec 1) (g : BitVec 3) (d a b : BitVec 7) (s : State) : Out := .next (s.int2 g d a b (packedShift 16 (fun x n => sarBits 16 x n)))

/-- NOP (R271). -/
def execNop (_c : BitVec 1) (s : State) : Out := .next (s.word (fun s g => s.advance g))

/-- KEXT (R267): its payload waits for the next word. -/
def execKext (p : BitVec 24) (s : State) : Out := .next (s.word (fun s g => s.updGrp g.id (fun g => { g with idx := g.idx + 1, kext := g.kext ++ [p.toNat] })))

/-- QUAL (R268): its payload waits for the next word. -/
def execQual (w p m sc : BitVec 3) (s : State) : Out := .next (s.word (fun s g => s.updGrp g.id (fun g => { g with idx := g.idx + 1, qual := some (BitVec.ofNat 32 (sc.toNat + 8 * m.toNat + 64 * p.toNat + 512 * w.toNat)) })))

end Sys2Proof.Machine
end

