-- ==== Sys2Proof/Machine/Package.lean ====
section
/-! DEFINITION. Reset and supply rails (R19), islands (R20 to R22), column temperatures (R23, R24), and the Holt ports and bridges (R25 to R29). -/

namespace Sys2Proof.Machine

open Sys2Proof

/-! ## Reset and rails -/

/-- The package is held in reset: from outside, or by a rail (R19). -/
def State.held0 (s : State) : Bool := s.pkg.inReset || !s.pkg.railBad.isEmpty

/-- Reset asserted: registers take their reset values; memory and its metadata, the board flash, what went to the host, the rails' running times and the
model's counters stand (log 25). -/
def State.toReset (s : State) : State :=
  { State.reset with
    ctl := { s.ctl with
      agenda := s.ctl.agenda.filter (fun e => match e with
        | .packageReset _ => true
        | .railOutOfLimits _ => true
        | .railSettledTimer _ => true
        | _ => false),
      waiting := [],
      timers := s.ctl.timers.filterMap (fun t => match t.2 with
        | .railSettledTimer r => some (t.1 - s.ctl.time, Ev.railSettledTimer r)
        | _ => none),
      op := none, time := 0, resets := s.ctl.resets + 1 },
    mem := s.mem, mm := s.mm,
    pkg := { State.reset.pkg with inReset := s.pkg.inReset, railBad := s.pkg.railBad },
    host := { State.reset.host with flash := s.host.flash, sent := s.host.sent } }

/-- Reset released once nothing holds it: boot begins (R19, R49), and the sampling of the columns (R23). -/
def State.boot (s : State) : State :=
  if s.held0 then s else { s with ctl.timers := s.ctl.timers ++ sampleTimers s.ctl.freeCtr }.send .bootStart

/-- A rail has left its limits; it must have been back within them for 1 ms before it lets the package go (R19). How long it stays outside is free (log 93). -/
def State.railOut (s : State) (r : Nat) : State :=
  ((({ s with pkg.railBad := addSorted s.pkg.railBad r }).toReset).cancel (fun e => e == Ev.railSettledTimer r)).after (Config.railAway s.ctl.freeCtr + 1000 * perUs) (.railSettledTimer r)

/-- The millisecond of a rail still runs. -/
def State.railRuns (s : State) (r : Nat) : Bool := s.ctl.timers.any (fun t => t.2 == Ev.railSettledTimer r)

/-- PACKAGE_RESET. -/
def execPackageReset (s : State) : Out :=
  .next (match s.ctl.op with
    | some (.packageReset a) =>
      if a then ({ s with pkg.inReset := true }).toReset
      else if s.pkg.inReset then ({ s with pkg.inReset := false }).boot else s
    | _ => s)

/-- RAIL_OUT_OF_LIMITS. -/
def execRailOutOfLimits (s : State) : Out :=
  .next (match s.ctl.op with
    | some (.railOutOfLimits r) => s.railOut r
    | _ => s)

/-- RAIL_SETTLED_TIMER. -/
def execRailSettledTimer (s : State) : Out :=
  .next (match s.ctl.op with
    | some (.railSettledTimer r) =>
      if s.pkg.railBad.contains r && !s.railRuns r then ({ s with pkg.railBad := s.pkg.railBad.filter (fun x => x != r) }).boot else s
    | _ => s)

/-! ## Islands -/

/-- Least voltage of a compute quadrant at a frequency (R21). -/
def vmin (f : Nat) : Nat := 550 + ceilDiv (6 * (f - 200)) 13

/-- What a write of ISLANDi asks for, fixed fields kept; none where it is ignored as a whole (R21). -/
def islandAsk (i : Nat) (x : Island) (v : Nat) : Option (Nat × Nat × Nat) :=
  let f := bits v 35 24
  let u := bits v 23 12
  let fl := bits v 47 36
  if x.change.isSome then none
  else if i ≥ 21 ∨ i % 7 = 6 then some (x.fset, x.vset, x.floor)
  else if i % 7 = 5 then (if f = 850 ∨ f = 1700 then some (f, x.vset, x.floor) else none)
  else if i % 7 = 4 then (if f = 425 ∨ f = 850 then some (f, x.vset, x.floor) else none)
  else if 200 ≤ f ∧ f ≤ 850 ∧ f % 25 = 0 ∧ 550 ≤ u ∧ u ≤ 850 ∧ u % 5 = 0 ∧ vmin f ≤ u ∧ 200 ≤ fl ∧ fl ≤ f ∧ fl % 25 = 0 then some (f, u, fl)
  else none

/-- A compute quadrant's island. -/
def quadrantIsland (i : Nat) : Bool := decide (i < 21) && decide (i % 7 < 4)

/-- A compute quadrant's voltage goes to its regulator over PMBus (R21). -/
def State.setVolts (s : State) (i mv : Nat) : State := if quadrantIsland i then s.toHost (.pmbus (0x40 + i) mv) else s

/-- s with an island's running frequency. -/
def State.setRun (s : State) (i f : Nat) : State := { s with pkg.islands := modAt s.pkg.islands i (fun (x : Island) => { x with run := f }) }

/-- An accepted change begins (R21): a frequency that falls falls before the voltage is set; one that rises rises when the change is complete, after the
voltage. A write that asks for the settings in force changes nothing (DESIGN CHOICE, log 76). -/
def State.islandWrite (s : State) (i : Nat) (v : DWord) : State :=
  match islandAsk i (s.island i) v.toNat with
  | none => s
  | some a =>
    if a = ((s.island i).fset, (s.island i).vset, (s.island i).floor) then s
    else
      let s1 := { s with pkg.islands := modAt s.pkg.islands i (fun (x : Island) => { x with change := some a }) }
      let s2 := if a.1 < (s.island i).run then s1.setRun i a.1 else s1
      (s2.setVolts i a.2.1).send (.islandChangeComplete i)

/-- ISLAND_WRITE. -/
def execIslandWrite (s : State) : Out :=
  .next (match s.ctl.op with
    | some (.islandWrite i v) => s.islandWrite i v
    | _ => s)

/-- ISLAND_CHANGE_COMPLETE. -/
def execIslandChangeComplete (s : State) : Out :=
  .next (match s.ctl.op with
    | some (.islandChangeComplete i) =>
      { s with pkg.islands := modAt s.pkg.islands i (fun (x : Island) => match x.change with
          | some a => { x with fset := a.1, vset := a.2.1, floor := a.2.2, run := a.1, change := none }
          | none => x) }
    | _ => s)

/-! ## Temperatures -/

/-- The three readings of a TCOL value (R23). -/
def readings (w : Nat) : List Nat := [bits w 29 20, bits w 19 10, bits w 9 0]

/-- The island of package quadrant q. -/
def islandOf (q : Nat) : Nat := 7 * (q / 4) + q % 4

/-- Some reading of a quadrant is at or above 100 °C. -/
def State.quadrantWarm (s : State) (q : Nat) : Bool :=
  (List.range 8).any (fun i => (readings ((s.pkg.tcol.drop (8 * q + i)).headD 0).toNat).any (fun r => decide (800 ≤ r)))

/-- s with a quadrant held at its floor, or let go (R24). -/
def State.setThrottle (s : State) (q : Nat) (b : Bool) : State :=
  { s with pkg.islands := modAt s.pkg.islands (islandOf q) (fun (x : Island) => { x with throt := b }) }

/-- A column's next sampling, 1,000 reference ticks on, with free readings (R23; log 75). -/
def State.nextSample (s : State) (c : Nat) : State :=
  if s.ctl.timers.any (fun t => match t.2 with | .tcolSample k _ _ _ => k == c | _ => false) then s
  else
    let n := 3 * s.ctl.freeCtr
    s.after (1000 * perTick) (.tcolSample c (Config.reading n c % 1024) (Config.reading (n + 1) c % 1024) (Config.reading (n + 2) c % 1024))

/-- A sample of a column is published (R23); readings of 110 °C throttle its quadrant, and readings below 100 °C everywhere let it go (R24). -/
def State.tcolSample (s : State) (c tb tl tm : Nat) : State :=
  let old := ((s.pkg.tcol.drop c).headD 0).toNat
  let hot := bit old 30 || decide (840 ≤ tb) || decide (840 ≤ tl) || decide (840 ≤ tm)
  let w := 2 ^ 31 + (if hot then 2 ^ 30 else 0) + tb * 2 ^ 20 + tl * 2 ^ 10 + tm
  let s1 := { s with pkg.tcol := modAt s.pkg.tcol c (fun _ => BitVec.ofNat 32 w) }
  let q := c / 8
  if 880 ≤ tb ∨ 880 ≤ tl ∨ 880 ≤ tm then s1.send (.thermalThrottle q)
  else if (s1.island (islandOf q)).throt && !s1.quadrantWarm q then s1.setThrottle q false
  else s1

/-- TCOL_SAMPLE. -/
def execTcolSample (s : State) : Out :=
  .next (match s.ctl.op with
    | some (.tcolSample c tb tl tm) => (s.tcolSample c tb tl tm).nextSample c
    | _ => s)

/-- THERMAL_THROTTLE (R24). -/
def execThermalThrottle (s : State) : Out :=
  .next (match s.ctl.op with
    | some (.thermalThrottle q) => if s.quadrantWarm q then s.setThrottle q true else s
    | _ => s)

/-- TCOL_HOT_CLEAR (R23, R24). -/
def execTcolHotClear (s : State) : Out :=
  .next (match s.ctl.op with
    | some (.tcolHotClear c v) =>
      let old := ((s.pkg.tcol.drop c).headD 0).toNat
      if bit v.toNat 30 && (readings old).all (fun r => decide (r < 840)) then
        { s with pkg.tcol := modAt s.pkg.tcol c (fun _ => BitVec.ofNat 32 (setBit old 30 false)) }
      else s
    | _ => s)

/-! ## Links -/

/-- A state's number in the record of R7 (log 3). -/
def linkNo (st : LinkState) : Nat :=
  match st with
  | .down => 0 | .train => 1 | .keying => 2 | .up => 3 | .drain => 4 | .refuse => 5 | .failed => 6

/-- A pair that R28 omits (R7); event is the model's number of the event (log 3). -/
def State.linkErr (s : State) (l event : Nat) : State := s.intErr (linkNo (s.link l).st) event

/-- LINKDOWN: 1 training, 2 keying. -/
def State.linkDown (s : State) (l why : Nat) : State := s.logEvent 256 (srcLink l) 0x45 none [(22, 2, srcLink l), (21, 1, why)]

/-- The timers of a link. -/
def linkTimer (l : Nat) (e : Ev) : Bool := e == .linkTrainingTimeout l || e == .linkKeyingTimeout l || e == .linkRetryTimer l

/-- A port has entered FAILED (R26, R28, R29, R87, R379): reported; traffic stops; transfers on a route over it end. -/
def State.linkFail (s : State) (l counter : Nat) : State :=
  let k := linkId l
  let s1 := (s.setLink l .failed).logEvent 256 (srcLink k) 0x46 none [(24, 8, counter), (22, 2, srcLink k)]
  let s2 := s1.unsend (fun e => match e with | .flitSend x _ => linkId x == k | _ => false)
  (s2.eng.cmds.filter (fun c => c.ports.contains k && !c.finished)).foldl (fun (s : State) c =>
    if c.world = 0x7F then s.endLaunch c.ctx 7 else s.sendAbort c.world 7) s2

/-- A key comes into force: counters 0 (R26, R28). -/
def Link.rekey (x : Link) (key : List Byte) : Link := { x with key := key, tx := 0, rx := 0, fails := 0, updating := false, replay := [], asks := [] }

/-- A flit put on the line of one end of a bridge comes in at the other. -/
def State.bridgeIn (s : State) (l : Nat) (flit : List Byte) : State :=
  match mate l with
  | some m => s.send (.flitReceive m flit)
  | none => s

/-- A flit goes out under the next counter value (R25, R26); outside UP, and under a counter that has reached 2^62, it waits at its source (R27, R29). -/
def State.flitSend (s : State) (l : Nat) (payload : List Byte) : State :=
  let x := s.link l
  if x.st = .up ∧ x.tx < 2 ^ 62 then
    let n := flitNonce x.txId x.tx
    let c := gcmCrypt x.key n payload
    let f := c ++ gcmTag x.key n [] c
    let s1 := s.updLink l (fun x => { x with tx := x.tx + 1, out := x.out ++ [f], replay := x.replay ++ [(x.tx, f)] })
    (s1.bridgeIn l f).counted l (x.tx + 1)
  else if x.st = .failed then s
  else s.wait (.flitSend l payload)

/-- FLIT_SEND. -/
def execFlitSend (s : State) : Out :=
  .next (match s.ctl.op with
    | some (.flitSend l p) => s.flitSend l p
    | _ => s)

/-- A flit comes in (R26, R28): verified under the expected counter value, delivered in UP and DRAIN, refused in REFUSE. -/
def State.flitReceive (s : State) (l : Nat) (flit : List Byte) : State :=
  let x := s.link l
  if (x.st = .up ∧ x.rx < 2 ^ 62) ∨ x.st = .drain ∨ x.st = .refuse then
    let n := flitNonce x.rxId x.rx
    let c := flit.take 240
    if gcmTag x.key n [] c = flit.drop 240 then
      if x.st = .refuse then s
      else
        let s1 := s.updLink l (fun x => { x with rx := x.rx + 1, fails := 0, inq := x.inq ++ [gcmCrypt x.key n c] })
        if x.st = .up then s1.counted l (x.rx + 1) else s1
    else
      let s1 := s.updLink l (fun x => { x with fails := x.fails + 1, asks := x.asks ++ [x.rx] })
      if x.fails + 1 ≥ 3 then s1.linkFail l x.rx
      else match mate l with
        | some m => s1.send (.flitReplay m x.rx)
        | none => s1
  else s

/-- FLIT_RECEIVE. -/
def execFlitReceive (s : State) : Out :=
  .next (match s.ctl.op with
    | some (.flitReceive l f) => s.flitReceive l f
    | _ => s)

/-- FLIT_REPLAY (R26): the same ciphertext under the same counter value. -/
def execFlitReplay (s : State) : Out :=
  .next (match s.ctl.op with
    | some (.flitReplay l n) =>
      if (s.link l).st = .up ∨ (s.link l).st = .drain then
        match tget (s.link l).replay n with
        | some f => (s.updLink l (fun x => { x with out := x.out ++ [f] })).bridgeIn l f
        | none => s
      else s
    | _ => s)

/-- A direction's counter has reached a value (R27). -/
def Link.reached (x : Link) (n : Nat) : Bool := decide (n ≤ x.tx) || decide (n ≤ x.rx)
/-- A counter of some end of a Holt port or bridge has reached a value. -/
def State.reached (s : State) (l n : Nat) : Bool :=
  (s.link l).reached n || (match mate l with | some m => (s.link m).reached n | none => false)

/-- KEY_UPDATE_START (R27). -/
def execKeyUpdateStart (s : State) : Out :=
  .next (match s.ctl.op with
    | some (.keyUpdateStart l) =>
      if (s.link l).st = .up ∧ s.reached l (2 ^ 62 - 2 ^ 32) then s.updEnds l (fun x => { x with updating := true }) else s
    | _ => s)

/-- KEY_EXPIRE (R27, R28). -/
def execKeyExpire (s : State) : Out :=
  .next (match s.ctl.op with
    | some (.keyExpire l) => if (s.link l).st = .up then (if s.reached l (2 ^ 62) then s.setLink l .drain else s) else s.linkErr l 10
    | _ => s)

/-- LINK_PEER_DETECTED (R28): 100 ms to train. -/
def execLinkPeerDetected (s : State) : Out :=
  .next (match s.ctl.op with
    | some (.linkPeerDetected l) =>
      if (s.link l).st = .down then (s.setLink l .train).after (100000 * perUs) (.linkTrainingTimeout l) else s.linkErr l 0
    | _ => s)

/-- LINK_TRAINING_COMPLETE (R28): 1 s to find a session. -/
def execLinkTrainingComplete (s : State) : Out :=
  .next (match s.ctl.op with
    | some (.linkTrainingComplete l) =>
      if (s.link l).st = .train then ((s.cancel (linkTimer l)).setLink l .keying).after (1000000 * perUs) (.linkKeyingTimeout l) else s.linkErr l 1
    | _ => s)

/-- LINK_TRAINING_TIMEOUT (R28). -/
def execLinkTrainingTimeout (s : State) : Out :=
  .next (match s.ctl.op with
    | some (.linkTrainingTimeout l) => if (s.link l).st = .train then ((s.cancel (linkTimer l)).setLink l .down).linkDown l 1 else s.linkErr l 2
    | _ => s)

/-- LINK_SESSION_ESTABLISHED (R26, R28): keys and direction identifiers installed. -/
def execLinkSessionEstablished (s : State) : Out :=
  .next (match s.ctl.op with
    | some (.linkSessionEstablished l key tx rx) =>
      if (s.link l).st = .keying ∨ (s.link l).st = .refuse then
        ((s.cancel (linkTimer l)).updEnds l (fun x => { x.rekey key with st := .up, txId := rx, rxId := tx })).updLink l (fun x => { x with txId := tx, rxId := rx })
      else s.linkErr l 3
    | _ => s)

/-- LINK_KEYING_FAIL (R28). -/
def execLinkKeyingFail (s : State) : Out :=
  .next (match s.ctl.op with
    | some (.linkKeyingFail l) => if (s.link l).st = .keying then ((s.cancel (linkTimer l)).setLink l .down).linkDown l 2 else s.linkErr l 4
    | _ => s)

/-- LINK_KEYING_TIMEOUT (R28). -/
def execLinkKeyingTimeout (s : State) : Out :=
  .next (match s.ctl.op with
    | some (.linkKeyingTimeout l) => if (s.link l).st = .keying then ((s.cancel (linkTimer l)).setLink l .down).linkDown l 2 else s.linkErr l 5
    | _ => s)

/-- LINK_SESSION_ATTEMPT_FAIL (R28): again after 1 s. -/
def execLinkSessionAttemptFail (s : State) : Out :=
  .next (match s.ctl.op with
    | some (.linkSessionAttemptFail l) =>
      if (s.link l).st = .refuse then ((s.cancel (linkTimer l)).linkDown l 2).after (1000000 * perUs) (.linkRetryTimer l) else s.linkErr l 6
    | _ => s)

/-- LINK_RETRY_TIMER (R28): the neighbours try again, and the attempt ends as a session or another failure; nothing else changes. -/
def execLinkRetryTimer (s : State) : Out :=
  .next (match s.ctl.op with
    | some (.linkRetryTimer l) => s.cancel (linkTimer l)
    | _ => s)

/-- The flits on the line of a bridge come in, in the order they were sent. -/
def State.land (s : State) (l : Nat) : State :=
  let fs := s.ctl.agenda.filter (fun e => match e with | .flitReceive k _ => decide (16 ≤ l) && linkId k == l | _ => false)
  fs.foldl (fun (s : State) e => match e with | .flitReceive k f => s.flitReceive k f | _ => s) (s.unsend (fun e => fs.contains e))

/-- KEY_UPDATE_COMPLETE (R28): in force from the next flit on; those sent before it come in under the old key, a bridge's flits that are asked for again too. -/
def execKeyUpdateComplete (s : State) : Out :=
  .next (match s.ctl.op with
    | some (.keyUpdateComplete l key) =>
      let s1 := s.land l
      if (s1.link l).st = .up then (if s1.flying l then s1.wait (.keyUpdateComplete l key) else s1.updEnds l (fun x => x.rekey key)) else s1.linkErr l 7
    | _ => s)

/-- LINK_SESSION_EXPIRE (R28). -/
def execLinkSessionExpire (s : State) : Out :=
  .next (match s.ctl.op with
    | some (.linkSessionExpire l) => if (s.link l).st = .up then s.setLink l .drain else s.linkErr l 8
    | _ => s)

/-- LINK_DRAIN_COMPLETE (R28). -/
def execLinkDrainComplete (s : State) : Out :=
  .next (match s.ctl.op with
    | some (.linkDrainComplete l) => if (s.link l).st = .drain then (if s.flying l then s.wait (.linkDrainComplete l) else s.setLink l .refuse) else s.linkErr l 9
    | _ => s)

/-- LINK_PORT_RESET (R28). -/
def execLinkPortReset (s : State) : Out :=
  .next (match s.ctl.op with
    | some (.linkPortReset l) => (s.cancel (linkTimer l)).updEnds l (fun _ => resetLink)
    | _ => s)

end Sys2Proof.Machine
end

