-- ==== Sys2Proof/Machine/Replies.lean ====
section
/-! DEFINITION. Service replies (R70, R72, R385, R387): the reply a thread receives, from a Hearth core or from a host daemon, and the registers of the tenant's host
service ring (R382 to R385). -/

namespace Sys2Proof.Machine

open Sys2Proof

/-! ## Saved gangs -/

/-- A saved gang of a context. -/
def State.savedGang (s : State) (ctx gang : Nat) : Option Saved := s.run.saved.find? (fun x => x.ctx == ctx && x.gang == gang)

/-- s with a saved gang changed. -/
def State.updSaved (s : State) (ctx gang : Nat) (f : Saved → Saved) : State :=
  { s with run.saved := s.run.saved.map (fun (x : Saved) => if x.ctx = ctx ∧ x.gang = gang then f x else x) }

/-- A saved thread is RUNNABLE, or will be at restore (R177, R387, R407). One that waits for a free fault entry (R135) or for a place in a ring (R69) is not yet
(log 73). -/
def State.willRun (s : State) (ctx : Nat) (t : Thread) : Bool :=
  match t.status with
  | .runnable => t.hold != .noEntry && t.hold != .ring
  | .svcwait => t.reply.isSome
  | .faultwait => (tget s.xl.freply (ctx, t.fid)).isSome
  | _ => false

/-- A saved group is eligible for placement (R177). -/
def State.eligible (s : State) (ctx group : Nat) : Bool :=
  s.run.saved.any (fun x => x.ctx == ctx && x.group == group && x.threads.any (fun t => s.willRun ctx t))

/-- The TCB of a saved group goes to be placed as soon as the group is eligible (R177): from then on it waits for gang slots (R173). -/
def State.placeSaved (s : State) (ctx group : Nat) : State :=
  match s.run.saved.find? (fun x => x.ctx == ctx && x.group == group) with
  | some x =>
    match s.tcb x.tcb with
    | some t =>
      if t.state ≠ 1 ∧ t.place = 96 ∧ s.eligible ctx group ∧ !s.due (fun e => e == .tcbPlace t.id) then
        (s.updTcb t.id (fun t => { t with since := if t.since = 0 then s.ctl.time else t.since })).send (.tcbPlace t.id) else s
    | none => s
  | none => s

/-- What saved threads of some groups have waited for is there; their groups go to be placed. -/
def State.wakeSaved (s : State) (p : Saved → Bool) (h : Hold) : State :=
  (s.run.saved.filter p).foldl (fun (s : State) x => s.placeSaved x.ctx x.group)
    { s with run.saved := s.run.saved.map (fun (x : Saved) =>
        if p x then { x with threads := x.threads.map (fun (t : Thread) => if t.hold = h then { t with hold := .none } else t) } else x) }

/-- A TCB waits for gang slots: it is not bound, and its group, where it has been saved, is eligible (R170, R177). -/
def State.waits (s : State) (t : TCB) : Bool :=
  match s.run.saved.find? (fun x => x.tcb == t.id) with
  | some x => t.state != 1 && s.eligible x.ctx x.group
  | none => t.state == 0

/-- Task control blocks that wait in the Reeve are looked at again: a queue or a way group has room (R80, R169). -/
def State.pokePlaces (s : State) : State :=
  s.sendAll (((s.run.tcbs.filter (fun t => t.place == 96 && s.waits t)).map (fun t => Ev.tcbPlace t.id)).filter
      (fun e => !s.due (fun x => x == e)))

/-! ## Replies -/

/-- The thread of a context's gang, bound or saved, with an SVC outstanding: its key, and whether it has a reply (R385). -/
def State.callOf (s : State) (ctx gang lane : Nat) : Option (Nat × Bool) :=
  let of (t : Thread) : Option (Nat × Bool) := if t.live then t.call.map (fun k => (k, t.reply.isSome)) else none
  match s.gangOf ctx gang with
  | some x => of (x.thread lane)
  | none => (s.savedGang ctx gang).bind (fun x => of ((x.threads.drop lane).headD emptyThread))

/-- An accepted reply goes into the thread's reply area with byte 10 cleared, and acts: at once in SVCWAIT, at the trailer before that, at restore for a saved
gang (R70, R346, R385, R387). -/
def State.acceptReply (s : State) (ctx gang lane : Nat) (reply : List Byte) : State :=
  let r := overlay reply 10 [0]
  match s.gangOf ctx gang with
  | some x =>
    ((s.devStore (x.block + 0x3000 + 32 * lane) r none).updThread x.core x.slot lane (fun t => { t with reply := some r })).tryReply x.core x.slot lane
  | none =>
    match s.savedGang ctx gang with
    | some x =>
      ((s.devStore (x.block + 0x3000 + 32 * lane) r none).updSaved ctx gang (fun x =>
        { x with threads := modAt x.threads lane (fun t => { t with reply := some r }) })).placeSaved ctx x.group
    | none => s

/-- The fields that name the caller in a reply (R70): context, gang, lane. -/
def replyTo (r : List Byte) : Nat × Nat × Nat := (fieldOf r 14 2, fieldOf r 12 2, fieldOf r 11 1)

/-- A call of the thread with the key, not answered yet. -/
def State.answers (s : State) (r : List Byte) : Bool :=
  let c := replyTo r
  match s.callOf c.1 c.2.1 c.2.2 with
  | some (k, false) => k == fieldOf r 0 8
  | _ => false

/-- SVC_REPLY (R70): the service of a Hearth core answers a caller, the instance of the caller's home core or the one that owns the object, to which the request was
forwarded (R43; log 82). A second reply to a call does nothing. -/
def execSvcReply (s : State) : Out :=
  .next (match s.ctl.op with
    | some (.svcReply h r) =>
      let c := replyTo r
      if decide (h < 48) && !s.host.halted && (s.launch c.1).isSome && !bit (s.modesOfCtx c.1) 3 && s.answers r then s.acceptReply c.1 c.2.1 c.2.2 r else s
    | _ => s)

/-- Where a Hearth core starts in the pinned image (R45, R47, R49): ENTRY of the checked header, from the body on. -/
def State.entryPc (s : State) : Nat := hostPa 0 (fieldOf s.host.flash 8 8 + 0x1000 + fieldOf s.host.header 12 4)

/-- A request entry of a Hearth core's ring. -/
def State.hreqEntry (s : State) (h i : Nat) : List Byte := s.devBytes (hreqAddr ((tget s.ten.hreqBase h).getD 0) (i % 4096)) 64

/-- HEARTH_RESTART (R45, R72): unanswered entries with key 0 are answered LOST; those with a key stay in the ring and are served again. -/
def execHearthRestart (s : State) : Out :=
  .next (match s.ctl.op with
    | some (.hearthRestart h) =>
      if s.host.halted || s.host.held then s else
      let s := s.updHearth h (fun x => x.start s.entryPc)
      let head := nget 0 s.ten.hreqHead h
      let n := (nget 0 s.ten.hreqTail h + 2 ^ 32 - head) % 2 ^ 32
      (List.range n).foldl (fun (s : State) i =>
        let e := s.hreqEntry h (head + i)
        let c := replyTo e
        if fieldOf e 0 8 = 0 ∧ s.answers e then s.acceptReply c.1 c.2.1 c.2.2 (overlay (e.take 16) 8 (leBytes 2 1) ++ zeros 16) else s) s
    | _ => s)

/-! ## The host service ring -/

/-- SVCRING_WRITE (R382): only while the tenant is OFF; EN needs SLOG from 6 to 12, and starts the indices at 0 (R383, R384). -/
def execSvcringWrite (s : State) : Out :=
  .next (match s.ctl.op with
    | some (.svcringWrite t v) =>
      if s.tState t != 0 then s
      else
        let slog := bits v.toNat 4 1
        let on := bit v.toNat 0 && decide (6 ≤ slog) && decide (slog ≤ 12)
        let r := setBit (setBits v.toNat 11 5 0) 0 on
        let s1 := { s with ten.svcring := nset 0 s.ten.svcring t r }
        if on then { s1 with ten.pidx := nset 0 s1.ten.pidx t 0, ten.cidx := nset 0 s1.ten.cidx t 0 } else s1
    | _ => s)

/-- SVCHEAD_WRITE (R384). -/
def execSvcheadWrite (s : State) : Out :=
  .next (match s.ctl.op with
    | some (.svcheadWrite port func v) =>
      if s.refuses port func then s.toHost (.completerAbort port func)
      else
        match s.tenantOf port func with
        | some t => { s with ten.cidx := nset 0 s.ten.cidx t (bits v.toNat 15 0) }.wakeSaved (fun x => s.tenantOfCtx x.ctx == t) .ring
        | none => s
    | _ => s)

/-- SVRPLY of a function: the 32 bytes staged. -/
def State.svrply (s : State) (port func : Nat) : List Byte := (tget s.ten.svrply (port, func)).getD (zeros 32)

/-- SVRPLY_WRITE (R385): aligned writes of 4 or 8 bytes; any other is ignored and logged. -/
def execSvrplyWrite (s : State) : Out :=
  .next (match s.ctl.op with
    | some (.svrplyWrite port func off width v) =>
      if s.refuses port func then s.toHost (.completerAbort port func)
      else
        if (width = 4 ∨ width = 8) ∧ off % width = 0 then
          { s with ten.svrply := tset s.ten.svrply (port, func) (overlay (s.svrply port func) (off - 0x100) (leBytes width v.toNat)) }
        else s.badReply (s.tenantOf port func) (srcPort port) off v.toNat
    | _ => s)

/-- SVRGO (R385): the staged reply is accepted for a live context of the function's tenant, a thread with an SVC outstanding and its key; else BADREPLY. -/
def execSvrgo (s : State) : Out :=
  .next (match s.ctl.op with
    | some (.svrgo port func v) =>
      if s.refuses port func then s.toHost (.completerAbort port func)
      else
        let r := s.svrply port func
        let c := replyTo r
        match s.tenantOf port func with
        | some t =>
          if (s.launch c.1).isSome && s.tenantOfCtx c.1 == t && s.answers r then s.acceptReply c.1 c.2.1 c.2.2 r
          else s.badReply (some t) (srcPort port) 0x120 v.toNat
        | none => s.badReply none (srcPort port) 0x120 v.toNat
    | _ => s)

end Sys2Proof.Machine
end

