-- ==== Sys2Proof/Machine/Host.lean ====
section
/-! DEFINITION. The host ports and the device memory they offer (R31 to R33), the bridge's half-lines (R38, R39), the Hearth cores' rings (R44) and boot (R46 to
R51). -/

namespace Sys2Proof.Machine

open Sys2Proof

/-! ## Ports and device memory -/

/-- HOST_LINK_TRAINING_COMPLETE (R31, R32): as CXL, or as a plain endpoint, whose host holds no line of device memory any more; a ROM that waits at step 3 goes on (R49). -/
def execHostLinkTrainingComplete (s : State) : Out :=
  .next (match s.ctl.op with
    | some (.hostLinkTrainingComplete port cxl rate width flits ide) =>
      let s1 := { s with host.train := modAt s.host.train port (fun _ => if cxl then 2 else 1),
                         host.phys := modAt s.host.phys port (fun _ => { rate := rate, width := width, flits := flits, ide := ide }),
                         host.lent := if cxl then s.host.lent else s.host.lent.filter (fun e => e.1 != port) }
      if port = 0 && cxl && s.host.waitCxl then s1.send .bootCxlReady else s1
    | _ => s)

/-- The field [39:28] of HDMBASE and HDMSIZE. -/
def hdmField (v : DWord) : DWord := BitVec.ofNat 64 (bits v.toNat 39 28 * 2 ^ 28)

/-- HDMBASE_WRITE (R33). -/
def execHdmbaseWrite (s : State) : Out :=
  .next (match s.ctl.op with
    | some (.hdmbaseWrite v) => if s.host.decoders.isEmpty then { s with host.hdmBase := hdmField v } else s
    | _ => s)

/-- HDMSIZE_WRITE (R33). -/
def execHdmsizeWrite (s : State) : Out :=
  .next (match s.ctl.op with
    | some (.hdmsizeWrite v) => if s.host.decoders.isEmpty then { s with host.hdmSize := hdmField v } else s
    | _ => s)

/-- HDM_DECODER_COMMIT (R33). -/
def execHdmDecoderCommit (s : State) : Out :=
  .next (match s.ctl.op with
    | some (.hdmDecoderCommit port d commit) =>
      let rest := s.host.decoders.filter (fun x => x != (port, d))
      { s with host.decoders := if commit then (port, d) :: rest else rest }
    | _ => s)

/-- The range size the device reports (R33): 0 where the registers name no range. -/
def State.hdmRange (s : State) : Nat :=
  if s.host.hdmBase.toNat + s.host.hdmSize.toNat ≤ 768 * 2 ^ 30 then s.host.hdmSize.toNat else 0

/-- A host CXL.mem request of 64 bytes (R33): homed as any access from outside a world is (R84, R95, R118). A host that has read a line may hold it until it is snooped
(R31). -/
def State.memRequest (s : State) (port addr : Nat) (write : Bool) (bytes : List Byte) : State :=
  if !s.isCxl port || decide (addr ≥ s.hdmRange) then s.toHost (.memAbort port addr)
  else
    let pa := s.host.hdmBase.toNat + addr
    let line := lineOf pa
    if write then
      let t := { blankTx 0 line (patchOf (pa % 128) bytes) with tenant := 0xFFFF }
      match s.outsider t with
      | some w => (s.sealWr (128 * line) w 0xFFFF).toHost (.memDone port addr)
      | none => (({ s with host.lent := s.host.lent.erase (port, addr / 64) }.devStoreLine pa bytes none)).toHost (.memDone port addr)
    else
      let r := s.homeRead (624 + port) 0 line 0x7F (pa % 128) 64
      match r.2 with
      | some d => { r.1 with host.lent := (port, addr / 64) :: r.1.host.lent.erase (port, addr / 64) }.toHost (.memData port addr (cut d.1 (pa % 128) 64))
      | none => r.1.wait (.cxlmemRequest port addr write bytes)

/-- CXLMEM_REQUEST. -/
def execCxlmemRequest (s : State) : Out :=
  .next (match s.ctl.op with
    | some (.cxlmemRequest port addr write bytes) => s.memRequest port addr write bytes
    | _ => s)

/-! ## The bridge -/

/-- RdShared (false) or RdOwn (true) goes out for a half, once, over a CXL port (R32, R38). -/
def State.bridgeAsk (s : State) (half : Nat) (own : Bool) : State :=
  if s.host.reqs.contains (half, own) || !s.isCxl (halfPort half) then s
  else { s with host.reqs := s.host.reqs ++ [(half, own)] }.toHost (if own then .rdOwn half else .rdShared half)

/-- BRIDGE_PACKAGE_READ (R38). -/
def execBridgePackageRead (s : State) : Out :=
  .next (match s.ctl.op with
    | some (.bridgePackageRead half) => if isHost (64 * half) && s.half half == .I then s.bridgeAsk half false else s
    | _ => s)

/-- BRIDGE_PACKAGE_STORE (R38): ownership is asked for where the half is I or S; the store's bytes are applied at once in E or M, and after the grant otherwise. -/
def execBridgePackageStore (s : State) : Out :=
  .next (match s.ctl.op with
    | some (.bridgePackageStore half off bytes) =>
      if !isHost (64 * half) then s
      else
        let s1 := if s.half half == .I || s.half half == .S then s.bridgeAsk half true else s
        if bytes.isEmpty then s1 else s1.devStoreLine (64 * half + off) bytes none
    | _ => s)

/-- BRIDGE_GRANT (R38, R39): the line has its place in its home's MSC slice first; the grant sets the half's state, and its data where the half held none. -/
def execBridgeGrant (s : State) : Out :=
  .next (match s.ctl.op with
    | some (.bridgeGrant half own excl bytes) =>
      if !s.host.reqs.contains (half, own) then s
      else
        let m := s.mscFill (half / 2)
        if !m.2 then m.1.wait (.bridgeGrant half own excl bytes)
        else
        let s1 := { m.1 with host.reqs := m.1.host.reqs.erase (half, own) }
        let s2 := if s.half half == .I then
            (List.range 8).foldl (fun (s : State) w => s.setPoison (8 * half + w) false) (s1.putBytes (64 * half) bytes) else s1
        match s.half half with
        | .I => s2.setHalf half (if own then .M else if excl then .E else .S)
        | .S => s2.setHalf half (if own then .M else .S)
        | _ => s2
    | _ => s)

/-- The stored bytes of a half. -/
def State.halfBytes (s : State) (half : Nat) : List Byte := s.bytesAt (64 * half) 64

/-- The poisoned words of a half, 0 to 7, where its data goes to the host (R409). -/
def State.halfPois (s : State) (half : Nat) : List Nat := (List.range 8).filter (fun w => s.mm.pois.contains (8 * half + w))

/-- A snoop waits for one of the halves of a line (R39). -/
def State.snoopWaits (s : State) (line : Nat) : Bool := s.ctl.waiting.any (fun e => e == Ev.hostSnpinv (2 * line) || e == Ev.hostSnpinv (2 * line + 1))

/-- BRIDGE_MSC_EVICTION (R38), once no slice holds the line (R102) and no snoop waits for it (R39): each valid half is given up. It uses a CXL port alone (R32). -/
def execBridgeMscEviction (s : State) : Out :=
  .next (match s.ctl.op with
    | some (.bridgeMscEviction line) =>
      if (s.l2Holds line && (s.due (fun e => match e with | .l2Victim _ l _ => l == line | _ => false) || s.coh.txs.any (fun t => t.inval && t.line == line))) ||
          s.snoopWaits line || !s.isCxl (halfPort (2 * line)) then s.wait (.bridgeMscEviction line)
      else if s.l2Holds line then s
      else
        [2 * line, 2 * line + 1].foldl (fun (s : State) h =>
          match s.half h with
          | .I => s
          | .S => (s.setHalf h .I).toHost (.cleanEvictNoData h)
          | .E => (s.setHalf h .I).toHost (.cleanEvict h)
          | .M => (s.setHalf h .I).toHost (.dirtyEvict h (s.halfBytes h) (s.halfPois h))) s
    | _ => s)

/-- HOST_SNPINV (R38, R39): the line leaves every L2 sharer first, then the bridge answers by the state the half holds, which nothing changes meanwhile; the line leaves the
MSC with its last half. A half in I is answered without data, and reported (R7; log 3). A pinned boot-image line keeps its data: the half alone goes to I (DESIGN
CHOICE, log 84). -/
def execHostSnpinv (s : State) : Out :=
  .next (match s.ctl.op with
    | some (.hostSnpinv half) =>
      if !s.isCxl (halfPort half) then s
      else if s.half half == .I then (s.toHost (.snpAnswer half none [])).intErr 16 16
      else if s.l2Holds (half / 2) then (s.purge (half / 2)).wait (.hostSnpinv half)
      else
        let s1 := s.setHalf half .I
        let s2 : State := if s1.half (2 * (half / 2)) == .I && s1.half (2 * (half / 2) + 1) == .I && !s.coh.pins.contains (half / 2, 0) then
          { s1 with coh.msc := s1.coh.msc.filter (fun m => m.line != half / 2) } else s1
        s2.toHost (if s.half half == .M then .snpAnswer half (some (s.halfBytes half)) (s.halfPois half) else .snpAnswer half none [])
    | _ => s)

/-- A world's ways hold a line with bytes that memory does not have. -/
def State.worldDirty (s : State) (line : Nat) : Bool := s.coh.l2.any (fun l => l.line == line && l.world != 0x7F && l.dirty)

/-- The line is sealed and written back before a snoop is answered (R82). -/
def State.giveLine (s : State) (line : Nat) (e : Ev) : State :=
  ((s.coh.l2.filter (fun l => l.line == line && l.world != 0x7F)).foldl (fun (s : State) l =>
    if s.due (fun x => x == .worldLineHandover l.slice line) then s else s.send (.worldLineHandover l.slice line)) s).wait e

/-- HOST_SNPDATA (R38). -/
def execHostSnpdata (s : State) : Out :=
  .next (match s.ctl.op with
    | some (.hostSnpdata half) =>
      if !s.isCxl (halfPort half) then s
      else if s.worldDirty (half / 2) then s.giveLine (half / 2) (.hostSnpdata half)
      else
        match s.half half with
        | .E => (s.setHalf half .S).toHost (.snpAnswer half none [])
        | .M => (s.setHalf half .S).toHost (.snpAnswer half (some (s.halfBytes half)) (s.halfPois half))
        | _ => s.toHost (.snpAnswer half none [])
    | _ => s)

/-- HOST_SNPCUR (R38). -/
def execHostSnpcur (s : State) : Out :=
  .next (match s.ctl.op with
    | some (.hostSnpcur half) =>
      if !s.isCxl (halfPort half) then s
      else if s.worldDirty (half / 2) then s.giveLine (half / 2) (.hostSnpcur half)
      else s.toHost (if s.half half == .M then .snpAnswer half (some (s.halfBytes half)) (s.halfPois half) else .snpAnswer half none [])
    | _ => s)

/-! ## The rings of the Hearth cores -/

/-- A base that a Hearth core may place a ring at (R44). -/
def State.ringBaseOk (s : State) (h v : Nat) : Bool := !s.host.ready && !s.host.halted && v % 4096 == 0 && isHbm v && homeOf v == h

/-- A write of HREQBASE (R44). -/
def State.putHreqBase (s : State) (h v : Nat) : State := if s.ringBaseOk h v then { s with ten.hreqBase := tset s.ten.hreqBase h v } else s

/-- A write of HFLTBASE (R44). -/
def State.putHfltBase (s : State) (h v : Nat) : State := if s.ringBaseOk h v then { s with ten.hfltBase := tset s.ten.hfltBase h v } else s

/-- HREQBASE_WRITE (R44). -/
def execHreqbaseWrite (s : State) : Out :=
  .next (match s.ctl.op with
    | some (.hreqbaseWrite h v) => s.putHreqBase h v.toNat
    | _ => s)

/-- HFLTBASE_WRITE (R44). -/
def execHfltbaseWrite (s : State) : Out :=
  .next (match s.ctl.op with
    | some (.hfltbaseWrite h v) => s.putHfltBase h v.toNat
    | _ => s)

/-- The machine external interrupt of a Hearth core is pending while an entry of its rings has not been passed by HEAD (R44; DESIGN CHOICE, log 82). -/
def State.extLower (s : State) (h : Nat) : State :=
  if nget 0 s.ten.hreqHead h = nget 0 s.ten.hreqTail h ∧ nget 0 s.ten.hfltHead h = nget 0 s.ten.hfltTail h then s.updHearth h (fun x => { x with ext := false }) else s

/-- A write of HREQHEAD (R44). -/
def State.putHreqHead (s : State) (h v : Nat) : State :=
  ({ s with ten.hreqHead := nset 0 s.ten.hreqHead h v }.extLower h).wakeSaved (fun x => s.hearthOf x.ctx == h) .ring

/-- A write of HFLTHEAD (R44). -/
def State.putHfltHead (s : State) (h v : Nat) : State := State.hfltDrain 1024 ({ s with ten.hfltHead := nset 0 s.ten.hfltHead h v }.extLower h) h

/-- HREQHEAD_WRITE (R44): lanes that wait for a place look again at their next turn. -/
def execHreqheadWrite (s : State) : Out :=
  .next (match s.ctl.op with
    | some (.hreqheadWrite h v) => if s.host.halted then s else s.putHreqHead h v.toNat
    | _ => s)

/-- HFLTHEAD_WRITE (R44): entries held back in the arbiter go in. -/
def execHfltheadWrite (s : State) : Out :=
  .next (match s.ctl.op with
    | some (.hfltheadWrite h v) =>
      if s.host.halted then s else s.putHfltHead h v.toNat
    | _ => s)

/-! ## Boot -/

/-- MEASi extended by a value (R48). -/
def State.extend (s : State) (i : Nat) (v : List Byte) : State := { s with host.meas := modAt s.host.meas i (fun m => sm3 (m ++ v)) }

/-- A boot step has completed (R49). -/
def State.bootStep (s : State) (n : Nat) : State := { s with host.step := n }

/-- A boot step has failed (R49): the ROM stops, the other Hearth cores stay in reset. -/
def State.bootFail (s : State) (code : Nat) : State := { s with host.fail := code, host.stopped := true, host.waitCxl := false }

/-- The ROM is at work after a step. -/
def State.romAt (s : State) (n : Nat) : Bool := s.host.step == n && !s.host.stopped

/-- The checks of step 2 on the locator (R46). -/
def locatorOk (l : List Byte) : Bool :=
  fieldOf l 0 4 == 0x4C42574B && fieldOf l 4 2 == 1 && fieldOf l 6 2 == 0 && fieldOf l 20 12 == 0

/-- BOOT_START (R49, steps 1 and 2): then 10 s for host port 0. -/
def execBootStart (s : State) : Out :=
  .next (match s.ctl.op with
    | some .bootStart =>
      if !s.romAt 0 then s
      else
        let s1 := (s.extend 0 Config.romHash).bootStep 1
        if !locatorOk s.host.flash then s1.bootFail 1
        else
          let s2 := (s1.extend 1 (sm3 s.host.flash)).bootStep 2
          let s3 := ({ s2 with host.waitCxl := true }).after (10000000 * perUs) .bootCxlTimeout
          if s.isCxl 0 then s3.send .bootCxlReady else s3
    | _ => s)

/-- BOOT_CXL_READY (R49, step 3). -/
def execBootCxlReady (s : State) : Out :=
  .next (match s.ctl.op with
    | some .bootCxlReady =>
      if s.romAt 2 && s.isCxl 0 then (({ s with host.waitCxl := false }).cancel (fun e => e == Ev.bootCxlTimeout)).bootStep 3 else s
    | _ => s)

/-- BOOT_CXL_TIMEOUT (R49, step 3). -/
def execBootCxlTimeout (s : State) : Out :=
  .next (match s.ctl.op with
    | some .bootCxlTimeout => if s.romAt 2 && s.host.waitCxl then s.bootFail 2 else s
    | _ => s)

/-- BODYLEN of a header (R47). -/
def bodyLen (h : List Byte) : Nat := fieldOf h 8 4

/-- The failure code of step 4, 0 for none (R47, R49). -/
def State.headerCode (s : State) (h : List Byte) : Nat :=
  let n := bodyLen h
  if fieldOf h 0 4 ≠ 0x4D49574B ∨ fieldOf h 4 2 ≠ 1 ∨ fieldOf h 112 80 ≠ 0 ∨ n % 128 ≠ 0 ∨ n < 128 ∨ 8 * 2 ^ 20 < n ∨ 0x1000 + n > fieldOf s.host.flash 16 4 then 3
  else if sm3 (cut h 48 64) ≠ cut s.host.flash 32 32 then 4
  else if !sm2Verify (cut h 48 64) (h.take 192) (cut h 192 64) then 5
  else if fieldOf h 6 2 < Config.minSvn then 6 else 0

/-- BOOT_HEADER_FETCHED (R49, step 4). -/
def execBootHeaderFetched (s : State) : Out :=
  .next (match s.ctl.op with
    | some (.bootHeaderFetched h) =>
      if !s.romAt 3 || !s.isCxl 0 then s
      else
        match s.headerCode h with
        | 0 => (({ s with host.header := h, host.body := bodyLen h }).extend 2 (sm3 h)).bootStep 4
        | c => s.bootFail c
    | _ => s)

/-- Where the image's body lies (R47). -/
def State.bodyAt (s : State) : Nat := hostPa 0 (fieldOf s.host.flash 8 8 + 0x1000)

/-- Lines of the image hold a body read from the shared copy, in halves the host has granted shared; they are pinned until reset (R49). -/
def State.loadImage (s : State) (body : List Byte) : State :=
  let base := s.bodyAt
  let s1 := s.putBytes base body
  let lines := (List.range (body.length / 128)).map (fun i => lineOf base + i)
  lines.foldl (fun (s : State) l =>
    let s1 := (List.range 16).foldl (fun (s : State) w => s.setPoison (16 * l + w) false) s
    let s2 := if s1.half (2 * l) = .I then s1.setHalf (2 * l) .S else s1
    let s3 := if s2.half (2 * l + 1) = .I then s2.setHalf (2 * l + 1) .S else s2
    let s3 := (s3.mscFill l).1
    if s3.coh.pins.contains (l, 0) then s3 else { s3 with coh.pins := s3.coh.pins ++ [(l, 0)] }) s1

/-- A body is the one the checked header names. -/
def State.bodyOk (s : State) (body : List Byte) : Bool := body.length == s.host.body && sm3 body == cut s.host.header 16 32

/-- BOOT_BODY_FETCHED (R49, steps 5 and 6): the Hearth cores are released at ENTRY in machine mode. -/
def execBootBodyFetched (s : State) : Out :=
  .next (match s.ctl.op with
    | some (.bootBodyFetched body) =>
      if !s.romAt 4 || !s.isCxl 0 then s
      else
        let s1 := s.loadImage (body.take s.host.body)
        if !s.bodyOk body then s1.bootFail 7
        else
          let s2 := (s1.extend 3 (cut s.host.header 16 32)).bootStep 5
          ({ s2 with host.svn := fieldOf s.host.header 6 2, host.held := false,
                     host.hearth := s2.host.hearth.map (fun (x : Hearth) => x.start s2.entryPc) }).bootStep 6
    | _ => s)

/-- MEAS_EXTEND (R48). -/
def execMeasExtend (s : State) : Out :=
  .next (match s.ctl.op with
    | some (.measExtend i v) => if s.host.ready || s.host.held || s.host.halted then s else s.extend i v
    | _ => s)

/-- FIRMWARE_READY (R49, step 7). -/
def execFirmwareReady (s : State) : Out :=
  .next (match s.ctl.op with
    | some .firmwareReady => if s.romAt 6 && !s.host.halted then ({ s with host.ready := true }).bootStep 7 else s
    | _ => s)

/-- IMAGE_LINE_UE (R51). -/
def execImageLineUe (s : State) : Out :=
  .next (match s.ctl.op with
    | some (.imageLineUe l) => if s.coh.pins.contains (l, 0) && !s.host.halted then { s with host.recov := true, host.halted := true } else s
    | _ => s)

/-- RECOVERY_RELOAD_COMPLETE (R51). The reload is over where the body differs, too: RECOV clears (DESIGN CHOICE, log 84). -/
def execRecoveryReloadComplete (s : State) : Out :=
  .next (match s.ctl.op with
    | some (.recoveryReloadComplete body) =>
      if !s.host.recov || !s.isCxl 0 then s
      else if s.bodyOk body then { s.loadImage body with host.recov := false, host.halted := false }
      else { s with host.recov := false, host.fail := 8, host.ready := false }
    | _ => s)

end Sys2Proof.Machine
end

