-- ==== Sys2Proof/Machine/Tenants.lean ====
section
/-! DEFINITION. Tenant records (R41, R52, R53), work queues and doorbells (R54 to R56, R60), and writes to the management window (R34). -/

namespace Sys2Proof.Machine

open Sys2Proof

/-! ## Tenant records -/

/-- A tenant has a queue that is not OFF. -/
def State.queuesOpen (s : State) (t : Nat) : Bool := s.ten.queues.any (fun q => q.tenant == t)

/-- A tenant has launches queued (R41): records that a queue, whatever it waits for, has not read yet. A DEAD queue drops its records (R60). -/
def State.queuedLaunch (s : State) (t : Nat) : Bool := s.ten.queues.any (fun q => q.tenant == t && q.qst != 4 && q.head != q.tail)

/-- TENANT_MODES_WRITE (R41): any write of the word is a write of MODES, of the value in force too (DEDUCED, log 86). -/
def execTenantModesWrite (s : State) : Out :=
  .next (match s.ctl.op with
    | some (.tenantModesWrite t m) =>
      if s.hasContext t || s.queuedLaunch t then s.toHost (.busy t) else s.setTrec t 0 (setBits (s.trec t 0) 19 16 m)
    | _ => s)

/-- Two ranges of queues have a queue in common. -/
def rangesMeet (b1 n1 b2 n2 : Nat) : Bool := decide (b1 < b2 + n2) && decide (b2 < b1 + n1) && n1 != 0 && n2 != 0

/-- The checks of R53 on setting a tenant ON. -/
def State.tenantOk (s : State) (t : Nat) : Bool :=
  decide (s.tQBase t + s.tQCount t ≤ 131072) && decide (s.tWinBase t < s.tWinLim t) &&
    (List.range 256).all (fun u => u == t || s.tState u != 1 ||
      (!rangesMeet (s.tQBase t) (s.tQCount t) (s.tQBase u) (s.tQCount u) && !(s.tPort u == s.tPort t && s.tFunc u == s.tFunc t)))

/-- TENANT_SET_ON (R53): BADTEN where a check fails; ignored unless OFF. -/
def execTenantSetOn (s : State) : Out :=
  .next (match s.ctl.op with
    | some (.tenantSetOn t) =>
      if s.tState t != 0 then s
      else if s.tenantOk t then s.setTState t 1
      else s.logEvent 256 2 0x40 none [(24, 8, setBits (s.trec t 0) 1 0 1), (22, 2, t)]
    | _ => s)

/-- TENANT_SET_OFF (R53): ignored while a context or an open queue is left. -/
def execTenantSetOff (s : State) : Out :=
  .next (match s.ctl.op with
    | some (.tenantSetOff t) => if s.hasContext t || s.queuesOpen t then s else s.setTState t 0
    | _ => s)

/-- A word of a tenant record with its reserved bits as 0, and STATE and MODES as they are (R52). -/
def recordWord (old w v : Nat) : Nat :=
  match w with
  | 0 => setBits (setBits (setBits (setBits (setBits (setBits 0 1 0 (bits old 1 0)) 3 3 (bits v 3 3)) 10 8 (bits v 10 8)) 19 16 (bits old 19 16))
      55 32 (bits v 55 32)) 56 56 (bits v 56 56)
  | 1 => setBits (bits v 16 0) 49 32 (bits v 49 32)
  | 2 => bits v 19 0
  | 3 => v / 2 ^ 21 * 2 ^ 21
  | 6 => setBit (v / 2 ^ 15 * 2 ^ 15) 0 (bit v 0)
  | 7 => 0
  | _ => v

/-- TENANT_RECORD_WRITE (R52): ignored while ON. -/
def execTenantRecordWrite (s : State) : Out :=
  .next (match s.ctl.op with
    | some (.tenantRecordWrite t w v) => if s.tState t = 1 then s else s.setTrec t w (recordWord (s.trec t w) w v.toNat)
    | _ => s)

/-! ## Queues -/

/-- A queue's descriptor in memory (R54). -/
def State.descAt (s : State) (q : Nat) : Nat := s.ten.qtbase.toNat + 64 * q

/-- What the device keeps of a queue, written into its descriptor: QST, TAIL, HEAD, EXPSEQ, CTLSEQ (R54). -/
def State.syncQueue (s : State) (x : Queue) (qst : Nat) : State :=
  (s.devStore (s.descAt x.q + 10) [BitVec.ofNat 8 qst] none).devStore (s.descAt x.q + 16)
    (leBytes 4 x.tail ++ leBytes 4 x.head ++ leBytes 8 x.expseq ++ leBytes 8 x.ctlseq) none

/-- s with a queue changed, and its descriptor. -/
def State.putQueue (s : State) (x : Queue) : State := (s.updQueue x.q (fun _ => x)).syncQueue x x.qst

/-- HEAD one record further: a TAIL equal to the ring's size ends the ring's last record (R55; log 20). -/
def Queue.past (q : Queue) : Nat := if q.head + 1 = q.tail then q.tail else (q.head + 1) % 2 ^ q.rlog

/-- The fields of a doorbell (R55): index, value. -/
def bellOf (v : DWord) : Nat × Nat := (bits v.toNat 16 0, bits v.toNat 63 32)

/-- BADBELL (R55, R68): in the ring of the ON tenant that the function names, else in the system ring. SOURCE is the host port at which the doorbell arrived (DESIGN CHOICE, log 86). -/
def State.badBell (s : State) (t : Option Nat) (port : Nat) (v : DWord) : State :=
  s.logTenant t (srcPort port) 0x20 2 [(24, 8, v.toNat), (16, 4, bits v.toNat 16 0)]

/-- The tenant and package queue that a doorbell names; none where it names no queue of the tenant. CMD 0 and CMD 2 also act on the queues of a DEAD tenant (R60; log 21). -/
def State.bellQueue (s : State) (tenant : Option Nat) (v : DWord) : Option (Nat × Nat) :=
  tenant.bind (fun t => if (bellOf v).1 < s.tQCount t then some (t, s.tQBase t + (bellOf v).1) else none)

/-- DOORBELL_SET_TAIL (R55, R60). -/
def execDoorbellSetTail (s : State) : Out :=
  .next (match s.ctl.op with
    | some (.doorbellSetTail port func v) =>
      if s.refuses port func then s.toHost (.completerAbort port func)
      else
        match s.bellQueue (s.tenantOfAny port func) v with
        | none => s.badBell (s.tenantOf port func) port v
        | some (_, n) =>
          match s.queue n with
          | none => s.badBell (s.tenantOf port func) port v
          | some q =>
            if (bellOf v).2 > 2 ^ q.rlog then s.badBell (s.tenantOf port func) port v
            else (s.putQueue { q with tail := (bellOf v).2 }).pokeReeve
    | _ => s)

/-- The checks of R55 on a descriptor, for a tenant. HEAD and TAIL, and bits [7:1] of QFLAGS, are not checked: R55 does not name them (DESIGN CHOICE, log 86). -/
def State.descOk (s : State) (t : Nat) (d : List Byte) : Bool :=
  let rlog := fieldOf d 8 1
  decide (fieldOf d 9 1 ≤ s.tMaxPri t) && fieldOf d 40 2 == t && decide (4 ≤ rlog) && decide (rlog ≤ 16) &&
    fieldOf d 0 8 % 2 ^ (rlog + 8) == 0 && fieldOf d 12 4 == 0 && fieldOf d 42 22 == 0

/-- A queue as its descriptor gives it (R54). -/
def queueOf (q : Nat) (d : List Byte) : Queue :=
  { q := q, tenant := fieldOf d 40 2, ctlseq := fieldOf d 32 8, expseq := fieldOf d 24 8, head := fieldOf d 20 4, tail := fieldOf d 16 4,
    secure := bit (fieldOf d 11 1) 0, qst := 1, cls := fieldOf d 9 1 % 8, rlog := fieldOf d 8 1, rbase := fieldOf d 0 8, held := false, again := false }

/-- DOORBELL_OPEN (R55, R60): the descriptor is read, once what the device has still to store in it is there (R54), checked and taken. -/
def execDoorbellOpen (s : State) : Out :=
  .next (match s.ctl.op with
    | some (.doorbellOpen port func v) =>
      if s.refuses port func then s.toHost (.completerAbort port func)
      else
        match s.bellQueue (s.tenantOf port func) v with
        | none => s.badBell (s.tenantOf port func) port v
        | some (t, n) =>
          if (s.queue n).isSome then s.badBell (some t) port v
          else
            let at_ := s.descAt n
            let r := if s.readReady at_ 64 then s.readOver at_ 64 else (s.readNeed at_ 64, false)
            if !r.2 then r.1.wait (.doorbellOpen port func v)
            else
              let d := r.1.devBytes at_ 64
              let s0 := r.1.noteRead at_
              if !s0.descOk t d then s0.badBell (some t) port v
              else ({ s0 with ten.queues := s0.ten.queues ++ [queueOf n d] }.syncQueue (queueOf n d) 1).pokeReeve
    | _ => s)

/-- DOORBELL_CLOSE (R60). -/
def execDoorbellClose (s : State) : Out :=
  .next (match s.ctl.op with
    | some (.doorbellClose port func v) =>
      if s.refuses port func then s.toHost (.completerAbort port func)
      else
        match s.bellQueue (s.tenantOfAny port func) v with
        | none => s.badBell (s.tenantOf port func) port v
        | some (_, n) =>
          match s.queue n with
          | none => s.badBell (s.tenantOf port func) port v
          | some q => { s with ten.queues := s.ten.queues.filter (fun x => x.q != n) }.syncQueue q 0
    | _ => s)

/-- DOORBELL_CMD3 (R55): ignored; an index or a function that names no queue is logged as for any doorbell. -/
def execDoorbellCmd3 (s : State) : Out :=
  .next (match s.ctl.op with
    | some (.doorbellCmd3 port func v) => if s.refuses port func then s.toHost (.completerAbort port func) else if (s.bellQueue (s.tenantOf port func) v).isSome then s else s.badBell (s.tenantOf port func) port v
    | _ => s)

/-! ## The management window -/

/-- A write to a word of a tenant record, as the events of its parts, one after the other (R52): what each does is decided when it happens. -/
def State.recordEvents (s : State) (t w : Nat) (v : DWord) : State :=
  let state : List Ev := match bits v.toNat 1 0 with | 0 => [.tenantSetOff t] | 1 => [.tenantSetOn t] | _ => []
  s.urgeAll (if w = 0 then .tenantRecordWrite t 0 v :: .tenantModesWrite t (bits v.toNat 19 16) :: state else [.tenantRecordWrite t w v])

/-- FREPLY (R139): the event of its RES; a context that cannot exist has no fault outstanding. -/
def State.freplyEvent (s : State) (v : DWord) : State :=
  let ctx := bits v.toNat 63 48
  let fid := bits v.toNat 41 32
  match bits v.toNat 1 0 with
  | 0 => if ctx < 4096 then s.urge (.freplyRetry ctx fid (some v.toNat)) else s.badReply none 2 0xC030 v.toNat
  | 1 => if ctx < 4096 then s.urge (.freplyKill ctx fid v.toNat) else s.badReply none 2 0xC030 v.toNat
  | _ => s

/-- No context has been dispatched and not completed (R171, R375). -/
def State.noContext (s : State) : Bool := s.run.launches.isEmpty

/-- A write at an offset of the management window (R34): registers whose writes are events of their own become those events. HATP and TXCTL, which software writes only in OFF
(R127), ignore a write otherwise (DESIGN CHOICE, log 101). SDVA and SDACK take a write while BUSY too, and the shootdown under way reads them as they then are (R144; DESIGN CHOICE,
log 103). -/
def State.windowWrite (s : State) (off : Nat) (v : DWord) : State :=
  let n := v.toNat
  if off = 0x8 then s.urge (.hartidWrite v)
  else if 0x1000 ≤ off ∧ off < 0x1180 then (if off % 4 = 0 then s.urge (.tcolHotClear ((off - 0x1000) / 4) (BitVec.ofNat 32 n)) else s)
  else if 0x8000 ≤ off ∧ off < 0xC000 then (if off % 8 = 0 then s.recordEvents ((off - 0x8000) / 64) (off % 64 / 8) v else s)
  else if off = 0xC000 then { s with ten.qtbase := BitVec.ofNat 64 (n / 2 ^ 23 * 2 ^ 23) }
  else if off = 0xC010 then { s with ten.wrrw := (List.range 8).map (fun i => n / 256 ^ i % 256) }.pokeReeve
  else if 0xC010 < off ∧ off < 0xC018 then { s with ten.wrrw := modAt s.ten.wrrw (off - 0xC010) (fun _ => n % 256) }.pokeReeve
  else if off = 0xC018 then { s with ten.sysevr := BitVec.ofNat 64 (setBit (n / 2 ^ 15 * 2 ^ 15) 0 (bit n 0)) }
  else if off = 0xC020 then s.urge (.dtinvWrite v)
  else if off = 0xC030 then s.freplyEvent v
  else if off = 0xC038 then s.urge (.gstepWrite v)
  else if off = 0xC040 then (if s.noContext then { s with run.savebase := BitVec.ofNat 64 (n / 2 ^ 15 * 2 ^ 15) } else s)
  else if off = 0xC048 then (if s.noContext then { s with run.savecnt := BitVec.ofNat 64 (n % 2 ^ 32) } else s)
  else if off = 0xC050 then (if s.noContext then { s with pkg.holtNode := BitVec.ofNat 32 n } else s)
  else if off = 0xC060 then s.urge (.hdmbaseWrite v)
  else if off = 0xC068 then s.urge (.hdmsizeWrite v)
  else if off = 0xC100 then { s with xl.sdva := v }
  else if off = 0xC108 then { s with xl.sdack := BitVec.ofNat 64 (bits n 51 3 * 8) }
  else if off = 0xC110 then s.urge (.shootdownStart v)
  else if off = 0xC200 then s.urge (.estselWrite v)
  else if 0xC300 ≤ off ∧ off < 0xC380 then (if off % 8 = 0 then s.urge (.placepinWrite ((off - 0xC300) / 8) v) else s)
  else if off = 0xC400 then s.urge (.nbctlWrite v)
  else if 0xC500 ≤ off ∧ off < 0xC5C0 then (if off % 8 = 0 then s.urge (.islandWrite ((off - 0xC500) / 8) v) else s)
  else if 0xD000 ≤ off ∧ off < 0xE000 then
    let t := (off - 0xD000) / 16
    if off % 16 = 8 then s.urge (.hsctlWrite t v)
    else if off % 16 = 0 ∧ !bit (nget 0 s.ten.hsctl t) 0 then { s with ten.hsring := nset 0 s.ten.hsring t (n / 2 ^ 12 * 2 ^ 12) }
    else s
  else if off = 0xE000 then s.urge (.catctlWrite v)
  else if 0xE800 ≤ off ∧ off < 0xF000 then (if off % 8 = 0 then s.urge (.svcringWrite ((off - 0xE800) / 8) v) else s)
  else if 0xF000 ≤ off then
    let t := (off - 0xF000) / 16
    if s.tState t ≠ 0 then s
    else if off % 16 = 0 then { s with ten.hatp := nset 0 s.ten.hatp t n }
    else if off % 16 = 8 then { s with ten.txctl := nset 0xA00 s.ten.txctl t (n % 2 ^ 16) }
    else s
  else s

/-- REGISTER_WRITE (R34). -/
def execRegisterWrite (s : State) : Out :=
  .next (match s.ctl.op with
    | some (.registerWrite off v) => s.windowWrite off v
    | _ => s)

/-- HARTID_WRITE (R36, R37). -/
def execHartidWrite (s : State) : Out :=
  .next (match s.ctl.op with
    | some (.hartidWrite v) =>
      if s.run.launches.any (fun l => !bit (s.tModes l.tenant) 0) then s
      else { s with host.hartid := BitVec.ofNat 32 (setBit (bits v.toNat 19 0) 31 (bit v.toNat 31)) }
    | _ => s)

/-- PLACEPIN_WRITE (R388): CORE of 384 or more leaves EN at 0. -/
def execPlacepinWrite (s : State) : Out :=
  .next (match s.ctl.op with
    | some (.placepinWrite i v) =>
      let n := v.toNat
      let w := setBit (setBits (setBits (bits n 16 0) 47 32 (bits n 47 32)) 56 48 (bits n 56 48)) 63 (bit n 63 && decide (bits n 56 48 < 384))
      { s with run.pins := modAt s.run.pins i (fun _ => BitVec.ofNat 64 w) }
    | _ => s)

end Sys2Proof.Machine
end

