-- ==== Sys2Proof/Machine/Launch.lean ====
section
/-! DEFINITION. Launch records (R57 to R63, R411): how the Reeve reads and checks them, authenticated rings (R60, R61), what rejects a record, and the dispatch of a launch
into its first task control blocks (R165 to R168, R188, R389). -/

namespace Sys2Proof.Machine

open Sys2Proof

/-! ## Records -/

/-- The fields of a launch record (R57). -/
def recordOf (b : List Byte) : LRec :=
  { kind := fieldOf b 0 1, flags := fieldOf b 1 1, maxdl := fieldOf b 3 1, codebase := fieldOf b 8 8, entry := fieldOf b 16 4, spad := fieldOf b 20 4,
    w := (List.range 6).map (fun i => fieldOf b (24 + i) 1), dom := (List.range 5).map (fun i => fieldOf b (30 + i) 1), xregs := fieldOf b 36 1,
    tiles := fieldOf b 37 1, count := fieldOf b 40 8, params := fieldOf b 48 8, compl := fieldOf b 56 8, acqs := fieldOf b 64 1, rels := fieldOf b 65 1,
    keyh := fieldOf b 72 8, kindArea := cut b 80 112, seq := fieldOf b 192 8, tag := cut b 200 16 }

/-- Every byte of an extent is 0. -/
def allZero (b : List Byte) (off n : Nat) : Bool := (cut b off n).all (fun x => x == 0)

/-- The reserved bytes and bits of a record are 0 (R57). -/
def reservedOk (b : List Byte) : Bool :=
  allZero b 2 1 && allZero b 4 4 && allZero b 35 1 && allZero b 38 2 && allZero b 66 6 && allZero b 216 40 && decide (fieldOf b 1 1 < 8) &&
    (match fieldOf b 0 1 with
     | 1 => allZero b 80 112
     | 2 => allZero b 90 102
     | 3 => allZero b 81 7 && allZero b 144 48
     | 4 => allZero b 97 95
     | _ => true)

/-- The sum of the widths. -/
def LRec.widths (r : LRec) : Nat := r.shift 6

/-- A nonzero width follows a zero width (R58). -/
def gapped : List Nat → Bool
  | [] => false
  | x :: t => (x == 0 && t.any (fun y => y != 0)) || gapped t

/-- A record that R58 rejects; secure says that its queue is authenticated. -/
def badRecord (b : List Byte) (secure : Bool) : Bool :=
  let r := recordOf b
  r.kind == 0 || decide (4 < r.kind) || !reservedOk b || decide (5 < (r.w.headD 0)) || decide (64 < r.widths) || gapped (r.w.drop 1) ||
    (r.w.headD 0 == 0 && (r.w.drop 1).any (fun x => x != 0)) ||
    (List.range 5).any (fun i => decide (r.levels < i + 1) && (r.dom.drop i).headD 0 != 0) ||
    (List.range 4).any (fun i => decide (i + 2 ≤ r.levels) && decide (r.domOf (i + 2) < r.domOf (i + 1))) ||
    r.count == 0 || decide (2 ^ r.widths < r.count) || r.maxdl == 0 || decide (15 < r.maxdl) || decide (6 < r.acqs) || decide (6 < r.rels) ||
    (bit r.flags 0 && (r.kind != 3 || decide (2 < fieldOf r.kindArea 0 1))) || decide (16 < r.tiles) || decide (1 < r.xregs) ||
    r.dom.any (fun d => decide (3 < d)) || r.spad % 128 != 0 || r.compl % 64 != 0 || (!secure && (r.seq != 0 || r.tag.any (fun x => x != 0)))

/-- An estimating record that R185 rejects. -/
def badEstimate (r : LRec) : Bool :=
  let nan (x : Nat) : Bool := bits x 62 52 == 0x7FF && bits x 51 0 != 0
  let z := r.kind8 104
  decide (2 < fieldOf r.kindArea 0 1) || bits z 62 52 == 0x7FF || (bit z 63 && bits z 62 0 != 0) || nan (r.kind8 112) ||
    (fieldOf r.kindArea 0 1 == 2 && (r.kind8 128 % 2 == 0 || r.kind8 120 % 4 != 1)) || r.kind8 136 % 64 != 0

/-- NSTAGES of a graph record. -/
def LRec.nstages (r : LRec) : Nat := fieldOf r.kindArea 8 1
/-- FIRST of a graph record. -/
def LRec.firstStage (r : LRec) : Nat := fieldOf r.kindArea 9 1
/-- STAGETAB of a graph record. -/
def LRec.stageTab (r : LRec) : Nat := r.kind8 80

/-- A stage-table entry with a field out of its range (R179). -/
def badStage (n : Nat) (e : List Byte) : Bool :=
  let mings := fieldOf e 18 1
  let qlog := fieldOf e 19 1
  let nbr := fieldOf e 16 1
  decide (qlog < 4) || decide (12 < qlog) || fieldOf e 24 8 % 2 ^ (qlog + 6) != 0 || mings == 0 || decide (128 < mings) || decide (fieldOf e 17 1 < mings) ||
    decide (4 < nbr) || (List.range nbr).any (fun j => decide (n ≤ fieldOf e (12 + j) 1)) || fieldOf e 8 4 % 128 != 0 || fieldOf e 4 4 != 0

/-! ## Resources of one group (R59) -/

/-- Gangs of the largest group of a level. -/
def LRec.gangsAt (r : LRec) (k : Nat) : Nat := min (2 ^ (r.shift k - r.shift 1)) (ceilDiv r.count (2 ^ r.shift 1))

/-- Gangs that one core can hold by slots and scratchpad. -/
def coreGangs (spad : Nat) : Nat := if spad = 0 then 32 else min 32 (262144 / spad)

/-- Gangs of the largest group that must share a core. -/
def LRec.coreUnit (r : LRec) : Nat :=
  (List.range 5).foldl (fun n i => if i + 1 ≤ r.levels ∧ r.domOf (i + 1) = 0 then max n (r.gangsAt (i + 1)) else n) 1

/-- Gangs with tiles an Anvil has registers for. -/
def anvilHolds (n tiles : Nat) : Bool := tiles == 0 || decide (n * tiles ≤ Config.anvilTiles)

/-- So many level-L groups fit on one empty cluster. -/
def LRec.clusterHolds (r : LRec) (n : Nat) : Bool :=
  let per := coreGangs r.spad / r.coreUnit
  decide (n * ceilDiv (r.gangsAt r.split) r.coreUnit ≤ 4 * per) && anvilHolds (n * r.gangsAt r.split) r.tiles

/-- The most level-L groups that one empty cluster holds. -/
def LRec.clusterMost (r : LRec) : Nat := ((List.range 129).filter (fun n => r.clusterHolds n)).foldl max 0

/-- Some level's group needs more than its domain provides (R59). -/
def LRec.tooBig (r : LRec) : Bool :=
  r.clusterMost == 0 || (List.range 5).any (fun i =>
    let k := i + 1
    decide (r.split < k) && decide (k ≤ r.levels) &&
      decide ((if r.domOf k = 2 then 32 else 96) * r.clusterMost < ceilDiv (r.gangsAt k) (r.gangsAt r.split)))

/-- A level above L has domain STACK or PACKAGE (R168). -/
def LRec.wide (r : LRec) : Bool := decide (r.split < r.levels)

/-- Save blocks a gang takes (R171). -/
def LRec.blocks (r : LRec) : Nat := 1 + ceilDiv r.tiles 2

/-- An enabled pin of a queue: group, core; the lowest-numbered pin of a group counts (R389). -/
def State.pinsOf (s : State) (q groups : Nat) : List (Nat × Nat) :=
  (s.run.pins.map (fun p => p.toNat)).foldl (fun (l : List (Nat × Nat)) p =>
    let g := bits p 47 32
    if bit p 63 && bits p 16 0 == q && decide (g < groups) && !l.any (fun x => x.1 == g) then l ++ [(g, bits p 56 48)] else l) []

/-- The highest level of a domain above L; 0 for none. -/
def LRec.topOf (r : LRec) (least most : Nat) : Nat :=
  (List.range 5).foldl (fun n i => if r.split < i + 1 ∧ i + 1 ≤ r.levels ∧ least ≤ r.domOf (i + 1) ∧ r.domOf (i + 1) ≤ most then i + 1 else n) 0

/-- The group of a level that a level-L group lies in; 0 for level 0. -/
def LRec.unitAt (r : LRec) (k g : Nat) : Nat := if k = 0 then 0 else g / 2 ^ (r.shift k - r.shift r.split)

/-- Pins that ask for two stacks within one STACK-domain group (R389). -/
def LRec.pinsClash (r : LRec) (pins : List (Nat × Nat)) : Bool :=
  let k := r.topOf 2 2
  k != 0 && pins.any (fun a => pins.any (fun b => r.unitAt k a.1 == r.unitAt k b.1 && stackOf a.2 != stackOf b.2))

/-- A launch that completes with NOSPACE (R59, R171, R188, R389). -/
def State.noSpace (s : State) (r : LRec) (q : Nat) : Bool :=
  r.tooBig || decide (s.run.savecnt.toNat < r.gangsAt r.split * r.blocks) || r.pinsClash (s.pinsOf q r.groups) ||
    (r.kind == 3 && r.wide && (List.range 5).any (fun i => decide (r.split < i + 1) && decide (i + 1 ≤ r.levels) && decide (4096 < min r.count (2 ^ r.shift (i + 1)))))

/-! ## Save blocks -/

/-- The n lowest free blocks of the pool (R171). -/
def State.freeBlocks (s : State) (n : Nat) : Option (List Nat) :=
  let base := s.run.savebase.toNat
  let free := ((List.range (min s.run.savecnt.toNat (s.run.blocks.length + n))).map (fun i => base + 32768 * i)).filter (fun b => !s.run.blocks.contains b)
  if free.length < n then none else some (free.take n)

/-! ## Task control blocks -/

/-- A TCB that is new in the Reeve, sent to be placed. -/
def State.addTcb (s : State) (t : TCB) : State :=
  let list : DWord := if t.recs.isEmpty then 0 else Config.recList s.ctl.nextId
  { s.bump with run.tcbs := s.run.tcbs ++ [{ t with id := s.ctl.nextId, reclist := list, since := s.ctl.time }] }.send (.tcbPlace s.ctl.nextId)

/-- A TCB of a kernel or an estimate: n level-L groups from first on (R166 to R168). -/
def Launch.tcb (l : Launch) (first n : Nat) (pin : Option Nat) : TCB :=
  { id := 0, ctx := l.ctx, entry := l.lrec.entry, stage := 0xFF, wtag := l.world, reclist := 0, recs := [], seqs := [], gno := first, limit := l.lrec.count,
    level := l.lrec.split, pinned := l.lrec.wide || pin.isSome, state := 0, ngrp := n, first := first, place := 96, passed := 0, pinCore := pin,
    unit := l.lrec.unitAt (l.lrec.topOf 2 3) first, stackUnit := l.lrec.unitAt (l.lrec.topOf 2 2) first, since := 0 }

/-- How many groups the next TCB covers from a group on (R167, R389): up to 16 gangs' worth, within one group of the lowest STACK or PACKAGE level, up to a pinned group. -/
def Launch.cutLength (l : Launch) (first : Nat) : Nat :=
  let r := l.lrec
  let most := max 1 (16 / 2 ^ (r.shift r.split - r.shift 1))
  let low := (List.range 5).foldl (fun n i => if n = 0 ∧ r.split < i + 1 ∧ i + 1 ≤ r.levels then i + 1 else n) 0
  let stop (i : Nat) : Bool := decide (r.groups ≤ first + i) || r.unitAt low (first + i) != r.unitAt low first || l.pins.any (fun p => p.1 == first + i)
  ((List.range most).takeWhile (fun i => !stop i)).length

/-- The TCB of a pinned group, which waits for the rest of its unit to be cut, is looked at again (R168, R389). -/
def State.pokePinned (s : State) (ctx group : Nat) : State :=
  match s.run.tcbs.find? (fun t => t.ctx == ctx && t.pinCore.isSome && t.first == group && t.place == 96) with
  | some t => if s.due (fun e => e == .tcbPlace t.id) then s else s.send (.tcbPlace t.id)
  | none => s

/-- The unit of a TCB has been cut to its end (R168). -/
def Launch.unitCut (l : Launch) (t : TCB) : Bool :=
  !l.lrec.wide || decide (l.lrec.groups ≤ l.cut) || decide (t.unit < l.lrec.unitAt (l.lrec.topOf 2 3) l.cut)

/-- The next TCB of a launch is cut; pinned groups have theirs already. By fuel, to the end of the unit whose TCBs are bound together (R168). -/
def State.cutTcbs : Nat → State → Nat → State
  | 0, s, _ => s
  | k + 1, s, ctx =>
    match s.launch ctx with
    | none => s
    | some l =>
      if !l.uncut then s
      else
        let n := l.cutLength l.cut
        if n = 0 then State.cutTcbs k ((s.updLaunch ctx (fun l => { l with cut := l.cut + 1 })).pokePinned ctx l.cut) ctx
        else
          let s1 := (s.updLaunch ctx (fun l => { l with cut := l.cut + n })).addTcb (l.tcb l.cut n none)
          let top := l.lrec.topOf 2 3
          if l.lrec.wide && l.lrec.unitAt top (l.cut + n) == l.lrec.unitAt top l.cut then State.cutTcbs k s1 ctx else s1

/-- The launch's next TCBs are cut while none of it waits in the Reeve. -/
def State.cutMore (s : State) (ctx : Nat) : State :=
  if s.run.tcbs.any (fun t => t.ctx == ctx && t.place == 96 && t.state == 0 && t.pinCore.isNone) then s else State.cutTcbs 32768 s ctx

/-! ## Completion records -/

/-- A completion record (R62), and then its COMPLETE event, with the interrupt of FLAGS bit 2; none where the record's translation must first be found. -/
def State.complete (s : State) (t q ctx : Nat) (r : LRec) (status arith : Nat) (extra : List Byte) : Option State :=
  let serial := s.ten.serial + 1
  let rec_ := leBytes 8 serial ++ leBytes 2 status ++ zeros 2 ++ leBytes 4 q ++ leBytes 8 r.seq ++ leBytes 8 arith ++ extra
  let log (s : State) : State :=
    s.logEvent t 0 1 (if bit r.flags 2 then some 0 else none) [(30, 2, ctx), (28, 2, status), (20, 8, r.seq), (16, 4, q)]
  if r.compl % 64 ≠ 0 then some (log s) else (s.reeveWrite t r.compl rec_ none).map log

/-- A launch that has taken no entry completes (R63). -/
def State.reject (s : State) (t q : Nat) (r : LRec) (status : Nat) : Option State := s.complete t q 0xFFFF r status 0 (zeros 32)

/-! ## Dispatch -/

/-- What becomes of a record: a state with the record done, dropped or dispatched; held at its head; or something must first be found. -/
inductive Taken where
  | done (s : State)
  | held (s : State)
  | wait (s : State)

/-- A rejection, once its record can be written. -/
def State.rejected (s : State) (t q : Nat) (r : LRec) (status : Nat) : Taken :=
  match s.reject t q r status with
  | some s1 => .done s1
  | none => .wait (s.reeveWriteAsk t r.compl 64)

/-- The checks of R77 on a sealed key handle. -/
def State.handleOk (s : State) (t keyh : Nat) : Bool :=
  match s.key (keyh % 256) with
  | some k =>
    bits keyh 63 32 == leNat ((hmacSm3 (Config.secret s.ctl.resets) (leBytes 4 keyh ++ leBytes 6 k.gen)).take 4).reverse &&
      bits keyh 31 24 == t && bits keyh 23 8 == k.gen % 2 ^ 16 && k.state == 1 && k.typ == 2 && s.tSecure t
  | none => false

/-- The lowest world number that is free (R78). -/
def State.freeWorld (s : State) : Option Nat := (List.range 64).find? (fun w => (tget s.ten.worlds w).isNone)

/-- The lowest context number that is free (R165). -/
def State.freeCtx (s : State) : Option Nat := (List.range 4096).find? (fun c => (s.launch c).isNone)

/-- Bytes at a virtual address over several pages: none where some page must first be found, and the inner none where one cannot be read. -/
def State.reeveSpan (s : State) (t : Nat) : Nat → Nat → Nat → Option (Option (List Byte))
  | 0, _, _ => some (some [])
  | k + 1, va, n =>
    if n = 0 then some (some [])
    else
      let m := min n (4096 - va % 4096)
      match s.reeveRead t va m with
      | none => none
      | some none => some none
      | some (some a) => (State.reeveSpan s t k (va + m) (n - m)).map (fun r => r.map (fun b => a ++ b))

/-- The pages of such an extent are asked for. -/
def State.reeveSpanAsk (t : Nat) : Nat → State → Nat → Nat → State
  | 0, s, _, _ => s
  | k + 1, s, va, n =>
    if n = 0 then s
    else
      let m := min n (4096 - va % 4096)
      State.reeveSpanAsk t k (match s.reeveRead t va m with | none => s.reeveAsk t va m | some _ => s) (va + m) (n - m)

/-- The stage table of a graph record, stage by stage (R179). -/
def State.stageTable (s : State) (t : Nat) (r : LRec) : Option (Option (List (List Byte))) :=
  (s.reeveSpan t 3 r.stageTab (32 * r.nstages)).map (fun x => x.map (fun b => (List.range r.nstages).map (fun i => cut b (32 * i) 32)))

/-- The ATTACHED record of a launch that the board was armed for (R397). -/
def State.attach (s : State) (l : Launch) : State :=
  if s.nb.armed == some l.queue && l.world == 0x7F && bit s.nb.nbctl.toNat 0 then
    ({ s with nb.armed := none, nb.heldCtx := some l.ctx }.nbRecord { code := 2, arg := l.ctx, data := l.queue }).nbStatus
  else s

/-- A graph at its start (R182): stage FIRST is activated with COUNT seeds. -/
def newGraph (stages : List (List Byte)) : GraphS :=
  { stages := stages, p := stages.map (fun _ => 0), ran := [], tail := stages.map (fun _ => 0), recs := [], wave := 0, waiting := false, picked := [], serial := 0, groups := 0, given := [] }

/-- An estimate at its start (R189, R192). -/
def newEst : EstS :=
  { p := 0, n := 0, mean := 0, m2 := 0, e := 0x7FF8000000000000, window := [], k := none, stopSerial := 0, disc := 0, cancelled := false, reached := [] }

/-- Groups of a seed TCB: level-1 groups are one gang each (R167, R179). -/
def seedCut : Nat := 16

/-- The TCB of a stage's seed threads: n of its gangs from one on, or one that is pinned (R166, R179, R389; DEDUCED, log 110). -/
def Launch.seedTcb (l : Launch) (q : GraphS) (stage seeds first n : Nat) (pin : Option Nat) : TCB :=
  { id := 0, ctx := l.ctx, entry := q.fld stage 0 4, stage := stage, wtag := l.world, reclist := 0, recs := [], seqs := [], gno := q.groups + first, limit := seeds, level := 1,
    pinned := pin.isSome, state := 0, ngrp := n, first := first, place := 96, passed := 0, pinCore := pin, unit := 0, stackUnit := 0, since := 0 }

/-- Seed gangs in runs of up to 16, which pinned ones are not part of (R167, R389): first gang and length. -/
def seedRuns (pinned : Nat → Bool) (gangs : Nat) : List (Nat × Nat) :=
  ((List.range gangs).foldl (fun (l : List (Nat × Nat)) i =>
    if pinned i then l
    else match l with
      | (f, n) :: t => if f + n = i ∧ n < seedCut then (f, n + 1) :: t else (i, 1) :: l
      | [] => [(i, 1)]) []).reverse

/-- A stage is activated with a number of seed threads (R179, R182); its pinned gangs have TCBs of their own (R389). -/
def State.activate (s : State) (ctx stage seeds : Nat) : State :=
  match s.launch ctx with
  | none => s
  | some l =>
    match l.graph with
    | none => s
    | some q =>
      let gangs := ceilDiv seeds 32
      let pins := l.pins.filter (fun p => decide (p.1 < gangs))
      let s0 := pins.foldl (fun (s : State) p => s.addTcb (l.seedTcb q stage seeds p.1 1 (some p.2))) s
      let s1 := (seedRuns (fun i => pins.any (fun p => p.1 == i)) gangs).foldl (fun (s : State) r => s.addTcb (l.seedTcb q stage seeds r.1 r.2 none)) s0
      s1.updGraph ctx (fun q => { q with groups := q.groups + gangs, ran := addSorted q.ran stage })

/-- A launch starts: its TCBs are cut, or its graph's first stage activated. -/
def State.startLaunch (s : State) (l : Launch) : State :=
  match l.graph with
  | some q =>
    let s1 := s.activate l.ctx l.lrec.firstStage l.lrec.count
    if q.stages.isEmpty then s1 else s1.after 1024 (.rebalanceTimer l.ctx)
  | none =>
    let s1 := l.pins.foldl (fun (s : State) p => s.addTcb (l.tcb p.1 1 (some p.2))) s
    State.cutTcbs 32768 s1 l.ctx

/-- A checked record takes its world number, table entry and header block and is dispatched, or is held at its head (R78, R165). -/
def State.dispatch (s : State) (q : Queue) (r : LRec) (stages : List (List Byte)) : Taken :=
  let sealed_ := bit r.flags 1
  match s.freeCtx, s.freeBlocks 1, (if sealed_ then s.freeWorld else some 0x7F) with
  | some ctx, some (hdr :: _), some world =>
    let lr : LRec := if r.kind = 2 then { r with w := [5, 0, 0, 0, 0, 0], dom := [0, 0, 0, 0, 0] } else r
    let l : Launch :=
      { ctx := ctx, tenant := q.tenant, queue := q.q, cls := q.cls, pins := s.pinsOf q.q (if r.kind = 2 then 2 ^ 16 else lr.groups), world := world, lrec := lr, hdr := hdr, arith := 0, ending := none, released := false, cut := 0,
        waitSince := s.ctl.time, graph := if r.kind = 2 then some (newGraph stages) else none, est := if r.kind = 3 then some newEst else none }
    let s1 := { s with run.launches := s.run.launches ++ [l], run.blocks := s.run.blocks ++ [hdr] }.devStore hdr (zeros 1024) none
    let s2 :=
      if sealed_ then
        let slot := r.keyh % 256
        let ways := match s1.key slot with | some k => k.ways | none => 2
        { s1 with
          ten.worlds := tset s1.ten.worlds world { ctx := ctx, slot := slot, ways := ways, phase := 0, status := 0, groups := [], failed := [] },
          ten.keys := match s1.key slot with | some k => tset s1.ten.keys slot { k with users := k.users + 1 } | none => s1.ten.keys }
      else s1
    .done (((s2.attach l).startLaunch l).after (100 * perUs) (.preemptTimer ctx))
  | _, _, _ => .held s

/-- The interface of a tenant is in RUN (R91). -/
def State.inRunState (s : State) (t : Nat) : Bool := (tget s.ten.tdi (s.tPort t, s.tFunc t)).getD 0 == 2

/-- A launch record past its queue's checks (R41, R58, R59, R77, R185, R179): rejected, completed at once, or dispatched. -/
def State.takeRecord (s : State) (q : Queue) (b : List Byte) : Taken :=
  let r := recordOf b
  let t := q.tenant
  if badRecord b q.secure || r.kind == 4 || (r.kind == 3 && badEstimate r) ||
      (r.kind == 2 && (r.nstages == 0 || decide (64 < r.nstages) || decide (r.nstages ≤ r.firstStage))) then s.rejected t q.q r 1
  else if !bit (s.tModes t) 0 && !bit s.host.hartid.toNat 31 then s.rejected t q.q r 2
  else if bit r.flags 1 && !s.handleOk t r.keyh then
    match s.reject t q.q r 1 with
    | some _ =>
      match (s.logEvent t 0 0x30 (some 3) [(24, 8, r.keyh), (16, 4, q.q)]).reject t q.q r 1 with
      | some s1 => .done s1
      | none => .wait (s.reeveWriteAsk t r.compl 64)
    | none => .wait (s.reeveWriteAsk t r.compl 64)
  else if bit r.flags 1 && !s.inRunState t then s.rejected t q.q r 6
  else if r.kind = 2 then
    match s.stageTable t r with
    | none => .wait (State.reeveSpanAsk t 3 s r.stageTab (32 * r.nstages))
    | some none => s.rejected t q.q r 1
    | some (some l) =>
      if l.any (badStage r.nstages) then s.rejected t q.q r 1
      else if 12288 < (l.map (fun e => fieldOf e 18 1)).foldl (fun a b => a + b) 0 ∨ l.any (fun e => decide (262144 < fieldOf e 8 4)) ∨
          s.run.savecnt.toNat < r.blocks ∨ !anvilHolds 1 r.tiles then
        s.rejected t q.q r 3
      else s.dispatch q r l
  else if s.noSpace r q.q then s.rejected t q.q r 3
  else s.dispatch q r []

/-- A dropped record is logged (R60, R68). -/
def State.dropLog (s : State) (q : Queue) (code seq : Nat) : State := s.logEvent q.tenant 0 code (some 2) [(24, 8, seq), (16, 4, q.q)]

/-- The tag of a record on a secured queue verifies (R60). -/
def State.tagOk (s : State) (q : Queue) (b : List Byte) : Bool :=
  match s.key (s.tRingKey q.tenant) with
  | some k => k.state == 1 && k.typ == 1 && gcmTag k.key (leBytes 4 q.q ++ cut b 192 8) (b.take 200) [] == cut b 200 16
  | none => false

/-- HEAD moves past a record. -/
def State.pastRecord (s : State) (q : Queue) : State := (s.putQueue { q with head := q.past, held := false, again := false }).pokeReeve

/-- A launch taken from a class counts in its round (R56), one that is rejected with a status too (DESIGN CHOICE, log 86); a dropped record does not. -/
def State.countTaken (s : State) : State := { s with ten.wrrUsed := s.ten.wrrUsed + 1 }

/-- What a record's fate does to its queue; again is the message that looks at the record once more. -/
def settleRecord (q : Queue) (x : Taken) (again : Ev) : State :=
  match x with
  | .done s1 => (s1.countTaken).pastRecord q
  | .held s1 => (s1.putQueue { q with held := true, again := false }).pokeReeve
  | .wait s1 => s1.wait again

/-- A record that is not a control record with a valid tag, on its queue (R60): by the state table on a secured queue. -/
def State.launchRecord (s : State) (q : Queue) (b : List Byte) (again : Ev) : State :=
  let seq := fieldOf b 192 8
  if q.qst = 4 then s.pastRecord q
  else if !q.secure then settleRecord q (s.takeRecord q b) again
  else if !s.tagOk q b then (s.dropLog q 0x21 seq).pastRecord q
  else if q.qst ≠ 1 then (s.dropLog q 0x24 seq).pastRecord q
  else if seq < q.expseq then (s.dropLog q 0x22 seq).pastRecord q
  else if seq > q.expseq then (s.dropLog q 0x23 seq).pastRecord { q with qst := 2 }
  else if seq = 2 ^ 64 - 1 then (s.dropLog q 0x25 seq).pastRecord { q with qst := 3 }
  else
    match s.takeRecord q b with
    | .done s1 => (s1.countTaken).pastRecord { q with expseq := q.expseq + 1 }
    | x => settleRecord q x again

/-- A control record with a valid tag (R60, R61). -/
def State.controlRecord (s : State) (q : Queue) (b : List Byte) : State :=
  let ctlnum := fieldOf b 88 8
  let newseq := fieldOf b 80 8
  let newkey := fieldOf b 96 1
  if q.qst = 4 then s.pastRecord q
  else if ctlnum > q.ctlseq then
    let s1 := if newkey = 0xFF then s else s.setTrec q.tenant 0 (setBits (s.trec q.tenant 0) 39 32 newkey)
    (s1.logEvent q.tenant 0 0x26 (some 2) [(24, 8, newseq), (20, 4, ctlnum), (16, 4, q.q)]).pastRecord
      { q with qst := 1, ctlseq := ctlnum, expseq := newseq }
  else (s.dropLog q (if q.qst = 1 then 0x22 else 0x24) (fieldOf b 192 8)).pastRecord q

/-- Where a queue's next record lies. -/
def Queue.recordVa (q : Queue) : Nat := q.rbase + 256 * (q.head % 2 ^ q.rlog)

/-- A record that the Reeve cannot take at all: poisoned (R411), or where it cannot be read (log 13). -/
def State.lostRecord (s : State) (q : Queue) : State :=
  (s.logEvent q.tenant 0 1 none [(30, 2, 0xFFFF), (28, 2, 1), (20, 8, 0), (16, 4, q.q)]).pastRecord q

/-- Some 64-bit word of an extent is poisoned, as a read by the device finds it: through aliases, too (R409). -/
def State.extentPois (s : State) (pa n : Nat) : Bool :=
  (linesOf pa n).any (fun l => (s.outLine l).2.any (fun w => decide (pa < 128 * l + 8 * w + 8) && decide (128 * l + 8 * w < pa + n)))

/-- The record at a queue's head, read and given to f; again is the message that comes back while it cannot be read yet. A DEAD queue drops its records unread and logs
nothing (R60), a poisoned one too (DESIGN CHOICE, log 86). -/
def State.readRecord (s : State) (n : Nat) (again : Ev) (f : State → Queue → List Byte → State) : State :=
  match s.queue n with
  | none => s.pokeReeve
  | some q =>
    if q.head == q.tail then s.pokeReeve
    else if q.qst = 4 then s.pastRecord q
    else
      match s.reeveXl q.tenant q.recordVa 4, s.reeveRead q.tenant q.recordVa 256 with
      | .ok pa _, some (some b) =>
        let r := s.readOver pa 256
        if !r.2 then r.1.wait again else if r.1.extentPois pa 256 then r.1.lostRecord q else f r.1 q b
      | .fault w _ _, _ => (s.dropWalk w).lostRecord q
      | _, _ => (s.reeveAsk q.tenant q.recordVa 256).wait again

/-- The record at a head is a control record with a valid tag. -/
def State.isControl (s : State) (q : Queue) (b : List Byte) : Bool := q.secure && fieldOf b 0 1 == 4 && s.tagOk q b

/-- LAUNCH_RECORD (R60): a record that proves to be a control record is left to CONTROL_RECORD. -/
def execLaunchRecord (s : State) : Out :=
  .next (match s.ctl.op with
    | some (.launchRecord n) =>
      s.readRecord n (.launchRecord n) (fun s q b =>
        if q.held then s.pokeReeve else if s.isControl q b then s.urge (.controlRecord n) else s.launchRecord q b (.launchRecord n))
    | _ => s)

/-- CONTROL_RECORD (R60, R61). -/
def execControlRecord (s : State) : Out :=
  .next (match s.ctl.op with
    | some (.controlRecord n) => s.readRecord n (.controlRecord n) (fun s q b => if s.isControl q b then s.controlRecord q b else s.launchRecord q b (.launchRecord n))
    | _ => s)

/-- QUEUE_HEAD_RETRY (R78, R165): a held record is read and checked again, its tag under the RINGKEY then in force (DESIGN CHOICE, log 98). -/
def execQueueHeadRetry (s : State) : Out :=
  .next (match s.ctl.op with
    | some (.queueHeadRetry n) =>
      if s.headHeld n then s.readRecord n (.queueHeadRetry n) (fun s q b => s.launchRecord q b (.queueHeadRetry n)) else s.pokeReeve
    | _ => s)

end Sys2Proof.Machine
end

