-- ==== Sys2Proof/Machine/Ending.lean ====
section
/-! DEFINITION. Key slots (R73 to R76), the end of a launch (R62, R192), protected worlds at their end (R88 to R90, R123), TDISP interfaces (R91) and heartbeats (R92). -/

namespace Sys2Proof.Machine

open Sys2Proof

/-! ## Key slots -/

/-- A sealed key handle (R75). -/
def mkHandle (secret : List Byte) (tenant gen slot : Nat) : Nat :=
  let low := tenant * 2 ^ 24 + gen % 2 ^ 16 * 2 ^ 8 + slot
  leNat ((hmacSm3 secret (leBytes 4 low ++ leBytes 6 gen)).take 4).reverse * 2 ^ 32 + low

/-- A session's function, by its tenant (R74). -/
def State.sessionOf (s : State) (t : Nat) : Option (Nat × Nat) := (s.ten.sess.find? (fun e => s.tenantOfAny e.1.1 e.1.2 == some t)).map (fun e => e.1)

/-- A response of R74. -/
def keyResponse (op status handle : Nat) : List Byte := leBytes 1 op ++ leBytes 1 status ++ zeros 6 ++ leBytes 8 handle

/-- A slot's entry. -/
def State.slot (s : State) (n : Nat) : KeySlot := (s.key n).getD { state := 0, tenant := 0, keyid := 0, typ := 0, ways := 0, gen := 0, users := 0, key := [] }
/-- s with a slot's entry. -/
def State.setSlot (s : State) (n : Nat) (k : KeySlot) : State := { s with ten.keys := tset s.ten.keys n k }
/-- A slot zeroised: its key overwritten with zeros, EMPTY; its generation stays (R76). -/
def KeySlot.zeroise (k : KeySlot) : KeySlot := { k with state := 0, key := zeros k.key.length }

/-- A KEY_INSTALL that keeps the layout of R74. -/
def installOk (p : List Byte) : Bool :=
  let typ := fieldOf p 1 1
  let ways := fieldOf p 2 1
  fieldOf p 0 1 == 1 && fieldOf p 3 1 == 0 && fieldOf p 8 8 == 0 &&
    ((typ == 1 && ways == 0 && p.length == 48) || (typ == 2 && (ways == 2 || ways == 4 || ways == 8) && p.length == 112))

/-- KEY_INSTALL (R74 to R76): only within a session of the tenant. -/
def execKeyInstall (s : State) : Out :=
  .next (match s.ctl.op with
    | some (.keyInstall t p) =>
      match s.sessionOf t with
      | none => s
      | some (port, func) =>
        if !installOk p then s.toHost (.keyReply port func (keyResponse (fieldOf p 0 1) 2 0))
        else
          match (List.range 256).find? (fun n => (s.slot n).state == 0) with
          | none => s.toHost (.keyReply port func (keyResponse 1 1 0))
          | some n =>
            let gen := (s.slot n).gen + 1
            let k : KeySlot := { state := 1, tenant := t, keyid := fieldOf p 4 4, typ := fieldOf p 1 1, ways := fieldOf p 2 1, gen := gen, users := 0, key := p.drop 16 }
            (s.setSlot n k).toHost (.keyReply port func (keyResponse 1 0 (mkHandle (Config.secret s.ctl.resets) t gen n)))
    | _ => s)

/-- What a KEY_REMOVE does to a slot: the answer's STATUS, and the slot after it (R76). -/
def removeSlot (secret : List Byte) (t handle : Nat) (k : KeySlot) : Nat × KeySlot :=
  if k.state = 0 ∨ handle ≠ mkHandle secret (bits handle 31 24) k.gen (handle % 256) ∨ bits handle 23 8 ≠ k.gen % 2 ^ 16 then (3, k)
  else if k.tenant ≠ t then (5, k)
  else if k.state = 2 then (4, k)
  else if k.users = 0 then (0, k.zeroise)
  else (4, { k with state := 2 })

/-- KEY_REMOVE (R74, R76). -/
def execKeyRemove (s : State) : Out :=
  .next (match s.ctl.op with
    | some (.keyRemove t p) =>
      match s.sessionOf t with
      | none => s
      | some (port, func) =>
        if fieldOf p 0 1 ≠ 2 ∨ fieldOf p 1 7 ≠ 0 ∨ p.length ≠ 16 then s.toHost (.keyReply port func (keyResponse (fieldOf p 0 1) 2 0))
        else
          let h := fieldOf p 8 8
          let r := removeSlot (Config.secret s.ctl.resets) t h (s.slot (h % 256))
          (if r.1 = 3 ∨ r.1 = 5 then s else s.setSlot (h % 256) r.2).toHost (.keyReply port func (keyResponse 2 r.1 0))
    | _ => s)

/-- A tenant's key slots are zeroised, those in use once their worlds have been scrubbed (R92). -/
def State.zeroiseSlots (s : State) (t : Nat) : State :=
  (List.range 256).foldl (fun (s : State) n =>
    let k := s.slot n
    if k.state = 0 ∨ k.tenant ≠ t then s else s.setSlot n (if k.users = 0 then k.zeroise else { k with state := 2 })) s

/-- The session of an absent tenant ends once every slot the tenant owns is zeroised (R92, steps 3 and 4). -/
def State.endSession (s : State) (t : Nat) : State :=
  match s.sessionOf t with
  | some f =>
    match tget s.ten.sess f with
    | some x =>
      if !x.ending then s
      else
        let s1 := s.zeroiseSlots t
        if (List.range 256).any (fun n => (s1.slot n).state != 0 && (s1.slot n).tenant == t) then s1 else { s1 with ten.sess := tdel s1.ten.sess f }
    | none => s
  | none => s

/-- A slot loses one user; a slot on its way out is zeroised with the last, and an absent tenant's session may then end (R76, R92). -/
def State.dropUser (s : State) (n : Nat) : State :=
  let k := s.slot n
  let u := k.users - 1
  (s.setSlot n (if k.state = 2 ∧ u = 0 then { k with users := 0 }.zeroise else { k with users := u })).endSession k.tenant

/-! ## The end of a launch -/

/-- K, n, mean and M2 of an estimate at its end (R192). -/
def EstS.final (e : EstS) : List Byte := leBytes 8 (e.k.getD e.p) ++ leBytes 8 e.n ++ leBytes 8 e.mean ++ leBytes 8 e.m2

/-- The result block (R192). -/
def EstS.result (e : EstS) : List Byte :=
  e.final ++ leBytes 8 e.e ++ leBytes 8 e.stopSerial ++ leBytes 8 e.disc ++ leBytes 8 ((if e.k.isSome then 1 else 0) + (if e.cancelled then 2 else 0))

/-- A held launch is over: ENDED, and the attachment with its breakpoints and watchpoints (R397, R404). -/
def State.endAttach (s : State) (ctx status : Nat) : State :=
  if s.nb.heldCtx == some ctx then
    ({ s with nb.heldCtx := none, nb.bps := [], nb.wps := [], nb.halted := [], nb.halting := [], nb.steps := [] }.nbRecord { code := 6, stat := status, arg := ctx }).nbStatus
  else s

/-- A message that a context's end makes void. -/
def ofCtx (ctx : Nat) (e : Ev) : Bool :=
  match e with
  | .preemptTimer c => c == ctx
  | .partialGangTimer c _ => c == ctx
  | .rebalanceTimer c => c == ctx
  | .waveEnd c => c == ctx
  | .gstepWaveTimer c _ => c == ctx
  | .watchdogExpire c => c == ctx
  | .graphGangForm c _ => c == ctx
  | .contributionArrive c _ => c == ctx
  | .stopArrive c _ => c == ctx
  | .faultEntryWaitFree c => c == ctx
  | .preemptSave c _ => c == ctx
  | .groupRestore c _ => c == ctx
  | .gangPark c _ => c == ctx
  | .launchComplete c => c == ctx
  | _ => false

/-- A completed launch leaves the launch table; held records look again (R78, R165). -/
def State.forget (s : State) (l : Launch) (status : Nat) : State :=
  let s1 := (s.cancel (ofCtx l.ctx)).unsend (ofCtx l.ctx)
  let s2 := { s1.releaseBlocks l.world [l.hdr] with
    run.launches := s1.run.launches.filter (fun x => x.ctx != l.ctx),
    run.tcbs := s1.run.tcbs.filter (fun t => t.ctx != l.ctx),
    run.saved := s1.run.saved.filter (fun x => x.ctx != l.ctx),
    run.preempts := s1.run.preempts.filter (fun p => p.1 != l.ctx),
    run.params := s1.run.params.map (fun (p : Nat × List Nat) => (p.1, p.2.filter (fun c => c != l.ctx))) }
  let s3 := { s2 with
    xl.faults := s2.xl.faults.filter (fun f => f.ctx != l.ctx),
    xl.walks := s2.xl.walks.filter (fun w => w.ctx != l.ctx),
    xl.freply := s2.xl.freply.filter (fun e => e.1.1 != l.ctx) }
  (s3.endAttach l.ctx status).retryHeld

/-- The completion record is written, COMPLETE is logged, and the entry is freed; none while the record's place must first be found. -/
def State.finish (s : State) (l : Launch) (status : Nat) : Option State :=
  let extra := match l.est with | some e => if status = 0 then e.final else zeros 32 | none => zeros 32
  (s.complete l.tenant l.queue l.ctx l.lrec status l.arith extra).map (fun s => s.forget l status)

/-- What a launch's completion record still has to find. -/
def State.askFinish (s : State) (l : Launch) : State := if l.lrec.compl % 64 = 0 then s.reeveWriteAsk l.tenant l.lrec.compl 64 else s

/-- The result block of an estimate that ends as it should is written, before the release (R192); none while its place must first be found. -/
def State.putResult (s : State) (l : Launch) : Option State :=
  match l.est with
  | some e => if l.ending.isNone ∧ l.lrec.kind8 136 ≠ 0 then s.reeveWrite l.tenant (l.lrec.kind8 136) e.result none else some s
  | none => some s

/-- The gangs of a context: core, slot. -/
def State.slotsOfCtx (s : State) (ctx : Nat) : List (Nat × Nat) := (s.core.gangs.filter (fun g => g.ctx == ctx)).map (fun g => (g.core, g.slot))

/-- Store entries and stores under way of a context's threads: the lanes that still have to be released. -/
def State.dirtyLanes (s : State) (ctx : Nat) : List (Nat × Nat × Nat) :=
  (s.slotsOfCtx ctx).flatMap (fun g => ((List.range 32).filter (fun l =>
    s.coh.sent.any (fun e => e.core == g.1 && e.slot == g.2 && e.lane == l) || !(s.txsOf g.1 g.2 l).isEmpty)).map (fun l => (g.1, g.2, l)))

/-- Gangs, commands, lists or tasks of a context are left. -/
def State.leftovers (s : State) (ctx : Nat) : Bool :=
  s.core.gangs.any (fun g => g.ctx == ctx) || s.eng.cmds.any (fun c => c.ctx == ctx) || s.eng.lists.any (fun c => c.ctx == ctx) ||
    s.eng.tasks.any (fun t => t.ctx == ctx && !t.finished) ||
    s.due (fun e => match e with | .contributionArrive c _ => c == ctx | _ => false)

/-- Releases at RELS by every lane that still has stores. -/
def State.releaseLanes (s : State) (l : Launch) : State := (s.dirtyLanes l.ctx).foldl (fun (s : State) x => s.startRelease x.1 x.2.1 x.2.2 l.lrec.rels false) s

/-- The result block, then the release at RELS (R62, R192). -/
def State.startRels (s : State) (l : Launch) : State :=
  match s.putResult l with
  | some s1 => (s1.updLaunch l.ctx (fun l => { l with released := true })).releaseLanes l
  | none => s.reeveWriteAsk l.tenant (l.lrec.kind8 136) 64

/-- What an ending launch still holds is freed as far as it is idle. -/
def State.clearUp (s : State) (ctx : Nat) : State :=
  let groups := ((s.core.gangs.filter (fun g => g.ctx == ctx)).map (fun g => g.group)).eraseDups
  let s1 := (s.slotsOfCtx ctx).foldl (fun (s : State) x => s.flushRegions x.1 x.2) s
  groups.foldl (fun (s : State) g => s.freeGroup ctx g) s1

/-- LAUNCH_COMPLETE (R62): the release, then the record; a world retires first (R88). -/
def execLaunchComplete (s : State) : Out :=
  .next (match s.ctl.op with
    | some (.launchComplete ctx) =>
      match s.launch ctx with
      | none => s
      | some l =>
        if l.ending.isNone && s.launchBusy l then s
        else if l.world ≠ 0x7F then (if s.due (fun e => e == .worldRetire l.world) then s else s.send (.worldRetire l.world))
        -- an estimate's result block comes after its last contribution and its last command (R192)
        else if !l.released && l.est.isSome && l.ending.isNone && s.leftovers ctx then (s.clearUp ctx).later (.launchComplete ctx)
        else if !l.released then (s.startRels l).later (.launchComplete ctx)
        else if s.leftovers ctx then (s.clearUp ctx).later (.launchComplete ctx)
        else
          match s.finish l (l.ending.getD 0) with
          | some s1 => s1
          | none => (s.askFinish l).later (.launchComplete ctx)
    | _ => s)

/-! ## Worlds -/

/-- s with a world changed. -/
def State.updWorld (s : State) (w : Nat) (f : World → World) : State :=
  { s with ten.worlds := match tget s.ten.worlds w with | some x => tset s.ten.worlds w (f x) | none => s.ten.worlds }

/-- Every dirty line of a world's ways is sealed and written back, once the package owns its halves (R38, R88). -/
def State.sealAll (s : State) (w : Nat) : State :=
  (s.coh.l2.filter (fun l => l.world == w && l.dirty)).foldl (fun (s : State) l =>
    if (s.unowned l.line).isEmpty then s.sealBack l else s.askHalves (s.unowned l.line) true) s

/-- Every alias entry of a world is materialised (R123). -/
def State.materialiseWorld (s : State) (w : Nat) : State :=
  (s.ali.entries.filter (fun e => e.wtag == w && !e.left.isEmpty)).foldl (fun (s : State) e => s.materialise e (aliasLines e)) s

/-- Alias entries of a world that ends abnormally are dropped; their destination bytes are poison (R123). -/
def State.dropAliases (s : State) (w : Nat) : State :=
  let gone := s.ali.entries.filter (fun e => e.wtag == w)
  let words := gone.flatMap (fun e => e.left.flatMap (fun r => (List.range ((r.1 + r.2 + 7) / 8 - r.1 / 8)).map (fun i => r.1 / 8 + i)))
  let s1 := words.foldl (fun (s : State) x => s.setPoison x true) s
  let ps := s1.ali.pieces.filter (fun p => p.entry.wtag != w)
  let kept := (s1.ali.entries.filter (fun e => e.wtag != w)).map (fun (e : Alias) => { e with holders := e.holders.filter (fun h => ps.any (fun p => p.id == h)) })
  { s1 with ali.entries := kept.filter (fun e => !e.left.isEmpty || e.hold), ali.pieces := ps }

/-- WORLD_RETIRE (R88, R123): the last TCB has ended, and every store is acknowledged; the dirty lines are sealed and written back; the entries are materialised; the release at
RELS follows, then the scrub. An ending stamped before leaves it to WORLD_ABORT (R90). -/
def execWorldRetire (s : State) : Out :=
  .next (match s.ctl.op with
    | some (.worldRetire w) =>
      match tget s.ten.worlds w with
      | none => s
      | some x =>
        if x.phase ≥ 2 || x.status ≠ 0 then s
        else
          match s.launch x.ctx with
          | none => s
          | some l =>
            if l.ending.isNone && s.launchBusy l then s
            else
              -- step 1: the stores of its threads drain into its ways
              if x.phase = 0 then ((s.updWorld w (fun x => { x with phase := 1 })).releaseLanes l).later (.worldRetire w)
              else if s.leftovers x.ctx then (s.clearUp x.ctx).later (.worldRetire w)
              else if s.coh.txs.any (fun t => t.world == w && !t.inval) || s.ali.pieces.any (fun p => p.entry.wtag == w) then s.later (.worldRetire w)
              -- step 2, and R123 between it and step 3
              else if s.coh.l2.any (fun l => l.world == w && l.dirty) then (s.sealAll w).later (.worldRetire w)
              else if s.ali.entries.any (fun e => e.wtag == w && !e.left.isEmpty) then (s.materialiseWorld w).later (.worldRetire w)
              -- steps 3 and 4
              else if !l.released then (s.startRels l).later (.worldRetire w)
              else (s.updWorld w (fun x => { x with phase := 3 })).send (.worldScrubComplete w)
    | _ => s)

/-- What a world held is zeroed and given up (R88): L2 ways, tagged L1 and Cellar lines, and lines on their way to an L1. -/
def State.scrub (s0 : State) (w : Nat) : State :=
  let s := s0.unsend (fun e => match e with | .dirReadMiss _ _ t _ => t == w | .l1FillReturn _ _ t _ _ _ _ => t == w | _ => false)
  let cells := (s.mm.ctag.filter (fun e => e.2 == w)).map (fun e => e.1)
  let s1 := { s with
    coh.l2 := s.coh.l2.filter (fun l => l.world != w),
    coh.l1 := s.coh.l1.filter (fun l => l.wtag != w),
    coh.cdir := s.coh.cdir.filter (fun e => !cells.contains e.1) }
  cells.foldl (fun (s : State) line =>
    let s1 := (List.range 16).foldl (fun (s : State) i => s.setPoison (16 * line + i) false) (s.putBytes (128 * line) (zeros 128))
    { s1 with mm.ctag := tdel s1.mm.ctag line }) s1

/-- WORLD_SCRUB_COMPLETE (R88, R89): the completion record, then the world's number and its slot's user go. -/
def execWorldScrubComplete (s : State) : Out :=
  .next (match s.ctl.op with
    | some (.worldScrubComplete w) =>
      match tget s.ten.worlds w with
      | none => s
      | some x =>
        if x.phase ≠ 3 then s
        else
          match s.launch x.ctx with
          | none => { s with ten.worlds := tdel s.ten.worlds w }
          | some l =>
            let s1 := s.scrub w
            match s1.finish l (if x.status ≠ 0 then x.status else l.ending.getD 0) with
            | some s2 => (({ s2 with ten.worlds := tdel s2.ten.worlds w }.dropUser x.slot).retryHeld).pokePlaces
            | none => (s1.askFinish l).later (.worldScrubComplete w)
    | _ => s)

/-- No thread of a context moves on: each has stopped at a yield, is parked, has ended, or waits at BAR or WAIT (R89, R174). -/
def State.allStopped (s : State) (ctx : Nat) : Bool :=
  (s.core.gangs.filter (fun g => g.ctx == ctx)).all (fun g => (List.range 32).all (fun l =>
    let t := g.thread l
    t.status != .runnable || (!t.inRun && t.stopped) ||
      s.core.issue.any (fun r => r.core == g.core && r.lanes.any (fun x => x.slot == g.slot && x.lane == l && !x.done &&
        (r.fx.any (fun f => f.waits && f.lane? == some l && r.trailer) || decide (10 ≤ r.stage)))) || (!t.inRun && (t.hold == .noEntry || s.overdue ctx t))))

/-- What is left of a world's launch goes without a release (R89). -/
def State.drop (s : State) (ctx : Nat) : State :=
  let gs := s.core.gangs.filter (fun g => g.ctx == ctx)
  let mine (core slot : Nat) : Bool := gs.any (fun g => g.core == core && g.slot == slot)
  let s1 := { s.releaseBlocks (s.worldOfCtx ctx) (gs.flatMap (fun g => g.block :: g.tblocks)) with
    core.gangs := s.core.gangs.filter (fun g => g.ctx != ctx),
    core.toks := s.core.toks.filter (fun t => t.ctx != ctx),
    core.issue := s.core.issue.filter (fun g => g.ctx != ctx),
    eng.tregs := s.eng.tregs.filter (fun t => t.ctx != ctx),
    eng.tasks := s.eng.tasks.filter (fun t => t.ctx != ctx),
    eng.cmds := s.eng.cmds.filter (fun c => c.ctx != ctx),
    eng.lists := s.eng.lists.filter (fun c => c.ctx != ctx) }
  { s1 with
    coh.sent := s1.coh.sent.filter (fun e => !mine e.core e.slot),
    coh.fwd := s1.coh.fwd.filter (fun e => !mine e.core e.slot),
    coh.rels := s1.coh.rels.filter (fun e => !mine e.core e.slot),
    coh.pins := s1.coh.pins.filter (fun p => !(s.eng.cmds.any (fun c => c.ctx == ctx && c.id + 1 == p.2))),
    run.tcbs := s1.run.tcbs.filter (fun t => t.ctx != ctx) }

/-- The stores of a world that are under way are discarded with its ways (R89). -/
def State.dropStores (s : State) (w : Nat) : State :=
  let gone := (s.coh.txs.filter (fun t => t.world == w && !t.inval)).map (fun t => t.id)
  { s with coh.txs := s.coh.txs.filter (fun t => !gone.contains t.id), coh.fwd := s.coh.fwd.filter (fun f => !gone.contains f.tx),
           coh.pins := s.coh.pins.filter (fun p => !gone.any (fun x => p.2 == x + 1)) }.unsend (fun e => match e.txOf with | some x => gone.contains x | none => false)

/-- A world starts to end abnormally: nothing new of it is placed or restored, and its threads stop at their next yield. -/
def State.abortStart (s : State) (w : Nat) (x : World) (status : Nat) : State :=
  let gone := (s.run.saved.filter (fun y => y.ctx == x.ctx)).flatMap (fun y => y.block :: y.tblocks)
  let s1 := (s.updWorld w (fun x => { x with phase := 2, status := status })).releaseBlocks w gone
  { s1 with
    run.saved := s1.run.saved.filter (fun y => y.ctx != x.ctx),
    run.tcbs := s1.run.tcbs.filter (fun t => !(t.ctx == x.ctx && t.state != 1)),
    run.preempts := s1.run.preempts.filter (fun p => p.1 != x.ctx),
    core.gangs := s1.core.gangs.map (fun (g : Gang) => if g.ctx = x.ctx then { g with preempt := true } else g) }

/-- WORLD_ABORT (R89, R90): the first ending counts; once every thread has stopped, dirty lines and entries are discarded and the scrub follows. -/
def State.worldAbort (s : State) (w status : Nat) : State :=
  match tget s.ten.worlds w with
  | none => s
  | some x =>
    let st := if x.status = 0 then status else x.status
    let x' : World := if x.phase ≤ 1 then { x with phase := 2, status := st } else x
    let s1 := if x.phase ≤ 1 then s.abortStart w x st else s
    if x.phase = 3 then s.updWorld w (fun x => if x.status = 0 then { x with status := status } else x)
    else if s1.allStopped x.ctx then
      let s2 := (((s1.endLaunch x.ctx x'.status).unsend (fun e => e == .launchComplete x.ctx)).drop x.ctx).dropStores w
      let s3 := { s2 with coh.l2 := s2.coh.l2.filter (fun l => l.world != w) }
      ((s3.dropAliases w).updWorld w (fun x => { x with phase := 3 })).send (.worldScrubComplete w)
    else s1.wait (.worldAbort w x'.status)

/-- WORLD_ABORT. -/
def execWorldAbort (s : State) : Out :=
  .next (match s.ctl.op with
    | some (.worldAbort w status) => s.worldAbort w status
    | _ => s)

/-- Every live world of a tenant ends abnormally. -/
def State.abortWorlds (s : State) (t : Nat) : State :=
  (s.ten.worlds.filter (fun e => s.tenantOfCtx e.2.ctx == t)).foldl (fun (s : State) e => s.sendAbort e.1 6) s

/-! ## TDISP -/

/-- TDISP_ENTER_RUN (R91). -/
def execTdispEnterRun (s : State) : Out :=
  .next (match s.ctl.op with
    | some (.tdispEnterRun port func) => { s with ten.tdi := tset s.ten.tdi (port, func) 2 }
    | _ => s)

/-- Reads of host memory by a tenant's threads that have not returned: poison, and discarded when they do (R91). -/
def State.poisonReads (s : State) (t : Nat) : State :=
  let hit (k : Token) (l : TLane) : Bool := l.vals.isNone && isHost l.pa && s.tenantOfCtx k.ctx == t
  let due := (s.core.toks.filter (fun k => k.lanes.any (hit k) && k.lanes.all (fun l => l.vals.isSome || hit k l))).map (fun k => k.id)
  ({ s with core.toks := s.core.toks.map (fun (k : Token) =>
      { k with lanes := k.lanes.map (fun (l : TLane) => if hit k l then { l with vals := some (List.replicate k.n memPoison) } else l) }) }).sendAll (due.map (fun i => .tokenComplete i))

/-- TDISP_LEAVE_RUN (R91): new accesses are refused (State.refuses, State.barred). An interface that no ON or DEAD tenant names concerns no tenant and has no world, and
nothing is logged for it (DESIGN CHOICE, log 86). The interface goes to ERROR (log 6), host-bound writes not yet accepted are dropped, reads are poison, and its worlds end. -/
def execTdispLeaveRun (s : State) : Out :=
  .next (match s.ctl.op with
    | some (.tdispLeaveRun port func) =>
      if (tget s.ten.tdi (port, func)).getD 0 ≠ 2 then s
      else
        let s1 := { s with ten.tdi := tset s.ten.tdi (port, func) 3 }
        match s.tenantOfAny port func with
        | none => s1
        | some t =>
          let waits (x : Tx) : Bool := x.tenant == t && isHost (128 * x.line) && !x.atHome && !x.drop
          let n := (s1.coh.txs.filter waits).length
          let s2 := { s1 with coh.txs := s1.coh.txs.map (fun (x : Tx) => if waits x then { x with drop := true, lost := true }
            else if x.tenant = t ∧ isHost (128 * x.line) ∧ x.atom.isSome then { x with lost := true } else x) }
          let s3 := s2.logEvent t (srcPort port) 0x33 (some 3) [(24, 8, n), (22, 2, port), (20, 2, func)]
          let s4 := s3.poisonReads t
          (s4.logEvent t (srcPort port) 0x34 (some 3) [(22, 2, port), (20, 2, func)]).abortWorlds t
    | _ => s)

/-! ## Heartbeats -/

/-- The heartbeat period of a tenant's sessions, in seconds (R92, R127). -/
def State.period (s : State) (t : Nat) : Nat := match bits (s.txctl t) 15 8 with | 0 => 10 | p => p

/-- The time-out of a tenant's session starts again. -/
def State.watchHeart (s : State) (t period : Nat) : State :=
  (s.cancel (fun e => e == .heartbeatTimeout t)).after (2 * period * 1000000 * perUs) (.heartbeatTimeout t)

/-- SPDM_KEY_EXCHANGE (R74, R92): the response carries the period. -/
def execSpdmKeyExchange (s : State) : Out :=
  .next (match s.ctl.op with
    | some (.spdmKeyExchange port func) =>
      match s.tenantOf port func with
      | some t => ({ s with ten.sess := tset s.ten.sess (port, func) { period := s.period t, last := s.ctl.time, ending := false } }.watchHeart t (s.period t)).toHost (.keyExchangeRsp port func (s.period t))
      | none => s
    | _ => s)

/-- HEARTBEAT_REQUEST (R92): one that comes after the time-out is ignored. -/
def execHeartbeatRequest (s : State) : Out :=
  .next (match s.ctl.op with
    | some (.heartbeatRequest t) =>
      match s.sessionOf t with
      | some f =>
        match tget s.ten.sess f with
        | some x => if x.ending then s else { s with ten.sess := tset s.ten.sess f { x with last := s.ctl.time } }.watchHeart t x.period
        | none => s
      | none => s
    | _ => s)

/-- A tenant's queues go to DEAD, open or not (R60). -/
def State.killQueues (s : State) (t : Nat) : State :=
  (List.range (s.tQCount t)).foldl (fun (s : State) i =>
    let n := s.tQBase t + i
    let s1 := match s.queue n with
      | some q => s.putQueue { q with qst := 4, held := false, again := false }
      | none =>
        let q : Queue := { queueOf n (s.bytesOwed (s.descAt n) 64) with tenant := t, qst := 4 }
        { s with ten.queues := s.ten.queues ++ [q] }.syncQueue q 4
    s1.logEvent t 0 0x27 (some 2) [(16, 4, n)]) s

/-- HEARTBEAT_TIMEOUT (R92): the tenant is absent while a launch of it is dispatched, and its session ends last; else only the session ends. -/
def execHeartbeatTimeout (s : State) : Out :=
  .next (match s.ctl.op with
    | some (.heartbeatTimeout t) =>
      match s.sessionOf t with
      | some f =>
        match tget s.ten.sess f with
        | some x =>
          if x.ending || decide (s.ctl.time < x.last + 2 * x.period * 1000000 * perUs) then s
          else if s.hasContext t then
            let s1 := (((s.killQueues t).setTState t 2).abortWorlds t).zeroiseSlots t
            ({ s1 with ten.sess := tset s1.ten.sess f { x with ending := true } }.endSession t).pokeReeve
          else { s with ten.sess := tdel s.ten.sess f }
        | none => s
      | none => s
    | _ => s)

end Sys2Proof.Machine
end

