-- ==== Sys2Proof/Machine/CoreEvents.lean ====
section
/-! DEFINITION. The events of the memory hierarchy and of the cores (05, 08, 11): fills, updates, acknowledgements, releases, soft errors, tokens, atomics,
arrivals, watchdogs and timeouts. -/

namespace Sys2Proof.Machine

open Sys2Proof

/-! ## Fills -/

/-- The line leaves the L1 as a victim: I, with a notice where it was V (R99). -/
def State.evictL1 (s : State) (l : L1Line) : State :=
  if l.frozen then s.dropL1 l.core l.line else (s.dropL1 l.core l.line).notice l.core l.line

/-- Room for a line in its set of 8 ways (R93, R99), the set of its number modulo 128 (DESIGN CHOICE, log 77): a line that no gang slot has read goes first, else the least recently
used (DESIGN CHOICE, log 10). -/
def State.roomL1 (s : State) (core line : Nat) : State :=
  let set := s.coh.l1.filter (fun l => l.core == core && l.line % 128 == line % 128)
  if set.length < 8 then s
  else
    match set.find? (fun l => l.rd == 0), set with
    | some l, _ => s.evictL1 l
    | none, l :: _ => s.evictL1 l
    | none, [] => s

/-- A line enters a core's L1 in V, as the most recently used, or the least under STREAM and NOALLOC (R325); a line of another tag at the same address goes (R81,
R99). -/
def State.installL1 (s : State) (core line tag cp : Nat) (data : List Byte) (pois : List Nat) : State :=
  let s1 := (s.dropL1 core line).roomL1 core line
  let l : L1Line :=
    { core := core, line := line, frozen := false, rd := 0, data := data, pois := pois, queue := [], recNo := 0, wtag := tag }
  { s1 with coh.l1 := if cp = 1 ∨ cp = 2 then l :: s1.coh.l1 else s1.coh.l1 ++ [l] }

/-- A token's lane waits for this line. -/
def State.awaits (s : State) (core line tag : Nat) (l : TLane) : Bool :=
  l.vals.isNone && lineOf l.pa == line && s.slotWorld core l.slot == tag

/-- The data of a line reaches the tokens that wait for it. -/
def State.feedTokens (s : State) (core line tag : Nat) (keep : Bool) (data : List Byte) (pois : List Nat) : State :=
  let ts := s.core.toks.filter (fun t => t.core == core && t.lanes.any (fun l => s.awaits core line tag l))
  ts.foldl (fun (s : State) t =>
    let hits := t.lanes.filter (fun l => s.awaits core line tag l)
    let lanes := t.lanes.map (fun (l : TLane) =>
      if s.awaits core line tag l then { l with vals := some (lineRegs t.size t.sx l.fmt (l.pa % 128) l.own data (pois ++ l.lost)) } else l)
    -- a thread that has ended meanwhile sets no RD bit: its lane's bit is clear
    let s1 := if keep then hits.foldl (fun (s : State) l => if (s.thread core l.slot l.lane).loaded then s.noteLoad core l.slot l.lane line else s) s else s
    let s2 := s1.updTok t.id (fun t => { t with lanes := lanes })
    if lanes.all (fun l => l.vals.isSome) then s2.send (.tokenComplete t.id) else s2) s

/-- L1_FILL_RETURN (R99). -/
def State.fillReturn (s : State) (core line tag cp : Nat) (keep : Bool) (data : List Byte) (pois : List Nat) : State :=
  let s1 := if keep then s.installL1 core line tag cp data pois else s
  s1.feedTokens core line tag keep data pois

/-- L1_FILL_RETURN (R99). -/
def execL1FillReturn (s : State) : Out :=
  .next (match s.ctl.op with
    | some (.l1FillReturn core line tag cp keep bytes pois) => s.fillReturn core line tag cp keep bytes pois
    | _ => s)

/-! ## The messages of the protocol -/

/-- L1_UPDATE (R99). -/
def execL1Update (s : State) : Out :=
  .next (match s.ctl.op with
    | some (.l1Update core tx) => s.l1Update core tx
    | _ => s)

/-- L1_INVALIDATION (R156). -/
def execL1Invalidation (s : State) : Out :=
  .next (match s.ctl.op with
    | some (.l1Invalidation core line tx) => s.l1Invalidation core line tx
    | _ => s)

/-- DIR_READ_MISS (R101). -/
def execDirReadMiss (s : State) : Out :=
  .next (match s.ctl.op with
    | some (.dirReadMiss core line tag cp) => s.readMiss core line tag cp
    | _ => s)

/-- DIR_STORE (R101). -/
def execDirStore (s : State) : Out :=
  .next (match s.ctl.op with
    | some (.dirStore tx) => s.dirStore faddBits tx
    | _ => s)

/-- DIR_ACK (R101). -/
def execDirAck (s : State) : Out :=
  .next (match s.ctl.op with
    | some (.dirAck tx core _) => s.dirAck tx core
    | _ => s)

/-- DIR_EVICTION_NOTICE (R101). -/
def execDirEvictionNotice (s : State) : Out :=
  .next (match s.ctl.op with
    | some (.dirEvictionNotice core line) => s.evictionNotice core line
    | _ => s)

/-- L2_VICTIM (R101). -/
def execL2Victim (s : State) : Out :=
  .next (match s.ctl.op with
    | some (.l2Victim slice line world) => s.l2Victim slice line world
    | _ => s)

/-- HOME_STORE (R103). -/
def execHomeStore (s : State) : Out :=
  .next (match s.ctl.op with
    | some (.homeStore tx) => s.homeStore faddBits tx
    | _ => s)

/-- L2_HOME_UPDATE (R103). -/
def execL2HomeUpdate (s : State) : Out :=
  .next (match s.ctl.op with
    | some (.l2HomeUpdate slice tx) => s.l2HomeUpdate slice tx
    | _ => s)

/-- HOME_ACK (R103). -/
def execHomeAck (s : State) : Out :=
  .next (match s.ctl.op with
    | some (.homeAck tx) => s.homeAck tx
    | _ => s)

/-- STORE_ACK (R150). -/
def execStoreAck (s : State) : Out :=
  .next (match s.ctl.op with
    | some (.storeAck tx level) => s.storeAck tx level
    | _ => s)

/-- MSC_VICTIM (R102). -/
def execMscVictim (s : State) : Out :=
  .next (match s.ctl.op with
    | some (.mscVictim line) => s.mscVictim line
    | _ => s)

/-- WORLD_LINE_HANDOVER (R104). -/
def execWorldLineHandover (s : State) : Out :=
  .next (match s.ctl.op with
    | some (.worldLineHandover slice line) => s.handOver slice line
    | _ => s)

/-- STORE_ENTRY_DRAIN_COMPLETE (R97). -/
def execStoreEntryDrainComplete (s : State) : Out :=
  .next (match s.ctl.op with
    | some (.storeEntryDrainComplete core slot) => s.entryDrained core slot
    | _ => s)

/-- RELEASE_COMPLETE (R153). The last release of a group whose threads have all ended frees the group (R166). -/
def execReleaseComplete (s : State) : Out :=
  .next (match s.ctl.op with
    | some (.releaseComplete rel) =>
      let s1 := s.releaseComplete rel
      match s.coh.rels.find? (fun r => r.id == rel) with
      | some r => if s1.relDone rel then s1.freeSlot r.core r.slot else s1
      | none => s1
    | _ => s)

/-! ## Soft errors (R105, R106) -/

/-- A directory's holder, for a structure of kind 2: the slice, the home (aux 96 and above), or the bank group of a Cellar line. -/
def dirSource (addr aux : Nat) : Nat := if isCellar addr then srcSlice (cellarColumn addr % 96) else if aux < 96 then srcSlice aux else srcHome (homeOf addr)

/-- The SOURCE of an error in a structure: the core, column, slice or home that holds it (R67); tile registers are the column's (R353). A Cellar bank group goes by its column
(log 27). -/
def errSource (kind addr aux : Nat) : Nat :=
  if kind ≤ 1 || kind == 3 then srcCore (aux % 384)
  else if kind = 2 then dirSource addr aux
  else if kind == 7 || kind == 8 then srcSlice (aux % 96)
  else if kind ≤ 5 then srcCore (aux / 32 % 384)
  else if kind = 6 then srcSlice (clusterOf (aux / 32 % 384))
  else if kind = 9 then srcSlice (cellarColumn addr % 96)
  else srcHome (homeOf addr)

/-- An uncorrectable error in a core's store entries or deferral buffer: the word becomes poison, in the entries, the forwarding entries and the queued updates that
hold bytes of it. -/
def State.entryError (s : State) (core pa : Nat) : State :=
  let line := lineOf pa
  let w := pa % 128 / 8
  let has (p : Patch) : Bool := p.any (fun b => b.1 / 8 == w)
  { s with
    coh.sent := s.coh.sent.map (fun (e : SEnt) => if e.core = core ∧ e.line = line ∧ has e.bytes then { e with pois := addSorted e.pois w } else e),
    coh.fwd := s.coh.fwd.map (fun (f : FwdEnt) => if f.core = core ∧ f.line = line ∧ has f.bytes then { f with pois := addSorted f.pois w } else f),
    coh.l1 := s.coh.l1.map (fun (l : L1Line) => if l.core = core ∧ l.line = line then
      { l with queue := l.queue.map (fun (u : L1Upd) => if has u.bytes then { u with pois := addSorted u.pois w } else u) } else l) }

/-- An L1 tag, an L2 tag or a directory entry is lost: the line is treated as a victim, pinned or not (R105): at its slice; for a Cellar line at the bank group, whose
directory entry goes when its sharers have been invalidated; for an MSC line without a copy in the slice at the home. -/
def State.lostTag (s : State) (slice line : Nat) : State :=
  if isCellar (128 * line) then
    let cs := dirCores (cellarColumn (128 * line) / 32) ((tget s.coh.cdir line).getD noDir)
    let id := s.ctl.nextId
    if cs.isEmpty then { s with coh.cdir := tdel s.coh.cdir line }
    else { s.bump with coh.txs := s.coh.txs ++ [{ blankTx id line [] with inval := true, own := cs }] }.sendAll
      (cs.map (fun c => .l1Invalidation c line id))
  else if s.coh.l2.any (fun l => l.slice == slice && l.line == line) then
    (s.coh.l2.filter (fun l => l.slice == slice && l.line == line)).foldl (fun (s : State) l => s.l2Inval slice line l.world) s
  else s.purge line

/-- The stores of a slice to a line that it has applied and its home has not, in the order of their messages: a refetched line holds them (R103, R105). -/
def State.owedStores (s : State) (slice line : Nat) : List Tx :=
  (s.ctl.waiting ++ s.ctl.agenda).filterMap (fun e => match e with
    | .homeStore x => (s.tx x).filter (fun t => t.slice == slice && t.line == line && !t.atHome && !t.drop)
    | _ => none)

/-- What an uncorrectable error does to a structure (R105): kind is its code in R68. For a core's structures aux gives the core, or 32 times the core plus the
gang slot; for a slice's the slice; addr is a physical address, a register (32 times its code plus the lane, operand-cache entries from 4,096), a
scratchpad offset, or 4,096 times a tile's name plus a word. -/
def State.loseData (s : State) (kind addr aux : Nat) : State :=
  let line := lineOf addr
  let core := aux / 32 % 384
  let slot := aux % 32
  match kind with
  | 0 =>
    match s.coh.l1.find? (fun l => l.core == aux && l.line == line) with
    | some l => (s.evictL1 l).send (.dirReadMiss l.core line l.wtag 0)
    | none => s
  | 1 => s.lostTag (sliceFor (stackOf (aux % 384)) line) line
  | 2 => s.lostTag aux line
  | 3 => s.entryError aux addr
  | 4 =>
    s.updGang core slot (fun g =>
      if addr < 3072 then g.setReg (addr / 32) (addr % 32) memPoison
      else if 4096 ≤ addr ∧ addr < 4352 ∧ (g.oc ((addr - 4096) / 32) (addr % 32)).isSome then
        g.setOc ((addr - 4096) / 32) (addr % 32) (some memPoison)
      else g)
  | 5 => s.updGang core slot (fun g => if addr < g.size then { g with spois := addSorted g.spois (addr / 8) } else g)
  | 6 =>
    match s.gang core slot with
    | some g =>
      let w := addr % 4096 / 2 * 2
      { s with eng.tregs := s.eng.tregs.map (fun (t : TileReg) =>
          if t.ctx = g.ctx ∧ t.gang = g.gang ∧ t.name = addr / 4096 then { t with pois := addSorted (addSorted t.pois w) (w + 1) } else t) }
    | none => s
  | 7 =>
    let h := s.homeLine line
    let d := (s.owedStores (aux % 96) line).foldl (fun (d : List Byte × List Nat) t => patchData d.1 d.2 t.bytes t.pois) (h.1, h.2.1)
    s.updL2 (aux % 96) line 0x7F (fun l => { l with data := d.1, pois := d.2 })
  | 8 =>
    match s.coh.l2.find? (fun l => l.slice == aux % 96 && l.line == line && l.world != 0x7F) with
    | some l => if l.dirty then s.integrity (srcSlice l.slice) l.world (128 * line) else s.dropWorldLine l
    | none => s
  | 9 => s.setPoison (addr / 8) true
  | _ => (List.range 16).foldl (fun (s : State) w => s.setPoison (16 * line + w) true) s

/-- SOFT_ERROR (R105, R106): corrected and logged, or refetched or marked poison; a lost line of the pinned image starts a recovery reload (R51). L1 data has parity alone, so every error there is a refetch. A
clean line of a world way, of which R105 says nothing, is dropped and logged MEMUE (DESIGN CHOICE, log 100). -/
def State.softError (s : State) (kind addr aux : Nat) (lost : Bool) : State :=
  let pa := if 4 ≤ kind ∧ kind ≤ 6 then 0 else addr
  let src := errSource kind addr aux
  if kind = 0 then (s.loseData 0 addr aux).logMemCe src 0 pa true
  else if !lost then s.logMemCe src kind pa false
  else if kind = 7 then (s.loseData 7 addr aux).logMemCe src 7 pa true
  else
    let s1 := (s.loseData kind addr aux).logMemUe src kind pa
    if 10 ≤ kind ∧ s.coh.pins.contains (lineOf addr, 0) then s1.send (.imageLineUe (lineOf addr)) else s1

/-- SOFT_ERROR (R105). -/
def execSoftError (s : State) : Out :=
  .next (match s.ctl.op with
    | some (.softError kind addr aux lost) => s.softError kind addr aux lost
    | _ => s)

/-- PATROL_SCRUB (R106): a pass rewrites what it corrects, which changes no value; the next comes in 24 hours. -/
def execPatrolScrub (s : State) : Out := .next (s.after (24 * 3600 * 1000000 * perUs) .patrolScrub)

/-! ## Page hotness -/

/-- A write of HSCTL (R109): K and SLOG change only while EN is 0; EN needs both in range. -/
def hsctlValue (old v : Nat) : Nat :=
  let c := setBits (setBits old 31 16 (bits v 31 16)) 0 0 0
  let c1 := if bit old 0 then c else setBits (setBits c 15 11 (bits v 15 11)) 10 7 (bits v 10 7)
  let ok := decide (4 ≤ bits c1 15 11) && decide (bits c1 15 11 ≤ 20) && decide (6 ≤ bits c1 10 7) && decide (bits c1 10 7 ≤ 15)
  if bit v 0 && ok then
    let c2 := if bit old 0 then c1 else setBits (setBits c1 63 48 0) 47 32 0
    setBit c2 0 true
  else c1

/-- HSCTL_WRITE (R109). -/
def execHsctlWrite (s : State) : Out :=
  .next (match s.ctl.op with
    | some (.hsctlWrite t v) =>
      let old := nget 0 s.ten.hsctl t
      let s1 : State := { s with ten.hsctl := nset 0 s.ten.hsctl t (hsctlValue old v.toNat) }
      -- a ring that starts anew takes no sample that still waits for the ring before it
      if !bit old 0 && bit (hsctlValue old v.toNat) 0 then { s1 with ten.hsWait := s1.ten.hsWait.filter (fun w => w.1 != t) } else s1
    | _ => s)

/-! ## Tokens and atomics -/

/-- A lane's results are written: lane registers, extended registers while their block is held, operand-cache entries (R203 to R206). -/
def Gang.writeResults (g : Gang) (lane dst : Nat) (vs : List PVal) : Gang :=
  ((List.range vs.length).zip vs).foldl (fun (g : Gang) e =>
    let d := dst + e.1
    if d < 64 then g.setReg d lane e.2
    else if d < 96 then (if g.xacq then g.setReg d lane e.2 else g)
    else if 104 ≤ d ∧ d < 112 then g.setOc (d - 104) lane (some e.2)
    else g) g

/-- The poison registers of a bound gang with an FID: operand code, lane, value. -/
def Gang.held (g : Gang) (fid : Nat) : List (Nat × Nat × PVal) :=
  let mine (p : PVal) : Bool := p.bad && p.kind == 0 && p.fid == fid
  (g.v.filterMap (fun e => if mine e.2 then some (e.1 / 32, e.1 % 32, e.2) else none)) ++
    (g.o.filterMap (fun e => match e.2 with
      | some p => if mine p then some (104 + e.1 / 32, e.1 % 32, p) else none
      | none => none))

/-- A refill to make: gang slot, operand code, lane, poison value. -/
abbrev Refill := Gang × Nat × Nat × PVal

/-- The registers of bound gangs still to be refilled: without a refill under way. -/
def State.refills (s : State) (ctx fid : Nat) : List Refill :=
  ((s.core.gangs.filter (fun g => g.ctx == ctx)).flatMap (fun g => (g.held fid).map (fun x => (g, x.1, x.2.1, x.2.2)))).filter (fun r =>
    !(s.core.toks.any (fun t => t.grp == refillGrp ctx fid && t.core == r.1.core && t.dst == r.2.1 &&
      t.lanes.any (fun l => l.slot == r.1.slot && l.lane == r.2.2.1))))

/-- Gangs that have been restored and hold no register still to be refilled, or written, may run (R177, R407). -/
def State.restored (s : State) (ctx : Nat) : State :=
  let fids := (s.xl.freply.filter (fun e => e.1.1 == ctx)).map (fun e => e.1.2)
  { s with core.gangs := s.core.gangs.map (fun (g : Gang) =>
      if g.ctx = ctx ∧ g.restoring then
        { g with restoring := fids.any (fun f => (s.refills ctx f).any (fun r => r.1.core == g.core && r.1.slot == g.slot)) ||
            s.core.toks.any (fun t => decide (8 ≤ t.k) && t.core == g.core && t.lanes.any (fun l => l.slot == g.slot)) }
      else g) }

/-- A slot's waiting replies are looked at, and its group is freed when nothing of it is left. -/
def State.afterToken (s : State) (core : Nat) (t : Token) : State :=
  -- a thread that awaited the token is ready from now on (R178)
  let ready (u : Thread) : Bool := !t.dead && u.status == .runnable && !u.inRun && bit u.await t.k
  let s0 := t.lanes.foldl (fun (s : State) l => s.updThread core l.slot l.lane (fun u => if ready u then { u with stamp := s.ctl.freeCtr } else u)) s
  let s0 := if 8 ≤ t.k then s0.restored t.ctx else s0
  let s1 := t.lanes.foldl (fun (s : State) l => s.tryReply core l.slot l.lane) s0
  ((List.range 32).filter (fun x => t.lanes.any (fun l => l.slot == x))).foldl (fun (s : State) x =>
    match s.gang core x with
    | some g => if g.threads.any (fun t => t.live) then s else s.freeGroup g.ctx g.group
    | none => s) s1

/-- A refill's register still holds the poison that it repairs (R140). -/
def State.toRefill (s : State) (t : Token) (l : TLane) : Bool :=
  match s.gang t.core l.slot with
  | some g => (g.held ((t.grp - 2 ^ 128) % 1024)).any (fun x => x.1 == t.dst && x.2.1 == l.lane)
  | none => false

/-- TOKEN_COMPLETE (R206): the results are written in every lane and the token frees. A refill of R140 waits for its threads' run boundary. -/
def State.tokenComplete (s : State) (id : Nat) : State :=
  match s.core.toks.find? (fun t => t.id == id) with
  | none => s
  | some t =>
    if !t.lanes.all (fun l => l.vals.isSome) then s
    else if decide (8 ≤ t.k) && !t.dead && t.lanes.any (fun l => (s.thread t.core l.slot l.lane).inRun) then s.wait (.tokenComplete id)
    else if !t.dead && t.lanes.any (fun l => s.veiled t.core l.slot l.lane (lineOf l.pa) (l.pa % 128) t.size) then s.wait (.tokenComplete id)
    else
      let s1 := if t.dead then s else
        (t.lanes.filter (fun l => !l.drop && (decide (t.k < 8) || s.toRefill t l))).foldl (fun (s : State) l => s.updGang t.core l.slot (fun g => g.writeResults l.lane t.dst (l.vals.getD []))) s
      ({ s1 with core.toks := s1.core.toks.filter (fun x => x.id != id) }).afterToken t.core t

/-- TOKEN_COMPLETE (R206). -/
def execTokenComplete (s : State) : Out :=
  .next (match s.ctl.op with
    | some (.tokenComplete id) => s.tokenComplete id
    | _ => s)

/-- The old value of an atomic, as one or two registers. -/
def atomRegs (a : AtomOp) (old : Nat) : List PVal :=
  clean (BitVec.ofNat 32 old) :: (if tyWide a.ty then [clean (BitVec.ofNat 32 (old / 2 ^ 32))] else [])

/-- The old value reaches the run that waits for it: the latch window, and D where D is of the run (R202, R203, R329). -/
def RLane.returned (l : RLane) (d : Nat) (vs : List PVal) : RLane :=
  let l1 : RLane := { l with lat := modAt l.lat 0 (fun _ => vs.headD pzero) }
  if d < 96 then l1 else ((List.range vs.length).zip vs).foldl (fun (l : RLane) e => l.put (d + e.1) e.2) l1

/-- ATOMIC_RETURN (R329): D is written, in the lane registers at once and in the run that waits. -/
def State.atomicReturn (s : State) (id : Nat) : State :=
  match s.tx id with
  | none => s
  | some t =>
    match t.atom, t.done with
    | some a, some old =>
      let vs := if t.lost then (atomRegs a old).map (fun _ => memPoison) else atomRegs a old
      let s1 := match a.dst with
        | some d => if d < 96 then s.updGang t.core t.slot (fun g => g.writeResults t.lane d vs) else s
        | none => s
      let s2 := s1.updGrp a.grp (fun g =>
        let g1 : Grp := { g with stallTx := g.stallTx.filter (fun x => x != id) }
        match a.dst with
        | some d => g1.updLane t.lane (fun l => l.returned d vs)
        | none => g1)
      (s2.updTx id (fun t => { t with done := none })).reap id
    | _, _ => s

/-- ATOMIC_RETURN (R329). -/
def execAtomicReturn (s : State) : Out :=
  .next (match s.ctl.op with
    | some (.atomicReturn id) => s.atomicReturn id
    | _ => s)

/-! ## Watchdog, arrivals, timeouts -/

/-- WATCHDOG_EXPIRE (R216): the launch ends with WATCHDOG where a thread of it has gone past its deadline; a world being ended has no watchdog (R89). -/
def State.watchdog (s : State) (ctx : Nat) : State :=
  let late := s.core.gangs.any (fun g => g.ctx == ctx && g.threads.any (fun t => t.live && s.overdue ctx t))
  let ended := match tget s.ten.worlds (s.worldOfCtx ctx) with | some w => w.phase == 2 | none => false
  if late && !ended then s.endLaunch ctx 5 else s

/-- WATCHDOG_EXPIRE (R216). -/
def execWatchdogExpire (s : State) : Out :=
  .next (match s.ctl.op with
    | some (.watchdogExpire ctx) => s.watchdog ctx
    | _ => s)

/-- A delivery of b bytes to an arrival word (R13, R220): the loop of R220 takes the target off the count as often as it goes. -/
def arriveWord (w b : Nat) : Nat :=
  let target := bits w 23 0
  let count := bits w 47 24 + b
  let r := if target = 0 then (count % 2 ^ 24, bits w 63 48) else (count % target, (bits w 63 48 + count / target) % 2 ^ 16)
  target + 2 ^ 24 * r.1 + 2 ^ 48 * r.2

/-- ARRIVAL_DELIVERY (R220): discarded where the gang's allocation has ended (R368). -/
def State.arrive (s : State) (core alloc off count : Nat) : State :=
  match s.core.gangs.find? (fun g => g.core == core && g.alloc == alloc) with
  | none => s
  | some g =>
    let r := s.fillFor g off
    if !r.2 then r.1.wait (.arrivalDelivery core alloc off count)
    else r.1.updGang core g.slot (fun g => (g.spadPut off (leBytes 8 (arriveWord (leNat (g.spadBytes off 8)) count))).noteWrite off)

/-- ARRIVAL_DELIVERY (R220). -/
def execArrivalDelivery (s : State) : Out :=
  .next (match s.ctl.op with
    | some (.arrivalDelivery core alloc off count) => s.arrive core alloc off count
    | _ => s)

/-- WAIT_TIMEOUT (R221). -/
def execWaitTimeout (s : State) : Out :=
  .next (match s.ctl.op with
    | some (.waitTimeout core slot lane serial) => s.waitTimedOut core slot lane serial
    | _ => s)

end Sys2Proof.Machine
end

