-- ==== Sys2Proof/Machine/Engines.lean ====
section
/-! DEFINITION. The request engines and collective engines at work: COPY, RLAY, MATL, GATH, SCAT, SCAT.ACC (R366 to R373), request lists (R374) and collectives
(R245, R246, R376 to R379). ENGINE_COMMAND_COMPLETE does what a command can do now and comes again until the command has completed. -/

namespace Sys2Proof.Machine

open Sys2Proof

/-! ## Completion -/

/-- b of a command (R369 to R373, R377). -/
def Cmd.delivers (c : Cmd) : Nat :=
  let k := cmdBlk c.block
  match c.opc with
  | 2 => k.dstLen
  | 4 => k.len * elemBytes k.ety
  | 5 => k.len * elemBytes k.ety
  | 6 => k.len * elemBytes k.ety
  | _ => k.len

/-- A command has completed: its arrival word is raised, its slot is free, its list goes on (R369, R374). -/
def State.cmdOver (s : State) (c : Cmd) (arrive b : Nat) : State :=
  let s1 := { s with eng.cmds := s.eng.cmds.filter (fun x => x.id != c.id), coh.pins := s.coh.pins.filter (fun p => p.2 != c.id + 1) }
  let s2 := if bit arrive 31 then s1.send (.arrivalDelivery c.core c.alloc (bits arrive 23 0) b) else s1
  match c.list with
  | some l => if s2.due (fun e => e == .cpyqEntryStart l) then s2 else s2.send (.cpyqEntryStart l)
  | none => s2

/-- Every write of the command is acknowledged (R162). -/
def State.writesDone (s : State) (c : Cmd) : Bool := c.txs.all (fun x => (s.tx x).isNone)

/-- A command whose work is done completes: with RL set once its writes are acknowledged, else at once (R162, R369). -/
def State.cmdEnd (s : State) (c : Cmd) : State :=
  if c.pieces.isEmpty && (c.rl == 7 || s.writesDone c) then s.cmdOver c (cmdBlk c.block).arrive c.delivers else s.pokeCmd c.id

/-- A command waits on a fault entry, or, with none free, tries again (R135, R368). -/
def State.cmdFault (s : State) (c : Cmd) (fid : Option Nat) (again : State → State) : State :=
  match fid with
  | some f => s.updCmd c.id (fun c => { c with fid := some f })
  | none => again s

/-! ## COPY, RLAY, MATL (R370 to R372) -/

/-- log2 of the page that a held translation comes from. -/
def heldSize (pages : List (Nat × Nat × Nat)) (va : Nat) : Nat :=
  match pages.find? (fun p => p.1 == va / 4096) with
  | some p => max 12 p.2.2
  | none => 12

/-- The cuts of a COPY: at the destination's 4 KiB granules and the source's pages; (offset, length), by fuel. -/
def copyCuts (k : CmdBlk) (pages : List (Nat × Nat × Nat)) : Nat → Nat → List (Nat × Nat)
  | 0, _ => []
  | f + 1, off =>
    if off < k.len then
      let page := 2 ^ heldSize pages (k.src + off)
      let n := min (k.len - off) (min (4096 - (k.dst + off) % 4096) (page - (k.src + off) % page))
      (off, n) :: copyCuts k pages f (off + n)
    else []

/-- COPY: pieces leave, all at once or, where the extents overlap, one at a time in the order of R370. -/
def State.copyStep (s : State) (c : Cmd) : State :=
  let k := cmdBlk c.block
  let cuts := copyCuts k c.pages (k.len / 2048 + 3) 0
  let order := if k.dst < k.src then cuts else cuts.reverse
  let send (s : State) (x : Nat × Nat) : State :=
    s.sendPiece c.id (plainAlias c.world ((heldPa c.pages (k.src + x.1)).getD 0) ((heldPa c.pages (k.dst + x.1)).getD 0) x.2)
  if c.pos ≥ cuts.length then s.cmdEnd c
  else if meet (k.src, k.len) (k.dst, k.len) then
    if c.pieces.isEmpty then (send s ((order.drop c.pos).headD (0, 0))).updCmd c.id (fun c => { c with pos := c.pos + 1 }) else s
  else (order.foldl send s).updCmd c.id (fun c => { c with pos := cuts.length })

/-- The whole destination of an RLAY as one entry over virtual addresses. -/
def rlayEntry (world : Nat) (k : CmdBlk) (sbase dbase : Nat) : Alias :=
  { plainAlias world sbase dbase k.dstLen with xform := k.xform, esz := k.esz, nrows := k.nrows, ncols := k.ncols, sstride := k.stride }

/-- The 4 KiB pieces of n bytes from an address on: (offset, length). -/
def granuleCuts (dst n : Nat) : List (Nat × Nat) :=
  (rangeGranules dst n).map (fun g => (max dst (4096 * g) - dst, min (dst + n) (4096 * g + 4096) - max dst (4096 * g)))

/-- RLAY: one entry a granule where the source lies in one page, else the whole command eagerly (R371). -/
def State.rlayStep (s : State) (c : Cmd) : State :=
  let k := cmdBlk c.block
  let size := heldSize c.pages k.src
  let cuts := granuleCuts k.dst k.dstLen
  let pa (va : Nat) : Nat := (heldPa c.pages va).getD 0
  if c.pos ≠ 0 then s.cmdEnd c
  else if k.src / 2 ^ size = (k.src + k.srcLen - 1) / 2 ^ size then
    (cuts.foldl (fun (s : State) x =>
      let e := rlayEntry c.world k (pa k.src) (pa (k.dst + x.1))
      s.sendPiece c.id { e with doff := x.1, len := x.2, left := [(pa (k.dst + x.1), x.2)] }) s).updCmd c.id (fun c => { c with pos := 1 })
  else
    let e := rlayEntry c.world k k.src k.dst
    let srcs := (List.range k.dstLen).map (fun i => pa (aliasSrc e (k.dst + i)))
    let r := s.readLines (stackOf c.core) c.world c.tenant (linesOfAll srcs)
    if r.2.2 then r.1.pokeCmd c.id
    else
      let bs := srcs.map (byteOf r.2.1)
      let s1 := cuts.foldl (fun (s : State) x =>
        let h := homeOf (pa (k.dst + x.1))
        let s1 := s.cmdStore c (pa (k.dst + x.1)) ((bs.drop x.1).take x.2)
        { s1 with ali.eager := nset 0 s1.ali.eager h (min 0xFFFF (nget 0 s1.ali.eager h + 1)) }) r.1
      (s1.updCmd c.id (fun c => { c with pos := 1 })).pokeCmd c.id

/-- MATL: every entry over the range is materialised, line by line (R372). -/
def State.matlStep (s : State) (c : Cmd) : State :=
  let k := cmdBlk c.block
  if c.pos ≠ 0 then s.cmdEnd c
  else
    let s1 := (granuleCuts k.dst k.len).foldl (fun (s : State) x =>
      (rangeLines ((heldPa c.pages (k.dst + x.1)).getD 0) x.2).foldl (fun (s : State) l => s.destWrite l) s) s
    (s1.updCmd c.id (fun c => { c with pos := 1 })).pokeCmd c.id

/-! ## GATH, SCAT, SCAT.ACC (R124, R125, R373) -/

/-- The translations of data-dependent addresses, which a command holds beside the fixed ones: log2 of their page plus 100. -/
def dataPages (pages : List (Nat × Nat × Nat)) : List (Nat × Nat × Nat) := pages.filter (fun p => decide (100 ≤ p.2.2))

/-- The bytes from an address on under held translations, as physical addresses. -/
def heldRange (pages : List (Nat × Nat × Nat)) (va n : Nat) : List Nat := (List.range n).map (fun i => (heldPa pages (va + i)).getD 0)

/-- The index list, as read. -/
def indexOf (k : CmdBlk) (bs : List (Byte × Bool)) (i : Nat) : Nat :=
  let w := if bit k.flg 3 then 8 else 4
  leNat (((bs.drop (w * i)).take w).map (fun b => b.1))

/-- The address of a data-dependent element: from SRC for GATH, from DST for the others. -/
def elemVa (opc : Nat) (k : CmdBlk) (u : Nat) : Nat := ((if opc = 4 then k.src else k.dst) + u * elemBytes k.ety) % 2 ^ 64

/-- The element addresses from the pos-th on are translated, as far as they go, by fuel (R368): the state, and the element reached. -/
def State.elemPages (opc : Nat) (k : CmdBlk) (us : Nat → Nat) (id : Nat) : Nat → State → Nat → State × Nat × Bool
  | 0, s, i => (s, i, true)
  | f + 1, s, i =>
    match s.cmd id with
    | none => (s, i, false)
    | some c =>
      let va := elemVa opc k (us i)
      let acc := if opc = 4 then 4 else 5
      if va % elemBytes k.ety ≠ 0 then
        let r := s.ownFault c.ctx va 0x0A acc (srcCore c.core)
        (match r.2 with
         | some fid => (r.1.updCmd id (fun c => { c with fid := some fid }), i, false)
         | none => (r.1.pokeCmd id, i, false))
      else if (heldPa (dataPages c.pages) va).isSome then State.elemPages opc k us id f s (i + 1)
      else
        match s.xlate (stackOf c.core) c.tenant c.ctx va acc with
        | .ok pa attr => State.elemPages opc k us id f (s.updCmd id (fun c => { c with pages := c.pages ++ [(va / 4096, pa / 4096, 100 + attr.size)] })) (i + 1)
        | .fault w _ fid => ((s.takeFaults [w]).cmdFault c fid (fun s => s.pokeCmd id), i, false)
        | .wait => ((s.needWalk (stackOf c.core) c.tenant c.ctx va acc).pokeCmd id, i, false)

/-- Source elements of a SCAT from the scratchpad, as the command took them; free where the allocation had ended by then (log 28). -/
def State.spadSource (s : State) (c : Cmd) (n : Nat) : List (Byte × Bool) :=
  if c.buf.isEmpty then (List.range n).map (fun i => ((Config.freeWord (s.ctl.freeCtr + i)).setWidth 8, false))
  else (c.buf.take n).zip ((c.buf.drop n).map (fun x => x != 0))

/-- One element from bytes. -/
def elemOf (e : Nat) (bs : List (Byte × Bool)) (i : Nat) : Nat × Bool :=
  let x := (bs.drop (e * i)).take e
  (leNat (x.map (fun b => b.1)), x.any (fun b => b.2))

/-- GATH's bytes go to the scratchpad, or nowhere where the allocation has ended (R368). -/
def State.gathSpad (s : State) (c : Cmd) (off : Nat) (bs : List (Byte × Bool)) : State :=
  match s.core.gangs.find? (fun g => g.core == c.core && g.alloc == c.alloc) with
  | none => s
  | some g =>
    s.updGang c.core g.slot (fun g =>
      let g1 := g.spadPut off (bs.map (fun b => b.1))
      let bad := ((List.range bs.length).zip bs).filterMap (fun e => if e.2.2 then some ((off + e.1) / 8) else none)
      let g2 := { g1 with spois := bad.foldl addSorted g1.spois }
      (rangeLines off bs.length).foldl (fun (g : Gang) l => g.noteWrite (128 * l)) g2)

/-- The combination of R125 over the positions that name one element, in list order. -/
def combine (fmt m : Nat) (xs : List Nat) : Nat :=
  let w := fmtBits fmt
  match intFmt fmt with
  | some _ => xs.foldl (fun a x => (a + x) % 2 ^ w) m
  | none =>
    if w = 64 then xs.foldl (fun a x => faddBits 5 a x) m
    else if w = 32 then xs.foldl (fun a x => faddBits 4 a x) m
    else (convertTo (f32Val (xs.foldl (fun a x => faddBits 4 a (unpackElem fmt x)) (unpackElem fmt m))) fmt 0 true).1

/-- One line's read-modify-write of a SCAT.ACC, in one go at its slice or bank group (R125). -/
def State.accLine (s : State) (c : Cmd) (line : Nat) (p : Patch) (bad : List Nat) : State :=
  let id := s.ctl.nextId
  let cellar := isCellar (128 * line)
  let t := { blankTx id line p with
    slot := c.id + 1, tenant := c.tenant, world := c.world, pois := bad, slice := if c.world = 0x7F ∨ cellar then 96 else sliceFor (stackOf c.core) line }
  let s1 := { s.bump with coh.txs := s.coh.txs ++ [t] }
  let s2 := s1.updCmd c.id (fun c => { c with txs := c.txs ++ [id] })
  if c.world = 0x7F && !cellar then
    let s3 := s2.homeStore faddBits id
    let dropped := match s3.tx id with | some t => t.drop | none => false
    if dropped then s3
    else { s3 with coh.l2 := s3.coh.l2.map (fun (l : L2Line) =>
      if l.line = line ∧ l.world = 0x7F then { l with data := (patchData l.data l.pois p bad).1, pois := (patchData l.data l.pois p bad).2 } else l) }
  else s2.dirStore faddBits id

/-- A line cannot be taken in one go yet: a store to it is under way or would wait at the home, its source-write steps are due (R118), or a half of host memory is missing. -/
def State.accBusy (s : State) (line : Nat) : Bool :=
  s.coh.txs.any (fun t => t.line == line && !t.atHome && !t.drop && !t.inval) || !(s.halvesMissing (128 * line) 128 true).isEmpty || s.recording line ||
    s.lineOpen line || !(s.dephHomes line).isEmpty

/-- What such a line waits for is asked for. -/
def State.accAsk (s : State) (line : Nat) : State :=
  let s1 := s.askHalves (s.halvesMissing (128 * line) 128 true) true
  if (s1.dephHomes line).isEmpty then s1 else s1.askSources line

/-- The command's slice holds every line that a world's read-modify-write is performed in. -/
def State.accHeld (s : State) (c : Cmd) (line : Nat) : Bool :=
  c.world == 0x7F || isCellar (128 * line) || (s.l2At (sliceFor (stackOf c.core) line) line c.world).isSome

/-- SCAT.ACC once every address is known: all positions of one element at once. -/
def State.scatAcc (s : State) (c : Cmd) (k : CmdBlk) (pas : List Nat) (src : List (Byte × Bool)) : State :=
  let e := elemBytes k.ety
  let lines := linesOfAll pas
  if lines.any (fun l => s.accBusy l) then
    (lines.foldl State.accAsk s).pokeCmd c.id
  else
    let r := s.readLines (stackOf c.core) c.world c.tenant lines
    if r.2.2 || !lines.all (r.1.accHeld c) then r.1.pokeCmd c.id
    else
      let pos := (List.range pas.length).zip pas
      let s1 := lines.foldl (fun (s : State) line =>
        let elems := (pas.filter (fun pa => lineOf pa == line)).eraseDups
        let new := elems.map (fun pa =>
          let mine := (pos.filter (fun x => x.2 == pa)).map (fun x => elemOf e src x.1)
          let old := elemOf e ((List.range e).map (fun i => byteOf r.2.1 (pa + i))) 0
          (pa, combine k.ety old.1 (mine.map (fun x => x.1)), old.2 || mine.any (fun x => x.2)))
        let p := new.flatMap (fun x => patchOf (x.1 % 128) (leBytes e x.2.1))
        let bad := ((new.filter (fun x => x.2.2)).map (fun x => x.1 % 128 / 8)).eraseDups
        s.accLine c line p bad) r.1
      (s1.updCmd c.id (fun c => { c with pos := k.len + 1 })).pokeCmd c.id

/-- GATH, SCAT and SCAT.ACC: the index list, the translations of its elements, then every read before any write. -/
def State.listStep (s : State) (c : Cmd) : State :=
  let k := cmdBlk c.block
  let e := elemBytes k.ety
  let idx := heldRange c.pages k.idx (k.len * (if bit k.flg 3 then 8 else 4))
  if c.pos > k.len then s.cmdEnd c
  else
    let r := if c.idx.isEmpty then s.readLines (stackOf c.core) c.world c.tenant (linesOfAll idx) else (s, [], false)
    if r.2.2 then r.1.pokeCmd c.id
    else
      -- the list is read once: the command keeps it (R373)
      let list := if c.idx.isEmpty then (List.range k.len).map (indexOf k (idx.map (byteOf r.2.1))) else c.idx
      let r := (r.1.updCmd c.id (fun c => { c with idx := list }), r.2)
      let us (i : Nat) : Nat := (list.drop i).headD 0
      let x := State.elemPages c.opc k us c.id (k.len - c.pos) r.1 c.pos
      let s1 := x.1.updCmd c.id (fun c => { c with pos := x.2.1 })
      if !x.2.2 then s1
      else
        let held := match s1.cmd c.id with | some c => c.pages | none => []
        let pas := (List.range k.len).map (fun i => (heldPa (dataPages held) (elemVa c.opc k (us i))).getD 0)
        let spad := c.opc ≠ 4 ∧ bit k.flg 2
        let srcs := if c.opc = 4 then pas.flatMap (fun pa => (List.range e).map (fun i => pa + i)) else if spad then [] else heldRange c.pages k.src (k.len * e)
        let q := s1.readLines (stackOf c.core) c.world c.tenant (linesOfAll srcs)
        let f : State × Bool := match s1.core.gangs.find? (fun g => g.core == c.core && g.alloc == c.alloc) with
          | some g => if c.opc = 4 ∧ bit k.flg 1 then
              (rangeLines k.dst (k.len * e)).foldl (fun (z : State × Bool) l => let y := z.1.fillFor g (128 * l); (y.1, z.2 && y.2)) (q.1, true)
            else (q.1, true)
          | none => (q.1, true)
        if q.2.2 then q.1.pokeCmd c.id
        else if !f.2 then f.1.pokeCmd c.id
        else
          let q := (f.1, q.2)
          let src := if spad then q.1.spadSource c (k.len * e) else srcs.map (byteOf q.2.1)
          match c.opc with
          | 4 =>
            let s2 := if bit k.flg 1 then q.1.gathSpad c k.dst src
              else (granuleCuts k.dst (k.len * e)).foldl (fun (s : State) g => s.cmdStore c ((heldPa c.pages (k.dst + g.1)).getD 0) ((src.drop g.1).take g.2)) q.1
            (s2.updCmd c.id (fun c => { c with pos := k.len + 1 })).pokeCmd c.id
          | 5 =>
            let out := ((List.range k.len).zip pas).flatMap (fun x =>
              (List.range e).map (fun i => (x.2 + i, ((src.drop (e * x.1 + i)).headD (0, false)).1, ((src.drop (e * x.1 + i)).headD (0, false)).2)))
            ((q.1.cmdPatch c out).updCmd c.id (fun c => { c with pos := k.len + 1 })).pokeCmd c.id
          | _ => q.1.scatAcc c k pas src

/-- ENGINE_COMMAND_COMPLETE (R369): a command's progress, and its completion once its work is done. -/
def State.cmdStep (s : State) (id : Nat) : State :=
  match s.cmd id with
  | none => s
  | some c =>
    if c.fid.isSome then s
    else
      match c.opc with
      | 1 => s.copyStep c
      | 2 => s.rlayStep c
      | 3 => s.matlStep c
      | 7 => s
      | _ => s.listStep c

/-- ENGINE_COMMAND_COMPLETE (R369). -/
def execEngineCommandComplete (s : State) : Out :=
  .next (match s.ctl.op with
    | some (.engineCommandComplete id) => s.cmdStep id
    | _ => s)

/-! ## Request lists (R374) -/

/-- s with a list changed. -/
def State.updList (s : State) (id : Nat) (f : CList → CList) : State :=
  { s with eng.lists := s.eng.lists.map (fun c => if c.id = id then f c else c) }

/-- Scratchpad bytes of a gang. -/
def State.spadOf (s : State) (ctx gang : Nat) : Nat :=
  match s.gangOf ctx gang, s.launch ctx with
  | some x, _ => x.size
  | none, some l => l.lrec.spad
  | none, none => 0

/-- The list tries again. -/
def State.pokeList (s : State) (id : Nat) : State := if s.due (fun e => e == .cpyqEntryStart id) then s else s.send (.cpyqEntryStart id)

/-- The list waits on a fault entry. -/
def State.listFault (s : State) (id : Nat) (fid : Option Nat) : State :=
  match fid with
  | some f => s.updList id (fun l => { l with fid := some f })
  | none => s.pokeList id

/-- A list's next entry, once its block has been read. -/
def State.startEntry (s : State) (l : CList) (b : List Byte) : State :=
  let opc := fieldOf b 32 1
  if bit (fieldOf b 36 1) 0 && s.eng.cmds.any (fun c => c.list == some l.id) then s
  else if opc = 0 ∨ 6 < opc ∨ cmdBad opc true (s.spadOf l.ctx l.gang) b then
    (s.logTenant (some l.tenant) (srcCore l.core) 0x14 1 [(24, 8, l.addr + 64 * l.next), (22, 2, l.ctx), (20, 2, l.gang), (16, 4, l.next)]).endLaunch l.ctx 4
  else
    let r := s.xlExtents (stackOf l.core) l.tenant l.ctx (cmdExtents opc b)
    match r.2 with
    | .wait => r.1.pokeList l.id
    | .trap _ => r.1
    | .fault _ w fid => (r.1.takeFaults [w]).listFault l.id fid
    | .ok pages =>
      let c : Cmd :=
        { id := 0, core := l.core, slot := l.slot, lane := l.lane, ctx := l.ctx, gang := l.gang, tenant := l.tenant, world := l.world, alloc := l.alloc, opc := opc,
          block := b, rl := l.rl, pos := 0, pieces := [], buf := [], idx := [], pages := pages, fid := none, txs := [], list := some l.id, matched := false, remote := [],
          ports := [], away := [], finished := false }
      let f := r.1.sourceFilled l.core (some l.alloc) opc b
      if !f.2 then f.1.pokeList l.id else
      let s1 := f.1.placeCmd c
      if l.next + 1 ≥ l.n then { s1 with eng.lists := s1.eng.lists.filter (fun x => x.id != l.id) }
      else (s1.updList l.id (fun l => { l with next := l.next + 1 })).pokeList l.id

/-- CPYQ_ENTRY_START (R374): the engine reads the next entry and starts it. -/
def State.listStart (s : State) (id : Nat) : State :=
  match s.eng.lists.find? (fun l => l.id == id) with
  | none => s
  | some l =>
    if l.fid.isSome then s
    else if s.cmdSlots l.core ≥ 64 then s.pokeList id
    else
      let va := l.addr + 64 * l.next
      match s.xlate (stackOf l.core) l.tenant l.ctx va 4 with
      | .wait => (s.needWalk (stackOf l.core) l.tenant l.ctx va 4).pokeList id
      | .fault w _ fid => (s.takeFaults [w]).listFault id fid
      | .ok pa _ =>
        let r := s.engBytes (stackOf l.core) l.world l.tenant pa 64
        match r.2 with
        | none => r.1.pokeList id
        | some bs =>
          if bs.any (fun b => b.2) then
            let q := r.1.ownFault l.ctx va 0x0B 4 (srcCore l.core)
            q.1.listFault id q.2
          else r.1.startEntry l (bs.map (fun b => b.1))

/-- CPYQ_ENTRY_START (R374). -/
def execCpyqEntryStart (s : State) : Out :=
  .next (match s.ctl.op with
    | some (.cpyqEntryStart id) => s.listStart id
    | _ => s)

/-! ## Collectives (R376 to R379) -/

/-- An entry of a rank table: node, stack. -/
def rankOf (tab : List (Byte × Bool)) (i : Nat) : Nat × Nat :=
  let e := (tab.drop (16 * i)).map (fun b => b.1)
  (fieldOf e 0 4, fieldOf e 4 1)

/-- What a rank contributes under COMMON: header, scale area, data area. -/
def commonLen (b : List Byte) : Nat := 32 + (hdrOf (b.take 32)).groups + (hdrOf (b.take 32)).dataBytes

/-- A world's collective goes only to live worlds whose slot has the same KEYID (R86). -/
def State.sameKey (s : State) (a b : Cmd) : Bool :=
  let keyid (w : Nat) : Option Nat := match tget s.ten.worlds w with | some x => (s.key x.slot).map (fun k => k.keyid) | none => none
  a.world == 0x7F || (b.world != 0x7F && keyid a.world == keyid b.world)

/-- A collective of a world fails at a rank outside it: INTEG, and the launch ends with FAULT (R86). -/
def State.collInteg (s : State) (c : Cmd) : State :=
  (s.logTenant (some c.tenant) (0x30 + stackOf c.core) 0x31 3 [(24, 8, (heldPa c.pages (collBlk c.block).dst).getD 0), (22, 2, c.world)]).endLaunch c.ctx 4

/-- A transfer over a port in FAILED ends with a link-failure status (R29, R87, R379). -/
def State.linkEnds (s : State) (c : Cmd) : State := if c.world = 0x7F then s.endLaunch c.ctx 7 else s.sendAbort c.world 7

/-- The extents that a rank writes: the result, or under COMMON the data and scale areas of DST's tile (R377, R378). -/
def State.collTargets (s : State) (c : Cmd) : List (Nat × Nat) :=
  let k := collBlk c.block
  if k.mode = 1 then
    let pd := (heldPa c.pages k.dst).getD 0
    let r := s.readLines (stackOf c.core) c.world c.tenant [lineOf pd]
    let h := hdrOf ((List.range 32).map (fun i => (byteOf r.2.1 (pd + i)).1))
    if r.2.2 then [] else [(k.dst + h.doff, h.dataBytes), (k.dst + h.soff, h.groups)]
  else [(k.dst, k.dstLen)]

/-- The lines a collective writes are pinned while what it receives over Holt is under way, as far as R108 has room for them: the writes of the others wait at the home. -/
def State.pinTargets (s : State) (c : Cmd) : State :=
  (linesOfAll ((s.collTargets c).flatMap (fun x => heldRange c.pages x.1 x.2))).foldl (fun (s : State) l =>
    let m := s.mscFill l
    if m.2 && m.1.pinRoom l then { m.1 with coh.pins := m.1.coh.pins ++ [(l, c.id + 1)] } else m.1) s

/-- COLL_MATCH (R377): the ranks of this package are looked for; what those of other packages contribute comes over their ports, and over a bridge where the port is on another
stack (R17). -/
def State.collMatch (s : State) (id : Nat) : State :=
  match s.cmd id with
  | none => s
  | some c =>
    if c.matched || c.opc != 7 then s
    else
      let k := collBlk c.block
      let pas := heldRange c.pages k.rtab (16 * k.nr)
      let r := s.readLines (stackOf c.core) c.world c.tenant (linesOfAll pas)
      if r.2.2 then r.1.wait (.collMatch id)
      else
        let tab := pas.map (byteOf r.2.1)
        let node := s.pkg.holtNode.toNat
        let ranks := (List.range k.nr).map (fun i => (i, rankOf tab i))
        let here := ranks.filter (fun x => x.2.1 == node)
        let away := (ranks.filter (fun x => x.2.1 != node)).map (fun x => (x.1, Config.holtPort node x.2.1 % 16))
        let stks := here.map (fun x => x.2.2)
        let bridges := stks.flatMap (fun a => (stks.filter (fun b => decide (a < b))).map (fun b => linkId (bridgeEnd a b)) ++
          (away.filter (fun x => holtStack x.2 != a)).map (fun x => linkId (bridgeEnd a (holtStack x.2))))
        let ports := (away.map (fun x => x.2) ++ bridges).eraseDups
        let s1 := r.1.updCmd id (fun c => { c with ports := ports, away := away })
        let peers := s1.collPeers c
        let mine := here.filterMap (fun x => peers.find? (fun d => (collBlk d.block).me == x.1 && stackOf d.core == x.2.2 && !d.matched))
        if ports.any (fun l => (s1.link l).st == .failed) then s1.linkEnds c
        else if mine.length ≠ here.length then s1
        else if mine.any (fun d => mine.any (fun d' => !s1.sameKey d d')) then
          (mine.filter (fun d => d.world != 0x7F)).foldl (fun (s : State) d => s.collInteg d) s1
        else
          mine.foldl (fun (s : State) d =>
            let s2 := s.updCmd d.id (fun d => { d with matched := true, ports := ports, away := away })
            (if away.isEmpty then s2 else s2.pinTargets d).send (.collComplete d.id)) s1

/-- COLL_MATCH (R377). -/
def execCollMatch (s : State) : Out :=
  .next (match s.ctl.op with
    | some (.collMatch id) => s.collMatch id
    | _ => s)

/-- The collective tries again. -/
def State.pokeColl (s : State) (id : Nat) : State := if s.due (fun e => e == .collComplete id) then s else s.send (.collComplete id)

/-! ## What collectives send (R25, R86) -/

/-- KEYID and key of a command's world. -/
def State.cmdKey (s : State) (c : Cmd) : Option (Nat × List Byte) :=
  match tget s.ten.worlds c.world with
  | some x => (s.key x.slot).map (fun k => (k.keyid, k.key))
  | none => none

/-- The destination of unit j of what a command receives from a rank. -/
def Cmd.unitPa (c : Cmd) (rank j : Nat) : Nat :=
  let k := collBlk c.block
  (heldPa c.pages (k.dst + (if k.mode = 0 ∧ k.op = 1 then rank * k.len else 0) + 128 * j)).getD 0

/-- KEYID of a frame that is not sealed. -/
def noKey : Nat := 2 ^ 32 - 1

/-- One flit's payload: which collective, from which rank to which, the KEYID it is sealed under, the length of the whole contribution, and 208 bytes of it (the spec gives no
layout of payloads: DESIGN CHOICE, log 87). -/
def frame (ctag src dst keyid total : Nat) (data : List Byte) : List Byte :=
  (leBytes 8 ctag ++ leBytes 2 src ++ leBytes 2 dst ++ leBytes 4 keyid ++ leBytes 8 total ++ zeros 8 ++ data ++ zeros 208).take 240

/-- A rank's contribution goes to every rank of another package, over the port to it (R25, R29); a world's is sealed (R86), for a destination that the other package knows (log 87). -/
def State.sendFrames (s : State) (c : Cmd) : State :=
  let k := collBlk c.block
  c.away.foldl (fun (s : State) a =>
    let x : Nat × List Byte :=
      match s.cmdKey c with
      | some (keyid, key) => (keyid, sealUnits key keyid (Config.farPa k.ctag a.1) c.buf)
      | none => (noKey, c.buf)
    s.sendAll ((chunks 208 (x.2.length / 208 + 1) x.2).map (fun d => Ev.flitSend a.2 (frame k.ctag k.me a.1 x.1 c.buf.length d)))) s

/-- A payload belongs to a contribution. -/
def inFrame (ctag src dst : Nat) (f : List Byte) : Bool := fieldOf f 0 8 == ctag && fieldOf f 8 2 == src && fieldOf f 10 2 == dst

/-- What has come in from a rank for a command, once it is whole: KEYID, length, data, and the number of payloads it takes up. -/
def State.arrived (s : State) (c : Cmd) (a : Nat × Nat) : Option (Nat × Nat × List Byte × Nat) :=
  let k := collBlk c.block
  let fs := (s.link a.2).inq.filter (inFrame k.ctag a.1 k.me)
  match fs with
  | [] => none
  | f :: _ =>
    let total := fieldOf f 16 8
    let size := if fieldOf f 12 4 = noKey then total else 136 * ceilDiv total 128
    let n := ceilDiv size 208
    if fs.length < n then none else some (fieldOf f 12 4, total, ((fs.take n).flatMap (fun f => f.drop 32)).take size, n)

/-- The first n payloads of a list that p picks are taken out. -/
def takeOut (p : List Byte → Bool) : Nat → List (List Byte) → List (List Byte)
  | _, [] => []
  | n, f :: t => if 0 < n && p f then takeOut p (n - 1) t else f :: takeOut p n t

/-- A contribution has the size that the command asks for. -/
def fitsColl (k : CollBlk) (b : List Byte) : Bool := if k.mode = 1 then decide (32 ≤ b.length) && b.length == commonLen b else b.length == k.len

/-- What a command has received from a rank: its bytes; still to come; or a failure, of the KEYID or of a MAC. -/
inductive Recv where
  | got (b : List Byte)
  | wait
  | badKey
  | badMac
deriving DecidableEq, Repr

/-- From a rank of this package: a world's contribution passes sealed between the engines (R86). -/
def State.fromNear (s : State) (c d : Cmd) : Recv :=
  if c.world = 0x7F ∨ c.id = d.id then .got d.buf
  else
    match s.cmdKey d, s.cmdKey c with
    | some (kd, keyd), some (kc, keyc) =>
      let pa := c.unitPa (collBlk d.block).me
      match openUnits keyc kc pa d.buf.length (sealUnits keyd kd pa d.buf) with
      | some b => .got b
      | none => .badMac
    | _, _ => .badKey

/-- From a rank of another package. -/
def State.fromFar (s : State) (c : Cmd) (a : Nat × Nat) : Recv :=
  match s.arrived c a with
  | none => .wait
  | some (keyid, total, data, _) =>
    match s.cmdKey c with
    | none => if keyid ≠ noKey then .badKey else if fitsColl (collBlk c.block) data then .got data else .wait
    | some (kc, key) =>
      if keyid ≠ kc then .badKey
      else
        match openUnits key kc (c.unitPa a.1) total data with
        | some b => if fitsColl (collBlk c.block) b then .got b else .wait
        | none => .badMac

/-- All that a command receives, in rank order: peers of this package, and the others. -/
def State.received (s : State) (peers : List Cmd) (c : Cmd) : List Recv :=
  (List.range (collBlk c.block).nr).map (fun i =>
    match peers.find? (fun d => (collBlk d.block).me == i), c.away.find? (fun a => a.1 == i) with
    | some d, _ => s.fromNear c d
    | none, some a => s.fromFar c a
    | none, none => .wait)

/-- A received contribution's bytes. -/
def Recv.bytes (r : Recv) : List Byte := match r with | .got b => b | _ => []

/-- Both ends of the bridges that a collective uses. -/
def Cmd.bridgeEnds (c : Cmd) : List Nat := (c.ports.filter (fun l => decide (16 ≤ l))).flatMap (fun l => l :: (mate l).toList)

/-- The bridge ends by which a rank's contribution leaves its stack for Holt ports of others (R17). -/
def Cmd.outEnds (c : Cmd) : List Nat :=
  ((c.away.filter (fun a => holtStack a.2 != stackOf c.core)).map (fun a => bridgeEnd (stackOf c.core) (holtStack a.2))).eraseDups

/-- Bridges let a collective through (R28, R29). -/
def State.endsUp (s : State) (ls : List Nat) : Bool := ls.all (fun l => s.lets l (flitCount s.ctl.freeCtr))

/-- A collective's flits go over bridges (R25, R26); where one fails under them the collective is cut off (R29, R379). -/
def State.crossEnds (s : State) (ls : List Nat) : State :=
  ls.foldl (fun (s : State) l => let r := s.sendOver l (flitCount s.ctl.freeCtr); if r.2 then r.1 else { r.1 with ctl.cut := true }) s

/-- What came in for a command is taken from its ports. -/
def State.takeFrames (s : State) (c : Cmd) : State :=
  let k := collBlk c.block
  c.away.foldl (fun (s : State) a =>
    match s.arrived c a with
    | some x => s.updLink a.2 (fun l => { l with inq := takeOut (inFrame k.ctag a.1 k.me) x.2.2.2 l.inq })
    | none => s) s

/-- The extents that a rank contributes (R377, R378). -/
def CollBlk.sources (k : CollBlk) (hdr : List Byte) : List (Nat × Nat) :=
  if k.mode = 1 then [(k.src, 32), (k.src + (hdrOf hdr).soff, (hdrOf hdr).groups), (k.src + (hdrOf hdr).doff, (hdrOf hdr).dataBytes)] else [(k.src, k.len)]

/-- A rank reads its source. A poisoned word opens a MEMPOISON entry, on which the command waits (R409). -/
def State.collRead (s : State) (c : Cmd) : State :=
  let k := collBlk c.block
  let hd := if k.mode = 1 then s.readLines (stackOf c.core) c.world c.tenant [lineOf ((heldPa c.pages k.src).getD 0)] else (s, [], false)
  let hdr := (List.range 32).map (fun i => (byteOf hd.2.1 ((heldPa c.pages k.src).getD 0 + i)).1)
  let pas := (k.sources hdr).flatMap (fun x => heldRange c.pages x.1 x.2)
  let r := hd.1.readLines (stackOf c.core) c.world c.tenant (linesOfAll pas)
  if hd.2.2 || r.2.2 then r.1.pokeColl c.id
  else if !r.1.endsUp c.outEnds then r.1.later (.collComplete c.id)
  else
    let bs := pas.map (byteOf r.2.1)
    if bs.any (fun b => b.2) then
      let q := r.1.ownFault c.ctx k.src 0x0B 4 (0x30 + stackOf c.core)
      q.1.cmdFault c q.2 (fun s => s.pokeColl c.id)
    else ((r.1.updCmd c.id (fun c => { c with buf := bs.map (fun b => b.1), pos := 1 })).crossEnds c.outEnds |>.sendFrames { c with buf := bs.map (fun b => b.1) }).pokeColl c.id

/-- Every rank has read: each of this package's gets all the contributions (R377). A key that is not the world's, or a MAC that is wrong, ends the collective (R86). -/
def State.collExchange (s : State) (c : Cmd) : State :=
  let peers := (s.collPeers c).filter (fun d => d.matched)
  let all := peers.map (fun d => (d, s.received peers d))
  let pa (d : Cmd) : Nat := (heldPa d.pages (collBlk d.block).dst).getD 0
  if !(peers.all (fun d => decide (1 ≤ d.pos))) || !s.endsUp c.bridgeEnds then s.later (.collComplete c.id)
  else
    match all.find? (fun e => e.2.contains .badKey), all.find? (fun e => e.2.contains .badMac) with
    | some e, _ => s.collInteg e.1
    | none, some e => s.integrity (0x30 + stackOf e.1.core) e.1.world (pa e.1)
    | none, none =>
      if all.any (fun e => e.2.contains .wait) then s.later (.collComplete c.id)
      else
        all.foldl (fun (s : State) e =>
          ((s.takeFrames e.1).updCmd e.1.id (fun d => { d with pos := 2, remote := e.2.map Recv.bytes })).pokeColl e.1.id) (s.crossEnds c.bridgeEnds)

/-- A PLAIN result (R377). -/
def plainResult (k : CollBlk) (ranks : List (List Byte)) : List Byte :=
  match k.op with
  | 1 => ranks.flatten
  | 2 => ranks.headD []
  | _ =>
    let e := elemBytes k.ety
    (List.range (k.len / e)).flatMap (fun i =>
      match ranks.map (fun r => fieldOf r (e * i) e) with
      | x :: t => leBytes e (combine k.ety x t)
      | [] => [])

/-- An element of 4 or 8 bits at a place in bits. -/
def smallElem (data : List Byte) (at_ w : Nat) : Nat := fieldOf data (at_ / 8) 1 / 2 ^ (at_ % 8) % 2 ^ w

/-- Two headers agree in what R378 compares. -/
def sameShape (a b : List Byte) : Bool :=
  let x := hdrOf a
  let y := hdrOf b
  x.fmt == y.fmt && x.sly == y.sly && x.rows == y.rows && x.cols == y.cols && x.sfm == y.sfm && x.spr == y.spr

/-- The least positive value of a format as a power of two; 1 for an integer format (R245). -/
def unitExp (fmt : Nat) : Int :=
  match floatFmt fmt with
  | some f => match f.decode 1 with
    | .fin _ _ e => e
    | _ => 0
  | none => 0

/-- Step 2 of R245: the integer a rank's element makes. -/
def termOf (fmt code top elem : Nat) : Int :=
  if code = 0 then 0
  else
    match elemVal fmt elem with
    | .fin s m e => let n : Nat := rndAt m (e + (code : Int) - (top : Int) - unitExp fmt) 0 0 s; if s then -(n : Int) else n
    | _ => 0

/-- One result element of R245: es gives each rank's scale code and element. -/
def commonElem (fmt top : Nat) (ovf : Bool) (es : List (Nat × Nat)) : Nat :=
  let vs := es.map (fun x => elemVal fmt x.2)
  let isInf (b : Bool) : Bool := vs.any (fun v => match v with | .inf s => s == b | _ => false)
  match floatFmt fmt with
  | some f =>
    if top = 0xFF || vs.any (fun v => match v with | .nan _ => true | _ => false) || (isInf false && isInf true) then f.nanCode
    else if isInf false then f.infCode false
    else if isInf true then f.infCode true
    else
      let n := (es.map (fun x => termOf fmt x.1 top x.2)).foldl (fun a b => a + b) (0 : Int)
      (convert (.fin (decide (n < 0)) n.natAbs (unitExp fmt)) f 0 ovf).1
  | none =>
    match intFmt fmt with
    | some i =>
      if top = 0xFF then (convertInt (.nan false) i.1 i.2 0).1
      else (convertInt (numOfInt ((es.map (fun x => termOf fmt x.1 top x.2)).foldl (fun a b => a + b) (0 : Int))) i.1 i.2 0).1
    | none => 0

/-- The scale codes c* and the elements of a COMMON result: the scale bytes, and the data bytes as (offset in the data area, value). -/
def commonResult (dst : Hdr) (ranks : List (List Byte)) : List Byte × List (Nat × Byte) :=
  let hs := ranks.map (fun r => (hdrOf (r.take 32), (r.drop 32).take (hdrOf (r.take 32)).groups, r.drop (32 + (hdrOf (r.take 32)).groups)))
  let top (g : Nat) : Nat := (hs.map (fun x => fieldOf x.2.1 g 1)).foldl max 0
  let w := fmtBits dst.fmt
  let elem (i j : Nat) : Nat :=
    commonElem dst.fmt (top (dst.groupOf i j)) dst.ovf (hs.map (fun x => (fieldOf x.2.1 (dst.groupOf i j) 1, smallElem x.2.2 (x.1.place i j) w)))
  let cells := (List.range dst.rows).flatMap (fun i => (List.range dst.cols).map (fun j => (dst.place i j, elem i j)))
  let byte (k : Nat) : Nat := (cells.filter (fun c => c.1 / 8 == k)).foldl (fun v c => v + c.2 * 2 ^ (c.1 % 8)) 0
  ((List.range dst.groups).map (fun g => BitVec.ofNat 8 (top g)),
   ((cells.map (fun c => c.1 / 8)).eraseDups).map (fun k => (k, BitVec.ofNat 8 (byte k))))

/-- A rank writes its result, or the launch ends where the headers differ (R377, R378). -/
def State.collWrite (s : State) (c : Cmd) : State :=
  let k := collBlk c.block
  if k.mode = 1 then
    let pd := (heldPa c.pages k.dst).getD 0
    let r := s.readLines (stackOf c.core) c.world c.tenant [lineOf pd]
    if r.2.2 then r.1.pokeColl c.id
    else if !(c.remote.all (fun x => sameShape (x.take 32) (c.buf.take 32))) then
      ({ r.1 with eng.cmds := r.1.eng.cmds.filter (fun x => x.id != c.id) }.logTenant (some c.tenant) (0x30 + stackOf c.core) 0x13 1
        [(30, 2, c.ctx), (28, 2, c.gang), (24, 4, k.ctag % 2 ^ 32)]).endLaunch c.ctx 4
    else
      let hb := (List.range 32).map (fun i => (byteOf r.2.1 (pd + i)).1)
      let h := hdrOf hb
      let x := commonResult h c.remote
      let at_ (va : Nat) : Nat := (heldPa c.pages va).getD 0
      let out := ((List.range x.1.length).zip x.1).map (fun e => (at_ (k.dst + h.soff + e.1), e.2, false)) ++
        x.2.map (fun e => (at_ (k.dst + h.doff + e.1), e.2, false))
      ((r.1.cmdPatch c out).updCmd c.id (fun c => { c with pos := 3, buf := hb })).pokeColl c.id
  else
    let res := (plainResult k c.remote).map (fun b => (b, false))
    let s1 := (granuleCuts k.dst k.dstLen).foldl (fun (s : State) g => s.cmdStore c ((heldPa c.pages (k.dst + g.1)).getD 0) ((res.drop g.1).take g.2)) s
    (s1.updCmd c.id (fun c => { c with pos := 3 })).pokeColl c.id

/-- b of a collective (R377, R378): under COMMON the areas of DST's tile, whose header it keeps. -/
def Cmd.collBytes (c : Cmd) : Nat :=
  let k := collBlk c.block
  if k.mode = 1 then (hdrOf (c.buf.take 32)).dataBytes + (hdrOf (c.buf.take 32)).groups else k.dstLen

/-- COLL_COMPLETE (R377): a matched command reads, exchanges, writes, and completes with its release. -/
def State.collStep (s : State) (id : Nat) : State :=
  match s.cmd id with
  | none => s
  | some c =>
    if !c.matched || c.fid.isSome then s
    else
      match c.pos with
      | 0 => s.collRead c
      | 1 => s.collExchange c
      | 2 => s.collWrite c
      | _ => if c.rl == 7 || s.writesDone c then s.cmdOver c (collBlk c.block).arrive c.collBytes else s.pokeColl id

/-- COLL_COMPLETE (R377). -/
def execCollComplete (s : State) : Out :=
  .next (match s.ctl.op with
    | some (.collComplete id) => s.collStep id
    | _ => s)

end Sys2Proof.Machine
end

