-- ==== Sys2Proof/Machine/Faults.lean ====
section
/-! DEFINITION. Translation and fault events (07): walks, page requests, replies to fault entries (R139 to R142, R407), region write-backs (R148), and invalidation
(R143 to R146). -/

namespace Sys2Proof.Machine

open Sys2Proof

/-! ## Walks -/

/-- PAGE_WALK_COMPLETE (R131). -/
def execPageWalkComplete (s : State) : Out :=
  .next (match s.ctl.op with
    | some (.pageWalkComplete id) => s.pageWalk id
    | _ => s)

/-- ATS_TRANSLATION_COMPLETION (R142). -/
def execAtsTranslationCompletion (s : State) : Out :=
  .next (match s.ctl.op with
    | some (.atsTranslationCompletion id r w pa size) => s.atsComplete id r w pa size
    | _ => s)

/-- FAULT_ENTRY_WAIT_FREE (R135). -/
def execFaultEntryWaitFree (s : State) : Out :=
  .next (match s.ctl.op with
    | some (.faultEntryWaitFree ctx) => ((s.entryFreed ctx).feedFaults ctx).wakeSaved (fun x => x.ctx == ctx) .noEntry
    | _ => s)

/-! ## RETRY and KILL -/

/-- An outstanding entry. -/
def State.faultEnt (s : State) (ctx fid : Nat) : Option FaultEnt := s.xl.faults.find? (fun f => f.ctx == ctx && f.fid == fid)

/-- s with an entry changed. -/
def State.updFault (s : State) (ctx fid : Nat) (f : FaultEnt → FaultEnt) : State :=
  { s with xl.faults := s.xl.faults.map (fun x => if x.ctx = ctx ∧ x.fid = fid then f x else x) }

/-- Causes from here on mark an entry that has been answered: no later access joins it. -/
def answered : Nat := 256

/-- The entry is answered: its walks go, and a new fault on its range is a new entry. -/
def State.markAnswered (s : State) (ctx fid : Nat) : State :=
  { s.updFault ctx fid (fun f => if f.cause < answered then { f with cause := f.cause + answered } else f) with
    xl.walks := s.xl.walks.filter (fun w => !(w.ctx == ctx && w.fid == some fid)) }

/-- One register's load performed again (R140 step 1): the state, and the token for it, or none while something must come first. A load that decodes does so by FATTR of the page as
it is at the retry (DEDUCED, log 44). -/
def State.refill (s : State) (ctx fid va0 : Nat) (r : Refill) : State × Option Token :=
  let g := r.1
  let p := r.2.2.2
  let va := refillVa va0 p
  let f := refillForm p
  let tl (pa fmt : Nat) (own : List (Nat × Byte)) (v : Option (List PVal)) : TLane :=
    { slot := g.slot, lane := r.2.2.1, va := va, pa := pa, own := own, fmt := fmt, lost := [], vals := v, drop := false, walk := none }
  let tok (l : TLane) : Token :=
    { id := 0, core := g.core, ctx := ctx, k := 8, dst := r.2.1, n := 1, size := f.1, sx := f.2.1, strong := false, grp := refillGrp ctx fid, dead := false, lanes := [l] }
  match s.xlate (stackOf g.core) (s.tenantOfCtx ctx) ctx va 0 with
  | .wait => (s.needWalk (stackOf g.core) (s.tenantOfCtx ctx) ctx va 0, none)
  | .fault w _ nf =>
    match nf with
    | some n => (s.takeFaults [w], some (tok (tl (2 ^ 60) 0 [] (some [refillable va (bits p.tag.toNat 28 26) f.2.1 (s.tagFmt (f.2.2 != 0) f.1 w) n]))))
    | none => (s, none)
  | .ok pa attr =>
    let fmt := if f.2.2 = 0 then 0 else attr.fattr
    let q := if s.barred (s.tenantOfCtx ctx) pa f.1 false then (s, ReadR.vals [memPoison]) else s.plainRead g.core g.slot r.2.2.1 pa f.1 f.2.1 fmt attr.uncached 0
    let own := s.ownBytes g.core g.slot r.2.2.1 (lineOf pa)
    match q.2 with
    | .vals v => (q.1, some (tok (tl pa fmt own (some v))))
    | .fill => (q.1, some (tok (tl pa fmt own none)))
    | .wait => (q.1, none)

/-- Refillable poison of an FID. -/
def PVal.ofFid (fid : Nat) (p : PVal) : Bool := p.bad && p.kind == 0 && p.fid == fid

/-- The lanes of tokens still pending whose poison of an FID has not reached its registers: token, lane. -/
def State.lateLanes (s : State) (ctx fid : Nat) : List (Token × TLane) :=
  (s.core.toks.filter (fun t => t.ctx == ctx && !t.dead)).flatMap (fun t =>
    (t.lanes.filter (fun l => !l.drop && (l.vals.getD []).any (PVal.ofFid fid))).map (fun l => (t, l)))

/-- One such lane's load performed again: the lane as it is then, or none while something must come first (R140). -/
def State.redoLane (s : State) (ctx fid va0 : Nat) (t : Token) (l : TLane) : State × Option TLane :=
  let tenant := s.tenantOfCtx ctx
  let vs := l.vals.getD []
  let i := (List.range vs.length).find? (fun i => match vs[i]? with | some p => p.ofFid fid | none => false)
  let p := (vs.find? (PVal.ofFid fid)).getD pzero
  let va := refillVa va0 p - 4 * i.getD 0
  let decodes := bits p.tag.toNat 24 17 != 0
  match s.xlate (stackOf t.core) tenant ctx va 0 with
  | .wait => (s.needWalk (stackOf t.core) tenant ctx va 0, none)
  | .fault w _ nf =>
    match nf with
    | some n => (s.takeFaults [w], some { l with vals := some (faultRegs t.size t.sx (s.tagFmt decodes t.size w) va n) })
    | none => (s, none)
  | .ok pa attr =>
    let fmt := if decodes then attr.fattr else 0
    let q := if s.barred tenant pa t.size false then (s, ReadR.vals (vs.map (fun _ => memPoison)))
      else s.plainRead t.core l.slot l.lane pa t.size t.sx fmt attr.uncached 0
    let m : TLane := { l with va := va, pa := pa, own := s.ownBytes t.core l.slot l.lane (lineOf pa), fmt := fmt, lost := s.ownLost t.core l.slot l.lane (lineOf pa) }
    match q.2 with
    | .vals v => (q.1, some { m with vals := some v })
    | .fill => (q.1, some { m with vals := none })
    | .wait => (q.1, none)

/-- Tasks, commands or lists of a context wait on an FID (R362, R368, R374). -/
def State.engineWaits (s : State) (ctx fid : Nat) : Bool :=
  s.eng.tasks.any (fun t => t.ctx == ctx && t.fid == some fid) || s.eng.cmds.any (fun t => t.ctx == ctx && t.fid == some fid) ||
    s.eng.lists.any (fun t => t.ctx == ctx && t.fid == some fid)

/-- Threads, tasks, commands or lists of bound gangs wait on an FID, or live threads hold its poison. -/
def State.boundWaits (s : State) (ctx fid : Nat) : Bool :=
  s.core.gangs.any (fun g => g.ctx == ctx && (g.threads.any (fun t => t.status == .faultwait && t.fid == fid) || (g.held fid).any (fun x => (g.thread x.2.1).live))) ||
    s.engineWaits ctx fid

/-- A reply recorded for an entry is void (R141). -/
def State.clearReply (s : State) (ctx fid : Nat) : State :=
  match tget s.xl.freply (ctx, fid), s.launch ctx with
  | some _, some l => { s with xl.freply := tdel s.xl.freply (ctx, fid) }.devStore (l.hdr + fid) [0] none
  | _, _ => s

/-- The last steps of a RETRY (R140 steps 3 and 4, R407): who waits in bound gangs goes on; the entry is freed unless saved gangs still need it, for which the
reply is recorded. f is done to each thread let go. -/
def State.retryEnd (s : State) (ctx fid : Nat) (f : Thread → Thread) : State :=
  let s1 := ((s.wake ctx fid f).wakeEngines ctx fid).restored ctx
  if s1.savedWaits ctx fid then
    let groups := ((s1.run.saved.filter (fun x => x.ctx == ctx)).map (fun x => x.group)).eraseDups
    let s2 := if (tget s1.xl.freply (ctx, fid)).isSome then s1 else s1.recordReply ctx fid 1
    groups.foldl (fun (s : State) g => s.placeSaved ctx g) s2
  else (s1.clearReply ctx fid).freeFault ctx fid

/-- An entry that FREPLY may answer (R139, R142, R407): none that has its answer, but for one whose reply is recorded for saved gangs. -/
def State.outstanding (s : State) (ctx fid : Nat) : Bool :=
  match s.faultEnt ctx fid with
  | some e => decide (e.cause < answered) || (tget s.xl.freply (ctx, fid)).isSome
  | none => false

/-- A RETRY for a context of which only saved gangs are left is recorded, for whoever waits on the entry, and applied at a restore (R141, R407). -/
def State.retryAway (s : State) (ctx fid : Nat) : State :=
  let s1 := s.markAnswered ctx fid
  let groups := ((s1.run.saved.filter (fun x => x.ctx == ctx)).map (fun x => x.group)).eraseDups
  groups.foldl (fun (s : State) g => s.placeSaved ctx g) (if (tget s1.xl.freply (ctx, fid)).isSome then s1 else s1.recordReply ctx fid 1)

/-- RETRY (R140): loads first, in registers and on tokens still pending, as far as they get; once each has its data, the end. A thread let go from BREAK executes its
BRK words as NOP (R347). A reply for a context with gangs saved and none bound is recorded (R141); where none is saved either, nothing will be restored, and it acts at once
(DESIGN CHOICE, log 108). -/
def State.retry (s : State) (ctx fid : Nat) : State :=
  match s.faultEnt ctx fid with
  | none => s
  | some e =>
    if !(s.core.gangs.any (fun g => g.ctx == ctx)) && s.run.saved.any (fun x => x.ctx == ctx) then s.retryAway ctx fid else
    let brk := e.cause % answered == 0x0C
    let quiet (t : Thread) : Thread := if brk then { t with brkPass := true } else t
    let s1 := s.markAnswered ctx fid
    let r := (s1.refills ctx fid).foldl (fun (q : State × Bool) x =>
      let y := q.1.refill ctx fid e.va x
      match y.2 with
      | some t => (y.1.nameToken t, q.2)
      | none => (y.1, true)) (s1, false)
    let q := (r.1.lateLanes ctx fid).foldl (fun (q : State × Bool) x =>
      let y := q.1.redoLane ctx fid e.va x.1 x.2
      match y.2 with
      | some l => ({ y.1 with core.toks := y.1.core.toks.map (fun (t : Token) =>
          if t.id = x.1.id then { t with lanes := t.lanes.map (fun (m : TLane) => if m.slot = l.slot ∧ m.lane = l.lane then l else m) } else t) }, q.2)
      | none => (y.1, true)) (r.1, r.2)
    if q.2 || q.1.core.toks.any (fun t => t.grp == refillGrp ctx fid && t.lanes.any (fun l => l.vals.isNone)) then q.1.later (.freplyRetry ctx fid none)
    else q.1.retryEnd ctx fid quiet

/-- FREPLY_RETRY (R139, R140): an answer to an entry that is not outstanding is logged with the value written; without a value it goes on with a RETRY that has begun. -/
def execFreplyRetry (s : State) : Out :=
  .next (match s.ctl.op with
    | some (.freplyRetry ctx fid raw) =>
      match raw with
      | some v => if s.outstanding ctx fid then s.retry ctx fid else s.badReply ((s.launch ctx).map (fun l => l.tenant)) 2 0xC030 v
      | none => s.retry ctx fid
    | _ => s)

/-- FREPLY_KILL (R139, R140): the launch ends with FAULT at once. -/
def execFreplyKill (s : State) : Out :=
  .next (match s.ctl.op with
    | some (.freplyKill ctx fid raw) =>
      if s.outstanding ctx fid then s.endLaunch ctx 4 else s.badReply ((s.launch ctx).map (fun l => l.tenant)) 2 0xC030 raw
    | _ => s)

/-- PRG_RESPONSE (R142, R408): success is RETRY, and the entry has its answer from then on; anything else gives the entry cause ATSDENY and hands it to the servicer. A response whose entry has been
answered is ignored. -/
def State.prgResponse (s : State) (prg : Nat) (ok : Bool) : State :=
  match s.xl.faults.find? (fun f => f.prg == some prg && decide (f.cause < answered)) with
  | none => s
  | some e =>
    let s1 := s.updFault e.ctx e.fid (fun f => { f with prg := none, cause := if ok then f.cause else 0x09 })
    if ok then (s1.markAnswered e.ctx e.fid).urge (.freplyRetry e.ctx e.fid none)
    else s1.logFault e.ctx (srcPort (s.tPort (s.tenantOfCtx e.ctx))) [(24, 8, e.va), (22, 2, e.ctx), (20, 2, e.fid), (19, 1, 0x09), (18, 1, e.acc)]

/-- PRG_RESPONSE (R142). -/
def execPrgResponse (s : State) : Out :=
  .next (match s.ctl.op with
    | some (.prgResponse prg ok) => s.prgResponse prg ok
    | _ => s)

/-! ## Region write-backs (R148) -/

/-- A written region line leaves as a plain store of the gang, a strong one on an uncached page (R128), with the poison of its words. -/
def State.writeLine (s : State) (x : Gang) (line va pa : Nat) (strong : Bool) : State :=
  let base := 128 * line
  let bad := (List.range 16).filter (fun w => x.spois.contains (base / 8 + w))
  let t := { s.threadTx x.core x.slot 32 va (lineOf pa) (patchOf 0 (x.spadBytes base 128)) strong with pois := bad }
  ((s.sample x.ctx x.core x.slot 0 va 6).launchTx t).updGang x.core x.slot (fun g => { g with written := g.written.filter (fun l => l != line) })

/-- REGION_WRITEBACK: the line is translated and stored; a fault holds the line until its entry is answered, or gives it up where the launch is ending. It comes
again until the store is acknowledged, and then looks whether the gang's group can be freed. -/
def State.writeBack (s : State) (core slot region index : Nat) : State :=
  match s.gang core slot with
  | none => s
  | some x =>
    let d := (x.regions.drop region).headD { rgva := 0, rgcf := 0 }
    let line := bits d.rgcf.toNat 10 0 + index
    let va := (d.rgva.toNat / 128 * 128 + 128 * index) % 2 ^ 64
    let again (s : State) : State := s.wait (.regionWriteback core slot region index)
    if x.written.contains line then
      if !(bit d.rgcf.toNat 31 && bit d.rgcf.toNat 30) then s.updGang core slot (fun g => { g with written := g.written.filter (fun l => l != line) })
      else
        match s.xlate (stackOf core) (s.tenantOfCtx x.ctx) x.ctx va 7 with
        | .ok pa attr => again (s.writeLine x line va pa attr.uncached)
        | .wait => again (s.needWalk (stackOf core) (s.tenantOfCtx x.ctx) x.ctx va 7)
        | .fault _ _ _ =>
          let ended := match s.launch x.ctx with | some l => l.ending.isSome | none => true
          if ended then again (s.updGang core slot (fun g => { g with written := g.written.filter (fun l => l != line) })) else again s
    else if s.writingBack core slot then again s
    else if x.threads.any (fun t => t.live) then s
    else s.freeGroup x.ctx x.group

/-- REGION_WRITEBACK (R148). -/
def execRegionWriteback (s : State) : Out :=
  .next (match s.ctl.op with
    | some (.regionWriteback core slot region index) => s.writeBack core slot region index
    | _ => s)

/-! ## Invalidation and shootdown (R143 to R146) -/

/-- The log2 of a size index of DTINV (R130, R146). -/
def sizeOfIndex (i : Nat) : Nat := ([12, 14, 16, 18, 21, 23, 25, 30, 39, 48].drop i).headD 12

/-- An address lies in the aligned range of 2 ^ order bytes that holds another. -/
def sameBlock (order a b : Nat) : Bool := a / 2 ^ order == b / 2 ^ order

/-- An invalidation that concerns translations of a tenant (R144 to R146). -/
def State.affects (s : State) (i : Inval) (t : Nat) : Bool :=
  match i.kind with
  | 0 => bit i.v.toNat 0 || bits (nget 0 s.ten.hatp t) 59 44 == bits i.v.toNat 31 16
  | 1 => bit (s.tModes t) 0 && s.tPort t == i.port % 2 && s.tPasid t == i.port / 2
  | _ => t == bits i.v.toNat 11 4

/-- What an invalidation removes: the translations of a tenant at an address (R144 to R146). -/
def State.removes (s : State) (i : Inval) (t va : Nat) : Bool :=
  let v := i.v.toNat
  match i.kind with
  | 0 =>
    let order := bits v 15 8
    let asid := bits (nget 0 s.ten.hatp t) 59 44
    !bit va 56 && (bit v 0 || asid == bits v 31 16) &&
      (order == 0xFF || (decide (12 ≤ order) && decide (order ≤ 57) && sameBlock order va s.xl.sdva.toNat))
  | 1 => !bit va 56 && bit (s.tModes t) 0 && s.tPort t == i.port % 2 && s.tPasid t == i.port / 2 && sameBlock (bits v 7 0) va (v / 2 ^ 12 * 2 ^ 12)
  | _ =>
    let n := bits v 3 0
    t == bits v 11 4 && bit va 56 && (n == 15 || (decide (n ≤ 9) && sameBlock (sizeOfIndex n) (va % 2 ^ 57) (v / 2 ^ 12 * 2 ^ 12 % 2 ^ 57)))

/-- Written region lines that would go through a removed translation that a TLB of the core's stack holds: they are stored first (R145). -/
def State.flushRemoved (s : State) (i : Inval) : State :=
  s.core.gangs.foldl (fun (s : State) g =>
    g.written.foldl (fun (s : State) line =>
      match s.gang g.core g.slot with
      | none => s
      | some x =>
        match x.regionOf line with
        | some (_, va, true) =>
          let t := s.tenantOfCtx x.ctx
          if s.removes i t va then
            match s.tlbHit (stackOf x.core) t va 7 with
            | some e => s.writeLine x line va (e.pa + va % 2 ^ e.size) e.attr.uncached
            | none => s
          else s
        | _ => s) s) s

/-- Threads with store entries that a removed translation translated: each performs a phase boundary at SYSTEM (R145). -/
def State.removedEntries (s : State) (i : Inval) : List (Nat × Nat × Nat) :=
  ((s.coh.sent.filter (fun e => match s.gang e.core e.slot with
    | some g => s.removes i (s.tenantOfCtx g.ctx) e.va
    | none => false)).map (fun e => (e.core, e.slot, e.lane))).eraseDups

/-- A run in issue holds a store for its trailer, or a checked engine command, whose translation an invalidation removes. -/
def State.holdsRemoved (s : State) (i : Inval) (g : Grp) : Bool :=
  g.lanes.any (fun l => !l.did && l.pages.any (fun p => s.removes i (s.tenantOfCtx g.ctx) (4096 * p.1))) || g.fx.any (fun f => match f with
    | .store _ _ va _ _ => s.removes i (s.tenantOfCtx g.ctx) va
    | .strong _ _ va _ _ _ _ => s.removes i (s.tenantOfCtx g.ctx) va
    | _ => false)

/-- The stores that used a removed translation are noted: the phase boundaries of those who hold store entries, and the stores under way, those of engines and Anvils of the
tenant among them. -/
def State.noteStores (s : State) (i : Inval) : State × List Nat × List Nat :=
  let r := (s.removedEntries i).foldl (fun (q : State × List Nat) e =>
    (q.1.startRelease e.1 e.2.1 e.2.2 6 true, q.2 ++ [q.1.nextRelease e.1 e.2.1 e.2.2])) (s, [])
  (r.1, r.2, (r.1.coh.txs.filter (fun t => if t.core < 384 then r.1.removes i t.tenant t.va else r.1.affects i t.tenant)).map (fun t => t.id))

/-- Commands that hold a removed translation (R368). -/
def State.heldCmds (s : State) (i : Inval) : List Nat := (s.eng.cmds.filter (fun c => c.pages.any (fun p => s.removes i c.tenant (4096 * p.1)))).map (fun c => c.id)

/-- Line fills under way, by core and line: those of a region and of PREF have no token (R148, R333). -/
def State.fillsOut (s : State) : List (Nat × Nat) :=
  (s.ctl.waiting ++ s.ctl.agenda).filterMap (fun e => match e with
    | .dirReadMiss core line _ _ => some (core, line)
    | .l1FillReturn core line _ _ _ _ _ => some (core, line)
    | _ => none)

/-- Steps 1 and 2 of R145 begin: what used a removed translation is noted, the translations go, walks that are under way start again (R143). -/
def State.startInval (s : State) (i0 : Inval) : State :=
  let i := { i0 with id := s.ctl.nextId }
  let r := (s.bump.flushRemoved i).noteStores i
  let s2 := r.1
  let tenant (ctx : Nat) : Nat := s2.tenantOfCtx ctx
  let runs := (s2.core.issue.filter (fun g => s2.holdsRemoved i g)).map (fun g => g.id)
  let toks := (s2.core.toks.filter (fun t => t.lanes.any (fun l => l.vals.isNone && l.walk.isNone && s2.removes i (tenant t.ctx) l.va))).map (fun t => t.id)
  let cmds := s2.heldCmds i
  let fills := (s2.fillsOut.filter (fun f => s2.core.gangs.any (fun g => g.core == f.1 && s2.affects i (tenant g.ctx)))).eraseDups
  let s3 := { s2 with
    xl.tlb := s2.xl.tlb.filter (fun e => !s2.removes i e.tenant e.va),
    xl.walks := s2.xl.walks.map (fun (w : Walk) => if w.ats && w.fault.isNone && s2.removes i w.tenant w.va then { w with again := true } else w),
    xl.invals := s2.xl.invals ++ [{ i with rels := r.2.1, txs := r.2.2, toks := toks, cmds := cmds, runs := runs, fills := fills }] }
  s3.send (.shootdownDrainComplete i.id)

/-- What an invalidation waits for has completed (R145). -/
def State.invalDrained (s : State) (i : Inval) : Bool :=
  i.fills.all (fun f => !s.fillsOut.contains f) &&
  i.rels.all (fun r => s.relDone r) && i.txs.all (fun x => s.acked x 6) &&
    i.toks.all (fun k => match s.core.toks.find? (fun t => t.id == k) with
      | some t => t.lanes.all (fun l => l.vals.isSome || l.walk.isSome || !s.removes i (s.tenantOfCtx t.ctx) l.va)
      | none => true) &&
    i.cmds.all (fun c => (s.cmd c).isNone && !(s.coh.txs.any (fun t => decide (384 ≤ t.core) && t.slot == c + 1 && !s.acked t.id 6)))

/-- BUSY of SDCTL. -/
def State.sdBusy (s : State) : Bool := bit s.xl.sdctl.toNat 1

/-- SHOOTDOWN_START (R144): ignored, and logged, while one is under way. -/
def execShootdownStart (s : State) : Out :=
  .next (match s.ctl.op with
    | some (.shootdownStart v) =>
      if s.sdBusy then s.logEvent 256 2 0x43 none [(24, 8, v.toNat)]
      else
        let w := setBit (setBits v.toNat 7 2 0) 1 true
        { s with xl.sdctl := BitVec.ofNat 64 w }.startInval { id := 0, kind := 0, v := v, port := 0, rels := [], txs := [], toks := [], cmds := [], runs := [], fills := [] }
    | _ => s)

/-- The next DTINV that waits its turn starts (R146). -/
def State.nextDtinv (s : State) : State :=
  match s.xl.dtq with
  | [] => s
  | v :: t => { s with xl.dtq := t }.startInval { id := 0, kind := 2, v := v, port := 0, rels := [], txs := [], toks := [], cmds := [], runs := [], fills := [] }

/-- SHOOTDOWN_DRAIN_COMPLETE (R143, R145, R146): first the runs in issue give up their stores through removed translations, which are then noted; once everything has drained, the acknowledgement word is stored and, once that store is acknowledged at
SYSTEM, BUSY clears; or the host hears of its completion; or INVDONE is logged. -/
def State.invalStep (s : State) (id : Nat) : State :=
  match s.xl.invals.find? (fun i => i.id == id) with
  | none => s
  | some i =>
    if !i.runs.isEmpty then
      if s.core.issue.any (fun g => i.runs.contains g.id && s.holdsRemoved i g) then s.wait (.shootdownDrainComplete id)
      else
        let r := s.noteStores i
        let cmds := s.heldCmds i
        { r.1 with xl.invals := r.1.xl.invals.map (fun (x : Inval) =>
          if x.id = id then { x with runs := [], rels := x.rels ++ r.2.1, txs := x.txs ++ r.2.2, cmds := cmds } else x) }.wait
          (.shootdownDrainComplete id)
    else if !s.invalDrained i then s.wait (.shootdownDrainComplete id)
    else
      let s1 := { s with xl.invals := s.xl.invals.filter (fun x => x.id != id) }
      match i.kind with
      | 0 =>
        let ack := s1.ctl.nextId
        let s2 := s1.devStore (hostPa 0 s1.xl.sdack.toNat) (leBytes 8 (bits i.v.toNat 63 32)) none
        { s2 with xl.invals := s2.xl.invals ++ [{ i with kind := 3, rels := [], txs := [ack], toks := [], cmds := [], runs := [], fills := [] }] }.send (.shootdownDrainComplete id)
      | 1 => s1.toHost (.invDone (i.port % 2) (i.port / 2) (i.v.toNat / 2 ^ 12 * 2 ^ 12))
      | 2 => (s1.logEvent 256 2 0x44 none [(24, 8, i.v.toNat)]).nextDtinv
      | _ => { s1 with xl.sdctl := BitVec.ofNat 64 (setBit s1.xl.sdctl.toNat 1 false) }

/-- SHOOTDOWN_DRAIN_COMPLETE (R145). -/
def execShootdownDrainComplete (s : State) : Out :=
  .next (match s.ctl.op with
    | some (.shootdownDrainComplete id) => s.invalStep id
    | _ => s)

/-- ATS_INVALIDATION_REQUEST (R143). -/
def execAtsInvalidationRequest (s : State) : Out :=
  .next (match s.ctl.op with
    | some (.atsInvalidationRequest port pasid va order) =>
      s.startInval { id := 0, kind := 1, v := BitVec.ofNat 64 (va % 2 ^ 64 / 2 ^ 12 * 2 ^ 12 + min 64 order), port := port + 2 * pasid, rels := [], txs := [], toks := [],
                     cmds := [], runs := [], fills := [] }
    | _ => s)

/-- DTINV_WRITE (R146): at most 16 wait behind the one under way; a further write stalls its writer. Reserved size indexes are ignored. -/
def execDtinvWrite (s : State) : Out :=
  .next (match s.ctl.op with
    | some (.dtinvWrite v) =>
      let n := bits v.toNat 3 0
      if 10 ≤ n ∧ n ≤ 14 then s
      else if s.xl.invals.any (fun i => i.kind == 2) then
        (if s.xl.dtq.length < 16 then { s with xl.dtq := s.xl.dtq ++ [v] } else s.wait (.dtinvWrite v))
      else s.startInval { id := 0, kind := 2, v := v, port := 0, rels := [], txs := [], toks := [], cmds := [], runs := [], fills := [] }
    | _ => s)

end Sys2Proof.Machine
end

