-- ==== Sys2Proof/Machine/Scheduling.lean ====
section
/-! DEFINITION. Scheduling (R166 to R177, R386, R389, R412): placing task control blocks on clusters, binding their gangs to gang slots, stealing, pre-emption,
parking, the save blocks, and restore. -/

namespace Sys2Proof.Machine

open Sys2Proof

/-! ## The gangs of a task control block -/

/-- A gang to be bound: its number in the launch, its level-L group, the WID of each lane, and the lanes that have a thread. -/
structure Plan where
  gang : Nat
  group : Nat
  wids : List Nat
  live : List Bool
  xacq : Bool                -- it holds an extended block (R205)
deriving DecidableEq, Repr, Inhabited

/-- WID of lane 0. -/
def Plan.wid0 (p : Plan) : Nat := p.wids.headD 0

/-- Identifiers from here on make no thread: COUNT or SEED, and K where STOP has reached the TCB's cluster (R166, R191). -/
def Launch.limit (l : Launch) (t : TCB) : Nat :=
  match l.est with
  | some e =>
    match e.k with
    | some k => if t.place = 96 ∨ e.reached.contains t.place then min t.limit k else t.limit
    | none => t.limit
  | none => t.limit

/-- The gangs of a TCB's groups (R166, R180): lanes whose WID is at the limit or beyond are empty, and gangs of nothing else do not exist. -/
def Launch.plans (l : Launch) (t : TCB) : List Plan :=
  match t.recs with
  | _ :: _ =>
    [{ gang := t.gno, group := t.gno, wids := (List.range 32).map (fun i => (t.seqs.drop i).headD 0), live := (List.range 32).map (fun i => decide (i < t.recs.length)), xacq := false }]
  | [] =>
    let w0 := l.lrec.shift 1
    let sh := l.lrec.shift l.lrec.split
    ((List.range t.ngrp).flatMap (fun i => (List.range (2 ^ (sh - w0))).map (fun j => (t.first + i, (t.first + i) * 2 ^ sh + j * 2 ^ w0)))).filterMap (fun x =>
      if x.2 < l.limit t then
        some { gang := x.2 / 2 ^ w0 + t.gno - t.first, group := x.1 + t.gno - t.first, wids := (List.range 32).map (fun i => x.2 + i),
               live := (List.range 32).map (fun i => decide (i < 2 ^ w0) && decide (x.2 + i < l.limit t)), xacq := false }
      else none)

/-- The gangs of a saved group; XACQ stands in their headers (R175). -/
def State.savedPlans (s : State) (ctx group : Nat) : List Plan :=
  (s.run.saved.filter (fun x => x.ctx == ctx && x.group == group)).map (fun x =>
    { gang := x.gang, group := group, wids := x.wids, live := [], xacq := bit (fieldOf (s.bytesAs x.world (x.block + 0x7000) 16) 10 1) 0 })

/-- Scratchpad bytes of each gang of a TCB: its stage's (R179), or the record's. -/
def Launch.spadOf (l : Launch) (t : TCB) : Nat :=
  match l.graph with
  | some q => q.fld t.stage 8 4
  | none => l.lrec.spad

/-- The highest level up to L with domain CORE, whose groups share a core; 1 where there is none. -/
def LRec.coreLevel (r : LRec) : Nat := (List.range 5).foldl (fun n i => if i + 1 ≤ r.split ∧ r.domOf (i + 1) = 0 then i + 1 else n) 1

/-! ## Room on a cluster -/

/-- A gang slot taken, with the scratchpad lines of its allocation. -/
structure Spot where
  core : Nat
  slot : Nat
  base : Nat
  lines : Nat
  xacq : Bool
deriving DecidableEq, Repr, Inhabited

/-- The gang slots in use. -/
def State.spots (s : State) : List Spot := s.core.gangs.map (fun g => { core := g.core, slot := g.slot, base := g.base, lines := g.size / 128, xacq := g.xacq })

/-- The lowest free gang slot of a core and the lowest extent of scratchpad that is free, of 2,048 lines; a gang with XACQ needs one of the 16 extended blocks (R205). -/
def spotOn (used : List Spot) (core lines : Nat) (xacq : Bool) : Option Spot :=
  let mine := used.filter (fun x => x.core == core && decide (0 < x.lines))
  let free (b : Nat) : Bool := decide (b + lines ≤ 2048) && mine.all (fun x => decide (b + lines ≤ x.base) || decide (x.base + x.lines ≤ b))
  if xacq && decide (16 ≤ (used.filter (fun x => x.core == core && x.xacq)).length) then none
  else match (List.range 32).find? (fun i => !used.any (fun x => x.core == core && x.slot == i)),
      (if lines = 0 then some 0 else (sortBy (fun b => b) (0 :: mine.map (fun x => x.base + x.lines))).find? free) with
  | some slot, some b => some { core := core, slot := slot, base := b, lines := lines, xacq := xacq }
  | _, _ => none

/-- Gangs on one core; XACQ of each. -/
def spotsOn (core lines : Nat) : List Bool → List Spot → Option (List Spot)
  | [], _ => some []
  | b :: bs, used =>
    match spotOn used core lines b with
    | some x => (spotsOn core lines bs (used ++ [x])).map (fun l => x :: l)
    | none => none

/-- Groups of gangs, each on one of some cores: the first core that holds it. -/
def spotsFor (cores : List Nat) (lines : Nat) : List (List Bool) → List Spot → Option (List Spot)
  | [], _ => some []
  | n :: rest, used =>
    match cores.findSome? (fun c => spotsOn c lines n used) with
    | some l => (spotsFor cores lines rest (used ++ l)).map (fun m => l ++ m)
    | none => none

/-- The runs of gangs that must share a core; XACQ of each. -/
def coreUnits (key : Plan → Nat) : List Plan → List (List Bool)
  | [] => []
  | p :: rest =>
    match coreUnits key rest, rest with
    | n :: ns, q :: _ => if key p = key q then (p.xacq :: n) :: ns else [p.xacq] :: n :: ns
    | ns, _ => [p.xacq] :: ns

/-- Gang slots that the gangs of a graph's stage hold (R181). -/
def State.stageSlots (s : State) (ctx stage : Nat) : Nat := (s.core.gangs.filter (fun g => g.ctx == ctx && g.stage == stage)).length

/-- The gang slots where the gangs of a TCB fit on its cluster, with scratchpad, tile registers, save blocks, extended blocks and ways (R80, R170, R171, R181, R205, R389). A
seed TCB of more gangs than MAXGS is bound while its stage has none (DESIGN CHOICE, log 30). -/
def State.fit (s : State) (l : Launch) (t : TCB) (ps : List Plan) (blocks : Nat) : Option (List Spot) :=
  let c := t.place
  let held := ((s.core.gangs.filter (fun g => clusterOf g.core == c)).map (fun g => g.ntiles)).foldl (fun a b => a + b) 0
  let tiles := l.lrec.tiles == 0 || decide (held + ps.length * l.lrec.tiles ≤ Config.anvilTiles)
  let most : Bool :=
    match l.graph with
    | some q => (decide (s.stageSlots l.ctx t.stage + ps.length ≤ q.fld t.stage 17 1) || (t.recs.isEmpty && s.stageSlots l.ctx t.stage == 0)) &&
        (q.given.any (fun g => g.2 == t.stage) || !(q.given.any (fun g => g.1 == t.stage && s.run.tcbs.any (fun u => u.ctx == l.ctx && u.stage == g.2 && u.state == 0))))
    | none => true
  if s.waysOk l.world c && tiles && most && (s.freeBlocks blocks).isSome then
    let cores := match t.pinCore with
      | some k => if l.lrec.split = 1 then [k] else (List.range 4).map (fun i => 4 * c + i)
      | none => (List.range 4).map (fun i => 4 * c + i)
    spotsFor cores (l.spadOf t / 128) (coreUnits (fun p => if l.graph.isSome then p.gang else l.lrec.groupAt l.lrec.coreLevel p.wid0) ps) s.spots
  else none

/-! ## Binding -/

/-- A slot given to a stage has been taken. -/
def GraphS.taken (q : GraphS) (stage : Nat) : GraphS :=
  match q.given.find? (fun g => g.2 == stage) with
  | some g => { q with given := q.given.erase g }
  | none => q

/-- A thread at the start of its life (R166, R203). -/
def newThread (s : State) (entry : Nat) : Thread := { emptyThread with status := .runnable, pc := entry, first := true, stamp := s.ctl.freeCtr }

/-- The registers a record gives its lane: V0 to V13 (R180). -/
def recordRegs (recs : List (List Byte)) : NMap PVal :=
  ((List.range recs.length).zip recs).foldl (fun (m : NMap PVal) r =>
    (List.range 14).foldl (fun (m : NMap PVal) j => nset pzero m (32 * j + r.1) (clean (BitVec.ofNat 32 (fieldOf r.2 (8 + 4 * j) 4)))) m) []

/-- A gang in a gang slot at its bind (R203, R205, R218). -/
def State.newGang (s : State) (l : Launch) (t : TCB) (p : Plan) (x : Spot) (bs : List Nat) : Gang :=
  { core := x.core, slot := x.slot, ctx := l.ctx, gang := p.gang, group := p.group, tcb := t.id, stage := t.stage, world := l.world, wid0 := p.wid0, wids := p.wids,
    block := bs.headD 0, tblocks := bs.drop 1, v := recordRegs t.recs, o := [], xacq := false, sc := List.replicate 8 0, tiles := [], ntiles := l.lrec.tiles,
    spad := [], spois := [], size := 128 * x.lines, alloc := s.ctl.nextId, tseq := 0, base := x.base,
    regions := List.replicate 16 { rgva := 0, rgcf := 0 }, valid := [], written := [], preempt := false, restoring := false, saving := false,
    threads := p.live.map (fun b => if b then newThread s t.entry else emptyThread), bornAt := s.ctl.nextId }

/-- A gang takes its slot; nothing of an earlier gang of the slot is seen by it. -/
def State.seat (s : State) (g : Gang) : State :=
  { s.bump with core.gangs := s.core.gangs ++ [g], coh.fwd := s.coh.fwd.filter (fun (f : FwdEnt) => !(f.core == g.core && f.slot == g.slot)) }

/-- A cluster's parameter cache holds the parameters of 16 launches, the newest first (R172). -/
def State.cacheParams (s : State) (cluster : Nat) (ctxs : List Nat) : State :=
  let old := (tget s.run.params cluster).getD []
  let new := ctxs.foldl (fun (l : List Nat) c => c :: l.filter (fun x => x != c)) old
  { s with run.params := tset s.run.params cluster (new.take 16) }

/-- A QUEUED TCB is bound, where it fits (R170): each gang takes its slot and its save blocks, the lowest free ones. -/
def State.bindOne (s : State) (t : TCB) : Option State :=
  match s.launch t.ctx with
  | none => some { s with run.tcbs := s.run.tcbs.filter (fun (u : TCB) => u.id != t.id) }
  | some l =>
    let ps := l.plans t
    if ps.isEmpty then some ({ s with run.tcbs := s.run.tcbs.filter (fun (u : TCB) => u.id != t.id) }.checkDone t.ctx)
    else
      match s.fit l t ps (ps.length * l.lrec.blocks) with
      | none => none
      | some xs =>
        let s1 := (ps.zip xs).foldl (fun (s : State) y =>
          match s.freeBlocks l.lrec.blocks with
          | some bs => ({ s with run.blocks := s.run.blocks ++ bs }).seat (s.newGang l t y.1 y.2 bs)
          | none => s) s
        some ((((s1.updTcb t.id (fun u => { u with state := 1, passed := 0 })).takeWays l.world t.place).updGraph t.ctx (fun q => q.taken t.stage)).updLaunch t.ctx
          (fun l => { l with waitSince := s.ctl.time }))

/-- The TCBs that are bound only together with one (R168). -/
def State.unitOf (s : State) (t : TCB) : List TCB :=
  match s.launch t.ctx with
  | some l => if t.pinned && l.lrec.wide then s.run.tcbs.filter (fun u => u.ctx == t.ctx && u.unit == t.unit && u.state == 0) else [t]
  | none => [t]

/-- All TCBs of a unit are bound, where each is in a queue and all fit at once (R168). -/
def State.bindUnit (s : State) : List TCB → Option State
  | [] => some s
  | t :: rest =>
    if t.place ≥ 96 then none
    else
      match s.bindOne t with
      | some s1 => s1.bindUnit rest
      | none => none

/-- A context's PREEMPTED TCBs go before its QUEUED ones (R170); by fuel. -/
def preemptedFirst : Nat → List TCB → List TCB
  | 0, l => l
  | _, [] => []
  | n + 1, t :: rest =>
    match (if t.state = 3 then none else rest.find? (fun u => u.state == 3 && u.ctx == t.ctx)) with
    | some u => u :: preemptedFirst n (t :: rest.filter (fun x => x.id != u.id))
    | none => t :: preemptedFirst n rest

/-- A cluster's queue in the order of its scan (R170): by class, highest first, then by arrival. -/
def State.scanOrder (s : State) (cluster : Nat) : List TCB :=
  let q := s.run.tcbs.filter (fun t => t.place == cluster && t.state != 1)
  preemptedFirst (q.length * 2) (sortBy (fun t => 7 - (match s.launch t.ctx with | some l => l.cls | none => 0)) q)

/-- The saved group of a PREEMPTED TCB. -/
def State.savedGroup (s : State) (t : TCB) : Option Nat := (s.run.saved.find? (fun x => x.tcb == t.id)).map (fun x => x.group)

/-- A PREEMPTED TCB fits on its cluster; its gangs keep their save blocks. -/
def State.restoreFit (s : State) (t : TCB) : Option (List Plan × List Spot) :=
  match s.launch t.ctx, s.savedGroup t with
  | some l, some grp => (s.fit l t (s.savedPlans t.ctx grp) 0).map (fun xs => (s.savedPlans t.ctx grp, xs))
  | _, _ => none

/-- TCBs passed over by a bind. -/
def State.passOver (s : State) (ids : List Nat) : State :=
  { s with run.tcbs := s.run.tcbs.map (fun (t : TCB) => if ids.contains t.id then { t with passed := t.passed + 1 } else t) }

/-- The scan of a queue: the first TCB that fits is bound, or its restore begins; a TCB passed over 8 times stops it (R170). -/
def State.scan (s : State) (cluster : Nat) (skipped : List Nat) : List TCB → State × Bool
  | [] => (s, false)
  | t :: rest =>
    let r : Option State :=
      match s.savedGroup t with
      | some grp => (s.restoreFit t).map (fun _ => s.send (.groupRestore t.ctx grp))
      | none => s.bindUnit (s.unitOf t)
    -- a restore that is under way has its slots; it is passed over and passes over none
    if (s.savedGroup t).any (fun grp => s.due (fun e => e == .groupRestore t.ctx grp)) then (s, false)
    else match r with
    | some s1 => (s1.passOver skipped, (s.savedGroup t).isNone)
    | none => if t.passed ≥ 8 then (s, false) else s.scan cluster (t.id :: skipped) rest

/-- A cluster may ask for work (R172): no QUEUED TCB, 32 free gang slots, no request outstanding and no retry due. -/
def State.mayAsk (s : State) (c : Nat) : Bool :=
  !(s.run.tcbs.any (fun t => t.place == c && t.state == 0)) && decide ((s.core.gangs.filter (fun g => clusterOf g.core == c)).length ≤ 96) &&
    (tget s.run.steals c).isNone && !s.due (fun e => e == .stealRequest c || e == .stealRetryTimer c)

/-- Clusters without work ask for some. -/
def State.pokeThieves (s : State) : State := s.sendAll (((List.range 96).filter s.mayAsk).map Ev.stealRequest)

/-- TCB_BIND (R170): one TCB at a time. -/
def execTcbBind (s : State) : Out :=
  .next (match s.ctl.op with
    | some (.tcbBind c) =>
      let r := s.scan c [] (s.scanOrder c)
      if r.2 then ((r.1.send (.tcbBind c)).pokePlaces) else if r.1.mayAsk c && !r.1.run.launches.isEmpty then r.1.send (.stealRequest c) else r.1
    | _ => s)

/-! ## Placement -/

/-- The temperature of a column, in steps of 2 °C (R169). -/
def State.tempKey (s : State) (c : Nat) : Nat := (readings ((s.pkg.tcol.drop c).headD 0).toNat).foldl max 0 / 16

/-- TCBs in a cluster's queue. -/
def State.queued (s : State) (c : Nat) : Nat := (s.run.tcbs.filter (fun t => t.place == c && t.state != 1)).length

/-- The cluster of the least key among some (R169): HOT columns only where all are hot. -/
def State.coolest (s : State) (cs : List Nat) : Option Nat :=
  let cool := cs.filter (fun c => !bit ((s.pkg.tcol.drop c).headD 0).toNat 30)
  match (if cool.isEmpty then cs else cool) with
  | [] => none
  | c :: rest =>
    let key (c : Nat) : Nat := (s.tempKey c * 2 ^ 32 + s.queued c) * 96 + c
    some (rest.foldl (fun a b => if key b < key a then b else a) c)

/-- The clusters within a TCB's placement constraint: its pin's (R389), one with ways (R80), one on the stack of its STACK-domain group and with room for its unit (R168). -/
def State.allowed (s : State) (l : Launch) (t : TCB) : List Nat :=
  let mates := s.run.tcbs.filter (fun u => u.ctx == t.ctx && u.id != t.id && u.unit == t.unit && decide (u.place < 96))
  let wide := t.pinned && l.lrec.wide
  let stack := (mates.find? (fun u => u.stackUnit == t.stackUnit)).map (fun u => u.place / 32)
  let pin := match s.run.tcbs.find? (fun u => u.ctx == t.ctx && u.unit == t.unit && u.stackUnit == t.stackUnit && u.pinCore.isSome) with
    | some u => u.pinCore.map stackOf
    | none => none
  (List.range 96).filter (fun c =>
    s.waysOk l.world c &&
      (match t.pinCore with
       | some k => c == clusterOf k
       | none => !wide || (l.lrec.clusterHolds (((mates.filter (fun u => u.place == c)).map (fun u => u.ngrp)).foldl (fun a b => a + b) t.ngrp) &&
        (l.lrec.topOf 2 2 == 0 || ((match stack with | some k => c / 32 == k | none => true) && (match pin with | some k => c / 32 == k | none => true))))))

/-- Those of them whose queue has room (R169). -/
def State.candidates (s : State) (l : Launch) (t : TCB) : List Nat := (s.allowed l t).filter (fun c => decide (s.queued c < 64))

/-- A TCB enters the queue of a cluster, placed or stolen (R169, R172): its count of times passed over (R170) starts at 0 there (DESIGN CHOICE, log 106). -/
def State.enqueue (s : State) (t : TCB) (c : Nat) : State :=
  let u : TCB := { t with place := c, passed := 0 }
  let s1 := { s with run.tcbs := s.run.tcbs.filter (fun (x : TCB) => x.id != t.id) ++ [u] }.cacheParams c [t.ctx]
  if s1.due (fun e => e == .tcbBind c) then s1 else s1.send (.tcbBind c)

/-- Each TCB of a unit is placed; none where one finds no place (R168). -/
def State.placeAll (s : State) (l : Launch) : List TCB → Option State
  | [] => some s
  | t :: rest =>
    match s.coolest (s.candidates l t) with
    | some c => (s.enqueue t c).placeAll l rest
    | none => none

/-- An estimate's TCB is released once its last identifier is within the reorder window (R188). -/
def Launch.released? (l : Launch) (t : TCB) : Bool :=
  match l.est with
  | some e => decide (min t.limit ((t.first + t.ngrp) * 2 ^ l.lrec.shift l.lrec.split) ≤ e.p + 4096)
  | none => true

/-- TCB_PLACE (R168, R169, R177, R188, R389): a TCB in the Reeve goes to a cluster, or waits. -/
def execTcbPlace (s : State) : Out :=
  .next (match s.ctl.op with
    | some (.tcbPlace id) =>
      match s.tcb id with
      | none => s
      | some t =>
        match s.launch t.ctx with
        | none => s
        | some l =>
          let ready := t.place == 96 && s.waits t
          let members := if (s.savedGroup t).isSome then [t] else sortBy (fun (u : TCB) => if u.pinCore.isSome then 0 else 1) ((s.unitOf t).filter (fun u => u.place == 96))
          if !ready || !members.all l.released? || ((s.savedGroup t).isNone && !l.unitCut t) then s
          else
            match s.placeAll l members with
            | some s1 => (s1.cutMore t.ctx).pokeThieves
            | none => s
    | _ => s)

/-! ## Stealing (R172) -/

/-- Hops between the routers of two clusters of one stack (R16). -/
def hops (a b : Nat) : Nat :=
  let ra := a % 32 / 2
  let rb := b % 32 / 2
  let d (x y : Nat) : Nat := (x - y) + (y - x)
  d (ra % 4) (rb % 4) + d (ra / 4) (rb / 4)

/-- The victims a thief tries, in order. -/
def victims (c : Nat) : List Nat :=
  let k := c / 32
  sortBy (fun v => 32 * hops c v + v % 32) ((List.range 32).map (fun i => 32 * k + i) |>.filter (fun v => v != c)) ++
    (List.range 32).map (fun i => 32 * ((k + 1) % 3) + i) ++ (List.range 32).map (fun i => 32 * ((k + 2) % 3) + i)

/-- The next victim is asked, or the thief retries after 4,096 cycles. -/
def State.askNext (s : State) (thief : Nat) (vs : List Nat) : State :=
  match vs with
  | v :: rest => { s with run.steals := tset s.run.steals thief rest }.send (.stealServe v thief)
  | [] =>
    let s1 := { s with run.steals := tdel s.run.steals thief }
    if s1.run.launches.isEmpty then s1 else s1.after (4096 * perCycle) (.stealRetryTimer thief)

/-- STEAL_REQUEST (R172). -/
def execStealRequest (s : State) : Out :=
  .next (match s.ctl.op with
    | some (.stealRequest c) => if s.mayAsk c then s.askNext c (victims c) else s
    | _ => s)

/-- STEAL_SERVE (R172): half of the victim's QUEUED TCBs that may move, from the tail; binding goes first. -/
def execStealServe (s : State) : Out :=
  .next (match s.ctl.op with
    | some (.stealServe v c) =>
      match tget s.run.steals c with
      | none => s
      | some rest =>
        if s.ctl.agenda.any (fun e => e == .tcbBind v) then s.wait (.stealServe v c)
        else
          let may := s.run.tcbs.filter (fun t => t.place == v && t.state == 0 && !t.pinned && s.waysOk t.wtag c)
          let take := may.drop (may.length - min (may.length / 2) (64 - s.queued c))
          if take.isEmpty then s.askNext c rest
          else
            let s1 := take.foldl (fun (s : State) t => s.enqueue t c) { s with run.steals := tdel s.run.steals c }
            s1.pokePlaces
    | _ => s)

/-- STEAL_RETRY_TIMER (R172). -/
def execStealRetryTimer (s : State) : Out :=
  .next (match s.ctl.op with
    | some (.stealRetryTimer c) => if s.mayAsk c then s.send (.stealRequest c) else s
    | _ => s)

/-! ## Pre-emption: stopping a group (R173, R174) -/

/-- The gangs of a level-L group that are bound. -/
def State.groupGangs (s : State) (ctx group : Nat) : List Gang := s.core.gangs.filter (fun g => g.ctx == ctx && g.group == group)

/-- A lane leaves its issue group with its run abandoned for it alone: effects, log and tokens go, and its thread stands stopped at the run's first word. -/
def State.abandonLane (s : State) (r : Grp) (l : RLane) : State :=
  let s1 := s.updGrp r.id (fun r =>
    { r with
      lanes := r.lanes.filter (fun x => x.lane != l.lane),
      fx := r.fx.filter (fun f => f.lane? != some l.lane),
      arith := (r.arith.map (fun a => if a.1 = l.slot then (a.1, a.2.1, setBit a.2.2 l.lane false) else a)).filter (fun a => a.2.2 != 0) })
  let s2 := { s1 with core.toks := s1.core.toks.map (fun (t : Token) => if t.grp = r.id then
      { t with lanes := t.lanes.map (fun (x : TLane) => if x.slot = l.slot ∧ x.lane = l.lane then { x with drop := true } else x) } else t) }
  let s3 := (s2.cancel (fun e => e == .waitTimeout r.core l.slot l.lane r.id)).unsend (fun e => e == .waitTimeout r.core l.slot l.lane r.id)
  let s4 := (s3.killOps r.core l.slot l.lane).leave r.core l.slot l.lane (fun t => { t with stopped := true })
  match s4.grp r.id with
  | some r1 =>
    let left := r1.lanes.any (fun x => x.slot == l.slot)
    let s5 := if left then s4 else (s4.undoAllocs r1 (fun x => x == l.slot)).updGrp r.id (fun r => { r with allocs := r.allocs.filter (fun a => a.1 != l.slot) })
    if r1.lanes.isEmpty then s5.dropGrp r.id else s5.finishGrp r.id
  | none => s4

/-- Lanes of a gang whose part of an SVC or EMIT has taken effect go on in a group of their own, to commit alone. -/
def State.splitLanes (s : State) (r : Grp) (slot : Nat) : State :=
  let mine (l : RLane) : Bool := l.slot == slot && l.did
  let names := (r.lanes.filter mine).map (fun l => l.lane)
  if names.isEmpty then s
  else
    let moved (f : Fx) : Bool := (match f.lane? with | some l => names.contains l | none => false) || f.slot? == some slot
    let masked (a : Nat × Nat × Nat) (keep : Bool) : Nat × Nat × Nat :=
      (a.1, a.2.1, maskOf ((lanesOf a.2.2).filter (fun l => (a.1 == slot && names.contains l) == keep)))
    let new : Grp :=
      { r with id := s.ctl.nextId, stage := 9, lanes := r.lanes.filter mine, fx := r.fx.filter moved,
               arith := (r.arith.map (fun a => masked a true)).filter (fun a => a.2.2 != 0) }
    let s1 := s.updGrp r.id (fun r =>
      { r with lanes := r.lanes.filter (fun l => !mine l), fx := r.fx.filter (fun f => !moved f), allocs := r.allocs.filter (fun a => a.1 != slot),
               arith := (r.arith.map (fun a => masked a false)).filter (fun a => a.2.2 != 0) })
    let s2 := { s1.bump with core.issue := s1.core.issue ++ [new] }
    match s2.grp r.id with
    | some r1 => if r1.lanes.isEmpty then s2.dropGrp r.id else s2
    | none => s2

/-- A lane waits at BAR or WAIT (R174). -/
def Grp.waitsAt (r : Grp) (l : RLane) : Bool :=
  !l.done && r.trailer && (match r.fx.find? (fun f => f.waits && f.lane? == some l.lane) with
    | some (.bar _ _) => true
    | some (.wait _ _ _ _ _) => true
    | _ => false)

/-- Threads of a gang that wait at BAR or WAIT, or at an SVC or EMIT on a full ring, stop there (R174). -/
def State.stopWaiters (s : State) (g : Gang) : State :=
  let mine := s.core.issue.filter (fun r => r.core == g.core && r.lanes.any (fun l => l.slot == g.slot))
  mine.foldl (fun (s : State) r =>
    let s1 := if r.stage = 10 then s.splitLanes r g.slot else s
    (r.lanes.filter (fun l => l.slot == g.slot && (r.waitsAt l || (r.stage == 10 && !l.did)))).foldl (fun (s : State) l => s.abandonLane r l) s1) s

/-- Every thread of a gang is stopped, has ended, or is parked. -/
def Gang.atRest (g : Gang) : Bool := g.threads.all (fun t => t.status != .runnable || (!t.inRun && (t.stopped || t.hold == .noEntry)))

/-- What R174 does from the wait for tokens on, as far as it gets: whether the group can now be saved. Stores and region lines are sent on their way. -/
def State.quiesce (s : State) (ctx group : Nat) : State × Bool :=
  let gs := s.groupGangs ctx group
  let busy := gs.any (fun g => s.core.toks.any (fun t => t.core == g.core && t.lanes.any (fun l => l.slot == g.slot)) ||
    s.eng.tasks.any (fun t => t.ctx == ctx && t.gang == g.gang && !t.finished))
  if busy then (s, false)
  else
    let s1 := gs.foldl (fun (s : State) g => ((List.range 32).foldl (fun (s : State) l => s.drain g.core g.slot l) s).flushRegions g.core g.slot) s
    (s1, gs.all (fun g =>
      (s1.slotEntries g.core g.slot).isEmpty && (s1.coh.txs.filter (fun t => t.core == g.core && t.slot == g.slot)).all (fun t => s1.acked t.id 5) &&
      !(s1.coh.rels.any (fun r => r.core == g.core && r.slot == g.slot)) &&
      (match s1.gang g.core g.slot with | some x => x.written.isEmpty | none => true) && !s1.writingBack g.core g.slot))

/-! ## Save blocks (R175, R176) -/

/-- STATUS in a thread-state entry. -/
def statusCode (x : Status) : Nat :=
  match x with
  | .runnable => 0 | .joinwait => 1 | .svcwait => 2 | .faultwait => 3 | .exited => 4 | .empty => 5

/-- The status of a code. -/
def statusOf (n : Nat) : Status := ([.runnable, .joinwait, .svcwait, .faultwait, .exited, .empty] : List Status)[n]?.getD .empty

/-- A thread-state entry. -/
def threadEntry (t : Thread) : List Byte :=
  leBytes 4 t.pc ++ leBytes 1 t.preds ++ leBytes 1 t.depth ++ leBytes 1 (statusCode t.status) ++ leBytes 1 t.calls.length ++ leBytes 4 t.joinPc ++ leBytes 4 t.joinMask ++
    leBytes 2 t.fid ++ leBytes 1 t.ppois ++ zeros 4 ++ leBytes 1 t.dl ++ zeros 8

/-- A call stack, oldest entry first (log 29). -/
def callEntry (t : Thread) : List Byte := ((t.calls.reverse.flatMap (fun c => leBytes 4 c)) ++ zeros 64).take 64

/-- The gang header, the region descriptors and the tile block addresses, from 0x7000 on. -/
def Gang.header (g : Gang) (parked : Bool) : List Byte :=
  leBytes 8 g.wid0 ++ leBytes 2 g.gang ++ leBytes 1 ((if g.xacq then 1 else 0) + (if parked then 4 else 2)) ++ zeros 1 ++ leBytes 2 (maskOf g.tiles) ++ zeros 2 ++
    leBytes 8 (g.tblocks.headD 0) ++ zeros 8 ++ g.sc.flatMap (fun v => leBytes 4 v.toNat) ++
    g.regions.flatMap (fun r => leBytes 8 r.rgva.toNat ++ leBytes 8 r.rgcf.toNat) ++
    (List.range 8).flatMap (fun i => leBytes 8 ((g.tblocks.drop i).headD 0)) ++ zeros 0xE80

/-- Values, or tags, of registers from a code on. -/
def Gang.regBytes (g : Gang) (f : PVal → Word) (from_ n : Nat) : List Byte :=
  (List.range n).flatMap (fun v => (List.range 32).flatMap (fun l => leBytes 4 (f (g.reg (from_ + v) l)).toNat))

/-- A gang is written into its blocks; the reply area stays as it is (R175). A world's gang is stored sealed (R79, R81). -/
def State.saveBlocks (s : State) (g : Gang) (parked : Bool) : State :=
  let b := g.block
  let s1 := s.putAs g.world b (g.regBytes (fun p => p.val) 0 64)
  let s2 := if g.xacq then s1.putAs g.world (b + 0x2000) (g.regBytes (fun p => p.val) 64 32) else s1
  let s3 := s2.putAs g.world (b + 0x3400) ((List.range 32).flatMap (fun l => threadEntry (g.thread l)) ++ (List.range 32).flatMap (fun l => callEntry (g.thread l)) ++
    g.regBytes (fun p => p.tag) 0 96 ++ g.header parked)
  let names := sortBy (fun n => n) g.tiles
  ((List.range names.length).zip names).foldl (fun (s : State) e =>
    match s.eng.tregs.find? (fun t => t.ctx == g.ctx && t.gang == g.gang && t.name == e.2) with
    | some t => s.putAs g.world ((g.tblocks.drop (e.1 / 2)).headD 0 + 16384 * (e.1 % 2)) ((List.range 4096).flatMap (fun w => leBytes 4 (nget 0 t.words w).toNat))
    | none => s) s3

/-- The saved gang's record: what its blocks have no place for. -/
def Gang.saved (g : Gang) (parked : Bool) (tcb : Nat) : Saved :=
  { ctx := g.ctx, group := g.group, gang := g.gang, tcb := tcb, parked := parked, block := g.block, tblocks := g.tblocks, wids := g.wids, stage := g.stage,
    world := g.world, tpois := [], threads := g.threads.map (fun t => { t with inRun := false, stopped := false, hold := match t.hold with | .release _ => .none | h => h, loaded := false, await := 0 }) }

/-- A group's TCB becomes PREEMPTED and returns to the Reeve, or QUEUED for its stage where a donor gives up its slot (R181); a group that is one of several becomes a TCB
of its own (R412). Its number. -/
def State.detach (s : State) (id group state : Nat) : State × Nat :=
  match s.tcb id with
  | none => (s, id)
  | some t =>
    if t.ngrp ≤ 1 then (s.updTcb id (fun t => { t with state := state, place := 96, passed := 0, since := 0 }), id)
    else
      let i := group - t.gno
      let u : TCB := { t with id := s.ctl.nextId, first := t.first + i, gno := t.gno + i, ngrp := 1, state := state, place := 96, passed := 0, since := 0 }
      ({ s.bump with run.tcbs := s.run.tcbs ++ [u] }, s.ctl.nextId)

/-- A saved gang after threads of it have ended under CANCEL: their lanes leave the joins of the others, and joins that are met release (R191, R214, R215). -/
def Saved.endLanes (x : Saved) (out : Nat → Bool) : Saved :=
  let ended := ((List.range 32).zip x.threads).map (fun (e : Nat × Thread) =>
    if out e.1 then { e.2 with status := Status.exited } else if e.2.status = .joinwait then { e.2 with joinMask := maskOf ((lanesOf e.2.joinMask).filter (fun l => !out l)) } else e.2)
  let th (l : Nat) : Thread := (ended.drop l).headD emptyThread
  let ready (l : Nat) (t : Thread) : Bool := t.status == .joinwait && (lanesOf t.joinMask).all (fun m =>
    m == l || (th m).status == .exited || (th m).status == .empty || ((th m).status == .joinwait && (th m).joinPc == t.joinPc))
  { x with threads := ((List.range 32).zip ended).map (fun (e : Nat × Thread) => if ready e.1 e.2 then { e.2 with status := .runnable, pc := e.2.joinPc } else e.2) }

/-- Threads of saved groups at or above K end without being restored (R191): their stores were acknowledged at PACKAGE before the save (R174), which is the release of EXIT. A
group with none left is discarded, and one with a thread released from its join is eligible. -/
def State.cancelSaved (s : State) (ctx k : Nat) (which : TCB → Bool) : State :=
  let tcbs := (s.run.tcbs.filter (fun t => t.ctx == ctx && t.state == 3 && which t)).map (fun t => t.id)
  let xs := s.run.saved.filter (fun x => tcbs.contains x.tcb)
  let out (x : Saved) (l : Nat) : Bool := ((x.threads.drop l).headD emptyThread).live && decide (k ≤ (x.wids.drop l).headD 0)
  let fids := xs.flatMap (fun x => ((List.range 32).filter (out x)).filterMap (fun l =>
    let t := (x.threads.drop l).headD emptyThread
    if t.status = Status.faultwait then some t.fid else none))
  let hit := xs.filter (fun x => (List.range 32).any (out x))
  let s1 := hit.foldl (fun (s : State) x =>
    let y := x.endLanes (out x)
    s.putAs x.world (x.block + 0x3400) ((List.range 32).flatMap (fun l => threadEntry ((y.threads.drop l).headD emptyThread)))) s
  let s2 := { s1 with run.saved := s1.run.saved.map (fun (x : Saved) => if hit.any (fun y => y.ctx == x.ctx && y.gang == x.gang) then x.endLanes (out x) else x) }
  let s3 := if hit.isEmpty then s2 else s2.updLaunch ctx (fun l => { l with est := l.est.map (fun (e : EstS) => { e with cancelled := true }) })
  let gone := (s3.run.tcbs.filter (fun t => tcbs.contains t.id)).filter (fun t =>
    (s3.run.saved.filter (fun x => x.tcb == t.id)).all (fun x => x.threads.all (fun t => !t.live)))
  let s4 := gone.foldl (fun (s : State) t =>
    let mine := s.run.saved.filter (fun x => x.tcb == t.id)
    { s.releaseBlocks (s.worldOfCtx ctx) (mine.flatMap (fun x => x.block :: x.tblocks)) with
      run.saved := s.run.saved.filter (fun (x : Saved) => x.tcb != t.id), run.tcbs := s.run.tcbs.filter (fun (u : TCB) => u.id != t.id) }) s3
  let s5 := fids.foldl (fun (s : State) f => if !s.boundWaits ctx f ∧ !s.savedNeeds ctx f then (s.clearReply ctx f).freeFault ctx f else s) s4
  hit.foldl (fun (s : State) x => s.placeSaved ctx x.group) s5

/-- A group is saved: its gangs give up their slots, tiles and scratchpad (R174). -/
def State.saveGroup (s : State) (ctx group : Nat) (parked : Bool) : State :=
  let gs := s.groupGangs ctx group
  match gs with
  | [] => s
  | g0 :: _ =>
    let d := s.detach g0.tcb group (if s.run.preempts.any (fun p => p.1 == ctx && p.2.1 == group && p.2.2 == 4096) then 0 else 3)
    let s1 := gs.foldl (fun (s : State) g => (List.range 32).foldl (fun (s : State) l => s.clearLoaded g.core g.slot l) (s.saveBlocks g parked)) d.1
    let gone (core slot : Nat) : Bool := gs.any (fun g => g.core == core && g.slot == slot)
    let s2 := { s1 with
      run.saved := s1.run.saved ++ gs.map (fun (g : Gang) => { g.saved parked d.2 with
        tpois := (s1.eng.tregs.filter (fun (t : TileReg) => t.ctx == g.ctx && t.gang == g.gang)).map (fun (t : TileReg) => (t.name, t.pois)) }),
      run.preempts := s1.run.preempts.filter (fun (p : Nat × Nat × Nat) => !(p.1 == ctx && p.2.1 == group)),
      core.gangs := s1.core.gangs.filter (fun (y : Gang) => !gone y.core y.slot),
      coh.fwd := s1.coh.fwd.filter (fun (f : FwdEnt) => !gone f.core f.slot),
      eng.tregs := s1.eng.tregs.filter (fun (t : TileReg) => !(t.ctx == ctx && gs.any (fun (g : Gang) => g.gang == t.gang))) }
    let s3 := if d.2 != g0.tcb && !(s2.core.gangs.any (fun g => g.tcb == g0.tcb)) then
        s2.updTcb g0.tcb (fun t => if t.state = 1 then { t with state := 2, place := 97 } else t) else s2
    let s4 := (s3.pokeBinds (gs.map (fun g => clusterOf g.core))).placeSaved ctx group
    -- a draw saved after the stop, before STOP has reached its cluster, is in the Reeve, which has made it; one that STOP has found running goes on (R191)
    match s4.launch ctx with
    | some l => match l.est.bind (fun e => e.k) with
      | some k => if bit l.lrec.flags 0 && !(l.est.any (fun e => e.reached.contains (clusterOf g0.core))) then s4.cancelSaved ctx k (fun t => t.id == d.2) else s4
      | none => s4
    | none => s4

/-- A group is being saved from now on, or is not: replies accepted before that are applied again (R387). -/
def State.setSaving (s : State) (ctx group : Nat) (b : Bool) : State :=
  let gs := s.groupGangs ctx group
  if gs.all (fun g => g.saving == b) then s
  else
    let s1 := { s with core.gangs := s.core.gangs.map (fun (g : Gang) => if g.ctx = ctx ∧ g.group = group then { g with saving := b } else g) }
    if b then s1 else gs.foldl (fun (s : State) g => (List.range 32).foldl (fun (s : State) l => s.tryReply g.core g.slot l) s) s1

/-- PREEMPT_SAVE (R174): the group stops, quiesces and is saved; until then it is looked at again. A gang at a debug stop is waited for. -/
def execPreemptSave (s : State) : Out :=
  .next (match s.ctl.op with
    | some (.preemptSave ctx group) =>
      let again (s : State) : State := s.wait (.preemptSave ctx group)
      if (s.groupGangs ctx group).isEmpty then { s with run.preempts := s.run.preempts.filter (fun (p : Nat × Nat × Nat) => !(p.1 == ctx && p.2.1 == group)) }
      else
        let s1 := (s.groupGangs ctx group).foldl (fun (s : State) g => s.stopWaiters g) s
        if !((s1.groupGangs ctx group).all (fun g => g.atRest && !s1.atStop g)) then again (s1.setSaving ctx group false)
        else
          let q := (s1.setSaving ctx group true).quiesce ctx group
          if q.2 then q.1.saveGroup ctx group false else again q.1
    | _ => s)

/-- A group that parks (R386): threads at an SVC or EMIT on a full ring, and those at BAR or WAIT, stop there; the former go on when the ring has room. -/
def State.parkStop (s : State) (ctx group : Nat) : State :=
  let at_ (r : Grp) (l : RLane) : Bool := !l.did && (match s.gang r.core l.slot with
    | some g => g.ctx == ctx && g.group == group
    | none => false)
  let ws := s.core.issue.flatMap (fun r => if r.stage = 10 then (r.lanes.filter (at_ r)).map (fun l => (r.core, l.slot, l.lane)) else [])
  let s1 := (s.groupGangs ctx group).foldl (fun (s : State) g => s.stopWaiters g) s
  ws.foldl (fun (s : State) w => s.updThread w.1 w.2.1 w.2.2 (fun t => { t with hold := .ring })) s1

/-- GANG_PARK (R386): from the wait for tokens on, while the condition holds. -/
def execGangPark (s : State) : Out :=
  .next (match s.ctl.op with
    | some (.gangPark ctx group) =>
      if s.run.preempts.any (fun p => p.1 == ctx && p.2.1 == group) then s
      else if !s.parkable ctx group then s.setSaving ctx group false
      else
        let q := (s.setSaving ctx group true).quiesce ctx group
        if q.2 then (q.1.parkStop ctx group).saveGroup ctx group true
        else q.1.wait (.gangPark ctx group)
    | _ => s)

/-- A group is marked for pre-emption, for a launch. -/
def State.startPreempt (s : State) (ctx group for_ : Nat) : State :=
  { s with
    core.gangs := s.core.gangs.map (fun (g : Gang) => if g.ctx = ctx ∧ g.group = group then { g with preempt := true } else g),
    run.preempts := s.run.preempts ++ [(ctx, group, for_)] }.send (.preemptSave ctx group)

/-- A group may be pre-empted: not of a PINNED TCB, not ending, not chosen already, at no debug stop. -/
def State.mayPreempt (s : State) (g : Gang) : Bool :=
  (match s.tcb g.tcb with | some t => !t.pinned | none => false) && (match s.launch g.ctx with | some l => l.ending.isNone | none => false) &&
    !(s.run.preempts.any (fun p => p.1 == g.ctx && p.2.1 == g.group)) && !s.atStop g

/-- The group that R173 takes: of the lowest class, then the one bound most recently. -/
def worst (cls : Gang → Nat) : List Gang → Option Gang
  | [] => none
  | g :: rest => some (rest.foldl (fun a b => if cls b < cls a ∨ (cls b = cls a ∧ a.bornAt < b.bornAt) then b else a) g)

/-- The TCBs of a launch that wait for gang slots and have done so for 100 µs, since they came to wait and since the launch last bound one. -/
def State.waitingTcbs (s : State) (l : Launch) : List TCB :=
  s.run.tcbs.filter (fun t => t.ctx == l.ctx && s.waits t && decide (max l.waitSince t.since + 100 * perUs ≤ s.ctl.time))

/-- The group that R173 pre-empts for a waiting TCB of a launch: where the TCB can bind, of the lowest class two or more below the launch's. -/
def State.victimFor (s : State) (l : Launch) (t : TCB) : Option Gang :=
  let cls (g : Gang) : Nat := match s.launch g.ctx with | some l => l.cls | none => 0
  let at_ := if t.place = 96 then s.allowed l t else [t.place]
  worst cls (s.core.gangs.filter (fun g => at_.contains (clusterOf g.core) && decide (cls g + 2 ≤ l.cls) && s.mayPreempt g))

/-- PREEMPT_TIMER (R173): looked at every 100 µs while the launch lives, for the first of its TCBs that have waited and for which a group can be found. -/
def execPreemptTimer (s : State) : Out :=
  .next (match s.ctl.op with
    | some (.preemptTimer ctx) =>
      match s.launch ctx with
      | none => s
      | some l =>
        if l.ending.isSome then s
        else
          let s1 := s.after (100 * perUs) (.preemptTimer ctx)
          if s.run.preempts.any (fun p => p.2.2 == ctx) then s1
          else
            match (s.waitingTcbs l).findSome? (s.victimFor l) with
            | some g => s1.startPreempt g.ctx g.group ctx
            | none => s1
    | _ => s)

/-! ## Restore (R177) -/

/-- The lane registers of a save block. -/
def blockRegs (b : List Byte) (xacq : Bool) : NMap PVal :=
  (List.range (if xacq then 96 else 64)).foldl (fun (m : NMap PVal) v =>
    (List.range 32).foldl (fun (m : NMap PVal) l =>
      nset pzero m (32 * v + l) { val := BitVec.ofNat 32 (fieldOf b (128 * v + 4 * l) 4), tag := BitVec.ofNat 32 (fieldOf b (0x4000 + 128 * v + 4 * l) 4) }) m) []

/-- A thread from its thread-state entry and call stack, with what the block has no place for. -/
def blockThread (b : List Byte) (lane : Nat) (t : Thread) (stamp : Nat) : Thread :=
  let e := 0x3400 + 32 * lane
  { t with
    pc := fieldOf b e 4, preds := fieldOf b (e + 4) 1, depth := fieldOf b (e + 5) 1, status := statusOf (fieldOf b (e + 6) 1),
    calls := ((List.range (min 16 (fieldOf b (e + 7) 1))).map (fun i => fieldOf b (0x3800 + 64 * lane + 4 * i) 4)).reverse,
    joinPc := fieldOf b (e + 8) 4, joinMask := fieldOf b (e + 12) 4, fid := fieldOf b (e + 16) 2 % 1024, ppois := fieldOf b (e + 18) 1, dl := fieldOf b (e + 23) 1,
    first := true, stamp := stamp, hold := if t.hold = .ring then .none else t.hold }

/-- A saved gang in its new slot. -/
def State.loadGang (s : State) (l : Launch) (t : TCB) (x : Saved) (p : Spot) : Gang :=
  let b := s.bytesAs x.world x.block 32768
  let h := b.drop 0x7000
  let xacq := bit (fieldOf h 10 1) 0
  let fids := (s.xl.freply.filter (fun e => e.1.1 == l.ctx)).map (fun e => e.1.2)
  let v := blockRegs b xacq
  { s.newGang l t { gang := x.gang, group := x.group, wids := x.wids, live := [], xacq := xacq } p (x.block :: x.tblocks) with
    wid0 := fieldOf h 0 8, v := v, xacq := xacq, tiles := (List.range 16).filter (fun n => bit (fieldOf h 12 2) n),
    sc := (List.range 8).map (fun i => BitVec.ofNat 32 (fieldOf h (32 + 4 * i) 4)),
    regions := (List.range 16).map (fun i => { rgva := BitVec.ofNat 64 (fieldOf h (64 + 16 * i) 8), rgcf := BitVec.ofNat 32 (fieldOf h (72 + 16 * i) 4) }),
    restoring := v.any (fun e => e.2.bad && e.2.kind == 0 && fids.contains e.2.fid),
    threads := ((List.range 32).zip x.threads).map (fun e => blockThread b e.1 e.2 s.ctl.freeCtr) }

/-- Its tile registers; headers are as at a bind (R354). -/
def State.loadTiles (s : State) (g : Gang) (tpois : List (Nat × List Nat)) : List TileReg :=
  ((List.range g.tiles.length).zip g.tiles).map (fun e =>
    let b := s.bytesAs g.world ((g.tblocks.drop (e.1 / 2)).headD 0 + 16384 * (e.1 % 2)) 16384
    { ctx := g.ctx, gang := g.gang, name := e.2,
      words := (List.range 4096).foldl (fun (m : NMap Word) w => nset 0 m w (BitVec.ofNat 32 (fieldOf b (4 * w) 4))) [], header := regHeader 0x52 0 0, pois := (tget tpois e.2).getD [] })

/-- GROUP_RESTORE (R177): the gangs take their slots with what their blocks hold; recorded fault replies are applied, then service replies. -/
def execGroupRestore (s : State) : Out :=
  .next (match s.ctl.op with
    | some (.groupRestore ctx group) =>
      let xs := s.run.saved.filter (fun x => x.ctx == ctx && x.group == group)
      match xs with
      | [] => s
      | x0 :: _ =>
        match s.tcb x0.tcb, s.launch ctx with
        | some t, some l =>
          match (if t.state ≠ 1 ∧ t.place < 96 then s.restoreFit t else none) with
          | none => s
          | some (_, ps) =>
            let s0 := xs.foldl (fun (s : State) x => (x.block :: x.tblocks).foldl (fun (s : State) b => s.checkAs x.world b 32768) s) s
            let s1 := (xs.zip ps).foldl (fun (s : State) e =>
              let g := s.loadGang l t e.1 e.2
              { s.seat g with eng.tregs := s.eng.tregs ++ s.loadTiles g e.1.tpois }) s0
            let s2 := { s1 with run.saved := s1.run.saved.filter (fun x => !(x.ctx == ctx && x.group == group)) }
            let s3 := ((s2.updTcb t.id (fun t => { t with state := 1, passed := 0 })).takeWays l.world t.place).updLaunch ctx (fun l => { l with waitSince := s.ctl.time })
            let gs := s3.groupGangs ctx group
            let fids := ((s3.xl.freply.filter (fun e => e.1.1 == ctx)).map (fun e => e.1.2)).filter (fun f =>
              s3.engineWaits ctx f || gs.any (fun g => g.threads.any (fun t => t.status == .faultwait && t.fid == f) || !(g.held f).isEmpty))
            let s4 := fids.foldl (fun (s : State) f => s.retry ctx f) s3
            let s5 := gs.foldl (fun (s : State) g => (List.range 32).foldl (fun (s : State) n => s.tryReply g.core g.slot n) s) s4
            (s5.send (.tcbBind t.place)).pokePlaces
        | _, _ => s
    | _ => s)

end Sys2Proof.Machine
end

