-- ==== Sys2Proof/Machine/Anvil.lean ====
section
/-! DEFINITION. The Anvil (R236 to R244, R360 to R365, R410): operands of a tile task, header checks, 64 x 64 output steps, and completion. -/

namespace Sys2Proof.Machine

open Sys2Proof

/-! ## Reading tiles -/

/-- Bytes of a tile by their offset from its header, each with its poison. -/
abbrev TRd := Nat → Byte × Bool

/-- A code of some bits at a bit offset, with its poison. -/
def codeAt (rd : TRd) (at_ w : Nat) : Nat × Bool :=
  let bs := (List.range (max 1 (w / 8))).map (fun i => rd (at_ / 8 + i))
  (leNat (bs.map (fun b => b.1)) / 2 ^ (at_ % 8) % 2 ^ w, bs.any (fun b => b.2))

/-- The number of an 8 x 8 block in the bitmap (R237). -/
def Hdr.blockOf (h : Hdr) (i j : Nat) : Nat := i / 8 * (h.cols / 8) + j / 8

/-- Bit k of the bitmap. -/
def Hdr.stored (h : Hdr) (rd : TRd) (k : Nat) : Bool := bit (rd (h.moff + k / 8)).1.toNat (k % 8)

/-- The bit offset of an element of a stored 8 x 8 block (R237). -/
def Hdr.blockAt (h : Hdr) (rd : TRd) (i j : Nat) : Nat :=
  let before := ((List.range (h.blockOf i j)).filter (fun k => h.stored rd k)).length
  8 * h.doff + (64 * before + 8 * (i % 8) + (if h.lay = 3 then (j % 8) ^^^ (i % 8) else j % 8)) * fmtBits h.fmt

/-- The kept columns of a group of 4 under SPR 1 and 2, with the place of each stored element in its row (R237). -/
def Hdr.kept (h : Hdr) (rd : TRd) (i g : Nat) : List (Nat × Nat) :=
  if h.spr = 1 then
    let n := (rd (h.moff + i * (h.cols / 8) + g / 2)).1.toNat / 16 ^ (g % 2) % 16
    [(4 * g + n % 4, 2 * g), (4 * g + n / 4, 2 * g + 1)]
  else
    let n := (rd (h.moff + i * (h.cols / 16) + g / 4)).1.toNat / 4 ^ (g % 4) % 4
    [(4 * g + n, g)]

/-- The poison of the metadata of element (i, j). -/
def Hdr.metaPois (h : Hdr) (rd : TRd) (i j : Nat) : Bool :=
  match h.spr with
  | 0 => false
  | 1 => (rd (h.moff + i * (h.cols / 8) + j / 8)).2
  | 2 => (rd (h.moff + i * (h.cols / 16) + j / 16)).2
  | _ => (rd (h.moff + h.blockOf i j / 8)).2

/-- The bit offsets of the stored elements at (i, j): one for a dense tile, any number for a sparse one. -/
def Hdr.places (h : Hdr) (rd : TRd) (i j : Nat) : List Nat :=
  match h.spr with
  | 0 => [8 * h.doff + h.place i j]
  | 3 => if h.stored rd (h.blockOf i j) then [h.blockAt rd i j] else []
  | _ => ((h.kept rd i (j / 4)).filter (fun k => k.1 == j)).map (fun k => 8 * h.doff + 8 * i * h.st + k.2 * fmtBits h.fmt)

/-- The scale of element (i, j), with its poison (R236). -/
def Hdr.scale (h : Hdr) (rd : TRd) (i j : Nat) : Num × Bool :=
  if h.sly = 0 then (.fin false 1 0, false)
  else
    let c := codeAt rd (8 * (h.soff + h.groupOf i j * h.scaleBytes)) (8 * h.scaleBytes)
    (elemVal h.sfm c.1, c.2)

/-- The offsets of metadata and scales that some rows and columns use. -/
def Hdr.sideOffs (h : Hdr) (is js : List Nat) : List Nat :=
  let side := match h.spr with
    | 0 => []
    | 1 => is.flatMap (fun i => js.map (fun j => h.moff + i * (h.cols / 8) + j / 8))
    | 2 => is.flatMap (fun i => js.map (fun j => h.moff + i * (h.cols / 16) + j / 16))
    | _ => (List.range ((h.rows / 8 * (h.cols / 8) + 7) / 8)).map (fun x => h.moff + x)
  let scale := if h.sly = 0 then [] else is.flatMap (fun i => js.flatMap (fun j =>
    (List.range h.scaleBytes).map (fun x => h.soff + h.groupOf i j * h.scaleBytes + x)))
  side ++ scale

/-- The offsets of the stored elements of some rows and columns. -/
def Hdr.dataOffs (h : Hdr) (rd : TRd) (is js : List Nat) : List Nat :=
  is.flatMap (fun i => js.flatMap (fun j => (h.places rd i j).flatMap (fun p => (List.range (max 1 (fmtBits h.fmt / 8))).map (fun x => p / 8 + x))))

/-! ## Fetching (R362) -/

/-- What the Tongs get: lines by virtual line number, that something must come first, or a translation fault. -/
inductive TongsR where
  | ok (ls : List (Nat × List Byte × List Nat))
  | wait
  | fault (walk : Nat) (fid : Option Nat)
deriving DecidableEq, Repr

/-- The gang of a task. -/
def State.taskGang (s : State) (t : Task) : Option Gang := s.gangOf t.ctx t.gang

/-- Virtual lines fetched for a task, over fresh translations; a fetch waits where pins leave its set no room (R108; log 85). -/
def State.tongs (s : State) (t : Task) (world : Nat) (lines : List Nat) : State × TongsR :=
  let stack := t.cluster / 32
  let tenant := s.tenantOfCtx t.ctx
  let r := s.xlRange stack tenant t.ctx 0 4 ((lines.map (fun l => l / 32)).eraseDups)
  match r.2 with
  | .fault _ w fid => (r.1, .fault w fid)
  | .ok pages =>
    let pa (l : Nat) : Nat := lineOf ((heldPa pages (128 * l)).getD 0)
    -- a fetch waits where other pins leave its set no room (R108)
    if !lines.all (fun l => r.1.pinRoomFor (pa l) false) then (r.1, .wait) else
    let q := r.1.readLines stack world tenant ((lines.map pa).eraseDups)
    if q.2.2 then (q.1, .wait) else (q.1, .ok (lines.filterMap (fun l => (tget q.2.1 (pa l)).map (fun d => (l, d.1, d.2)))))
  | _ => (r.1, .wait)

/-- A tile over fetched lines. -/
def rdOf (ls : List (Nat × List Byte × List Nat)) (base : Nat) : TRd := fun off => byteOf ls (base + off)

/-- The virtual lines of offsets from a header. -/
def offLines (base : Nat) (offs : List Nat) : List Nat := (offs.map (fun o => lineOf (base + o))).eraseDups

/-- A tile's side areas and then its data, for some rows and columns. -/
def State.fetchTile (s : State) (t : Task) (world base : Nat) (h : Hdr) (is js : List Nat) : State × TongsR :=
  let a := s.tongs t world (offLines base (h.sideOffs is js))
  match a.2 with
  | .ok ls =>
    let b := a.1.tongs t world (offLines base (h.dataOffs (rdOf ls base) is js))
    match b.2 with
    | .ok ms => (b.1, .ok (ls ++ ms))
    | x => (b.1, x)
  | x => (a.1, x)

/-! ## Header checks (R238 to R241, R360) -/

/-- A header of a task that fails: operand, address, cause. -/
abbrev HFault := Nat × Nat × Nat

/-- A task's headers: what each check finds, in the order A, B, accumulator or destination. -/
inductive HeadR where
  | ok (hs : List (List Byte))
  | bad (f : HFault)
  | wait
  | fault (walk : Nat) (fid : Option Nat)
deriving DecidableEq, Repr

/-- Accumulator format and chunk of a pair (R240). -/
def pairOf (a b : Hdr) : Option (Nat × Nat) :=
  let b8 (f : Nat) : Bool := fmtBits f == 8 && decide (f < 0x40)
  let small (f : Nat) : Bool := decide (0x40 ≤ f) && decide (f ≤ 0x43)
  if b8 a.fmt && b8 b.fmt then some (0x52, 32)
  else if small a.fmt && small b.fmt then some (if a.sly = 0 ∧ b.sly = 0 then 0x46 else 0x52, 32)
  else if a.fmt = b.fmt ∧ (a.fmt = 0x50 ∨ a.fmt = 0x51) then some (0x52, 16)
  else if a.fmt = 0x52 ∧ b.fmt = 0x52 then some (0x52, 4)
  else none

/-- The combinations of A and B that R241 and R360 exclude: the operand named, A where both are at fault (log 32). -/
def pairBad (r : TaskRec) (a b : Hdr) : Option Nat :=
  let b8 (f : Nat) : Bool := fmtBits f == 8 && decide (f < 0x40)
  let wide (h : Hdr) : Bool := (h.fmt == 0x50 || h.fmt == 0x51 || h.fmt == 0x52) && h.sly != 0
  match pairOf a b with
  | none => some 0
  | some (_, chunk) =>
    if a.cols ≠ b.rows ∨ a.rows % 64 ≠ 0 ∨ 512 < a.rows ∨ b.cols % 64 ≠ 0 ∨ 512 < b.cols ∨ 4096 < a.cols ∨ a.cols % chunk ≠ 0 then some 0
    else if wide a || a.sly == 3 || a.sly == 6 || a.sly == 7 then some 0
    else if a.spr == 1 && !(b8 a.fmt || [0x42, 0x43, 0x50, 0x51].contains a.fmt) then some 0
    else if a.spr == 2 && !(b8 a.fmt || [0x42, 0x43].contains a.fmt) then some 0
    else if wide b || b.sly == 2 || b.sly == 4 || b.sly == 5 || b.spr == 1 || b.spr == 2 then some 1
    else if r.m ≠ a.rows ∨ r.n ≠ b.cols then some 0
    else none

/-- The combinations of the destination that R241 and R360 exclude, once A and B go together. -/
def destBad (r : TaskRec) (acc : Nat) (regs : List Nat) (d : Option Hdr) : Option Nat :=
  let fmt := match d with | some h => h.fmt | none => if r.dfmt = 0 then acc else r.dfmt
  let flat := match d with | some h => h.sly == 0 && h.spr == 0 && h.rows == r.m && h.cols == r.n | none => true
  if r.acc && !r.dst && regs.any (fun f => f != acc) then some 2
  else if r.acc && r.dst && (!flat || fmt != acc) then some 2
  else if r.fill = 1 ∧ acc = 0x46 then some 3
  else if r.dst && !flat then some 3
  else if r.dst && !r.acc && ((acc == 0x52 && (intFmt fmt).isSome) || (acc == 0x46 && (floatFmt fmt).isSome && fmt != 0x52)) then some 3
  else none

/-- One header line read and checked (R238). -/
def State.headLine (s : State) (t : Task) (world op va : Nat) : State × HeadR :=
  let tenant := s.tenantOfCtx t.ctx
  match s.xlate (t.cluster / 32) tenant t.ctx va 4 with
  | .fault w _ fid => (s, .fault w fid)
  | .wait => (s.needWalk (t.cluster / 32) tenant t.ctx va 4, .wait)
  | .ok _ attr =>
    let r := s.tongs t world [lineOf va]
    match r.2 with
    | .ok ls =>
      let hb := (List.range 32).map (fun i => (rdOf ls va i).1)
      match hdrCheck hb attr.fattr with
      | some c => (r.1, .bad (op, va, c))
      | none => (r.1, .ok [hb])
    | .wait => (r.1, .wait)
    | .fault w fid => (r.1, .fault w fid)

/-- Another header after what has been found, and what to make of the two. -/
def headThen (x : State × HeadR) (f : State → List (List Byte) → State × HeadR) : State × HeadR :=
  match x.2 with
  | .ok hs => f x.1 hs
  | _ => x

/-- A header of a list of them. -/
def headAt (hs : List (List Byte)) (n : Nat) : Hdr := hdrOf ((hs.drop n).headD [])

/-- A task's headers, read and checked; those that stand already are not read again. -/
def State.heads (s : State) (t : Task) (x : Gang) : State × HeadR :=
  let r := taskRec t.rcd
  headThen (s.headLine t x.world 0 r.aaddr) (fun s ha => headThen (s.headLine t x.world 1 r.baddr) (fun s hb =>
    let a := headAt ha 0
    let b := headAt hb 0
    match pairBad r a b with
    | some op => (s, .bad (op, if op = 0 then r.aaddr else r.baddr, 0x26))
    | none =>
      let acc := match pairOf a b with | some p => p.1 | none => 0x52
      let regs := if r.acc && !r.dst then r.names.map (fun n => match s.treg x n with | some q => fieldOf q.header 0 1 | none => 0) else []
      let check (s : State) (hd : List (List Byte)) : State × HeadR :=
        match destBad r acc regs (hd.head?.map hdrOf) with
        | some op => (s, .bad (op, if r.dst then r.daddr else 0, 0x26))
        | none => (s, .ok (ha ++ hb ++ hd))
      if r.dst && (r.acc || r.dfmt == 0xFF) then headThen (s.headLine t x.world (if r.acc then 2 else 3) r.daddr) check else check s []))

/-! ## Sums (R243, R244) -/

/-- An integer value. -/
def Num.int : Num → Int
  | .fin s m e => (if s then -1 else 1) * ((m * 2 ^ e.toNat : Nat) : Int)
  | _ => 0

/-- The exact terms of one K index: elements of A with their scale times elements of B with theirs; none for a NaN. -/
def terms (as : List Nat) (fa : Nat) (sa : Num) (bs : List Nat) (fb : Nat) (sb : Num) : List (Option Num) :=
  let times (x : Option Num) (y : Num) : Option Num :=
    match x with
    | some v => if v.isNan || y.isNan then none else mulNum v y
    | none => none
  as.flatMap (fun p => bs.map (fun q => times (times (times (some (elemVal fa p)) sa) (elemVal fb q)) sb))

/-- A chunk's sum as F32 bits, with the causes it logs. -/
def chunkSum (ts : List (Option Num)) : Nat × List Nat :=
  let inf (s : Bool) : Bool := ts.any (fun t => t == some (.inf s))
  if ts.any (fun t => match t with | none => true | some v => v.isNan) || (inf true && inf false) then (fF32.nanCode, [1])
  else if inf true then (fF32.infCode true, [])
  else if inf false then (fF32.infCode false, [])
  else
    let sum := ts.foldl (fun (a : Bool × Nat × Int) t =>
      match t with
      | some (.fin s m e) => addFin a.1 a.2.1 a.2.2 s m e
      | _ => a) (false, 0, 0)
    if sum.2.1 = 0 then (0, []) else convert (.fin sum.1 sum.2.1 sum.2.2) fF32 0 true

/-- An output element: its bits, its poison, the causes it logs. -/
structure Elem where
  v : Nat
  pois : Bool
  logs : List Nat
deriving DecidableEq, Repr, Inhabited

/-- Element (i, j) of the product over all of K, from a starting value; an exact zero sum is +0 (R243). -/
def dot (a b : Hdr) (ra rb : TRd) (acc chunk : Nat) (start : Nat × Bool) (i j : Nat) : Elem :=
  let codes (h : Hdr) (rd : TRd) (i k : Nat) : List (Nat × Bool) := (h.places rd i k).map (fun p => codeAt rd p (fmtBits h.fmt))
  let ks := List.range a.cols
  let pois := start.2 || ks.any (fun k => a.metaPois ra i k || b.metaPois rb k j || (codes a ra i k).any (fun c => c.2) || (codes b rb k j).any (fun c => c.2) ||
    (a.scale ra i k).2 || (b.scale rb k j).2)
  let at_ (k : Nat) : List (Option Num) :=
    terms ((codes a ra i k).map (fun c => c.1)) a.fmt (a.scale ra i k).1 ((codes b rb k j).map (fun c => c.1)) b.fmt (b.scale rb k j).1
  if acc = 0x46 then
    let sum := ks.foldl (fun (n : Int) k => (at_ k).foldl (fun (n : Int) t => match t with | some v => n + v.int | none => n) n) (start.1 : Int)
    { v := ofInt 32 sum, pois := pois, logs := [] }
  else
    let r := (List.range (a.cols / chunk)).foldl (fun (q : Nat × List Nat) c =>
      let x := chunkSum ((List.range chunk).flatMap (fun k => at_ (chunk * c + k)))
      let y := fopAdd fF32 0 (f32Val q.1) (f32Val x.1)
      (if y.1 = 0x80000000 then 0 else y.1, q.2 ++ x.2 ++ y.2)) (start.1, [])
    { v := r.1, pois := pois, logs := if pois then [] else r.2 }

/-- An element as it is written under a format, scaled by the output scale (R364). -/
def outElem (r : TaskRec) (acc fmt rm : Nat) (ovf : Bool) (osc : Word) (e : Elem) : Elem :=
  if fmt = acc ∧ !r.oscEn then e
  else
    let v := elemVal acc e.v
    let p : Option Num := if !r.oscEn then some v else if v.isNan || (f32Val osc.toNat).isNan then some (.nan (v.isSig || (f32Val osc.toNat).isSig)) else mulNum v (f32Val osc.toNat)
    let x := convertTo (p.getD (.nan false)) fmt rm ovf
    let logs := (if p.isNone then [1] else []) ++ x.2
    { v := x.1, pois := e.pois, logs := e.logs ++ (if e.pois then [] else logs) }

/-! ## One step (R361 to R364) -/

/-- Steps of a task. -/
def TaskRec.steps (r : TaskRec) : Nat := r.m / 64 * (r.n / 64)

/-- The rows or columns of a block. -/
def blockRange (b : Nat) : List Nat := (List.range 64).map (fun i => 64 * b + i)

/-- An element is masked (R363). -/
def TaskRec.masked (r : TaskRec) (a b : Hdr) (i j : Nat) : Bool :=
  r.tri && decide (((b.col0 + j : Nat) : Int) - ((a.row0 + i : Nat) : Int) > r.diag)

/-- The value of masked elements. -/
def fillOf (r : TaskRec) (t : Task) : Nat := if r.fill = 0 then 0 else if r.fill = 1 then 0xFF800000 else t.fsc.toNat

/-- The header under which a task writes to memory, and whether it writes it itself (R242, R364). -/
def destHdr (r : TaskRec) (a b : Hdr) (acc : Nat) (d : Option Hdr) : List Byte × Hdr :=
  match d with
  | some h => ([], h)
  | none =>
    let hb := plainHeader (if r.dfmt = 0 then acc else r.dfmt) (r.m - 1) (r.n - 1) r.rm a.row0 b.col0 r.ovf
    (hb, hdrOf hb)

/-- The bytes that elements make at their places, each with its poison: (offset from the header, byte, poison). -/
def placeBytes (h : Hdr) (es : List (Nat × Nat × Elem)) : List (Nat × Byte × Bool) :=
  let w := fmtBits h.fmt
  if w < 8 then
    let at_ (e : Nat × Nat × Elem) : Nat := 8 * h.doff + h.place e.1 e.2.1
    ((es.map (fun e => at_ e / 8)).eraseDups).map (fun o =>
      let mine := es.filter (fun e => at_ e / 8 == o)
      (o, BitVec.ofNat 8 (mine.foldl (fun n e => n + e.2.2.v * 2 ^ (at_ e % 8)) 0), mine.any (fun e => e.2.2.pois)))
  else
    es.flatMap (fun e => ((List.range (w / 8)).zip (leBytes (w / 8) e.2.2.v)).map (fun x => (h.doff + h.place e.1 e.2.1 / 8 + x.1, x.2, e.2.2.pois)))

/-- Scattered bytes written by a task, line by line (R365, R410). -/
def State.taskPatch (s : State) (t : Task) (core world : Nat) (bs : List (Nat × Byte × Bool)) : State :=
  ((bs.map (fun b => lineOf b.1)).eraseDups).foldl (fun (s : State) line =>
    let mine := bs.filter (fun b => lineOf b.1 == line)
    let bad := (List.range 16).filter (fun w => mine.any (fun b => b.2.2 && b.1 % 128 / 8 == w))
    let r := s.engPatch core world (s.tenantOfCtx t.ctx) line (mine.map (fun b => (b.1 % 128, b.2.1))) bad
    r.1.updTask t.id (fun t => { t with txs := t.txs ++ [r.2] })) s

/-- A task waits on a fault entry, or with none free tries again (R135, R362). -/
def State.taskFault (s : State) (t : Task) (walk : Nat) (fid : Option Nat) : State :=
  let s1 := s.takeFaults [walk]
  match fid with
  | some f => s1.updTask t.id (fun t => { t with fid := some f })
  | none => s1

/-- The step has written its results: the next one, or the task's completion. -/
def State.stepDone (s : State) (t : Task) (logs : List Nat) : State :=
  let s1 := s.updTask t.id (fun t =>
    { t with step := t.step + 1,
             log := (logs.filter (fun c => c == 1 || c == 3)).foldl (fun l c => if l.any (fun x => x.1 == c) then l else l ++ [(c, 0)]) t.log })
  if t.step + 1 = (taskRec t.rcd).steps then s1.send (.tileTaskComplete t.id) else s1

/-- A block of elements goes to its tile register (R364). -/
def State.toRegister (s : State) (t : Task) (x : Gang) (r : TaskRec) (a b : Hdr) (acc bi bj : Nat) (es : List (Nat × Nat × Elem)) : State :=
  let name := r.td + bi * (r.n / 64) + bj
  let s1 := s.updTreg x.ctx x.gang name (fun q =>
    let q1 : TileReg := es.foldl (fun (q : TileReg) e =>
      let w := 64 * (e.1 - 64 * bi) + (e.2.1 - 64 * bj)
      { q with words := nset 0 q.words w (BitVec.ofNat 32 e.2.2.v),
               pois := if e.2.2.pois then addSorted q.pois w else q.pois.filter (fun p => p != w) }) q
    if r.acc then q1 else { q1 with header := regHeader acc ((a.row0 + 64 * bi) % 2 ^ 32) ((b.col0 + 64 * bj) % 2 ^ 32) })
  s1.stepDone t (es.flatMap (fun e => e.2.2.logs))

/-- A block of elements goes to memory, once every page it touches translates for a write (R362, R364). -/
def State.toMemory (s : State) (t : Task) (x : Gang) (r : TaskRec) (hb : List Byte) (h : Hdr) (es : List (Nat × Nat × Elem)) : State :=
  let bytes := (if t.step = 0 then ((List.range hb.length).zip hb).map (fun e => (e.1, e.2, false)) else []) ++ placeBytes h es
  let q := s.xlRange (t.cluster / 32) (s.tenantOfCtx t.ctx) t.ctx 0 5 ((bytes.map (fun b => (r.daddr + b.1) / 4096)).eraseDups)
  match q.2 with
  | .fault _ w fid => q.1.taskFault t w fid
  | .ok pages =>
    (q.1.taskPatch t x.core x.world (bytes.map (fun b => ((heldPa pages (r.daddr + b.1)).getD 0, b.2)))).stepDone t (es.flatMap (fun e => e.2.2.logs))
  | _ => q.1

/-- The starting values of a block (R364): the register's words, or the tile at DADDR. -/
def State.startVals (s : State) (t : Task) (x : Gang) (r : TaskRec) (d : Option Hdr) (bi bj : Nat) : State × TongsR × (Nat → Nat → Nat × Bool) :=
  if !r.acc then (s, .ok [], fun _ _ => (0, false))
  else if r.dst then
    match d with
    | some h =>
      let f := s.fetchTile t x.world r.daddr h (blockRange bi) (blockRange bj)
      match f.2 with
      | .ok ls => (f.1, f.2, fun i j => codeAt (rdOf ls r.daddr) (8 * h.doff + h.place i j) 32)
      | y => (f.1, y, fun _ _ => (0, false))
    | none => (s, .ok [], fun _ _ => (0, false))
  else
    match s.treg x (r.td + bi * (r.n / 64) + bj) with
    | some q =>
      (s, .ok [], fun i j => let w := 64 * (i - 64 * bi) + (j - 64 * bj); ((nget 0 q.words w).toNat, q.pois.contains w))
    | none => (s, .ok [], fun _ _ => (0, false))

/-- One 64 x 64 output step of a task whose headers stand. -/
def State.outStep (s : State) (t : Task) (x : Gang) (a b : Hdr) (d : Option Hdr) : State :=
  let r := taskRec t.rcd
  let p := (pairOf a b).getD (0x52, 4)
  let bi := t.step / (r.n / 64)
  let bj := t.step % (r.n / 64)
  let is := blockRange bi
  let js := blockRange bj
  let all := is.flatMap (fun i => js.map (fun j => (i, j)))
  let open_ := all.any (fun e => !r.masked a b e.1 e.2)
  let fa := if open_ then s.fetchTile t x.world r.aaddr a is (List.range a.cols) else (s, .ok [])
  match fa.2 with
  | .wait => fa.1
  | .fault w fid => fa.1.taskFault t w fid
  | .ok la =>
    let fb := if open_ then fa.1.fetchTile t x.world r.baddr b (List.range b.rows) js else (fa.1, .ok [])
    match fb.2 with
    | .wait => fb.1
    | .fault w fid => fb.1.taskFault t w fid
    | .ok lb =>
      let st := if open_ then fb.1.startVals t x r d bi bj else (fb.1, .ok [], fun _ _ => (0, false))
      match st.2.1 with
      | .wait => st.1
      | .fault w fid => st.1.taskFault t w fid
      | .ok _ =>
        let es := all.map (fun e => (e.1, e.2,
          if r.masked a b e.1 e.2 then { v := fillOf r t, pois := false, logs := [] }
          else dot a b (rdOf la r.aaddr) (rdOf lb r.baddr) p.1 p.2 (st.2.2 e.1 e.2) e.1 e.2))
        if !r.dst then st.1.toRegister t x r a b p.1 bi bj es
        else
          let h := destHdr r a b p.1 d
          st.1.toMemory t x r h.1 h.2 (es.map (fun e => (e.1, e.2.1, outElem r p.1 h.2.fmt h.2.rm h.2.ovf t.osc e.2.2)))

/-! ## Scheduling of tasks (R361) -/

/-- A task has issued all of its steps. -/
def Task.issued (t : Task) : Bool := decide ((taskRec t.rcd).steps ≤ t.step)

/-- A task is eligible, and has a step to issue. -/
def State.taskReady (s : State) (t : Task) : Bool :=
  let mine := s.eng.tasks.filter (fun u => u.ctx == t.ctx && u.gang == t.gang && !u.finished && decide (u.seq < t.seq))
  t.passed && t.fid.isNone && !t.finished && !t.issued && mine.all (fun u => u.issued && !t.deps.contains u.id && !u.names.any (fun n => t.names.contains n)) &&
    (match s.launch t.ctx with | some l => l.ending.isNone || decide (0 < t.step) | none => false)

/-- The task served next on a cluster: round-robin over its gang slots. -/
def State.nextTask (s : State) (c : Nat) : Option (Task × Gang) :=
  let rr := nget 0 s.eng.rr c
  let cands := (s.eng.tasks.filter (fun t => t.cluster == c && s.taskReady t)).filterMap (fun t => (s.taskGang t).map (fun x => (t, x)))
  let key (e : Task × Gang) : Nat := (clusterSlot e.2 + 128 - rr % 128) % 128
  match cands with
  | [] => none
  | e :: rest => some (rest.foldl (fun a b => if key b < key a then b else a) e)

/-- A header fault (R239): the task and those that depend on it go, TILEFAULT is logged, and the launch ends with FAULT. -/
def State.tileFault (s : State) (t : Task) (f : HFault) : State :=
  let queue := (s.gangTasks t.ctx t.gang).filter (fun u => decide (u.seq < t.seq))
  let s1 := s.logTenant (some (s.tenantOfCtx t.ctx)) (srcSlice t.cluster) 0x12 1
    [(24, 8, f.2.1), (22, 2, t.ctx), (20, 2, t.gang), (19, 1, f.2.2), (18, 1, f.1), (16, 2, queue.length)]
  { s1 with eng.tasks := s1.eng.tasks.filter (fun u => u.id != t.id && !(u.ctx == t.ctx && u.gang == t.gang && u.deps.contains t.id)) }.endLaunch t.ctx 4

/-- One step, or the header checks before the first, for the gang whose turn it is. -/
def State.anvil (s : State) (c : Nat) : State :=
  match s.nextTask c with
  | none => s
  | some (t, x) =>
    let s1 := ({ s with eng.rr := nset 0 s.eng.rr c ((clusterSlot x + 1) % 128) }).send (.anvilStep c)
    let h := if t.heads.isEmpty then s1.heads t x else (s1, .ok t.heads)
    match h.2 with
    | .wait => h.1
    | .fault w fid => h.1.taskFault t w fid
    | .bad f => h.1.tileFault t f
    | .ok hs => (h.1.updTask t.id (fun t => { t with heads := hs })).outStep t x (headAt hs 0) (headAt hs 1) ((hs.drop 2).head?.map hdrOf)

/-- ANVIL_STEP (R361, R362). -/
def execAnvilStep (s : State) : Out :=
  .next (match s.ctl.op with
    | some (.anvilStep c) => s.anvil c
    | _ => s)

/-! ## Completion (R365) -/

/-- Bytes that a task's completion delivers. -/
def taskBytes (r : TaskRec) (fmt : Nat) : Nat := if r.dst then r.m * r.n * fmtBits fmt / 8 else 4 * r.m * r.n

/-- TILE_TASK_COMPLETE (R243, R365): once its writes are acknowledged where RL asks for it; the arithmetic log, the queue entry, the arrival word. -/
def State.taskComplete (s : State) (id : Nat) : State :=
  match s.eng.tasks.find? (fun t => t.id == id) with
  | none => s
  | some t =>
    if !t.issued then s
    else if t.rl ≠ 7 ∧ t.txs.any (fun x => (s.tx x).isSome) then s.wait (.tileTaskComplete id)
    else
      let r := taskRec t.rcd
      match s.taskGang t with
      | none => { s with eng.tasks := s.eng.tasks.filter (fun u => u.id != id) }
      | some x =>
        let s0 : State := { s with eng.tasks := s.eng.tasks.filter (fun u => u.id != id) }
        let s1 := s0.logArith (srcSlice t.cluster) t.pc t.ctx (t.log.map (fun (c : Nat × Nat) => (x.gang, c.1, 0)))
        let s2 := if bit r.arrive 31 then s1.send (.arrivalDelivery x.core t.alloc (bits r.arrive 23 0) (taskBytes r (destHdr r (headAt t.heads 0) (headAt t.heads 1) ((pairOf (headAt t.heads 0) (headAt t.heads 1)).getD (0x52, 4)).1
          ((t.heads.drop 2).head?.map hdrOf)).2.fmt)) else s1
        let s3 := if s2.due (fun e => e == .anvilStep t.cluster) then s2 else s2.send (.anvilStep t.cluster)
        (s3.maybePark x.ctx x.group).freeGroup x.ctx x.group

/-- TILE_TASK_COMPLETE. -/
def execTileTaskComplete (s : State) : Out :=
  .next (match s.ctl.op with
    | some (.tileTaskComplete id) => s.taskComplete id
    | _ => s)

end Sys2Proof.Machine
end

