-- ==== Sys2Proof/Machine/Board.lean ====
section
/-! DEFINITION. The notice board's commands and NBCTL (R390 to R404): each command is counted, acknowledged, and then acts; HALTED and STEPPED follow
when they are due. -/

namespace Sys2Proof.Machine

open Sys2Proof

/-! ## NBCTL (R390) -/

/-- NBCTL_WRITE (R390): ignored while a launch is held or armed; EN needs its page in the tenant's window. -/
def execNbctlWrite (s : State) : Out :=
  .next (match s.ctl.op with
    | some (.nbctlWrite v) =>
      if s.nb.heldCtx.isSome || s.nb.armed.isSome then s
      else
        let t := bits v.toNat 63 56
        let base := bits v.toNat 55 12 * 4096
        let en := bit v.toNat 0 && isHbm base && decide (s.tWinBase t ≤ base) && decide (base + 4096 ≤ s.tWinLim t)
        let new := BitVec.ofNat 64 (bits v.toNat 63 12 * 4096 + (if en then 1 else 0))
        let old := s.nb.nbctl
        let s1 := { s with nb.nbctl := new }
        if en && !bit old.toNat 0 then
          ({ s1 with nb.cseq := 0, nb.eseq := 0 }.devStore (base + 0x80) (zeros 16) none).devStore (base + 0x800) (zeros 0x800) none
        else s1
    | _ => s)

/-! ## Commands (R392 to R394) -/

/-- A command taken apart (R393). -/
structure NbCmd where
  opc : Nat
  slot : Nat
  flags : Nat
  len : Nat
  gang : Nat
  arg : Nat
  rest : Nat
deriving DecidableEq, Repr

/-- The fields of a command. -/
def nbCmd (v : BitVec 128) : NbCmd :=
  { opc := bits v.toNat 7 0, slot := bits v.toNat 15 8, flags := bits v.toNat 23 16, len := bits v.toNat 31 24, gang := bits v.toNat 63 32,
    arg := bits v.toNat 95 64, rest := bits v.toNat 127 96 }

/-- The command is taken: CSEQ, its ACK, and where its status is OK its effect (R392, R394). -/
def State.nbCommand (s : State) (v : BitVec 128) (status : State → NbCmd → Nat) (effect : State → NbCmd → State) : State :=
  let c := nbCmd v
  let n := (s.nb.cseq + 1) % 2 ^ 32
  let st := status s c
  let s1 := { s with nb.cseq := n }.boardStore 0x80 (leBytes 4 n)
  let s2 := s1.nbRecord { code := 1, stat := st, arg := n, data := c.opc }
  if st = 0 then effect s2 c else s2

/-- The number of gangs of the held launch. -/
def State.heldGangs (s : State) : Nat :=
  match s.nb.heldCtx.bind s.launch with
  | some l => match l.graph with
    | some q => q.groups
    | none => ceilDiv l.lrec.count (2 ^ l.lrec.shift 1)
  | none => 0

/-- BADCMD where fields are set that a command does not use, else NOTHELD without a held launch that has the gang. -/
def gangStatus (s : State) (c : NbCmd) : Nat :=
  if c.slot ≠ 0 ∨ c.flags ≠ 0 ∨ c.len ≠ 0 ∨ c.arg ≠ 0 ∨ c.rest ≠ 0 then 1 else if s.nb.heldCtx.isNone ∨ s.heldGangs ≤ c.gang then 2 else 0

/-- The fault entries of a gang's stop sets. -/
def State.stopFids (s : State) (ctx gang : Nat) : List Nat :=
  (s.xl.faults.filter (fun f => f.ctx == ctx && (match f.stop with | some p => p.1 == gang | none => false))).map (fun f => f.fid)

/-- RETRY for every stop set of a gang (R402, R403): each thread's next run passes breakpoints, watchpoints and BRK words. -/
def State.letGo (s : State) (ctx gang : Nat) (step : Bool) : State :=
  (s.stopFids ctx gang).foldl (fun (s : State) f => s.retryEnd ctx f (fun t => { t with quiet := true, brkPass := true, stepping := step, ofStep := step })) s

/-- Some thread of a gang is at a debug stop. -/
def State.anyStop (s : State) (ctx gang : Nat) : Bool :=
  match s.gangOf ctx gang with
  | some x => s.atStop x
  | none => false

/-- A gang of the held launch waits in a TCB that is QUEUED or still to be cut. -/
def State.gangWaits (s : State) (l : Launch) (n : Nat) : Bool :=
  s.run.tcbs.any (fun t => t.ctx == l.ctx && t.state == 0 && (l.plans t).any (fun p => p.gang == n)) ||
    (l.uncut && decide (l.cut * 2 ^ l.lrec.shift l.lrec.split ≤ n * 2 ^ l.lrec.shift 1))

/-- Every thread of a gang is at a debug stop, parked, EXITED or EMPTY: the lanes at a stop, and the lanes parked; none while it is not so (R401, R402). -/
def State.stillness (s : State) (ctx n : Nat) : Option (Nat × Nat) :=
  match s.gangOf ctx n with
  | some x => if gangStill x then some (s.stillLanes x) else none
  | none =>
    match s.savedGang ctx n with
    | some x =>
      if x.threads.all (fun t => t.status != .runnable) then
        some (0, maskOf ((List.range 32).filter (fun l => ((x.threads.drop l).headD emptyThread).live)))
      else none
    | none =>
      match s.launch ctx with
      | some l => if s.gangWaits l n then none else some (0, 0)
      | none => none

/-- The lanes of a gang at a debug stop, and the lanes parked otherwise (R395). -/
def State.lanesNow (s : State) (ctx n : Nat) : Nat × Nat :=
  match s.gangOf ctx n, s.savedGang ctx n with
  | some x, _ => s.stillLanes x
  | none, some x => (0, maskOf ((List.range 32).filter (fun l =>
      let t := (x.threads.drop l).headD emptyThread
      t.status == .joinwait || t.status == .svcwait || t.status == .faultwait)))
  | none, none => (0, 0)

/-- Every thread that a gang's STEP has released, or that its runs have made RUNNABLE, is at a debug stop, parked, EXITED or EMPTY (R402); a thread in FAULTWAIT is over too
(DEDUCED, log 111). -/
def State.stepOver (s : State) (ctx n : Nat) : Bool :=
  let over_ (t : Thread) : Bool := !t.ofStep || t.status != .runnable
  match s.gangOf ctx n, s.savedGang ctx n with
  | some x, _ => x.threads.all over_
  | none, some x => x.threads.all over_
  | none, none => true

/-- HALTED and STEPPED records that have become due (R401, R402). -/
def State.nbSettle (s : State) : State :=
  match s.nb.heldCtx with
  | none => s
  | some ctx =>
    let s1 := s.nb.steps.foldl (fun (s : State) n =>
      if s.stepOver ctx n then
        { s with nb.steps := s.nb.steps.erase n }.nbRecord { code := 5, gang := n, lanes := (s.lanesNow ctx n).1, other := (s.lanesNow ctx n).2 }
      else s) s
    s1.nb.halting.foldl (fun (s : State) n =>
      match s.stillness ctx n with
      | some m => { s with nb.halting := s.nb.halting.erase n }.nbRecord { code := 4, gang := n, lanes := m.1, other := m.2 }
      | none => s) s1

/-- NB_ATTACH (R397): the board is armed for the next launch from a queue of its tenant. -/
def execNbAttach (s : State) : Out :=
  .next (match s.ctl.op with
    | some (.nbAttach v) => s.nbCommand v
        (fun s c =>
          let t := bits s.nb.nbctl.toNat 63 56
          if c.slot ≠ 0 ∨ c.flags ≠ 0 ∨ c.len ≠ 0 ∨ c.gang ≠ 0 ∨ c.rest ≠ 0 then 1
          else if s.nb.heldCtx.isSome ∨ s.nb.armed.isSome then 3
          else if c.arg < s.tQBase t ∨ s.tQBase t + s.tQCount t ≤ c.arg then 4
          else 0)
        (fun s c => { s with nb.armed := some c.arg }.nbStatus)
    | _ => s)

/-- NB_SETBP (R393, R399). -/
def execNbSetbp (s : State) : Out :=
  .next (match s.ctl.op with
    | some (.nbSetbp v) => s.nbCommand v
        (fun _ c => if c.flags ≠ 0 ∨ c.len ≠ 0 ∨ c.gang ≠ 0 ∨ c.rest ≠ 0 ∨ 7 < c.slot then 1 else 0)
        (fun s c => { s with nb.bps := tset s.nb.bps c.slot c.arg })
    | _ => s)

/-- NB_CLRBP (R393). -/
def execNbClrbp (s : State) : Out :=
  .next (match s.ctl.op with
    | some (.nbClrbp v) => s.nbCommand v
        (fun _ c => if c.flags ≠ 0 ∨ c.len ≠ 0 ∨ c.gang ≠ 0 ∨ c.arg ≠ 0 ∨ c.rest ≠ 0 ∨ 7 < c.slot then 1 else 0)
        (fun s c => { s with nb.bps := tdel s.nb.bps c.slot })
    | _ => s)

/-- NB_SETWP (R393, R400). -/
def execNbSetwp (s : State) : Out :=
  .next (match s.ctl.op with
    | some (.nbSetwp v) => s.nbCommand v
        (fun s c =>
          if c.rest ≠ 0 ∨ 3 < c.slot ∨ c.flags = 0 ∨ 3 < c.flags ∨ c.len = 0 ∨ 128 < c.len ∨ 2 ^ 24 ≤ c.arg then 1
          else if s.nb.heldCtx.isNone ∨ (c.gang ≠ 0xFFFFFFFF ∧ s.heldGangs ≤ c.gang) then 2
          else 0)
        (fun s c => { s with nb.wps := tset s.nb.wps c.slot { flags := c.flags, len := c.len, gang := c.gang, off := c.arg } })
    | _ => s)

/-- NB_CLRWP (R393). -/
def execNbClrwp (s : State) : Out :=
  .next (match s.ctl.op with
    | some (.nbClrwp v) => s.nbCommand v
        (fun _ c => if c.flags ≠ 0 ∨ c.len ≠ 0 ∨ c.gang ≠ 0 ∨ c.arg ≠ 0 ∨ c.rest ≠ 0 ∨ 3 < c.slot then 1 else 0)
        (fun s c => { s with nb.wps := tdel s.nb.wps c.slot })
    | _ => s)

/-- NB_HALT (R401). -/
def execNbHalt (s : State) : Out :=
  .next (match s.ctl.op with
    | some (.nbHalt v) => s.nbCommand v gangStatus
        (fun s c => { s with nb.halted := addSorted s.nb.halted c.gang, nb.halting := addSorted s.nb.halting c.gang })
    | _ => s)

/-- An earlier STEP of a gang, and what it has released, are no longer looked at. -/
def State.noStep (s : State) (ctx gang : Nat) : State :=
  { s with
    core.gangs := s.core.gangs.map (fun (g : Gang) => if g.ctx = ctx ∧ g.gang = gang then
      { g with threads := g.threads.map (fun (t : Thread) => { t with ofStep := false }) } else g),
    run.saved := s.run.saved.map (fun (x : Saved) => if x.ctx = ctx ∧ x.gang = gang then
      { x with threads := x.threads.map (fun (t : Thread) => { t with ofStep := false }) } else x) }

/-- NB_STEP (R402): BUSY while an earlier STEP of the gang has not ended; STEPPED at once where no thread is let go. -/
def execNbStep (s : State) : Out :=
  .next (match s.ctl.op with
    | some (.nbStep v) => s.nbCommand v
        (fun s c => if gangStatus s c ≠ 0 then gangStatus s c else if s.nb.steps.contains c.gang then 3 else 0)
        (fun s c =>
          let ctx := s.nb.heldCtx.getD 0
          let s1 := { s.noStep ctx c.gang with nb.halted := addSorted s.nb.halted c.gang }
          if s1.anyStop ctx c.gang then { s1.letGo ctx c.gang true with nb.steps := addSorted s1.nb.steps c.gang }
          else s1.nbRecord { code := 5, gang := c.gang, lanes := (s1.lanesNow ctx c.gang).1, other := (s1.lanesNow ctx c.gang).2 })
    | _ => s)

/-- The halt state of a gang is over, and its stopped threads go on. -/
def State.resumeGang (s : State) (ctx gang : Nat) : State :=
  ({ s with
    nb.halted := s.nb.halted.filter (fun n => n != gang), nb.halting := s.nb.halting.filter (fun n => n != gang),
    core.gangs := s.core.gangs.map (fun (g : Gang) => if g.ctx = ctx ∧ g.gang = gang then
      { g with threads := g.threads.map (fun (t : Thread) => { t with stepping := false }) } else g),
    run.saved := s.run.saved.map (fun (x : Saved) => if x.ctx = ctx ∧ x.gang = gang then
      { x with threads := x.threads.map (fun (t : Thread) => { t with stepping := false }) } else x) }).letGo ctx gang false

/-- NB_RESUME (R403). -/
def execNbResume (s : State) : Out :=
  .next (match s.ctl.op with
    | some (.nbResume v) => s.nbCommand v gangStatus (fun s c => s.resumeGang (s.nb.heldCtx.getD 0) c.gang)
    | _ => s)

/-- NB_DETACH (R397): every gang is resumed, and the attachment ends. -/
def execNbDetach (s : State) : Out :=
  .next (match s.ctl.op with
    | some (.nbDetach v) => s.nbCommand v
        (fun s c => if c.slot ≠ 0 ∨ c.flags ≠ 0 ∨ c.len ≠ 0 ∨ c.gang ≠ 0 ∨ c.arg ≠ 0 ∨ c.rest ≠ 0 then 1
          else if s.nb.heldCtx.isNone ∧ s.nb.armed.isNone then 2 else 0)
        (fun s _ =>
          let s1 := match s.nb.heldCtx with
            | some ctx => ((s.core.gangs.filter (fun (g : Gang) => g.ctx == ctx)).map (fun (g : Gang) => g.gang)).foldl (fun (s : State) n => s.resumeGang ctx n) s
            | none => s
          { s1 with nb.armed := none, nb.heldCtx := none, nb.bps := [], nb.wps := [], nb.halted := [], nb.halting := [], nb.steps := [] }.nbStatus)
    | _ => s)

/-- NB_BADCMD (R394). -/
def execNbBadcmd (s : State) : Out :=
  .next (match s.ctl.op with
    | some (.nbBadcmd v) => s.nbCommand v (fun _ _ => 1) (fun s _ => s)
    | _ => s)

end Sys2Proof.Machine
end

