-- ==== Sys2Proof/Machine/Graphs.lean ====
section
/-! DEFINITION. Graph launches (R179 to R183): gangs formed from continuation records, rebalancing, waves, and stepping by GSTEP. -/

namespace Sys2Proof.Machine

open Sys2Proof

/-! ## Gangs from records (R180, R181) -/

/-- A record of a ring, read: its sequence number, when it came in, and its bytes. -/
abbrev GRec := Nat × Nat × List Byte

/-- The records of a stage's ring, in ring order: none where a page must first be found; one that cannot be read is lost (log 13). -/
def State.ringRecs (s : State) (w t : Nat) (q : GraphS) (stage : Nat) : Option (List GRec) :=
  (q.ring stage).foldl (fun (acc : Option (List GRec)) r =>
    match acc, s.reeveReadAs w t (q.recVa stage r.2.1) 64 with
    | some l, some (some b) => some (l ++ [(r.2.1, r.2.2, b)])
    | some l, some none => some l
    | _, _ => none) (some [])

/-- EOFF of a record. -/
def eoff (r : GRec) : Nat := fieldOf r.2.2 6 2

/-- No thread of the graph remains outside a stage. -/
def State.noneOutside (s : State) (ctx stage : Nat) : Bool :=
  !(s.core.gangs.any (fun g => g.ctx == ctx && g.stage != stage && g.threads.any (fun t => t.live))) &&
    !(s.run.saved.any (fun x => x.ctx == ctx && x.stage != stage && x.threads.any (fun t => t.live))) &&
    !(s.run.tcbs.any (fun t => t.ctx == ctx && t.stage != stage && t.state == 0))

/-- The records of the next gang: 32 of equal EOFF, or the oldest one's where a partial gang is due (R181). -/
def State.nextGang (s : State) (ctx stage : Nat) (rs : List GRec) : List GRec :=
  let of (e : Nat) : List GRec := rs.filter (fun r => eoff r == e)
  match ((rs.map eoff).eraseDups).find? (fun e => decide (32 ≤ (of e).length)) with
  | some e => (of e).take 32
  | none =>
    match rs with
    | r :: _ => if r.2.1 + 16384 ≤ s.ctl.time ∨ s.noneOutside ctx stage then of (eoff r) else []
    | [] => []

/-- The TCB of a gang of records (R166). -/
def Launch.recordTcb (l : Launch) (q : GraphS) (stage : Nat) (rs : List GRec) : TCB :=
  { id := 0, ctx := l.ctx, entry := (q.fld stage 0 4 + eoff (rs.headD default)) % 2 ^ 32, stage := stage, wtag := l.world, reclist := 0, recs := rs.map (fun r => r.2.2),
    seqs := rs.map (fun r => r.1), gno := q.groups, limit := 0, level := 1, pinned := false, state := 0, ngrp := 1, first := 0, place := 96, passed := 0,
    pinCore := none, unit := 0, stackUnit := 0, since := 0 }

/-- A timer for the oldest record of a ring. -/
def State.watchRing (s : State) (ctx stage : Nat) (q : GraphS) : State :=
  match q.ring stage with
  | r :: _ =>
    if s.ctl.timers.any (fun t => t.2 == .partialGangTimer ctx stage) then s
    else s.after (r.2.2 + 16384 - s.ctl.time) (.partialGangTimer ctx stage)
  | [] => s

/-- GRAPH_GANG_FORM (R181): one gang at a time. -/
def State.formGang (s : State) (ctx stage : Nat) : State :=
  match s.launch ctx with
  | none => s
  | some l =>
    match l.graph with
    | none => s
    | some q =>
      if l.ending.isSome then s
      else
        match s.ringRecs l.world l.tenant q stage with
        | none => ((q.ring stage).foldl (fun (s : State) r => s.reeveAsk l.tenant (q.recVa stage r.2.1) 64) s).wait (.graphGangForm ctx stage)
        | some rs =>
          let g := s.nextGang ctx stage rs
          let lost := (q.ring stage).filter (fun r => !rs.any (fun x => x.1 == r.2.1))
          let keep (r : Nat × Nat × Nat) : Bool := !(r.1 == stage && (g.any (fun x => x.1 == r.2.1) || lost.any (fun x => x.2.1 == r.2.1)))
          let s9 := (q.ring stage).foldl (fun (s : State) r => s.reeveCheck l.world l.tenant (q.recVa stage r.2.1) 64) s
          let s0 := s9.updGraph ctx (fun q => { q with recs := q.recs.filter keep, groups := q.groups + (if g.isEmpty then 0 else 1) })
          let s1 := s0.wakeSaved (fun x => x.ctx == ctx) .ring
          let s2 := if g.isEmpty then s1.checkDone ctx else (s1.addTcb (l.recordTcb q stage g)).send (.graphGangForm ctx stage)
          match s2.graphOf ctx with
          | some q2 => s2.watchRing ctx stage q2
          | none => s2

/-- GRAPH_GANG_FORM (R180, R181). -/
def execGraphGangForm (s : State) : Out :=
  .next (match s.ctl.op with
    | some (.graphGangForm ctx stage) => s.formGang ctx stage
    | _ => s)

/-- PARTIAL_GANG_TIMER (R181): the oldest record has waited; its gang is due. -/
def execPartialGangTimer (s : State) : Out :=
  .next (match s.ctl.op with
    | some (.partialGangTimer ctx stage) => if s.due (fun e => e == .graphGangForm ctx stage) then s else s.formGang ctx stage
    | _ => s)

/-! ## Rebalancing (R181) -/

/-- Gang slots a stage holds that are not being given up. -/
def State.keptSlots (s : State) (ctx stage : Nat) : Nat :=
  (s.core.gangs.filter (fun g => g.ctx == ctx && g.stage == stage && !(s.run.preempts.any (fun p => p.1 == ctx && p.2.1 == g.group)))).length

/-- The stage that gives up a slot: the lowest fill among those whose slots exceed MINGS; of equals the higher number. -/
def State.donor (s : State) (ctx : Nat) (q : GraphS) : Option Nat :=
  match (List.range q.stages.length).filter (fun d => decide (q.fld d 18 1 < s.keptSlots ctx d)) with
  | [] => none
  | d :: rest => some (rest.foldl (fun a b => if q.fill b ≤ q.fill a then b else a) d)

/-- A stage whose ring is three quarters full takes a slot of a donor, one of whose gangs is pre-empted (the one bound last; log 30). -/
def State.rebalanceOne (s : State) (ctx stage : Nat) : State :=
  match s.graphOf ctx with
  | none => s
  | some q =>
    match s.donor ctx q with
    | none => s
    | some d =>
      match worst (fun _ => 0) (s.core.gangs.filter (fun g => g.ctx == ctx && g.stage == d && s.mayPreempt g)) with
      | some g => (s.startPreempt ctx g.group 4096).updGraph ctx (fun q => { q with given := q.given ++ [(d, stage)] })
      | none => s

/-- REBALANCE_TIMER (R181): every 1,024 mesh cycles. -/
def execRebalanceTimer (s : State) : Out :=
  .next (match s.ctl.op with
    | some (.rebalanceTimer ctx) =>
      match s.launch ctx with
      | none => s
      | some l =>
        match l.graph with
        | none => s
        | some q =>
          if l.ending.isSome then s
          else
            let full := (List.range q.stages.length).filter (fun t => decide (3 * 2 ^ q.qlog t ≤ 4 * q.fill t) && decide (s.keptSlots ctx t < q.fld t 17 1))
            let order := sortBy (fun t => 4096 - q.fill t) full
            (order.foldl (fun (s : State) t => s.rebalanceOne ctx t) s).after 1024 (.rebalanceTimer ctx)
    | _ => s)

/-! ## Waves (R182, R183) -/

/-- P of a stage. -/
def GraphS.pOf (q : GraphS) (stage : Nat) : Nat := (q.p.drop stage).headD 0

/-- The stages activated at a wave's end, each with the stage that branches to it (R182). -/
def GraphS.branches (q : GraphS) : List Nat :=
  (q.ran.filter (fun t => decide (0 < q.fld t 16 1))).map (fun t => q.fld t (12 + min (q.pOf t) (q.fld t 16 1 - 1)) 1)

/-- The wave is over: no stage has run in the next one yet, and every P is 0. -/
def GraphS.nextWave (q : GraphS) : GraphS := { q with ran := [], p := q.p.map (fun _ => 0), wave := q.wave + 1 }

/-- The words of P go to the stage table (R179); none where a page must first be found. -/
def State.putPwords (s : State) (l : Launch) (q : GraphS) : Option State :=
  q.ran.foldl (fun (acc : Option State) t => acc.bind (fun s => s.reeveWrite l.tenant (l.lrec.stageTab + 32 * t + 4) (leBytes 4 (q.pOf t)) none)) (some s)

/-- WAVE_END (R182, R183). -/
def State.waveEnd (s : State) (ctx : Nat) : State :=
  match s.launch ctx with
  | none => s
  | some l =>
    match l.graph with
    | none => s
    | some q =>
      if l.ending.isSome || l.released || q.waiting || s.launchBusy l || !q.recs.isEmpty then s
      else if bit (s.tModes l.tenant) 2 then
        match s.putPwords l q with
        | none => (q.ran.foldl (fun (s : State) t => s.reeveWriteAsk l.tenant (l.lrec.stageTab + 32 * t + 4) 4) s).wait (.waveEnd ctx)
        | some s1 =>
          (s1.logEvent l.tenant 0 3 (some 2) [(30, 2, ctx), (28, 2, q.wave), (16, 8, q.ran.foldl (fun m t => m ||| 2 ^ t) 0)]).updGraph ctx
            (fun q => { q.nextWave with waiting := true, picked := [] })
      else
        let next := q.branches
        let s1 := s.updGraph ctx GraphS.nextWave
        if next.isEmpty then s1.send (.launchComplete ctx)
        else (next.foldl (fun (s : State) t => s.activate ctx t (q.fld t 20 4)) s1).checkDone ctx

/-- WAVE_END. -/
def execWaveEnd (s : State) : Out :=
  .next (match s.ctl.op with
    | some (.waveEnd ctx) => s.waveEnd ctx
    | _ => s)

/-- GSTEP_WRITE (R183): a stage for the next wave, which starts 1 µs after the last write; 0xFF completes the graph. -/
def execGstepWrite (s : State) : Out :=
  .next (match s.ctl.op with
    | some (.gstepWrite v) =>
      let ctx := bits v.toNat 63 48
      let stage := bits v.toNat 7 0
      let bad := s.badReply ((s.launch ctx).map (fun l => l.tenant)) 2 0xC038 v.toNat
      match s.graphOf ctx with
      | none => bad
      | some q =>
        if !q.waiting then bad
        else if stage = 0xFF then
          ((s.updGraph ctx (fun q => { q with waiting := false, picked := [] })).cancel (fun e => e == .gstepWaveTimer ctx q.serial)).send (.launchComplete ctx)
        else if q.stages.length ≤ stage then bad
        else (s.updGraph ctx (fun q => { q with picked := q.picked ++ [stage], serial := q.serial + 1 })).after perUs (.gstepWaveTimer ctx (q.serial + 1))
    | _ => s)

/-- GSTEP_WAVE_TIMER (R183): the wave starts where no later write has come. -/
def execGstepWaveTimer (s : State) : Out :=
  .next (match s.ctl.op with
    | some (.gstepWaveTimer ctx serial) =>
      match s.graphOf ctx with
      | none => s
      | some q =>
        if q.waiting && q.serial == serial then
          (q.picked.foldl (fun (s : State) t => s.activate ctx t (q.fld t 20 4)) (s.updGraph ctx (fun q => { q with waiting := false, picked := [] }))).checkDone ctx
        else s
    | _ => s)

end Sys2Proof.Machine
end

