-- ==== Sys2Proof/Machine/Estimates.lean ====
section
/-! DEFINITION. Estimating launches (R187 to R192): folding contributions in draw order, the stopping rule, the stop, and ESTSEL. -/

namespace Sys2Proof.Machine

open Sys2Proof

/-! ## Binary64 arithmetic, rounded to nearest even (R189) -/

/-- a + b. -/
def add64 (a b : Nat) : Nat := (fopAdd fF64 0 (fF64.decode a) (fF64.decode b)).1
/-- a - b. -/
def sub64 (a b : Nat) : Nat := (fopAdd fF64 0 (fF64.decode a) (fF64.decode b).neg).1
/-- a * b. -/
def mul64 (a b : Nat) : Nat := (fopMul fF64 0 (fF64.decode a) (fF64.decode b)).1
/-- The binary64 value of an integer. -/
def cvt64 (n : Nat) : Nat := (convert (numOfInt (n : Int)) fF64 0 true).1

/-- a / b, as IEEE 754 divides (log 31). -/
def div64 (a b : Nat) : Nat :=
  let x := fF64.decode a
  let y := fF64.decode b
  let s := x.sign != y.sign
  match x, y with
  | .nan _, _ => fF64.nanCode
  | _, .nan _ => fF64.nanCode
  | .inf _, .inf _ => fF64.nanCode
  | .inf _, _ => fF64.infCode s
  | _, .inf _ => fF64.zeroCode s
  | .fin _ m1 e1, .fin _ m2 e2 =>
    if m2 = 0 then (if m1 = 0 then fF64.nanCode else fF64.infCode s)
    else if m1 = 0 then fF64.zeroCode s
    else
      let k := Nat.log2 m2 + 64
      (convert (sticky s (m1 * 2 ^ k / m2) (e1 - e2 - (k : Int)) (m1 * 2 ^ k % m2 == 0)) fF64 0 true).1

/-- sqrt(a). -/
def sqrt64 (a : Nat) : Nat :=
  match fF64.decode a with
  | .nan _ => fF64.nanCode
  | .inf s => if s then fF64.nanCode else a
  | .fin s m e => if m = 0 then a else if s then fF64.nanCode else (convert (rootOf (m * 2 ^ 128) (e - 128)) fF64 0 true).1

/-- a <= b; false where either is a NaN. -/
def le64 (a b : Nat) : Bool :=
  let x := fF64.decode a
  let y := fF64.decode b
  !x.isNan && !y.isNan && (numLt x y || numEq x y)

/-! ## Folding (R189) -/

/-- fold(x), without its test. -/
def EstS.fold (e : EstS) (x : Option Nat) : EstS :=
  match x with
  | none => { e with p := e.p + 1 }
  | some v =>
    let n := (e.n + 1) % 2 ^ 64
    let d := sub64 v e.mean
    let mean := add64 e.mean (div64 d (cvt64 n))
    { e with p := e.p + 1, n := n, mean := mean, m2 := add64 e.m2 (mul64 d (sub64 v mean)) }

/-- NMIN, Z and TOL of an estimating record (R184). -/
def LRec.estNmin (r : LRec) : Nat := r.kind8 96
/-- Z. -/
def LRec.estZ (r : LRec) : Nat := r.kind8 104
/-- TOL. -/
def LRec.estTol (r : LRec) : Nat := r.kind8 112

/-- E of the stopping rule (R189). -/
def EstS.bound (e : EstS) (r : LRec) : Nat :=
  let v := div64 e.m2 (mul64 (cvt64 e.n) (cvt64 (e.n - 1)))
  let f := sub64 (cvt64 1) (div64 (cvt64 e.n) (cvt64 r.count))
  mul64 (mul64 r.estZ (sqrt64 v)) (sqrt64 f)

/-- test(): whether to stop, with E kept where it is computed. -/
def EstS.test (e : EstS) (r : LRec) : EstS × Bool :=
  if e.n < 2 ∨ e.n < r.estNmin then (e, false) else ({ e with e := e.bound r }, le64 (e.bound r) r.estTol)

/-- Draws are folded while the next one has arrived, up to a stop; by fuel. -/
def EstS.run (r : LRec) : Nat → EstS → EstS × Bool
  | 0, e => (e, false)
  | k + 1, e =>
    match e.window.find? (fun w => w.1 == e.p) with
    | none => (e, false)
    | some w =>
      let f := ({ e with window := e.window.filter (fun x => x.1 != e.p) }.fold w.2).test r
      if f.2 then f else EstS.run r k f.1

/-! ## The stop (R191) -/

/-- A thread that ends under CANCEL where it is parked: the release of EXIT, and then its end; entries nothing else waits for are freed. -/
def State.cancelThread (s : State) (core slot lane : Nat) : State :=
  match s.gang core slot with
  | none => s
  | some x =>
    let t := x.thread lane
    let sc := match s.launch x.ctx with | some l => l.lrec.rels | none => 0
    let s1 := (s.startRelease core slot lane sc false).updLaunch x.ctx (fun l => { l with est := l.est.map (fun (e : EstS) => { e with cancelled := true }) })
    let s2 := s1.endThread core slot lane
    if t.status = .faultwait ∧ !s2.boundWaits x.ctx t.fid ∧ !s2.savedWaits x.ctx t.fid then (s2.clearReply x.ctx t.fid).freeFault x.ctx t.fid else s2

/-- QUEUED TCBs of draws at or above K alone go (R191). -/
def State.cutQueued (s : State) (ctx k : Nat) (which : TCB → Bool) : State :=
  match s.launch ctx with
  | none => s
  | some l =>
    { s with run.tcbs := (s.run.tcbs.filter (fun t => !(t.ctx == ctx && t.state == 0 && which t && decide (k ≤ t.first * 2 ^ l.lrec.shift l.lrec.split)))) }

/-- stop(K): ESTOP, what waits in the Reeve, and STOP to every cluster. -/
def State.stopAt (s : State) (l : Launch) (e : EstS) : State :=
  let k := e.p
  let late := (e.window.filter (fun w => decide (k ≤ w.1) && w.2.isSome)).length
  let s1 := s.logEvent l.tenant 0 2 none [(30, 2, l.ctx), (16, 8, k)]
  let s2 := s1.updLaunch l.ctx (fun l => { l with est := some { e with k := some k, stopSerial := s1.ten.serial, window := [], disc := e.disc + late } })
  let s3 := s2.cutQueued l.ctx k (fun t => t.place == 96)
  let s4 := if bit l.lrec.flags 0 then s3.cancelSaved l.ctx k (fun t => t.place == 96) else s3
  (s4.sendAll ((List.range 96).map (fun c => Ev.stopArrive l.ctx c))).checkDone l.ctx

/-- A message for a draw: its contribution is in the window, or it has ended without one (R187, R189). -/
def State.contribution (s : State) (ctx draw : Nat) : State :=
  match s.launch ctx with
  | none => s
  | some l =>
    match l.est with
    | none => s
    | some e =>
      if e.k.isSome || decide (draw < e.p) then s
      else
        let e1 := if e.window.any (fun w => w.1 == draw) then e else { e with window := e.window ++ [(draw, none)] }
        let r := EstS.run l.lrec (e1.window.length + 1) e1
        if r.2 then s.stopAt l r.1
        else (s.updLaunch ctx (fun l => { l with est := some r.1 })).pokePlaces

/-- CONTRIBUTION_ARRIVE (R187, R189). -/
def execContributionArrive (s : State) : Out :=
  .next (match s.ctl.op with
    | some (.contributionArrive ctx draw) => s.contribution ctx draw
    | _ => s)

/-- STOP_ARRIVE (R191): the fate of each draw at or above K on a cluster. -/
def State.stopArrive (s : State) (ctx c : Nat) : State :=
  match s.launch ctx with
  | none => s
  | some l =>
    match l.est with
    | none => s
    | some e =>
      match e.k with
      | none => s
      | some k =>
        let s1 := (s.updLaunch ctx (fun l => { l with est := l.est.map (fun (e : EstS) => { e with reached := addSorted e.reached c }) })).cutQueued ctx k (fun t => t.place == c)
        let s2 :=
          if bit l.lrec.flags 0 then
            let bound := s1.core.gangs.filter (fun g => g.ctx == ctx && clusterOf g.core == c)
            let ends := bound.flatMap (fun g => ((List.range 32).filter (fun n =>
              let t := g.thread n
              decide (k ≤ (g.wids.drop n).headD 0) && (t.status == .joinwait || t.status == .svcwait || t.status == .faultwait))).map (fun n => (g.core, g.slot, n)))
            (ends.foldl (fun (s : State) x => s.cancelThread x.1 x.2.1 x.2.2) s1).cancelSaved ctx k (fun t => t.place == c)
          else s1
        s2.checkDone ctx

/-- STOP_ARRIVE. -/
def execStopArrive (s : State) : Out :=
  .next (match s.ctl.op with
    | some (.stopArrive ctx c) => s.stopArrive ctx c
    | _ => s)

/-- ESTSEL_WRITE (R190): zeros for a context that is no estimate, or is a world's. -/
def execEstselWrite (s : State) : Out :=
  .next (match s.ctl.op with
    | some (.estselWrite v) =>
      let snap := match s.launch (bits v.toNat 63 48) with
        | some l => if l.world = 0x7F then (match l.est with
            | some e => leBytes 8 e.p ++ leBytes 8 e.n ++ leBytes 8 e.mean ++ leBytes 8 e.m2
            | none => zeros 32) else zeros 32
        | none => zeros 32
      { s with run.estsel := BitVec.ofNat 64 (bits v.toNat 63 48 * 2 ^ 48), run.estsnap := snap }
    | _ => s)

end Sys2Proof.Machine
end

