-- ==== Sys2Proof/Machine/RunShape.lean ====
section
/-! DEFINITION. What the check of a run needs to know of each word: the registers it reads and writes and the classes the rules on runs
name (R196, R197, R200, R202, R206 to R208, R262, R267, R268, R334, R339, R340, R380). -/

namespace Sys2Proof.Machine

open Sys2Proof

/-- A word as the run check sees it. -/
structure Use where
  /-- C (R200). -/
  c : Bool := false
  /-- G (R261). -/
  g : Nat := 0
  /-- Operand codes read. -/
  srcs : List Nat := []
  /-- Operand codes written. -/
  dsts : List Nat := []
  /-- Its result rides on a token (R206). -/
  tok : Bool := false
  /-- Reads the predicate register beside its guard (R305, R306). -/
  preds : Bool := false
  /-- Changes the predicate register (R304). -/
  push : Bool := false
  /-- May follow a non-replayable word (R208). -/
  after : Bool := false
  /-- Is non-replayable (R208). -/
  nr : Bool := false
  /-- Must stand last before END (R197, R338). -/
  last : Bool := false
  /-- Is an access that may not follow FENCE or PHASE (R334). -/
  mem : Bool := false
  /-- FENCE or PHASE. -/
  fence : Bool := false
  /-- ATOM or CAS, whose D holds its result within the run (R318). -/
  atomic : Bool := false
  /-- Graph launches only (R339, R340). -/
  graph : Bool := false
  /-- Estimating launches only (R380). -/
  est : Bool := false
  /-- Prefixes it may have (R267, R268): 0 none, 1 as LD, 2 as ST, 3 KEXT only, 4 as an atomic. -/
  pre : Nat := 0
deriving DecidableEq, Repr

/-- A word that names nothing. -/
def noUse : Use := {}

/-- Registers of an element of a type of R279. -/
def tyRegs (ty : Nat) : Nat := if tyWide ty then 2 else 1

/-- What a word uses. -/
def useOf (i : Instr) : Use :=
  match i with
  | .nop c => { c := c == 1, after := true }
  | .endRun _ _ _ => { after := true }
  | .bra c g _ => { c := c == 1, g := g.toNat, last := true }
  | .call c g _ => { c := c == 1, g := g.toNat, last := true }
  | .brx c g a => { c := c == 1, g := g.toNat, srcs := [a.toNat], last := true }
  | .exit c g => { c := c == 1, g := g.toNat, last := true }
  | .ret c g => { c := c == 1, g := g.toNat, last := true }
  | .acqx c => { c := c == 1, push := true }
  | .relx c => { c := c == 1 }
  | .brk c g => { c := c == 1, g := g.toNat }
  | .join c g a => { c := c == 1, g := g.toNat, srcs := [a.toNat], last := true }
  | .svc c g a => { c := c == 1, g := g.toNat, srcs := [a.toNat], nr := true }
  | .bar c _ => { c := c == 1, pre := 3 }
  | .waitAny c g d a b => { c := c == 1, g := g.toNat, srcs := [a.toNat, b.toNat], dsts := [d.toNat] }
  | .waitAll c g d a b => { c := c == 1, g := g.toNat, srcs := [a.toNat, b.toNat], dsts := [d.toNat] }
  | .arm c g a b => { c := c == 1, g := g.toNat, srcs := [a.toNat, b.toNat] }
  | .fenceAcq c g _ => { c := c == 1, g := g.toNat, fence := true }
  | .fenceRel c g _ => { c := c == 1, g := g.toNat, fence := true }
  | .fenceAr c g _ _ => { c := c == 1, g := g.toNat, fence := true }
  | .phase c g _ _ => { c := c == 1, g := g.toNat, fence := true }
  | .emit c g a => { c := c == 1, g := g.toNat, srcs := [a.toNat], nr := true, graph := true }
  | .post c g a => { c := c == 1, g := g.toNat, srcs := [a.toNat], graph := true }
  | .eacc c g a t => { c := c == 1, g := g.toNat, srcs := regCodes a.toNat (if t.toNat ≥ 3 then 2 else 1), nr := true, est := true }
  | .kext _ => noUse
  | .iadd c g d a b => { c := c == 1, g := g.toNat, srcs := [a.toNat, b.toNat], dsts := [d.toNat], after := true }
  | .isub c g d a b => { c := c == 1, g := g.toNat, srcs := [a.toNat, b.toNat], dsts := [d.toNat], after := true }
  | .imul c g d a b => { c := c == 1, g := g.toNat, srcs := [a.toNat, b.toNat], dsts := [d.toNat], after := true }
  | .imad c g d a b => { c := c == 1, g := g.toNat, srcs := [a.toNat, b.toNat, d.toNat], dsts := [d.toNat], after := true }
  | .imulhS32 c g d a b => { c := c == 1, g := g.toNat, srcs := [a.toNat, b.toNat], dsts := [d.toNat], after := true }
  | .imulhN32 c g d a b => { c := c == 1, g := g.toNat, srcs := [a.toNat, b.toNat], dsts := [d.toNat], after := true }
  | .idivS32 c g d a b => { c := c == 1, g := g.toNat, srcs := [a.toNat, b.toNat], dsts := [d.toNat], after := true }
  | .idivN32 c g d a b => { c := c == 1, g := g.toNat, srcs := [a.toNat, b.toNat], dsts := [d.toNat], after := true }
  | .iremS32 c g d a b => { c := c == 1, g := g.toNat, srcs := [a.toNat, b.toNat], dsts := [d.toNat], after := true }
  | .iremN32 c g d a b => { c := c == 1, g := g.toNat, srcs := [a.toNat, b.toNat], dsts := [d.toNat], after := true }
  | .iminS32 c g d a b => { c := c == 1, g := g.toNat, srcs := [a.toNat, b.toNat], dsts := [d.toNat], after := true }
  | .iminN32 c g d a b => { c := c == 1, g := g.toNat, srcs := [a.toNat, b.toNat], dsts := [d.toNat], after := true }
  | .imaxS32 c g d a b => { c := c == 1, g := g.toNat, srcs := [a.toNat, b.toNat], dsts := [d.toNat], after := true }
  | .imaxN32 c g d a b => { c := c == 1, g := g.toNat, srcs := [a.toNat, b.toNat], dsts := [d.toNat], after := true }
  | .movi c g d _ => { c := c == 1, g := g.toNat, dsts := [d.toNat], after := true, pre := 3 }
  | .mov c g d a => { c := c == 1, g := g.toNat, srcs := [a.toNat], dsts := [d.toNat], after := true }
  | .iabs c g d a => { c := c == 1, g := g.toNat, srcs := [a.toNat], dsts := [d.toNat], after := true }
  | .ineg c g d a => { c := c == 1, g := g.toNat, srcs := [a.toNat], dsts := [d.toNat], after := true }
  | .popc c g d a => { c := c == 1, g := g.toNat, srcs := [a.toNat], dsts := [d.toNat], after := true }
  | .clz c g d a => { c := c == 1, g := g.toNat, srcs := [a.toNat], dsts := [d.toNat], after := true }
  | .ctz c g d a => { c := c == 1, g := g.toNat, srcs := [a.toNat], dsts := [d.toNat], after := true }
  | .brev c g d a => { c := c == 1, g := g.toNat, srcs := [a.toNat], dsts := [d.toNat], after := true }
  | .andW c g d a b => { c := c == 1, g := g.toNat, srcs := [a.toNat, b.toNat], dsts := [d.toNat], after := true }
  | .orW c g d a b => { c := c == 1, g := g.toNat, srcs := [a.toNat, b.toNat], dsts := [d.toNat], after := true }
  | .xor c g d a b => { c := c == 1, g := g.toNat, srcs := [a.toNat, b.toNat], dsts := [d.toNat], after := true }
  | .andn c g d a b => { c := c == 1, g := g.toNat, srcs := [a.toNat, b.toNat], dsts := [d.toNat], after := true }
  | .shl c g d a b => { c := c == 1, g := g.toNat, srcs := [a.toNat, b.toNat], dsts := [d.toNat], after := true }
  | .shr c g d a b => { c := c == 1, g := g.toNat, srcs := [a.toNat, b.toNat], dsts := [d.toNat], after := true }
  | .sar c g d a b => { c := c == 1, g := g.toNat, srcs := [a.toNat, b.toNat], dsts := [d.toNat], after := true }
  | .rotl c g d a b => { c := c == 1, g := g.toNat, srcs := [a.toNat, b.toNat], dsts := [d.toNat], after := true }
  | .bfxN32 c g d a b => { c := c == 1, g := g.toNat, srcs := [a.toNat, b.toNat], dsts := [d.toNat], after := true }
  | .bfxS32 c g d a b => { c := c == 1, g := g.toNat, srcs := [a.toNat, b.toNat], dsts := [d.toNat], after := true }
  | .bfi c g d a b => { c := c == 1, g := g.toNat, srcs := [a.toNat, b.toNat, d.toNat], dsts := [d.toNat], after := true }
  | .sel c g d a b => { c := c == 1, g := g.toNat, srcs := [a.toNat, b.toNat], dsts := [d.toNat], preds := true, after := true }
  | .icmp c _ _ a b => { c := c == 1, srcs := [a.toNat, b.toNat], push := true, after := true }
  | .fcmp c _ a b => { c := c == 1, srcs := [a.toNat, b.toNat], push := true, after := true }
  | .ppop c => { c := c == 1, preds := true, push := true, after := true }
  | .pdup c => { c := c == 1, preds := true, push := true, after := true }
  | .pswp c => { c := c == 1, preds := true, push := true, after := true }
  | .pand c => { c := c == 1, preds := true, push := true, after := true }
  | .por c => { c := c == 1, preds := true, push := true, after := true }
  | .pxor c => { c := c == 1, preds := true, push := true, after := true }
  | .prd c d => { c := c == 1, dsts := [d.toNat], preds := true, after := true }
  | .pwr c a => { c := c == 1, srcs := [a.toNat], push := true, after := true }
  | .srd c g d _ => { c := c == 1, g := g.toNat, dsts := [d.toNat], after := true }
  | .swr c g _ a => { c := c == 1, g := g.toNat, srcs := [a.toNat] }
  | .fadd c _ g d a b => { c := c == 1, g := g.toNat, srcs := [a.toNat, b.toNat], dsts := [d.toNat], after := true }
  | .fsub c _ g d a b => { c := c == 1, g := g.toNat, srcs := [a.toNat, b.toNat], dsts := [d.toNat], after := true }
  | .fmul c _ g d a b => { c := c == 1, g := g.toNat, srcs := [a.toNat, b.toNat], dsts := [d.toNat], after := true }
  | .fma c _ g d a b => { c := c == 1, g := g.toNat, srcs := [a.toNat, b.toNat, d.toNat], dsts := [d.toNat], after := true }
  | .fmin c g d a b => { c := c == 1, g := g.toNat, srcs := [a.toNat, b.toNat], dsts := [d.toNat], after := true }
  | .fmax c g d a b => { c := c == 1, g := g.toNat, srcs := [a.toNat, b.toNat], dsts := [d.toNat], after := true }
  | .fscl c g d a b => { c := c == 1, g := g.toNat, srcs := [a.toNat, b.toNat], dsts := [d.toNat], after := true }
  | .frcp c g d a _ => { c := c == 1, g := g.toNat, srcs := [a.toNat], dsts := [d.toNat], tok := true, after := true }
  | .frsq c g d a _ => { c := c == 1, g := g.toNat, srcs := [a.toNat], dsts := [d.toNat], tok := true, after := true }
  | .fsqrt c g d a _ => { c := c == 1, g := g.toNat, srcs := [a.toNat], dsts := [d.toNat], tok := true, after := true }
  | .fex2 c g d a _ => { c := c == 1, g := g.toNat, srcs := [a.toNat], dsts := [d.toNat], tok := true, after := true }
  | .flg2 c g d a _ => { c := c == 1, g := g.toNat, srcs := [a.toNat], dsts := [d.toNat], tok := true, after := true }
  | .fsin c g d a _ => { c := c == 1, g := g.toNat, srcs := [a.toNat], dsts := [d.toNat], tok := true, after := true }
  | .fcos c g d a _ => { c := c == 1, g := g.toNat, srcs := [a.toNat], dsts := [d.toNat], tok := true, after := true }
  | .fcls c g d a _ => { c := c == 1, g := g.toNat, srcs := [a.toNat], dsts := [d.toNat], tok := true, after := true }
  | .cvtS32F32 c g d a _ => { c := c == 1, g := g.toNat, srcs := [a.toNat], dsts := [d.toNat], after := true }
  | .cvtN32F32 c g d a _ => { c := c == 1, g := g.toNat, srcs := [a.toNat], dsts := [d.toNat], after := true }
  | .cvtF32S32 c g d a _ => { c := c == 1, g := g.toNat, srcs := [a.toNat], dsts := [d.toNat], after := true }
  | .cvtF32N32 c g d a _ => { c := c == 1, g := g.toNat, srcs := [a.toNat], dsts := [d.toNat], after := true }
  | .cvti c g d a _ => { c := c == 1, g := g.toNat, srcs := [a.toNat], dsts := [d.toNat], after := true }
  | .pack c g d a _ => { c := c == 1, g := g.toNat, srcs := [a.toNat, d.toNat], dsts := [d.toNat], after := true, pre := 3 }
  | .unpk c g d a _ => { c := c == 1, g := g.toNat, srcs := [a.toNat], dsts := [d.toNat], after := true, pre := 3 }
  | .shfl c g d a t _ => { c := c == 1, g := g.toNat, srcs := [a.toNat, 112 + t.toNat], dsts := [d.toNat], tok := true, after := true }
  | .vote c g d a _ _ => { c := c == 1, g := g.toNat, srcs := [a.toNat], dsts := [d.toNat], tok := true, after := true }
  | .redx c g d a _ _ => { c := c == 1, g := g.toNat, srcs := [a.toNat], dsts := [d.toNat], tok := true, after := true }
  | .scan c g d a _ _ => { c := c == 1, g := g.toNat, srcs := [a.toNat], dsts := [d.toNat], tok := true, after := true }
  | .matchW c g d a _ => { c := c == 1, g := g.toNat, srcs := [a.toNat], dsts := [d.toNat], tok := true, after := true }
  | .matchF c g d a _ => { c := c == 1, g := g.toNat, srcs := [a.toNat], dsts := [d.toNat], tok := true, after := true }
  | .qual _ _ _ _ => noUse
  | .trd c g d a _ _ => { c := c == 1, g := g.toNat, srcs := [a.toNat], dsts := [d.toNat], tok := true }
  | .thrd c g d a _ => { c := c == 1, g := g.toNat, srcs := [a.toNat], dsts := [d.toNat] }
  | .thwr c g d a _ => { c := c == 1, g := g.toNat, srcs := [d.toNat, a.toNat] }
  | .scrd c g d _ => { c := c == 1, g := g.toNat, dsts := [d.toNat], after := true }
  | .scwr c g d _ => { c := c == 1, g := g.toNat, srcs := [d.toNat] }
  | .talloc c _ => { c := c == 1, push := true }
  | .tfree c g _ => { c := c == 1, g := g.toNat }
  | .twr c g d a _ => { c := c == 1, g := g.toNat, srcs := [d.toNat, a.toNat] }
  | .tq c g a _ _ => { c := c == 1, g := g.toNat, srcs := [a.toNat], nr := true }
  | .paddB4 c g d a b => { c := c == 1, g := g.toNat, srcs := [a.toNat, b.toNat], dsts := [d.toNat], after := true }
  | .psubB4 c g d a b => { c := c == 1, g := g.toNat, srcs := [a.toNat, b.toNat], dsts := [d.toNat], after := true }
  | .pmulB4 c g d a b => { c := c == 1, g := g.toNat, srcs := [a.toNat, b.toNat], dsts := [d.toNat], after := true }
  | .pminB4 c g d a b => { c := c == 1, g := g.toNat, srcs := [a.toNat, b.toNat], dsts := [d.toNat], after := true }
  | .pmaxB4 c g d a b => { c := c == 1, g := g.toNat, srcs := [a.toNat, b.toNat], dsts := [d.toNat], after := true }
  | .pshlB4 c g d a b => { c := c == 1, g := g.toNat, srcs := [a.toNat, b.toNat], dsts := [d.toNat], after := true }
  | .pshrB4 c g d a b => { c := c == 1, g := g.toNat, srcs := [a.toNat, b.toNat], dsts := [d.toNat], after := true }
  | .psarB4 c g d a b => { c := c == 1, g := g.toNat, srcs := [a.toNat, b.toNat], dsts := [d.toNat], after := true }
  | .paddH2 c g d a b => { c := c == 1, g := g.toNat, srcs := [a.toNat, b.toNat], dsts := [d.toNat], after := true }
  | .psubH2 c g d a b => { c := c == 1, g := g.toNat, srcs := [a.toNat, b.toNat], dsts := [d.toNat], after := true }
  | .pmulH2 c g d a b => { c := c == 1, g := g.toNat, srcs := [a.toNat, b.toNat], dsts := [d.toNat], after := true }
  | .pminH2 c g d a b => { c := c == 1, g := g.toNat, srcs := [a.toNat, b.toNat], dsts := [d.toNat], after := true }
  | .pmaxH2 c g d a b => { c := c == 1, g := g.toNat, srcs := [a.toNat, b.toNat], dsts := [d.toNat], after := true }
  | .pshlH2 c g d a b => { c := c == 1, g := g.toNat, srcs := [a.toNat, b.toNat], dsts := [d.toNat], after := true }
  | .pshrH2 c g d a b => { c := c == 1, g := g.toNat, srcs := [a.toNat, b.toNat], dsts := [d.toNat], after := true }
  | .psarH2 c g d a b => { c := c == 1, g := g.toNat, srcs := [a.toNat, b.toNat], dsts := [d.toNat], after := true }
  | .ld8 c g d b _ _ => { c := c == 1, g := g.toNat, srcs := baseSrcs b.toNat, dsts := regCodes d.toNat (regCount 1), tok := true, mem := true, pre := 1 }
  | .ld8s c g d b _ _ => { c := c == 1, g := g.toNat, srcs := baseSrcs b.toNat, dsts := regCodes d.toNat (regCount 1), tok := true, mem := true, pre := 1 }
  | .ld16 c g d b _ _ => { c := c == 1, g := g.toNat, srcs := baseSrcs b.toNat, dsts := regCodes d.toNat (regCount 2), tok := true, mem := true, pre := 1 }
  | .ld16s c g d b _ _ => { c := c == 1, g := g.toNat, srcs := baseSrcs b.toNat, dsts := regCodes d.toNat (regCount 2), tok := true, mem := true, pre := 1 }
  | .ld32 c g d b _ _ => { c := c == 1, g := g.toNat, srcs := baseSrcs b.toNat, dsts := regCodes d.toNat (regCount 4), tok := true, mem := true, pre := 1 }
  | .ld64 c g d b _ _ => { c := c == 1, g := g.toNat, srcs := baseSrcs b.toNat, dsts := regCodes d.toNat (regCount 8), tok := true, mem := true, pre := 1 }
  | .ld128 c g d b _ _ => { c := c == 1, g := g.toNat, srcs := baseSrcs b.toNat, dsts := regCodes d.toNat (regCount 16), tok := true, mem := true, pre := 1 }
  | .pref c g b _ => { c := c == 1, g := g.toNat, srcs := baseSrcs b.toNat, mem := true, pre := 3 }
  | .prefL2 c g b _ => { c := c == 1, g := g.toNat, srcs := baseSrcs b.toNat, mem := true, pre := 3 }
  | .evct c g b _ => { c := c == 1, g := g.toNat, srcs := baseSrcs b.toNat, mem := true, pre := 3 }
  | .evctL2 c g b _ => { c := c == 1, g := g.toNat, srcs := baseSrcs b.toNat, mem := true, pre := 3 }
  | .st8 c g s b _ => { c := c == 1, g := g.toNat, srcs := regCodes s.toNat (regCount 1) ++ baseSrcs b.toNat, mem := true, pre := 2 }
  | .st16 c g s b _ => { c := c == 1, g := g.toNat, srcs := regCodes s.toNat (regCount 2) ++ baseSrcs b.toNat, mem := true, pre := 2 }
  | .st32 c g s b _ => { c := c == 1, g := g.toNat, srcs := regCodes s.toNat (regCount 4) ++ baseSrcs b.toNat, mem := true, pre := 2 }
  | .st64 c g s b _ => { c := c == 1, g := g.toNat, srcs := regCodes s.toNat (regCount 8) ++ baseSrcs b.toNat, mem := true, pre := 2 }
  | .st128 c g s b _ => { c := c == 1, g := g.toNat, srcs := regCodes s.toNat (regCount 16) ++ baseSrcs b.toNat, mem := true, pre := 2 }
  | .atom c g d b _ t => { c := c == 1, g := g.toNat, srcs := regCodes d.toNat (tyRegs t.toNat) ++ baseSrcs b.toNat, dsts := regCodes d.toNat (tyRegs t.toNat), nr := true, mem := true, atomic := true, pre := 4 }
  | .cas c g d b t => { c := c == 1, g := g.toNat, srcs := regCodes d.toNat (2 * tyRegs t.toNat) ++ baseSrcs b.toNat, dsts := regCodes d.toNat (tyRegs t.toNat), nr := true, mem := true, atomic := true, pre := 4 }
  | .red c g d b _ t => { c := c == 1, g := g.toNat, srcs := regCodes d.toNat (tyRegs t.toNat) ++ baseSrcs b.toNat, nr := true, mem := true, pre := 4 }
  | .lds8 c g d b _ _ _ => { c := c == 1, g := g.toNat, srcs := [b.toNat], dsts := regCodes d.toNat (regCount 1), tok := true, mem := true, pre := 3 }
  | .lds16 c g d b _ _ _ => { c := c == 1, g := g.toNat, srcs := [b.toNat], dsts := regCodes d.toNat (regCount 2), tok := true, mem := true, pre := 3 }
  | .lds32 c g d b _ _ _ => { c := c == 1, g := g.toNat, srcs := [b.toNat], dsts := regCodes d.toNat (regCount 4), tok := true, mem := true, pre := 3 }
  | .lds64 c g d b _ _ _ => { c := c == 1, g := g.toNat, srcs := [b.toNat], dsts := regCodes d.toNat (regCount 8), tok := true, mem := true, pre := 3 }
  | .lds128 c g d b _ _ _ => { c := c == 1, g := g.toNat, srcs := [b.toNat], dsts := regCodes d.toNat (regCount 16), tok := true, mem := true, pre := 3 }
  | .sts8 c g s b _ _ => { c := c == 1, g := g.toNat, srcs := b.toNat :: regCodes s.toNat (regCount 1), mem := true, pre := 3 }
  | .sts16 c g s b _ _ => { c := c == 1, g := g.toNat, srcs := b.toNat :: regCodes s.toNat (regCount 2), mem := true, pre := 3 }
  | .sts32 c g s b _ _ => { c := c == 1, g := g.toNat, srcs := b.toNat :: regCodes s.toNat (regCount 4), mem := true, pre := 3 }
  | .sts64 c g s b _ _ => { c := c == 1, g := g.toNat, srcs := b.toNat :: regCodes s.toNat (regCount 8), mem := true, pre := 3 }
  | .sts128 c g s b _ _ => { c := c == 1, g := g.toNat, srcs := b.toNat :: regCodes s.toNat (regCount 16), mem := true, pre := 3 }
  | .copy c g a _ _ => { c := c == 1, g := g.toNat, srcs := [a.toNat], nr := true }
  | .rlay c g a _ _ => { c := c == 1, g := g.toNat, srcs := [a.toNat], nr := true }
  | .matl c g a _ _ => { c := c == 1, g := g.toNat, srcs := [a.toNat], nr := true }
  | .gath c g a _ _ => { c := c == 1, g := g.toNat, srcs := [a.toNat], nr := true }
  | .scat c g a _ _ => { c := c == 1, g := g.toNat, srcs := [a.toNat], nr := true }
  | .scatAcc c g a _ _ => { c := c == 1, g := g.toNat, srcs := [a.toNat], nr := true }
  | .coll c g a _ _ => { c := c == 1, g := g.toNat, srcs := [a.toNat], nr := true }
  | .cpyq c g a b _ _ => { c := c == 1, g := g.toNat, srcs := baseSrcs a.toNat ++ [b.toNat], nr := true }
  | _ => noUse

end Sys2Proof.Machine
end

