-- ==== Sys2Proof/Machine/RunCheck.lean ====
section
/-! DEFINITION. RUN_START: the picker (R178), the fetch of a run (R196, R270), its check (R281) and the token check (R207). -/

namespace Sys2Proof.Machine

open Sys2Proof

/-! ## The words of a run -/

/-- A word of a run: its place in the run and what it decodes to. -/
structure RWord where
  raw : Word
  pos : Nat
  inst : Option Instr
deriving DecidableEq, Repr

/-- The major opcode. -/
def opOf (w : Word) : Nat := w.toNat / 2 ^ 24 % 128
/-- END (R264): the rest of its fields is checked when it is decoded. -/
def isEnd (w : Word) : Bool := opOf w == 1
/-- KEXT or QUAL (R269). -/
def isPrefix (w : Word) : Bool := opOf w == 0x0F || opOf w == 0x4C
/-- KEXT. -/
def isKext (w : Word) : Bool := opOf w == 0x0F
/-- Words from a place on, numbered. -/
def numberFrom : Nat → List Word → List RWord
  | _, [] => []
  | n, w :: t => { raw := w, pos := n, inst := decodeWord w } :: numberFrom (n + 1) t

/-- The words that END ends, END among them; all of them, at most 24, where none is END. -/
def uptoEnd : List Word → List Word
  | [] => []
  | w :: t => if isEnd w then [w] else w :: uptoEnd t

/-- What a word uses; nothing for one that does not decode. -/
def RWord.use (w : RWord) : Use := match w.inst with | some i => useOf i | none => noUse

/-- A word with its prefixes, nearest last. -/
def served : List RWord → List RWord → List (List RWord × RWord)
  | _, [] => []
  | pre, w :: t => if isPrefix w.raw then served (pre ++ [w]) t else (pre, w) :: served [] t

/-! ## Prefixes and immediates -/

/-- Prefixes out of their order (R269): a QUAL that does not stand first, a third KEXT. -/
def outOfOrder (pre : List RWord) : List RWord := (pre.drop 1).filter (fun p => !isKext p.raw) ++ (pre.filter (fun p => isKext p.raw)).drop 2

/-- A word of a kind k (see Use.pre) allows a prefix (R158, R267, R268). -/
def prefixFits (k : Nat) (p : RWord) : Bool :=
  match p.inst with
  | some (.qual _ _ m _) => (k == 1 && decide (m.toNat ≤ 2)) || (k == 2 && (decide (m.toNat ≤ 1) || m.toNat == 3)) || (decide (4 ≤ k) && decide (1 ≤ m.toNat))
  | some _ => k == 1 || k == 2 || k == 3
  | none => true

/-- An immediate under its KEXT words (R267): value and width. -/
def immOf (pre : List RWord) (w field : Nat) : Nat × Nat :=
  let ks := pre.filterMap (fun p => match p.inst with | some (.kext k) => some k.toNat | _ => none)
  ((ks.foldl (fun n p => n * 2 ^ 24 + p) 0) * 2 ^ w + field, w + 24 * ks.length)

/-- The immediate of PACK or UNPK is one R300 gives. -/
def packOk (un : Bool) (i : Nat) : Bool :=
  let fmt := bits i 10 3
  let w := fmtBits fmt
  let float := (floatFmt fmt).isSome
  decide (i < 2 ^ 16) && decide (0 < w) && decide (w ≤ 16) && decide (bits i 2 0 < 32 / w) && decide (bits i 13 11 ≤ 4) && (float || !bit i 14) &&
    (!un || (bits i 15 11 == 0))

/-- A level that is present (R58, R337). -/
def LRec.present (r : LRec) (k : Nat) : Bool := k == 1 || (decide (2 ≤ k) && decide (k ≤ 5) && (r.w.drop k).headD 0 != 0)

/-- The immediate of a word is one it allows (R288, R300, R337). -/
def immOk (r : LRec) (pre : List RWord) (i : Instr) : Bool :=
  match i with
  | .movi _ _ _ v => let x := immOf pre 7 v.toNat; decide (-(2 ^ 31) ≤ asInt x.2 x.1) && decide (asInt x.2 x.1 < 2 ^ 32)
  | .pack _ _ _ _ v => !pre.isEmpty && packOk false (immOf pre 7 v.toNat).1
  | .unpk _ _ _ _ v => !pre.isEmpty && packOk true (immOf pre 7 v.toNat).1
  | .bar _ k => r.present (immOf pre 7 k.toNat).1
  | _ => true

/-! ## The faults of a run -/

/-- ILLEGAL and RUNSHAPE (R213). -/
def cIllegal : Nat := 0x11
/-- RUNSHAPE. -/
def cRunshape : Nat := 0x12

/-- The faults of one word by itself (R206, R261, R262, R265, R276 to R280, R339, R340, R380), and of its prefixes, each at its own place (R268, R269, R281): out of their order,
or not allowed before the word. -/
def wordFaults (r : LRec) (x : List RWord × RWord) : List (Nat × Nat) :=
  let pre := x.1
  let w := x.2
  let bad := match w.inst with
    | none => true
    | some i => !immOk r pre i || ((useOf i).graph && r.kind != 2) || ((useOf i).est && r.kind != 3)
  let wrong := outOfOrder pre ++ (match w.inst with | some i => pre.filter (fun p => !prefixFits (useOf i).pre p) | none => [])
  wrong.map (fun p => (p.pos, cIllegal)) ++ (if bad then [(w.pos, cIllegal)] else [])

/-- A prefix that is none, or stands in the last slot of its packet (R269, R271): the prefix is the word at fault, as it is where it does not fit the word it serves (R281; DEDUCED,
log 112). -/
def prefixFaults (ws : List RWord) : List (Nat × Nat) :=
  (ws.filter (fun p => isPrefix p.raw && (p.inst.isNone || p.pos % 3 == 2))).map (fun p => (p.pos, cIllegal))

/-- C = 1 on a word that no later word, prefixes apart, follows in its packet (R200, R271). -/
def chainFaults (ws : List RWord) : List (Nat × Nat) :=
  (ws.filter (fun w => w.use.c && !(ws.any (fun v => decide (w.pos < v.pos) && v.pos / 3 == w.pos / 3 && !isPrefix v.raw)))).map
    (fun w => (w.pos, cIllegal))

/-- What the earlier words of a chain have produced: codes, latches, predicates. -/
structure Chained where
  codes : List Nat
  latches : Nat
  preds : Bool

/-- A word that reads a result of its own chain (R200). -/
def chainReads : Chained → Bool → List RWord → List (Nat × Nat)
  | _, _, [] => []
  | h0, c, w :: t =>
    let h : Chained := if c then h0 else { codes := [], latches := 0, preds := false }
    let u := w.use
    let bad := u.srcs.any (fun x => h.codes.contains x || (decide (96 ≤ x) && decide (x < 96 + h.latches))) || (h.preds && (u.g != 0 || u.preds))
    let made := if u.tok then [] else if u.atomic then u.dsts else u.dsts.filter (fun d => decide (104 ≤ d))
    let h' : Chained :=
      { codes := h.codes ++ made, latches := h.latches + (if u.tok || u.dsts.isEmpty then 0 else 1), preds := h.preds || u.push }
    (if bad then [(w.pos, cRunshape)] else []) ++ chainReads h' u.c t

/-- The shape of a run (R197, R208, R334): what follows a non-replayable word or a fence, and what stands last before END. Of prefixes only a KEXT that serves a word which may
follow a non-replayable word may follow one. -/
def shapeFaults : Bool → Bool → List RWord → List (Nat × Nat)
  | _, _, [] => []
  | nr, fence, w :: t =>
    let u := w.use
    let next := match t with | v :: _ => isEnd v.raw | [] => false
    if isPrefix w.raw then
      let serves := match t.find? (fun v => !isPrefix v.raw) with | some v => v.use.after | none => false
      (if nr && !(isKext w.raw && serves) then [(w.pos, cRunshape)] else []) ++ shapeFaults nr fence t
    else
    let bad := (nr && !u.after) || (fence && u.mem) || (u.last && !next)
    (if bad then [(w.pos, cRunshape)] else []) ++ shapeFaults (nr || u.nr) (fence || u.fence) t

/-- A word that reads or writes a register that a token-carried word of the run writes (R196, R207). -/
def tokenFaults (ws : List RWord) : List (Nat × Nat) :=
  (ws.filter (fun w => ws.any (fun v => v.pos != w.pos && v.use.tok && v.use.dsts.any (fun d => w.use.srcs.contains d || w.use.dsts.contains d)))).map
    (fun w => (w.pos, cRunshape))

/-- The cause of the lowest fault (R281); of two at one word, the first listed. -/
def lowest (l : List (Nat × Nat)) : Option Nat :=
  match l with
  | [] => none
  | f :: t => some (t.foldl (fun m x => if x.1 < m.1 then x else m) f).2

/-- The check of a run from the words of its packets, in a launch (R196, R197, R200, R207, R208, R269, R271, R272, R281): the cause of the fault it raises, or
none. -/
def runFault (r : LRec) (raw : List Word) : Option Nat :=
  let run := uptoEnd (raw.take 24)
  let ended := run.any isEnd
  let ws := numberFrom 0 run
  let body := ws.filter (fun w => !isPrefix w.raw)
  let rest := (raw.drop run.length).take (if run.length % 3 = 0 then 0 else 3 - run.length % 3)
  lowest ((if ended then [] else [(23, cRunshape)]) ++ prefixFaults ws ++ (served [] ws).flatMap (wordFaults r) ++ chainFaults ws ++
    (if ended && rest.any (fun w => w != 0) then [(run.length, cIllegal)] else []) ++
    chainReads { codes := [], latches := 0, preds := false } false body ++ shapeFaults false false ws ++ tokenFaults body)

/-- The lane registers and operand-cache entries that a run reads or writes (R207). -/
def runRegs (raw : List Word) : List Nat :=
  ((numberFrom 0 (uptoEnd (raw.take 24))).flatMap (fun w => w.use.srcs ++ w.use.dsts)).filter (fun c => decide (c < 96) || (decide (104 ≤ c) && decide (c < 112)))

/-! ## Fetch -/

/-- What a fetch answers: the words of the packets up to the one that holds END, that something must come first, a translation fault, or poisoned bytes. -/
inductive FetchR where
  | words (l : List Word)
  | wait
  | fault (walk : Nat) (fid : Option Nat)
  | poison
deriving DecidableEq, Repr

/-- Twelve bytes in pieces by line, under translations already held: at the slice, or at the home from a page with PBMT 1 (R128). -/
def State.fetchBytes (s : State) (core ctx world tenant va : Nat) (pages : List (Nat × Nat × Nat)) : State × Option (List (Byte × Bool)) :=
  let n := min 12 (128 - va % 128)
  ([(va, n), (va + n, 12 - n)].filter (fun p => decide (0 < p.2))).foldl (fun (q : State × Option (List (Byte × Bool))) p =>
    match q.2, heldPa pages p.1 with
    | some l, some pa =>
      let r := if s.barred tenant (128 * lineOf pa) 128 false then (q.1, some (zeros 128, List.range 16)) else
        match q.1.xlate (stackOf core) tenant ctx p.1 3 with
        | .ok _ attr => if attr.uncached then q.1.homeRead (accessNode core (lineOf pa)) (stackOf core) (lineOf pa) world (pa % 128) p.2
            else q.1.sliceRead core (stackOf core) (lineOf pa) world 0
        | _ => q.1.sliceRead core (stackOf core) (lineOf pa) world 0
      match r.2 with
      | some d => (r.1, some (l ++ (List.range p.2).map (fun i => ((d.1.drop (pa % 128 + i)).headD 0, d.2.contains ((pa % 128 + i) / 8)))))
      | none => (r.1, none)
    | _, _ => (q.1, none)) (s, some [])

/-- The packet at a virtual address (R270): once both pages translate. -/
def State.fetchPacket (s : State) (core t ctx world va : Nat) : State × FetchR :=
  let r := s.xlRange (stackOf core) t ctx va 3 (pagesOf va 12)
  match r.2 with
  | .wait => (r.1, .wait)
  | .trap _ => (r.1, .wait)
  | .fault _ w fid => (r.1, .fault w fid)
  | .ok pages =>
    let b := r.1.fetchBytes core ctx world t va pages
    match b.2 with
    | none => (b.1, .wait)
    | some l =>
      if l.any (fun x => x.2) then (b.1, .poison)
      else (b.1, .words ((List.range 3).map (fun i => wordOfBytes ((l.drop (4 * i)).map (fun x => x.1)))))

/-- Packets from pc on, until one holds END or eight have been fetched (R196, R272). -/
def State.fetchRun (core t ctx world base : Nat) : Nat → State → Nat → State × FetchR
  | 0, s, _ => (s, .words [])
  | k + 1, s, pc =>
    let r := s.fetchPacket core t ctx world ((base + 12 * (pc % 2 ^ 32)) % 2 ^ 64)
    match r.2 with
    | .words l =>
      if l.any isEnd then r
      else
        let q := State.fetchRun core t ctx world base k r.1 (pc + 1)
        match q.2 with
        | .words m => (q.1, .words (l ++ m))
        | _ => q
    | _ => r

/-! ## The picker (R178) -/

/-- A thread is ready for its next run (R178, R207): at a run start, neither parked nor waiting, its await mask satisfied, and no refill of one of
its registers under way (R140). -/
def State.threadReady (s : State) (x : Gang) (lane : Nat) : Bool :=
  let t := x.thread lane
  !x.restoring && t.status == .runnable && !t.inRun && !t.stopped && t.hold == .none && !s.overdue x.ctx t &&
    !(s.core.toks.any (fun k => decide (8 ≤ k.k) && k.core == x.core && k.lanes.any (fun l => l.slot == x.slot && l.lane == lane))) &&
    (List.range 8).all (fun k => !bit t.await k || !s.tokPending x.core x.slot lane k)

/-- Ready threads of a core: gang slot, lane, thread, by gang slot and lane. -/
def State.readyThreads (s : State) (core : Nat) : List (Gang × Nat) :=
  ((List.range 32).filterMap (fun slot => s.gang core slot)).flatMap (fun x =>
    ((List.range 32).filter (fun l => s.threadReady x l)).map (fun l => (x, l)))

/-- The first of the ready threads: the one ready earliest (R178); ties: lower gang slot, then lower lane. -/
def oldest (l : List (Gang × Nat)) : Option (Gang × Nat) :=
  match l with
  | [] => none
  | a :: t => some (t.foldl (fun m b => if (b.1.thread b.2).stamp < (m.1.thread m.2).stamp then b else m) a)

/-- The group around a thread: of each lane position the ready thread with its launch and packet in the lowest gang slot. -/
def groupAround (l : List (Gang × Nat)) (h : Gang × Nat) : List (Gang × Nat) :=
  (List.range 32).filterMap (fun p => l.find? (fun e => e.2 == p && e.1.ctx == h.1.ctx && (e.1.thread p).pc == (h.1.thread h.2).pc))

/-- The lane of a group that a thread makes. -/
def laneOf (e : Gang × Nat) : RLane :=
  let t := e.1.thread e.2
  { lane := e.2, slot := e.1.slot, gang := e.1.gang, lat := [], tmp := [], wr := [], o := [], preds := t.preds, depth := t.depth, ppois := t.ppois, calls := t.calls, next := none,
    wait := 0, relId := none, bar := none, did := false, dval := none, clk := none, ref := none, rcd := [], coll := none, pages := [], done := false }

/-- Debug stops of the ready threads of a core (R398, R399, R401, R402): by gang, then by lowest lane. -/
def State.debugStops (s : State) (core : Nat) : State :=
  let hits := (s.readyThreads core).filterMap (fun e => (s.stopReason e.1 e.2 (e.1.thread e.2).pc).map (fun r => (e.1.gang, e.2, e.1.slot, (e.1.thread e.2).pc, r)))
  let keys := (hits.map (fun h => (h.1, h.2.2))).eraseDups
  (sortBy (fun a => a.1) keys).foldl (fun (s : State) k =>
    s.stopSet core k.2.1 ((hits.filter (fun h => (h.1, h.2.2) == k)).map (fun h => h.2.1)) k.2.2.2 { code := 3, pc := k.2.2.1 }) s

/-- Threads with a register of a run pending from an earlier one (R207): the lanes, each with the tokens. -/
def State.hazards (s : State) (core : Nat) (ls : List RLane) (regs : List Nat) : List (RLane × List Nat) :=
  (ls.map (fun l => (l, (s.core.toks.filter (fun t => t.core == core && decide (t.k < 8) && t.lanes.any (fun x => x.slot == l.slot && x.lane == l.lane && !x.drop) &&
    (regCodes t.dst t.n).any (fun c => regs.contains c))).map (fun t => t.k)))).filter (fun x => !x.2.isEmpty)

/-- TOKHAZ (R207): logged in class 1; a trap, with which operand-cache entries die (R203); the threads restart once the tokens have completed, the others at once. -/
def State.tokHaz (s : State) (g : Grp) (hz : List (RLane × List Nat)) : State :=
  let s1 := (slotsOf (hz.map (fun h => h.1))).foldl (fun (s : State) x =>
    let gang := match s.gang g.core x with | some y => y.gang | none => 0
    let mask := maskOf ((hz.filter (fun h => h.1.slot == x)).map (fun h => h.1.lane))
    s.logTenant (some (s.tenantOfCtx g.ctx)) (srcCore g.core) 0x11 1 (trapFields mask g.pc g.ctx gang 0x15)) s
  hz.foldl (fun (s : State) h =>
    (s.killOps g.core h.1.slot h.1.lane).updThread g.core h.1.slot h.1.lane (fun t => { t with await := h.2.foldl (fun m k => setBit m k true) t.await })) s1

/-- The scratchpad of a gang as a run that starts now finds it. -/
def Gang.pad (x : Gang) : Pad := { slot := x.slot, spad := x.spad, spois := x.spois, valid := x.valid }

/-- A group starts its run: acquires of threads on their first run (R157), then the group is in issue. -/
def State.startGrp (s : State) (g : Grp) : State :=
  let s1 := g.lanes.foldl (fun (s : State) l =>
    let t := s.thread g.core l.slot l.lane
    let s1 := if t.first then s.acquire g.core l.slot l.lane else s
    s1.updThread g.core l.slot l.lane (fun t => { t with inRun := true })) s
  { s1 with core.issue := s1.core.issue ++ [{ g with pads := (slotsOf g.lanes).filterMap (fun x => (s1.gang g.core x).map Gang.pad) }] }

/-- A group at its run start: fetched, decoded and checked in full, then issued (R196, R281). -/
def State.issueRun (s : State) (L : Launch) (core pc : Nat) (ls : List RLane) : State :=
  let g : Grp :=
    { id := s.ctl.nextId, core := core, ctx := L.ctx, pc := pc, words := [], idx := 0, kext := [], qual := none, named := [], shifted := 0, fx := [], arith := [],
      stage := 0, stallTx := [], trailer := false, pads := [], allocs := [], lanes := ls }
  let r := State.fetchRun core L.tenant L.ctx L.world L.lrec.codebase 8 s.bump pc
  match r.2 with
  | .wait => r.1
  | .fault w fid => (r.1.takeFaults [w]).waitTrap g (ls.map (fun l => (l, fid)))
  | .poison => r.1.poisonTrap g 3 (ls.map (fun l => (l, memPoison)))
  | .words raw =>
    match runFault L.lrec raw with
    | some cause => r.1.coreTrap g cause ls
    | none =>
      let hz := r.1.hazards core ls (runRegs raw)
      if hz.isEmpty then
        let run := uptoEnd (raw.take 24)
        r.1.startGrp { g with words := (List.range run.length).zip run |>.map (fun e => (e.2, (pc + e.1 / 3) % 2 ^ 32)) }
      else r.1.tokHaz g hz

/-- RUN_START (R178): debug stops first, then one group of the core. -/
def State.runStart (s : State) (core : Nat) : State :=
  let s1 := s.debugStops core
  let ready := s1.readyThreads core
  match oldest ready with
  | none => s1
  | some h =>
    match s1.launch h.1.ctx with
    | none => s1
    | some L => s1.issueRun L core (h.1.thread h.2).pc ((groupAround ready h).map laneOf)

/-- RUN_START (R178, R196, R281). -/
def execRunStart (s : State) : Out :=
  .next (match s.ctl.op with
    | some (.runStart core) => s.runStart core
    | _ => s)

end Sys2Proof.Machine
end

