-- ==== Sys2Proof/Machine/Dispatch.lean ====
section
/-! DEFINITION. One arm per instruction and event: the call of its meaning. -/

namespace Sys2Proof.Machine

open Sys2Proof

/-- The meaning of an instruction or event in a state. -/
def exec (i : Instr) (s : State) : Host.Outcome State Fault Refusal :=
  match i with
  | .nop c => Sys2Proof.Machine.execNop c s
  | .endRun w y l => Sys2Proof.Machine.execEndRun w y l s
  | .bra c g n => Sys2Proof.Machine.execBra c g n s
  | .call c g n => Sys2Proof.Machine.execCall c g n s
  | .brx c g a => Sys2Proof.Machine.execBrx c g a s
  | .exit c g => Sys2Proof.Machine.execExit c g s
  | .ret c g => Sys2Proof.Machine.execRet c g s
  | .acqx c => Sys2Proof.Machine.execAcqx c s
  | .relx c => Sys2Proof.Machine.execRelx c s
  | .brk c g => Sys2Proof.Machine.execBrk c g s
  | .join c g a => Sys2Proof.Machine.execJoin c g a s
  | .svc c g a => Sys2Proof.Machine.execSvc c g a s
  | .bar c k => Sys2Proof.Machine.execBar c k s
  | .waitAny c g d a b => Sys2Proof.Machine.execWaitAny c g d a b s
  | .waitAll c g d a b => Sys2Proof.Machine.execWaitAll c g d a b s
  | .arm c g a b => Sys2Proof.Machine.execArm c g a b s
  | .fenceAcq c g s1 => Sys2Proof.Machine.execFenceAcq c g s1 s
  | .fenceRel c g s1 => Sys2Proof.Machine.execFenceRel c g s1 s
  | .fenceAr c g s1 r => Sys2Proof.Machine.execFenceAr c g s1 r s
  | .phase c g s1 r => Sys2Proof.Machine.execPhase c g s1 r s
  | .emit c g a => Sys2Proof.Machine.execEmit c g a s
  | .post c g a => Sys2Proof.Machine.execPost c g a s
  | .eacc c g a t => Sys2Proof.Machine.execEacc c g a t s
  | .kext p => Sys2Proof.Machine.execKext p s
  | .iadd c g d a b => Sys2Proof.Machine.execIadd c g d a b s
  | .isub c g d a b => Sys2Proof.Machine.execIsub c g d a b s
  | .imul c g d a b => Sys2Proof.Machine.execImul c g d a b s
  | .imad c g d a b => Sys2Proof.Machine.execImad c g d a b s
  | .imulhS32 c g d a b => Sys2Proof.Machine.execImulhS32 c g d a b s
  | .imulhN32 c g d a b => Sys2Proof.Machine.execImulhN32 c g d a b s
  | .idivS32 c g d a b => Sys2Proof.Machine.execIdivS32 c g d a b s
  | .idivN32 c g d a b => Sys2Proof.Machine.execIdivN32 c g d a b s
  | .iremS32 c g d a b => Sys2Proof.Machine.execIremS32 c g d a b s
  | .iremN32 c g d a b => Sys2Proof.Machine.execIremN32 c g d a b s
  | .iminS32 c g d a b => Sys2Proof.Machine.execIminS32 c g d a b s
  | .iminN32 c g d a b => Sys2Proof.Machine.execIminN32 c g d a b s
  | .imaxS32 c g d a b => Sys2Proof.Machine.execImaxS32 c g d a b s
  | .imaxN32 c g d a b => Sys2Proof.Machine.execImaxN32 c g d a b s
  | .movi c g d n => Sys2Proof.Machine.execMovi c g d n s
  | .mov c g d a => Sys2Proof.Machine.execMov c g d a s
  | .iabs c g d a => Sys2Proof.Machine.execIabs c g d a s
  | .ineg c g d a => Sys2Proof.Machine.execIneg c g d a s
  | .popc c g d a => Sys2Proof.Machine.execPopc c g d a s
  | .clz c g d a => Sys2Proof.Machine.execClz c g d a s
  | .ctz c g d a => Sys2Proof.Machine.execCtz c g d a s
  | .brev c g d a => Sys2Proof.Machine.execBrev c g d a s
  | .andW c g d a b => Sys2Proof.Machine.execAndW c g d a b s
  | .orW c g d a b => Sys2Proof.Machine.execOrW c g d a b s
  | .xor c g d a b => Sys2Proof.Machine.execXor c g d a b s
  | .andn c g d a b => Sys2Proof.Machine.execAndn c g d a b s
  | .shl c g d a b => Sys2Proof.Machine.execShl c g d a b s
  | .shr c g d a b => Sys2Proof.Machine.execShr c g d a b s
  | .sar c g d a b => Sys2Proof.Machine.execSar c g d a b s
  | .rotl c g d a b => Sys2Proof.Machine.execRotl c g d a b s
  | .bfxN32 c g d a b => Sys2Proof.Machine.execBfxN32 c g d a b s
  | .bfxS32 c g d a b => Sys2Proof.Machine.execBfxS32 c g d a b s
  | .bfi c g d a b => Sys2Proof.Machine.execBfi c g d a b s
  | .sel c g d a b => Sys2Proof.Machine.execSel c g d a b s
  | .icmp c t cc a b => Sys2Proof.Machine.execIcmp c t cc a b s
  | .fcmp c cc a b => Sys2Proof.Machine.execFcmp c cc a b s
  | .ppop c => Sys2Proof.Machine.execPpop c s
  | .pdup c => Sys2Proof.Machine.execPdup c s
  | .pswp c => Sys2Proof.Machine.execPswp c s
  | .pand c => Sys2Proof.Machine.execPand c s
  | .por c => Sys2Proof.Machine.execPor c s
  | .pxor c => Sys2Proof.Machine.execPxor c s
  | .prd c d => Sys2Proof.Machine.execPrd c d s
  | .pwr c a => Sys2Proof.Machine.execPwr c a s
  | .srd c g d s1 => Sys2Proof.Machine.execSrd c g d s1 s
  | .swr c g s1 a => Sys2Proof.Machine.execSwr c g s1 a s
  | .fadd c r g d a b => Sys2Proof.Machine.execFadd c r g d a b s
  | .fsub c r g d a b => Sys2Proof.Machine.execFsub c r g d a b s
  | .fmul c r g d a b => Sys2Proof.Machine.execFmul c r g d a b s
  | .fma c r g d a b => Sys2Proof.Machine.execFma c r g d a b s
  | .fmin c g d a b => Sys2Proof.Machine.execFmin c g d a b s
  | .fmax c g d a b => Sys2Proof.Machine.execFmax c g d a b s
  | .fscl c g d a b => Sys2Proof.Machine.execFscl c g d a b s
  | .frcp c g d a k => Sys2Proof.Machine.execFrcp c g d a k s
  | .frsq c g d a k => Sys2Proof.Machine.execFrsq c g d a k s
  | .fsqrt c g d a k => Sys2Proof.Machine.execFsqrt c g d a k s
  | .fex2 c g d a k => Sys2Proof.Machine.execFex2 c g d a k s
  | .flg2 c g d a k => Sys2Proof.Machine.execFlg2 c g d a k s
  | .fsin c g d a k => Sys2Proof.Machine.execFsin c g d a k s
  | .fcos c g d a k => Sys2Proof.Machine.execFcos c g d a k s
  | .fcls c g d a k => Sys2Proof.Machine.execFcls c g d a k s
  | .cvtS32F32 c g d a r => Sys2Proof.Machine.execCvtS32F32 c g d a r s
  | .cvtN32F32 c g d a r => Sys2Proof.Machine.execCvtN32F32 c g d a r s
  | .cvtF32S32 c g d a r => Sys2Proof.Machine.execCvtF32S32 c g d a r s
  | .cvtF32N32 c g d a r => Sys2Proof.Machine.execCvtF32N32 c g d a r s
  | .cvti c g d a r => Sys2Proof.Machine.execCvti c g d a r s
  | .pack c g d a n => Sys2Proof.Machine.execPack c g d a n s
  | .unpk c g d a n => Sys2Proof.Machine.execUnpk c g d a n s
  | .shfl c g d a t k => Sys2Proof.Machine.execShfl c g d a t k s
  | .vote c g d a f k => Sys2Proof.Machine.execVote c g d a f k s
  | .redx c g d a f k => Sys2Proof.Machine.execRedx c g d a f k s
  | .scan c g d a f k => Sys2Proof.Machine.execScan c g d a f k s
  | .matchW c g d a k => Sys2Proof.Machine.execMatchW c g d a k s
  | .matchF c g d a k => Sys2Proof.Machine.execMatchF c g d a k s
  | .qual w p m s1 => Sys2Proof.Machine.execQual w p m s1 s
  | .trd c g d a n k => Sys2Proof.Machine.execTrd c g d a n k s
  | .thrd c g d a n => Sys2Proof.Machine.execThrd c g d a n s
  | .thwr c g d a n => Sys2Proof.Machine.execThwr c g d a n s
  | .scrd c g d n => Sys2Proof.Machine.execScrd c g d n s
  | .scwr c g d n => Sys2Proof.Machine.execScwr c g d n s
  | .talloc c n => Sys2Proof.Machine.execTalloc c n s
  | .tfree c g n => Sys2Proof.Machine.execTfree c g n s
  | .twr c g d a n => Sys2Proof.Machine.execTwr c g d a n s
  | .tq c g a q l => Sys2Proof.Machine.execTq c g a q l s
  | .paddB4 c g d a b => Sys2Proof.Machine.execPaddB4 c g d a b s
  | .psubB4 c g d a b => Sys2Proof.Machine.execPsubB4 c g d a b s
  | .pmulB4 c g d a b => Sys2Proof.Machine.execPmulB4 c g d a b s
  | .pminB4 c g d a b => Sys2Proof.Machine.execPminB4 c g d a b s
  | .pmaxB4 c g d a b => Sys2Proof.Machine.execPmaxB4 c g d a b s
  | .pshlB4 c g d a b => Sys2Proof.Machine.execPshlB4 c g d a b s
  | .pshrB4 c g d a b => Sys2Proof.Machine.execPshrB4 c g d a b s
  | .psarB4 c g d a b => Sys2Proof.Machine.execPsarB4 c g d a b s
  | .paddH2 c g d a b => Sys2Proof.Machine.execPaddH2 c g d a b s
  | .psubH2 c g d a b => Sys2Proof.Machine.execPsubH2 c g d a b s
  | .pmulH2 c g d a b => Sys2Proof.Machine.execPmulH2 c g d a b s
  | .pminH2 c g d a b => Sys2Proof.Machine.execPminH2 c g d a b s
  | .pmaxH2 c g d a b => Sys2Proof.Machine.execPmaxH2 c g d a b s
  | .pshlH2 c g d a b => Sys2Proof.Machine.execPshlH2 c g d a b s
  | .pshrH2 c g d a b => Sys2Proof.Machine.execPshrH2 c g d a b s
  | .psarH2 c g d a b => Sys2Proof.Machine.execPsarH2 c g d a b s
  | .ld8 c g d b o k => Sys2Proof.Machine.execLd8 c g d b o k s
  | .ld8s c g d b o k => Sys2Proof.Machine.execLd8s c g d b o k s
  | .ld16 c g d b o k => Sys2Proof.Machine.execLd16 c g d b o k s
  | .ld16s c g d b o k => Sys2Proof.Machine.execLd16s c g d b o k s
  | .ld32 c g d b o k => Sys2Proof.Machine.execLd32 c g d b o k s
  | .ld64 c g d b o k => Sys2Proof.Machine.execLd64 c g d b o k s
  | .ld128 c g d b o k => Sys2Proof.Machine.execLd128 c g d b o k s
  | .pref c g b o => Sys2Proof.Machine.execPref c g b o s
  | .prefL2 c g b o => Sys2Proof.Machine.execPrefL2 c g b o s
  | .evct c g b o => Sys2Proof.Machine.execEvct c g b o s
  | .evctL2 c g b o => Sys2Proof.Machine.execEvctL2 c g b o s
  | .st8 c g s1 b o => Sys2Proof.Machine.execSt8 c g s1 b o s
  | .st16 c g s1 b o => Sys2Proof.Machine.execSt16 c g s1 b o s
  | .st32 c g s1 b o => Sys2Proof.Machine.execSt32 c g s1 b o s
  | .st64 c g s1 b o => Sys2Proof.Machine.execSt64 c g s1 b o s
  | .st128 c g s1 b o => Sys2Proof.Machine.execSt128 c g s1 b o s
  | .atom c g d b o t => Sys2Proof.Machine.execAtom c g d b o t s
  | .cas c g d b t => Sys2Proof.Machine.execCas c g d b t s
  | .red c g d b o t => Sys2Proof.Machine.execRed c g d b o t s
  | .lds8 c g d b w f k => Sys2Proof.Machine.execLds8 c g d b w f k s
  | .lds16 c g d b w f k => Sys2Proof.Machine.execLds16 c g d b w f k s
  | .lds32 c g d b w f k => Sys2Proof.Machine.execLds32 c g d b w f k s
  | .lds64 c g d b w f k => Sys2Proof.Machine.execLds64 c g d b w f k s
  | .lds128 c g d b w f k => Sys2Proof.Machine.execLds128 c g d b w f k s
  | .sts8 c g s1 b w f => Sys2Proof.Machine.execSts8 c g s1 b w f s
  | .sts16 c g s1 b w f => Sys2Proof.Machine.execSts16 c g s1 b w f s
  | .sts32 c g s1 b w f => Sys2Proof.Machine.execSts32 c g s1 b w f s
  | .sts64 c g s1 b w f => Sys2Proof.Machine.execSts64 c g s1 b w f s
  | .sts128 c g s1 b w f => Sys2Proof.Machine.execSts128 c g s1 b w f s
  | .copy c g a q l => Sys2Proof.Machine.execCopy c g a q l s
  | .rlay c g a q l => Sys2Proof.Machine.execRlay c g a q l s
  | .matl c g a q l => Sys2Proof.Machine.execMatl c g a q l s
  | .gath c g a q l => Sys2Proof.Machine.execGath c g a q l s
  | .scat c g a q l => Sys2Proof.Machine.execScat c g a q l s
  | .scatAcc c g a q l => Sys2Proof.Machine.execScatAcc c g a q l s
  | .coll c g a q l => Sys2Proof.Machine.execColl c g a q l s
  | .cpyq c g a b q l => Sys2Proof.Machine.execCpyq c g a b q l s
  | .packageReset => Sys2Proof.Machine.execPackageReset s
  | .railOutOfLimits => Sys2Proof.Machine.execRailOutOfLimits s
  | .railSettledTimer => Sys2Proof.Machine.execRailSettledTimer s
  | .islandWrite => Sys2Proof.Machine.execIslandWrite s
  | .islandChangeComplete => Sys2Proof.Machine.execIslandChangeComplete s
  | .tcolSample => Sys2Proof.Machine.execTcolSample s
  | .thermalThrottle => Sys2Proof.Machine.execThermalThrottle s
  | .tcolHotClear => Sys2Proof.Machine.execTcolHotClear s
  | .flitSend => Sys2Proof.Machine.execFlitSend s
  | .flitReceive => Sys2Proof.Machine.execFlitReceive s
  | .flitReplay => Sys2Proof.Machine.execFlitReplay s
  | .keyUpdateStart => Sys2Proof.Machine.execKeyUpdateStart s
  | .keyExpire => Sys2Proof.Machine.execKeyExpire s
  | .linkPeerDetected => Sys2Proof.Machine.execLinkPeerDetected s
  | .linkTrainingComplete => Sys2Proof.Machine.execLinkTrainingComplete s
  | .linkTrainingTimeout => Sys2Proof.Machine.execLinkTrainingTimeout s
  | .linkSessionEstablished => Sys2Proof.Machine.execLinkSessionEstablished s
  | .linkKeyingFail => Sys2Proof.Machine.execLinkKeyingFail s
  | .linkKeyingTimeout => Sys2Proof.Machine.execLinkKeyingTimeout s
  | .linkSessionAttemptFail => Sys2Proof.Machine.execLinkSessionAttemptFail s
  | .linkRetryTimer => Sys2Proof.Machine.execLinkRetryTimer s
  | .keyUpdateComplete => Sys2Proof.Machine.execKeyUpdateComplete s
  | .linkSessionExpire => Sys2Proof.Machine.execLinkSessionExpire s
  | .linkDrainComplete => Sys2Proof.Machine.execLinkDrainComplete s
  | .linkPortReset => Sys2Proof.Machine.execLinkPortReset s
  | .hostLinkTrainingComplete => Sys2Proof.Machine.execHostLinkTrainingComplete s
  | .hdmbaseWrite => Sys2Proof.Machine.execHdmbaseWrite s
  | .hdmsizeWrite => Sys2Proof.Machine.execHdmsizeWrite s
  | .cxlmemRequest => Sys2Proof.Machine.execCxlmemRequest s
  | .registerWrite => Sys2Proof.Machine.execRegisterWrite s
  | .hartidWrite => Sys2Proof.Machine.execHartidWrite s
  | .bridgePackageRead => Sys2Proof.Machine.execBridgePackageRead s
  | .bridgePackageStore => Sys2Proof.Machine.execBridgePackageStore s
  | .bridgeGrant => Sys2Proof.Machine.execBridgeGrant s
  | .bridgeMscEviction => Sys2Proof.Machine.execBridgeMscEviction s
  | .hostSnpinv => Sys2Proof.Machine.execHostSnpinv s
  | .hostSnpdata => Sys2Proof.Machine.execHostSnpdata s
  | .hostSnpcur => Sys2Proof.Machine.execHostSnpcur s
  | .tenantModesWrite => Sys2Proof.Machine.execTenantModesWrite s
  | .tenantSetOn => Sys2Proof.Machine.execTenantSetOn s
  | .tenantSetOff => Sys2Proof.Machine.execTenantSetOff s
  | .tenantRecordWrite => Sys2Proof.Machine.execTenantRecordWrite s
  | .hreqbaseWrite => Sys2Proof.Machine.execHreqbaseWrite s
  | .hfltbaseWrite => Sys2Proof.Machine.execHfltbaseWrite s
  | .hreqheadWrite => Sys2Proof.Machine.execHreqheadWrite s
  | .hfltheadWrite => Sys2Proof.Machine.execHfltheadWrite s
  | .hearthRestart => Sys2Proof.Machine.execHearthRestart s
  | .bootStart => Sys2Proof.Machine.execBootStart s
  | .bootCxlReady => Sys2Proof.Machine.execBootCxlReady s
  | .bootCxlTimeout => Sys2Proof.Machine.execBootCxlTimeout s
  | .bootHeaderFetched => Sys2Proof.Machine.execBootHeaderFetched s
  | .bootBodyFetched => Sys2Proof.Machine.execBootBodyFetched s
  | .measExtend => Sys2Proof.Machine.execMeasExtend s
  | .firmwareReady => Sys2Proof.Machine.execFirmwareReady s
  | .imageLineUe => Sys2Proof.Machine.execImageLineUe s
  | .recoveryReloadComplete => Sys2Proof.Machine.execRecoveryReloadComplete s
  | .doorbellSetTail => Sys2Proof.Machine.execDoorbellSetTail s
  | .doorbellOpen => Sys2Proof.Machine.execDoorbellOpen s
  | .doorbellClose => Sys2Proof.Machine.execDoorbellClose s
  | .doorbellCmd3 => Sys2Proof.Machine.execDoorbellCmd3 s
  | .launchRecord => Sys2Proof.Machine.execLaunchRecord s
  | .controlRecord => Sys2Proof.Machine.execControlRecord s
  | .queueHeadRetry => Sys2Proof.Machine.execQueueHeadRetry s
  | .launchComplete => Sys2Proof.Machine.execLaunchComplete s
  | .heartbeatRequest => Sys2Proof.Machine.execHeartbeatRequest s
  | .heartbeatTimeout => Sys2Proof.Machine.execHeartbeatTimeout s
  | .keyInstall => Sys2Proof.Machine.execKeyInstall s
  | .keyRemove => Sys2Proof.Machine.execKeyRemove s
  | .worldRetire => Sys2Proof.Machine.execWorldRetire s
  | .worldScrubComplete => Sys2Proof.Machine.execWorldScrubComplete s
  | .worldAbort => Sys2Proof.Machine.execWorldAbort s
  | .tdispLeaveRun => Sys2Proof.Machine.execTdispLeaveRun s
  | .l1FillReturn => Sys2Proof.Machine.execL1FillReturn s
  | .l1Update => Sys2Proof.Machine.execL1Update s
  | .l1Invalidation => Sys2Proof.Machine.execL1Invalidation s
  | .dirReadMiss => Sys2Proof.Machine.execDirReadMiss s
  | .dirStore => Sys2Proof.Machine.execDirStore s
  | .dirAck => Sys2Proof.Machine.execDirAck s
  | .dirEvictionNotice => Sys2Proof.Machine.execDirEvictionNotice s
  | .l2Victim => Sys2Proof.Machine.execL2Victim s
  | .homeStore => Sys2Proof.Machine.execHomeStore s
  | .l2HomeUpdate => Sys2Proof.Machine.execL2HomeUpdate s
  | .homeAck => Sys2Proof.Machine.execHomeAck s
  | .storeAck => Sys2Proof.Machine.execStoreAck s
  | .mscVictim => Sys2Proof.Machine.execMscVictim s
  | .worldLineHandover => Sys2Proof.Machine.execWorldLineHandover s
  | .storeEntryDrainComplete => Sys2Proof.Machine.execStoreEntryDrainComplete s
  | .releaseComplete => Sys2Proof.Machine.execReleaseComplete s
  | .softError => Sys2Proof.Machine.execSoftError s
  | .patrolScrub => Sys2Proof.Machine.execPatrolScrub s
  | .hsctlWrite => Sys2Proof.Machine.execHsctlWrite s
  | .aliasRecord => Sys2Proof.Machine.execAliasRecord s
  | .aliasResolve => Sys2Proof.Machine.execAliasResolve s
  | .aliasResolveReply => Sys2Proof.Machine.execAliasResolveReply s
  | .mark => Sys2Proof.Machine.execMark s
  | .marked => Sys2Proof.Machine.execMarked s
  | .holdRelease => Sys2Proof.Machine.execHoldRelease s
  | .srcw => Sys2Proof.Machine.execSrcw s
  | .srcack => Sys2Proof.Machine.execSrcack s
  | .hotMaterialise => Sys2Proof.Machine.execHotMaterialise s
  | .catctlWrite => Sys2Proof.Machine.execCatctlWrite s
  | .pageWalkComplete => Sys2Proof.Machine.execPageWalkComplete s
  | .faultEntryWaitFree => Sys2Proof.Machine.execFaultEntryWaitFree s
  | .freplyRetry => Sys2Proof.Machine.execFreplyRetry s
  | .freplyKill => Sys2Proof.Machine.execFreplyKill s
  | .atsTranslationCompletion => Sys2Proof.Machine.execAtsTranslationCompletion s
  | .prgResponse => Sys2Proof.Machine.execPrgResponse s
  | .atsInvalidationRequest => Sys2Proof.Machine.execAtsInvalidationRequest s
  | .shootdownStart => Sys2Proof.Machine.execShootdownStart s
  | .shootdownDrainComplete => Sys2Proof.Machine.execShootdownDrainComplete s
  | .dtinvWrite => Sys2Proof.Machine.execDtinvWrite s
  | .regionWriteback => Sys2Proof.Machine.execRegionWriteback s
  | .tcbPlace => Sys2Proof.Machine.execTcbPlace s
  | .tcbBind => Sys2Proof.Machine.execTcbBind s
  | .stealRequest => Sys2Proof.Machine.execStealRequest s
  | .stealServe => Sys2Proof.Machine.execStealServe s
  | .stealRetryTimer => Sys2Proof.Machine.execStealRetryTimer s
  | .preemptTimer => Sys2Proof.Machine.execPreemptTimer s
  | .preemptSave => Sys2Proof.Machine.execPreemptSave s
  | .groupRestore => Sys2Proof.Machine.execGroupRestore s
  | .gangPark => Sys2Proof.Machine.execGangPark s
  | .runStart => Sys2Proof.Machine.execRunStart s
  | .tokenComplete => Sys2Proof.Machine.execTokenComplete s
  | .atomicReturn => Sys2Proof.Machine.execAtomicReturn s
  | .watchdogExpire => Sys2Proof.Machine.execWatchdogExpire s
  | .arrivalDelivery => Sys2Proof.Machine.execArrivalDelivery s
  | .waitTimeout => Sys2Proof.Machine.execWaitTimeout s
  | .graphGangForm => Sys2Proof.Machine.execGraphGangForm s
  | .partialGangTimer => Sys2Proof.Machine.execPartialGangTimer s
  | .rebalanceTimer => Sys2Proof.Machine.execRebalanceTimer s
  | .waveEnd => Sys2Proof.Machine.execWaveEnd s
  | .gstepWrite => Sys2Proof.Machine.execGstepWrite s
  | .gstepWaveTimer => Sys2Proof.Machine.execGstepWaveTimer s
  | .contributionArrive => Sys2Proof.Machine.execContributionArrive s
  | .stopArrive => Sys2Proof.Machine.execStopArrive s
  | .estselWrite => Sys2Proof.Machine.execEstselWrite s
  | .svcReply => Sys2Proof.Machine.execSvcReply s
  | .anvilStep => Sys2Proof.Machine.execAnvilStep s
  | .tileTaskComplete => Sys2Proof.Machine.execTileTaskComplete s
  | .engineCommandComplete => Sys2Proof.Machine.execEngineCommandComplete s
  | .cpyqEntryStart => Sys2Proof.Machine.execCpyqEntryStart s
  | .collMatch => Sys2Proof.Machine.execCollMatch s
  | .collComplete => Sys2Proof.Machine.execCollComplete s
  | .svcringWrite => Sys2Proof.Machine.execSvcringWrite s
  | .svcheadWrite => Sys2Proof.Machine.execSvcheadWrite s
  | .svrplyWrite => Sys2Proof.Machine.execSvrplyWrite s
  | .svrgo => Sys2Proof.Machine.execSvrgo s
  | .placepinWrite => Sys2Proof.Machine.execPlacepinWrite s
  | .nbctlWrite => Sys2Proof.Machine.execNbctlWrite s
  | .nbAttach => Sys2Proof.Machine.execNbAttach s
  | .nbSetbp => Sys2Proof.Machine.execNbSetbp s
  | .nbClrbp => Sys2Proof.Machine.execNbClrbp s
  | .nbSetwp => Sys2Proof.Machine.execNbSetwp s
  | .nbClrwp => Sys2Proof.Machine.execNbClrwp s
  | .nbHalt => Sys2Proof.Machine.execNbHalt s
  | .nbStep => Sys2Proof.Machine.execNbStep s
  | .nbResume => Sys2Proof.Machine.execNbResume s
  | .nbDetach => Sys2Proof.Machine.execNbDetach s
  | .nbBadcmd => Sys2Proof.Machine.execNbBadcmd s
  | .tdispEnterRun => Sys2Proof.Machine.execTdispEnterRun s
  | .spdmKeyExchange => Sys2Proof.Machine.execSpdmKeyExchange s
  | .hdmDecoderCommit => Sys2Proof.Machine.execHdmDecoderCommit s

end Sys2Proof.Machine
end

