-- ==== Sys2Proof/Machine/Rv64.lean ====
section
/-! DEFINITION. The instructions of the Hearth cores (R42): RV64IMAC with Zicsr and Zifencei, machine and supervisor privilege. The spec names the instruction set and no more; its
encodings and effects are those of the RISC-V manuals (PRESUMED, log 71). What an instruction does to the package is Hearths.lean's. -/

namespace Sys2Proof.Machine

open Sys2Proof

/-! ## Instructions -/

/-- Operations of two operands: the base set and M. -/
inductive RvOp where
  | add | sub | sll | slt | sltu | xor | srl | sra | or | and
  | mul | mulh | mulhsu | mulhu | div | divu | rem | remu
deriving DecidableEq, Repr

/-- Conditions of a branch. -/
inductive RvCond where
  | eq | ne | lt | ge | ltu | geu
deriving DecidableEq, Repr

/-- Atomic operations of A. -/
inductive RvAmo where
  | swap | add | xor | and | or | min | max | minu | maxu
deriving DecidableEq, Repr

/-- What a CSR instruction does with its operand. -/
inductive RvCsr where
  | write | set | clear
deriving DecidableEq, Repr

/-- An instruction; a compressed one is what it stands for. w is the 32-bit form; size is the log2 of an access in bytes. -/
inductive RvInstr where
  | lui (rd : Nat) (imm : DWord)
  | auipc (rd : Nat) (imm : DWord)
  | jal (rd : Nat) (off : DWord)
  | jalr (rd rs1 : Nat) (off : DWord)
  | branch (c : RvCond) (rs1 rs2 : Nat) (off : DWord)
  | load (size : Nat) (zx : Bool) (rd rs1 : Nat) (off : DWord)
  | store (size : Nat) (rs1 rs2 : Nat) (off : DWord)
  | opImm (o : RvOp) (w : Bool) (rd rs1 : Nat) (imm : DWord)
  | op (o : RvOp) (w : Bool) (rd rs1 rs2 : Nat)
  | fence
  | fenceI
  | ecall
  | ebreak
  | mret
  | sret
  | wfi
  | sfenceVma
  | csr (k : RvCsr) (imm : Bool) (rd rs1 n : Nat)
  | lr (size rd rs1 : Nat)
  | sc (size rd rs1 rs2 : Nat)
  | amo (o : RvAmo) (size rd rs1 rs2 : Nat)
deriving DecidableEq, Repr

/-! ## Decoding -/

/-- A field of n bits, sign-extended. -/
def rvSx (n x : Nat) : DWord := BitVec.ofInt 64 (asInt n x)

/-- The immediate of format B. -/
def rvImmB (w : Nat) : DWord := rvSx 13 (bits w 31 31 * 4096 + bits w 7 7 * 2048 + bits w 30 25 * 32 + bits w 11 8 * 2)
/-- The immediate of format J. -/
def rvImmJ (w : Nat) : DWord := rvSx 21 (bits w 31 31 * 2 ^ 20 + bits w 19 12 * 4096 + bits w 20 20 * 2048 + bits w 30 21 * 2)
/-- The immediate of format S. -/
def rvImmS (w : Nat) : DWord := rvSx 12 (bits w 31 25 * 32 + bits w 11 7)
/-- The immediate of format U. -/
def rvImmU (w : Nat) : DWord := rvSx 32 (bits w 31 12 * 4096)

/-- Operations by function code. -/
def rvOpOf (w : Bool) (f7 f3 : Nat) : Option RvOp :=
  match f7, f3 with
  | 0, 0 => some .add
  | 0, 1 => some .sll
  | 0, 2 => if w then none else some .slt
  | 0, 3 => if w then none else some .sltu
  | 0, 4 => if w then none else some .xor
  | 0, 5 => some .srl
  | 0, 6 => if w then none else some .or
  | 0, 7 => if w then none else some .and
  | 32, 0 => some .sub
  | 32, 5 => some .sra
  | 1, 0 => some .mul
  | 1, 1 => if w then none else some .mulh
  | 1, 2 => if w then none else some .mulhsu
  | 1, 3 => if w then none else some .mulhu
  | 1, 4 => some .div
  | 1, 5 => some .divu
  | 1, 6 => some .rem
  | 1, 7 => some .remu
  | _, _ => none

/-- Operations with an immediate by function code. -/
def rvImmOp (w : Nat) (word : Bool) (rd rs1 : Nat) : Option RvInstr :=
  let imm := rvSx 12 (bits w 31 20)
  let sh (o : RvOp) : RvInstr := .opImm o word rd rs1 (BitVec.ofNat 64 (bits w 25 20))
  let top := if word then bits w 31 25 * 2 else bits w 31 26 * 4
  match bits w 14 12 with
  | 0 => some (.opImm .add word rd rs1 imm)
  | 1 => if top = 0 then some (sh .sll) else none
  | 2 => if word then none else some (.opImm .slt false rd rs1 imm)
  | 3 => if word then none else some (.opImm .sltu false rd rs1 imm)
  | 4 => if word then none else some (.opImm .xor false rd rs1 imm)
  | 5 => if top = 0 then some (sh .srl) else if top = 64 then some (sh .sra) else none
  | 6 => if word then none else some (.opImm .or false rd rs1 imm)
  | _ => if word then none else some (.opImm .and false rd rs1 imm)

/-- Conditions by function code. -/
def rvCondOf (f3 : Nat) : Option RvCond :=
  match f3 with
  | 0 => some .eq
  | 1 => some .ne
  | 4 => some .lt
  | 5 => some .ge
  | 6 => some .ltu
  | 7 => some .geu
  | _ => none

/-- Atomic operations by function code. -/
def rvAmoOf (f5 : Nat) : Option RvAmo :=
  match f5 with
  | 0 => some .add
  | 1 => some .swap
  | 4 => some .xor
  | 8 => some .or
  | 12 => some .and
  | 16 => some .min
  | 20 => some .max
  | 24 => some .minu
  | 28 => some .maxu
  | _ => none

/-- Instructions of the A extension. -/
def rvAtomic (w rd rs1 rs2 : Nat) : Option RvInstr :=
  let size := bits w 14 12
  if size ≠ 2 ∧ size ≠ 3 then none
  else
    match bits w 31 27 with
    | 2 => if rs2 = 0 then some (.lr size rd rs1) else none
    | 3 => some (.sc size rd rs1 rs2)
    | f => (rvAmoOf f).map (fun o => .amo o size rd rs1 rs2)

/-- System instructions. -/
def rvSystem (w rd rs1 : Nat) : Option RvInstr :=
  let f3 := bits w 14 12
  let kind (k : Nat) : RvCsr := if k = 1 then .write else if k = 2 then .set else .clear
  if f3 = 0 then
    (if w = 0x00000073 then some .ecall
     else if w = 0x00100073 then some .ebreak
     else if w = 0x30200073 then some .mret
     else if w = 0x10200073 then some .sret
     else if w = 0x10500073 then some .wfi
     else if bits w 31 25 = 9 ∧ rd = 0 then some .sfenceVma
     else none)
  else if f3 = 4 then none
  else some (.csr (kind (f3 % 4)) (decide (4 < f3)) rd rs1 (bits w 31 20))

/-- A 32-bit instruction. -/
def rvDecode (w : Nat) : Option RvInstr :=
  let rd := bits w 11 7
  let rs1 := bits w 19 15
  let rs2 := bits w 24 20
  let f3 := bits w 14 12
  match bits w 6 0 with
  | 0x37 => some (.lui rd (rvImmU w))
  | 0x17 => some (.auipc rd (rvImmU w))
  | 0x6F => some (.jal rd (rvImmJ w))
  | 0x67 => if f3 = 0 then some (.jalr rd rs1 (rvSx 12 (bits w 31 20))) else none
  | 0x63 => (rvCondOf f3).map (fun c => .branch c rs1 rs2 (rvImmB w))
  | 0x03 => if f3 < 7 then some (.load (f3 % 4) (decide (4 ≤ f3)) rd rs1 (rvSx 12 (bits w 31 20))) else none
  | 0x23 => if f3 < 4 then some (.store f3 rs1 rs2 (rvImmS w)) else none
  | 0x13 => rvImmOp w false rd rs1
  | 0x1B => rvImmOp w true rd rs1
  | 0x33 => (rvOpOf false (bits w 31 25) f3).map (fun o => .op o false rd rs1 rs2)
  | 0x3B => (rvOpOf true (bits w 31 25) f3).map (fun o => .op o true rd rs1 rs2)
  | 0x0F => if f3 = 0 then some .fence else if f3 = 1 then some .fenceI else none
  | 0x2F => rvAtomic w rd rs1 rs2
  | 0x73 => rvSystem w rd rs1
  | _ => none

/-- The second quadrant's register operations. -/
def rvCArith (h : Nat) : Option RvInstr :=
  let rd := 8 + bits h 9 7
  let rs2 := 8 + bits h 4 2
  let sh := BitVec.ofNat 64 (bits h 12 12 * 32 + bits h 6 2)
  match bits h 11 10 with
  | 0 => some (.opImm .srl false rd rd sh)
  | 1 => some (.opImm .sra false rd rd sh)
  | 2 => some (.opImm .and false rd rd (rvSx 6 (bits h 12 12 * 32 + bits h 6 2)))
  | _ =>
    match bits h 12 12, bits h 6 5 with
    | 0, 0 => some (.op .sub false rd rd rs2)
    | 0, 1 => some (.op .xor false rd rd rs2)
    | 0, 2 => some (.op .or false rd rd rs2)
    | 0, 3 => some (.op .and false rd rd rs2)
    | 1, 0 => some (.op .sub true rd rd rs2)
    | 1, 1 => some (.op .add true rd rd rs2)
    | _, _ => none

/-- Moves, adds and jumps of the third quadrant. -/
def rvCJump (h : Nat) : Option RvInstr :=
  let rd := bits h 11 7
  let rs2 := bits h 6 2
  if bits h 12 12 = 0 then
    (if rs2 = 0 then (if rd = 0 then none else some (.jalr 0 rd 0)) else some (.op .add false rd 0 rs2))
  else if rs2 = 0 then (if rd = 0 then some .ebreak else some (.jalr 1 rd 0))
  else some (.op .add false rd rd rs2)

/-- A 16-bit instruction. -/
def rvCDecode (h : Nat) : Option RvInstr :=
  let rd := bits h 11 7
  let rdc := 8 + bits h 4 2
  let rsc := 8 + bits h 9 7
  let imm6 := bits h 12 12 * 32 + bits h 6 2
  let offW := BitVec.ofNat 64 (bits h 12 10 * 8 + bits h 6 6 * 4 + bits h 5 5 * 64)
  let offD := BitVec.ofNat 64 (bits h 12 10 * 8 + bits h 6 5 * 64)
  let offB := rvSx 9 (bits h 12 12 * 256 + bits h 11 10 * 8 + bits h 6 5 * 64 + bits h 4 3 * 2 + bits h 2 2 * 32)
  match bits h 1 0, bits h 15 13 with
  | 0, 0 =>
    let n := bits h 12 11 * 16 + bits h 10 7 * 64 + bits h 6 6 * 4 + bits h 5 5 * 8
    if n = 0 then none else some (.opImm .add false rdc 2 (BitVec.ofNat 64 n))
  | 0, 2 => some (.load 2 false rdc rsc offW)
  | 0, 3 => some (.load 3 false rdc rsc offD)
  | 0, 6 => some (.store 2 rsc rdc offW)
  | 0, 7 => some (.store 3 rsc rdc offD)
  | 1, 0 => some (.opImm .add false rd rd (rvSx 6 imm6))
  | 1, 1 => if rd = 0 then none else some (.opImm .add true rd rd (rvSx 6 imm6))
  | 1, 2 => some (.opImm .add false rd 0 (rvSx 6 imm6))
  | 1, 3 =>
    if rd = 2 then
      let n := bits h 12 12 * 512 + bits h 6 6 * 16 + bits h 5 5 * 64 + bits h 4 3 * 128 + bits h 2 2 * 32
      if n = 0 then none else some (.opImm .add false 2 2 (rvSx 10 n))
    else if imm6 = 0 then none else some (.lui rd (rvSx 18 (imm6 * 4096)))
  | 1, 4 => rvCArith h
  | 1, 5 => some (.jal 0 (rvSx 12 (bits h 12 12 * 2048 + bits h 11 11 * 16 + bits h 10 9 * 256 + bits h 8 8 * 1024 + bits h 7 7 * 64 + bits h 6 6 * 128 + bits h 5 3 * 2 + bits h 2 2 * 32)))
  | 1, 6 => some (.branch .eq rsc 0 offB)
  | 1, 7 => some (.branch .ne rsc 0 offB)
  | 2, 0 => some (.opImm .sll false rd rd (BitVec.ofNat 64 imm6))
  | 2, 2 => if rd = 0 then none else some (.load 2 false rd 2 (BitVec.ofNat 64 (bits h 12 12 * 32 + bits h 6 4 * 4 + bits h 3 2 * 64)))
  | 2, 3 => if rd = 0 then none else some (.load 3 false rd 2 (BitVec.ofNat 64 (bits h 12 12 * 32 + bits h 6 5 * 8 + bits h 4 2 * 64)))
  | 2, 4 => rvCJump h
  | 2, 6 => some (.store 2 2 (bits h 6 2) (BitVec.ofNat 64 (bits h 12 9 * 4 + bits h 8 7 * 64)))
  | 2, 7 => some (.store 3 2 (bits h 6 2) (BitVec.ofNat 64 (bits h 12 10 * 8 + bits h 9 7 * 64)))
  | _, _ => none

/-! ## Arithmetic -/

/-- The result of an operation at a width. -/
def RvOp.at {n : Nat} (o : RvOp) (a b : BitVec n) : BitVec n :=
  let flag (c : Bool) : BitVec n := if c then 1 else 0
  match o with
  | .add => a + b
  | .sub => a - b
  | .sll => a <<< (b.toNat % n)
  | .slt => flag (decide (a.toInt < b.toInt))
  | .sltu => flag (decide (a.toNat < b.toNat))
  | .xor => a ^^^ b
  | .srl => a >>> (b.toNat % n)
  | .sra => a.sshiftRight (b.toNat % n)
  | .or => a ||| b
  | .and => a &&& b
  | .mul => a * b
  | .mulh => BitVec.ofInt n (a.toInt * b.toInt / 2 ^ n)
  | .mulhsu => BitVec.ofInt n (a.toInt * (b.toNat : Int) / 2 ^ n)
  | .mulhu => BitVec.ofNat n (a.toNat * b.toNat / 2 ^ n)
  | .div => if b = 0 then BitVec.allOnes n else BitVec.ofInt n (a.toInt.tdiv b.toInt)
  | .divu => if b = 0 then BitVec.allOnes n else BitVec.ofNat n (a.toNat / b.toNat)
  | .rem => if b = 0 then a else BitVec.ofInt n (a.toInt.tmod b.toInt)
  | .remu => if b = 0 then a else BitVec.ofNat n (a.toNat % b.toNat)

/-- The result in a register: the 32-bit forms take the low halves and sign-extend theirs. -/
def RvOp.eval (o : RvOp) (w : Bool) (a b : DWord) : DWord :=
  if w then (o.at (a.setWidth 32) (b.setWidth 32)).signExtend 64 else o.at a b

/-- A branch is taken. -/
def RvCond.holds (c : RvCond) (a b : DWord) : Bool :=
  match c with
  | .eq => a == b
  | .ne => a != b
  | .lt => decide (a.toInt < b.toInt)
  | .ge => decide (b.toInt ≤ a.toInt)
  | .ltu => decide (a.toNat < b.toNat)
  | .geu => decide (b.toNat ≤ a.toNat)

/-- What an atomic operation stores, at the width of its access. -/
def RvAmo.new {n : Nat} (o : RvAmo) (old x : BitVec n) : BitVec n :=
  match o with
  | .swap => x
  | .add => old + x
  | .xor => old ^^^ x
  | .and => old &&& x
  | .or => old ||| x
  | .min => if old.toInt ≤ x.toInt then old else x
  | .max => if x.toInt ≤ old.toInt then old else x
  | .minu => if old.toNat ≤ x.toNat then old else x
  | .maxu => if x.toNat ≤ old.toNat then old else x

/-- A loaded value in a register. -/
def rvLoaded (size : Nat) (zx : Bool) (v : Nat) : DWord := if zx then BitVec.ofNat 64 v else rvSx (8 * 2 ^ size) v

/-- What an atomic operation stores into 4 or 8 bytes. -/
def RvAmo.store (o : RvAmo) (size old : Nat) (x : DWord) : Nat :=
  if size = 2 then (o.new (BitVec.ofNat 32 old) (x.setWidth 32)).toNat else (o.new (BitVec.ofNat 64 old) x).toNat

end Sys2Proof.Machine
end

