-- ==== Sys2Proof/Machine/Hearths.lean ====
section
/-! DEFINITION. What a Hearth core does (R42 to R45): it executes the instructions of Rv64.lean from the package's memory, with its CSRs, traps and interrupts as the RISC-V manuals
give them (PRESUMED, log 71), and its service instance forwards requests to others (R43). -/

namespace Sys2Proof.Machine

open Sys2Proof

/-! ## Registers -/

/-- A Hearth core. -/
def State.hearth (s : State) (h : Nat) : Hearth := (s.host.hearth.drop h).headD resetHearth

/-- A register; x0 is 0. -/
def Hearth.reg (c : Hearth) (n : Nat) : DWord := if n = 0 then 0 else (c.x.drop (n - 1)).headD 0

/-- A register written; a write of x0 is discarded. -/
def Hearth.setReg (c : Hearth) (n : Nat) (v : DWord) : Hearth := if n = 0 then c else { c with x := modAt c.x (n - 1) (fun _ => v) }

/-- The stored value of a CSR. -/
def Hearth.stored (c : Hearth) (n : Nat) : Nat := (nget 0 c.csr n).toNat

/-- A CSR's stored value changed. -/
def Hearth.keep (c : Hearth) (n v : Nat) : Hearth := { c with csr := nset 0 c.csr n (BitVec.ofNat 64 v) }

/-! ## CSRs -/

/-- The bits of a mask, from one value or the other. -/
def maskMix (mask old new : Nat) : Nat := (BitVec.ofNat 64 new &&& BitVec.ofNat 64 mask ||| BitVec.ofNat 64 old &&& ~~~(BitVec.ofNat 64 mask)).toNat

/-- A value under a mask. -/
def masked (mask v : Nat) : Nat := (BitVec.ofNat 64 v &&& BitVec.ofNat 64 mask).toNat

/-- mstatus: SIE, MIE, SPIE, MPIE, MPP, SUM, MXR, TVM, TW and TSR are stored; there is no user mode, so SPP reads as 1 and MPRV as 0. SXL is 2. -/
def Hearth.mstatus (c : Hearth) : Nat := setBits (setBit (c.stored 0x300) 8 true) 35 34 2

/-- The writable bits of mstatus, apart from MPP. -/
def mstatusMask : Nat := 2 ^ 1 + 2 ^ 3 + 2 ^ 5 + 2 ^ 7 + 2 ^ 18 + 2 ^ 19 + 2 ^ 20 + 2 ^ 21 + 2 ^ 22
/-- The bits of sstatus: SIE, SPIE, SPP, SUM and MXR. -/
def sstatusMask : Nat := 2 ^ 1 + 2 ^ 5 + 2 ^ 8 + 2 ^ 18 + 2 ^ 19
/-- The supervisor interrupts: software, timer, external. -/
def sInterrupts : Nat := 2 ^ 1 + 2 ^ 5 + 2 ^ 9
/-- All interrupts: those of the supervisor and of machine mode. -/
def allInterrupts : Nat := sInterrupts + 2 ^ 3 + 2 ^ 7 + 2 ^ 11

/-- mip: the external interrupt of R44 is MEIP; the supervisor's bits are software's; no timer or software source is given for machine mode. -/
def Hearth.mip (c : Hearth) : Nat := setBit (c.stored 0x344) 11 c.ext

/-- The level of a mode, as CSR numbers and MPP give it. -/
def HMode.level (m : HMode) : Nat := match m with | .machine => 3 | .supervisor => 1

/-- What a read of a CSR gives; none where there is no such CSR, or not in this mode. mcycle counts cycles, of which the spec gives no number: it is free. -/
def State.csrRead (s : State) (h n : Nat) : Option Nat :=
  let c := s.hearth h
  if c.mode.level < bits n 9 8 then none
  else
    match n with
    | 0x100 => some (masked sstatusMask c.mstatus)
    | 0x104 => some (masked (c.stored 0x303) (c.stored 0x304))
    | 0x144 => some (masked (c.stored 0x303) c.mip)
    | 0x180 => if c.mode == .supervisor && bit c.mstatus 20 then none else some 0
    | 0x300 => some c.mstatus
    | 0x301 => some (2 ^ 63 + 2 ^ 0 + 2 ^ 2 + 2 ^ 8 + 2 ^ 12 + 2 ^ 18)
    | 0x344 => some c.mip
    | 0xB00 => some ((Config.freeWord s.ctl.freeCtr).toNat + 2 ^ 32 * (Config.freeWord (s.ctl.freeCtr + 1)).toNat)
    | 0xF14 => some h
    | 0x7C0 => some ((tget s.ten.hreqBase h).getD 0)
    | 0x7C1 => some ((tget s.ten.hfltBase h).getD 0)
    | 0x7C2 => some (nget 0 s.ten.hreqHead h)
    | 0x7C3 => some (nget 0 s.ten.hfltHead h)
    | 0xFC0 => some (nget 0 s.ten.hreqTail h)
    | 0xFC1 => some (nget 0 s.ten.hfltTail h)
    | _ =>
      if [0x105, 0x106, 0x140, 0x141, 0x142, 0x143, 0x302, 0x303, 0x304, 0x305, 0x306, 0x320, 0x340, 0x341, 0x342, 0x343, 0xB02].contains n then some (c.stored n)
      else if n = 0x10A ∨ n = 0x30A ∨ n = 0xF11 ∨ n = 0xF12 ∨ n = 0xF13 ∨ n = 0xF15 ∨ (0xB03 ≤ n ∧ n < 0xB20) ∨ (0x323 ≤ n ∧ n < 0x340) ∨ (0x3A0 ≤ n ∧ n < 0x3B0 ∧ n % 2 = 0) ∨
          (0x3B0 ≤ n ∧ n < 0x3F0) then some 0
      else none

/-- A write of mstatus: MPP takes a mode that there is. -/
def Hearth.putStatus (c : Hearth) (v : Nat) : Hearth :=
  let mpp := if bits v 12 11 = 3 ∨ bits v 12 11 = 1 then bits v 12 11 else bits (c.stored 0x300) 12 11
  c.keep 0x300 (setBits (maskMix mstatusMask (c.stored 0x300) v) 12 11 mpp)

/-- What a write of a CSR that exists does to its core; those that have no bit to write ignore it. -/
def Hearth.csrWrite (c : Hearth) (n v : Nat) : Hearth :=
  let deleg := c.stored 0x303
  match n with
  | 0x100 => c.putStatus (maskMix (masked sstatusMask mstatusMask) (c.stored 0x300) v)
  | 0x104 => c.keep 0x304 (maskMix (masked deleg allInterrupts) (c.stored 0x304) v)
  | 0x144 => c.keep 0x344 (maskMix (masked deleg (2 ^ 1)) (c.stored 0x344) v)
  | 0x300 => c.putStatus v
  | 0x302 => c.keep n (masked 0xB3FF v)
  | 0x303 => c.keep n (masked sInterrupts v)
  | 0x304 => c.keep n (masked allInterrupts v)
  | 0x344 => c.keep n (masked sInterrupts v)
  | 0x105 => c.keep n (if bits v 1 0 < 2 then v else maskMix 3 v (c.stored n))
  | 0x305 => c.keep n (if bits v 1 0 < 2 then v else maskMix 3 v (c.stored n))
  | 0x141 => c.keep n (setBit v 0 false)
  | 0x341 => c.keep n (setBit v 0 false)
  | 0x106 => c.keep n (v % 2 ^ 32)
  | 0x306 => c.keep n (v % 2 ^ 32)
  | 0x320 => c.keep n (masked (2 ^ 32 - 3) v)
  | 0xB02 => c.keep n v
  | _ => if [0x140, 0x142, 0x143, 0x340, 0x342, 0x343].contains n then c.keep n v else c

/-- A write of a CSR by an instruction: those of the rings are the device's (R44). -/
def State.csrPut (s : State) (h n v : Nat) : State :=
  match n with
  | 0x7C0 => s.putHreqBase h v
  | 0x7C1 => s.putHfltBase h v
  | 0x7C2 => s.putHreqHead h (v % 2 ^ 32)
  | 0x7C3 => s.putHfltHead h (v % 2 ^ 32)
  | _ => s.updHearth h (fun c => c.csrWrite n v)

/-! ## Traps -/

/-- A trap is taken: into supervisor mode where it comes from there and is delegated, else into machine mode. -/
def Hearth.trap (c : Hearth) (irq : Bool) (cause tval : Nat) : Hearth :=
  let toS := c.mode == .supervisor && bit (c.stored (if irq then 0x303 else 0x302)) cause
  let st := c.stored 0x300
  let handler (vec : Nat) : Nat := vec / 4 * 4 + (if irq && bit vec 0 then 4 * cause else 0)
  let code := (if irq then 2 ^ 63 else 0) + cause
  if toS then
    { (((c.keep 0x141 c.pc).keep 0x142 code).keep 0x143 tval).keep 0x300 (setBit (setBit st 5 (bit st 1)) 1 false) with pc := handler (c.stored 0x105) % 2 ^ 64, mode := .supervisor, wfi := false }
  else
    { (((c.keep 0x341 c.pc).keep 0x342 code).keep 0x343 tval).keep 0x300 (setBits (setBit (setBit st 7 (bit st 3)) 3 false) 12 11 c.mode.level) with
      pc := handler (c.stored 0x305) % 2 ^ 64, mode := .machine, wfi := false }

/-- MRET. -/
def Hearth.mret (c : Hearth) : Hearth :=
  let st := c.stored 0x300
  { c.keep 0x300 (setBits (setBit (setBit st 3 (bit st 7)) 7 true) 12 11 3) with pc := c.stored 0x341, mode := if bits st 12 11 = 1 then .supervisor else .machine }

/-- SRET: there is no user mode to return to. -/
def Hearth.sret (c : Hearth) : Hearth :=
  let st := c.stored 0x300
  { c.keep 0x300 (setBit (setBit st 1 (bit st 5)) 5 true) with pc := c.stored 0x141, mode := .supervisor }

/-- The interrupt that a core takes now: machine interrupts before supervisor ones, external before software before timer. -/
def Hearth.interrupt (c : Hearth) : Option Nat :=
  let on := masked (c.stored 0x304) c.mip
  let m := c.mode == .supervisor || bit (c.stored 0x300) 3
  let sv := c.mode == .supervisor && bit (c.stored 0x300) 1
  ([11, 3, 7, 9, 1, 5] : List Nat).find? (fun i => bit on i && (if bit (c.stored 0x303) i then sv else m))

/-! ## Accesses -/

/-- The place of a Hearth core: its MSC slice (R42). -/
def hearthNode (h : Nat) : Node := 480 + h

/-- What an access answers: done, with what was read; an access fault; or something must come first. -/
inductive HMem where
  | ok (s : State) (v : Nat)
  | fault (s : State)
  | wait (s : State)

/-- The most recently used line of a cache of 256 lines, 32 KiB (R42). -/
def touchLine (cache : List Nat) (line : Nat) : List Nat :=
  let l := cache.filter (fun x => x != line) ++ [line]
  l.drop (l.length - 256)

/-- A bridge in FAILED stands in the way of a line. -/
def State.hearthCut (s : State) (h line : Nat) : Bool := s.way (hearthNode h) (lineNode line) == .cut

/-- A read of n bytes within a line; a poisoned word reads as free bytes, since the spec gives a Hearth core no other answer (log 71). -/
def State.hearthRead (s : State) (h pa n : Nat) (code : Bool) : HMem :=
  if !(isMapped pa && isMapped (pa + n - 1)) || s.hearthCut h (lineOf pa) then .fault s
  else if !s.readReadyAt (hearthNode h) pa n then .wait (s.readNeed pa n)
  else
    let r := s.reach (hearthNode h) (lineNode (lineOf pa))
    if !r.2 then .fault { r.1 with ctl.cut := s.ctl.cut }
    else
      let s1 := r.1.updHearth h (fun c => if code then { c with icache := touchLine c.icache (lineOf pa) } else { c with dcache := touchLine c.dcache (lineOf pa) })
      let free := (Config.freeWord s.ctl.freeCtr).toNat + 2 ^ 32 * (Config.freeWord (s.ctl.freeCtr + 1)).toNat
      .ok s1 (if s1.extentPois pa n then free % 2 ^ (8 * n) else leNat (s1.devBytes pa n))

/-- A write of bytes within a line, done at its home at once; one into a world's line is dropped (R84). -/
def State.hearthWrite (s : State) (h pa : Nat) (bytes : List Byte) : HMem :=
  let line := lineOf pa
  if !(isMapped pa && isMapped (pa + bytes.length - 1)) || s.hearthCut h line then .fault s
  else if !s.storeReadyAt (hearthNode h) pa bytes.length then .wait (s.storeNeed pa bytes.length)
  else
    let t := blankTx s.ctl.nextId line (patchOf (pa % 128) bytes)
    match s.outsider t with
    | some w => .ok { s with ctl.sealDue := s.ctl.sealDue ++ [(pa, w, t.tenant)] } 0
    | none =>
      let f := (s.mscFill line).1
      let r := { f.bump with coh.txs := f.coh.txs ++ [t] }.reach (hearthNode h) (lineNode line)
      if !r.2 then .fault { r.1 with ctl.cut := s.ctl.cut, coh.txs := r.1.coh.txs.filter (fun x => x.id != t.id) }
      else .ok ((r.1.homeWrite t none).updHearth h (fun c => { c with dcache := touchLine c.dcache line })) 0

/-! ## Instructions -/

/-- An instruction is over: f is done to its core, and the next follows. -/
def State.hearthDone (s : State) (h len : Nat) (f : Hearth → Hearth) : State :=
  s.updHearth h (fun c =>
    let c1 := f { c with pc := (c.pc + len) % 2 ^ 64 }
    if bit (c1.stored 0x320) 2 then c1 else c1.keep 0xB02 ((c1.stored 0xB02 + 1) % 2 ^ 64))

/-- An instruction traps. -/
def State.hearthTrap (s : State) (h cause tval : Nat) : State := s.updHearth h (fun c => c.trap false cause tval)

/-- A jump. -/
def Hearth.jump (c : Hearth) (target : DWord) : Hearth := { c with pc := target.toNat }

/-- An aligned access to memory: cause is that of a misaligned one, and the next that of an access fault. -/
def State.hearthAccess (s : State) (h pa size cause : Nat) (m : State → HMem) (k : State → Nat → State) : State :=
  if pa % 2 ^ size ≠ 0 then s.hearthTrap h cause pa
  else
    match m s with
    | .ok s1 v => k s1 v
    | .fault s1 => s1.hearthTrap h (cause + 1) pa
    | .wait s1 => s1

/-- An atomic read and write of an aligned word: both must be possible before either happens. -/
def State.hearthAmo (s : State) (h len size rd pa : Nat) (new : Nat → Nat) : State :=
  let n := 2 ^ size
  s.hearthAccess h pa size 6 (fun s => if isMapped pa && !s.storeReadyAt (hearthNode h) pa n && !s.hearthCut h (lineOf pa) then .wait (s.storeNeed pa n) else s.hearthRead h pa n false) (fun s1 old =>
    match s1.hearthWrite h pa (leBytes n (new old)) with
    | .ok s2 _ => s2.hearthDone h len (fun c => c.setReg rd (rvLoaded size false old))
    | .fault s2 => s2.hearthTrap h 7 pa
    | .wait s2 => s2)

/-- A CSR instruction: nothing is written by a set or clear of x0 or of 0, nor is anything read for a write into x0; a CSR that cannot be read, or written, is illegal. -/
def State.hearthCsr (s : State) (h len raw : Nat) (k : RvCsr) (imm : Bool) (rd rs1 n : Nat) : State :=
  let c := s.hearth h
  let v := if imm then BitVec.ofNat 64 rs1 else c.reg rs1
  let writes := k == .write || rs1 != 0
  match s.csrRead h n with
  | none => s.hearthTrap h 2 raw
  | some old =>
    if writes && bits n 11 10 == 3 then s.hearthTrap h 2 raw
    else
      -- bits of MEIP and of SEIP that no write may keep are left out by the write itself
      let new := match k with
        | .write => v.toNat
        | .set => (BitVec.ofNat 64 old ||| v).toNat
        | .clear => (BitVec.ofNat 64 old &&& ~~~v).toNat
      let s1 := s.hearthDone h len (fun c => c.setReg rd (BitVec.ofNat 64 old))
      if writes then s1.csrPut h n new else s1

/-- One instruction of a Hearth core, len bytes long, whose code is raw. -/
def State.hearthExec (s : State) (h len raw : Nat) (i : RvInstr) : State :=
  let c := s.hearth h
  let pc : DWord := BitVec.ofNat 64 c.pc
  let link : DWord := pc + BitVec.ofNat 64 len
  let at_ (rs1 : Nat) (off : DWord) : Nat := (c.reg rs1 + off).toNat
  let supervisor := c.mode == .supervisor
  match i with
  | .lui rd imm => s.hearthDone h len (fun c => c.setReg rd imm)
  | .auipc rd imm => s.hearthDone h len (fun c => c.setReg rd (pc + imm))
  | .jal rd off => s.hearthDone h len (fun c => (c.setReg rd link).jump (pc + off))
  | .jalr rd rs1 off => s.hearthDone h len (fun d => (d.setReg rd link).jump ((c.reg rs1 + off) &&& ~~~1))
  | .branch k rs1 rs2 off => s.hearthDone h len (fun d => if k.holds (c.reg rs1) (c.reg rs2) then d.jump (pc + off) else d)
  | .load size zx rd rs1 off =>
    s.hearthAccess h (at_ rs1 off) size 4 (fun s => s.hearthRead h (at_ rs1 off) (2 ^ size) false) (fun s v => s.hearthDone h len (fun c => c.setReg rd (rvLoaded size zx v)))
  | .store size rs1 rs2 off =>
    s.hearthAccess h (at_ rs1 off) size 6 (fun s => s.hearthWrite h (at_ rs1 off) (leBytes (2 ^ size) (c.reg rs2).toNat)) (fun s _ => s.hearthDone h len id)
  | .opImm o w rd rs1 imm => s.hearthDone h len (fun d => d.setReg rd (o.eval w (c.reg rs1) imm))
  | .op o w rd rs1 rs2 => s.hearthDone h len (fun d => d.setReg rd (o.eval w (c.reg rs1) (c.reg rs2)))
  | .fence => s.hearthDone h len id
  | .fenceI => s.hearthDone h len id
  | .ecall => s.hearthTrap h (if supervisor then 9 else 11) 0
  | .ebreak => s.hearthTrap h 3 c.pc
  | .mret => if supervisor then s.hearthTrap h 2 raw else s.hearthDone h len Hearth.mret
  | .sret => if supervisor && bit c.mstatus 22 then s.hearthTrap h 2 raw else s.hearthDone h len Hearth.sret
  | .wfi => if supervisor && bit c.mstatus 21 then s.hearthTrap h 2 raw else s.hearthDone h len (fun c => { c with wfi := true })
  | .sfenceVma => if supervisor && bit c.mstatus 20 then s.hearthTrap h 2 raw else s.hearthDone h len id
  | .csr k imm rd rs1 n => s.hearthCsr h len raw k imm rd rs1 n
  | .lr size rd rs1 =>
    s.hearthAccess h (at_ rs1 0) size 4 (fun s => s.hearthRead h (at_ rs1 0) (2 ^ size) false) (fun s v =>
      s.hearthDone h len (fun c => { c.setReg rd (rvLoaded size false v) with resv := some (lineOf (at_ rs1 0)) }))
  | .sc size rd rs1 rs2 =>
    if c.resv = some (lineOf (at_ rs1 0)) then
      s.hearthAccess h (at_ rs1 0) size 6 (fun s => s.hearthWrite h (at_ rs1 0) (leBytes (2 ^ size) (c.reg rs2).toNat)) (fun s _ =>
        s.hearthDone h len (fun c => { c.setReg rd 0 with resv := none }))
    else if at_ rs1 0 % 2 ^ size ≠ 0 then s.hearthTrap h 6 (at_ rs1 0)
    else s.hearthDone h len (fun c => { c.setReg rd 1 with resv := none })
  | .amo o size rd rs1 rs2 => s.hearthAmo h len size rd (at_ rs1 0) (fun old => o.store size old (c.reg rs2))

/-- An instruction that has been fetched, or an illegal one. -/
def State.hearthTake (s : State) (h len raw : Nat) (i : Option RvInstr) : State :=
  match i with
  | some x => s.hearthExec h len raw x
  | none => s.hearthTrap h 2 raw

/-- A Hearth core runs: it has been released, and neither reset nor a recovery reload holds it (R19, R49, R51). -/
def State.hearthRuns (s : State) (h : Nat) : Bool := decide (h < 48) && decide (6 ≤ s.host.step) && !s.host.held && !s.host.halted && !s.held0

/-- A Hearth core's next instruction, or the interrupt it takes before it (R42). What must come first leaves it where it is. -/
def State.hearthStep (s : State) (h : Nat) : State :=
  let c := s.hearth h
  if !s.hearthRuns h then s
  else
    match c.interrupt with
    | some cause => s.updHearth h (fun c => c.trap true cause 0)
    | none =>
      if c.wfi && masked (c.stored 0x304) c.mip == 0 then s
      else
        match s.hearthRead h c.pc 2 true with
        | .wait s1 => s1
        | .fault s1 => s1.hearthTrap h 1 c.pc
        | .ok s1 lo =>
          let s1 := s1.updHearth h (fun c => { c with wfi := false })
          if lo % 4 ≠ 3 then s1.hearthTake h 2 lo (rvCDecode lo)
          else
            match s1.hearthRead h (c.pc + 2) 2 true with
            | .wait s2 => s2
            | .fault s2 => s2.hearthTrap h 1 (c.pc + 2)
            | .ok s2 hi => s2.hearthTake h 4 (lo + 2 ^ 16 * hi) (rvDecode (lo + 2 ^ 16 * hi))

/-- A Hearth core that may run, a different one first at each step. -/
def State.nextHearth (s : State) : Option Nat :=
  let k := s.ctl.freeCtr / 5
  ((List.range 48).map (fun i => (i + k) % 48)).find? (fun h => s.hearthRuns h && !((s.hearth h).wfi && (s.hearth h).interrupt.isNone && masked ((s.hearth h).stored 0x304) (s.hearth h).mip == 0))

/-! ## Forwarding (R43) -/

/-- The instance of one Hearth core forwards a request that it has not answered to the instance that owns the object, whose ring takes the entry and completes it. Which objects a
request concerns, and so whether it is forwarded, is the service's own matter (log 82). -/
def State.forward (s : State) (h i k : Nat) : State :=
  let n := (nget 0 s.ten.hreqTail h + 2 ^ 32 - nget 0 s.ten.hreqHead h) % 2 ^ 32
  let from_ := hreqAddr ((tget s.ten.hreqBase h).getD 0) ((nget 0 s.ten.hreqHead h + i) % 4096)
  let addr := s.hreqSlot k
  if !s.hearthRuns h || !s.hearthRuns k || h == k || decide (n ≤ i) || s.hreqFull k || !s.storeReady addr 64 || !s.readReady from_ 64 then s
  else
    let tail := nget 0 s.ten.hreqTail k
    ({ s with ten.hreqTail := nset 0 s.ten.hreqTail k ((tail + 1) % 2 ^ 32) }.devStore addr (s.devBytes from_ 64) none).updHearth k (fun x => { x with ext := true })

end Sys2Proof.Machine
end

