-- ==== Sys2Proof/Machine/Routes.lean ====
section
/-! DEFINITION. Where messages travel and what they wait for on the way: the order of channels and ports (R15, R18, R101, R117), the crossings between islands (R20), the
bridges (R28, R29), and what a message that waits at its place holds back. -/

namespace Sys2Proof.Machine

open Sys2Proof

/-! ## Messages -/

/-- The channel of a message: messages of one channel happen in the order they were sent. The coherence messages of a line, the register writes of system
software, the doorbell page of a function, the records of a queue, a link and a half-line are one channel each (log 2). -/
def Ev.channel (s : State) (e : Ev) : Instr × Nat :=
  match e with
  | .railOutOfLimits n => (.railOutOfLimits, n)
  | .railSettledTimer n => (.railOutOfLimits, n)
  | .islandWrite _ _ => (.registerWrite, 0)
  | .islandChangeComplete n => (e.instr, n)
  | .tcolSample n _ _ _ => (e.instr, n)
  | .thermalThrottle n => (e.instr, n)
  | .tcolHotClear _ _ => (.registerWrite, 0)
  | .flitSend l _ => (.flitSend, linkId l)
  | .flitReceive l _ => (.flitReceive, l)
  | .flitReplay l _ => (.flitSend, linkId l)
  | .keyUpdateStart l => (.flitSend, l)
  | .keyExpire l => (.flitSend, l)
  | .linkPeerDetected l => (.flitSend, l)
  | .linkTrainingComplete l => (.flitSend, l)
  | .linkTrainingTimeout l => (.flitSend, l)
  | .linkSessionEstablished l _ _ _ => (.flitSend, l)
  | .linkKeyingFail l => (.flitSend, l)
  | .linkKeyingTimeout l => (.flitSend, l)
  | .linkSessionAttemptFail l => (.flitSend, l)
  | .linkRetryTimer l => (.flitSend, l)
  | .keyUpdateComplete l _ => (.flitSend, l)
  | .linkSessionExpire l => (.flitSend, l)
  | .linkDrainComplete l => (.flitSend, l)
  | .linkPortReset l => (.flitSend, l)
  | .hostLinkTrainingComplete n _ _ _ _ _ => (e.instr, n)
  | .hdmbaseWrite _ => (.registerWrite, 0)
  | .hdmsizeWrite _ => (.registerWrite, 0)
  | .cxlmemRequest n _ _ _ => (e.instr, n)
  | .registerWrite _ _ => (.registerWrite, 0)
  | .hartidWrite _ => (.registerWrite, 0)
  | .bridgePackageRead h => (.bridgeGrant, h)
  | .bridgePackageStore h _ _ => (.bridgeGrant, h)
  | .bridgeGrant h _ _ _ => (.bridgeGrant, h)
  | .bridgeMscEviction n => (e.instr, n)
  | .hostSnpinv h => (.bridgeGrant, h)
  | .hostSnpdata h => (.bridgeGrant, h)
  | .hostSnpcur h => (.bridgeGrant, h)
  | .tenantModesWrite _ _ => (.registerWrite, 0)
  | .tenantSetOn _ => (.registerWrite, 0)
  | .tenantSetOff _ => (.registerWrite, 0)
  | .tenantRecordWrite _ _ _ => (.registerWrite, 0)
  | .hreqbaseWrite _ _ => (.registerWrite, 0)
  | .hfltbaseWrite _ _ => (.registerWrite, 0)
  | .hreqheadWrite n _ => (e.instr, n)
  | .hfltheadWrite n _ => (e.instr, n)
  | .hearthRestart n => (e.instr, n)
  | .measExtend n _ => (e.instr, n)
  | .imageLineUe n => (e.instr, n)
  | .doorbellSetTail p f _ => (.doorbellSetTail, 256 * p + f)
  | .doorbellOpen p f _ => (.doorbellSetTail, 256 * p + f)
  | .doorbellClose p f _ => (.doorbellSetTail, 256 * p + f)
  | .doorbellCmd3 p f _ => (.doorbellSetTail, 256 * p + f)
  | .launchRecord q => (.launchRecord, q)
  | .controlRecord q => (.launchRecord, q)
  | .queueHeadRetry q => (.launchRecord, q)
  | .launchComplete n => (e.instr, n)
  | .heartbeatRequest n => (e.instr, n)
  | .heartbeatTimeout n => (e.instr, n)
  | .keyInstall n _ => (e.instr, n)
  | .keyRemove n _ => (e.instr, n)
  | .worldRetire n => (e.instr, n)
  | .worldScrubComplete n => (e.instr, n)
  | .worldAbort n _ => (e.instr, n)
  | .tdispLeaveRun n m => (e.instr, 2 ^ 20 * m + n)
  | .l1FillReturn _ l _ _ _ _ _ => (.dirStore, l)
  | .l1Update _ x => (.dirStore, lineOfTx s x)
  | .l1Invalidation _ l _ => (.dirStore, l)
  | .dirReadMiss _ l _ _ => (.dirStore, l)
  | .dirStore x => (.dirStore, lineOfTx s x)
  | .dirAck x _ _ => (.dirStore, lineOfTx s x)
  | .dirEvictionNotice _ l => (.dirStore, l)
  | .l2Victim _ l _ => (.dirStore, l)
  | .homeStore x => (.dirStore, lineOfTx s x)
  | .l2HomeUpdate _ x => (.dirStore, lineOfTx s x)
  | .homeAck x => (.dirStore, lineOfTx s x)
  | .storeAck x _ => (.dirStore, lineOfTx s x)
  | .mscVictim l => (.dirStore, l)
  | .worldLineHandover _ l => (.dirStore, l)
  | .storeEntryDrainComplete n m => (e.instr, 2 ^ 20 * m + n)
  | .releaseComplete n => (e.instr, n)
  | .softError n _ _ _ => (e.instr, n)
  | .hsctlWrite _ _ => (.registerWrite, 0)
  | .aliasRecord n => (e.instr, n)
  | .aliasResolve n m => (e.instr, 2 ^ 20 * m + n)
  | .aliasResolveReply n m => (e.instr, 2 ^ 20 * m + n)
  | .mark n _ => (e.instr, n)
  | .marked n _ => (e.instr, n)
  | .holdRelease n m => (e.instr, 2 ^ 20 * m + n)
  | .srcw _ l => (.dirStore, l)
  | .srcack l _ => (.dirStore, l)
  | .hotMaterialise n => (e.instr, n)
  | .catctlWrite _ => (.registerWrite, 0)
  | .pageWalkComplete n => (e.instr, n)
  | .faultEntryWaitFree n => (e.instr, n)
  | .freplyRetry c f _ => (.freplyRetry, 1024 * c + f)
  | .freplyKill c f _ => (.freplyRetry, 1024 * c + f)
  | .atsTranslationCompletion n _ _ _ _ => (e.instr, n)
  | .prgResponse n _ => (e.instr, n)
  | .atsInvalidationRequest n _ _ _ => (e.instr, n)
  | .shootdownStart _ => (.registerWrite, 0)
  | .shootdownDrainComplete n => (e.instr, n)
  | .dtinvWrite _ => (.registerWrite, 0)
  | .regionWriteback n m _ _ => (e.instr, 2 ^ 20 * m + n)
  | .tcbPlace n => (e.instr, n)
  | .tcbBind n => (e.instr, n)
  | .stealRequest n => (e.instr, n)
  | .stealServe n m => (e.instr, 2 ^ 20 * m + n)
  | .stealRetryTimer n => (e.instr, n)
  | .preemptTimer n => (e.instr, n)
  | .preemptSave n m => (e.instr, 2 ^ 20 * m + n)
  | .groupRestore n m => (e.instr, 2 ^ 20 * m + n)
  | .gangPark n m => (e.instr, 2 ^ 20 * m + n)
  | .runStart n => (e.instr, n)
  | .tokenComplete n => (e.instr, n)
  | .atomicReturn x => (.dirStore, lineOfTx s x)
  | .watchdogExpire n => (e.instr, n)
  | .arrivalDelivery n m _ _ => (e.instr, 2 ^ 20 * m + n)
  | .waitTimeout n m _ _ => (e.instr, 2 ^ 20 * m + n)
  | .graphGangForm n m => (e.instr, 2 ^ 20 * m + n)
  | .partialGangTimer n m => (e.instr, 2 ^ 20 * m + n)
  | .rebalanceTimer n => (e.instr, n)
  | .waveEnd n => (e.instr, n)
  | .gstepWrite _ => (.registerWrite, 0)
  | .gstepWaveTimer n m => (e.instr, 2 ^ 20 * m + n)
  | .contributionArrive n m => (e.instr, 2 ^ 20 * m + n)
  | .stopArrive n m => (e.instr, 2 ^ 20 * m + n)
  | .estselWrite _ => (.registerWrite, 0)
  | .svcReply n _ => (e.instr, n)
  | .anvilStep n => (e.instr, n)
  | .tileTaskComplete n => (e.instr, n)
  | .engineCommandComplete n => (e.instr, n)
  | .cpyqEntryStart n => (e.instr, n)
  | .collMatch n => (e.instr, n)
  | .collComplete n => (e.instr, n)
  | .svcringWrite _ _ => (.registerWrite, 0)
  | .svcheadWrite p f _ => (.doorbellSetTail, 256 * p + f)
  | .svrplyWrite p f _ _ _ => (.doorbellSetTail, 256 * p + f)
  | .svrgo p f _ => (.doorbellSetTail, 256 * p + f)
  | .placepinWrite _ _ => (.registerWrite, 0)
  | .nbctlWrite _ => (.registerWrite, 0)
  | .nbAttach _ => (.nbAttach, 0)
  | .nbSetbp _ => (.nbAttach, 0)
  | .nbClrbp _ => (.nbAttach, 0)
  | .nbSetwp _ => (.nbAttach, 0)
  | .nbClrwp _ => (.nbAttach, 0)
  | .nbHalt _ => (.nbAttach, 0)
  | .nbStep _ => (.nbAttach, 0)
  | .nbResume _ => (.nbAttach, 0)
  | .nbDetach _ => (.nbAttach, 0)
  | .nbBadcmd _ => (.nbAttach, 0)
  | .tdispEnterRun n m => (e.instr, 2 ^ 20 * m + n)
  | .spdmKeyExchange n m => (e.instr, 2 ^ 20 * m + n)
  | .hdmDecoderCommit n _ _ => (e.instr, n)
  | _ => (e.instr, 0)

/-- One message goes behind another that was sent before it: of one channel, of one place to one place (R15, R101, R117), or of one router to one router of another
stack (R18). -/
def Ev.behind (s : State) (e before : Ev) : Bool :=
  before.channel s == e.channel s ||
    (match e.route s, before.route s with
     | some a, some b => sameWay a b
     | _, _ => false)

/-! ## Islands -/

/-- The islands that a message passes (R20); a host message passes the host links, a flit of a Holt port the Holt links. -/
def Ev.islands (s : State) (e : Ev) : List Nat :=
  match e.route s with
  | some r => wayIslands r
  | none =>
    match e with
    | .flitReceive l _ => if l < 16 then wayIslands (626 + l, engineNode (holtStack l)) else []
    | .flitSend l _ => if l < 16 then wayIslands (engineNode (holtStack l), 626 + l) else []
    | .cxlmemRequest _ _ _ _ => [21, 5]
    | .doorbellSetTail _ _ _ => [21, 5]
    | .doorbellOpen _ _ _ => [21, 5]
    | .doorbellClose _ _ _ => [21, 5]
    | .doorbellCmd3 _ _ _ => [21, 5]
    | .svcheadWrite _ _ _ => [21, 5]
    | .svrplyWrite _ _ _ _ _ => [21, 5]
    | .svrgo _ _ _ => [21, 5]
    | .atsTranslationCompletion _ _ _ _ _ => [21, 5]
    | .atsInvalidationRequest _ _ _ _ => [21, 5]
    | .prgResponse _ _ => [21, 5]
    | _ => []

/-- A message that crosses into an island whose setting is changing waits in the crossing until the change is complete (R20). -/
def State.inCrossing (s : State) (e : Ev) : Bool := s.changing (e.islands s)

/-! ## Bridges -/

/-- The bridge end that a message between stacks leaves by. -/
def Ev.bridge (s : State) (e : Ev) : Option Nat :=
  (e.route s).bind (fun r => if nodeStack r.1 = nodeStack r.2 then none else some (bridgeEnd (nodeStack r.1) (nodeStack r.2)))

/-- The bridge does not let a message through yet (R28, R29): it is not UP, or its counter has no room for the message's flits; a FAILED one ends the message instead. -/
def State.atBridge (s : State) (e : Ev) : Bool :=
  match e.bridge s with
  | some l => !s.lets l (flitCount s.ctl.freeCtr) && !((s.link l).st == .failed)
  | none => false

/-- The contexts whose access a message carries, or makes. -/
def State.contextsOf (s : State) (e : Ev) : List Nat :=
  let ofTx (x : Nat) : List Nat :=
    match s.tx x with
    | some t => if t.core < 384 then ((s.gang t.core t.slot).map (fun g => g.ctx)).toList else (s.eng.cmds.filter (fun c => c.txs.contains x)).map (fun c => c.ctx)
    | none => []
  let ofPiece (p : Nat) : List Nat :=
    match s.ali.pieces.find? (fun q => q.id == p) with
    | some q => (s.eng.cmds.filter (fun c => c.id == q.cmd)).map (fun c => c.ctx)
    | none => []
  let ofCmd (i : Nat) : List Nat := (s.eng.cmds.filter (fun c => c.id == i)).map (fun c => c.ctx)
  let ofLine (c l : Nat) : List Nat := (s.core.toks.filter (fun k => k.core == c && k.lanes.any (fun x => x.vals.isNone && lineOf x.pa == l))).map (fun k => k.ctx)
  match e with
  | .l1FillReturn c l _ _ _ _ _ => ofLine c l
  | .dirReadMiss c l _ _ => ofLine c l
  | .l1Update _ x => ofTx x
  | .dirStore x => ofTx x
  | .dirAck x _ _ => ofTx x
  | .homeStore x => ofTx x
  | .l2HomeUpdate _ x => ofTx x
  | .homeAck x => ofTx x
  | .storeAck x _ => ofTx x
  | .atomicReturn x => ofTx x
  | .aliasResolve p _ => ofPiece p
  | .mark p _ => ofPiece p
  | .holdRelease p _ => ofPiece p
  | .aliasRecord p => ofPiece p
  | .aliasResolveReply p _ => ofPiece p
  | .marked p _ => ofPiece p
  | .engineCommandComplete i => ofCmd i
  | .cpyqEntryStart i => (s.eng.lists.filter (fun l => l.id == i)).map (fun l => l.ctx)
  | .collMatch i => ofCmd i
  | .collComplete i => ofCmd i
  | .anvilStep c => ((s.nextTask c).map (fun t => t.1.ctx)).toList
  | .tileTaskComplete i => (s.eng.tasks.filter (fun t => t.id == i)).map (fun t => t.ctx)
  | .pageWalkComplete i => (s.xl.walks.filter (fun w => w.id == i)).map (fun w => w.ctx)
  | .runStart c => (((s.readyThreads c).head?).map (fun x => x.1.ctx)).toList
  | _ => []

/-- The accesses of some contexts have met a bridge in FAILED: their launches end, a world's abnormally (R29, R87). -/
def State.cutContexts (s : State) (cs : List Nat) : State :=
  cs.eraseDups.foldl (fun (s : State) c => if s.worldOfCtx c = 0x7F then s.endLaunch c 7 else s.sendAbort (s.worldOfCtx c) 7) s

/-- A message that waited on a bridge in FAILED ends with a link-failure status (R29, R87): its launch ends, or its world abnormally, and its store is over. -/
def State.crossFail (s : State) (e : Ev) : State :=
  let s1 := s.cutContexts (s.contextsOf e)
  match e.txOf with
  | some x =>
    { s1 with coh.txs := s1.coh.txs.filter (fun t => t.id != x), coh.fwd := s1.coh.fwd.filter (fun f => f.tx != x),
              coh.pins := s1.coh.pins.filter (fun p => p.2 != x + 1) }.unsend (fun m => m.txOf == some x)
  | none => s1

/-! ## Waiting at a place -/

/-- What a message takes up where it goes, as far as another may wait there for it: a core's way to a line, a line at its slice or bank group, a line at its home, a port, a
doorbell page, the registers of system software, a cluster's queue, a half, a work queue. -/
def Ev.keys (s : State) (e : Ev) : List (Nat × Nat × Nat) :=
  match e with
  | .dirStore x =>
    match s.tx x with
    | some t => [(0, t.core, t.line), (1, placeFor t.core t.line, t.line)]
    | none => []
  | .dirReadMiss c l _ _ => [(0, c, l), (1, placeFor c l, l)]
  | .homeStore x => [(2, 0, lineOfTx s x)]
  | .flitSend l _ => [(3, 0, l)]
  | .stealServe v _ => [(6, 0, v)]
  | _ =>
    match e.channel s with
    | (.doorbellSetTail, p) => [(4, 0, p)]
    | (.registerWrite, _) => [(5, 0, 0)]
    | (.bridgeGrant, h) => [(7, 0, h)]
    | (.launchRecord, q) => [(8, 0, q)]
    | _ => []

/-- What a waiting message holds back: a store held at its source (R159) its core's way to the line; else all it takes up, but for the way it has come. -/
def Ev.blocks (s : State) (e : Ev) : List (Nat × Nat × Nat) :=
  match e with
  | .dirStore x =>
    match s.tx x with
    | some t => if t.after.all (fun a => s.acked a.1 a.2) then [(1, placeFor t.core t.line, t.line)] else [(0, t.core, t.line)]
    | none => []
  | .dirReadMiss c l _ _ => [(1, placeFor c l, l)]
  | _ => e.keys s

/-- A waiting message is in a message's way. -/
def State.blocked (s : State) (e : Ev) : Bool :=
  let k := e.keys s
  !k.isEmpty && s.ctl.waiting.any (fun w => (w.blocks s).any (fun x => k.contains x))

/-- The n-th message may happen next: none that it goes behind was sent before it, nothing that waits is in its way, and it stands in no crossing and at no bridge. -/
def State.free (s : State) (n : Nat) : Bool :=
  match s.ctl.agenda[n]? with
  | some e => !((s.ctl.agenda.take n).any (fun x => e.behind s x)) && !s.blocked e && !s.inCrossing e && !s.atBridge e
  | none => false

/-- The n-th waiting message may try again: none that waits before it is in its way, so that what waits at one place stays in order. -/
def State.retryable (s : State) (n : Nat) : Bool :=
  match s.ctl.waiting[n]? with
  | some e => !((s.ctl.waiting.take n).any (fun w => (w.blocks s).any (fun x => (e.keys s).contains x)))
  | none => false

/-- A message reaches its place: over a bridge in flits (R25, R26; log 81), or not at all where the bridge has FAILED or fails under it. -/
def State.delivered (s : State) (e : Ev) : State × Bool :=
  match e.bridge s with
  | some l =>
    if (s.link l).st = .failed then (s.crossFail e, false)
    else
      let r := s.sendOver l (flitCount s.ctl.freeCtr)
      if r.2 then r else (r.1.crossFail e, false)
  | none => (s, true)

/-! ## After a move -/

/-- Integrity failures, dropped writes and failed bridges found in a step are logged (R83, R84, R26). -/
def State.noteDue (s : State) : State :=
  let s9 : State := s.ctl.failDue.foldl (fun (s : State) e => s.linkFail e.1 e.2) { s with ctl.failDue := [] }
  let s0 : State := { s9 with ctl.integDue := [], ctl.sealDue := [] }
  let s1 := s.ctl.integDue.foldl (fun (s : State) e => s.integrity (srcHome (homeOf e.2)) e.1 e.2) s0
  let s2 := s.ctl.sealDue.foldl (fun (s : State) e => s.sealWr e.1 e.2.1 e.2.2) s1
  { s2 with ctl.sealDue := [] }

end Sys2Proof.Machine
end

