-- ==== Sys2Proof/Machine/Step.lean ====
section
/-! DEFINITION. One step of the package: one agent moves (a message happens, a core starts a run, or an issue group issues its next word), and time passes. -/

namespace Sys2Proof.Machine

open Sys2Proof

/-- What happens while package reset is held (R19): reset and rails alone. -/
def Ev.underReset (e : Ev) : Bool :=
  match e with
  | .packageReset _ => true
  | .railOutOfLimits _ => true
  | .railSettledTimer _ => true
  | _ => false

/-- A message happens; one whose objects do not exist, or that finds the package in reset, is dropped (log 3). -/
def State.happen (s : State) (e : Ev) : Out :=
  if e.ok && (!s.held0 || e.underReset) then exec e.instr { s with ctl.op := some e } else .next s

/-! ## Words -/

/-- The word that an issue group issues next. -/
def Grp.next? (g : Grp) : Option Instr := (g.words[g.idx]?).bind (fun w => decodeWord w.1)

/-- The first issue group issues its next word (R197). -/
def State.issueNext (s : State) : Out :=
  match s.core.issue with
  | [] => .next s
  | g :: _ =>
    match g.next? with
    | some i => exec i { s with ctl.op := none }
    | none => .next (s.dropGrp g.id)

/-- The n-th issue group comes to the front. -/
def State.toFront (s : State) (n : Nat) : State :=
  match s.core.issue[n]? with
  | some g => { s with core.issue := g :: s.core.issue.eraseIdx n }
  | none => s

/-! ## Turns -/

/-- What moves in a step. -/
inductive Move where
  | timer (n : Nat)
  | message (n : Nat)
  | retry (n : Nat)
  | start (core : Nat)
  | word (n : Nat)
  | hearth (h : Nat)
  | forward (h i owner : Nat)
  | rest
deriving DecidableEq, Repr

/-- The first timer that has run out. -/
def State.dueTimer (s : State) : Option Nat := (List.range s.ctl.timers.length).find? (fun n => match s.ctl.timers[n]? with | some t => decide (t.1 ≤ s.ctl.time) | none => false)

/-- Cores with bound gangs, from a different one at each step. -/
def State.busyCores (s : State) : List Nat :=
  let cs := (s.core.gangs.map (fun g => g.core)).eraseDups
  let k := s.ctl.freeCtr / 5 % max 1 cs.length
  cs.drop k ++ cs.take k

/-- A core that can start a run. -/
def State.startable (s : State) : Option Nat := s.busyCores.find? (fun c => !(s.readyThreads c).isEmpty)

/-- The first message that may happen. -/
def State.firstFree (s : State) : Option Nat := (List.range s.ctl.agenda.length).find? (fun n => s.free n)

/-- A waiting message that may try again, from a different one at each step. -/
def State.nextRetry (s : State) : Option Nat :=
  let ns := (List.range s.ctl.waiting.length).filter s.retryable
  ns[s.ctl.freeCtr / 5 % max 1 ns.length]?

/-- The k-th kind of move, where it is possible. -/
def State.kind (s : State) (k : Nat) : Option Move :=
  match k % 5 with
  | 0 => s.firstFree.map Move.message
  | 1 => s.nextRetry.map Move.retry
  | 2 => s.startable.map Move.start
  | 3 => if s.core.issue.isEmpty then none else some (.word 0)
  | _ => s.nextHearth.map Move.hearth

/-- The move where the schedule names none: timers first, then messages, waiting messages, run starts, words and Hearth cores in turn, so that no agent waits for ever (log 2). -/
def State.fairMove (s : State) : Move :=
  match s.dueTimer with
  | some n => .timer n
  | none =>
    let k := s.ctl.freeCtr
    (((((s.kind k).orElse (fun _ => s.kind (k + 1))).orElse (fun _ => s.kind (k + 2))).orElse (fun _ => s.kind (k + 3))).orElse (fun _ => s.kind (k + 4))).getD .rest

/-- The next move: the schedule's where it is possible. -/
def State.move (s : State) : Move :=
  match s.ctl.schedule with
  | .event n :: _ => if s.free n then .message n else s.fairMove
  | .issue n :: _ => if n < s.core.issue.length then .word n else s.fairMove
  | .retry n :: _ => if s.retryable n then .retry n else s.fairMove
  | .hearth h :: _ => .hearth h
  | .forward h i k :: _ => .forward h i k
  | [] => s.fairMove

/-- A message that must wait again after it has been tried keeps its place among those that wait. -/
def keepPlace (n : Nat) (e : Ev) (o : Out) : Out :=
  match o with
  | .next s => .next (if s.ctl.waiting.getLast? = some e then { s with ctl.waiting := s.ctl.waiting.dropLast.take n ++ e :: s.ctl.waiting.dropLast.drop n } else s)
  | .fault f => .fault f
  | .refused r => .refused r

/-- A move is made. -/
def State.make (s : State) (m : Move) : Out :=
  match m with
  | .timer n => match s.ctl.timers[n]? with
    | some t => { s with ctl.timers := s.ctl.timers.eraseIdx n }.happen t.2
    | none => .next s
  | .message n => match s.ctl.agenda[n]? with
    | some e =>
      let d := { s with ctl.agenda := s.ctl.agenda.eraseIdx n }.delivered e
      if d.2 then d.1.happen e else .next d.1
    | none => .next s
  | .retry n => match s.ctl.waiting[n]? with
    | some e => keepPlace n e ({ s with ctl.waiting := s.ctl.waiting.eraseIdx n }.happen e)
    | none => .next s
  | .start c => s.happen (.runStart c)
  | .word n => (s.toFront n).issueNext
  | .hearth h => .next (s.hearthStep h)
  | .forward h i k => .next (s.forward h i k)
  | .rest => .next s

/-! ## Accesses cut off -/

/-- The message of a move. -/
def State.moveEv (s : State) (m : Move) : Option Ev :=
  match m with
  | .timer n => (s.ctl.timers[n]?).map (fun t => t.2)
  | .message n => s.ctl.agenda[n]?
  | .retry n => s.ctl.waiting[n]?
  | .start c => some (.runStart c)
  | .word _ => none
  | .hearth _ => none
  | .forward _ _ _ => none
  | .rest => none

/-- The contexts whose accesses a move makes. -/
def State.moveContexts (s : State) (m : Move) : List Nat :=
  match m with
  | .word n => ((s.core.issue[n]?).map (fun g => g.ctx)).toList
  | _ => ((s.moveEv m).map (fun e => s.contextsOf e)).getD []

/-- A message that is over once its access has been cut off. -/
def Ev.cutOver (e : Ev) : Bool :=
  match e with
  | .dirReadMiss _ _ _ _ => true
  | .dirStore _ => true
  | _ => false

/-- After a move: where an access has met a bridge in FAILED, its contexts end, and its message is over (R29, R87). -/
def State.endCut (s : State) (e : Option Ev) (cs : List Nat) : State :=
  if s.ctl.cut then
    let s1 : State := { s with ctl.cut := false }
    match e with
    | some x => if x.cutOver then ((s1.unsend (fun y => y == x)).crossFail x).cutContexts cs else s1.cutContexts cs
    | none => s1.cutContexts cs
  else s

/-! ## Time -/

/-- The clock of a compute quadrant, in MHz (R21, R24). -/
def State.quadrantClock (s : State) (q : Nat) : Nat := let x := s.island (islandOf q); if x.throt then x.floor else x.run

/-- Periods of the 1.7 GHz clock pass, as many as nothing in the spec fixes (log 1). -/
def State.tick (s : State) : State :=
  let d := Config.elapsed s.ctl.freeCtr
  { s with ctl.time := s.ctl.time + d, ctl.freeCtr := s.ctl.freeCtr + 1,
           pkg.clk := ((List.range s.pkg.clk.length).zip s.pkg.clk).map (fun e => e.2 + s.quadrantClock e.1 * d) }

/-- What a step adds around the move: the move's message is over, failures found are logged, event entries whose line is there are written, due records of the notice board are written, time passes. -/
def State.settle (s : State) : State := (({ s with ctl.op := none }.noteDue).ringDrain.nbSettle).tick

/-- A step's outcome from that of its move, with the move's message and contexts: a device access that R94 does not decode stops the machine (log 5). -/
def closeStep (e : Option Ev) (cs : List Nat) (o : Out) : Out :=
  match o with
  | .next s => match s.ctl.badPA with
    | some pa => .fault (.unmappedAddress pa)
    | none => .next (s.endCut e cs).settle
  | .fault f => .fault f
  | .refused r => .refused r

/-- One step. -/
def step (s : State) : Out := closeStep (s.moveEv s.move) (s.moveContexts s.move) ({ s with ctl.schedule := s.ctl.schedule.tail }.make s.move)

/-! ## The host's probe -/

/-- A launch record for the probe: one gang of 32 threads. -/
def probeRecord : LRec :=
  { kind := 1, flags := 0, maxdl := 15, codebase := 0, entry := 0, spad := 256, w := [5, 0, 0, 0, 0, 0], dom := [0, 0, 0, 0, 0], xregs := 0, tiles := 16,
    count := 32, params := 0, compl := 1, acqs := 0, rels := 0, keyh := 0, kindArea := zeros 112, seq := 0, tag := zeros 16 }

/-- Its launch. -/
def probeLaunch : Launch :=
  { ctx := 0, tenant := 0, queue := 0, cls := 0, pins := [], world := 0x7F, lrec := probeRecord, hdr := 0, arith := 0, ending := none, released := false, cut := 1,
    waitSince := 0, graph := none, est := none }

/-- Its gang, in the first slot of core 0, with every thread in a run. -/
def probeGang : Gang :=
  { core := 0, slot := 0, ctx := 0, gang := 0, group := 0, tcb := 0, stage := 255, world := 0x7F, wid0 := 0, wids := List.range 32, block := 0, tblocks := [], v := [],
    o := [], xacq := false, sc := List.replicate 8 0, tiles := [], ntiles := 16, spad := [], spois := [], size := 256, alloc := 0, tseq := 0, base := 0,
    regions := List.replicate 16 { rgva := 0, rgcf := 0 }, valid := [], written := [], preempt := false, restoring := false, saving := false,
    threads := (List.range 32).map (fun _ => { emptyThread with status := .runnable, inRun := true }), bornAt := 0 }

/-- Its issue group: the word, and END where the word is none. -/
def probeGrp (w : Nat) : Grp :=
  let x := wordOfBytes (bytesOfWord (BitVec.ofNat 32 w))
  { id := 0, core := 0, ctx := 0, pc := 0, words := [(x, 0), (0x01000000, 0)], idx := 0, kext := [], qual := none, named := [], shifted := 0, fx := [],
    arith := [], stage := 0, stallTx := [], trailer := false, pads := [], allocs := [],
    lanes := (List.range 32).map (fun l => laneOf (probeGang, l)) }

/-- The TCB its gang comes from. -/
def probeTcb : TCB :=
  { id := 0, ctx := 0, entry := 0, stage := 255, wtag := 0x7F, reclist := 0, recs := [], seqs := [], gno := 0, limit := 32, level := 1, pinned := false, state := 1, ngrp := 1,
    first := 0, place := 0, passed := 0, pinCore := none, unit := 0, stackUnit := 0, since := 0 }

/-- s with a word at the head of a run that issues next: a launch of tenant 0 with one gang, nothing else under way. It stands for the dispatch, the binding and
the fetch that bring a run to its first word (log 33). -/
def State.withFetchWord (s : State) (_nbits w : Nat) : State :=
  { s.setTState 0 1 with
    ctl.agenda := [], ctl.waiting := [], ctl.timers := [], ctl.schedule := [], ctl.op := none, ctl.nextId := max 1 s.ctl.nextId,
    run.launches := [probeLaunch], run.tcbs := [probeTcb], core.gangs := [probeGang], core.issue := [probeGrp w] }

end Sys2Proof.Machine
end

