-- ==== Sys2Proof/Safety.lean ====
section
/-! DEFINITION. What a safe run is, and the words in which the statements are made: a message that happens, a word that finds its operands, and what a word leaves when it
completes. -/

namespace Sys2Proof.Machine

open Sys2Proof

/-! ## Runs -/

/-- The machine goes on from s: its step is neither a fault nor a refusal. -/
def State.safe (s : State) : Prop := ∃ t, step s = .next t

/-- What every step keeps: memory is in canonical form (log 9). -/
def State.inv (s : State) : Prop := Memory.wf s.mem = true

/-- s with a message as the one that happens. -/
def State.hears (s : State) (e : Ev) : State := { s with ctl.op := some e }

/-- A message that happens in s completes, and leaves what f gives of the state that heard it. -/
def Gives (i : Instr) (e : Ev) (s : State) (f : State → State) : Prop := e.instr = i ∧ exec i (s.hears e) = .next (f (s.hears e))

/-- A message that happens in s completes, in a state of which P holds. -/
def Happens (i : Instr) (e : Ev) (s : State) (P : State → Prop) : Prop := e.instr = i ∧ ∃ t, exec i (s.hears e) = .next t ∧ P t

/-- A word with a guard, sources and destinations finds its operands in a group (R10, R202 to R205, R261, R304): every lane is deep enough for the guard and no
guard is poisoned; in the lanes that the guard lets through every source can be read and is clean, and every destination can be written; a lane position is filled
once (R197). -/
structure Issues (s : State) (g : Grp) (rest : List Grp) (gd : BitVec 3) (srcs dsts : List Nat) : Prop where
  head : s.core.issue = g :: rest
  ids : ∀ x ∈ rest, x.id ≠ g.id
  deep : ∀ l ∈ g.lanes, guardEntry gd ≤ l.depth
  clear : ∀ l ∈ g.lanes, l.gate gd ≠ .pois
  srcs : ∀ l ∈ g.lanes, l.gate gd = .on → ∀ c ∈ srcs, ∃ v, s.read g l c = .ok v ∧ v.bad = false
  dsts : ∀ l ∈ g.lanes, l.gate gd = .on → ∀ c ∈ dsts, s.dstOk g l c = true
  once : (g.lanes.map (fun l => l.lane)).Nodup

/-- The value of a readable operand in a lane. -/
def State.opnd (s : State) (g : Grp) (l : RLane) (a : BitVec 7) : Word := (s.readD g l a.toNat).val

/-- s with the group at the head of the issue queue replaced. -/
def State.headGrp (s : State) (g : Grp) (rest : List Grp) : State := { s with core.issue := g :: rest }

/-- g after a word with destination d that gives f in the lanes its guard lets through (R202, R203, R261). -/
def Grp.wrote (g : Grp) (s : State) (gd : BitVec 3) (d : BitVec 7) (f : RLane → Word) : Grp :=
  (g.shiftedTo d.toNat (g.lanes.map (fun l => if l.gate gd = .on then l.result d.toNat (clean (f l)) else s.offLane g l d.toNat))).adv

/-- The arithmetic log of g with the causes that f gives in the lanes a guard lets through (R211). -/
def Grp.logged (g : Grp) (gd : BitVec 3) (f : RLane → List Nat) : List (Nat × Nat × Nat) := logAll g.arith ((g.active gd).map (fun l => (l, f l)))

/-- g with another arithmetic log. -/
def Grp.logs (g : Grp) (a : List (Nat × Nat × Nat)) : Grp := { g with arith := a }

/-- Words of three registers complete, with a result of two values. -/
def Computes2 (mk : BitVec 3 → BitVec 7 → BitVec 7 → BitVec 7 → Instr) (f : Word → Word → Word) : Prop :=
  ∀ s g rest gd d a b, Issues s g rest gd [a.toNat, b.toNat] [d.toNat] →
    exec (mk gd d a b) s = .next (s.headGrp (g.wrote s gd d (fun l => f (s.opnd g l a) (s.opnd g l b))) rest)

/-- Words of two registers complete, with a result of one value. -/
def Computes1 (mk : BitVec 3 → BitVec 7 → BitVec 7 → Instr) (f : Word → Word) : Prop :=
  ∀ s g rest gd d a, Issues s g rest gd [a.toNat] [d.toNat] →
    exec (mk gd d a) s = .next (s.headGrp (g.wrote s gd d (fun l => f (s.opnd g l a))) rest)

/-- Words of two values that may log causes. -/
def Logs2 (mk : BitVec 3 → BitVec 7 → BitVec 7 → BitVec 7 → Instr) (f : Word → Word → Word × List Nat) : Prop :=
  ∀ s g rest gd d a b, Issues s g rest gd [a.toNat, b.toNat] [d.toNat] →
    let r := fun l => f (s.opnd g l a) (s.opnd g l b)
    exec (mk gd d a b) s = .next (s.headGrp ((g.wrote s gd d (fun l => (r l).1)).logs (g.logged gd (fun l => (r l).2))) rest)

/-- Words that read their destination too. -/
def Logs3 (mk : BitVec 3 → BitVec 7 → BitVec 7 → BitVec 7 → Instr) (f : Word → Word → Word → Word × List Nat) : Prop :=
  ∀ s g rest gd d a b, Issues s g rest gd [a.toNat, b.toNat, d.toNat] [d.toNat] →
    let r := fun l => f (s.opnd g l a) (s.opnd g l b) (s.opnd g l d)
    exec (mk gd d a b) s = .next (s.headGrp ((g.wrote s gd d (fun l => (r l).1)).logs (g.logged gd (fun l => (r l).2))) rest)

/-- Words of one value that may log causes. -/
def Logs1 (mk : BitVec 3 → BitVec 7 → BitVec 7 → Instr) (f : Word → Word × List Nat) : Prop :=
  ∀ s g rest gd d a, Issues s g rest gd [a.toNat] [d.toNat] →
    let r := fun l => f (s.opnd g l a)
    exec (mk gd d a) s = .next (s.headGrp ((g.wrote s gd d (fun l => (r l).1)).logs (g.logged gd (fun l => (r l).2))) rest)

/-- Words of the predicate register complete: f of each lane, and nothing else (R304 to R306). -/
def Preds (i : Instr) (need : Nat) (srcs : List Nat) (f : State → Grp → RLane → RLane) : Prop :=
  ∀ s g rest, Issues s g rest 0 srcs [] → (∀ l ∈ g.lanes, need ≤ l.depth) →
    exec i s = .next (s.headGrp ({ g with lanes := g.lanes.map (f s g) }.adv) rest)

/-- s after a word that names a token: the token joins the pending ones, its completion is on its way, the group goes on (R206). -/
def State.named (s : State) (g : Grp) (rest : List Grp) (t : Token) : State :=
  { s.headGrp g rest with ctl.nextId := s.ctl.nextId + 1, ctl.agenda := s.ctl.agenda ++ [.tokenComplete s.ctl.nextId],
                          core.toks := s.core.toks ++ [{ t with id := s.ctl.nextId }] }

/-- A word on token k finds its operands: as Issues, some lane is let through, and no lane of the group has token k pending (R206). -/
structure Tokens (s : State) (g : Grp) (rest : List Grp) (gd : BitVec 3) (srcs dsts : List Nat) (k : BitVec 3) : Prop extends Issues s g rest gd srcs dsts where
  some : ∃ l ∈ g.lanes, l.gate gd = .on
  free : s.tokBusy g k.toNat = false

/-- Special functions complete: each lane's result on the token, and its causes in the log. -/
def Functions (mk : BitVec 3 → BitVec 7 → BitVec 7 → BitVec 3 → Instr) (f : Word → Word × List Nat) : Prop :=
  ∀ s g rest gd d a k, Tokens s g rest gd [a.toNat] [d.toNat] k →
    exec (mk gd d a k) s = .next (s.named ((g.logs (g.logged gd (fun l => (f (s.opnd g l a)).2))).adv) rest
      (g.token k.toNat d.toNat 1 ((g.active gd).map (fun l => doneLane l [clean (f (s.opnd g l a)).1]))))

/-- set(l) of R282: the lanes of l's gang slot that the guard lets through. -/
def Grp.setAt (g : Grp) (gd : BitVec 3) (l : RLane) : List RLane := (g.active gd).filter (fun m => m.slot == l.slot)

/-- Cross-lane words complete: each lane's result on the token, f of its set(l). -/
def Crosses (mk : BitVec 3 → BitVec 7 → BitVec 7 → BitVec 3 → Instr) (f : (RLane → Word) → List RLane → RLane → Word) : Prop :=
  ∀ s g rest gd d a k, Tokens s g rest gd [a.toNat] [d.toNat] k →
    exec (mk gd d a k) s = .next (s.named g.adv rest
      (g.token k.toNat d.toNat 1 ((g.active gd).map (fun l => doneLane l [clean (f (fun m => s.opnd g m a) (g.setAt gd l) l)]))))

/-- Folding words complete (R311), every lane of a set logging what the whole fold of the set logs. -/
def Folds (mk : BitVec 3 → BitVec 7 → BitVec 7 → BitVec 3 → Instr) (op : Nat) (part : List RLane → RLane → List RLane) : Prop :=
  ∀ s g rest gd d a k, Tokens s g rest gd [a.toNat] [d.toNat] k →
    let vals := fun ls : List RLane => ls.map (fun m => (s.opnd g m a).toNat)
    exec (mk gd d a k) s = .next (s.named ((g.logs (g.logged gd (fun l => (foldLanes op (vals (g.setAt gd l))).2))).adv) rest
      (g.token k.toNat d.toNat 1 ((g.active gd).map (fun l => doneLane l [clean (BitVec.ofNat 32 (foldLanes op (vals (part (g.setAt gd l) l))).1)]))))

/-- A scratchpad access of a word finds its bytes: aligned, within SPAD, in no region, and no watchpoint is set (R147, R218, R319, R400). -/
def SpadReady (s : State) (g : Grp) (gd : BitVec 3) (align size : Nat) (off : RLane → Nat) : Prop :=
  s.held g.ctx = false ∧ ∀ l ∈ g.active gd, off l % align = 0 ∧ off l + size ≤ s.spadSize g l ∧
    ∃ x, s.gang g.core l.slot = some x ∧ x.ctx = g.ctx ∧ x.regionOf (off l / 128) = none

/-- s once the Reeve has read the record at a queue's head: the read and its answer have crossed what bridges they needed (R15, R29). -/
def State.readHead (s : State) (q : Queue) : State := match s.reeveXl q.tenant q.recordVa 4 with | .ok pa _ => (s.readOver pa 256).1 | _ => s

/-- The record at a queue's head lies in a page of the tenant that the Reeve can read now (R15, R38), is clean, and is b. -/
def HeadIs (s : State) (q : Queue) (b : List Byte) : Prop :=
  s.queue q.q = some q ∧ q.head ≠ q.tail ∧ ∃ pa attr, s.reeveXl q.tenant q.recordVa 4 = .ok pa attr ∧ s.reeveRead q.tenant q.recordVa 256 = some (some b) ∧
    (s.readOver pa 256).2 = true ∧ (s.readOver pa 256).1.extentPois pa 256 = false

/-- A kernel record that its checks pass, with a table entry and a header block free (R41, R58, R59, R165). -/
def Dispatchable (s : State) (q : Queue) (b : List Byte) (ctx hdr : Nat) : Prop :=
  badRecord b q.secure = false ∧ (recordOf b).kind = 1 ∧ bit (recordOf b).flags 1 = false ∧ (bit (s.tModes q.tenant) 0 = true ∨ bit s.host.hartid.toNat 31 = true) ∧
    s.noSpace (recordOf b) q.q = false ∧ s.freeCtx = some ctx ∧ s.freeBlocks 1 = some [hdr]

end Sys2Proof.Machine
end

