-- ==== Sys2Proof/Certificates/Slice0/Obligations.lean ====
section
/-! DEFINITION. The statements about the machine, from the spec's numbered rules. -/

open Sys2Proof Sys2Proof.Machine

/-- Every well-formed word has an encoding, and it decodes to it (R260 to R280): no field of any word is dropped or read from another's place. -/
def Obligations.DecodeOfEncode : Prop := ∀ i : Instr, i.wf → (∀ w, encode i = some w → decodeWord w = some i ∧ decodeTableWord 32 w.toNat = some i) ∧
  ((encode i).isSome = true ∨ ∃ e : Ev, e.instr = i)

/-- Words written out from the tables of the encoding rules decode to what they stand for; words with a reserved guard, destination, function, rounding or scope code do not decode (R260 to R281). -/
def Obligations.SampleWords : Prop :=
  decodeWord 0xB1214307 = some (.fadd 1 1 1 5 6 7) ∧ decodeWord 0x1E00C078 = some (.movi 0 0 3 0x78) ∧ decodeWord 0x2C008082 = some (.icmp 0 0 2 1 2) ∧ decodeWord 0x64010112 = some (.ld32 0 0 4 2 2 2) ∧
  decodeWord 0x01008000 = some (.endRun 4 0 0) ∧ decodeWord 0x05000000 = some (.exit 0 0) ∧ decodeWord 0x0F2468AC = some (.kext 0x2468AC) ∧ decodeWord 0x4C000015 = some (.qual 0 0 2 5) ∧
  decodeWord 0x502C2401 = some (.paddB4 0 1 48 72 1) ∧ decodeWord 0x80000000 = some (.nop 1) ∧ decodeWord 0x00800000 = none ∧ decodeWord 0x10184000 = none ∧ decodeWord 0x44000050 = none ∧
  decodeWord 0x0C00003A = none

/-- A step makes one move and adds around it only what closes the step. Where the schedule names an issue group, or it is the words' turn, the next word of the group is decoded and executed; where it names a message that goes behind
none sent before it, that no waiting message holds back, that stands in no crossing and at no bridge, or a message that waits at its place and may try again, or where a timer has run out, what the message says happens; over a bridge
its flits go first, and where one of them is lost for good the message is ended instead. A Hearth core's turn is its next instruction, or the forwarding of a request. Closing ends the contexts whose access met a FAILED bridge, forgets
the message, logs the failures found, writes the event entries and the board's records that are due, lets time pass, and stops at a device access that R94 does not decode (the model's choices: logs 1, 2, 5, 71, 81, 82). -/
def Obligations.StepsRunTheirInstructions : Prop := ∀ (s : State) (n : Nat) (g : Grp) (i : Instr) (e : Ev) (sch : List Turn),
  (s.core.issue[n]? = some g → (g.words[g.idx]?).bind (fun w => decodeWord w.1) = some i →
    (s.ctl.schedule = .issue n :: sch → step s = closeStep none [g.ctx] (exec i { s with ctl.schedule := sch, ctl.op := none, core.issue := g :: s.core.issue.eraseIdx n })) ∧
    (s.ctl.schedule = [] → n = 0 → s.dueTimer = none → s.ctl.freeCtr % 5 = 3 → step s = closeStep none [g.ctx] (exec i { s with ctl.op := none, core.issue := g :: s.core.issue.eraseIdx 0 }))) ∧
  (e.ok = true → s.held0 = false →
    (s.ctl.schedule = .event n :: sch → s.ctl.agenda[n]? = some e → (∀ x ∈ s.ctl.agenda.take n, e.behind s x = false) → s.blocked e = false → s.inCrossing e = false →
      let u : State := { s with ctl.schedule := sch, ctl.agenda := s.ctl.agenda.eraseIdx n }
      (e.bridge s = none → step s = closeStep (some e) (s.contextsOf e) (exec e.instr { u with ctl.op := some e })) ∧
      (∀ k, e.bridge s = some k → s.lets k (flitCount s.ctl.freeCtr) = true → let r := u.sendOver k (flitCount s.ctl.freeCtr)
        step s = closeStep (some e) (s.contextsOf e) (if r.2 then exec e.instr { r.1 with ctl.op := some e } else .next (r.1.crossFail e))) ∧
      (∀ k, e.bridge s = some k → (s.link k).st = .failed → step s = closeStep (some e) (s.contextsOf e) (.next (u.crossFail e)))) ∧
    (s.ctl.schedule = [] → s.dueTimer = none → s.ctl.freeCtr % 5 = 0 → s.firstFree = some n → s.ctl.agenda[n]? = some e → e.bridge s = none →
      step s = closeStep (some e) (s.contextsOf e) (exec e.instr { s with ctl.agenda := s.ctl.agenda.eraseIdx n, ctl.op := some e })) ∧
    (s.ctl.waiting[n]? = some e → s.ctl.schedule = .retry n :: sch → s.retryable n = true →
      step s = closeStep (some e) (s.contextsOf e) (keepPlace n e (exec e.instr { s with ctl.schedule := sch, ctl.waiting := s.ctl.waiting.eraseIdx n, ctl.op := some e }))) ∧
    (s.ctl.waiting[n]? = some e → s.ctl.schedule = [] → s.dueTimer = none → s.ctl.freeCtr % 5 = 1 → s.nextRetry = some n →
      step s = closeStep (some e) (s.contextsOf e) (keepPlace n e (exec e.instr { s with ctl.waiting := s.ctl.waiting.eraseIdx n, ctl.op := some e }))) ∧
    (∀ t, s.ctl.schedule = [] → s.dueTimer = some n → s.ctl.timers[n]? = some (t, e) →
      step s = closeStep (some e) (s.contextsOf e) (exec e.instr { s with ctl.timers := s.ctl.timers.eraseIdx n, ctl.op := some e }))) ∧
  (∀ h k, (s.ctl.schedule = .hearth h :: sch → step s = closeStep none [] (.next ({ s with ctl.schedule := sch }.hearthStep h))) ∧
    (s.ctl.schedule = .forward h n k :: sch → step s = closeStep none [] (.next ({ s with ctl.schedule := sch }.forward h n k)))) ∧
  (∀ x cs, (s.ctl.badPA = none → closeStep x cs (.next s) = .next ((({ s.endCut x cs with ctl.op := none }).noteDue).ringDrain.nbSettle).tick) ∧
    (∀ pa, s.ctl.badPA = some pa → closeStep x cs (.next s) = .fault (.unmappedAddress pa)) ∧ (s.ctl.cut = false → s.endCut x cs = s)) ∧
  (s.tick.ctl.freeCtr = s.ctl.freeCtr + 1 ∧ s.tick.ctl.time = s.ctl.time + Config.elapsed s.ctl.freeCtr ∧ s.tick.mem = s.mem ∧ s.tick.core = s.core) ∧ (s.nb.heldCtx = none → s.nbSettle = s) ∧
  (s.ten.evWait = [] → s.ten.hsWait = [] → s.ten.hfltWait = [] → s.ringDrain = s) ∧ (s.ctl.failDue = [] → s.ctl.integDue = [] → s.ctl.sealDue = [] → s.noteDue = s)

/-- What the spec says of the package right after reset (R19, R21, R22, R48, R56, R64, R109, R113): the islands at their nominal frequency, voltage and floor, no reading yet, every link DOWN (the model's choice, log 6), the boot the one thing to come (log 33), measurements 0, weights 1, the first serial still to come, no
translation, launch, gang, queue or alias, the alias limit 8,192 and the hot threshold 16. -/
def Obligations.ResetValues : Prop :=
  let r := State.reset
  (∀ i, i < 21 → ∃ x, r.pkg.islands[i]? = some x ∧ x.throt = false ∧ x.change = none ∧
    (i % 7 < 4 → x.fset = 850 ∧ x.vset = 850 ∧ x.floor = 300) ∧ (i % 7 = 4 → x.fset = 850 ∧ x.vset = 750 ∧ x.floor = 0) ∧ (i % 7 = 5 → x.fset = 1700 ∧ x.vset = 800 ∧ x.floor = 0) ∧
    (i % 7 = 6 → x.fset = 2000 ∧ x.vset = 1050 ∧ x.floor = 0)) ∧
  (∀ k ∈ [(21, 1000, 900), (22, 1750, 900), (23, 400, 1800)], ∃ x, r.pkg.islands[k.1]? = some x ∧ x.fset = k.2.1 ∧ x.vset = k.2.2 ∧ x.floor = 0) ∧
  (∀ c < 96, (r.pkg.tcol.drop c).headD 1 = 0) ∧ (∀ l ∈ r.pkg.links, l.st = .down) ∧ r.host.meas = List.replicate 8 (List.replicate 32 0) ∧ r.host.step = 0 ∧ r.host.ready = false ∧
  r.ten.wrrw = List.replicate 8 1 ∧ r.ten.serial = 0 ∧ (∀ t, nget 0 r.ten.hsctl t = 0 ∧ r.tState t = 0 ∧ nget 0 r.ten.txctl t = 0) ∧ r.xl.tlb = [] ∧ r.xl.sdctl = 0 ∧ r.run.launches = [] ∧ r.core.gangs = [] ∧
  r.ten.queues = [] ∧ r.ali.entries = [] ∧ r.ali.limit = 0x2000 ∧ r.ali.hot = 16 ∧ r.nb.nbctl = 0 ∧ r.ctl.agenda = [.bootStart] ∧ r.ctl.waiting = []

/-- Every step keeps memory in its canonical form (log 9): from any state whose memory has it, whatever moves. -/
def Obligations.StepKeepsMemoryForm : Prop := ∀ s t : State, s.inv → step s = .next t → t.inv

/-- The memory of the reset state has its canonical form, and lists nothing. -/
def Obligations.ResetHasMemoryForm : Prop := State.reset.inv ∧ State.reset.mem = []

/-- Traps (R138, R210, R213, R319): a misaligned store traps with ALIGN (R319), code 0x16 of R213, before any byte of it; a trap ends its launch with FAULT: no run of the launch is in issue any longer and no thread of it is live; a store whose page faults makes its
thread wait at the fault entry, its run abandoned; a BRX of a refillable poison value makes its thread wait on the FID in the value's tag, unless the entry of that FID has been freed or its refill has its data: then the thread starts its run again at once (the model's choice, log 95). -/
def Obligations.TrapWords : Prop := ∀ (c : BitVec 1) s g rest gd (d b : BitVec 7) (o : BitVec 4),
  (Issues s g rest gd (d.toNat :: baseSrcs b.toNat) [] →
    let va := fun l => s.va g ((baseSrcs b.toNat).map (s.readD g l)) (g.off4 o.toNat 4)
    (let mis := (g.active gd).filter (fun l => va l % 4 != 0)
     mis ≠ [] → exec (.st32 c gd d b o) s = .next (s.coreTrap g 0x16 mis)) ∧
    (∀ l x w cause fid, g.lanes = [l] → l.gate gd = .on → l.done = false → s.gang g.core l.slot = some x → l.lane < x.threads.length → (x.thread l.lane).status = .runnable → va l % 4 = 0 →
      s.xlate (stackOf g.core) (s.tenantOfCtx g.ctx) g.ctx (va l) 1 = .fault w cause (some fid) → ∃ t, exec (.st32 c gd d b o) s = .next t ∧
        (t.thread g.core l.slot l.lane).status = .faultwait ∧ (t.thread g.core l.slot l.lane).fid = fid ∧ (∀ h ∈ t.core.issue, h.id ≠ g.id) ∧ t.mem = s.mem)) ∧
  (∀ cause lanes L, s.launch g.ctx = some L → L.ending = none → let t := s.coreTrap g cause lanes
    (∃ M, t.launch g.ctx = some M ∧ M.ending = some 4) ∧ (∀ h ∈ t.core.issue, h.ctx ≠ g.ctx) ∧ ∀ y ∈ t.core.gangs, y.ctx = g.ctx → ∀ h ∈ y.threads, h.live = false) ∧
  (∀ l x v, s.core.issue = g :: rest → (∀ y ∈ rest, y.id ≠ g.id) → g.lanes = [l] → l.gate gd = .on → l.done = false → guardEntry gd ≤ l.depth → s.gang g.core l.slot = some x → l.lane < x.threads.length →
    s.read g l b.toNat = .ok v → v.bad = true → v.kind = 0 → ∃ t, exec (.brx c gd b) s = .next t ∧
      (s.refilled g l v.fid = false → (t.thread g.core l.slot l.lane).status = .faultwait ∧ (t.thread g.core l.slot l.lane).fid = v.fid) ∧
      (s.refilled g l v.fid = true → (t.thread g.core l.slot l.lane).status = (x.thread l.lane).status) ∧
      (t.thread g.core l.slot l.lane).inRun = false ∧ (∀ h ∈ t.core.issue, h.id ≠ g.id) ∧ t.mem = s.mem)

/-- Integer words complete: IADD, ISUB, IMUL, IMAD, IMULH, IMIN and IMAX with the results of R286; IDIV and IREM with those of R287, a zero divisor logging IDIVZERO (code 4 of R211); MOV, IABS, INEG, POPC, CLZ, CTZ and BREV with those of R289; MOVI with its immediate (R288), signed at its extended width (R266); SEL with A where p1 is 1, else B (R293). Every other lane, register, flag and byte is as it was. -/
def Obligations.ArithmeticWords : Prop :=
  (∀ c : BitVec 1,
   Computes2 (.iadd c) (fun x y => x + y) ∧ Computes2 (.isub c) (fun x y => x - y) ∧ Computes2 (.imul c) (fun x y => x * y) ∧
   Logs3 (.imad c) (fun x y z => (x * y + z, [])) ∧
   Computes2 (.imulhS32 c) (fun x y => ((x.signExtend 64 * y.signExtend 64) >>> 32).setWidth 32) ∧
   Computes2 (.imulhN32 c) (fun x y => ((x.setWidth 64 * y.setWidth 64) >>> 32).setWidth 32) ∧
   Computes2 (.iminS32 c) (fun x y => if x.slt y then x else y) ∧ Computes2 (.iminN32 c) (fun x y => if x.ult y then x else y) ∧
   Computes2 (.imaxS32 c) (fun x y => if x.slt y then y else x) ∧ Computes2 (.imaxN32 c) (fun x y => if x.ult y then y else x)) ∧
  (∀ c : BitVec 1,
   Logs2 (.idivS32 c) (fun x y => if y = 0 then (0xFFFFFFFF, [4]) else (x.sdiv y, [])) ∧
   Logs2 (.idivN32 c) (fun x y => if y = 0 then (0xFFFFFFFF, [4]) else (x.udiv y, [])) ∧
   Logs2 (.iremS32 c) (fun x y => if y = 0 then (x, [4]) else (x.srem y, [])) ∧
   Logs2 (.iremN32 c) (fun x y => if y = 0 then (x, [4]) else (x.umod y, []))) ∧
  (∀ c : BitVec 1,
   Computes1 (.mov c) (fun x => x) ∧ Computes1 (.iabs c) (fun x => if x.msb then -x else x) ∧ Computes1 (.ineg c) (fun x => -x) ∧
   Computes1 (.popc c) (fun x => x.cpop) ∧ Computes1 (.clz c) (fun x => x.clz) ∧ Computes1 (.ctz c) (fun x => x.ctz) ∧
   Computes1 (.brev c) (fun x => x.reverse)) ∧
  (∀ (c : BitVec 1) s g rest gd d (i : BitVec 7), Issues s g rest gd [] [d.toNat] →
   (g.kext = [] → exec (.movi c gd d i) s = .next (s.headGrp (g.wrote s gd d (fun _ => i.signExtend 32)) rest)) ∧
   (∀ p : BitVec 24, g.kext = [p.toNat] → exec (.movi c gd d i) s = .next (s.headGrp (g.wrote s gd d (fun _ => (p ++ i).signExtend 32)) rest)) ∧
   (∀ p q : BitVec 24, g.kext = [p.toNat, q.toNat] →
     exec (.movi c gd d i) s = .next (s.headGrp (g.wrote s gd d (fun _ => (p ++ q ++ i).setWidth 32)) rest))) ∧
  (∀ (c : BitVec 1) s g rest gd d a b, Issues s g rest gd [a.toNat, b.toNat] [d.toNat] →
   (∀ l ∈ g.lanes, 1 ≤ l.depth ∧ l.pp 1 = false) →
   exec (.sel c gd d a b) s = .next (s.headGrp (g.wrote s gd d (fun l => if l.p 1 then s.opnd g l a else s.opnd g l b)) rest))

/-- AND, OR, XOR and ANDN (R290), SHL, SHR, SAR and ROTL (R291: the amount is the low byte of B, and 32 or more shifts everything out), BFX and BFI (R292: byte 0 of B is the position, byte 1, at most 32, the length) complete, every other lane, register, flag and byte as it was. -/
def Obligations.LogicWords : Prop :=
  (∀ c : BitVec 1,
   Computes2 (.andW c) (fun x y => x &&& y) ∧ Computes2 (.orW c) (fun x y => x ||| y) ∧ Computes2 (.xor c) (fun x y => x ^^^ y) ∧
   Computes2 (.andn c) (fun x y => x &&& ~~~y) ∧ Computes2 (.shl c) (fun x y => x <<< (y.setWidth 8).toNat) ∧
   Computes2 (.shr c) (fun x y => x >>> (y.setWidth 8).toNat) ∧ Computes2 (.sar c) (fun x y => x.sshiftRight (y.setWidth 8).toNat) ∧
   Computes2 (.rotl c) (fun x y => x.rotateLeft (y.setWidth 8).toNat)) ∧
  (∀ c : BitVec 1,
   let pos := fun y : Word => (y.extractLsb' 0 8).toNat
   let len := fun y : Word => min (y.extractLsb' 8 8).toNat 32
   Computes2 (.bfxN32 c) (fun x y => (x >>> pos y) &&& ~~~(BitVec.allOnes 32 <<< len y)) ∧
   Computes2 (.bfxS32 c) (fun x y => ((x.sshiftRight (pos y)) <<< (32 - len y)).sshiftRight (32 - len y)) ∧
   Logs3 (.bfi c) (fun x y z =>
     let m := ~~~(BitVec.allOnes 32 <<< len y) <<< pos y
     ((z &&& ~~~m) ||| ((x <<< pos y) &&& m), [])))

/-- The packed words of four bytes and of two halves complete with R303's results in each element; a shift takes one amount for all, the low byte of B. -/
def Obligations.PackedWords : Prop :=
  (∀ c : BitVec 1,
   let by4 := fun (f : BitVec 8 → BitVec 8 → BitVec 8) (x y : Word) =>
     f (x.extractLsb' 24 8) (y.extractLsb' 24 8) ++ f (x.extractLsb' 16 8) (y.extractLsb' 16 8) ++ f (x.extractLsb' 8 8) (y.extractLsb' 8 8) ++
       f (x.extractLsb' 0 8) (y.extractLsb' 0 8)
   let sh4 := fun (f : BitVec 8 → Nat → BitVec 8) (x y : Word) => by4 (fun e _ => f e (y.extractLsb' 0 8).toNat) x y
   Computes2 (.paddB4 c) (by4 (fun x y => x + y)) ∧ Computes2 (.psubB4 c) (by4 (fun x y => x - y)) ∧ Computes2 (.pmulB4 c) (by4 (fun x y => x * y)) ∧
   Computes2 (.pminB4 c) (by4 (fun x y => if x.slt y then x else y)) ∧ Computes2 (.pmaxB4 c) (by4 (fun x y => if x.slt y then y else x)) ∧
   Computes2 (.pshlB4 c) (sh4 (fun x n => x <<< n)) ∧ Computes2 (.pshrB4 c) (sh4 (fun x n => x >>> n)) ∧
   Computes2 (.psarB4 c) (sh4 (fun x n => x.sshiftRight n))) ∧
  (∀ c : BitVec 1,
   let by2 := fun (f : BitVec 16 → BitVec 16 → BitVec 16) (x y : Word) =>
     f (x.extractLsb' 16 16) (y.extractLsb' 16 16) ++ f (x.extractLsb' 0 16) (y.extractLsb' 0 16)
   let sh2 := fun (f : BitVec 16 → Nat → BitVec 16) (x y : Word) => by2 (fun e _ => f e (y.extractLsb' 0 8).toNat) x y
   Computes2 (.paddH2 c) (by2 (fun x y => x + y)) ∧ Computes2 (.psubH2 c) (by2 (fun x y => x - y)) ∧ Computes2 (.pmulH2 c) (by2 (fun x y => x * y)) ∧
   Computes2 (.pminH2 c) (by2 (fun x y => if x.slt y then x else y)) ∧ Computes2 (.pmaxH2 c) (by2 (fun x y => if x.slt y then y else x)) ∧
   Computes2 (.pshlH2 c) (sh2 (fun x n => x <<< n)) ∧ Computes2 (.pshrH2 c) (sh2 (fun x n => x >>> n)) ∧
   Computes2 (.psarH2 c) (sh2 (fun x n => x.sshiftRight n)))

/-- ICMP and FCMP complete: each lane pushes the relation that cc names (R305). PPOP, PDUP, PSWP, PAND, POR, PXOR and PWR complete with R306's effect in each lane, and PRD writes the register's bits and depth. push and pop of R282 move the entries by one place: push puts its value into p1 and the old p1 to p7 into p2 to p8; pop moves p2 to p8 down and leaves 0 in p8; the depth goes up to 8 at most, and down; PSWP exchanges p1 and p2 and keeps the rest. -/
def Obligations.PredicateAndCompareWords : Prop :=
  (∀ (c : BitVec 1) (cc : BitVec 3) (a b : BitVec 7),
   Preds (.icmp c 0 cc a b) 0 [a.toNat, b.toNat] (fun s g l =>
     let x := (s.opnd g l a).toInt
     let y := (s.opnd g l b).toInt
     l.push (match cc.toNat with | 0 => decide (x = y) | 1 => decide (x ≠ y) | 2 => decide (x < y) | 3 => decide (x ≤ y) | 4 => decide (x > y) | _ => decide (x ≥ y))
       false) ∧
   Preds (.icmp c 1 cc a b) 0 [a.toNat, b.toNat] (fun s g l =>
     let x := (s.opnd g l a).toNat
     let y := (s.opnd g l b).toNat
     l.push (match cc.toNat with | 0 => decide (x = y) | 1 => decide (x ≠ y) | 2 => decide (x < y) | 3 => decide (x ≤ y) | 4 => decide (x > y) | _ => decide (x ≥ y))
       false) ∧
   ∀ s g rest, Issues s g rest 0 [a.toNat, b.toNat] [] →
     let r := fun l : RLane => fcmpRel cc.toNat (s.opnd g l a).toNat (s.opnd g l b).toNat
     exec (.fcmp c cc a b) s = .next (s.headGrp ({ g with lanes := g.lanes.map (fun l : RLane => l.push (r l).1 false), arith := g.logged 0 (fun l => (r l).2) }.adv) rest)) ∧
  (∀ (c : BitVec 1) (a : BitVec 7),
   Preds (.ppop c) 1 [] (fun _ _ l => l.pop) ∧ Preds (.pdup c) 1 [] (fun _ _ l => l.push (l.p 1) (l.pp 1)) ∧
   Preds (.pswp c) 2 [] (fun _ _ l => l.swap) ∧
   Preds (.pand c) 2 [] (fun _ _ l => l.pop.pop.push (l.p 1 && l.p 2) (l.pp 1 || l.pp 2)) ∧
   Preds (.por c) 2 [] (fun _ _ l => l.pop.pop.push (l.p 1 || l.p 2) (l.pp 1 || l.pp 2)) ∧
   Preds (.pxor c) 2 [] (fun _ _ l => l.pop.pop.push (l.p 1 ^^ l.p 2) (l.pp 1 || l.pp 2)) ∧
   Preds (.pwr c a) 0 [a.toNat] (fun s g l =>
     { l with preds := ((s.opnd g l a).extractLsb' 0 8).toNat, depth := min ((s.opnd g l a).extractLsb' 8 4).toNat 8, ppois := 0 }) ∧
   ∀ s g rest d, Issues s g rest 0 [] [d.toNat] → (∀ l ∈ g.lanes, l.ppois = 0) →
     exec (.prd c d) s = .next (s.headGrp (g.wrote s 0 d (fun l => BitVec.ofNat 32 (l.preds % 256 + 256 * l.depth))) rest)) ∧
  (∀ (l : RLane) (v b : Bool), l.preds < 256 →
   (l.push v b).p 1 = v ∧ (∀ k, 1 ≤ k → k ≤ 7 → (l.push v b).p (k + 1) = l.p k) ∧ (l.push v b).depth = min (l.depth + 1) 8 ∧
   (∀ k, 1 ≤ k → k ≤ 7 → l.pop.p k = l.p (k + 1)) ∧ l.pop.p 8 = false ∧ l.pop.depth = l.depth - 1 ∧
   l.swap.p 1 = l.p 2 ∧ l.swap.p 2 = l.p 1 ∧ (∀ k, 3 ≤ k → k ≤ 8 → l.swap.p k = l.p k) ∧ l.swap.depth = l.depth)

/-- FADD, FSUB, FMUL, FMA, FMIN, FMAX and FSCL complete, with the value and the causes that R294, R295 and R296 give; and what R294 says of special inputs: a NaN input gives QNAN, with INVALID only for a signalling one; infinities of opposite signs and zero times infinity give QNAN with INVALID; any other infinity comes through without a log, on either side, in sums, products and FMA; an exact zero sum has the sign of its addends where both are zeros of one sign, else + but in RDN, and a zero product the sign of its factors. FMIN and FMAX give the other input where one is a NaN, QNAN where both are, and else the lesser or greater, -0 below +0 (R295); FSCL keeps infinities and zeros, gives QNAN for a NaN and else rounds the exact value to nearest (R296). -/
def Obligations.FloatingWords : Prop :=
  (∀ (c : BitVec 1) (r : BitVec 2),
   let w := fun p : Nat × List Nat => (BitVec.ofNat 32 p.1, p.2)
   let v := fun x : Word => f32Val x.toNat
   Logs2 (.fadd c r) (fun x y => w (fopAdd fF32 r.toNat (v x) (v y))) ∧ Logs2 (.fsub c r) (fun x y => w (fopAdd fF32 r.toNat (v x) (v (y ^^^ 0x80000000)))) ∧
   Logs2 (.fmul c r) (fun x y => w (fopMul fF32 r.toNat (v x) (v y))) ∧ Logs3 (.fma c r) (fun x y z => w (fopFma fF32 r.toNat (v x) (v y) (v z))) ∧
   Logs2 (.fmin c) (fun x y => w (fminmax false x.toNat y.toNat)) ∧ Logs2 (.fmax c) (fun x y => w (fminmax true x.toNat y.toNat)) ∧
   Logs2 (.fscl c) (fun x y => w (fscale x.toNat y.toNat))) ∧
  (∀ (rm : Nat) (x y : Sys2Proof.Machine.Num),
   ((x.isNan = true ∨ y.isNan = true) → fopAdd fF32 rm x y = (0x7FC00000, if x.isSig || y.isSig then [1] else []) ∧
     fopMul fF32 rm x y = (0x7FC00000, if x.isSig || y.isSig then [1] else [])) ∧
   (∀ s, fopAdd fF32 rm (.inf s) (.inf (!s)) = (0x7FC00000, [1]) ∧ fopAdd fF32 rm (.inf s) (.inf s) = (if s then 0xFF800000 else 0x7F800000, [])) ∧
   (∀ s u m e, fopAdd fF32 rm (.inf s) (.fin u m e) = (if s then 0xFF800000 else 0x7F800000, []) ∧ fopMul fF32 rm (.inf s) (.fin u 0 e) = (0x7FC00000, [1]) ∧
     (m ≠ 0 → fopMul fF32 rm (.inf s) (.fin u m e) = (if s != u then 0xFF800000 else 0x7F800000, []))) ∧
   (∀ s u m e, fopAdd fF32 rm (.fin u m e) (.inf s) = (if s then 0xFF800000 else 0x7F800000, []) ∧ fopMul fF32 rm (.fin u 0 e) (.inf s) = (0x7FC00000, [1]) ∧
     (m ≠ 0 → fopMul fF32 rm (.fin u m e) (.inf s) = (if u != s then 0xFF800000 else 0x7F800000, [])) ∧ fopMul fF32 rm (.inf s) (.inf u) = (if s != u then 0xFF800000 else 0x7F800000, [])) ∧
   (∀ z : Sys2Proof.Machine.Num, ((x.isNan = true ∨ y.isNan = true ∨ z.isNan = true) → fopFma fF32 rm x y z = (0x7FC00000, if x.isSig || y.isSig || z.isSig then [1] else [])) ∧
     (z.isNan = false → ∀ s u e, fopFma fF32 rm (.inf s) (.fin u 0 e) z = (0x7FC00000, [1]) ∧ fopFma fF32 rm (.fin u 0 e) (.inf s) z = (0x7FC00000, [1]))) ∧
   (∀ s u v m e k n, m ≠ 0 → (∀ y : Sys2Proof.Machine.Num, y = .fin u m e ∨ y = .inf u →
     (fopFma fF32 rm (.inf s) y (.fin v n k) = (if s != u then 0xFF800000 else 0x7F800000, []) ∧ fopFma fF32 rm y (.inf s) (.fin v n k) = (if s != u then 0xFF800000 else 0x7F800000, [])) ∧
     (fopFma fF32 rm (.inf s) y (.inf (s != u)) = (if s != u then 0xFF800000 else 0x7F800000, []) ∧ fopFma fF32 rm y (.inf s) (.inf (s != u)) = (if s != u then 0xFF800000 else 0x7F800000, [])) ∧
     (fopFma fF32 rm (.inf s) y (.inf (s == u)) = (0x7FC00000, [1]) ∧ fopFma fF32 rm y (.inf s) (.inf (s == u)) = (0x7FC00000, [1])))) ∧
   (∀ s u v m e k n, fopFma fF32 rm (.fin s m e) (.fin u n k) (.inf v) = (if v then 0xFF800000 else 0x7F800000, [])) ∧
   (∀ s u m n e k i, m * n = 0 → (fopMul fF32 rm (.fin s m e) (.fin u n k) = (if s != u then 0x80000000 else 0, []) ∧
     fopFma fF32 rm (.fin s m e) (.fin u n k) (.fin (s != u) 0 i) = (if s != u then 0x80000000 else 0, []) ∧
     fopFma fF32 rm (.fin s m e) (.fin u n k) (.fin (s == u) 0 i) = (if rm = 3 then 0x80000000 else 0, []))) ∧
   (∀ s u m n e k, m ≠ 0 → n ≠ 0 → fopFma fF32 rm (.fin s m e) (.fin u n k) (.fin (s == u) (m * n) (e + k)) = (if rm = 3 then 0x80000000 else 0, [])) ∧
   (∀ s m e, m ≠ 0 → fopAdd fF32 rm (.fin s m e) (.fin (!s) m e) = (if rm = 3 then 0x80000000 else 0, [])) ∧
   (∀ s e k, fopAdd fF32 rm (.fin s 0 e) (.fin s 0 k) = (if s then 0x80000000 else 0, []) ∧
     fopAdd fF32 rm (.fin s 0 e) (.fin (!s) 0 k) = (if rm = 3 then 0x80000000 else 0, []))) ∧
  (∀ x y : Word,
   let v := f32Val x.toNat
   let w := f32Val y.toNat
   let log := if v.isSig || w.isSig then [1] else []
   let less := fun a b : Word => if a.msb then !b.msb || b.ult a else !b.msb && a.ult b
   (v.isNan = true → w.isNan = true → fminmax false x.toNat y.toNat = (0x7FC00000, log) ∧ fminmax true x.toNat y.toNat = (0x7FC00000, log)) ∧
   (v.isNan = true → w.isNan = false → fminmax false x.toNat y.toNat = (y.toNat, log) ∧ fminmax true x.toNat y.toNat = (y.toNat, log)) ∧
   (v.isNan = false → w.isNan = true → fminmax false x.toNat y.toNat = (x.toNat, log) ∧ fminmax true x.toNat y.toNat = (x.toNat, log)) ∧
   (v.isNan = false → w.isNan = false → fminmax false x.toNat y.toNat = ((if less y x then y else x).toNat, []) ∧ fminmax true x.toNat y.toNat = ((if less x y then y else x).toNat, [])) ∧
   (v.isNan = true → fscale x.toNat y.toNat = (0x7FC00000, if v.isSig then [1] else [])) ∧
   (∀ s, v = .inf s → fscale x.toNat y.toNat = (x.toNat, [])) ∧
   (∀ s m e, v = .fin s m e → fscale x.toNat y.toNat = if m = 0 then (x.toNat, []) else round32 (.fin s m (e + y.toInt)) 0))

/-- rnd of R229 at every binary point: RTZ is the floor, RUP and RDN the floor or the ceiling by the sign, RNE and RNA a nearest integer, a tie going to the even one or away from zero. A binary32 code that is no NaN comes back from its value unchanged, in every rounding mode, with nothing logged (R225). -/
def Obligations.Rounding : Prop :=
  (∀ (m k : Nat) (s : Bool),
   rndShift m k 1 s = m / 2 ^ k ∧
   rndShift m k 2 false = (m + 2 ^ k - 1) / 2 ^ k ∧ rndShift m k 2 true = m / 2 ^ k ∧
   rndShift m k 3 false = m / 2 ^ k ∧ rndShift m k 3 true = (m + 2 ^ k - 1) / 2 ^ k ∧
   (let n := rndShift m k 0 s
    2 * m ≤ 2 * n * 2 ^ k + 2 ^ k ∧ 2 * n * 2 ^ k ≤ 2 * m + 2 ^ k ∧ ((2 * m = 2 * n * 2 ^ k + 2 ^ k ∨ 2 * n * 2 ^ k = 2 * m + 2 ^ k) → n % 2 = 0)) ∧
   (let n := rndShift m k 4 s
    2 * m < 2 * n * 2 ^ k + 2 ^ k ∧ 2 * n * 2 ^ k ≤ 2 * m + 2 ^ k)) ∧
  (∀ (x : Word) (rm : Nat), (f32Val x.toNat).isNan = false → round32 (f32Val x.toNat) rm = (x.toNat, []))

/-- The special functions complete on their token with the value and causes of R297, and FCLS with one class bit (R298); the special inputs of R297's table: NaN, the zeros, the infinities, and negative numbers where the function has no value. -/
def Obligations.SpecialFunctions : Prop :=
  (∀ c : BitVec 1,
   let f := fun (n : Nat) (x : Word) => (BitVec.ofNat 32 (special n x.toNat).1, (special n x.toNat).2)
   Functions (.frcp c) (f 0) ∧ Functions (.frsq c) (f 1) ∧ Functions (.fsqrt c) (f 2) ∧ Functions (.fex2 c) (f 3) ∧ Functions (.flg2 c) (f 4) ∧
   Functions (.fsin c) (f 5) ∧ Functions (.fcos c) (f 6) ∧ Functions (.fcls c) (fun x => (1 <<< fclass x.toNat, []))) ∧
  (∀ x : Word,
   let v := f32Val x.toNat
   (v.isNan = true → ∀ n, special n x.toNat = (0x7FC00000, if v.isSig then [1] else [])) ∧
   (x.setWidth 31 = 0 → let s := x.msb
     special 0 x.toNat = (if s then 0xFF800000 else 0x7F800000, [2]) ∧ special 1 x.toNat = (if s then 0xFF800000 else 0x7F800000, [2]) ∧
     special 2 x.toNat = (x.toNat, []) ∧ special 3 x.toNat = (0x3F800000, []) ∧ special 4 x.toNat = (0xFF800000, [2]) ∧ special 5 x.toNat = (x.toNat, []) ∧
     special 6 x.toNat = (0x3F800000, [])) ∧
   (x = 0x7F800000 → special 0 x.toNat = (0, []) ∧ special 1 x.toNat = (0, []) ∧ special 2 x.toNat = (0x7F800000, []) ∧ special 3 x.toNat = (0x7F800000, []) ∧
     special 4 x.toNat = (0x7F800000, []) ∧ special 5 x.toNat = (0x7FC00000, [1]) ∧ special 6 x.toNat = (0x7FC00000, [1])) ∧
   (x = 0xFF800000 → special 0 x.toNat = (0x80000000, []) ∧ special 3 x.toNat = (0, []) ∧ special 5 x.toNat = (0x7FC00000, [1]) ∧ special 6 x.toNat = (0x7FC00000, [1])) ∧
   (x.msb = true → x.setWidth 31 ≠ 0 → v.isNan = false →
     special 1 x.toNat = (0x7FC00000, [1]) ∧ special 2 x.toNat = (0x7FC00000, [1]) ∧ special 4 x.toNat = (0x7FC00000, [1])))

/-- CVT and CVTI complete with R299's value and causes in every rounding mode, PACK puts an element at its place in D and keeps the rest (R301), UNPK reads it (R302): each answers a next state from every state where its operands can be read, every other lane, register, flag and byte as it was. -/
def Obligations.ConversionWords : Prop := ∀ (c : BitVec 1) s g rest gd (d a : BitVec 7),
  let w := fun p : Nat × List Nat => (BitVec.ofNat 32 p.1, p.2)
  let done := fun (f : RLane → Word × List Nat) => s.headGrp ((g.wrote s gd d (fun l => (f l).1)).logs (g.logged gd (fun l => (f l).2))) rest
  (Issues s g rest gd [a.toNat] [d.toNat] → ∀ r : BitVec 3,
    exec (.cvtS32F32 c gd d a r) s = .next (done (fun l => w (convertInt (f32Val (s.opnd g l a).toNat) 32 true r.toNat))) ∧
    exec (.cvtN32F32 c gd d a r) s = .next (done (fun l => w (convertInt (f32Val (s.opnd g l a).toNat) 32 false r.toNat))) ∧
    exec (.cvtF32S32 c gd d a r) s = .next (done (fun l => w (round32 (numOfInt (s.opnd g l a).toInt) r.toNat))) ∧
    exec (.cvtF32N32 c gd d a r) s = .next (done (fun l => w (round32 (numOfInt (s.opnd g l a).toNat) r.toNat))) ∧
    exec (.cvti c gd d a r) s = .next (done (fun l => w (fround (s.opnd g l a).toNat r.toNat)))) ∧
  (∀ (i : BitVec 7) (p : BitVec 24), g.kext = [p.toNat] →
    let q := packImm (p ++ i).toNat
    (Issues s g rest gd [a.toNat, d.toNat] [d.toNat] → exec (.pack c gd d a i) s = .next (done (fun l => w (packElem q (s.opnd g l a).toNat (s.opnd g l d).toNat)))) ∧
    (Issues s g rest gd [a.toNat] [d.toNat] →
      exec (.unpk c gd d a i) s = .next (s.headGrp (g.wrote s gd d (fun l => BitVec.ofNat 32 (unpack q (s.opnd g l a).toNat))) rest)))

/-- VOTE, REDX, SCAN, MATCH, MATCH.F and SHFL complete over set(l), the lanes of a lane's own gang slot (R308 to R312). -/
def Obligations.CrossLaneWords : Prop := ∀ (c : BitVec 1) (f : BitVec 4),
  (f.toNat ≤ 3 → Crosses (fun g d a k => .vote c g d a f k) (fun v ls _ =>
    match f.toNat with
    | 0 => if ls.all (fun m => v m != 0) then 1 else 0
    | 1 => if ls.any (fun m => v m != 0) then 1 else 0
    | 2 => BitVec.ofNat 32 (maskOf ((ls.filter (fun m => v m != 0)).map (fun m => m.lane)))
    | _ => if ls.all (fun m => ls.all (fun n => v m == v n)) then 1 else 0)) ∧
  Folds (fun g d a k => .redx c g d a f k) f.toNat (fun ls _ => ls) ∧
  Folds (fun g d a k => .scan c g d a f k) f.toNat (fun ls l => ls.filter (fun m => decide (m.lane ≤ l.lane))) ∧
  (∀ s g rest gd d a (t : BitVec 4) k, Tokens s g rest gd [a.toNat, 112 + t.toNat] [d.toNat] k →
    exec (.shfl c gd d a t k) s = .next (s.named g.adv rest (g.token k.toNat d.toNat 1 ((g.active gd).map (fun l =>
      doneLane l [match (g.setAt gd l).find? (fun m => m.lane == ((s.readD g l (112 + t.toNat)).val).toNat) with
        | some m => s.readD g m a.toNat
        | none => s.readD g l a.toNat]))))) ∧
  (∀ s g rest gd d a k, Tokens s g rest gd [a.toNat] [d.toNat] k →
    let same := fun (key : Nat → Nat) (l : RLane) => maskOf (((g.setAt gd l).filter (fun m => key (s.opnd g m a).toNat == key (s.opnd g l a).toNat)).map (fun m => m.lane))
    exec (.matchW c gd d a k) s = .next (s.named g.adv rest (g.token k.toNat d.toNat 1 (g.lanes.map (fun l =>
      doneLane l [if l.gate gd = .on then clean (BitVec.ofNat 32 (same (fun x => x) l)) else pzero])))) ∧
    exec (.matchF c gd d a k) s = .next (s.named g.adv rest (g.token k.toNat d.toNat 1 (g.lanes.map (fun l =>
      doneLane l [if l.gate gd = .on then clean (BitVec.ofNat 32 (same matchKey l)) else pzero])))))

/-- BRA, CALL, BRX and RET complete: the target of each lane that the guard lets through (R273, R341, R342), and the call stack; CALL and RET where the stack has room or an entry. A CALL at depth 16 and a RET at depth 0 trap with CALLSTK, code 0x17 of R213, in the lanes concerned (R341, R342): the run does not go on. -/
def Obligations.BranchAndCallWords : Prop :=
  (∀ (c : BitVec 1) s g rest gd,
   let go := fun (f : RLane → RLane) => s.headGrp ({ g with lanes := g.lanes.map (fun (l : RLane) => if l.gate gd = Gate.on then f l else l) }.adv) rest
   (Issues s g rest gd [] [] →
     (∀ i : BitVec 21, exec (.bra c gd i) s = .next (go (fun l => { l with next := some (BitVec.ofNat 32 g.packet + i.signExtend 32).toNat }))) ∧
     (∀ i : BitVec 21, (∀ l ∈ g.active gd, l.calls.length < 16) →
       exec (.call c gd i) s = .next (go (fun l => { l with next := some (BitVec.ofNat 32 g.packet + i.signExtend 32).toNat, calls := g.nextPc :: l.calls }))) ∧
     ((∀ l ∈ g.active gd, l.calls ≠ []) → exec (.ret c gd) s = .next (go (fun l => { l with next := l.calls.head?, calls := l.calls.tail })))) ∧
   (∀ a, Issues s g rest gd [a.toNat] [] → exec (.brx c gd a) s = .next (go (fun l => { l with next := some (s.opnd g l a).toNat })))) ∧
  (∀ (c : BitVec 1) s g rest gd (i : BitVec 21), Issues s g rest gd [] [] →
   ((∃ l ∈ g.active gd, 16 ≤ l.calls.length) →
     exec (.call c gd i) s = .next (s.coreTrap g 0x17 ((g.active gd).filter (fun l => decide (16 ≤ l.calls.length))))) ∧
   ((∃ l ∈ g.active gd, l.calls = []) → exec (.ret c gd) s = .next (s.coreTrap g 0x17 ((g.active gd).filter (fun l => l.calls.isEmpty)))))

/-- EXIT, JOIN, BAR, FENCE, PHASE, POST, TFREE and RELX complete at issue: what they do is recorded for the trailer, for each lane or gang slot that acts, and nothing else happens before it (R209, R334, R337, R338, R340, R344, R345, R353). NOP, KEXT and QUAL complete: the word is over; a prefix leaves its payload for the next word and changes nothing else (R267, R268, R271). -/
def Obligations.TrailerAndPrefixWords : Prop :=
  (∀ (c : BitVec 1) s g rest gd,
   let done := fun (fx : List Fx) => s.headGrp ((g.addFx fx).adv) rest
   let each := fun (f : RLane → Fx) => (g.active gd).map f
   (Issues s g rest gd [] [] →
     exec (.exit c gd) s = .next (done (each (fun l => .exit l.lane))) ∧
     (∀ q, exec (.fenceAcq c gd q) s = .next (done (each (fun l => .fence l.lane q.toNat 7)))) ∧
     (∀ r, exec (.fenceRel c gd r) s = .next (done (each (fun l => .fence l.lane 7 r.toNat)))) ∧
     (∀ q r, exec (.fenceAr c gd q r) s = .next (done (each (fun l => .fence l.lane q.toNat r.toNat)))) ∧
     (∀ q r, exec (.phase c gd q r) s = .next (done (each (fun l => .phase l.lane q.toNat)))) ∧
     (∀ n, exec (.tfree c gd n) s = .next (done ((slotsOf (g.active gd)).map (fun x => .tfree x n.toNat))))) ∧
   (Issues s g rest 0 [] [] → g.kext = [] → ∀ k, exec (.bar c k) s = .next (done (g.lanes.map (fun l => .bar l.lane k.toNat)))) ∧
   (s.core.issue = g :: rest → (∀ x ∈ rest, x.id ≠ g.id) → exec (.relx c) s = .next (done ((slotsOf g.lanes).map .relx))) ∧
   (∀ a, Issues s g rest gd [a.toNat] [] →
     exec (.join c gd a) s = .next (done (each (fun l => .join l.lane (s.opnd g l a)))) ∧
     exec (.post c gd a) s = .next (done (each (fun l => .post l.lane (s.opnd g l a)))))) ∧
  (∀ (c : BitVec 1) s g rest, s.core.issue = g :: rest → (∀ x ∈ rest, x.id ≠ g.id) →
   exec (.nop c) s = .next (s.headGrp g.adv rest) ∧
   (∀ p, exec (.kext p) s = .next (s.headGrp { g with idx := g.idx + 1, kext := g.kext ++ [p.toNat] } rest)) ∧
   (∀ w p m q : BitVec 3, exec (.qual w p m q) s = .next (s.headGrp { g with idx := g.idx + 1, qual := some ((w ++ p ++ m ++ q).setWidth 32) } rest)))

/-- SRD completes with the special register's value as R314 lists it: the identifier and its fields, the place of the thread, the lanes that act with it, the item of an estimating launch, the counts of CLK and REFCLK, whose high halves go with the low half that the run has read last (R315), the temperature, and the gang's region descriptors. SWR, SCWR and THWR complete at issue where the checks of R316 and R353 pass and the lanes agree on the values: the write is recorded for the trailer, once for each gang that acts (R313, R352, R355, R357). -/
def Obligations.SpecialRegisterWords : Prop :=
  (∀ (c : BitVec 1) s g rest gd d (n : BitVec 14), Issues s g rest gd [] [d.toNat] →
   (∃ t, exec (.srd c gd d n) s = .next t ∧ t.mem = s.mem ∧ t.core.gangs = s.core.gangs ∧
     ∃ g', t.core.issue = g' :: rest ∧ g'.idx = g.idx + 1 ∧ g'.lanes.map (fun l => (l.lat, l.wr, l.tmp, l.o)) =
       (g.wrote s gd d (fun l => BitVec.ofNat 32 (s.sprRead g gd l n.toNat))).lanes.map (fun l => (l.lat, l.wr, l.tmp, l.o)) ∧
       (∀ l ∈ g'.lanes, l.gate gd = .on → (n.toNat = 0x18 → l.clk = some (BitVec.ofNat 64 ((s.pkg.clk.drop (g.core / 32)).headD 0 / 1700))) ∧
         (n.toNat = 0x1A → l.ref = some (BitVec.ofNat 64 (s.ctl.time / perTick))))) ∧
   (∀ l x L, s.gang g.core l.slot = some x → s.launch g.ctx = some L →
     s.sprRead g gd l 0 = x.wid l.lane % 2 ^ 32 ∧ s.sprRead g gd l 1 = x.wid l.lane / 2 ^ 32 ∧ s.sprRead g gd l 0x10 = l.lane ∧ s.sprRead g gd l 0x11 = l.slot ∧
     s.sprRead g gd l 0x12 = g.core ∧ s.sprRead g gd l 0x13 = g.ctx ∧ s.sprRead g gd l 0x14 = x.gang ∧
     s.sprRead g gd l 0x15 = maskOf ((g.setAt gd l).map (fun m => m.lane)) ∧
     (∀ k, k < 6 → s.sprRead g gd l (8 + k) = (x.wid l.lane / 2 ^ L.lrec.shift k % 2 ^ (L.lrec.w.drop k).headD 0) % 2 ^ 32) ∧
     (let clk := (s.pkg.clk.drop (g.core / 32)).headD 0 / 1700
      let ref := s.ctl.time / perTick
      s.sprRead g gd l 0x18 = clk % 2 ^ 32 ∧ s.sprRead g gd l 0x19 = (match l.clk with | some k => k.toNat | none => clk) / 2 ^ 32 ∧
      s.sprRead g gd l 0x1A = ref % 2 ^ 32 ∧ s.sprRead g gd l 0x1B = (match l.ref with | some k => k.toNat | none => ref) / 2 ^ 32) ∧
     (let item := if L.lrec.kind = 3 then L.lrec.item (x.wid l.lane) else x.wid l.lane
      s.sprRead g gd l 0x28 = item % 2 ^ 32 ∧ s.sprRead g gd l 0x29 = item / 2 ^ 32) ∧
     s.sprRead g gd l 0x20 = ((s.pkg.tcol.drop (g.core / 4)).headD 0).toNat ∧
     (∀ k, k < 16 → let r := (x.regions.drop k).headD { rgva := 0, rgcf := 0 }
       s.sprRead g gd l (0x100 + k) = r.rgva.toNat % 2 ^ 32 ∧ s.sprRead g gd l (0x110 + k) = r.rgva.toNat / 2 ^ 32 ∧ s.sprRead g gd l (0x120 + k) = r.rgcf.toNat))) ∧
  (∀ (c : BitVec 1) s g rest gd a (v : Word),
   let done := fun (f : Nat → Fx) => s.headGrp ((g.addFx ((slotsOf (g.active gd)).map f)).adv) rest
   (Issues s g rest gd [a.toNat] [] → (∀ l ∈ g.active gd, s.opnd g l a = v) → g.active gd ≠ [] →
     (∀ n : BitVec 14, (∀ l ∈ g.active gd, ∃ x, s.gang g.core l.slot = some x ∧ x.swrBad n.toNat v.toNat = false) →
       exec (.swr c gd n a) s = .next (done (fun x => .swr x n.toNat v))) ∧
     (∀ n : BitVec 3, exec (.scwr c gd a n) s = .next (done (fun x => .scwr x n.toNat v)))) ∧
   (∀ b (w : Word) (n : BitVec 4), Issues s g rest gd [a.toNat, b.toNat] [] → g.active gd ≠ [] → (∀ l ∈ g.active gd, s.opnd g l a = v ∧ s.opnd g l b = w) →
     s.tregMissing g (g.active gd) n.toNat = [] →
     exec (.thwr c gd a b n) s = .next (done (fun x => .thwr x n.toNat (w.toNat % 8) v))))

/-- SCRD, THRD and TRD complete: the gang's scale register, a word of the tile's header, an element of the tile on a token (R355 to R357). TWR and EACC complete at issue: the element of each lane, under an index the lanes agree on, and each lane's contribution as binary64, are recorded for the trailer (R187, R356, R380). -/
def Obligations.TileWords : Prop :=
  (∀ (c : BitVec 1) s g rest gd d,
   (Issues s g rest gd [] [d.toNat] → ∀ n : BitVec 3, exec (.scrd c gd d n) s = .next (s.headGrp (g.wrote s gd d (fun l =>
     match s.gang g.core l.slot with
     | some x => (x.sc.drop n.toNat).headD 0
     | none => 0)) rest)) ∧
   (∀ a (v : Word) (n : BitVec 4), Issues s g rest gd [a.toNat] [d.toNat] → (∀ l ∈ g.active gd, s.opnd g l a = v) → s.tregMissing g (g.active gd) n.toNat = [] →
     exec (.thrd c gd d a n) s = .next (s.headGrp (g.wrote s gd d (fun l =>
       match (s.gang g.core l.slot).bind (fun x => s.treg x n.toNat) with
       | some t => BitVec.ofNat 32 (fieldOf t.header (4 * (v.toNat % 8)) 4)
       | none => 0)) rest)) ∧
   (∀ a (v : Word) (n : BitVec 4) k, Tokens s g rest gd [a.toNat] [d.toNat] k → (∀ l ∈ g.active gd, s.opnd g l a = v) →
     s.tregMissing g (g.active gd) n.toNat = [] → s.tilesBusy g (g.active gd) n.toNat = false →
     exec (.trd c gd d a n k) s = .next (s.named g.adv rest (g.token k.toNat d.toNat 1 ((g.active gd).map (fun l =>
       doneLane l [match (s.gang g.core l.slot).bind (fun x => s.treg x n.toNat) with
         | some t => if t.pois.contains (tileWord v.toNat l.lane) then memPoison else clean (nget 0 t.words (tileWord v.toNat l.lane))
         | none => pzero])))))) ∧
  (∀ (c : BitVec 1) s g rest gd (a : BitVec 7),
   (∀ (d : BitVec 7) (n : BitVec 4) (v : Word), Issues s g rest gd [d.toNat, a.toNat] [] → g.active gd ≠ [] → (∀ l ∈ g.active gd, s.opnd g l a = v) →
     s.tregMissing g (g.active gd) n.toNat = [] → s.tilesBusy g (g.active gd) n.toNat = false →
     exec (.twr c gd d a n) s = .next (s.headGrp ((g.addFx ((g.active gd).map (fun l => Fx.twr l.lane n.toNat v.toNat (s.readD g l d.toNat)))).adv) rest)) ∧
   (∀ t : BitVec 4, t.toNat ≤ 5 → Issues s g rest gd (if t.toNat < 3 then [a.toNat] else [a.toNat, a.toNat + 1]) [] →
     (∀ l ∈ g.active gd, (s.thread g.core l.slot l.lane).item = 0) →
     let v := fun l => eaccValue t.toNat (if t.toNat < 3 then (s.opnd g l a).toNat else ((s.readD g l (a.toNat + 1)).val ++ (s.readD g l a.toNat).val).toNat)
     exec (.eacc c gd a t) s = .next (s.headGrp (((g.addFx ((g.active gd).map (fun l => Fx.eacc l.lane (BitVec.ofNat 64 (v l).1)))).logs (g.logged gd (fun l => (v l).2))).adv) rest)))

/-- TALLOC and ACQX complete in a group of one gang slot: TALLOC maps a free name below TILES to a zeroed register and pushes 1 (R353); ACQX takes an extended block, with X0 to
X31 zero, where one of the core's 16 is free, and pushes whether the gang holds one (R205, R345). -/
def Obligations.AllocationWords : Prop := ∀ (c : BitVec 1) s g rest slot x L, s.core.issue = g :: rest → (∀ y ∈ rest, y.id ≠ g.id) → slotsOf g.lanes = [slot] →
  (∀ l ∈ g.lanes, l.slot = slot) → s.gang g.core slot = some x → x.core = g.core → x.slot = slot → s.launch g.ctx = some L →
  (∀ n : BitVec 4, n.toNat < L.lrec.tiles → x.tiles.contains n.toNat = false →
    ∃ t, exec (.talloc c n) s = .next t ∧ t.mem = s.mem ∧
      t.core.issue = ({ g with lanes := g.lanes.map (fun (l : RLane) => l.push true false), allocs := g.allocs ++ [(slot, n.toNat)] }.adv) :: rest ∧
      t.eng.tregs = s.eng.tregs ++ [{ ctx := x.ctx, gang := x.gang, name := n.toNat, words := [], header := regHeader 0x52 0 0, pois := [] }] ∧
      t.gang g.core slot = some { x with tiles := addSorted x.tiles n.toNat }) ∧
  (L.lrec.xregs ≠ 0 → x.xacq = false → s.blocksUsed g.core < 16 →
    ∃ t, exec (.acqx c) s = .next t ∧ t.core.issue = ({ g with lanes := g.lanes.map (fun (l : RLane) => l.push true false) }.adv) :: rest ∧ t.mem = s.mem ∧
      t.gang g.core slot = some { x with xacq := true, v := x.v.filter (fun e => decide (e.1 / 32 < 64)) }) ∧
  (L.lrec.xregs ≠ 0 → x.xacq = false → 16 ≤ s.blocksUsed g.core →
    exec (.acqx c) s = .next (s.headGrp ({ g with lanes := g.lanes.map (fun (l : RLane) => l.push false false) }.adv) rest))

/-- The address of a memory word without prefixes (R317): the base pair, low half first, plus OFF4 in units of the access size, modulo 2^64. LD completes in a lane whose page is known and cached: a token takes the registers, decoded by the page's format for one and two bytes (R322, R323, R206); a line on its way leaves the token pending. Every register stands, and memory too, but where a world's copy destination has to be brought into being for the reader (R85). -/
def Obligations.LoadWords : Prop :=
  (∀ (s : State) (g : Grp) (lo hi : Word) (o : BitVec 4) (size : Nat), size < 2 ^ 8 → g.kext = [] → g.qual = none →
   s.va g [clean lo, clean hi] (g.off4 o.toNat size) = ((hi ++ lo : BitVec 64) + o.signExtend 64 * BitVec.ofNat 64 size).toNat) ∧
  (∀ (c : BitVec 1) s g rest gd d b o k, ∀ size ∈ [1, 2, 4, 8, 16], ∀ l pa attr,
   Tokens s g rest gd (baseSrcs b.toNat) (regCodes d.toNat (regCount size)) k → g.stage = 0 → g.qual = none → g.active gd = [l] →
   let va := s.va g ((baseSrcs b.toNat).map (s.readD g l)) (g.off4 o.toNat size)
   va % size = 0 → s.xlate (stackOf g.core) (s.tenantOfCtx g.ctx) g.ctx va 0 = .ok pa attr → attr.uncached = false →
   bit (nget 0 s.ten.hsctl (s.tenantOfCtx g.ctx)) 0 = false → s.barred (s.tenantOfCtx g.ctx) pa size false = false →
   let loads := fun (sx : Bool) (i : Instr) =>
     let r := s.plainRead g.core l.slot l.lane pa size sx attr.fattr false 0
     r.2 ≠ .wait → ∃ t, exec i s = .next t ∧ t.core.issue = g.adv :: rest ∧ t.mem = r.1.mem ∧ ((s.aliasesOn (pa / 128)).all (fun e => e.wtag == 0x7F) = true → t.mem = s.mem) ∧
       t.core.gangs = r.1.core.gangs ∧
       t.core.toks = s.core.toks ++ [{ g.token k.toNat d.toNat (regCount size)
         [{ slot := l.slot, lane := l.lane, va := va, pa := pa, own := s.ownBytes g.core l.slot l.lane (pa / 128), fmt := attr.fattr,
            lost := s.ownLost g.core l.slot l.lane (pa / 128), vals := match r.2 with | .vals v => some v | _ => none, drop := false, walk := none }] with id := r.1.ctl.nextId, size := size, sx := sx }]
   (size = 1 → loads false (.ld8 c gd d b o k) ∧ loads true (.ld8s c gd d b o k)) ∧ (size = 2 → loads false (.ld16 c gd d b o k) ∧ loads true (.ld16s c gd d b o k)) ∧
   (size = 4 → loads false (.ld32 c gd d b o k)) ∧ (size = 8 → loads false (.ld64 c gd d b o k)) ∧ (size = 16 → loads false (.ld128 c gd d b o k)))

/-- ST completes for lanes whose pages are known: address and data are taken at issue, the store is recorded for the trailer, plain on a cached page, strong with a QUAL or at
the home of an uncached page (R128, R158, R209, R326). Only the sampling count of R110 changes besides. -/
def Obligations.StoreWords : Prop := ∀ (c : BitVec 1) s g rest gd ds b o, ∀ size ∈ [1, 2, 4, 8, 16], ∀ tr : RLane → Nat × PAttr,
  Issues s g rest gd (regCodes ds.toNat (regCount size) ++ baseSrcs b.toNat) [] →
  let va := fun l => s.va g ((baseSrcs b.toNat).map (s.readD g l)) (g.off4 o.toNat size)
  (∀ l ∈ g.active gd, va l % size = 0 ∧ s.xlate (stackOf g.core) (s.tenantOfCtx g.ctx) g.ctx (va l) 1 = .ok (tr l).1 (tr l).2) →
  bit (nget 0 s.ten.hsctl (s.tenantOfCtx g.ctx)) 0 = false →
  let bytes := fun l => storeBytes size ((regCodes ds.toNat (regCount size)).map (s.readD g l))
  let fx := (g.active gd).map (fun l =>
    if g.sem ≠ 0 then Fx.strong l.lane (tr l).1 (va l) (bytes l) (if g.sem = 3 then some g.scope else none) (if (tr l).2.uncached then max 5 g.scope else g.scope) g.cp
    else if (tr l).2.uncached then Fx.strong l.lane (tr l).1 (va l) (bytes l) none 5 g.cp
    else Fx.store l.lane (tr l).1 (va l) (bytes l) g.cp)
  let stores := fun (i : Instr) => ∃ h, exec i s = .next { s.headGrp ((g.addFx fx).adv) rest with coh.hot := h }
  (size = 1 → stores (.st8 c gd ds b o)) ∧ (size = 2 → stores (.st16 c gd ds b o)) ∧ (size = 4 → stores (.st32 c gd ds b o)) ∧
  (size = 8 → stores (.st64 c gd ds b o)) ∧ (size = 16 → stores (.st128 c gd ds b o))

/-- ATOM, CAS and RED without a release complete in a lane whose page is known: the read-modify-write leaves for its slice with the operands of R329 to R331; RED is over, ATOM
and CAS hold their group at the word until the value has come, and are over then (that they hold the group is the model's choice, log 40). -/
def Obligations.AtomicWords : Prop := ∀ (c : BitVec 1) s g rest gd (d b : BitVec 7) (o : BitVec 4) (ty : BitVec 3), ∀ l pa attr,
  let n := if tyWide ty.toNat then 2 else 1
  let val := fun k => leNat (storeBytes (4 * n) ((regCodes (d.toNat + n * k) n).map (s.readD g l)))
  let va := s.va g ((baseSrcs b.toNat).map (s.readD g l)) 0
  let op := fun (aop nx : Nat) (dst : Option Nat) => ({ aop := aop, ty := ty.toNat, off := pa % 128, x := val 0, y := if nx = 2 then val 1 else 0, scope := g.atomScope attr.uncached, dst := dst, grp := g.id } : AtomOp)
  let leaves := fun (i : Instr) (nx : Nat) (dsts : List Nat) (a : AtomOp) (st : Nat) =>
    Issues s g rest gd (regCodes d.toNat (n * nx) ++ baseSrcs b.toNat) dsts → g.active gd = [l] → g.stage = 0 → g.sem = 0 ∨ g.sem = 1 → va % (4 * n) = 0 →
    s.xlate (stackOf g.core) (s.tenantOfCtx g.ctx) g.ctx va 2 = .ok pa attr → bit (nget 0 s.ten.hsctl (s.tenantOfCtx g.ctx)) 0 = false →
    ∃ t g' x, exec i s = .next t ∧ t.core.issue = g' :: rest ∧ g'.stage = st ∧ g'.idx = (if st = 0 then g.idx + 1 else g.idx) ∧ t.mem = s.mem ∧ t.core.gangs = s.core.gangs ∧
      t.coh.txs = s.coh.txs ++ [x] ∧ x.id = s.ctl.nextId ∧ x.line = pa / 128 ∧ x.atom = some a ∧ t.ctl.agenda = s.ctl.agenda ++ [.dirStore s.ctl.nextId]
  leaves (.red c gd d b o ty) 1 [] (op o.toNat 1 none) 0 ∧ leaves (.atom c gd d b o ty) 1 (regCodes d.toNat n) (op o.toNat 1 (some d.toNat)) 3 ∧
  leaves (.cas c gd d b ty) 2 (regCodes d.toNat n) (op 8 2 (some d.toNat)) 3 ∧
  (s.core.issue = g :: rest → (∀ x ∈ rest, x.id ≠ g.id) → g.stage = 3 → g.stallTx = [] → g.sem ≠ 2 → g.sem ≠ 4 →
    exec (.atom c gd d b o ty) s = .next (s.headGrp g.adv rest) ∧ exec (.cas c gd d b ty) s = .next (s.headGrp g.adv rest))

/-- LDS and STS complete at the scratchpad offset A plus OFF1 in units of the size, swizzled (R219, R327): LDS with the bytes there, low byte first, on its token; STS recorded for the trailer. WAIT and ARM complete at issue where their block or arrival word lies in the scratchpad (R335, R336): recorded for the trailer; WAIT shifts the window, with a value the spec leaves open until the commit (log 16). -/
def Obligations.ScratchpadAndWaitWords : Prop :=
  (∀ (c : BitVec 1) s g rest gd (d b : BitVec 7) (w : BitVec 3) (f : BitVec 1), ∀ size ∈ [1, 2, 4, 8, 16], g.kext = [] →
   let off := fun l => swizzle w.toNat ((s.opnd g l b).toNat + f.toNat * size)
   SpadReady s g gd size size off →
   let loads := fun (mk : BitVec 3 → Instr) => ∀ k, Tokens s g rest gd [b.toNat] (regCodes d.toNat (regCount size)) k →
     exec (mk k) s = .next (s.named g.adv rest { g.token k.toNat d.toNat (regCount size) ((g.active gd).map (fun l => doneLane l (match s.gang g.core l.slot with
       | some x => loadRegs size false 0 (x.spadBytes (off l) size) (fun i => x.spadPois (off l + i) 1)
       | none => []))) with size := size })
   let stores := fun (i : Instr) => Issues s g rest gd (b.toNat :: regCodes d.toNat (regCount size)) [] →
     exec i s = .next (s.headGrp ((g.addFx ((g.active gd).map (fun l =>
       Fx.sts l.lane (off l) (storeBytes size ((regCodes d.toNat (regCount size)).map (s.readD g l)))))).adv) rest)
   (size = 1 → loads (fun k => .lds8 c gd d b w f k) ∧ stores (.sts8 c gd d b w f)) ∧ (size = 2 → loads (fun k => .lds16 c gd d b w f k) ∧ stores (.sts16 c gd d b w f)) ∧
   (size = 4 → loads (fun k => .lds32 c gd d b w f k) ∧ stores (.sts32 c gd d b w f)) ∧ (size = 8 → loads (fun k => .lds64 c gd d b w f k) ∧ stores (.sts64 c gd d b w f)) ∧
   (size = 16 → loads (fun k => .lds128 c gd d b w f k) ∧ stores (.sts128 c gd d b w f))) ∧
  (∀ (c : BitVec 1) s g rest gd (d a b : BitVec 7),
   let off := fun l => (s.opnd g l a).toNat
   (Issues s g rest gd [a.toNat, b.toNat] [d.toNat] → SpadReady s g gd 32 32 off →
     let waits := fun (i : Instr) (all : Bool) => exec i s = .next (s.headGrp (((g.shiftedTo d.toNat (g.lanes.map (fun l =>
       if l.gate gd = .on then l.shift (clean (Config.freeWord s.ctl.freeCtr)) else s.offLane g l d.toNat))).addFx ((g.active gd).map (fun l =>
         Fx.wait l.lane d.toNat (off l) (s.opnd g l b).toNat all))).adv) rest)
     waits (.waitAny c gd d a b) false ∧ waits (.waitAll c gd d a b) true) ∧
   (Issues s g rest gd [a.toNat, b.toNat] [] → SpadReady s g gd 8 8 off →
     exec (.arm c gd a b) s = .next (s.headGrp ((g.addFx ((g.active gd).map (fun l => Fx.arm l.lane (off l) ((s.opnd g l b).toNat % 2 ^ 24)))).adv) rest)))

/-- BRK takes its exception: in a launch that no board holds, with an entry free, the lanes let through wait on a new fault entry of cause BREAK, code 0x0C of R134, and the run is
abandoned; after a RETRY it is a NOP (R347). -/
def Obligations.BreakpointWord : Prop := ∀ (c : BitVec 1) s g rest gd, Issues s g rest gd [] [] →
  ((∀ l ∈ g.active gd, (s.thread g.core l.slot l.lane).brkPass = true) → exec (.brk c gd) s = .next (s.headGrp g.adv rest)) ∧
  (∀ l fid x, g.lanes = [l] → l.done = false → l.gate gd = .on → s.gang g.core l.slot = some x → l.lane < x.threads.length → (x.thread l.lane).brkPass = false →
    s.held g.ctx = false → s.freeFid g.ctx = some fid →
    ∃ t, exec (.brk c gd) s = .next t ∧ (∃ e ∈ t.xl.faults, e.ctx = g.ctx ∧ e.fid = fid ∧ e.cause = 0x0C ∧ e.acc = 3) ∧
      (t.thread g.core l.slot l.lane).status = .faultwait ∧ (t.thread g.core l.slot l.lane).fid = fid ∧ (∀ g' ∈ t.core.issue, g'.id ≠ g.id))

/-- SVC and EMIT complete lane by lane (R69, R339, R346, R382 to R384): an SVC puts the lane's 64 bytes, as the scratchpad stood at the start of the run (R318), with phase, lane, gang and context in bytes 10 to 15, once the ring's line is there, into the request ring of the home Hearth core or, of a tenant that serves its calls itself, into the
tenant's ring; an EMIT appends the lane's record to the ring of its stage with the emitting item in bytes 0 to 3; on a full ring the lane waits. With every lane done the word is over, an SVC leaving the threads to park at the trailer. -/
def Obligations.RingWords : Prop := ∀ (c : BitVec 1) s g rest gd (a : BitVec 7) l x, s.core.issue = g :: rest → (∀ y ∈ rest, y.id ≠ g.id) → s.gang g.core l.slot = some x →
  let block := l.rcd
  let found := s.runBlock g l.slot (s.opnd g l a).toNat
  let did := fun s : State => s.updGrp g.id (fun g => { g.updLane l.lane (fun l => { l with did := true }) with stage := 9 })
  let waits := fun s : State => ((s.updGrp g.id (fun g => { g with stage := 10 })).maybeParkSlot g.core l.slot).rotate
  let t := s.tenantOfCtx g.ctx
  (g.stage = 0 → Issues s g rest gd [a.toNat] [] → g.active gd = [l] → SpadReady s g gd 64 64 (fun m => (s.opnd g m a).toNat) → s.runPois g l.slot (s.opnd g l a).toNat = false →
    let read := fun (i : Instr) => ∃ t h, exec i s = .next t ∧ t.core.issue = h :: rest ∧ h.stage = 8 ∧ (∀ m ∈ h.active gd, m.rcd = found ∧ m.relId.isSome) ∧ t.mem = s.mem
    read (.svc c gd a) ∧ (emitBad s g l found = false → read (.emit c gd a))) ∧
  (∀ off p, g.pads.find? (fun p => p.slot == l.slot) = some p → x.regionOf (off / 128) = none ∨ p.valid.contains (off / 128) = true → s.runBlock g l.slot off = (List.range 64).map (fun i => nget 0 p.spad (off + i))) ∧
  (g.stage = 9 → (g.active gd).find? (fun l => !l.did) = some l →
    (let h := s.hearthOf g.ctx
     let tail := nget 0 s.ten.hreqTail h
     bit (s.tModes t) 3 = false →
      (s.hreqFull h = true → exec (.svc c gd a) s = .next (waits s)) ∧
      (let addr := hreqAddr ((tget s.ten.hreqBase h).getD 0) (tail % 4096)
       s.hreqFull h = false → (s.storeReady addr 64 = false → exec (.svc c gd a) s = .next (s.storeNeed addr 64).rotate) ∧
        (s.storeReady addr 64 = true → exec (.svc c gd a) s = .next (did ((({ s.noteCall g l block with ten.hreqTail := nset 0 s.ten.hreqTail h ((tail + 1) % 2 ^ 32) }).devStore addr
          (svcEntry block g.ctx x.gang l.lane 0) none).updHearth h (fun x => { x with ext := true })))))) ∧
    (let r := nget 0 s.ten.svcring t
     let p := nget 0 s.ten.pidx t
     let n := 2 ^ bits r 4 1
     bit (s.tModes t) 3 = true → bit r 0 = true →
      ((p + 2 ^ 16 - nget 0 s.ten.cidx t) % 2 ^ 16 = n → exec (.svc c gd a) s = .next (waits s)) ∧
      (let addr := hostPa (s.tPort t) (r / 2 ^ 12 * 2 ^ 12 + 64 * (p % n))
       (p + 2 ^ 16 - nget 0 s.ten.cidx t) % 2 ^ 16 ≠ n → (s.storeReady addr 64 = false → exec (.svc c gd a) s = .next (s.storeNeed addr 64).rotate) ∧
        (s.storeReady addr 64 = true → exec (.svc c gd a) s = .next (did (({ s.noteCall g l block with ten.pidx := nset 0 s.ten.pidx t ((p + 1) % 2 ^ 16) }).devStore addr
          (svcEntry block g.ctx x.gang l.lane (1 - p / n % 2)) none))))) ∧
    (∀ q, s.graphOf g.ctx = some q →
      let st := fieldOf block 5 1
      (2 ^ q.qlog st ≤ q.fill st → exec (.emit c gd a) s = .next (waits s)) ∧
      (q.fill st < 2 ^ q.qlog st → ∀ pa attr, s.reeveXl t (q.slotVa st) 5 = .ok pa attr → s.storeReady pa 64 = true → block.length = 64 → exec (.emit c gd a) s = .next (did (
        let u := s.putAs x.world pa (overlay block 0 (leBytes 4 (x.wid l.lane)))
        let v := u.updGraph g.ctx (fun q =>
          { q with tail := modAt q.tail st (fun n => n + 1), ran := addSorted q.ran st, recs := q.recs ++ [(st, (q.tail.drop st).headD 0, u.ctl.time)] })
        let w := if v.due (fun e => e == .partialGangTimer g.ctx st) then v else v.after 16384 (.partialGangTimer g.ctx st)
        if w.due (fun e => e == .graphGangForm g.ctx st) then w else w.send (.graphGangForm g.ctx st)))))) ∧
  (g.stage = 9 → (∀ l ∈ g.active gd, l.did = true) →
    exec (.svc c gd a) s = .next (s.headGrp ({ g.addFx ((g.active gd).map (fun (l : RLane) => Fx.svc l.lane)) with lanes := g.lanes.map (fun (l : RLane) => { l with did := false }) }.adv) rest) ∧
    exec (.emit c gd a) s = .next (s.headGrp ({ g with lanes := g.lanes.map (fun (l : RLane) => { l with did := false }) }.adv) rest))

/-- COPY, RLAY, MATL, GATH, SCAT, SCAT.ACC and COLL complete lane by lane: the check phase reads the 64 bytes at the lane's offset as the scratchpad stood at the start of the run (R318) and its extents are translated, and nothing is accepted yet; a command so checked takes one of the core's 64 slots with those bytes and translations, and its
engine hears of it (R367, R377); with every lane done the word is over. -/
def Obligations.EngineWords : Prop := ∀ (c : BitVec 1) s g rest gd (a : BitVec 7) (q rl : BitVec 3) l x, s.core.issue = g :: rest → (∀ y ∈ rest, y.id ≠ g.id) → s.gang g.core l.slot = some x →
  let block := fun m : RLane => s.runBlock g m.slot (s.opnd g m a).toNat
  let commands := fun (i : Instr) (opc : Nat) (ev : Ev) =>
    (g.stage = 0 → Issues s g rest gd [a.toNat] [] → g.active gd = [l] → q = 7 → SpadReady s g gd 64 64 (fun m => (s.opnd g m a).toNat) → s.runPois g l.slot (s.opnd g l a).toNat = false →
      ∀ pages, s.cmdCheck opc g l (block l) = (s, .ok pages) → exec i s = .next (s.headGrp { g with stage := 9, lanes := g.lanes.map (fun (m : RLane) =>
        { m with rcd := block m, coll := if opc = 7 then some ((collBlk (block m)).ctag, (collBlk (block m)).me) else none, pages := if m.lane = l.lane then pages else [], did := false }) } rest)) ∧
    (g.stage = 9 → (g.active gd).find? (fun l => !l.did) = some l → s.cmdSlots g.core < 64 → s.sourceFilled g.core (some x.alloc) opc l.rcd = (s, true) →
      ∃ t cmd, exec i s = .next t ∧ t.eng.cmds = s.eng.cmds ++ [cmd] ∧ cmd.id = s.ctl.nextId ∧ cmd.opc = opc ∧ cmd.block = l.rcd ∧ cmd.rl = rl.toNat ∧ cmd.lane = l.lane ∧
        cmd.slot = l.slot ∧ cmd.core = g.core ∧ cmd.ctx = g.ctx ∧ cmd.gang = x.gang ∧ cmd.pages = l.pages ∧ cmd.buf = s.spadTaken cmd ∧ cmd.finished = false ∧
        t.ctl.agenda = s.ctl.agenda ++ [ev] ∧ t.mem = s.mem ∧ t.core.gangs = s.core.gangs ∧
        t.core.issue = g.updLane l.lane (fun l => { l with did := true }) :: rest) ∧
    (g.stage = 9 → (∀ l ∈ g.active gd, l.did = true) → exec i s = .next (s.headGrp ({ g with lanes := g.lanes.map (fun (l : RLane) => { l with did := false, coll := none, pages := [] }) }.adv) rest))
  commands (.copy c gd a q rl) 1 (.engineCommandComplete s.ctl.nextId) ∧ commands (.rlay c gd a q rl) 2 (.engineCommandComplete s.ctl.nextId) ∧
  commands (.matl c gd a q rl) 3 (.engineCommandComplete s.ctl.nextId) ∧ commands (.gath c gd a q rl) 4 (.engineCommandComplete s.ctl.nextId) ∧
  commands (.scat c gd a q rl) 5 (.engineCommandComplete s.ctl.nextId) ∧ commands (.scatAcc c gd a q rl) 6 (.engineCommandComplete s.ctl.nextId) ∧
  commands (.coll c gd a q rl) 7 (.collMatch s.ctl.nextId)

/-- CPYQ and TQ complete: a CPYQ checks each lane's list, aligned and of 1 to 4,096 entries, and then puts a lane's list into the core's kick register, which holds 16 (R374); a TQ puts a gang's task, its 64-byte record as the scratchpad stood at the start of the run and the scale
registers it names with it, into the gang's queue of 16 (R358, R359, R361). With every lane done the word is over. -/
def Obligations.QueueWords : Prop := ∀ (c : BitVec 1) s g rest gd (a : BitVec 7) (q rl : BitVec 3) l x, s.core.issue = g :: rest → (∀ y ∈ rest, y.id ≠ g.id) →
  s.gang g.core l.slot = some x →
  (g.stage = 0 → ∀ b : BitVec 7, Issues s g rest gd (baseSrcs a.toNat ++ [b.toNat]) [] → q = 7 →
    (∀ m ∈ g.active gd, s.va g ((baseSrcs a.toNat).map (s.readD g m)) 0 % 64 = 0 ∧ 1 ≤ (s.opnd g m b).toNat ∧ (s.opnd g m b).toNat ≤ 4096) →
    exec (.cpyq c gd a b q rl) s = .next (s.headGrp { g with stage := 9, lanes := g.lanes.map (fun (m : RLane) => { m with did := false }) } rest)) ∧
  (g.stage = 9 → (g.active gd).find? (fun l => !l.did) = some l → ∀ b : BitVec 7, (s.eng.lists.filter (fun c => c.core == g.core)).length < 16 →
    ∃ t list, exec (.cpyq c gd a b q rl) s = .next t ∧ t.eng.lists = s.eng.lists ++ [list] ∧ list.id = s.ctl.nextId ∧ list.n = (s.opnd g l b).toNat ∧
      list.addr = s.va g ((baseSrcs a.toNat).map (s.readD g l)) 0 ∧ list.next = 0 ∧ list.rl = rl.toNat ∧ list.lane = l.lane ∧ list.slot = l.slot ∧ list.core = g.core ∧
      t.ctl.agenda = s.ctl.agenda ++ [.cpyqEntryStart s.ctl.nextId] ∧ t.mem = s.mem ∧ t.core.gangs = s.core.gangs ∧
      t.core.issue = g.updLane l.lane (fun l => { l with did := true }) :: rest) ∧
  (g.stage = 0 → Issues s g rest gd [a.toNat] [] → g.active gd = [l] → q = 7 → SpadReady s g gd 64 64 (fun m => (s.opnd g m a).toNat) → s.runPois g l.slot (s.opnd g l a).toNat = false →
    let b := s.runBlock g l.slot (s.opnd g l a).toNat
    taskBad (s.spadSize g l) b = false → (∀ n ∈ (taskRec b).names, x.tiles.contains n = true) →
    ∃ h, exec (.tq c gd a q rl) s = .next (s.headGrp h rest) ∧ h.stage = 9 ∧ (∀ m ∈ h.active gd, m.rcd = b) ∧ h.lanes.map (fun m => m.lane) = g.lanes.map (fun m => m.lane)) ∧
  (g.stage = 9 → g.active gd = [l] → l.did = false → l.slot < 32 → x.core = g.core → x.slot = l.slot → (s.gangTasks x.ctx x.gang).length < 16 →
    ∃ t k, exec (.tq c gd a q rl) s = .next t ∧ t.eng.tasks = s.eng.tasks ++ [k] ∧ k.id = s.ctl.nextId ∧ k.rcd = l.rcd ∧ k.fsc = (if (taskRec l.rcd).fill = 2 then (x.sc.drop (taskRec l.rcd).fsc).headD 0 else 0) ∧
      k.osc = (if (taskRec l.rcd).oscEn then (x.sc.drop (taskRec l.rcd).osc).headD 0 else 0) ∧ k.ctx = x.ctx ∧
      k.gang = x.gang ∧ k.cluster = g.core / 4 ∧ k.rl = rl.toNat ∧ k.seq = x.tseq ∧ k.finished = false ∧ t.mem = s.mem ∧
      ∃ y, t.gang g.core l.slot = some y ∧ y.tseq = x.tseq + 1 ∧ y.v = x.v) ∧
  (g.stage = 9 → (∀ m ∈ g.active gd, m.did = true) →
    let done := { g with lanes := g.lanes.map (fun (m : RLane) => { m with did := false, coll := none, pages := [] }) }.adv
    (∀ b : BitVec 7, exec (.cpyq c gd a b q rl) s = .next (s.headGrp done rest)) ∧ (g.active gd = [l] → exec (.tq c gd a q rl) s = .next (s.headGrp done rest)))

/-- END completes a run of one lane that left nothing for its trailer (R209, R216, R272): its thread stands at the branch target, or after the packet of END, with the predicates and the call stack of the run; its registers are those the run wrote; with Y = 1 the deadline starts anew and the await mask is full; the run is over and memory stands. So too in an estimating launch, but for a draw that a stop has cancelled, which exits at an END with Y = 1 (R191). The registers a commit leaves (R204): the last value the run wrote to a lane register, V or, where the gang holds an extended block, X; every other lane register as it was. -/
def Obligations.EndOfRun : Prop :=
  (∀ s g rest (w : BitVec 8) (y : BitVec 1) (dl : BitVec 4) l x L, s.core.issue = g :: rest → (∀ y ∈ rest, y.id ≠ g.id) →
   g.lanes = [l] → l.done = false → g.fx = [] → g.arith = [] → g.trailer = false → s.gang g.core l.slot = some x → x.core = g.core → x.slot = l.slot → x.ctx = g.ctx →
   s.launch g.ctx = some L → l.lane < x.threads.length → (x.thread l.lane).count + g.words.length ≤ 256 * s.deadline g.ctx (x.thread l.lane) →
   let old := x.thread l.lane
   (s.cancelled x l.lane = true → y = 1 → ∃ t, exec (.endRun w y dl) s = .next t ∧
     ((∀ z, t.gang g.core l.slot = some z → (z.thread l.lane).status = .exited) ∨ ∃ h ∈ t.core.issue, h.id = g.id ∧ Fx.exit l.lane ∈ h.fx)) ∧
   ((s.cancelled x l.lane = true → y = 0) → ∃ t z, exec (.endRun w y dl) s = .next t ∧ t.mem = s.mem ∧ (∀ g' ∈ t.core.issue, g'.id ≠ g.id) ∧ t.gang g.core l.slot = some z ∧
     z.v = (x.commitRegs l).v ∧
     (let n := z.thread l.lane
      n.pc = l.next.getD g.nextPc ∧ n.preds = l.preds ∧ n.depth = l.depth ∧ n.ppois = l.ppois ∧ n.calls = l.calls ∧ n.status = old.status ∧ n.inRun = false ∧
      n.count = (if y = 1 then 0 else old.count + g.words.length) ∧ n.dl = (if y = 1 then dl.toNat else old.dl) ∧ n.await = (if y = 1 then 0xFF else w.toNat)))) ∧
  (∀ (x : Gang) (l : RLane) (code lane : Nat), lane < 32 → l.lane < 32 →
   (x.commitRegs l).reg code lane = (if lane = l.lane ∧ (code < 64 ∨ x.xacq = true) then ((l.wr.reverse.find? (fun e => e.1 == code)).map (fun e => e.2)).getD (x.reg code lane) else x.reg code lane))

/-- PREF, PREF.L2, EVCT and EVCT.L2 complete in a lane whose page is known and cached; they move a copy of the line and change no value (R333). -/
def Obligations.CacheHintWords : Prop := ∀ (c : BitVec 1) s g rest gd (b : BitVec 7) (o : BitVec 4) l pa attr, Issues s g rest gd (baseSrcs b.toNat) [] → g.active gd = [l] →
  s.xlate (stackOf g.core) (s.tenantOfCtx g.ctx) 0xFFFF (s.va g ((baseSrcs b.toNat).map (s.readD g l)) (g.off4 o.toNat 128)) 0 = .ok pa attr → attr.uncached = false →
  let line := pa / 128
  let tag := s.slotWorld g.core l.slot
  exec (.pref c gd b o) s = .next ((if (s.l1At g.core line tag).isSome || s.fillDue g.core line tag then s else s.send (.dirReadMiss g.core line tag 0)).headGrp g.adv rest) ∧
  (let slice := sliceFor (stackOf g.core) line
   exec (.evctL2 c gd b o) s = .next ((if (s.l2At slice line tag).isSome && !s.due (fun e => e == .l2Victim slice line tag) then s.send (.l2Victim slice line tag) else s).headGrp g.adv rest)) ∧
  (s.l1At g.core line tag = none → exec (.evct c gd b o) s = .next (s.headGrp g.adv rest)) ∧
  (∀ x, s.l1At g.core line tag = some x → x.frozen = false → x.rd = 0 →
    exec (.evct c gd b o) s = .next (((s.dropL1 g.core line).send (.dirEvictionNotice g.core line)).headGrp g.adv rest)) ∧
  (isCellar pa = true → exec (.prefL2 c gd b o) s = .next (s.headGrp g.adv rest)) ∧
  (isCellar pa = false →
    let slice := sliceFor (stackOf g.core) line
    let r := s.sliceFill slice line tag 0
    (r.2 = .wait → exec (.prefL2 c gd b o) s = .next r.1.rotate) ∧ (r.2 ≠ .wait → exec (.prefL2 c gd b o) s = .next (r.1.headGrp g.adv rest)) ∧
    (r.2 = .ok → (r.1.l2At slice line tag).isSome ∧ r.1.core.gangs = s.core.gangs) ∧
    ((s.l2At slice line tag).isSome → r.1.mem = s.mem ∧ r.1.coh.l2 = s.coh.l2))

/-- Reset and rails (R19): asserting reset gives every register its reset value, memory standing as it is (the model's choice, log 25); a rail out of its limits holds the package in reset until it has been back within them for 1 ms, after a time outside them that is free (the model's choice, log 93); reset let go with no rail out of limits, or the last bad rail settled, begins boot. Islands (R21): a write whose writable fields lie in their ranges, with no change in progress, begins a change, a frequency that falls falling at once, then a compute quadrant's voltage going to its regulator at 0x40 + i; any other write is ignored as a whole; what FSET, VSET and FLOOR read stands until then (the model's choice, log 76); the change completes with the setpoints asked for, a frequency that rises rising then. Column temperatures (R23, R24): a column is sampled every 1,000 reference ticks, first that long after reset is let go (the model's choice, log 75); a sample is published whole, valid, with HOT once a reading is at 105 °C (840); at 110 °C (880) the quadrant is throttled to its floor, and let go once every reading of the quadrant is below 100 °C (800); HOT clears by writing 1 only while every reading is below 105 °C. -/
def Obligations.PackageEvents : Prop :=
  (∀ (s : State) (r : Nat),
   let cleared := fun t : State => t.mem = s.mem ∧ t.mm = s.mm ∧ t.ten = State.reset.ten ∧ t.coh = State.reset.coh ∧ t.ali = State.reset.ali ∧ t.xl = State.reset.xl ∧
     t.run = State.reset.run ∧ t.core = State.reset.core ∧ t.eng = State.reset.eng ∧ t.nb = State.reset.nb ∧ t.pkg.islands = State.reset.pkg.islands ∧
     t.pkg.tcol = State.reset.pkg.tcol ∧ t.pkg.links = State.reset.pkg.links ∧ t.host.halves = [] ∧ t.host.step = 0 ∧ t.host.flash = s.host.flash ∧ t.ctl.time = 0 ∧ t.ctl.waiting = [] ∧
     (∀ e ∈ t.ctl.timers, ∃ k, e.2 = .railSettledTimer k) ∧
     t.held0 = true
   Happens .packageReset (.packageReset true) s (fun t => cleared t ∧ t.pkg.inReset = true ∧ t.pkg.railBad = s.pkg.railBad) ∧
   Happens .railOutOfLimits (.railOutOfLimits r) s (fun t => cleared t ∧ t.pkg.inReset = s.pkg.inReset ∧ r ∈ t.pkg.railBad ∧ (∀ x, x ≠ r → (x ∈ t.pkg.railBad ↔ x ∈ s.pkg.railBad)) ∧
     ∀ n, (n, Ev.railSettledTimer r) ∈ t.ctl.timers ↔ n = Config.railAway s.ctl.freeCtr + 1700000) ∧
   (s.pkg.inReset = true → s.pkg.railBad = [] → Gives .packageReset (.packageReset false) s (fun s => { s with pkg.inReset := false, ctl.timers := s.ctl.timers ++ sampleTimers s.ctl.freeCtr }.send .bootStart)) ∧
   (s.pkg.inReset = true → s.pkg.railBad ≠ [] → Gives .packageReset (.packageReset false) s (fun s => { s with pkg.inReset := false })) ∧
   (s.pkg.inReset = false → s.pkg.railBad = [r] → s.railRuns r = false → Gives .railSettledTimer (.railSettledTimer r) s (fun s =>
     { s with pkg.railBad := [], ctl.timers := s.ctl.timers ++ sampleTimers s.ctl.freeCtr }.send .bootStart)) ∧
   (s.railRuns r = true → Gives .railSettledTimer (.railSettledTimer r) s id) ∧
   (s.pkg.inReset = true → r ∈ s.pkg.railBad → s.railRuns r = false → Gives .railSettledTimer (.railSettledTimer r) s (fun s => { s with pkg.railBad := s.pkg.railBad.filter (fun x => x != r) }))) ∧
  (∀ (s : State) (i : Nat) (v : DWord),
   let x := s.island i
   let f := (v.extractLsb' 24 12).toNat
   let u := (v.extractLsb' 12 12).toNat
   let fl := (v.extractLsb' 36 12).toNat
   let begins := fun (a : Nat × Nat × Nat) (s : State) =>
     let s1 : State := { s with pkg.islands := modAt s.pkg.islands i (fun (x : Island) => { x with change := some a }) }
     if a.1 < (s.island i).run then s1.setRun i a.1 else s1
   let quad := 200 ≤ f ∧ f ≤ 850 ∧ f % 25 = 0 ∧ 550 ≤ u ∧ u ≤ 850 ∧ u % 5 = 0 ∧ 6 * (f - 200) ≤ 13 * (u - 550) ∧ 200 ≤ fl ∧ fl ≤ f ∧ fl % 25 = 0
   (x.change ≠ none → Gives .islandWrite (.islandWrite i v) s id) ∧
   (i < 21 → i % 7 < 4 → (¬ quad → Gives .islandWrite (.islandWrite i v) s id) ∧
     (quad → x.change = none → (f, u, fl) ≠ (x.fset, x.vset, x.floor) →
       Gives .islandWrite (.islandWrite i v) s (fun s => ((begins (f, u, fl) s).toHost (.pmbus (0x40 + i) u)).send (.islandChangeComplete i)))) ∧
   (i < 21 → i % 7 = 4 → (f ≠ 425 → f ≠ 850 → Gives .islandWrite (.islandWrite i v) s id) ∧
     (f = 425 ∨ f = 850 → x.change = none → f ≠ x.fset → Gives .islandWrite (.islandWrite i v) s (fun s => (begins (f, x.vset, x.floor) s).send (.islandChangeComplete i)))) ∧
   (i < 21 → i % 7 = 5 → (f ≠ 850 → f ≠ 1700 → Gives .islandWrite (.islandWrite i v) s id) ∧
     (f = 850 ∨ f = 1700 → x.change = none → f ≠ x.fset → Gives .islandWrite (.islandWrite i v) s (fun s => (begins (f, x.vset, x.floor) s).send (.islandChangeComplete i)))) ∧
   (21 ≤ i ∨ i % 7 = 6 → Gives .islandWrite (.islandWrite i v) s id) ∧
   (∀ a, x.change = some a → i < s.pkg.islands.length → Happens .islandChangeComplete (.islandChangeComplete i) s (fun t =>
     t.island i = { x with fset := a.1, vset := a.2.1, floor := a.2.2, run := a.1, change := none } ∧ (∀ j, j ≠ i → t.island j = s.island j) ∧ t.mem = s.mem ∧ t.core = s.core))) ∧
  (∀ (s : State) (c a b d : Nat) (v : Word), a < 1024 → b < 1024 → d < 1024 → c < s.pkg.tcol.length →
   let old := (s.pkg.tcol.drop c).headD 0
   let hot := old.getLsbD 30 || decide (840 ≤ max a (max b d))
   let word := BitVec.ofNat 32 (2 ^ 31 + (if hot then 2 ^ 30 else 0) + a * 2 ^ 20 + b * 2 ^ 10 + d)
   let publish := fun s : State => { s with pkg.tcol := modAt s.pkg.tcol c (fun _ => word) }
   let q := c / 8
   (880 ≤ max a (max b d) → Gives .tcolSample (.tcolSample c a b d) s (fun s => ((publish s).send (.thermalThrottle q)).nextSample c)) ∧
   (max a (max b d) < 880 → ((s.island (islandOf q)).throt = false ∨ (publish s).quadrantWarm q = true) → Gives .tcolSample (.tcolSample c a b d) s (fun s => (publish s).nextSample c)) ∧
   (max a (max b d) < 880 → (s.island (islandOf q)).throt = true → (publish s).quadrantWarm q = false →
     Gives .tcolSample (.tcolSample c a b d) s (fun s => ((publish s).setThrottle q false).nextSample c)) ∧
   ((∀ n x y z, (n, Ev.tcolSample c x y z) ∉ s.ctl.timers) → ∃ x y z, s.nextSample c = { s with ctl.timers := s.ctl.timers ++ [(s.ctl.time + 17000, .tcolSample c x y z)] }) ∧
   (s.quadrantWarm q = true → Gives .thermalThrottle (.thermalThrottle q) s (fun s => s.setThrottle q true)) ∧
   (v.getLsbD 30 = true → (∀ r ∈ readings old.toNat, r < 840) → Gives .tcolHotClear (.tcolHotClear c v) s (fun s =>
     { s with pkg.tcol := modAt s.pkg.tcol c (fun _ => old &&& 0xBFFFFFFF) })) ∧
   (v.getLsbD 30 = false ∨ (∃ r ∈ readings old.toNat, 840 ≤ r) → Gives .tcolHotClear (.tcolHotClear c v) s id))

/-- The links' states move as the table of R28 says, with its timeouts, its LINKDOWN records and its counters, a bridge at both ends; a pair that the table omits changes nothing but the record of R7. A new key comes into force once the flits under the old one have come in. That the record of R7 numbers the events as it does is the model's choice (log 3), and that a port reset returns every value of the link is inferred (log 6). -/
def Obligations.LinkEvents : Prop := ∀ (s : State) (l : Nat) (key : List Byte) (tx rx : Nat),
  let st := (s.link l).st
  let off := fun s : State => s.cancel (linkTimer l)
  let keyed := fun x : Link => { x with key := key, tx := 0, rx := 0, fails := 0, updating := false, replay := [], asks := [] }
  let old := fun n : Nat => n ≤ (s.link l).tx ∨ n ≤ (s.link l).rx ∨ ∃ m, mate l = some m ∧ (n ≤ (s.link m).tx ∨ n ≤ (s.link m).rx)
  (st = .down → Gives .linkPeerDetected (.linkPeerDetected l) s (fun s => (s.setLink l .train).after 170000000 (.linkTrainingTimeout l))) ∧
  (st = .train → Gives .linkTrainingComplete (.linkTrainingComplete l) s (fun s => ((off s).setLink l .keying).after 1700000000 (.linkKeyingTimeout l)) ∧
    Gives .linkTrainingTimeout (.linkTrainingTimeout l) s (fun s => ((off s).setLink l .down).linkDown l 1)) ∧
  (st = .keying → Gives .linkKeyingFail (.linkKeyingFail l) s (fun s => ((off s).setLink l .down).linkDown l 2) ∧
    Gives .linkKeyingTimeout (.linkKeyingTimeout l) s (fun s => ((off s).setLink l .down).linkDown l 2)) ∧
  (st = .keying ∨ st = .refuse → Gives .linkSessionEstablished (.linkSessionEstablished l key tx rx) s (fun s =>
    ((off s).updEnds l (fun x => { keyed x with st := .up, txId := rx, rxId := tx })).updLink l (fun x => { x with txId := tx, rxId := rx }))) ∧
  (st = .refuse → Gives .linkSessionAttemptFail (.linkSessionAttemptFail l) s (fun s => ((off s).linkDown l 2).after 1700000000 (.linkRetryTimer l))) ∧
  Gives .linkRetryTimer (.linkRetryTimer l) s off ∧
  (st = .up → (s.flying l = false → Gives .keyUpdateComplete (.keyUpdateComplete l key) s (fun s => s.updEnds l keyed)) ∧
    ((s.land l).flying l = true → ((s.land l).link l).st = .up → Gives .keyUpdateComplete (.keyUpdateComplete l key) s (fun s => (s.land l).wait (.keyUpdateComplete l key))) ∧ Gives .linkSessionExpire (.linkSessionExpire l) s (fun s => s.setLink l .drain)) ∧
  (st = .drain → s.flying l = false → Gives .linkDrainComplete (.linkDrainComplete l) s (fun s => s.setLink l .refuse)) ∧
  (st = .drain → s.flying l = true → Gives .linkDrainComplete (.linkDrainComplete l) s (fun s => s.wait (.linkDrainComplete l))) ∧
  Gives .linkPortReset (.linkPortReset l) s (fun s => (off s).updEnds l (fun _ => resetLink)) ∧
  (st = .up → old (2 ^ 62 - 2 ^ 32) → Gives .keyUpdateStart (.keyUpdateStart l) s (fun s => s.updEnds l (fun x => { x with updating := true }))) ∧
  (st = .up → old (2 ^ 62) → Gives .keyExpire (.keyExpire l) s (fun s => s.setLink l .drain)) ∧
  (∀ x f, mate l = none → s.updEnds l f = s.updLink l f ∧ s.setLink l x = s.updLink l (fun y => { y with st := x })) ∧
  (∀ x f m, mate l = some m → s.updEnds l f = (s.updLink l f).updLink m f ∧ s.setLink l x = s.updEnds l (fun y => { y with st := x })) ∧
  (st ≠ .down → Gives .linkPeerDetected (.linkPeerDetected l) s (fun s => s.linkErr l 0)) ∧ (st ≠ .drain → Gives .linkDrainComplete (.linkDrainComplete l) s (fun s => s.linkErr l 9)) ∧
  (st ≠ .up → Gives .keyExpire (.keyExpire l) s (fun s => s.linkErr l 10))

/-- Flits (R26, R27, R29): a flit goes out in UP, while the counter is below 2^62, as the payload's AES-256-GCM ciphertext and tag under the direction's counter, which then rises by 1 and whose flit the replay buffer keeps, and over a bridge comes in at its other end; otherwise it waits at its source,
and in FAILED it is lost; one comes in whose tag verifies under the expected counter, delivered in UP and DRAIN; one that fails is discarded and asked for again, three failures of one counter value taking the port to FAILED; a replay is
the same ciphertext. -/
def Obligations.FlitEvents : Prop := ∀ (s : State) (l n : Nat) (p flit : List Byte),
  let x := s.link l
  let out := gcmCrypt x.key (flitNonce x.txId x.tx) p ++ gcmTag x.key (flitNonce x.txId x.tx) [] (gcmCrypt x.key (flitNonce x.txId x.tx) p)
  let good := gcmTag x.key (flitNonce x.rxId x.rx) [] (flit.take 240) = flit.drop 240
  let failed := { x with fails := x.fails + 1, asks := x.asks ++ [x.rx] }
  let sent := fun s : State => s.updLink l (fun x => { x with tx := x.tx + 1, out := x.out ++ [out], replay := x.replay ++ [(x.tx, out)] })
  (x.st = .up → x.tx < 2 ^ 62 → Gives .flitSend (.flitSend l p) s (fun s => ((sent s).bridgeIn l out).counted l (x.tx + 1))) ∧
  (l < 16 → s.bridgeIn l out = s) ∧ (∀ m, mate l = some m → s.bridgeIn l out = s.send (.flitReceive m out)) ∧
  (∀ c, c ≠ 2 ^ 62 - 2 ^ 32 → c ≠ 2 ^ 62 → s.counted l c = s) ∧ s.counted l (2 ^ 62 - 2 ^ 32) = s.send (.keyUpdateStart (linkId l)) ∧
  (s.counted l (2 ^ 62)).ctl.agenda = .keyExpire (linkId l) :: s.ctl.agenda ∧
  (x.st ≠ .up ∨ 2 ^ 62 ≤ x.tx → x.st ≠ .failed → Gives .flitSend (.flitSend l p) s (fun s => s.wait (.flitSend l p))) ∧
  (x.st = .failed → Gives .flitSend (.flitSend l p) s id) ∧
  (x.st = .up → good → x.rx + 1 < 2 ^ 62 - 2 ^ 32 → Gives .flitReceive (.flitReceive l flit) s (fun s =>
    s.updLink l (fun x => { x with rx := x.rx + 1, fails := 0, inq := x.inq ++ [gcmCrypt x.key (flitNonce x.rxId x.rx) (flit.take 240)] }))) ∧
  (x.st = .drain → good → Gives .flitReceive (.flitReceive l flit) s (fun s =>
    s.updLink l (fun x => { x with rx := x.rx + 1, fails := 0, inq := x.inq ++ [gcmCrypt x.key (flitNonce x.rxId x.rx) (flit.take 240)] }))) ∧
  (x.st = .refuse → good → Gives .flitReceive (.flitReceive l flit) s id) ∧
  ((x.st = .up ∧ x.rx < 2 ^ 62) ∨ x.st = .drain ∨ x.st = .refuse → ¬ good → x.fails < 2 → l < s.pkg.links.length →
    Happens .flitReceive (.flitReceive l flit) s (fun t => t.link l = failed ∧ (∀ k, k ≠ l → t.link k = s.link k) ∧ t.mem = s.mem ∧ t.core = s.core ∧
      ∀ m, mate l = some m → Ev.flitReplay m x.rx ∈ t.ctl.agenda)) ∧
  ((x.st = .up ∧ x.rx < 2 ^ 62) ∨ x.st = .drain ∨ x.st = .refuse → ¬ good → 2 ≤ x.fails → l < 22 → s.pkg.links.length = 22 → (∀ c ∈ s.eng.cmds, linkId l ∈ c.ports → c.finished = true) →
    Happens .flitReceive (.flitReceive l flit) s (fun t => t.link l = { failed with st := .failed } ∧ (∀ m, mate l = some m → t.link m = { s.link m with st := .failed }) ∧
      (∀ k, k ≠ l → mate l ≠ some k → t.link k = s.link k) ∧ t.ten.serial = s.ten.serial + 1 ∧ ∀ q, Ev.flitSend l q ∉ t.ctl.agenda ∧ Ev.flitSend l q ∉ t.ctl.waiting)) ∧
  (∀ f, x.st = .up ∨ x.st = .drain → tget x.replay n = some f → l < s.pkg.links.length →
    Happens .flitReplay (.flitReplay l n) s (fun t => t.link l = { x with out := x.out ++ [f] } ∧ (∀ k, k ≠ l → t.link k = s.link k) ∧ t.mem = s.mem ∧ t.core = s.core))

/-- Host ports and device memory (R31 to R33): training completes as CXL or plain, with the port's rate, width, flit mode and IDE; HDMBASE and HDMSIZE take bits [39:28] while no decoder is committed and are left otherwise; a CXL.mem request is aborted over a plain port or beyond the range, and else reads the home's line, which the host may then hold, or stores through it; one into a world's line is dropped (R84). The host bridge keeps the state of each half as R38's table says: RdShared or RdOwn over a CXL port for a half in I or S, a store at once in E or M, the evictions' three messages over a CXL port, the answers to snoops by the state that the half holds, once no slice holds the line or a world's bytes of it have come back (R39, R82), and a grant that, once the line has its place in the home's MSC slice, sets the state and, in I, the data. That the host may hold what it has read (log 83), that a snooped half in I is answered without data and reported as R7's event 16 (log 3), and that a pinned line keeps its place (log 84) are the model's choices. -/
def Obligations.HostPortAndBridgeEvents : Prop :=
  (∀ (s : State) (p d addr rate width flits : Nat) (cxl ide w : Bool) (v : DWord) (b : List Byte),
   let phys : PortLink := { rate := rate, width := width, flits := flits, ide := ide }
   let trained := fun (s : State) (k : Nat) (c : Bool) =>
     { s with host.train := modAt s.host.train k (fun _ => if c then 2 else 1), host.phys := modAt s.host.phys k (fun _ => phys),
              host.lent := if c then s.host.lent else s.host.lent.filter (fun e => e.1 != k) }
   (p ≠ 0 ∨ cxl = false ∨ s.host.waitCxl = false → Gives .hostLinkTrainingComplete (.hostLinkTrainingComplete p cxl rate width flits ide) s (fun s => trained s p cxl)) ∧
   (s.host.waitCxl = true → Gives .hostLinkTrainingComplete (.hostLinkTrainingComplete 0 true rate width flits ide) s (fun s => (trained s 0 true).send .bootCxlReady)) ∧
   (s.host.decoders = [] → Gives .hdmbaseWrite (.hdmbaseWrite v) s (fun s => { s with host.hdmBase := v &&& 0xFFF0000000 }) ∧
     Gives .hdmsizeWrite (.hdmsizeWrite v) s (fun s => { s with host.hdmSize := v &&& 0xFFF0000000 })) ∧
   (s.host.decoders ≠ [] → Gives .hdmbaseWrite (.hdmbaseWrite v) s id ∧ Gives .hdmsizeWrite (.hdmsizeWrite v) s id) ∧
   Happens .hdmDecoderCommit (.hdmDecoderCommit p d cxl) s (fun t => ((p, d) ∈ t.host.decoders ↔ cxl = true) ∧
     (∀ x, x ≠ (p, d) → (x ∈ t.host.decoders ↔ x ∈ s.host.decoders)) ∧ t.mem = s.mem ∧ t.ten = s.ten ∧ t.core = s.core) ∧
   (s.isCxl p = false ∨ s.host.hdmSize.toNat ≤ addr ∨ 768 * 2 ^ 30 < s.host.hdmBase.toNat + s.host.hdmSize.toNat →
     Gives .cxlmemRequest (.cxlmemRequest p addr w b) s (fun s => s.toHost (.memAbort p addr))) ∧
   (s.isCxl p = true → addr < s.host.hdmSize.toNat → s.host.hdmBase.toNat + s.host.hdmSize.toNat ≤ 768 * 2 ^ 30 →
     let pa := s.host.hdmBase.toNat + addr
     let line := pa / 128
     let x := { blankTx 0 line (patchOf (pa % 128) b) with tenant := 0xFFFF }
     let r := fun s : State => s.homeRead (624 + p) 0 line 0x7F (pa % 128) 64
     (∀ d, (r s).2 = some d → Gives .cxlmemRequest (.cxlmemRequest p addr false b) s (fun s =>
       { (r s).1 with host.lent := (p, addr / 64) :: (r s).1.host.lent.erase (p, addr / 64) }.toHost (.memData p addr (cut d.1 (pa % 128) 64)))) ∧
     ((r s).2 = none → Gives .cxlmemRequest (.cxlmemRequest p addr false b) s (fun s => (r s).1.wait (.cxlmemRequest p addr false b))) ∧
     (s.worldHolder line 0x7F = none → (∀ e ∈ s.aliasesOn line, e.wtag = 0x7F) → (s.mscFill line).2 = true → s.way (624 + p) (lineNode line) = .clear → nodeStack (lineNode line) = nodeStack (624 + p) →
       let m := (s.mscFill line).1
       r s = (m.countReads line, some ((m.homeLine line).1, (m.homeLine line).2.1))) ∧
     (s.outsider x = none → Gives .cxlmemRequest (.cxlmemRequest p addr true b) s (fun s =>
       (({ s with host.lent := s.host.lent.erase (p, addr / 64) }.devStoreLine pa b none)).toHost (.memDone p addr))) ∧
     (∀ w, s.outsider x = some w → Gives .cxlmemRequest (.cxlmemRequest p addr true b) s (fun s => (s.sealWr (128 * line) w 0xFFFF).toHost (.memDone p addr))))) ∧
  (∀ (s : State) (h off line : Nat) (b : List Byte) (e : Bool),
   let st := s.half h
   let data := s.bytesAt (64 * h) 64
   let pois := s.halfPois h
   let filled := fun s : State => (List.range 8).foldl (fun (s : State) w => s.setPoison (8 * h + w) false) (s.putBytes (64 * h) b)
   let answer := if st = .M then HostMsg.snpAnswer h (some data) pois else .snpAnswer h none []
   (isHost (64 * h) = true → st = .I → Gives .bridgePackageRead (.bridgePackageRead h) s (fun s => s.bridgeAsk h false)) ∧
   (st ≠ .I → Gives .bridgePackageRead (.bridgePackageRead h) s id) ∧
   (isHost (64 * h) = true → b ≠ [] → (st = .I ∨ st = .S → Gives .bridgePackageStore (.bridgePackageStore h off b) s (fun s =>
       (s.bridgeAsk h true).devStoreLine (64 * h + off) b none)) ∧
     (st = .E ∨ st = .M → Gives .bridgePackageStore (.bridgePackageStore h off b) s (fun s => s.devStoreLine (64 * h + off) b none))) ∧
   (∀ own, (h, own) ∈ s.host.reqs →
     let got := fun s : State => { (s.mscFill (h / 2)).1 with host.reqs := s.host.reqs.erase (h, own) }
     ((s.mscFill (h / 2)).2 = false → Gives .bridgeGrant (.bridgeGrant h own e b) s (fun s => (s.mscFill (h / 2)).1.wait (.bridgeGrant h own e b))) ∧
     ((s.mscFill (h / 2)).2 = true →
     (st = .I → Gives .bridgeGrant (.bridgeGrant h own e b) s (fun s => (filled (got s)).setHalf h (if own then .M else if e then .E else .S))) ∧
     (st = .S → Gives .bridgeGrant (.bridgeGrant h own e b) s (fun s => (got s).setHalf h (if own then .M else .S))))) ∧
   (s.l2Holds line = false → s.snoopWaits line = false → s.isCxl (halfPort (2 * line)) = true →
     let out := fun (k : Nat) (s : State) => match s.half k with
       | .I => s
       | .S => (s.setHalf k .I).toHost (.cleanEvictNoData k)
       | .E => (s.setHalf k .I).toHost (.cleanEvict k)
       | .M => (s.setHalf k .I).toHost (.dirtyEvict k (s.bytesAt (64 * k) 64) (s.halfPois k))
     Gives .bridgeMscEviction (.bridgeMscEviction line) s (fun s => out (2 * line + 1) (out (2 * line) s))) ∧
   (s.isCxl (halfPort (2 * line)) = false ∨ s.snoopWaits line = true → Gives .bridgeMscEviction (.bridgeMscEviction line) s (fun s => s.wait (.bridgeMscEviction line))) ∧
   (s.isCxl (halfPort h) = false → Gives .hostSnpinv (.hostSnpinv h) s id ∧ Gives .hostSnpdata (.hostSnpdata h) s id ∧ Gives .hostSnpcur (.hostSnpcur h) s id) ∧
   (s.isCxl (halfPort h) = true →
     (st ≠ .I → s.l2Holds (h / 2) = false → Gives .hostSnpinv (.hostSnpinv h) s (fun s =>
       let s1 := s.setHalf h .I
       (if s1.half (2 * (h / 2)) = .I ∧ s1.half (2 * (h / 2) + 1) = .I ∧ (h / 2, 0) ∉ s1.coh.pins then { s1 with coh.msc := s1.coh.msc.filter (fun m => m.line != h / 2) } else s1).toHost answer)) ∧
     (st ≠ .I → s.l2Holds (h / 2) = true → Gives .hostSnpinv (.hostSnpinv h) s (fun s => (s.purge (h / 2)).wait (.hostSnpinv h))) ∧
     (st = .I → Gives .hostSnpinv (.hostSnpinv h) s (fun s => (s.toHost (.snpAnswer h none [])).intErr 16 16)) ∧
     (s.worldDirty (h / 2) = false →
       (st = .E ∨ st = .M → Gives .hostSnpdata (.hostSnpdata h) s (fun s => (s.setHalf h .S).toHost answer)) ∧
       (st = .I ∨ st = .S → Gives .hostSnpdata (.hostSnpdata h) s (fun s => s.toHost answer)) ∧
       Gives .hostSnpcur (.hostSnpcur h) s (fun s => s.toHost answer)) ∧
     (s.worldDirty (h / 2) = true → Gives .hostSnpdata (.hostSnpdata h) s (fun s => s.giveLine (h / 2) (.hostSnpdata h)) ∧
       Gives .hostSnpcur (.hostSnpcur h) s (fun s => s.giveLine (h / 2) (.hostSnpcur h)))))

/-- The management window's writes (R34): registers kept as they are written, with their reserved bits 0, or sent on as the event of their own, before all that is under way (R53: a write of a tenant record's first word sets its fields, then MODES, then STATE); and the registers behind those events: HARTID (R36, R37), the pins of placement (R388). The Hearth cores' registers (R44) and the measurements (R48): a base is taken where it is a granule homed at the core, before READY, and left otherwise; a head moves, the core's interrupt is pending while its rings hold entries (the model's choice, log 82), and fault entries held back in the arbiter go in as far as there is room, once the line of the next is there. What a DEAD tenant's registers and a descriptor's unnamed fields do is the model's choice (log 86). -/
def Obligations.RegisterEvents : Prop :=
  (∀ (s : State) (v : DWord) (i : Nat),
   let w := fun off => Ev.registerWrite off v
   Gives .registerWrite (w 0x8) s (fun s => s.urge (.hartidWrite v)) ∧
   Gives .registerWrite (w 0xC000) s (fun s => { s with ten.qtbase := v &&& 0xFFFFFFFFFF800000 }) ∧
   Gives .registerWrite (w 0xC018) s (fun s => { s with ten.sysevr := v &&& 0xFFFFFFFFFFFF8001 }) ∧
   Gives .registerWrite (w 0xC100) s (fun s => { s with xl.sdva := v }) ∧
   Gives .registerWrite (w 0xC110) s (fun s => s.urge (.shootdownStart v)) ∧ Gives .registerWrite (w 0xC020) s (fun s => s.urge (.dtinvWrite v)) ∧
   Gives .registerWrite (w 0xC038) s (fun s => s.urge (.gstepWrite v)) ∧ Gives .registerWrite (w 0xC200) s (fun s => s.urge (.estselWrite v)) ∧
   Gives .registerWrite (w 0xC400) s (fun s => s.urge (.nbctlWrite v)) ∧ Gives .registerWrite (w 0xE000) s (fun s => s.urge (.catctlWrite v)) ∧
   (i < 24 → Gives .registerWrite (w (0xC500 + 8 * i)) s (fun s => s.urge (.islandWrite i v))) ∧
   (i < 256 →
     let state : List Ev := if v.toNat % 4 = 0 then [.tenantSetOff i] else if v.toNat % 4 = 1 then [.tenantSetOn i] else []
     Gives .registerWrite (w (0x8000 + 64 * i)) s (fun s => s.urgeAll (.tenantRecordWrite i 0 v :: .tenantModesWrite i (v.toNat / 2 ^ 16 % 16) :: state)) ∧
     ∀ k, 1 ≤ k → k < 8 → Gives .registerWrite (w (0x8000 + 64 * i + 8 * k)) s (fun s => s.urge (.tenantRecordWrite i k v))) ∧
   (i < 256 → Gives .registerWrite (w (0xE800 + 8 * i)) s (fun s => s.urge (.svcringWrite i v))) ∧
   (s.run.launches = [] → Gives .registerWrite (w 0xC040) s (fun s => { s with run.savebase := v &&& 0xFFFFFFFFFFFF8000 })) ∧
   (s.run.launches ≠ [] → Gives .registerWrite (w 0xC040) s id) ∧
   ((∀ l ∈ s.run.launches, bit (s.tModes l.tenant) 0 = true) → Gives .hartidWrite (.hartidWrite v) s (fun s => { s with host.hartid := v.setWidth 32 &&& 0x800FFFFF })) ∧
   ((∃ l ∈ s.run.launches, bit (s.tModes l.tenant) 0 = false) → Gives .hartidWrite (.hartidWrite v) s id) ∧
   Gives .placepinWrite (.placepinWrite i v) s (fun s => { s with run.pins := modAt s.run.pins i (fun _ =>
     if (v.extractLsb' 48 9).toNat < 384 then v &&& 0x81FFFFFF0001FFFF else v &&& 0x01FFFFFF0001FFFF) })) ∧
  (∀ (s : State) (h i : Nat) (v : DWord) (w : Word) (b : List Byte),
   let ok := v.toNat % 4096 = 0 ∧ isHbm v.toNat = true ∧ homeOf v.toNat = h
   (s.host.ready = false → s.host.halted = false → ok → Gives .hreqbaseWrite (.hreqbaseWrite h v) s (fun s => { s with ten.hreqBase := tset s.ten.hreqBase h v.toNat }) ∧
     Gives .hfltbaseWrite (.hfltbaseWrite h v) s (fun s => { s with ten.hfltBase := tset s.ten.hfltBase h v.toNat })) ∧
   (s.host.ready = true ∨ ¬ ok → Gives .hreqbaseWrite (.hreqbaseWrite h v) s id ∧ Gives .hfltbaseWrite (.hfltbaseWrite h v) s id) ∧
   (s.host.halted = false →
     let moved := fun s : State => { s with ten.hfltHead := nset 0 s.ten.hfltHead h w.toNat }.extLower h
     Gives .hreqheadWrite (.hreqheadWrite h w) s (fun s => ({ s with ten.hreqHead := nset 0 s.ten.hreqHead h w.toNat }.extLower h).wakeSaved (fun x => s.hearthOf x.ctx == h) Hold.ring) ∧
     ((∀ x ∈ s.ten.hfltWait, x.1 ≠ h) → Gives .hfltheadWrite (.hfltheadWrite h w) s moved) ∧
     (∀ e, s.ten.hfltWait = [(h, e)] → (nget 0 s.ten.hfltTail h + 2 ^ 32 - w.toNat) % 2 ^ 32 ≠ 1024 → (s.hfltReady h = true → Gives .hfltheadWrite (.hfltheadWrite h w) s (fun s => { moved s with ten.hfltWait := [] }.hfltPut h e)) ∧
       (s.hfltReady h = false → Gives .hfltheadWrite (.hfltheadWrite h w) s (fun s => (moved s).storeNeed (s.hfltNext h) 32)))) ∧
   (s.host.ready = false → s.host.held = false → s.host.halted = false → Gives .measExtend (.measExtend i b) s (fun s =>
     { s with host.meas := modAt s.host.meas i (fun m => sm3 (m ++ b)) })) ∧
   (s.host.ready = true → Gives .measExtend (.measExtend i b) s id))

/-- Boot (R46 to R51): the locator, the wait for a CXL port, the header and the body, each step completed with its measurement, or failed with its code and the ROM stopped; the Hearth cores released
at ENTRY in machine mode; READY; and a recovery reload of pinned image lines, whose body may differ (RECOV clears then, too: the model's choice, log 84). -/
def Obligations.BootEvents : Prop := ∀ (s : State) (b : List Byte) (l : Nat), s.host.stopped = false →
  (s.host.step = 0 → locatorOk s.host.flash = true → s.isCxl 0 = false → Gives .bootStart .bootStart s (fun s =>
    { (((s.extend 0 Config.romHash).extend 1 (sm3 s.host.flash)).bootStep 2) with host.waitCxl := true }.after 17000000000 .bootCxlTimeout)) ∧
  (s.host.step = 0 → locatorOk s.host.flash = false → Gives .bootStart .bootStart s (fun s => ((s.extend 0 Config.romHash).bootStep 1).bootFail 1)) ∧
  (s.host.step = 2 → s.isCxl 0 = true → Gives .bootCxlReady .bootCxlReady s (fun s =>
    { s with host.waitCxl := false, host.step := 3, ctl.timers := s.ctl.timers.filter (fun t => t.2 != .bootCxlTimeout) })) ∧
  (s.host.step = 2 → s.host.waitCxl = true → Gives .bootCxlTimeout .bootCxlTimeout s (fun s => s.bootFail 2)) ∧
  (s.host.step = 3 → s.isCxl 0 = true → Gives .bootHeaderFetched (.bootHeaderFetched b) s (fun s =>
    if s.headerCode b = 0 then ({ s with host.header := b, host.body := fieldOf b 8 4 }.extend 2 (sm3 b)).bootStep 4 else s.bootFail (s.headerCode b))) ∧
  (s.host.step = 4 → s.isCxl 0 = true → (s.bodyOk b = true → Happens .bootBodyFetched (.bootBodyFetched b) s (fun t =>
      t.host.step = 6 ∧ t.host.held = false ∧ t.host.svn = fieldOf s.host.header 6 2 ∧ t.host.meas = modAt s.host.meas 3 (fun m => sm3 (m ++ cut s.host.header 16 32)) ∧
        t.mem = Memory.putAll s.mem s.bodyAt b ∧ (∀ x ∈ t.host.hearth, x.pc = s.entryPc ∧ x.mode = .machine) ∧ ∀ i, i < b.length / 128 → (lineOf s.bodyAt + i, 0) ∈ t.coh.pins)) ∧
    (s.bodyOk b = false → Happens .bootBodyFetched (.bootBodyFetched b) s (fun t => t.host.fail = 7 ∧ t.host.stopped = true ∧ t.host.held = s.host.held))) ∧
  (s.host.step = 6 → s.host.halted = false → Gives .firmwareReady .firmwareReady s (fun s => { s with host.ready := true, host.step := 7 })) ∧
  ((l, 0) ∈ s.coh.pins → s.host.halted = false → Gives .imageLineUe (.imageLineUe l) s (fun s => { s with host.recov := true, host.halted := true })) ∧
  (s.host.recov = true → s.isCxl 0 = true → (s.bodyOk b = true → Gives .recoveryReloadComplete (.recoveryReloadComplete b) s (fun s =>
      { s.loadImage b with host.recov := false, host.halted := false })) ∧
    (s.bodyOk b = false → Gives .recoveryReloadComplete (.recoveryReloadComplete b) s (fun s => { s with host.recov := false, host.fail := 8, host.ready := false })))

/-- Tenant records (R41, R52, R53): MODES is written unless a context or queued launch of the tenant is left, else BUSY; an OFF tenant whose record passes its checks goes ON, and one that fails is reported as BADTEN; it goes OFF without contexts and open queues; the record's words are written, reserved bits as 0, while the tenant is not ON. Doorbells (R55, R60): through an interface that has left RUN nothing is taken (R91); an index past the tenant's queues, a queue in the wrong state, a TAIL past the ring or a bad descriptor is BADBELL; TAIL is set; a queue is opened as its descriptor says, once it can be read; it is closed; CMD 3 is ignored. CMD 0 and CMD 2 reach the queues of a DEAD tenant too, whose function no ON tenant names, and what they log goes to the system ring (the model's choices: logs 21, 86). -/
def Obligations.TenantAndDoorbellEvents : Prop :=
  (∀ (s : State) (t m w : Nat) (v : DWord),
   let busy := s.hasContext t = true ∨ s.queuedLaunch t = true
   (busy → Gives .tenantModesWrite (.tenantModesWrite t m) s (fun s => s.toHost (.busy t))) ∧
   (¬ busy → Gives .tenantModesWrite (.tenantModesWrite t m) s (fun s => s.setTrec t 0 (setBits (s.trec t 0) 19 16 m))) ∧
   (s.tState t = 0 → (s.tenantOk t = true → Gives .tenantSetOn (.tenantSetOn t) s (fun s => s.setTState t 1)) ∧
     (s.tenantOk t = false → Gives .tenantSetOn (.tenantSetOn t) s (fun s => s.logEvent 256 2 0x40 none [(24, 8, setBits (s.trec t 0) 1 0 1), (22, 2, t)]))) ∧
   (s.tState t ≠ 0 → Gives .tenantSetOn (.tenantSetOn t) s id) ∧
   (s.hasContext t = true ∨ s.queuesOpen t = true → Gives .tenantSetOff (.tenantSetOff t) s id) ∧
   (s.hasContext t = false → s.queuesOpen t = false → Gives .tenantSetOff (.tenantSetOff t) s (fun s => s.setTState t 0)) ∧
   (s.tState t = 1 → Gives .tenantRecordWrite (.tenantRecordWrite t w v) s id) ∧
   (s.tState t ≠ 1 → Gives .tenantRecordWrite (.tenantRecordWrite t w v) s (fun s => s.setTrec t w (match w with
     | 1 => (v &&& 0x3FFFF0001FFFF).toNat
     | 2 => (v &&& 0xFFFFF).toNat
     | 3 => (v &&& 0xFFFFFFFFFFE00000).toNat
     | 4 => v.toNat
     | 5 => v.toNat
     | 6 => (v &&& 0xFFFFFFFFFFFF8001).toNat
     | 7 => 0
     | _ => recordWord (s.trec t w) w v.toNat)))) ∧
  (∀ (s : State) (p f t n : Nat) (v : DWord),
   let ten := s.tenantOfAny p f
   let on := s.tenantOf p f
   let bad := fun (x : Option Nat) (s : State) => s.logTenant x (8 + p) 0x20 2 [(24, 8, v.toNat), (16, 4, v.toNat % 2 ^ 17)]
   let value := v.toNat / 2 ^ 32
   (s.refuses p f = true →
     let abort := fun s : State => s.toHost (.completerAbort p f)
     Gives .doorbellSetTail (.doorbellSetTail p f v) s abort ∧ Gives .doorbellOpen (.doorbellOpen p f v) s abort ∧ Gives .doorbellClose (.doorbellClose p f v) s abort ∧
       Gives .doorbellCmd3 (.doorbellCmd3 p f v) s abort) ∧
   (s.refuses p f = false →
     (s.bellQueue ten v = none → Gives .doorbellSetTail (.doorbellSetTail p f v) s (bad on) ∧ Gives .doorbellClose (.doorbellClose p f v) s (bad on)) ∧
     (s.bellQueue ten v = some (t, n) → s.queue n = none → Gives .doorbellSetTail (.doorbellSetTail p f v) s (bad on) ∧ Gives .doorbellClose (.doorbellClose p f v) s (bad on)) ∧
     (s.bellQueue ten v = some (t, n) → ∀ q, s.queue n = some q →
       (2 ^ q.rlog < value → Gives .doorbellSetTail (.doorbellSetTail p f v) s (bad on)) ∧
       (value ≤ 2 ^ q.rlog → Gives .doorbellSetTail (.doorbellSetTail p f v) s (fun s => (s.putQueue { q with tail := value }).pokeReeve)) ∧
       Gives .doorbellClose (.doorbellClose p f v) s (fun s => { s with ten.queues := s.ten.queues.filter (fun x => x.q != n) }.syncQueue q 0)) ∧
     (s.bellQueue (s.tenantOf p f) v = some (t, n) → Gives .doorbellCmd3 (.doorbellCmd3 p f v) s id ∧
       ((s.queue n).isSome = true → Gives .doorbellOpen (.doorbellOpen p f v) s (bad (some t))) ∧
       (s.queue n = none →
         let place := s.ten.qtbase.toNat + 64 * n
         let found := fun s : State => (s.readOver place 64).1.noteRead place
         let read := fun s : State => (s.readOver place 64).1.devBytes place 64
         (s.readReady place 64 = false → Gives .doorbellOpen (.doorbellOpen p f v) s (fun s => (s.readNeed place 64).wait (.doorbellOpen p f v))) ∧
         (s.readReady place 64 = true → (s.readOver place 64).2 = true →
           ((found s).descOk t (read s) = false → Gives .doorbellOpen (.doorbellOpen p f v) s (fun s => bad (some t) (found s))) ∧
           ((found s).descOk t (read s) = true → Gives .doorbellOpen (.doorbellOpen p f v) s (fun s =>
             ({ found s with ten.queues := (found s).ten.queues ++ [queueOf n (read s)] }.syncQueue (queueOf n (read s)) 1).pokeReeve)))))))

/-- Records at a queue's head (R59 to R63, R78, R165): a record whose checks pass is dispatched into the launch table and HEAD moves past it, at its first look or, held, at a retry; a malformed one on an open ring completes as
BADREC without a thread, once the line of its completion record is there; a DEAD queue drops its records unread; on a secured ring a record with SEQ = E is dispatched and E rises, at E = 2^64 − 1 it is dropped and the queue SPENT; a bad tag, an old or a skipped sequence number drops it with its event, the skip taking the queue to GAP, and in GAP or SPENT it is dropped as GAPDROP; a control record with a valid tag opens the queue at NEWSEQ where its CTLNUM is new, and is dropped where it is not. That a record with a status counts in the class's round is the model's choice (log 86). -/
def Obligations.LaunchRecordEvents : Prop := ∀ (s : State) (q : Queue) (b : List Byte) (ctx hdr : Nat), HeadIs s q b →
  let r := recordOf b
  let seq := fieldOf b 192 8
  let launches := fun t : State => (∃ l, t.launch ctx = some l ∧ l.lrec = r ∧ l.tenant = q.tenant ∧ l.queue = q.q ∧ l.hdr = hdr ∧ l.world = 0x7F ∧ l.ending = none ∧ l.arith = 0) ∧
    (∃ x, t.queue q.q = some x ∧ x.head = q.past ∧ x.held = false ∧ x.qst = q.qst) ∧ hdr ∈ t.run.blocks
  (q.secure = false → q.qst = 1 → Dispatchable s q b ctx hdr →
    (q.held = false → Happens .launchRecord (.launchRecord q.q) s launches) ∧ (q.held = true → Happens .queueHeadRetry (.queueHeadRetry q.q) s launches)) ∧
  (q.secure = true → q.qst = 1 → s.tagOk q b = true → r.kind ≠ 4 → seq = q.expseq → seq ≠ 2 ^ 64 - 1 → Dispatchable s q b ctx hdr →
    let raised := fun t : State => launches t ∧ ∃ x, t.queue q.q = some x ∧ x.expseq = q.expseq + 1
    (q.held = false → Happens .launchRecord (.launchRecord q.q) s raised) ∧ (q.held = true → Happens .queueHeadRetry (.queueHeadRetry q.q) s raised)) ∧
  (q.secure = false → q.qst = 1 → q.held = false → badRecord b false = true → ∀ pa attr, let e := s.hears (.launchRecord q.q)
    r.compl % 64 = 0 → (e.readHead q).reeveXl q.tenant r.compl 5 = .ok pa attr → (e.readHead q).storeReady pa 64 = true →
    exec .launchRecord e = .next ((((((e.readHead q).devStore pa (leBytes 8 ((e.readHead q).ten.serial + 1) ++ leBytes 2 1 ++ zeros 2 ++ leBytes 4 q.q ++ leBytes 8 r.seq ++ leBytes 8 0 ++ zeros 32) none).logEvent
      q.tenant 0 1 (if bit r.flags 2 then some 0 else none) [(30, 2, 0xFFFF), (28, 2, 1), (20, 8, r.seq), (16, 4, q.q)]).countTaken).pastRecord q))) ∧
  (q.qst = 4 → Gives .launchRecord (.launchRecord q.q) s (fun s => s.pastRecord q) ∧ Gives .controlRecord (.controlRecord q.q) s (fun s => s.pastRecord q)) ∧
  (q.held = false → q.secure = true → q.qst ≠ 4 → s.tagOk q b = false → Gives .launchRecord (.launchRecord q.q) s (fun s => ((s.readHead q).dropLog q 0x21 seq).pastRecord q)) ∧
  (q.held = false → q.secure = true → q.qst ≠ 1 → q.qst ≠ 4 → s.tagOk q b = true → r.kind ≠ 4 → Gives .launchRecord (.launchRecord q.q) s (fun s => ((s.readHead q).dropLog q 0x24 seq).pastRecord q)) ∧
  (q.held = false → q.secure = true → q.qst = 1 → s.tagOk q b = true → r.kind ≠ 4 →
    (seq < q.expseq → Gives .launchRecord (.launchRecord q.q) s (fun s => ((s.readHead q).dropLog q 0x22 seq).pastRecord q)) ∧
    (seq = q.expseq → seq = 2 ^ 64 - 1 → Gives .launchRecord (.launchRecord q.q) s (fun s => ((s.readHead q).dropLog q 0x25 seq).pastRecord { q with qst := 3 })) ∧
    (q.expseq < seq → Gives .launchRecord (.launchRecord q.q) s (fun s => ((s.readHead q).dropLog q 0x23 seq).pastRecord { q with qst := 2 }))) ∧
  (s.isControl q b = true → q.qst ≠ 4 → Gives .launchRecord (.launchRecord q.q) s (fun s => if q.held then (s.readHead q).pokeReeve else (s.readHead q).urge (.controlRecord q.q))) ∧
  (s.isControl q b = true → q.qst ≠ 4 → fieldOf b 96 1 = 0xFF → q.ctlseq < fieldOf b 88 8 → Gives .controlRecord (.controlRecord q.q) s (fun s =>
    ((s.readHead q).logEvent q.tenant 0 0x26 (some 2) [(24, 8, fieldOf b 80 8), (20, 4, fieldOf b 88 8), (16, 4, q.q)]).pastRecord { q with qst := 1, ctlseq := fieldOf b 88 8, expseq := fieldOf b 80 8 })) ∧
  (s.isControl q b = true → q.qst ≠ 4 → fieldOf b 88 8 ≤ q.ctlseq → Gives .controlRecord (.controlRecord q.q) s (fun s =>
    ((s.readHead q).dropLog q (if q.qst = 1 then 0x22 else 0x24) seq).pastRecord q))

/-- The end of a launch outside a world (R62): with threads left nothing happens; else the release at RELS starts; and once nothing is left, and the record's line is there, the completion record of R62 is written, then its event logged, and the entry freed. -/
def Obligations.CompletionEvents : Prop := ∀ (s : State) (l : Launch) (pa : Nat) (attr : PAttr), s.launch l.ctx = some l → l.world = 0x7F → l.est = none →
  (l.ending = none → s.launchBusy l = true → Gives .launchComplete (.launchComplete l.ctx) s id) ∧
  ((l.ending ≠ none ∨ s.launchBusy l = false) → l.released = true → s.leftovers l.ctx = false → l.lrec.compl % 64 = 0 → s.reeveXl l.tenant l.lrec.compl 5 = .ok pa attr → s.storeReady pa 64 = true →
    let st := l.ending.getD 0
    Gives .launchComplete (.launchComplete l.ctx) s (fun s => ((s.devStore pa (leBytes 8 (s.ten.serial + 1) ++ leBytes 2 st ++ zeros 2 ++ leBytes 4 l.queue ++ leBytes 8 l.lrec.seq ++ leBytes 8 l.arith ++ zeros 32) none).logEvent
      l.tenant 0 1 (if bit l.lrec.flags 2 then some 0 else none) [(30, 2, l.ctx), (28, 2, st), (20, 8, l.lrec.seq), (16, 4, l.queue)]).forget l st)) ∧
  ((l.ending ≠ none ∨ s.launchBusy l = false) → l.released = false → s.dirtyLanes l.ctx = [] → s.due (fun e => e == .launchComplete l.ctx) = false →
    Gives .launchComplete (.launchComplete l.ctx) s (fun s => (s.updLaunch l.ctx (fun l => { l with released := true })).wait (.launchComplete l.ctx)))

/-- Keys and sessions (R73 to R76, R92): a key goes into the lowest EMPTY slot under a new generation and its handle is answered; with none EMPTY the answer is 1; a removal answers by R76's order and zeroises a slot nobody uses; a
session starts with the tenant's period, which the response carries, and its time-out of two periods; a HEARTBEAT starts it anew; its absence ends the session, and with a launch dispatched kills the tenant: its session ends last, when every
slot of its own is zeroised. -/
def Obligations.SessionEvents : Prop := ∀ (s : State) (t p f n : Nat) (b : List Byte) (x : Session), s.sessionOf t = some (p, f) →
  let secret := Config.secret s.ctl.resets
  let empty := (List.range 256).find? (fun n => (s.slot n).state == 0)
  let handle := fieldOf b 8 8
  let k := s.slot (handle % 256)
  (installOk b = false → Gives .keyInstall (.keyInstall t b) s (fun s => s.toHost (.keyReply p f (keyResponse (fieldOf b 0 1) 2 0)))) ∧
  (installOk b = true → empty = none → Gives .keyInstall (.keyInstall t b) s (fun s => s.toHost (.keyReply p f (keyResponse 1 1 0)))) ∧
  (installOk b = true → empty = some n → Gives .keyInstall (.keyInstall t b) s (fun s =>
    (s.setSlot n { state := 1, tenant := t, keyid := fieldOf b 4 4, typ := fieldOf b 1 1, ways := fieldOf b 2 1, gen := (s.slot n).gen + 1, users := 0, key := b.drop 16 }).toHost
      (.keyReply p f (keyResponse 1 0 (mkHandle secret t ((s.slot n).gen + 1) n))))) ∧
  (fieldOf b 0 1 = 2 → fieldOf b 1 7 = 0 → b.length = 16 →
    (k.state = 0 → Gives .keyRemove (.keyRemove t b) s (fun s => s.toHost (.keyReply p f (keyResponse 2 3 0)))) ∧
    (k.state = 1 → handle = mkHandle secret (bits handle 31 24) k.gen (handle % 256) → bits handle 23 8 = k.gen % 2 ^ 16 →
      (k.tenant ≠ t → Gives .keyRemove (.keyRemove t b) s (fun s => s.toHost (.keyReply p f (keyResponse 2 5 0)))) ∧
      (k.tenant = t → k.users = 0 → Gives .keyRemove (.keyRemove t b) s (fun s =>
        (s.setSlot (handle % 256) { k with state := 0, key := zeros k.key.length }).toHost (.keyReply p f (keyResponse 2 0 0)))) ∧
      (k.tenant = t → k.users ≠ 0 → Gives .keyRemove (.keyRemove t b) s (fun s =>
        (s.setSlot (handle % 256) { k with state := 2 }).toHost (.keyReply p f (keyResponse 2 4 0)))))) ∧
  (s.tenantOf p f = some t → Gives .spdmKeyExchange (.spdmKeyExchange p f) s (fun s =>
    ({ s with ten.sess := tset s.ten.sess (p, f) { period := s.period t, last := s.ctl.time, ending := false } }.watchHeart t (s.period t)).toHost (.keyExchangeRsp p f (s.period t)))) ∧
  (tget s.ten.sess (p, f) = some x → x.ending = false →
    Gives .heartbeatRequest (.heartbeatRequest t) s (fun s => { s with ten.sess := tset s.ten.sess (p, f) { x with last := s.ctl.time } }.watchHeart t x.period) ∧
    (x.last + 3400000000 * x.period ≤ s.ctl.time →
      (s.hasContext t = false → Gives .heartbeatTimeout (.heartbeatTimeout t) s (fun s => { s with ten.sess := tdel s.ten.sess (p, f) })) ∧
      (s.hasContext t = true → (∀ u < 256, u ≠ t → s.tState u = 0 ∨ s.tPort u ≠ p ∨ s.tFunc u ≠ f) → Happens .heartbeatTimeout (.heartbeatTimeout t) s (fun u => u.tState t = 2 ∧
        (∀ i, i < s.tQCount t → ∃ q, u.queue (s.tQBase t + i) = some q ∧ q.qst = 4) ∧ (∀ j < 256, (s.slot j).tenant = t → (u.slot j).state ≠ 1) ∧
        ((∀ j < 256, (s.slot j).tenant = t → (s.slot j).state ≠ 0 → (s.slot j).users = 0) → tget u.ten.sess (p, f) = none) ∧
        ((∃ j < 256, (s.slot j).tenant = t ∧ (s.slot j).state ≠ 0 ∧ (s.slot j).users ≠ 0) → ∃ y, tget u.ten.sess (p, f) = some y ∧ y.ending = true)))) ∧
    (s.ctl.time < x.last + 3400000000 * x.period → Gives .heartbeatTimeout (.heartbeatTimeout t) s id))

/-- Worlds at their end and TDISP (R88 to R91): a world that retires seals its dirty lines, then materialises its entries, then its release at RELS is made, then the scrub starts; the scrub done, its lines are gone, its completion record written and its number and slot given back; an abnormal end stops the
world's threads, discards its lines and scrubs, with the status of the ending that was stamped first; an interface that leaves RUN goes to ERROR (the model's choice, log 6) and ends its tenant's worlds. -/
def Obligations.WorldEvents : Prop := ∀ (s : State) (w p f st : Nat) (x : World),
  (tget s.ten.worlds w = some x → ∀ l, s.launch x.ctx = some l →
    (x.phase = 1 → x.status = 0 → (l.ending ≠ none ∨ s.launchBusy l = false) → s.leftovers x.ctx = false → (∀ t ∈ s.coh.txs, t.world = w → t.inval = true) →
      (∀ p ∈ s.ali.pieces, p.entry.wtag ≠ w) →
      let dirty := ∃ y ∈ s.coh.l2, y.world = w ∧ y.dirty = true
      let open_ := ∃ e ∈ s.ali.entries, e.wtag = w ∧ e.left ≠ []
      (dirty → Gives .worldRetire (.worldRetire w) s (fun s => (s.sealAll w).later (.worldRetire w))) ∧
      (¬ dirty → open_ → Gives .worldRetire (.worldRetire w) s (fun s => (s.materialiseWorld w).later (.worldRetire w))) ∧
      (¬ dirty → ¬ open_ → l.released = false → Gives .worldRetire (.worldRetire w) s (fun s => (s.startRels l).later (.worldRetire w))) ∧
      (¬ dirty → ¬ open_ → l.released = true → Gives .worldRetire (.worldRetire w) s (fun s => (s.updWorld w (fun x => { x with phase := 3 })).send (.worldScrubComplete w)))) ∧
    (x.phase = 3 → l.est = none → l.lrec.compl % 64 = 0 → ∀ pa attr, (s.scrub w).reeveXl l.tenant l.lrec.compl 5 = .ok pa attr → (s.scrub w).storeReady pa 64 = true → Happens .worldScrubComplete (.worldScrubComplete w) s (fun t =>
      tget t.ten.worlds w = none ∧ (∀ y ∈ t.coh.l2, y.world ≠ w) ∧ (∀ y ∈ t.coh.l1, y.wtag ≠ w) ∧ (∀ y ∈ t.mm.ctag, y.2 ≠ w) ∧ t.launch x.ctx = none ∧
        (t.slot x.slot).users = (s.slot x.slot).users - 1)) ∧
    (x.phase ≤ 1 → (∀ g ∈ s.core.gangs, g.ctx ≠ x.ctx) → Happens .worldAbort (.worldAbort w st) s (fun t =>
      (∃ y, tget t.ten.worlds w = some y ∧ y.phase = 3 ∧ y.status = (if x.status = 0 then st else x.status) ∧ y.ctx = x.ctx) ∧ (∀ y ∈ t.coh.l2, y.world ≠ w) ∧ (∀ e ∈ t.ali.entries, e.wtag ≠ w) ∧
        Ev.worldScrubComplete w ∈ t.ctl.agenda))) ∧
  Gives .tdispEnterRun (.tdispEnterRun p f) s (fun s => { s with ten.tdi := tset s.ten.tdi (p, f) 2 }) ∧
  (tget s.ten.tdi (p, f) ≠ some 2 → Gives .tdispLeaveRun (.tdispLeaveRun p f) s id) ∧
  (tget s.ten.tdi (p, f) = some 2 → Happens .tdispLeaveRun (.tdispLeaveRun p f) s (fun t => tget t.ten.tdi (p, f) = some 3 ∧
    ∀ u, s.tenantOfAny p f = some u → ∀ v y, (v, y) ∈ s.ten.worlds → s.tenantOfCtx y.ctx = u →
      t.due (fun e => e == .worldAbort v 6 || e == .worldAbort v 7) = true ∧ ∃ z, tget t.ten.worlds v = some z ∧ z.status ≠ 0))

/-- Service calls (R70, R72, R382 to R385): the service ring is placed while the tenant is OFF; its consumer index moves; a reply is staged and accepted for a thread with an SVC outstanding under its key, else BADREPLY; a reply of a Hearth
core's service is accepted, from whichever instance owns the object, to whose ring a request has been forwarded (R43; that the service itself decides what it forwards is the model's choice, log 82); a core that restarts does so at ENTRY in machine mode, and LOST is answered to every unanswered call with key 0, and to no other. -/
def Obligations.ServiceEvents : Prop := ∀ (s : State) (t p f off width h : Nat) (v : DWord) (r : List Byte),
  let slog := bits v.toNat 4 1
  let c := replyTo (s.svrply p f)
  let staged := s.svrply p f
  (s.tState t ≠ 0 → Gives .svcringWrite (.svcringWrite t v) s id) ∧
  (s.tState t = 0 → v.getLsbD 0 = true → 6 ≤ slog → slog ≤ 12 → Gives .svcringWrite (.svcringWrite t v) s (fun s =>
    { s with ten.svcring := nset 0 s.ten.svcring t (v &&& 0xFFFFFFFFFFFFF01F).toNat, ten.pidx := nset 0 s.ten.pidx t 0, ten.cidx := nset 0 s.ten.cidx t 0 })) ∧
  (s.tState t = 0 → v.getLsbD 0 = false ∨ slog < 6 ∨ 12 < slog → Gives .svcringWrite (.svcringWrite t v) s (fun s =>
    { s with ten.svcring := nset 0 s.ten.svcring t (v &&& 0xFFFFFFFFFFFFF01E).toNat })) ∧
  (s.refuses p f = true → Gives .svcheadWrite (.svcheadWrite p f v) s (fun s => s.toHost (.completerAbort p f)) ∧
    Gives .svrplyWrite (.svrplyWrite p f off width v) s (fun s => s.toHost (.completerAbort p f)) ∧ Gives .svrgo (.svrgo p f v) s (fun s => s.toHost (.completerAbort p f))) ∧
  (s.refuses p f = false →
    (s.tenantOf p f = some t → Gives .svcheadWrite (.svcheadWrite p f v) s (fun s => { s with ten.cidx := nset 0 s.ten.cidx t (v.toNat % 2 ^ 16) }.wakeSaved (fun x => s.tenantOfCtx x.ctx == t) Hold.ring)) ∧
    (width = 4 ∨ width = 8 → off % width = 0 → Gives .svrplyWrite (.svrplyWrite p f off width v) s (fun s =>
      { s with ten.svrply := tset s.ten.svrply (p, f) (overlay (s.svrply p f) (off - 0x100) (leBytes width v.toNat)) })) ∧
    (width = 4 ∨ width = 8 → off % width ≠ 0 → Gives .svrplyWrite (.svrplyWrite p f off width v) s (fun s => s.badReply (s.tenantOf p f) (srcPort p) off v.toNat)) ∧
    (s.tenantOf p f = some t → (s.launch c.1).isSome = true → s.tenantOfCtx c.1 = t → s.callOf c.1 c.2.1 c.2.2 = some (fieldOf staged 0 8, false) →
      Gives .svrgo (.svrgo p f v) s (fun s => s.acceptReply c.1 c.2.1 c.2.2 staged)) ∧
    (s.tenantOf p f = some t → s.callOf c.1 c.2.1 c.2.2 = none → Gives .svrgo (.svrgo p f v) s (fun s => s.badReply (some t) (srcPort p) 0x120 v.toNat))) ∧
  (let c := replyTo r
   (h < 48 → s.host.halted = false → (s.launch c.1).isSome = true → bit (s.modesOfCtx c.1) 3 = false → s.callOf c.1 c.2.1 c.2.2 = some (fieldOf r 0 8, false) →
    Gives .svcReply (.svcReply h r) s (fun s => s.acceptReply c.1 c.2.1 c.2.2 r)) ∧
   (s.callOf c.1 c.2.1 c.2.2 = none → Gives .svcReply (.svcReply h r) s id)) ∧
  (∀ i k, s.hearthRuns h = true → s.hearthRuns k = true → h ≠ k → i < (nget 0 s.ten.hreqTail h + 2 ^ 32 - nget 0 s.ten.hreqHead h) % 2 ^ 32 → s.hreqFull k = false →
    s.storeReady (s.hreqSlot k) 64 = true → s.readReady (hreqAddr ((tget s.ten.hreqBase h).getD 0) ((nget 0 s.ten.hreqHead h + i) % 4096)) 64 = true →
    nget 0 (s.forward h i k).ten.hreqTail k = (nget 0 s.ten.hreqTail k + 1) % 2 ^ 32 ∧ (s.forward h i k).ten.hreqHead = s.ten.hreqHead ∧
      ∀ j, j ≠ k → nget 0 (s.forward h i k).ten.hreqTail j = nget 0 s.ten.hreqTail j) ∧
  (s.host.halted = true ∨ s.host.held = true → Gives .hearthRestart (.hearthRestart h) s id) ∧
  (let head := nget 0 s.ten.hreqHead h
   let up := fun s : State => s.updHearth h (fun x => { x with pc := s.entryPc, mode := .machine, csr := [], resv := none, wfi := false })
   s.host.halted = false → s.host.held = false →
   (nget 0 s.ten.hreqTail h = head → head < 2 ^ 32 → Gives .hearthRestart (.hearthRestart h) s up) ∧
   (nget 0 s.ten.hreqTail h = head + 1 → head + 1 < 2 ^ 32 →
    let e := s.hreqEntry h head
    let c := replyTo e
    (fieldOf e 0 8 ≠ 0 → Gives .hearthRestart (.hearthRestart h) s up) ∧
    (fieldOf e 0 8 = 0 → s.callOf c.1 c.2.1 c.2.2 = some (0, false) → Gives .hearthRestart (.hearthRestart h) s (fun s =>
      (up s).acceptReply c.1 c.2.1 c.2.2 (overlay (e.take 16) 8 (leBytes 2 1) ++ zeros 16)))))

/-- The L1's table (R99, R155, R156): a fill installs its line in V and feeds the tokens that wait for it, or only feeds them; an update, but for bytes that its slice keeps back (R152), is applied and acknowledged APPLIED with RD = 0, queued with the next arrival number while the deferral
buffer has room, and freezes the line otherwise; a line in I or F answers ABSENT; an invalidation goes the same way. -/
def Obligations.L1Events : Prop := ∀ (s : State) (c line tag cp n : Nat) (data : List Byte) (pois : List Nat),
  let awaited := fun k : Token => k.core = c ∧ ∃ l ∈ k.lanes, l.vals = none ∧ l.pa / 128 = line ∧ s.slotWorld c l.slot = tag
  let v := { core := c, line := line, frozen := false, rd := 0, data := data, pois := pois, queue := [], recNo := 0, wtag := tag : L1Line }
  ((∀ k ∈ s.core.toks, ¬ awaited k) →
    Gives .l1FillReturn (.l1FillReturn c line tag cp false data pois) s id ∧
    ((s.coh.l1.filter (fun l => l.core == c && l.line % 128 == line % 128 && l.line != line)).length < 8 → Happens .l1FillReturn (.l1FillReturn c line tag cp true data pois) s (fun t =>
      let rest := s.coh.l1.filter (fun l => !(l.core == c && l.line == line))
      t.coh.l1 = (if cp = 1 ∨ cp = 2 then v :: rest else rest ++ [v]) ∧ t.mem = s.mem ∧ t.core = s.core ∧ t.coh.l2 = s.coh.l2 ∧ t.coh.txs = s.coh.txs))) ∧
  (∀ k l, s.core.toks = [k] → k.lanes = [l] → k.core = c → l.vals = none → l.pa / 128 = line → s.slotWorld c l.slot = tag →
    Gives .l1FillReturn (.l1FillReturn c line tag cp false data pois) s (fun s =>
      { s with core.toks := [{ k with lanes := [{ l with vals := some (lineRegs k.size k.sx l.fmt (l.pa % 128) l.own data (pois ++ l.lost)) }] }] }.send (.tokenComplete k.id))) ∧
  (∀ x, s.tx n = some x → x.core ≠ c →
    let ack := fun (b : Bool) (s : State) => s.send (.dirAck n c b)
    let p := x.through (sliceFor (stackOf c) x.line)
    (s.l1At c x.line x.world = none → Gives .l1Update (.l1Update c n) s (fun s => ack false (s.endFwdTx c n))) ∧
    (∀ l, s.l1At c x.line x.world = some l →
      (l.frozen = true → Gives .l1Update (.l1Update c n) s (fun s => ack false (s.letFwd c n))) ∧
      (l.frozen = false → l.rd = 0 → Gives .l1Update (.l1Update c n) s (fun s =>
        let d := patchData l.data l.pois p x.pois
        ack true ((s.updL1 c x.line (fun l => { l with data := d.1, pois := d.2 })).endFwdTx c n))) ∧
      (l.frozen = false → l.rd ≠ 0 → s.deferred c < 32 → Gives .l1Update (.l1Update c n) s (fun s => ack true ((s.defer c x.line n false p x.pois).letFwd c n))) ∧
      (l.frozen = false → l.rd ≠ 0 → 32 ≤ s.deferred c → Gives .l1Update (.l1Update c n) s (fun s => ack false ((s.freeze c x.line).letFwd c n))))) ∧
  (let here := s.coh.l1.find? (fun l => l.core == c && l.line == line)
   (here = none → Gives .l1Invalidation (.l1Invalidation c line n) s (fun s => s.send (.dirAck n c false))) ∧
   (∀ l, here = some l → (l.frozen = true → Gives .l1Invalidation (.l1Invalidation c line n) s (fun s => s.send (.dirAck n c false))) ∧
     (l.frozen = false → l.rd = 0 → Gives .l1Invalidation (.l1Invalidation c line n) s (fun s => (s.dropL1 c line).send (.dirAck n c true))) ∧
     (l.frozen = false → l.rd ≠ 0 → s.deferred c < 32 → Gives .l1Invalidation (.l1Invalidation c line n) s (fun s => (s.defer c line n true [] []).send (.dirAck n c true))) ∧
     (l.frozen = false → l.rd ≠ 0 → 32 ≤ s.deferred c → Gives .l1Invalidation (.l1Invalidation c line n) s (fun s => (s.freeze c line).send (.dirAck n c false)))))

/-- The directories' table (R100 to R102, R104): a read miss registers the core and sends the line, once no invalidation of it is under way; an eviction notice removes it from pointer form and leaves coarse form; a victim is invalidated at every sharer and goes when all have
acknowledged, a pinned one never; an access finds a line in another slice's world ways handed over first (R84, R104); an MSC victim leaves its set when no slice holds it, its halves going back to the host (R38); a world's line is sealed and written back, where memory does not hold it sealed, and handed over. -/
def Obligations.DirectoryEvents : Prop := ∀ (s : State) (c line tag cp slice : Nat) (l : L2Line),
  let cell := isCellar (128 * line) = true
  let other := s.coh.l2.find? (fun l => l.line == line && l.world != 0x7F && !(l.world == tag && l.slice == sliceFor (stackOf c) line))
  (¬ cell → other = none → s.l2At (sliceFor (stackOf c) line) line tag = some l → s.invalBusy (sliceFor (stackOf c) line) line = false → Gives .dirReadMiss (.dirReadMiss c line tag cp) s (fun s =>
    ((s.l2Use (sliceFor (stackOf c) line) line tag cp false).updL2 (sliceFor (stackOf c) line) line tag (fun l => { l with dir := dirAdd l.dir (c % 128) 4 })).send (.l1FillReturn c line tag cp true l.data l.pois))) ∧
  (cell → (∀ t ∈ s.coh.txs, t.inval = true → t.line ≠ line) → tget s.mm.ctag line = none → cellarColumn (128 * line) / 32 = c / 128 → Gives .dirReadMiss (.dirReadMiss c line tag cp) s (fun s =>
    { s with coh.cdir := tset s.coh.cdir line (dirAdd ((tget s.coh.cdir line).getD noDir) (c % 128) 4) }.send (.l1FillReturn c line tag cp true (s.bytesAt (128 * line) 128) (s.linePois line)))) ∧
  (cell → (∀ t ∈ s.coh.txs, t.inval = true → t.line ≠ line) → tget s.mm.ctag line = none → cellarColumn (128 * line) / 32 ≠ c / 128 → Gives .dirReadMiss (.dirReadMiss c line tag cp) s (fun s =>
    s.send (.l1FillReturn c line tag cp false (s.bytesAt (128 * line) 128) (s.linePois line)))) ∧
  (cell → (∃ t ∈ s.coh.txs, t.inval = true ∧ t.line = line) → Gives .dirReadMiss (.dirReadMiss c line tag cp) s (fun s => s.wait (.dirReadMiss c line tag cp))) ∧
  (¬ cell → other = none → s.l2At (sliceFor (stackOf c) line) line tag = some l → s.invalBusy (sliceFor (stackOf c) line) line = true → Gives .dirReadMiss (.dirReadMiss c line tag cp) s (fun s =>
    s.wait (.dirReadMiss c line tag cp))) ∧
  (¬ cell → other = some l → s.due (fun e => e == .worldLineHandover l.slice line) = false → Gives .dirReadMiss (.dirReadMiss c line tag cp) s (fun s =>
    (s.send (.worldLineHandover l.slice line)).wait (.dirReadMiss c line tag cp))) ∧
  (¬ cell → Gives .dirEvictionNotice (.dirEvictionNotice c line) s (fun s => { s with coh.l2 := s.coh.l2.map (fun l =>
    if l.slice = sliceFor (stackOf c) line ∧ l.line = line then { l with dir := if l.dir.coarse then l.dir else { l.dir with ptrs := l.dir.ptrs.filter (fun x => x != c % 128) } } else l) })) ∧
  (s.pinned line = true → Gives .l2Victim (.l2Victim slice line tag) s id ∧ Gives .mscVictim (.mscVictim line) s id) ∧
  (s.pinned line = false → s.l2At slice line 0x7F = some l → (∀ t ∈ s.coh.txs, ¬ (t.inval = true ∧ t.line = line ∧ t.slice = slice)) →
    let cs := dirCores (slice / 32) l.dir
    (cs ≠ [] → Gives .l2Victim (.l2Victim slice line 0x7F) s (fun s =>
      { s with ctl.nextId := s.ctl.nextId + 1, coh.txs := s.coh.txs ++ [{ blankTx s.ctl.nextId line [] with inval := true, slice := slice, own := cs }] }.sendAll
        (cs.map (fun c => .l1Invalidation c line s.ctl.nextId)))) ∧
    (cs = [] → slice < 96 → Happens .l2Victim (.l2Victim slice line 0x7F) s (fun t => t.l2At slice line 0x7F = none ∧ t.mem = s.mem ∧ t.core = s.core))) ∧
  (s.pinned line = false → tag ≠ 0x7F → s.l2At slice line tag = some l →
    (l.dirty = false → (tget s.mm.sealed line).isSome = true → Gives .l2Victim (.l2Victim slice line tag) s (fun s => s.dropWorldLine l)) ∧
    (l.dirty = true ∨ tget s.mm.sealed line = none → s.unowned line = [] → Gives .l2Victim (.l2Victim slice line tag) s (fun s => (s.sealBack l).dropWorldLine l))) ∧
  (s.pinned line = false → s.dephHomes line = [] →
    let out := fun s : State => { s with coh.msc := s.coh.msc.filter (fun m => m.line != line) }
    (s.l2Holds line = true → Gives .mscVictim (.mscVictim line) s (fun s => (s.purge line).wait (.mscVictim line))) ∧
    (s.l2Holds line = false → isHost (128 * line) = false → Gives .mscVictim (.mscVictim line) s out) ∧
    (s.l2Holds line = false → isHost (128 * line) = true → Gives .mscVictim (.mscVictim line) s (fun s => (out s).send (.bridgeMscEviction line)))) ∧
  (s.coh.l2.find? (fun l => l.slice == slice && l.line == line && l.world != 0x7F) = some l →
    let cs := dirCores (slice / 32) l.dir
    (l.dirty = false → (tget s.mm.sealed line).isSome = true →
      (cs ≠ [] → Gives .worldLineHandover (.worldLineHandover slice line) s (fun s =>
        ({ s with ctl.nextId := s.ctl.nextId + 1, coh.txs := s.coh.txs ++ [{ blankTx s.ctl.nextId line [] with inval := true, slice := slice, own := cs, world := l.world }] }.dropL2 slice line l.world).sendAll
          (cs.map (fun c => .l1Invalidation c line s.ctl.nextId)))) ∧
      (cs = [] → Gives .worldLineHandover (.worldLineHandover slice line) s (fun s => s.dropL2 slice line l.world))) ∧
    (l.dirty = true ∨ tget s.mm.sealed line = none →
      (s.unowned line = [] → Gives .worldLineHandover (.worldLineHandover slice line) s (fun s => (s.sealBack l).dropWorldLine l)) ∧
      (s.unowned line ≠ [] → Gives .worldLineHandover (.worldLineHandover slice line) s (fun s => (s.askHalves (s.unowned line) true).wait (.worldLineHandover slice line)))))

/-- A store at its slice and home (R101, R103, R149, R150): it waits while an earlier strong one of its thread is not acknowledged (R159; that it waits at its core is the model's choice, log 79); the slice applies it to its copy, updates every L1 sharer and passes it to the home; the home applies it to memory, every byte outside it as it was, and updates every other
slice, each taking the bytes it has no pending store for, and does not apply the line's next store before they have acknowledged (R152; this order is the model's choice, log 94); acknowledgements count down, and the writer's core hears of the store's. -/
def Obligations.StoreEvents : Prop := ∀ (s : State) (x : Tx), s.tx x.id = some x →
  let base := 128 * x.line
  ((∃ a ∈ x.after, s.acked a.1 a.2 = false) → Gives .dirStore (.dirStore x.id) s (fun s => s.wait (.dirStore x.id))) ∧
  (isCellar base = false → x.world = 0x7F → x.after = [] → x.atom = none → s.outsider x = none → s.halvesMissing base 128 true = [] → s.invalBusy x.slice x.line = false →
    ∀ l, s.l2At x.slice x.line 0x7F = some l → Happens .dirStore (.dirStore x.id) s (fun t => t.mem = s.mem ∧ t.core = s.core ∧ t.l2At x.slice x.line 0x7F = some { l with data := patchLine l.data x.bytes, pois := (patchData l.data l.pois x.bytes x.pois).2 } ∧
      (∃ y, t.tx x.id = some y ∧ y.own = dirCores (x.slice / 32) l.dir ∧ y.bytes = x.bytes ∧ y.atHome = x.atHome) ∧ Ev.homeStore x.id ∈ t.ctl.agenda ∧
      ∀ c ∈ dirCores (x.slice / 32) l.dir, Ev.l1Update c x.id ∈ t.ctl.agenda)) ∧
  (isCellar base = true → x.world = 0x7F → x.after = [] → x.atom = none → x.pois = [] → s.outsider x = none →
    Happens .dirStore (.dirStore x.id) s (fun t => t.mem = Memory.patch s.mem base x.bytes ∧ ∃ y, t.tx x.id = some y ∧ y.atHome = true ∧ y.homeDone = true)) ∧
  (x.drop = false → s.outsider x = none → x.atom = none → x.bytes ≠ [] → isHost base = false → isCellar base = false → s.aliasesOn x.line = [] → s.dephHomes x.line = [] →
    (∀ u ∈ s.coh.txs, u.line = x.line → u.id ≠ x.id → u.waitSrc = []) → s.recording x.line = false → s.lineOpen x.line = false → (x.core = 384 → x.after = []) → (s.mscFill x.line).2 = true →
    (x.core ≤ 384 ∨ (x.line, x.id + 1) ∈ s.coh.pins ∨ s.pinRoom x.line = true) →
    let others := (dirSlices ((tget s.coh.hdir x.line).getD noDir)).filter (fun k => k != x.slice)
    Happens .homeStore (.homeStore x.id) s (fun t => t.mem = Memory.patch s.mem base x.bytes ∧ t.core = s.core ∧ (∀ k ∈ others, Ev.l2HomeUpdate k x.id ∈ t.ctl.agenda) ∧
      (others = [] → Ev.homeAck x.id ∈ t.ctl.agenda) ∧ ∃ y, t.tx x.id = some y ∧ y.atHome = true ∧ y.others = others.map (fun k => (k, [])))) ∧
  (x.drop = false → s.outsider x = none → isHost base = false → s.lineOpen x.line = true → (x.core = 384 → x.after = []) → Gives .homeStore (.homeStore x.id) s (fun s => s.wait (.homeStore x.id))) ∧
  (∀ k l, s.l2At k x.line 0x7F = some l → Happens .l2HomeUpdate (.l2HomeUpdate k x.id) s (fun t => t.mem = s.mem ∧ t.core = s.core ∧
    t.l2At k x.line 0x7F = some (let d := patchData l.data l.pois (x.bytes.filter (fun e => !(s.ownPending k x.line x.id).contains e.1)) x.pois
      { l with data := d.1, pois := d.2 }) ∧ ∀ c ∈ dirCores (k / 32) l.dir, Ev.l1Update c x.id ∈ t.ctl.agenda)) ∧
  (∀ c b, c ∈ x.own → x.slice = sliceFor (c / 128) x.line → x.inval = false → x.core < 384 → Gives .dirAck (.dirAck x.id c b) s (fun s =>
    (s.updTx x.id (fun _ => { x with own := x.own.erase c })).checkAcks x.id)) ∧
  (x.core < 384 → Gives .homeAck (.homeAck x.id) s (fun s => (s.updTx x.id (fun t => { t with homeDone := true })).checkAcks x.id)) ∧
  Gives .storeAck (.storeAck x.id 0) s (fun s => (s.updTx x.id (fun t => { t with ackStack := true })).reap x.id) ∧
  Gives .storeAck (.storeAck x.id 1) s (fun s => (s.updTx x.id (fun t => { t with ackStack := true, ackPkg := true, l1 := true })).reap x.id)

/-- An atomic (R98, R161, R329, R330): below PACKAGE at its slice, at PACKAGE, the scope without QUAL (R332), and SYSTEM at its home; the line there gets the new value, and so does the slice's copy, and every L1 and L2 sharer an update of it, the thread's forwarding entry holds it, and the old one returns, to be written to the lane registers that D names. -/
def Obligations.AtomicEvents : Prop := ∀ (s : State) (x : Tx) (a : AtomOp), s.tx x.id = some x → x.atom = some a →
  let n := if a.ty = 2 ∨ a.ty = 3 ∨ a.ty = 5 then 8 else 4
  (isCellar (128 * x.line) = false → x.world = 0x7F → x.after = [] → s.outsider x = none → a.scope < 5 → s.halvesMissing (128 * x.line) 128 true = [] → s.invalBusy x.slice x.line = false → ∀ l, s.l2At x.slice x.line 0x7F = some l →
    let old := fieldOf l.data a.off n
    let p := patchOf a.off (leBytes n (atomNew faddBits a old))
    Happens .dirStore (.dirStore x.id) s (fun t => t.mem = s.mem ∧ (∃ m, t.l2At x.slice x.line 0x7F = some m ∧ m.data = patchLine l.data p) ∧
      (∃ y, t.tx x.id = some y ∧ y.done = some old ∧ y.bytes = p ∧ y.own = dirCores (x.slice / 32) l.dir) ∧ Ev.atomicReturn x.id ∈ t.ctl.agenda ∧ Ev.homeStore x.id ∈ t.ctl.agenda ∧
      ∀ c ∈ dirCores (x.slice / 32) l.dir, Ev.l1Update c x.id ∈ t.ctl.agenda)) ∧
  (isCellar (128 * x.line) = false → x.world = 0x7F → x.after = [] → s.outsider x = none → 5 ≤ a.scope → s.halvesMissing (128 * x.line) 128 true = [] → s.invalBusy x.slice x.line = false → ∀ l, s.l2At x.slice x.line 0x7F = some l →
    Gives .dirStore (.dirStore x.id) s (fun s => (s.l2Use x.slice x.line 0x7F x.cp false).send (.homeStore x.id))) ∧
  (x.drop = false → s.outsider x = none → x.done = none → isHost (128 * x.line) = false → isCellar (128 * x.line) = false → s.aliasesOn x.line = [] → s.dephHomes x.line = [] →
    (∀ u ∈ s.coh.txs, u.line = x.line → u.id ≠ x.id → u.waitSrc = []) → s.recording x.line = false → s.lineOpen x.line = false → x.core < 384 → (s.mscFill x.line).2 = true →
    let old := fieldOf (s.bytesAt (128 * x.line) 128) a.off n
    let p := patchOf a.off (leBytes n (atomNew faddBits a old))
    let others := (dirSlices ((tget s.coh.hdir x.line).getD noDir)).filter (fun k => k != x.slice)
    Happens .homeStore (.homeStore x.id) s (fun t => t.mem = Memory.patch s.mem (128 * x.line) p ∧ Ev.atomicReturn x.id ∈ t.ctl.agenda ∧ (∀ k ∈ others, Ev.l2HomeUpdate k x.id ∈ t.ctl.agenda) ∧
      (∃ y, t.tx x.id = some y ∧ y.done = some old ∧ y.bytes = p ∧ y.atHome = true ∧ y.others = others.map (fun k => (k, []))) ∧
      ∀ l, s.l2At x.slice x.line 0x7F = some l →
        (∃ m, t.l2At x.slice x.line 0x7F = some m ∧ m.data = patchLine l.data (p.filter (fun e => !(s.ownPending x.slice x.line x.id).contains e.1))) ∧
        ∀ c ∈ dirCores (x.slice / 32) l.dir, Ev.l1Update c x.id ∈ t.ctl.agenda)) ∧
  (∀ old d g, x.done = some old → x.lost = false → a.dst = some d → d < 64 → s.gang x.core x.slot = some g → Happens .atomicReturn (.atomicReturn x.id) s (fun t => t.mem = s.mem ∧ ∃ y, t.gang x.core x.slot = some y ∧
    y.reg d x.lane = clean (BitVec.ofNat 32 old) ∧ (n = 8 → d + 1 < 64 → y.reg (d + 1) x.lane = clean (BitVec.ofNat 32 (old / 2 ^ 32))) ∧
    ∀ r k, (r ≠ d ∧ r ≠ d + 1 ∨ k ≠ x.lane) → r < 96 → k < 32 → x.lane < 32 → y.reg r k = g.reg r k))

/-- Releases, errors and hotness (R97, R105, R106, R109, R153): a release is over once all its stores are acknowledged at its scope, and an acquire once the loads have returned (its slot's group is freed when nothing of it is left); the drain of a full slot ends with its releases; a corrected error is
logged and changes nothing, one that loses memory's data leaves poison and is logged, in the pinned image a recovery reload follows (R51), one that loses a directory entry sends the line out as a victim, at its slice or its home; a patrol comes again in 24 hours; HSCTL is written under R109's rules (that a sample still waiting for the ring is dropped as EN rises is the model's choice, log 4). -/
def Obligations.ReleaseAndErrorEvents : Prop := ∀ (s : State) (r : Rel) (c g kind addr aux t : Nat) (v : DWord),
  (s.coh.rels.find? (fun x => x.id == r.id) = some r →
    (r.txs.all (fun x => s.acked x r.scope) = true → r.acq = false → Gives .releaseComplete (.releaseComplete r.id) s (fun s =>
      ({ s with coh.rels := s.coh.rels.filter (fun x => x.id != r.id) }.updThread r.core r.slot r.lane (fun t => if t.hold = Hold.release r.id then { t with hold := .none, stamp := s.ctl.freeCtr } else t)).freeSlot r.core r.slot)) ∧
    (r.txs.all (fun x => s.acked x r.scope) = true → r.acq = true → s.loadsPending r.core r.slot r.lane = false → Gives .releaseComplete (.releaseComplete r.id) s (fun s =>
      (({ s with coh.rels := s.coh.rels.filter (fun x => x.id != r.id) }.acquire r.core r.slot r.lane).updThread r.core r.slot r.lane (fun t => if t.hold = Hold.release r.id then { t with hold := .none, stamp := s.ctl.freeCtr } else t)).freeSlot r.core r.slot)) ∧
    (r.txs.all (fun x => s.acked x r.scope) = false ∨ (r.acq = true ∧ s.loadsPending r.core r.slot r.lane = true) →
      Gives .releaseComplete (.releaseComplete r.id) s (fun s => s.wait (.releaseComplete r.id)))) ∧
  ((∀ x ∈ s.coh.rels, ¬ (x.core = c ∧ x.slot = g ∧ x.scope = 4)) → Gives .storeEntryDrainComplete (.storeEntryDrainComplete c g) s id) ∧
  ((∃ x ∈ s.coh.rels, x.core = c ∧ x.slot = g ∧ x.scope = 4) → Gives .storeEntryDrainComplete (.storeEntryDrainComplete c g) s (fun s => s.wait (.storeEntryDrainComplete c g))) ∧
  (kind ≠ 0 → kind < 4 ∨ 6 < kind → Gives .softError (.softError kind addr aux false) s (fun s => s.logMemCe (errSource kind addr aux) kind addr false)) ∧
  (Gives .softError (.softError 9 addr aux true) s (fun s => (s.setPoison (addr / 8) true).logMemUe (errSource 9 addr aux) 9 addr)) ∧
  (10 ≤ kind →
    let lost := fun s : State => ((List.range 16).foldl (fun (s : State) w => s.setPoison (16 * (addr / 128) + w) true) s).logMemUe (errSource kind addr aux) kind addr
    ((addr / 128, 0) ∉ s.coh.pins → Gives .softError (.softError kind addr aux true) s lost) ∧
    ((addr / 128, 0) ∈ s.coh.pins → Gives .softError (.softError kind addr aux true) s (fun s => (lost s).send (.imageLineUe (addr / 128))))) ∧
  (let here := s.coh.l2.filter (fun l => l.slice == aux && l.line == addr / 128)
   isCellar (128 * (addr / 128)) = false →
    (here ≠ [] → Gives .softError (.softError 2 addr aux true) s (fun s =>
      (here.foldl (fun (s : State) l => s.l2Inval aux (addr / 128) l.world) s).logMemUe (errSource 2 addr aux) 2 addr)) ∧
    (here = [] → Gives .softError (.softError 2 addr aux true) s (fun s => (s.purge (addr / 128)).logMemUe (errSource 2 addr aux) 2 addr))) ∧
  Gives .patrolScrub .patrolScrub s (fun s => s.after 146880000000000 .patrolScrub) ∧
  Gives .hsctlWrite (.hsctlWrite t v) s (fun s =>
    let old := nget 0 s.ten.hsctl t
    let new := hsctlValue old v.toNat
    { s with ten.hsctl := nset 0 s.ten.hsctl t new, ten.hsWait := if bit old 0 = false ∧ bit new 0 = true then s.ten.hsWait.filter (fun w => w.1 != t) else s.ten.hsWait }) ∧
  (∀ old new : DWord, let r := BitVec.ofNat 64 (hsctlValue old.toNat new.toNat)
    (old.getLsbD 0 = true → r.extractLsb' 7 9 = old.extractLsb' 7 9) ∧ r.extractLsb' 16 16 = new.extractLsb' 16 16 ∧
    (old.getLsbD 0 = false → r.extractLsb' 7 9 = new.extractLsb' 7 9 ∧ (r.getLsbD 0 = true ↔ new.getLsbD 0 = true ∧ 4 ≤ (new.extractLsb' 11 5).toNat ∧
      (new.extractLsb' 11 5).toNat ≤ 20 ∧ 6 ≤ (new.extractLsb' 7 4).toNat)))

/-- Copy aliases in the making (R112, R117, R118, R120, R121): a piece asks the homes of its source, composes with the identity entries they answer, marks its source lines with its home in DEPH once the stores that have been acknowledged are there (R162), has its holds released and installs its
entries, which change no byte of memory; as does one that has become a write of an outsider, which is dropped (R84, R123); the source-write steps of its destination lines come first (R118, R405); a source write has the dependents materialised, clears DEPH with the last answer and goes on before the writes of its line that came after it (R320); a hot entry is materialised once its home has no request pending, and counted when it is freed. -/
def Obligations.AliasEvents : Prop := ∀ (s : State) (p : Piece) (c : Cmd) (h line : Nat) (v : DWord), s.piece p.id = some p → s.cmd p.cmd = some c →
  let e := p.entry
  let ext := aliasExtent e
  (p.stage = 0 → (∀ l ∈ e.lines, s.pinRoom l = true) → s.pieceOutsider c e = none → (∀ q ∈ s.ali.pieces, q.id < p.id → 1 ≤ q.stage → meet q.entry.range e.range = false) → s.usedSoon e.home p.id < s.ali.limit → meet ext e.range = false → isHbm e.dbase = true → isHbm (e.dbase + e.len - 1) = true → isHbm ext.1 = true →
    isHbm (ext.1 + ext.2 - 1) = true → s.worldSources e = [] → (∀ l ∈ e.lines, s.aliasesOn l = []) →
    Gives .aliasRecord (.aliasRecord p.id) s (fun s => (s.updPiece p.id (fun p => { p with stage := 1, parts := [], asked := [], due := rangeHomes ext.1 ext.2, stale := false, failed := false, marks := [], caught := [] })).sendAll
      ((rangeHomes ext.1 ext.2).map (fun h => .aliasResolve p.id h)))) ∧
  (p.stage = 4 → p.stale = false → s.pieceOutsider c e = none → p.caught = [] → (∀ l ∈ s.coh.l2, l.line ∉ e.lines) → (∀ t ∈ s.coh.txs, t.inval = true → t.line ∉ e.lines) → (∀ l ∈ e.lines, s.aliasesOn l = [] ∧ s.dephHomes l = []) →
    Happens .aliasRecord (.aliasRecord p.id) s (fun t => t.ali.entries = s.ali.entries ++ p.parts ∧ t.mem = s.mem ∧ (∀ q ∈ t.ali.pieces, q.id ≠ p.id) ∧
      ∀ l ∈ e.lines, p.parts.any (fun x => meet (aliasExtent x) (128 * l, 128)) = true → bit (nget 0 t.mm.deph l) e.home = true)) ∧
  (p.stage = 4 → p.stale = false → ∀ w, s.pieceOutsider c e = some w → Gives .aliasRecord (.aliasRecord p.id) s (fun s => (s.sealWr (128 * w.2) w.1 c.tenant).pieceDone p)) ∧
  (p.stage = 4 → p.stale = false → s.pieceOutsider c e = none → (∀ l ∈ s.coh.l2, l.line ∉ e.lines) → (∀ t ∈ s.coh.txs, t.inval = true → t.line ∉ e.lines) → e.lines = [line] → s.dephHomes line ≠ [] →
    Gives .aliasRecord (.aliasRecord p.id) s (fun s => (s.askSources line).wait (.aliasRecord p.id))) ∧
  (p.stage = 1 → e.xform = 0 → s.ali.entries = [] → Happens .aliasResolve (.aliasResolve p.id h) s (fun t => t.mem = s.mem ∧ Ev.aliasResolveReply p.id h ∈ t.ctl.agenda ∧
    ∃ q, t.piece p.id = some q ∧ q.asked = p.asked ++ [h] ∧ q.parts = p.parts ++ (homeParts e.sbase e.len h).flatMap (fun g => if g.1 < g.2 then [composePart e (g.1, g.2 - g.1, none)] else []))) ∧
  (∀ a n x, (composePart e (a, n, none)).sbase = a ∧ (x.xform = 0 → (composePart e (a, n, some x)).sbase = x.sbase + (a - x.dbase)) ∧
    (composePart e (a, n, some x)).dbase = e.dbase + (a - e.sbase) ∧ (composePart e (a, n, some x)).len = n) ∧
  (p.stage = 1 → p.due.drop 1 ≠ [] → Gives .aliasResolveReply (.aliasResolveReply p.id h) s (fun s => s.updPiece p.id (fun q => { q with due := p.due.drop 1 }))) ∧
  (p.stage = 2 → p.due.drop 1 ≠ [] → Gives .marked (.marked p.id line) s (fun s => s.updPiece p.id (fun q => { q with due := p.due.drop 1 }))) ∧
  (p.stage = 2 → p.due.drop 1 = [] → p.asked = [] → Gives .marked (.marked p.id line) s (fun s => (s.updPiece p.id (fun q => { q with due := [], stage := 4 })).send (.aliasRecord p.id))) ∧
  (p.stage = 2 → p.due.drop 1 = [] → p.asked ≠ [] → Gives .marked (.marked p.id line) s (fun s =>
    (s.updPiece p.id (fun q => { q with due := [], stage := 3 })).sendAll (p.asked.map (fun h => .holdRelease p.id h)))) ∧
  (p.stage = 2 → s.granuleBusy (line / 32) = true ∨ s.granuleOwed (line / 32) = true → Gives .mark (.mark p.id line) s (fun s => s.wait (.mark p.id line))) ∧
  (p.stage = 2 → s.granuleBusy (line / 32) = false → s.granuleOwed (line / 32) = false → s.partWorlds p (line / 32) = [] → Happens .mark (.mark p.id line) s (fun t => t.mem = s.mem ∧ Ev.marked p.id line ∈ t.ctl.agenda ∧
    ∀ l, l / 32 = line / 32 → p.parts.any (fun x => meet (aliasExtent x) (128 * l, 128)) = true → bit (nget 0 t.mm.deph l) e.home = true)) ∧
  (p.stage = 3 → p.asked = [h] → (∀ x ∈ s.ali.entries, x.holders.Nodup) → Happens .holdRelease (.holdRelease p.id h) s (fun t => t.mem = s.mem ∧ Ev.aliasRecord p.id ∈ t.ctl.agenda ∧
    (∃ q, t.piece p.id = some q ∧ q.stage = 4 ∧ q.asked = []) ∧ ∀ x ∈ t.ali.entries, x.home = h → p.id ∉ x.holders)) ∧
  Gives .srcw (.srcw h line) s (fun s => (s.srcMaterialise h line).send (.srcack line h)) ∧
  (∀ x, s.coh.txs = [x] → x.line = line → x.waitSrc = [h] → (∀ a ∈ s.ali.srcAcks, a.1 ≠ line ∧ a.2 ≠ []) → Happens .srcack (.srcack line h) s (fun t =>
    t.mem = s.mem ∧ nget 0 t.mm.deph line = 0 ∧ t.ctl.waiting = .homeStore x.id :: s.ctl.waiting ∧ ∀ y ∈ t.coh.txs, y.waitSrc = [])) ∧
  (s.coh.txs = [] → s.ali.srcAcks = [(line, [h])] → Gives .srcack (.srcack line h) s (fun s =>
    { s with ali.srcAcks := [], mm.deph := nset 0 s.mm.deph line 0 })) ∧
  (∀ db, s.ali.queue = [(h, db)] →
    let hot := s.ali.entries.find? (fun e => e.home == h && e.dbase == db && e.hot && !e.left.isEmpty)
    (s.ali.hot = 0 ∨ s.homeBusy h = true → Gives .hotMaterialise (.hotMaterialise h) s (fun s => s.wait (.hotMaterialise h))) ∧
    (s.ali.hot ≠ 0 → s.homeBusy h = false →
      (hot = none → Gives .hotMaterialise (.hotMaterialise h) s (fun s => { s with ali.queue := [] })) ∧
      (∀ x, hot = some x → Gives .hotMaterialise (.hotMaterialise h) s (fun s =>
        let t := { s with ali.queue := [] }.materialise x (aliasLines x)
        if x.hold then t else { t with ali.hotmat := nset 0 t.ali.hotmat h (min 0xFFFF (nget 0 t.ali.hotmat h + 1)) })))) ∧
  Gives .catctlWrite (.catctlWrite v) s (fun s => { s with ali.limit := min 8192 (v.extractLsb' 16 14).toNat, ali.hot := (v.extractLsb' 0 8).toNat })

/-- Walks and faults (R131, R135, R139 to R142): a walk whose reads find their ways open, and whose update of A and D finds its line free, installs its translation with A and D set, or opens a
fault entry, and waits otherwise; a completion of the host does the same, or sends the page request of the entry; a fresh entry is numbered by the lowest free
FID (that it is the lowest is the model's choice, log 23); RETRY lets every waiting thread of the context go at its first word and frees the entry; KILL ends the launch; a reply to no outstanding entry is BADREPLY, with the value written; a page request group's answer is RETRY, or hands the entry on as ATSDENY. -/
def Obligations.FaultEvents : Prop := ∀ (s : State) (w : Walk) (c f v : Nat),
  (s.xl.walks.find? (fun x => x.id == w.id) = some w → w.fault = none →
    (w.ats = false → ∀ pa attr a d, s.walkVa w.tenant w.va w.acc = .ok pa attr a d none → Gives .pageWalkComplete (.pageWalkComplete w.id) s (fun s =>
      let r := s.walkOver w
      if r.2 then (r.1.installTlb w.stack w.tenant w.va pa 12 attr a d).dropWalk w.id else r.1.wait (.pageWalkComplete w.id))) ∧
    (w.ats = false → ∀ pa attr a d at_ v, s.walkVa w.tenant w.va w.acc = .ok pa attr a d (some (at_, v)) → Gives .pageWalkComplete (.pageWalkComplete w.id) s (fun s =>
      let r := s.walkOver w
      if r.2 = false then r.1.wait (.pageWalkComplete w.id)
      else if r.1.storeReady at_ 8 then ((r.1.devStore at_ (leBytes 8 v) none).installTlb w.stack w.tenant w.va pa 12 attr a d).dropWalk w.id
      else (r.1.storeNeed at_ 8).wait (.pageWalkComplete w.id))) ∧
    (w.ats = false → ∀ hs st, s.walkVa w.tenant w.va w.acc = .need hs st → Gives .pageWalkComplete (.pageWalkComplete w.id) s (fun s => (s.askHalves hs st).wait (.pageWalkComplete w.id))) ∧
    (w.ats = false → w.ctx ≠ 0xFFFF → ((s.hears (.pageWalkComplete w.id)).walkOver w).2 = true → ∀ n cause k, s.walkVa w.tenant w.va w.acc = .fault cause k → s.faultFor w.ctx w.va cause = none → s.freeFid w.ctx = some n →
      Happens .pageWalkComplete (.pageWalkComplete w.id) s (fun t => (∃ e ∈ t.xl.faults, e.ctx = w.ctx ∧ e.fid = n ∧ e.va = w.va ∧ e.cause = cause ∧ e.acc = w.acc) ∧
        (∃ x, t.xl.walks.find? (fun x => x.id == w.id) = some x ∧ x.fault = some cause ∧ x.fid = some n ∧ x.fattr = k) ∧ t.core = s.core)) ∧
    (w.ats = true → w.again = true → ∀ r wr pa size, Gives .atsTranslationCompletion (.atsTranslationCompletion w.id r wr pa size) s (fun s =>
      (s.updWalk w.id (fun x => { x with again := false })).toHost (.translate w.id (s.tPasid w.tenant) w.va (accWrites w.acc)))) ∧
    (w.ats = true → w.again = false → ∀ r wr pa size, (if w.acc = 3 then r else if accWrites w.acc then wr else r) = true →
      let addr := hostPa (s.tPort w.tenant) (pa / 2 ^ size * 2 ^ size + w.va % 2 ^ size)
      isMapped addr = true → Gives .atsTranslationCompletion (.atsTranslationCompletion w.id r wr pa size) s (fun s =>
        (s.installTlb w.stack w.tenant w.va addr (min size 12) { fattr := 0, stbl := false, uncached := false, size := size, r := r, w := wr, x := r } true wr).dropWalk w.id))) ∧
  ((∀ w ∈ s.xl.walks, w.ctx = c → w.fault = none ∨ w.fid ≠ none) → (∀ t ∈ s.core.toks, t.ctx = c → ∀ l ∈ t.lanes, l.walk = none) → Gives .faultEntryWaitFree (.faultEntryWaitFree c) s (fun s =>
    { s with core.gangs := s.core.gangs.map (fun (g : Gang) => if g.ctx = c then
      { g with threads := g.threads.map (fun (t : Thread) => if t.hold = Hold.noEntry then { t with hold := .none, stamp := s.ctl.freeCtr } else t) } else g) }.wakeSaved (fun x => x.ctx == c) Hold.noEntry)) ∧
  (s.outstanding c f = false →
    let bad := fun s : State => s.badReply ((s.launch c).map (fun l => l.tenant)) 2 0xC030 v
    Gives .freplyRetry (.freplyRetry c f (some v)) s bad ∧ Gives .freplyKill (.freplyKill c f v) s bad) ∧
  (∀ e, s.faultEnt c f = some e → e.cause < answered → Gives .freplyKill (.freplyKill c f v) s (fun s => s.endLaunch c 4) ∧
    (s.refills c f = [] → s.lateLanes c f = [] → (∀ t ∈ s.core.toks, t.grp ≠ refillGrp c f) → (∀ x ∈ s.run.saved, x.ctx ≠ c) → tget s.xl.freply (c, f) = none →
      (∀ g ∈ s.core.gangs, g.restoring = false) → Happens .freplyRetry (.freplyRetry c f (some v)) s (fun t => t.faultEnt c f = none ∧ t.mem = s.mem ∧
        ∀ core slot lane g, s.gang core slot = some g → g.ctx = c → (g.thread lane).status = .faultwait → (g.thread lane).fid = f →
          (t.thread core slot lane).status = .runnable ∧ (t.thread core slot lane).pc = (g.thread lane).pc ∧ (e.cause = 0x0C → (t.thread core slot lane).brkPass = true)))) ∧
  (∀ n e, s.xl.faults.find? (fun f => f.prg == some n && decide (f.cause < answered)) = some e →
    Gives .prgResponse (.prgResponse n true) s (fun s => ((s.updFault e.ctx e.fid (fun f => { f with prg := none })).markAnswered e.ctx e.fid).urge (.freplyRetry e.ctx e.fid none)) ∧
    Gives .prgResponse (.prgResponse n false) s (fun s => (s.updFault e.ctx e.fid (fun f => { f with prg := none, cause := 0x09 })).logFault e.ctx (8 + s.tPort (s.tenantOfCtx e.ctx))
      [(24, 8, e.va), (22, 2, e.ctx), (20, 2, e.fid), (19, 1, 0x09), (18, 1, e.acc)])) ∧
  (∀ n b, (∀ f ∈ s.xl.faults, f.prg ≠ some n) → Gives .prgResponse (.prgResponse n b) s id)

/-- Invalidation (R143 to R146, R148): a shootdown under way refuses another, which is logged; DTINV waits behind the one under way, 16 at most, a further write waiting with its writer, and ignores reserved sizes; what is removed leaves every TLB; once everything that used it has drained the
acknowledgement word of a shootdown is stored, zero-extended, and BUSY clears once that store is acknowledged at SYSTEM, or the host told, or INVDONE logged; a written region line leaves as a store of its gang. -/
def Obligations.InvalidationEvents : Prop := ∀ (s : State) (v : DWord) (i : Inval) (port pasid va order core slot k j : Nat) (x : Gang),
  let fresh := fun (kind : Nat) (v : DWord) (p : Nat) => { id := 0, kind := kind, v := v, port := p, rels := [], txs := [], toks := [], cmds := [], runs := [], fills := [] : Inval }
  (s.xl.sdctl.getLsbD 1 = true → Gives .shootdownStart (.shootdownStart v) s (fun s => s.logEvent 256 2 0x43 none [(24, 8, v.toNat)])) ∧
  (s.xl.sdctl.getLsbD 1 = false → Gives .shootdownStart (.shootdownStart v) s (fun s => { s with xl.sdctl := (v &&& 0xFFFFFFFFFFFFFF01) ||| 2 }.startInval (fresh 0 v 0))) ∧
  (10 ≤ v.toNat % 16 → v.toNat % 16 ≤ 14 → Gives .dtinvWrite (.dtinvWrite v) s id) ∧
  (v.toNat % 16 < 10 ∨ v.toNat % 16 = 15 →
    ((∀ i ∈ s.xl.invals, i.kind ≠ 2) → Gives .dtinvWrite (.dtinvWrite v) s (fun s => s.startInval (fresh 2 v 0)) ∧
      (v.toNat % 16 = 15 → Happens .dtinvWrite (.dtinvWrite v) s (fun t => ∀ e ∈ t.xl.tlb, ¬ (e.tenant = (v.extractLsb' 4 8).toNat ∧ bit e.va 56 = true)))) ∧
    ((∃ i ∈ s.xl.invals, i.kind = 2) → s.xl.dtq.length < 16 → Gives .dtinvWrite (.dtinvWrite v) s (fun s => { s with xl.dtq := s.xl.dtq ++ [v] })) ∧
    ((∃ i ∈ s.xl.invals, i.kind = 2) → 16 ≤ s.xl.dtq.length → Gives .dtinvWrite (.dtinvWrite v) s (fun s => s.wait (.dtinvWrite v)))) ∧
  Gives .atsInvalidationRequest (.atsInvalidationRequest port pasid va order) s (fun s => s.startInval (fresh 1 (BitVec.ofNat 64 (va % 2 ^ 64 / 2 ^ 12 * 2 ^ 12 + min 64 order)) (port + 2 * pasid))) ∧
  (s.xl.invals.find? (fun x => x.id == i.id) = some i →
    let off := fun s : State => { s with xl.invals := s.xl.invals.filter (fun x => x.id != i.id) }
    ((∃ g ∈ s.core.issue, g.id ∈ i.runs ∧ s.holdsRemoved i g = true) → Gives .shootdownDrainComplete (.shootdownDrainComplete i.id) s (fun s => s.wait (.shootdownDrainComplete i.id))) ∧
    (i.runs = [] →
    (s.invalDrained i = false → Gives .shootdownDrainComplete (.shootdownDrainComplete i.id) s (fun s => s.wait (.shootdownDrainComplete i.id))) ∧
    (s.invalDrained i = true → i.kind = 0 → Gives .shootdownDrainComplete (.shootdownDrainComplete i.id) s (fun s =>
      let u := (off s).devStore (hostPa 0 s.xl.sdack.toNat) (leBytes 8 (i.v.extractLsb' 32 32).toNat) none
      { u with xl.invals := u.xl.invals ++ [{ fresh 3 i.v i.port with id := i.id, txs := [s.ctl.nextId] }] }.send (.shootdownDrainComplete i.id))) ∧
    (s.invalDrained i = true → i.kind = 1 → Gives .shootdownDrainComplete (.shootdownDrainComplete i.id) s (fun s => (off s).toHost (.invDone (i.port % 2) (i.port / 2) (i.v.toNat / 2 ^ 12 * 2 ^ 12)))) ∧
    (s.invalDrained i = true → i.kind = 2 → s.xl.dtq = [] → Gives .shootdownDrainComplete (.shootdownDrainComplete i.id) s (fun s => (off s).logEvent 256 2 0x44 none [(24, 8, i.v.toNat)])) ∧
    (s.invalDrained i = true → i.kind = 3 → Gives .shootdownDrainComplete (.shootdownDrainComplete i.id) s (fun s => { off s with xl.sdctl := s.xl.sdctl &&& 0xFFFFFFFFFFFFFFFD })))) ∧
  (s.gang core slot = some x →
    let d := (x.regions.drop k).headD { rgva := 0, rgcf := 0 }
    let line := (d.rgcf.extractLsb' 0 11).toNat + j
    let va := (d.rgva.toNat / 128 * 128 + 128 * j) % 2 ^ 64
    d.rgcf.getLsbD 31 = true → d.rgcf.getLsbD 30 = true → line ∈ x.written → ∀ pa attr, s.xlate (stackOf core) (s.tenantOfCtx x.ctx) x.ctx va 7 = .ok pa attr →
      Gives .regionWriteback (.regionWriteback core slot k j) s (fun s => (s.writeLine x line va pa attr.uncached).wait (.regionWriteback core slot k j)))

/-- Placing, binding and stealing (R166, R168 to R172): a TCB in the Reeve goes to the coolest candidate, hot columns only where every candidate is hot, then the shorter queue, then the lower column; the first TCB of a cluster's scan that fits is
bound, its gang in a gang slot with its save blocks and a thread in each live lane; a cluster without work asks the victims of its own stack first, each gives half of what may move from its queue's tail, and a thief that gets nothing
tries again after 4,096 cycles. -/
def Obligations.SchedulingEvents : Prop := ∀ (s : State) (n c v : Nat) (l : Launch) (t : TCB),
  let hot := fun (c : Nat) => bit ((s.pkg.tcol.drop c).headD 0).toNat 30
  let key := fun (c : Nat) => (s.tempKey c * 2 ^ 32 + s.queued c) * 96 + c
  (s.tcb n = some t → s.launch t.ctx = some l → t.pinned = false → t.place = 96 → t.state = 0 → s.savedGroup t = none → l.est = none → l.unitCut t = true → s.coolest (s.candidates l t) = some c →
    Happens .tcbPlace (.tcbPlace n) s (fun u => u.core = s.core ∧ u.mem = s.mem ∧ ∃ x ∈ u.run.tcbs, x.id = t.id ∧ x.place = c ∧ x.state = 0 ∧ x.ctx = t.ctx ∧ x.first = t.first ∧ x.ngrp = t.ngrp)) ∧
  (∀ cs, s.coolest cs = some c → c ∈ cs ∧ (hot c = true → ∀ d ∈ cs, hot d = true) ∧ ∀ d ∈ cs, hot d = hot c → key c ≤ key d) ∧
  (∀ rest p x bs, s.scanOrder c = t :: rest → s.launch t.ctx = some l → t.state = 0 → s.savedGroup t = none → t.pinned = false → t.place < 96 → l.plans t = [p] → s.fit l t [p] l.lrec.blocks = some [x] →
    s.freeBlocks l.lrec.blocks = some bs → Happens .tcbBind (.tcbBind c) s (fun u => u.core.gangs = s.core.gangs ++ [s.newGang l t p x bs] ∧ u.run.blocks = s.run.blocks ++ bs ∧
      (∃ y ∈ u.run.tcbs, y.id = t.id ∧ y.state = 1) ∧ u.mem = s.mem ∧ u.core.issue = s.core.issue)) ∧
  (∀ p x bs, let g := s.newGang l t p x bs
    g.core = x.core ∧ g.slot = x.slot ∧ g.ctx = l.ctx ∧ g.wids = p.wids ∧ g.block = bs.headD 0 ∧ g.tblocks = bs.drop 1 ∧ g.size = 128 * x.lines ∧ (t.recs = [] → ∀ r lane, g.reg r lane = pzero) ∧
      ∀ i b, p.live[i]? = some b → (g.thread i).status = (if b then .runnable else .empty) ∧ (b = true → (g.thread i).pc = t.entry ∧ (g.thread i).first = true)) ∧
  (s.mayAsk c = true → ∀ w ws, victims c = w :: ws → Gives .stealRequest (.stealRequest c) s (fun s => { s with run.steals := tset s.run.steals c ws }.send (.stealServe w c))) ∧
  (s.mayAsk c = false → Gives .stealRequest (.stealRequest c) s id) ∧
  (c < 96 → (victims c).length = 95 ∧ (victims c).Nodup ∧ c ∉ victims c ∧ (∀ w ∈ (victims c).take 31, w / 32 = c / 32) ∧ (∀ w ∈ (victims c).drop 63, w / 32 = (c / 32 + 2) % 3)) ∧
  (∀ rest, tget s.run.steals c = some rest →
    let may := s.run.tcbs.filter (fun t => t.place == v && t.state == 0 && !t.pinned && s.waysOk t.wtag c)
    let take := may.drop (may.length - min (may.length / 2) (64 - s.queued c))
    (Ev.tcbBind v ∈ s.ctl.agenda → Gives .stealServe (.stealServe v c) s (fun s => s.wait (.stealServe v c))) ∧
    (Ev.tcbBind v ∉ s.ctl.agenda → take ≠ [] → Gives .stealServe (.stealServe v c) s (fun s =>
      (take.foldl (fun (s : State) t => s.enqueue t c) { s with run.steals := tdel s.run.steals c }).pokePlaces)) ∧
    (Ev.tcbBind v ∉ s.ctl.agenda → take = [] →
      (∀ w ws, rest = w :: ws → Gives .stealServe (.stealServe v c) s (fun s => { s with run.steals := tset s.run.steals c ws }.send (.stealServe w c))) ∧
      (rest = [] → s.run.launches ≠ [] → Gives .stealServe (.stealServe v c) s (fun s =>
        { s with run.steals := tdel s.run.steals c, ctl.timers := s.ctl.timers ++ [(s.ctl.time + 8192, .stealRetryTimer c)] })))) ∧
  (s.mayAsk c = true → Gives .stealRetryTimer (.stealRetryTimer c) s (fun s => s.send (.stealRequest c))) ∧
  (s.mayAsk c = false → Gives .stealRetryTimer (.stealRetryTimer c) s id)

/-- Pre-emption, parking and restore (R173 to R177, R386): when its timer expires, which is looked at again after each expiry (the model's choice, log 65), a launch takes, for the first of its TCBs that has waited 100 µs, counted from the launch's last bind or from when the TCB came to wait, and finds one, a group of the lowest class at least two below its own, of equals the one bound last; a reply that comes while a group is being saved is applied when it is restored, or when the saving is given up (R387); a group that stands still is written to its blocks and gives up its
slots; a parkable group goes the same way and is marked parked; a saved group comes back in its new slot with the registers, tags and threads of its block. -/
def Obligations.PreemptionEvents : Prop := ∀ (s : State) (c n : Nat) (l : Launch) (t : TCB),
  let saves := fun (u : State) (parked : Bool) (v : State) => ∀ g ∈ u.groupGangs c n, (∀ y ∈ v.core.gangs, ¬ (y.core = g.core ∧ y.slot = g.slot)) ∧
    ∃ x ∈ v.run.saved, x.ctx = c ∧ x.group = n ∧ x.gang = g.gang ∧ x.block = g.block ∧ x.tblocks = g.tblocks ∧ x.wids = g.wids ∧ x.parked = parked
  let draws := fun u : State => ∀ l, u.launch c = some l → l.est = none
  (s.launch c = some l → l.ending = none →
    let again := fun s : State => s.after 170000 (.preemptTimer c)
    (∀ u, u ∈ s.waitingTcbs l ↔ u ∈ s.run.tcbs ∧ u.ctx = l.ctx ∧ s.waits u = true ∧ max l.waitSince u.since + 170000 ≤ s.ctl.time) ∧
    ((∃ p ∈ s.run.preempts, p.2.2 = c) ∨ (∀ u ∈ s.waitingTcbs l, s.victimFor l u = none) → Gives .preemptTimer (.preemptTimer c) s again) ∧
    (∀ before after, s.waitingTcbs l = before ++ t :: after → (∀ u ∈ before, s.victimFor l u = none) → (∀ p ∈ s.run.preempts, p.2.2 ≠ c) →
      let cls := fun g : Gang => match s.launch g.ctx with | some l => l.cls | none => 0
      let there := if t.place = 96 then s.allowed l t else [t.place]
      let low := s.core.gangs.filter (fun g => there.contains (clusterOf g.core) && decide (cls g + 2 ≤ l.cls) && s.mayPreempt g)
      (low = [] ↔ s.victimFor l t = none) ∧
      (low ≠ [] → ∃ g ∈ low, (∀ h ∈ low, cls g ≤ cls h ∧ (cls h = cls g → h.bornAt ≤ g.bornAt)) ∧ Happens .preemptTimer (.preemptTimer c) s (fun u =>
        (g.ctx, g.group, c) ∈ u.run.preempts ∧ Ev.preemptSave g.ctx g.group ∈ u.ctl.agenda ∧ (∀ x ∈ u.core.gangs, x.ctx = g.ctx → x.group = g.group → x.preempt = true) ∧
          (s.ctl.time + 170000, .preemptTimer c) ∈ u.ctl.timers)))) ∧
  (s.groupGangs c n ≠ [] →
    let e := s.hears (.preemptSave c n)
    let u := (e.groupGangs c n).foldl (fun (s : State) g => s.stopWaiters g) e
    let still := (u.groupGangs c n).all (fun g => g.atRest && !u.atStop g)
    let q := (u.setSaving c n true).quiesce c n
    (still = false → exec .preemptSave e = .next ((u.setSaving c n false).wait (.preemptSave c n))) ∧
    (still = true → q.2 = false → exec .preemptSave e = .next (q.1.wait (.preemptSave c n))) ∧
    (still = true → q.2 = true → draws q.1 → Happens .preemptSave (.preemptSave c n) s (saves q.1 false))) ∧
  ((∃ p ∈ s.run.preempts, p.1 = c ∧ p.2.1 = n) → Gives .gangPark (.gangPark c n) s id) ∧
  (s.parkable c n = false → (∀ p ∈ s.run.preempts, ¬ (p.1 = c ∧ p.2.1 = n)) → Gives .gangPark (.gangPark c n) s (fun s => s.setSaving c n false)) ∧
  (s.parkable c n = true → (∀ p ∈ s.run.preempts, ¬ (p.1 = c ∧ p.2.1 = n)) →
    let q := ((s.hears (.gangPark c n)).setSaving c n true).quiesce c n
    (q.2 = false → exec .gangPark (s.hears (.gangPark c n)) = .next (q.1.wait (.gangPark c n))) ∧
    (q.2 = true → draws (q.1.parkStop c n) → Happens .gangPark (.gangPark c n) s (saves (q.1.parkStop c n) true))) ∧
  (∀ x pl p, s.run.saved.filter (fun x => x.ctx == c && x.group == n) = [x] → s.tcb x.tcb = some t → s.launch c = some l → t.state = 3 → t.place < 96 → s.restoreFit t = some ([pl], [p]) →
    (∀ e ∈ s.xl.freply, e.1.1 ≠ c) → (∀ h ∈ x.threads, h.reply = none) → s.groupGangs c n = [] → s.gang p.core p.slot = none →
    Happens .groupRestore (.groupRestore c n) s (fun u => u.core.gangs = s.core.gangs ++ [s.loadGang l t x p] ∧ (∀ y ∈ u.run.saved, ¬ (y.ctx = c ∧ y.group = n)) ∧ u.mem = s.mem ∧
      u.eng.tregs = s.eng.tregs ++ s.loadTiles (s.loadGang l t x p) x.tpois ∧ ∃ y ∈ u.run.tcbs, y.id = t.id ∧ y.state = 1)) ∧
  (∀ x p, let g := s.loadGang l t x p
    let b := s.bytesAs x.world x.block 32768
    g.core = p.core ∧ g.slot = p.slot ∧ (∀ r lane, r < 64 → lane < 32 → g.reg r lane = { val := BitVec.ofNat 32 (fieldOf b (128 * r + 4 * lane) 4), tag := BitVec.ofNat 32 (fieldOf b (0x4000 + 128 * r + 4 * lane) 4) }) ∧
      (∀ lane, lane < 32 → lane < x.threads.length → (g.thread lane).pc = fieldOf b (0x3400 + 32 * lane) 4 ∧ (g.thread lane).preds = fieldOf b (0x3404 + 32 * lane) 1))

/-- Runs, tokens, arrivals and deadlines (R148, R154, R178, R196, R206, R216, R220, R221, R281): the oldest ready thread of a core starts a run with the ready threads of its launch at its packet, once the run has been fetched whole and found without
fault, and a faulty run traps before any word of it executes; a run keeps the scratchpad as it stood at its start, from which its engine words read their blocks and records (R281, R359, R367); a token's results are written, the token is free and a thread that awaited it is ready from now on, but no load returns bytes of a plain store whose release is not complete (R154; that the load waits for it is the model's choice, log 79); an arrival word in a region line is filled first (R148; the lane of the fill is the model's choice, log 90) and counts, each time it reaches its target clearing its count by the target and raising its generation; a WAIT's time is up; a
thread past its deadline ends its launch with WATCHDOG. -/
def Obligations.RunEvents : Prop := ∀ (s : State) (c n k slot lane off ctx : Nat),
  (s.nb.heldCtx = none →
    (s.readyThreads c = [] → Gives .runStart (.runStart c) s id) ∧
    (∀ h L, oldest (s.readyThreads c) = some h → s.launch h.1.ctx = some L →
      (h ∈ s.readyThreads c ∧ ∀ e ∈ s.readyThreads c, (h.1.thread h.2).stamp ≤ (e.1.thread e.2).stamp) ∧
      let e := s.hears (.runStart c)
      let pc := (h.1.thread h.2).pc
      let ls := (groupAround (s.readyThreads c) h).map laneOf
      let g : Grp := { id := s.ctl.nextId, core := c, ctx := L.ctx, pc := pc, words := [], idx := 0, kext := [], qual := none, named := [], shifted := 0, fx := [], arith := [], stage := 0, stallTx := [],
                       trailer := false, pads := [], allocs := [], lanes := ls }
      ∀ u raw, State.fetchRun c L.tenant L.ctx L.world L.lrec.codebase 8 e.bump pc = (u, .words raw) →
        (∀ cause, runFault L.lrec raw = some cause → exec .runStart e = .next (u.coreTrap g cause ls)) ∧
        (runFault L.lrec raw = none → u.hazards c ls (runRegs raw) = [] → ∃ ws, exec .runStart e = .next (u.startGrp { g with words := ws }) ∧ ws.map (fun w => w.1) = uptoEnd (raw.take 24) ∧
          ∀ i w, ws[i]? = some w → w.2 = (pc + i / 3) % 2 ^ 32))) ∧
  (∀ g l x, s.gang g.core l.slot = some x → l.slot < 32 → l.lane < x.threads.length → l ∈ g.lanes → ((s.startGrp g).thread g.core l.slot l.lane).inRun = true ∧
    ∃ ps, (s.startGrp g).core.issue = s.core.issue ++ [{ g with pads := ps }] ∧ ∃ p ∈ ps, p.slot = l.slot ∧ p.spad = x.spad ∧ p.spois = x.spois ∧ p.valid = x.valid) ∧
  (∀ t x vs g, s.core.toks.find? (fun t => t.id == n) = some t → t.lanes = [x] → x.vals = some vs → x.drop = false → t.k < 8 → s.gang t.core x.slot = some g → (∃ h ∈ g.threads, h.live = true) →
    (∀ h ∈ g.threads, h.reply = none) →
    (t.dead = false → s.veiled t.core x.slot x.lane (lineOf x.pa) (x.pa % 128) t.size = false → Gives .tokenComplete (.tokenComplete n) s (fun s =>
      { s.updGang t.core x.slot (fun g => g.writeResults x.lane t.dst vs) with core.toks := s.core.toks.filter (fun y => y.id != n) }.updThread t.core x.slot x.lane
        (fun u => if u.status = Status.runnable ∧ u.inRun = false ∧ bit u.await t.k = true then { u with stamp := s.ctl.freeCtr } else u))) ∧
    (t.dead = false → s.veiled t.core x.slot x.lane (lineOf x.pa) (x.pa % 128) t.size = true → Gives .tokenComplete (.tokenComplete n) s (fun s => s.wait (.tokenComplete n))) ∧
    (t.dead = true → Gives .tokenComplete (.tokenComplete n) s (fun s => { s with core.toks := s.core.toks.filter (fun y => y.id != n) }))) ∧
  (∀ (g : Gang) vs i v, off + vs.length ≤ 64 → lane < 32 → vs[i]? = some v → (g.writeResults lane off vs).reg (off + i) lane = v) ∧
  (∀ (g : Gang) vs r l, (r < off ∨ off + vs.length ≤ r ∨ l ≠ lane) → l < 32 → lane < 32 → (g.writeResults lane off vs).reg r l = g.reg r l) ∧
  (∀ g, s.core.gangs.find? (fun g => g.core == c && g.alloc == k) = some g →
    let e := s.hears (.arrivalDelivery c k off n)
    ((e.fillFor g off).2 = true → exec .arrivalDelivery e = .next ((e.fillFor g off).1.updGang c g.slot
      (fun g => (g.spadPut off (leBytes 8 (arriveWord (leNat (g.spadBytes off 8)) n))).noteWrite off))) ∧
    ((e.fillFor g off).2 = false → exec .arrivalDelivery e = .next ((e.fillFor g off).1.wait (.arrivalDelivery c k off n))) ∧
    (s.gang c g.slot = some g → g.regionOf (off / 128) = none ∨ off / 128 ∈ g.valid → e.fillFor g off = (e, true))) ∧
  (s.core.gangs.find? (fun g => g.core == c && g.alloc == k) = none → Gives .arrivalDelivery (.arrivalDelivery c k off n) s id) ∧
  (∀ target count gen, 0 < target → target < 2 ^ 24 → count < 2 ^ 24 → gen < 2 ^ 16 →
    arriveWord (target + 2 ^ 24 * count + 2 ^ 48 * gen) n = target + 2 ^ 24 * ((count + n) % target) + 2 ^ 48 * ((gen + (count + n) / target) % 2 ^ 16)) ∧
  Happens .waitTimeout (.waitTimeout c slot lane n) s (fun t => t.mem = s.mem ∧ t.core.gangs = s.core.gangs ∧
    ∀ g ∈ s.core.issue, ∃ h ∈ t.core.issue, h.id = g.id ∧ h.lanes.length = g.lanes.length ∧
      (g.id = n → g.core = c → ∀ l ∈ g.lanes, l.lane = lane → l.slot = slot → l.done = false → 2 ≤ l.wait → l.wait < never → l.wait ≤ 2 + s.ctl.time → { l with wait := 1 } ∈ h.lanes)) ∧
  (let late := fun g : Gang => g.ctx = ctx ∧ ∃ t ∈ g.threads, t.live = true ∧ s.overdue ctx t = true
   ((∀ g ∈ s.core.gangs, ¬ late g) → Gives .watchdogExpire (.watchdogExpire ctx) s id) ∧
   ((∃ g ∈ s.core.gangs, late g) → tget s.ten.worlds (s.worldOfCtx ctx) = none → Gives .watchdogExpire (.watchdogExpire ctx) s (fun s => s.endLaunch ctx 5)))

/-- Graphs (R180 to R183): 32 records of equal EOFF make a gang, or the oldest one's where a partial gang is due, and leave their ring; each record gives its lane its WID and starts it at its stage's ENTRY plus EOFF; a full stage takes a
slot of the stage of lowest fill above its MINGS, of equals the higher number (that is the model's choice, log 30); a wave's end activates the branch that P picks for each stage that ran, or, in host mode, once the words of P are written, logs GWAVE and waits for GSTEP; a wave of GSTEP starts 1 µs after the last write. -/
def Obligations.GraphEvents : Prop := ∀ (s : State) (c st n : Nat) (l : Launch) (q : GraphS) (v : DWord), s.launch c = some l → l.graph = some q →
  (∀ rs, l.ending = none → (∀ x ∈ s.run.saved, x.ctx ≠ c) → s.ringRecs l.world l.tenant q st = some rs → rs.map (fun r => r.1) = (q.ring st).map (fun r => r.2.1) →
    let g := s.nextGang c st rs
    let gang := fun u : State => u.mem = s.mem ∧ u.core = s.core ∧ (∃ x ∈ u.run.tcbs, x.id = s.ctl.nextId ∧ x.ctx = l.ctx ∧ x.stage = st ∧ x.recs = g.map (fun r => r.2.2) ∧ x.seqs = g.map (fun r => r.1) ∧
        x.entry = (q.fld st 0 4 + eoff (g.headD default)) % 2 ^ 32 ∧ x.state = 0 ∧ x.place = 96) ∧ Ev.tcbPlace s.ctl.nextId ∈ u.ctl.agenda ∧
      ∃ p, u.graphOf c = some p ∧ p.recs = q.recs.filter (fun r => !(r.1 == st && g.any (fun x => x.1 == r.2.1))) ∧ p.groups = q.groups + 1
    let rest := fun u : State => u.mem = s.mem ∧ u.core = s.core ∧ u.run.tcbs = s.run.tcbs ∧ ∃ p, u.graphOf c = some p ∧ p.recs = q.recs
    (g ≠ [] → Happens .graphGangForm (.graphGangForm c st) s gang ∧ (s.due (fun e => e == .graphGangForm c st) = false → Happens .partialGangTimer (.partialGangTimer c st) s gang)) ∧
    (g = [] → Happens .graphGangForm (.graphGangForm c st) s rest ∧ (s.due (fun e => e == .graphGangForm c st) = false → Happens .partialGangTimer (.partialGangTimer c st) s rest))) ∧
  (∀ rs e, 32 ≤ (rs.filter (fun r => eoff r == e)).length → (s.nextGang c st rs).length = 32 ∧ ∃ k, ∀ r ∈ s.nextGang c st rs, r ∈ rs ∧ eoff r = k) ∧
  (∀ r rs, (∀ e, ((r :: rs).filter (fun r => eoff r == e)).length < 32) → s.nextGang c st (r :: rs) =
    if r.2.1 + 16384 ≤ s.ctl.time ∨ s.noneOutside c st = true then (r :: rs).filter (fun x => eoff x == eoff r) else []) ∧
  (l.ending = none →
    let full := (List.range q.stages.length).filter (fun t => decide (3 * 2 ^ q.qlog t ≤ 4 * q.fill t) && decide (s.keptSlots c t < q.fld t 17 1))
    (full = [] → Gives .rebalanceTimer (.rebalanceTimer c) s (fun s => s.after 1024 (.rebalanceTimer c))) ∧
    (∀ t d, full = [t] → s.donor c q = some d → (q.fld d 18 1 < s.keptSlots c d ∧
        ∀ e < q.stages.length, q.fld e 18 1 < s.keptSlots c e → q.fill d ≤ q.fill e ∧ (q.fill e = q.fill d → e ≤ d)) ∧
      ∀ g, worst (fun _ => 0) (s.core.gangs.filter (fun g => g.ctx == c && g.stage == d && s.mayPreempt g)) = some g → Happens .rebalanceTimer (.rebalanceTimer c) s (fun u =>
        (c, g.group, 4096) ∈ u.run.preempts ∧ Ev.preemptSave c g.group ∈ u.ctl.agenda ∧ (s.ctl.time + 1024, .rebalanceTimer c) ∈ u.ctl.timers ∧ ∃ p, u.graphOf c = some p ∧ p.given = q.given ++ [(d, t)]))) ∧
  (l.ending = none → l.released = false → q.waiting = false → s.launchBusy l = false → q.recs = [] →
    (bit (s.tModes l.tenant) 2 = false →
      (q.branches = [] → Gives .waveEnd (.waveEnd c) s (fun s => (s.updGraph c (fun q => { q with ran := [], p := q.p.map (fun _ => 0), wave := q.wave + 1 })).send (.launchComplete c))) ∧
      (q.branches ≠ [] → Gives .waveEnd (.waveEnd c) s (fun s => (q.branches.foldl (fun (s : State) t => s.activate c t (q.fld t 20 4))
        (s.updGraph c (fun q => { q with ran := [], p := q.p.map (fun _ => 0), wave := q.wave + 1 }))).checkDone c))) ∧
    (bit (s.tModes l.tenant) 2 = true → s.putPwords l q = none → Gives .waveEnd (.waveEnd c) s (fun s =>
      (q.ran.foldl (fun (s : State) t => s.reeveWriteAsk l.tenant (l.lrec.stageTab + 32 * t + 4) 4) s).wait (.waveEnd c))) ∧
    (bit (s.tModes l.tenant) 2 = true → ∀ u, (s.hears (.waveEnd c)).putPwords l q = some u → exec .waveEnd (s.hears (.waveEnd c)) = .next
      ((u.logEvent l.tenant 0 3 (some 2) [(30, 2, c), (28, 2, q.wave), (16, 8, q.ran.foldl (fun m t => m ||| 2 ^ t) 0)]).updGraph c
        (fun q => { q with ran := [], p := q.p.map (fun _ => 0), wave := q.wave + 1, waiting := true, picked := [] })))) ∧
  (∀ t, t ∈ q.ran → 0 < q.fld t 16 1 → q.fld t (12 + min ((q.p.drop t).headD 0) (q.fld t 16 1 - 1)) 1 ∈ q.branches) ∧
  (∀ t pa attr, q.ran = [t] → s.reeveXl l.tenant (l.lrec.stageTab + 32 * t + 4) 5 = .ok pa attr → s.storeReady pa 4 = true → s.putPwords l q = some (s.devStore pa (leBytes 4 ((q.p.drop t).headD 0)) none)) ∧
  (let stage := (v.extractLsb' 0 8).toNat
   (v.extractLsb' 48 16).toNat = c →
    (q.waiting = false ∨ (stage ≠ 0xFF ∧ q.stages.length ≤ stage) → Gives .gstepWrite (.gstepWrite v) s (fun s => s.badReply (some l.tenant) 2 0xC038 v.toNat)) ∧
    (q.waiting = true → stage = 0xFF → Gives .gstepWrite (.gstepWrite v) s (fun s =>
      ((s.updGraph c (fun q => { q with waiting := false, picked := [] })).cancel (fun e => e == .gstepWaveTimer c q.serial)).send (.launchComplete c))) ∧
    (q.waiting = true → stage ≠ 0xFF → stage < q.stages.length → Gives .gstepWrite (.gstepWrite v) s (fun s =>
      (s.updGraph c (fun q => { q with picked := q.picked ++ [stage], serial := q.serial + 1 })).after 1700 (.gstepWaveTimer c (q.serial + 1))))) ∧
  (q.waiting = true → q.serial = n → Gives .gstepWaveTimer (.gstepWaveTimer c n) s (fun s =>
    (q.picked.foldl (fun (s : State) t => s.activate c t (q.fld t 20 4)) (s.updGraph c (fun q => { q with waiting := false, picked := [] }))).checkDone c)) ∧
  (q.waiting = false ∨ q.serial ≠ n → Gives .gstepWaveTimer (.gstepWaveTimer c n) s id)

/-- Estimates (R187, R189 to R191): the next draw in draw order is folded as its message comes, an empty draw counting as a draw without a value; the estimate goes on while the test fails; when it holds, K is the number of draws folded and
STOP goes to all 96 clusters; a draw before P or after the stop changes nothing; where STOP arrives placed draws at or beyond K go, those not yet placed when the stop is decided (the model's choice, log 61), and with CANCEL parked ones end; ESTSEL takes a snapshot of an estimate of no world, else zeros. -/
def Obligations.EstimateEvents : Prop := ∀ (s : State) (c d x k : Nat) (l : Launch) (e : EstS) (v : DWord), s.launch c = some l → l.est = some e →
  (e.k ≠ none ∨ d < e.p → Gives .contributionArrive (.contributionArrive c d) s id) ∧
  (e.k = none → e.p < d → (∀ w ∈ e.window, w.1 ≠ e.p) → Gives .contributionArrive (.contributionArrive c d) s (fun s =>
    (s.updLaunch c (fun l => { l with est := some { e with window := if e.window.any (fun w => w.1 == d) then e.window else e.window ++ [(d, none)] } })).pokePlaces)) ∧
  (e.k = none → e.p = d → ∀ w, (e.window = [] ∧ w = none) ∨ e.window = [(d, w)] →
    let f := (({ e with window := [] } : EstS).fold w).test l.lrec
    (f.2 = false → Gives .contributionArrive (.contributionArrive c d) s (fun s => (s.updLaunch c (fun l => { l with est := some f.1 })).pokePlaces)) ∧
    (f.2 = true → Happens .contributionArrive (.contributionArrive c d) s (fun t => (∃ m y, t.launch c = some m ∧ m.est = some y ∧ y.k = some (d + 1) ∧ y.n = f.1.n ∧ y.mean = f.1.mean ∧ y.m2 = f.1.m2 ∧ y.window = []) ∧
      ∀ i < 96, Ev.stopArrive c i ∈ t.ctl.agenda))) ∧
  (e.fold none = { e with p := e.p + 1 } ∧ ∀ z, (e.fold (some z)).p = e.p + 1 ∧ (e.fold (some z)).n = (e.n + 1) % 2 ^ 64 ∧
    (e.fold (some z)).mean = add64 e.mean (div64 (sub64 z e.mean) (cvt64 ((e.n + 1) % 2 ^ 64))) ∧
    (e.fold (some z)).m2 = add64 e.m2 (mul64 (sub64 z e.mean) (sub64 z (e.fold (some z)).mean))) ∧
  (e.k = none → Gives .stopArrive (.stopArrive c x) s id) ∧
  (e.k = some k →
    (bit l.lrec.flags 0 = false → Gives .stopArrive (.stopArrive c x) s (fun s =>
      { s.updLaunch c (fun l => { l with est := l.est.map (fun (e : EstS) => { e with reached := addSorted e.reached x }) }) with
        run.tcbs := s.run.tcbs.filter (fun t => !(t.ctx == c && t.state == 0 && t.place == x && decide (k ≤ t.first * 2 ^ l.lrec.shift l.lrec.split))) }.checkDone c)) ∧
    (bit l.lrec.flags 0 = true → (s.core.gangs.map (fun g => (g.core, g.slot))).Nodup → Happens .stopArrive (.stopArrive c x) s (fun t =>
      (∀ core slot lane g, s.gang core slot = some g → g.ctx = c → clusterOf core = x → lane < 32 → k ≤ (g.wids.drop lane).headD 0 →
        ((g.thread lane).status = .joinwait ∨ (g.thread lane).status = .svcwait ∨ (g.thread lane).status = .faultwait) → (t.thread core slot lane).live = false) ∧
      ∀ y ∈ t.run.tcbs, ¬ (y.ctx = c ∧ y.state = 0 ∧ y.place = x ∧ k ≤ y.first * 2 ^ l.lrec.shift l.lrec.split)))) ∧
  ((v.extractLsb' 48 16).toNat = c → Gives .estselWrite (.estselWrite v) s (fun s =>
    { s with run.estsel := v &&& 0xFFFF000000000000, run.estsnap := if l.world = 0x7F then leBytes 8 e.p ++ leBytes 8 e.n ++ leBytes 8 e.mean ++ leBytes 8 e.m2 else zeros 32 })) ∧
  (s.launch (v.extractLsb' 48 16).toNat = none → Gives .estselWrite (.estselWrite v) s (fun s => { s with run.estsel := v &&& 0xFFFF000000000000, run.estsnap := zeros 32 }))

/-- The Anvil (R243, R244, R361 to R365): with no task ready nothing happens; a step of a fresh product into registers writes each of its 64 x 64 words as the dot product of its row and column, or as the fill where it is masked; a task that
has issued its steps completes once its writes are acknowledged, leaves its queue and raises its arrival word. -/
def Obligations.AnvilEvents : Prop := ∀ (s : State) (c n : Nat) (t : Task) (x : Gang),
  let r := taskRec t.rcd
  (s.nextTask c = none → Gives .anvilStep (.anvilStep c) s id) ∧
  (s.nextTask c = some (t, x) → t.heads ≠ [] → Gives .anvilStep (.anvilStep c) s (fun s =>
    (({ s with eng.rr := nset 0 s.eng.rr c ((clusterSlot x + 1) % 128) }.send (.anvilStep c)).updTask t.id (fun u => { u with heads := t.heads })).outStep t x (headAt t.heads 0) (headAt t.heads 1)
      ((t.heads.drop 2).head?.map hdrOf))) ∧
  (∀ a b p la lb u w q, r.dst = false → r.acc = false → pairOf a b = some p →
    let bi := t.step / (r.n / 64)
    let bj := t.step % (r.n / 64)
    let name := r.td + bi * (r.n / 64) + bj
    (∃ i < 64, ∃ j < 64, r.masked a b (64 * bi + i) (64 * bj + j) = false) → s.fetchTile t x.world r.aaddr a (blockRange bi) (List.range a.cols) = (u, .ok la) →
    u.fetchTile t x.world r.baddr b (List.range b.rows) (blockRange bj) = (w, .ok lb) → w.treg x name = some q →
    ∃ y, (s.outStep t x a b none).treg x name = some y ∧ ∀ i j, i < 64 → j < 64 → nget 0 y.words (64 * i + j) = BitVec.ofNat 32 (if r.masked a b (64 * bi + i) (64 * bj + j) then fillOf r t
      else (dot a b (rdOf la r.aaddr) (rdOf lb r.baddr) p.1 p.2 (0, false) (64 * bi + i) (64 * bj + j)).v)) ∧
  (s.eng.tasks.find? (fun u => u.id == n) = some t →
    (t.issued = false → Gives .tileTaskComplete (.tileTaskComplete n) s id) ∧
    (t.issued = true → t.rl ≠ 7 → (∃ i ∈ t.txs, (s.tx i).isSome = true) → Gives .tileTaskComplete (.tileTaskComplete n) s (fun s => s.wait (.tileTaskComplete n))) ∧
    (t.issued = true → t.rl = 7 ∨ (∀ i ∈ t.txs, s.tx i = none) → Happens .tileTaskComplete (.tileTaskComplete n) s (fun u => (∀ y ∈ u.eng.tasks, y.id ≠ n) ∧ ((∃ x, s.taskGang t = some x) →
      u.due (fun e => e == .anvilStep t.cluster) = true ∧ (bit r.arrive 31 = true → ∃ core b, Ev.arrivalDelivery core t.alloc (bits r.arrive 23 0) b ∈ u.ctl.agenda)))))

/-- Engine commands and request lists (R366 to R374): a command at a fault entry waits; one whose work is done, with its pieces and, where RL asks for it, its writes acknowledged, gives up its slot and raises its arrival word, of b bytes; a COPY sends
one piece for each cut; positions of a SCAT.ACC that name one element add up in list order; an entry of a list is read and takes a slot, the scratchpad lines it takes as its source filled first (R148; log 90), the last ends its list, and a bad one ends the launch with FAULT. -/
def Obligations.CommandEvents : Prop := ∀ (s : State) (n : Nat) (c : Cmd) (l : CList),
  (s.cmd n = some c → c.fid ≠ none → Gives .engineCommandComplete (.engineCommandComplete n) s id) ∧
  (s.cmd n = some c → c.fid = none →
    let k := cmdBlk c.block
    let cuts := copyCuts k c.pages (k.len / 2048 + 3) 0
    let pa := fun va => (heldPa c.pages va).getD 0
    let finished := (c.opc = 1 ∧ cuts.length ≤ c.pos) ∨ ((c.opc = 2 ∨ c.opc = 3) ∧ c.pos ≠ 0) ∨ (4 ≤ c.opc ∧ c.opc ≤ 6 ∧ k.len < c.pos)
    let finish := fun s : State =>
      let s1 := { s with eng.cmds := s.eng.cmds.filter (fun x => x.id != c.id), coh.pins := s.coh.pins.filter (fun p => p.2 != c.id + 1) }
      if bit k.arrive 31 then s1.send (.arrivalDelivery c.core c.alloc (bits k.arrive 23 0) c.delivers) else s1
    (finished → c.pieces = [] → c.rl = 7 ∨ (∀ x ∈ c.txs, s.tx x = none) → c.list = none → Gives .engineCommandComplete (.engineCommandComplete n) s finish) ∧
    (finished → c.pieces = [] → c.rl = 7 ∨ (∀ x ∈ c.txs, s.tx x = none) → ∀ m, c.list = some m → s.due (fun e => e == .cpyqEntryStart m) = false →
      Gives .engineCommandComplete (.engineCommandComplete n) s (fun s => (finish s).send (.cpyqEntryStart m))) ∧
    (finished → c.pieces ≠ [] ∨ (c.rl ≠ 7 ∧ ∃ x ∈ c.txs, s.tx x ≠ none) → Gives .engineCommandComplete (.engineCommandComplete n) s (fun s => s.pokeCmd n)) ∧
    (c.opc = 1 → c.pos < cuts.length → meet (k.src, k.len) (k.dst, k.len) = false → Gives .engineCommandComplete (.engineCommandComplete n) s (fun s =>
      ((if k.dst < k.src then cuts else cuts.reverse).foldl (fun (s : State) x => s.sendPiece n (plainAlias c.world (pa (k.src + x.1)) (pa (k.dst + x.1)) x.2)) s).updCmd n (fun c => { c with pos := cuts.length }))) ∧
    (c.opc = 3 → c.pos = 0 → Gives .engineCommandComplete (.engineCommandComplete n) s (fun s =>
      (((granuleCuts k.dst k.len).foldl (fun (s : State) x => (rangeLines (pa (k.dst + x.1)) x.2).foldl (fun (s : State) l => s.destWrite l) s) s).updCmd n (fun c => { c with pos := 1 })).pokeCmd n))) ∧
  (∀ fmt m xs, (intFmt fmt).isSome = true → m < 2 ^ fmtBits fmt → combine fmt m xs = (m + xs.foldl (fun a b => a + b) 0) % 2 ^ fmtBits fmt) ∧
  (s.eng.lists.find? (fun l => l.id == n) = some l →
    (l.fid ≠ none → Gives .cpyqEntryStart (.cpyqEntryStart n) s id) ∧
    (l.fid = none → s.cmdSlots l.core < 64 → ∀ pa attr u bs, s.xlate (stackOf l.core) l.tenant l.ctx (l.addr + 64 * l.next) 4 = .ok pa attr →
      (s.hears (.cpyqEntryStart n)).engBytes (stackOf l.core) l.world l.tenant pa 64 = (u, some bs) → (∀ b ∈ bs, b.2 = false) →
      let b := bs.map (fun b => b.1)
      let opc := fieldOf b 32 1
      (bit (fieldOf b 36 1) 0 = false →
        (opc = 0 ∨ 6 < opc → exec .cpyqEntryStart (s.hears (.cpyqEntryStart n)) = .next
          ((u.logTenant (some l.tenant) (srcCore l.core) 0x14 1 [(24, 8, l.addr + 64 * l.next), (22, 2, l.ctx), (20, 2, l.gang), (16, 4, l.next)]).endLaunch l.ctx 4)) ∧
        (1 ≤ opc → opc ≤ 6 → cmdBad opc true (u.spadOf l.ctx l.gang) b = false → ∀ w pages, u.xlExtents (stackOf l.core) l.tenant l.ctx (cmdExtents opc b) = (w, .ok pages) → ∀ f ready, w.sourceFilled l.core (some l.alloc) opc b = (f, ready) →
          exec .cpyqEntryStart (s.hears (.cpyqEntryStart n)) = .next (if ready = false then f.pokeList l.id else
            let p := f.placeCmd { id := 0, core := l.core, slot := l.slot, lane := l.lane, ctx := l.ctx, gang := l.gang, tenant := l.tenant, world := l.world, alloc := l.alloc, opc := opc, block := b, rl := l.rl, pos := 0, pieces := [],
                                  buf := [], idx := [], pages := pages, fid := none, txs := [], list := some l.id, matched := false, remote := [], ports := [], away := [], finished := false }
            if l.next + 1 < l.n then (p.updList n (fun l => { l with next := l.next + 1 })).pokeList n else { p with eng.lists := p.eng.lists.filter (fun x => x.id != n) }))) ∧
      (bit (fieldOf b 36 1) 0 = true → (∃ c ∈ u.eng.cmds, c.list = some n) → exec .cpyqEntryStart (s.hears (.cpyqEntryStart n)) = .next u)))

/-- Collectives (R29, R245, R376 to R379): where a bridge it needs has failed the launch ends; once every rank of the package has its command they match; the ranks are the commands of its context with its CTAG (that a CTAG names a collective only within its context is the model's reading, log 96); a matched command reads its source and sends it to the ranks of other packages, over a bridge where the port is another stack's (R17), gets what all ranks contribute once all have read and it has come in whole, writes its result, and completes with its writes; a PLAIN
result is the concatenation in rank order, the root's bytes, or the combination of each element over the ranks; a common-scale element with a NaN, or infinities of both signs, is the NaN. -/
def Obligations.CollectiveEvents : Prop := ∀ (s : State) (n : Nat) (c : Cmd), s.cmd n = some c →
  let k := collBlk c.block
  let e := s.hears (.collMatch n)
  let f := s.hears (.collComplete n)
  (c.matched = true → Gives .collMatch (.collMatch n) s id) ∧
  (c.matched = false → c.opc = 7 → ∀ u ls, e.readLines (stackOf c.core) c.world c.tenant (linesOfAll (heldRange c.pages k.rtab (16 * k.nr))) = (u, ls, false) →
    let tab := (heldRange c.pages k.rtab (16 * k.nr)).map (byteOf ls)
    (∀ i < k.nr, (rankOf tab i).1 = s.pkg.holtNode.toNat) →
    let stks := (List.range k.nr).map (fun i => (rankOf tab i).2)
    let ports := (stks.flatMap (fun a => (stks.filter (fun b => decide (a < b))).map (fun b => linkId (bridgeEnd a b)))).eraseDups
    let w := u.updCmd n (fun c => { c with ports := ports, away := [] })
    let mine := ((List.range k.nr).map (fun i => (i, rankOf tab i))).filterMap (fun x => (w.collPeers c).find? (fun d => (collBlk d.block).me == x.1 && stackOf d.core == x.2.2 && !d.matched))
    ((∃ p ∈ ports, (w.link p).st = .failed) → exec .collMatch e = .next (if c.world = 0x7F then w.endLaunch c.ctx 7 else w.sendAbort c.world 7)) ∧
    ((∀ p ∈ ports, (w.link p).st ≠ .failed) → mine.length ≠ k.nr → exec .collMatch e = .next w) ∧
    ((∀ p ∈ ports, (w.link p).st ≠ .failed) → mine.length = k.nr → (∀ d ∈ mine, d.world = 0x7F) → Happens .collMatch (.collMatch n) s (fun t => ∀ d ∈ mine, (∃ y, t.cmd d.id = some y ∧ y.matched = true) ∧ Ev.collComplete d.id ∈ t.ctl.agenda))) ∧
  (c.matched = false ∨ c.fid ≠ none → Gives .collComplete (.collComplete n) s id) ∧
  (c.matched = true → c.fid = none →
    (c.pos = 0 → k.mode ≠ 1 → ∀ u ls, f.readLines (stackOf c.core) c.world c.tenant (linesOfAll (heldRange c.pages k.src k.len)) = (u, ls, false) →
      let bs := (heldRange c.pages k.src k.len).map (byteOf ls)
      (u.endsUp c.outEnds = false → exec .collComplete f = .next (u.later (.collComplete n))) ∧
      (u.endsUp c.outEnds = true → (∀ b ∈ bs, b.2 = false) → exec .collComplete f = .next
        ((((u.updCmd n (fun c => { c with buf := bs.map (fun b => b.1), pos := 1 })).crossEnds c.outEnds).sendFrames { c with buf := bs.map (fun b => b.1) }).pokeColl n))) ∧
    (c.pos = 1 → (∃ d ∈ s.collPeers c, d.matched = true ∧ d.pos = 0) ∨ s.endsUp c.bridgeEnds = false → Gives .collComplete (.collComplete n) s (fun s => s.later (.collComplete n))) ∧
    (let peers := (s.collPeers c).filter (fun d => d.matched)
     c.pos = 1 → (∀ d ∈ peers, 1 ≤ d.pos) → s.endsUp c.bridgeEnds = true → (∀ d ∈ peers, ∀ r ∈ s.received peers d, ∃ b, r = .got b) → exec .collComplete f = .next
      (peers.foldl (fun (t : State) d => ((t.takeFrames d).updCmd d.id (fun x => { x with pos := 2, remote := (s.received peers d).map Recv.bytes })).pokeColl d.id) (f.crossEnds c.bridgeEnds))) ∧
    (∀ d, c.world = 0x7F → s.fromNear c d = .got d.buf) ∧
    (c.pos = 2 → k.mode ≠ 1 → Gives .collComplete (.collComplete n) s (fun s =>
      let res := (plainResult k c.remote).map (fun b => (b, false))
      (((granuleCuts k.dst k.dstLen).foldl (fun (s : State) g => s.cmdStore c ((heldPa c.pages (k.dst + g.1)).getD 0) ((res.drop g.1).take g.2)) s).updCmd n (fun c => { c with pos := 3 })).pokeColl n)) ∧
    (3 ≤ c.pos → c.rl ≠ 7 → (∃ x ∈ c.txs, s.tx x ≠ none) → Gives .collComplete (.collComplete n) s (fun s => s.pokeColl n)) ∧
    (3 ≤ c.pos → c.rl = 7 ∨ (∀ x ∈ c.txs, s.tx x = none) → c.list = none → Gives .collComplete (.collComplete n) s (fun s =>
      let s1 := { s with eng.cmds := s.eng.cmds.filter (fun x => x.id != c.id), coh.pins := s.coh.pins.filter (fun p => p.2 != c.id + 1) }
      if bit k.arrive 31 then s1.send (.arrivalDelivery c.core c.alloc (bits k.arrive 23 0) c.collBytes) else s1))) ∧
  (∀ ranks : List (List Byte), (k.op = 1 → plainResult k ranks = ranks.flatten) ∧ (k.op = 2 → plainResult k ranks = ranks.headD []) ∧
    (k.op = 0 → ∀ x t i, ranks = x :: t → i < k.len / elemBytes k.ety → fieldOf (plainResult k ranks) (elemBytes k.ety * i) (elemBytes k.ety) =
      combine k.ety (fieldOf x (elemBytes k.ety * i) (elemBytes k.ety)) (t.map (fun r => fieldOf r (elemBytes k.ety * i) (elemBytes k.ety))) % 2 ^ (8 * elemBytes k.ety))) ∧
  (∀ fmt g top ovf es, floatFmt fmt = some g →
    ((∃ x ∈ es, (elemVal fmt x.2).isNan = true) → commonElem fmt top ovf es = g.nanCode) ∧
    ((∃ x ∈ es, elemVal fmt x.2 = .inf false) → (∃ x ∈ es, elemVal fmt x.2 = .inf true) → commonElem fmt top ovf es = g.nanCode) ∧
    (top = 0xFF → commonElem fmt top ovf es = g.nanCode))

/-- The notice board (R390 to R403): NBCTL is taken while no launch is held or armed, and enabling clears the board; every command is counted in CSEQ and acknowledged with its status, the first that applies (the model's choice of order, log 67), and acts where that is OK: it arms the board for a queue of its
tenant, sets or clears a breakpoint or watchpoint, halts, steps or resumes a gang, or ends the attachment; a command of no kind is answered BADCMD. -/
def Obligations.BoardEvents : Prop := ∀ (s : State) (v : BitVec 128) (w : DWord) (ctx : Nat),
  let c := nbCmd v
  let ack := fun (st : Nat) (s : State) =>
    let m := (s.nb.cseq + 1) % 2 ^ 32
    ({ s with nb.cseq := m }.boardStore 0x80 (leBytes 4 m)).nbRecord { code := 1, stat := st, arg := m, data := c.opc }
  let t := (s.nb.nbctl.extractLsb' 56 8).toNat
  let gang := fun (i : Instr) (e : Ev) (f : State → State) =>
    (c.slot ≠ 0 ∨ c.flags ≠ 0 ∨ c.len ≠ 0 ∨ c.arg ≠ 0 ∨ c.rest ≠ 0 → Gives i e s (ack 1)) ∧
    (c.slot = 0 → c.flags = 0 → c.len = 0 → c.arg = 0 → c.rest = 0 → (s.nb.heldCtx = none ∨ s.heldGangs ≤ c.gang → Gives i e s (ack 2)) ∧
      (s.nb.heldCtx = some ctx → c.gang < s.heldGangs → Gives i e s (fun s => f (ack 0 s))))
  (s.nb.heldCtx ≠ none ∨ s.nb.armed ≠ none → Gives .nbctlWrite (.nbctlWrite w) s id) ∧
  (s.nb.heldCtx = none → s.nb.armed = none →
    let base := (w.extractLsb' 12 44).toNat * 4096
    let en := w.getLsbD 0 = true ∧ isHbm base = true ∧ s.tWinBase (w.extractLsb' 56 8).toNat ≤ base ∧ base + 4096 ≤ s.tWinLim (w.extractLsb' 56 8).toNat
    (¬ en → Gives .nbctlWrite (.nbctlWrite w) s (fun s => { s with nb.nbctl := w &&& 0xFFFFFFFFFFFFF000 })) ∧
    (en → s.nb.nbctl.getLsbD 0 = true → Gives .nbctlWrite (.nbctlWrite w) s (fun s => { s with nb.nbctl := (w &&& 0xFFFFFFFFFFFFF000) ||| 1 })) ∧
    (en → s.nb.nbctl.getLsbD 0 = false → Gives .nbctlWrite (.nbctlWrite w) s (fun s =>
      ({ s with nb.nbctl := (w &&& 0xFFFFFFFFFFFFF000) ||| 1, nb.cseq := 0, nb.eseq := 0 }.devStore (base + 0x80) (zeros 16) none).devStore (base + 0x800) (zeros 0x800) none))) ∧
  (c.slot ≠ 0 ∨ c.flags ≠ 0 ∨ c.len ≠ 0 ∨ c.gang ≠ 0 ∨ c.rest ≠ 0 → Gives .nbAttach (.nbAttach v) s (ack 1)) ∧
  (c.slot = 0 → c.flags = 0 → c.len = 0 → c.gang = 0 → c.rest = 0 →
    (s.nb.heldCtx ≠ none ∨ s.nb.armed ≠ none → Gives .nbAttach (.nbAttach v) s (ack 3)) ∧
    (s.nb.heldCtx = none → s.nb.armed = none →
      (c.arg < s.tQBase t ∨ s.tQBase t + s.tQCount t ≤ c.arg → Gives .nbAttach (.nbAttach v) s (ack 4)) ∧
      (s.tQBase t ≤ c.arg → c.arg < s.tQBase t + s.tQCount t → Gives .nbAttach (.nbAttach v) s (fun s => { ack 0 s with nb.armed := some c.arg }.nbStatus)))) ∧
  (c.flags ≠ 0 ∨ c.len ≠ 0 ∨ c.gang ≠ 0 ∨ c.rest ≠ 0 ∨ 7 < c.slot → Gives .nbSetbp (.nbSetbp v) s (ack 1)) ∧
  (c.flags = 0 → c.len = 0 → c.gang = 0 → c.rest = 0 → c.slot ≤ 7 →
    Gives .nbSetbp (.nbSetbp v) s (fun s => let u := ack 0 s; { u with nb.bps := tset u.nb.bps c.slot c.arg }) ∧
    (c.arg = 0 → Gives .nbClrbp (.nbClrbp v) s (fun s => let u := ack 0 s; { u with nb.bps := tdel u.nb.bps c.slot })) ∧
    (c.arg = 0 → c.slot ≤ 3 → Gives .nbClrwp (.nbClrwp v) s (fun s => let u := ack 0 s; { u with nb.wps := tdel u.nb.wps c.slot }))) ∧
  (let bad := c.rest ≠ 0 ∨ 3 < c.slot ∨ c.flags = 0 ∨ 3 < c.flags ∨ c.len = 0 ∨ 128 < c.len ∨ 2 ^ 24 ≤ c.arg
   (bad → Gives .nbSetwp (.nbSetwp v) s (ack 1)) ∧
   (¬ bad → s.nb.heldCtx = none → Gives .nbSetwp (.nbSetwp v) s (ack 2)) ∧
   (¬ bad → s.nb.heldCtx = some ctx → c.gang = 0xFFFFFFFF ∨ c.gang < s.heldGangs → Gives .nbSetwp (.nbSetwp v) s (fun s =>
     let u := ack 0 s; { u with nb.wps := tset u.nb.wps c.slot { flags := c.flags, len := c.len, gang := c.gang, off := c.arg } }))) ∧
  gang .nbHalt (.nbHalt v) (fun s => { s with nb.halted := addSorted s.nb.halted c.gang, nb.halting := addSorted s.nb.halting c.gang }) ∧
  gang .nbResume (.nbResume v) (fun s => s.resumeGang ctx c.gang) ∧
  (c.gang ∈ s.nb.steps → gangStatus s c = 0 → Gives .nbStep (.nbStep v) s (ack 3)) ∧
  (c.gang ∉ s.nb.steps → gangStatus s c = 0 → s.nb.heldCtx = some ctx → Happens .nbStep (.nbStep v) s (fun u => c.gang ∈ u.nb.halted ∧ u.nb.cseq = (s.nb.cseq + 1) % 2 ^ 32 ∧
    (s.anyStop ctx c.gang = true → c.gang ∈ u.nb.steps))) ∧
  (s.nb.heldCtx = none → s.nb.armed = none → v.toNat / 2 ^ 8 = 0 → Gives .nbDetach (.nbDetach v) s (ack 2)) ∧
  (s.nb.heldCtx ≠ none ∨ s.nb.armed ≠ none → v.toNat / 2 ^ 8 = 0 → Happens .nbDetach (.nbDetach v) s (fun u =>
    u.nb.heldCtx = none ∧ u.nb.armed = none ∧ u.nb.bps = [] ∧ u.nb.wps = [] ∧ u.nb.halted = [] ∧ u.nb.steps = [] ∧ u.nb.cseq = (s.nb.cseq + 1) % 2 ^ 32)) ∧
  Gives .nbBadcmd (.nbBadcmd v) s (ack 1)
end

