-- ==== Sys2Proof/Laws/Operands.lean ====
section
/-! SUPPORT. What the shared forms of Operands.lean do to a group whose word finds its operands: one lemma a form. -/

namespace Sys2Proof.Machine

open Sys2Proof

/-! ## Reading -/

theorem Grp.mem_active {g : Grp} {gd : BitVec 3} {l : RLane} : l ∈ g.active gd ↔ l ∈ g.lanes ∧ l.gate gd = .on := by
  simp [Grp.active]

theorem Grp.deep_of {g : Grp} {n : Nat} (h : ∀ l ∈ g.lanes, n ≤ l.depth) : g.deep n = true := by
  simpa [Grp.deep] using h

theorem Grp.guardPois_nil {g : Grp} {gd : BitVec 3} (h : ∀ l ∈ g.lanes, l.gate gd ≠ .pois) : g.guardPois gd = [] := by
  simpa [Grp.guardPois] using h

@[simp] theorem operandTrap_nil (s : State) (g : Grp) (a b : List Nat) : s.operandTrap g [] a b = none := by simp [State.operandTrap]

theorem operandTrap_none {s : State} {g : Grp} {ls : List RLane} {srcs dsts : List Nat}
    (h1 : ∀ l ∈ ls, ∀ c ∈ srcs, ∃ v, s.read g l c = .ok v ∧ v.bad = false)
    (h2 : ∀ l ∈ ls, ∀ c ∈ dsts, s.dstOk g l c = true) : s.operandTrap g ls srcs dsts = none := by
  have e : ls.flatMap (fun l => srcs.filterMap (s.readTrap g l)) = [] := by
    simp only [List.flatMap_eq_nil_iff, List.filterMap_eq_nil_iff]
    intro l hl c hc
    obtain ⟨v, hv, -⟩ := h1 l hl c hc
    simp [State.readTrap, hv]
  simp only [State.operandTrap, e, ite_eq_left_iff, reduceCtorEq, imp_false, not_not, List.all_eq_true]
  exact h2

theorem readD_clean {s : State} {g : Grp} {l : RLane} {c : Nat} (h : ∃ v, s.read g l c = .ok v ∧ v.bad = false) : (s.readD g l c).bad = false := by
  obtain ⟨v, hv, hb⟩ := h
  simp [State.readD, hv, hb]

/-! ## The issue queue -/

theorem updGrp_head {s : State} {g : Grp} {rest : List Grp} (h : s.core.issue = g :: rest) (hr : ∀ x ∈ rest, x.id ≠ g.id) (f : Grp → Grp) :
    s.updGrp g.id f = s.headGrp (f g) rest := by
  have e : rest.map (fun x => if x.id = g.id then f x else x) = rest := by
    refine (List.map_congr_left fun x hx => ?_).trans (List.map_id rest)
    simp [hr x hx]
  simp [State.updGrp, State.headGrp, h, e]

theorem advance_head {s : State} {g g' : Grp} {rest : List Grp} (h : s.core.issue = g :: rest) (hr : ∀ x ∈ rest, x.id ≠ g.id) (hg : g'.id = g.id) :
    s.advance g' = s.headGrp g'.adv rest := by
  rw [State.advance, hg, updGrp_head h hr]

/-! ## The arithmetic log -/

@[simp] theorem logAll_nil (a : List (Nat × Nat × Nat)) : logAll a [] = a := rfl

@[simp] theorem logAll_cons (a : List (Nat × Nat × Nat)) (r : RLane × List Nat) (t : List (RLane × List Nat)) :
    logAll a (r :: t) = logAll (r.2.foldl (fun a c => addArith a r.1.slot c r.1.lane) a) t := rfl

@[simp] theorem Grp.logged_nil (g : Grp) (gd : BitVec 3) : g.logged gd (fun _ => []) = g.arith := by
  unfold Grp.logged
  generalize g.arith = a
  induction g.active gd with
  | nil => rfl
  | cons l t ih => simpa using ih

@[simp] theorem Grp.wrote_logs (g : Grp) (s : State) (gd : BitVec 3) (d : BitVec 7) (f : RLane → Word) : (g.wrote s gd d f).logs g.arith = g.wrote s gd d f := rfl

/-! ## Lane-wise words -/

theorem RLane.put_slot (l : RLane) (d : Nat) (p : PVal) : (l.put d p).slot = l.slot ∧ (l.put d p).lane = l.lane := by
  simp only [RLane.put]; split_ifs <;> exact ⟨rfl, rfl⟩

@[simp] theorem RLane.result_slot (l : RLane) (d : Nat) (p : PVal) : (l.result d p).slot = l.slot := (l.put_slot d p).1
@[simp] theorem RLane.result_lane (l : RLane) (d : Nat) (p : PVal) : (l.result d p).lane = l.lane := (l.put_slot d p).2

/-- A lane whose operands are there takes the word's result, or keeps what R202 says where its guard is false. -/
theorem laneStep_of {s : State} {g : Grp} {rest : List Grp} {gd : BitVec 3} {d np : Nat} {srcs dsts : List Nat} (f : RLane → List Nat → Nat × List Nat)
    (h : Issues s g rest gd srcs dsts) {l : RLane} (hl : l ∈ g.lanes) (hq : ∀ k < np, l.pp (k + 1) = false) :
    s.laneStep g gd d srcs np f l =
      if l.gate gd = .on then
        (l.result d (clean (BitVec.ofNat 32 (f l (srcs.map (fun c => (s.readD g l c).val.toNat))).1)), (f l (srcs.map (fun c => (s.readD g l c).val.toNat))).2)
      else (s.offLane g l d, []) := by
  have hc := h.clear l hl
  unfold State.laneStep
  cases hg : l.gate gd with
  | off => simp
  | pois => exact absurd hg hc
  | on =>
    have b1 : (srcs.map (s.readD g l)).any PVal.bad = false := by
      simp only [List.any_eq_false, List.mem_map]
      rintro p ⟨c, hc, rfl⟩
      simp [readD_clean (h.srcs l hl hg c hc)]
    have b2 : (List.range np).any (fun k => l.pp (k + 1)) = false := by
      simp only [List.any_eq_false, List.mem_range]
      intro k hk
      simp [hq k hk]
    simp [b1, b2, Function.comp_def]

/-- A lane-wise word that finds its operands completes. -/
theorem lanewise_issues {s : State} {g : Grp} {rest : List Grp} {gd : BitVec 3} {d : BitVec 7} {np : Nat} {srcs : List Nat} {f : RLane → List Nat → Nat × List Nat}
    (h : Issues s g rest gd srcs [d.toNat]) (hp : ∀ l ∈ g.lanes, np ≤ l.depth) (hq : ∀ l ∈ g.lanes, ∀ k < np, l.pp (k + 1) = false) :
    s.lanewise gd d.toNat srcs np f =
      s.headGrp ((g.wrote s gd d (fun l => BitVec.ofNat 32 (f l (srcs.map (fun c => (s.readD g l c).val.toNat))).1)).logs
        (g.logged gd (fun l => (f l (srcs.map (fun c => (s.readD g l c).val.toNat))).2))) rest := by
  have e1 := Grp.deep_of (g := g) (n := max (guardEntry gd) np) (fun l hl => max_le (h.deep l hl) (hp l hl))
  have e2 := operandTrap_none (s := s) (g := g) (ls := g.active gd) (srcs := srcs) (dsts := [d.toNat])
    (fun l hl => h.srcs l (Grp.mem_active.1 hl).1 (Grp.mem_active.1 hl).2) (fun l hl => h.dsts l (Grp.mem_active.1 hl).1 (Grp.mem_active.1 hl).2)
  have e3 := Grp.guardPois_nil h.clear
  have e4 := List.map_congr_left (l := g.lanes) (fun l hl => laneStep_of (d := d.toNat) (np := np) f h hl (hq l hl))
  simp only [State.lanewise, State.word, h.head, e1, e2, e3, operandTrap_nil, Bool.not_true, Bool.false_eq_true, if_false, e4]
  rw [advance_head h.head h.ids (by rfl)]
  congr 1
  simp only [Grp.wrote, Grp.logs, Grp.logged, Grp.adv, Grp.shiftedTo, Grp.active, List.map_map]
  congr 1
  · generalize g.lanes = ls
    generalize g.arith = a
    induction ls generalizing a with
    | nil => rfl
    | cons l t ih => by_cases hl : l.gate gd = .on <;> simp [hl, ih]
  · refine List.map_congr_left fun l _ => ?_
    simp only [Function.comp_apply]
    split <;> rfl

/-- Words of two values. -/
theorem int2_computes {mk : BitVec 3 → BitVec 7 → BitVec 7 → BitVec 7 → Instr} {f : Word → Word → Word} {h : Nat → Nat → Nat}
    (e : ∀ gd d a b s, exec (mk gd d a b) s = .next (s.int2 gd d a b h)) (hf : ∀ x y : Word, BitVec.ofNat 32 (h x.toNat y.toNat) = f x y) :
    Computes2 mk f := by
  intro s g rest gd d a b hi
  rw [e, State.int2, State.lanewise', lanewise_issues hi (by simp) (by simp)]
  simp [hf, State.opnd]

/-- Words of one value. -/
theorem int1_computes {mk : BitVec 3 → BitVec 7 → BitVec 7 → Instr} {f : Word → Word} {h : Nat → Nat}
    (e : ∀ gd d a s, exec (mk gd d a) s = .next (s.int1 gd d a h)) (hf : ∀ x : Word, BitVec.ofNat 32 (h x.toNat) = f x) : Computes1 mk f := by
  intro s g rest gd d a hi
  rw [e, State.int1, State.lanewise', lanewise_issues hi (by simp) (by simp)]
  simp [hf, State.opnd]

/-- Words of two values with a log. -/
theorem log2_logs {mk : BitVec 3 → BitVec 7 → BitVec 7 → BitVec 7 → Instr} {f : Word → Word → Word × List Nat} {h : Nat → Nat → Nat × List Nat}
    (e : ∀ gd d a b s, exec (mk gd d a b) s = .next (s.log2 gd d a b h))
    (hf : ∀ x y : Word, (BitVec.ofNat 32 (h x.toNat y.toNat).1, (h x.toNat y.toNat).2) = f x y) : Logs2 mk f := by
  intro s g rest gd d a b hi
  rw [e, State.log2, lanewise_issues hi (by simp) (by simp)]
  simp [← hf, State.opnd]

/-- Accumulating words. -/
theorem log3_logs {mk : BitVec 3 → BitVec 7 → BitVec 7 → BitVec 7 → Instr} {f : Word → Word → Word → Word × List Nat} {h : Nat → Nat → Nat → Nat × List Nat}
    (e : ∀ gd d a b s, exec (mk gd d a b) s = .next (s.log3 gd d a b h))
    (hf : ∀ x y z : Word, (BitVec.ofNat 32 (h x.toNat y.toNat z.toNat).1, (h x.toNat y.toNat z.toNat).2) = f x y z) : Logs3 mk f := by
  intro s g rest gd d a b hi
  rw [e, State.log3, lanewise_issues hi (by simp) (by simp)]
  simp [← hf, State.opnd]

/-- Words of one value with a log. -/
theorem log1_logs {mk : BitVec 3 → BitVec 7 → BitVec 7 → Instr} {f : Word → Word × List Nat} {h : Nat → Nat × List Nat}
    (e : ∀ gd d a s, exec (mk gd d a) s = .next (s.log1 gd d a h)) (hf : ∀ x : Word, (BitVec.ofNat 32 (h x.toNat).1, (h x.toNat).2) = f x) : Logs1 mk f := by
  intro s g rest gd d a hi
  rw [e, State.log1, lanewise_issues hi (by simp) (by simp)]
  simp [← hf, State.opnd]

/-! ## Words of the predicate register -/

/-- A word of the predicate register that finds its operands completes. -/
theorem predWord_issues {s : State} {g : Grp} {rest : List Grp} {need : Nat} {srcs : List Nat} (f : RLane → List PVal → RLane × List Nat)
    (h : Issues s g rest 0 srcs []) (hn : ∀ l ∈ g.lanes, need ≤ l.depth) :
    s.predWord need srcs f = s.headGrp ({ g with lanes := g.lanes.map (fun l => (f l (srcs.map (s.readD g l))).1),
                                                 arith := logAll g.arith (g.lanes.map (fun l => f l (srcs.map (s.readD g l)))) }.adv) rest := by
  have e2 := operandTrap_none (s := s) (g := g) (ls := g.lanes) (srcs := srcs) (dsts := [])
    (fun l hl => h.srcs l hl (by simp [RLane.gate, guardEntry])) (by simp)
  simp only [State.predWord, State.word, h.head, Grp.deep_of hn, e2, Bool.not_true, Bool.false_eq_true, if_false]
  rw [advance_head h.head h.ids (by rfl)]
  simp [List.map_map, Function.comp_def]

/-- Causes none: the log stays. -/
theorem logAll_none {a : List (Nat × Nat × Nat)} {rs : List (RLane × List Nat)} (h : ∀ r ∈ rs, r.2 = []) : logAll a rs = a := by
  induction rs with
  | nil => rfl
  | cons r t ih => simp [h r (by simp), ih (fun x hx => h x (by simp [hx]))]

/-! ## Tokens -/

/-- A token all of whose data is there. -/
theorem nameToken_done {s : State} {t : Token} (h1 : t.lanes ≠ []) (h2 : ∀ l ∈ t.lanes, l.vals.isSome = true) :
    s.nameToken t = { s with ctl.nextId := s.ctl.nextId + 1, ctl.agenda := s.ctl.agenda ++ [.tokenComplete s.ctl.nextId],
                             core.toks := s.core.toks ++ [{ t with id := s.ctl.nextId }] } := by
  have e1 : t.lanes.isEmpty = false := by simpa using h1
  have e2 : t.lanes.all (fun l => l.vals.isSome) = true := by simpa using h2
  simp [State.nameToken, e1, e2, State.send, State.bump]

theorem named_advance {s : State} {g g' : Grp} {rest : List Grp} {t : Token} (h : s.core.issue = g :: rest) (hr : ∀ x ∈ rest, x.id ≠ g.id) (hg : g'.id = g.id)
    (h1 : t.lanes ≠ []) (h2 : ∀ l ∈ t.lanes, l.vals.isSome = true) : (s.nameToken t).advance g' = s.named g'.adv rest t := by
  rw [nameToken_done h1 h2, advance_head (g := g) (rest := rest) (by simpa using h) hr hg]
  rfl

/-- A word on a token that finds its operands: the results of its lanes ride on it. -/
theorem tokWord_tokens {s : State} {g : Grp} {rest : List Grp} {gd k : BitVec 3} {d : BitVec 7} {srcs : List Nat}
    {f : List (RLane × List PVal) → RLane → Gate → Option (PVal × List Nat)} (h : Tokens s g rest gd srcs [d.toNat] k) {rs : List (RLane × PVal × List Nat)}
    (hf : g.lanes.filterMap (fun l => (f ((g.active gd).map (fun l => (l, srcs.map (s.readD g l)))) l (l.gate gd)).map (fun r => (l, r))) = rs) (hr : rs ≠ []) :
    s.tokWord gd d.toNat k.toNat srcs f =
      s.named ((g.logs (logAll g.arith (rs.map (fun r => (r.1, r.2.2))))).adv) rest (g.token k.toNat d.toNat 1 (rs.map (fun r => doneLane r.1 [r.2.1]))) := by
  have e2 := operandTrap_none (s := s) (g := g) (ls := g.active gd) (srcs := srcs) (dsts := [d.toNat])
    (fun l hl => h.srcs l (Grp.mem_active.1 hl).1 (Grp.mem_active.1 hl).2) (fun l hl => h.dsts l (Grp.mem_active.1 hl).1 (Grp.mem_active.1 hl).2)
  simp only [State.tokWord, State.word, h.head, Grp.deep_of h.deep, e2, Grp.guardPois_nil h.clear, operandTrap_nil, h.free, Bool.not_true, Bool.false_eq_true, if_false,
    hf]
  rw [named_advance h.head h.ids (by rfl) (by simpa [Grp.token] using hr)
    (by simp only [Grp.token, List.mem_map]; rintro l ⟨r, -, rfl⟩; rfl)]
  rfl

/-- In a group whose lane positions are filled once, a lane is found by its position. -/
theorem find_lane {ls : List RLane} {α : Type} {v : RLane → α} (h : (ls.map (fun l => l.lane)).Nodup) {l : RLane} (hl : l ∈ ls) :
    (ls.map (fun l => (l, v l))).find? (fun x => x.1.lane == l.lane) = some (l, v l) := by
  induction ls with
  | nil => simp at hl
  | cons m t ih =>
    simp only [List.map_cons, List.nodup_cons, List.mem_map, not_exists, not_and] at h
    rcases List.mem_cons.1 hl with rfl | hm
    · simp
    · have : ¬ m.lane = l.lane := fun e => h.1 l hm e.symm
      simp [this, ih h.2 hm]

theorem Issues.onceActive {s : State} {g : Grp} {rest : List Grp} {gd : BitVec 3} {srcs dsts : List Nat} (h : Issues s g rest gd srcs dsts) :
    ((g.active gd).map (fun l => l.lane)).Nodup := h.once.sublist (List.Sublist.map _ (List.filter_sublist))

/-- The results of the lanes that a guard lets through, where the others give none. -/
theorem filterMap_active {g : Grp} {gd : BitVec 3} {β : Type} {f : RLane → Option β} {v : RLane → β} (hc : ∀ l ∈ g.lanes, l.gate gd ≠ .pois)
    (h1 : ∀ l ∈ g.lanes, l.gate gd = .on → f l = some (v l)) (h2 : ∀ l ∈ g.lanes, l.gate gd = .off → f l = none) :
    g.lanes.filterMap (fun l => (f l).map (fun r => (l, r))) = (g.active gd).map (fun l => (l, v l)) := by
  unfold Grp.active
  generalize g.lanes = ls at hc h1 h2
  induction ls with
  | nil => rfl
  | cons m t ih =>
    have it := ih (fun l hl => hc l (by simp [hl])) (fun l hl => h1 l (by simp [hl])) (fun l hl => h2 l (by simp [hl]))
    cases hg : m.gate gd with
    | off => simp [h2 m (by simp) hg, hg, it]
    | on => simp [h1 m (by simp) hg, hg, it]
    | pois => exact absurd hg (hc m (by simp))

/-! ## Words that consume poison -/

theorem active_find_bad {s : State} {g : Grp} {rest : List Grp} {gd : BitVec 3} {srcs dsts : List Nat} (h : Issues s g rest gd srcs dsts) :
    ((g.active gd).map (fun l => (l, srcs.map (s.readD g l)))).filterMap (fun x => (x.2.find? PVal.bad).map (fun p => (x.1, p))) = [] := by
  simp only [List.filterMap_eq_nil_iff, List.mem_map]
  rintro _ ⟨l, hl, rfl⟩
  simp only [Option.map_eq_none_iff, List.find?_eq_none, List.mem_map]
  rintro p ⟨c, hc, rfl⟩
  have hm := Grp.mem_active.1 hl
  simp [readD_clean (h.srcs l hm.1 hm.2 c hc)]

/-- A word that consumes poison and finds its operands goes on with what its active lanes read. -/
theorem consume_issues {s : State} {g : Grp} {rest : List Grp} {gd : BitVec 3} {srcs dsts : List Nat} (acc : Nat)
    (body : State → Grp → List (RLane × List PVal) → State) (h : Issues s g rest gd srcs dsts) :
    s.consume acc gd srcs body = body s g ((g.active gd).map (fun l => (l, srcs.map (s.readD g l)))) := by
  have e2 := operandTrap_none (s := s) (g := g) (ls := g.active gd) (srcs := srcs) (dsts := [])
    (fun l hl => h.srcs l (Grp.mem_active.1 hl).1 (Grp.mem_active.1 hl).2) (by simp)
  have e4 := active_find_bad h
  simp only [State.consume, State.word, h.head, Grp.deep_of h.deep, e2, Grp.guardPois_nil h.clear, Bool.not_true, Bool.false_eq_true, if_false, List.map_nil,
    List.nil_append, e4, List.isEmpty_nil]

/-- The checks of a load that finds its operands and a free token pass. -/
theorem loading_tokens {s : State} {g : Grp} {rest : List Grp} {gd k : BitVec 3} {srcs dsts : List Nat}
    (body : State → Grp → List (RLane × List PVal) → List RLane → State) (h : Tokens s g rest gd srcs dsts k) :
    s.loading gd k srcs dsts body = body s g ((g.active gd).map (fun l => (l, srcs.map (s.readD g l)))) [] := by
  have e2 := operandTrap_none (s := s) (g := g) (ls := g.active gd) (srcs := srcs) (dsts := dsts)
    (fun l hl => h.srcs l (Grp.mem_active.1 hl).1 (Grp.mem_active.1 hl).2) (fun l hl => h.dsts l (Grp.mem_active.1 hl).1 (Grp.mem_active.1 hl).2)
  have e4 := active_find_bad h.toIssues
  simp only [State.loading, State.word, h.head, Grp.deep_of h.deep, e2, Grp.guardPois_nil h.clear, operandTrap_nil, Bool.not_true, Bool.false_eq_true, if_false,
    e4, List.isEmpty_nil, h.free]

/-! ## Scratchpad -/

/-- Regions that cover none of a word's lines are not filled. -/
theorem fillLanes_none {s : State} {g : Grp} {ls : List (RLane × Nat)}
    (h : ∀ a ∈ ls, ∃ x, s.gang g.core a.1.slot = some x ∧ x.regionOf (a.2 / 128) = none) :
    s.fillLanes g ls = { st := s, wait := false, bad := [], walks := [], badWalk := [] } := by
  unfold State.fillLanes
  induction ls with
  | nil => rfl
  | cons a t ih =>
    obtain ⟨x, hx, hr⟩ := h a (by simp)
    have e : s.fillLine g a.1 a.2 = (s, .done) := by simp [State.fillLine, hx, hr]
    simp only [List.foldl_cons, e]
    exact ih (fun b hb => h b (by simp [hb]))

/-- No watchpoint is hit in a launch that no board holds. -/
theorem watchHits_none {s : State} {g : Grp} {w : Bool} {n : Nat} {acc : List (RLane × Nat × Nat)} (hh : s.held g.ctx = false)
    (h : ∀ a ∈ acc, ∃ x, s.gang g.core a.1.slot = some x ∧ x.ctx = g.ctx) : s.watchHits g w n acc = [] := by
  simp only [State.watchHits, List.filter_eq_nil_iff]
  intro a ha
  obtain ⟨x, hx, hc⟩ := h a ha
  simp [hx, State.watchHit, hc, hh]

/-- The checks of a scratchpad access that finds its bytes pass. -/
theorem spadCheck_ready {s : State} {g : Grp} {gd : BitVec 3} {align size : Nat} {off : RLane → Nat} (h : SpadReady s g gd align size off) (body : State → State) :
    s.spadCheck g align size ((g.active gd).map (fun l => (l, off l))) body = body s := by
  have e1 : misaligned align ((g.active gd).map (fun l => (l, off l))) = [] := by
    simp only [misaligned, List.map_eq_nil_iff, List.filter_eq_nil_iff, List.mem_map]
    rintro _ ⟨l, hl, rfl⟩
    simp [(h.2 l hl).1]
  have e2 : s.beyondSpad g size ((g.active gd).map (fun l => (l, off l))) = [] := by
    simp only [State.beyondSpad, List.map_eq_nil_iff, List.filter_eq_nil_iff, List.mem_map]
    rintro _ ⟨l, hl, rfl⟩
    simpa using (h.2 l hl).2.1
  have e3 := fillLanes_none (s := s) (g := g) (ls := (g.active gd).map (fun l => (l, off l))) (by
    simp only [List.mem_map]
    rintro _ ⟨l, hl, rfl⟩
    obtain ⟨x, hx, -, hr⟩ := (h.2 l hl).2.2
    exact ⟨x, hx, hr⟩)
  simp [State.spadCheck, e1, e2, e3]

/-! ## Translation -/

/-- Lanes whose addresses are all translated. -/
theorem xlLanes_ok {s : State} {g : Grp} {acc : Nat} {ls : List RLane} {va : RLane → Nat} {tr : RLane → Nat × PAttr}
    (h : ∀ l ∈ ls, s.xlate (stackOf g.core) (s.tenantOfCtx g.ctx) g.ctx (va l) acc = .ok (tr l).1 (tr l).2) :
    s.xlLanes g acc (ls.map (fun l => (l, va l))) =
      { st := s, wait := false, ok := ls.map (fun l => (l, va l, (tr l).1, (tr l).2)), bad := [], walks := [], badWalk := [] } := by
  unfold State.xlLanes
  suffices ∀ done, (ls.map (fun l => (l, va l))).foldl (s.xlLane g acc) { st := s, wait := false, ok := done, bad := [], walks := [], badWalk := [] } =
      { st := s, wait := false, ok := done ++ ls.map (fun l => (l, va l, (tr l).1, (tr l).2)), bad := [], walks := [], badWalk := [] } by
    simpa using this []
  induction ls with
  | nil => simp
  | cons l t ih =>
    intro done
    have e := h l (by simp)
    simp only [List.map_cons, List.foldl_cons]
    rw [show s.xlLane g acc { st := s, wait := false, ok := done, bad := [], walks := [], badWalk := [] } (l, va l) =
      { st := s, wait := false, ok := done ++ [(l, va l, (tr l).1, (tr l).2)], bad := [], walks := [], badWalk := [] } by simp [State.xlLane, e]]
    rw [ih (fun m hm => h m (by simp [hm]))]
    simp

/-- Accesses of a tenant whose sampling is off only count (R109, R110). -/
theorem sampleLanes_off {s : State} {g : Grp} {typ : PAttr → Nat} {ls : List (RLane × Nat × Nat × PAttr)}
    (h : bit (nget 0 s.ten.hsctl (s.tenantOfCtx g.ctx)) 0 = false) : ∃ c, s.sampleLanes g typ ls = { s with coh.hot := c } := by
  unfold State.sampleLanes
  induction ls generalizing s with
  | nil => exact ⟨s.coh.hot, rfl⟩
  | cons e t ih =>
    have e1 : s.sample g.ctx g.core e.1.slot e.1.lane e.2.1 (typ e.2.2.2) =
        { s with coh.hot := nset 0 s.coh.hot (256 * g.core + s.tenantOfCtx g.ctx) (nget 0 s.coh.hot (256 * g.core + s.tenantOfCtx g.ctx) + 1) } := by
      simp [State.sample, h]
    rw [List.foldl_cons, e1]
    obtain ⟨c, hc⟩ := ih (s := { s with coh.hot := nset 0 s.coh.hot (256 * g.core + s.tenantOfCtx g.ctx) (nget 0 s.coh.hot (256 * g.core + s.tenantOfCtx g.ctx) + 1) }) h
    exact ⟨c, hc⟩

end Sys2Proof.Machine
end

