-- ==== Sys2Proof/Laws/PerInstr.lean ====
section
/-! SUPPORT. Per instruction: the pattern table reads a well-formed instruction's own encoding back. -/

namespace Sys2Proof.Laws.Encoded

open Sys2Proof

/-- The word of a well-formed instruction matches the instruction's own row of the opcode map, with its fields. -/
def Statement (i : Instr) : Prop := i.wf → ∀ w, encode i = some w → pattern w = some i

theorem land_run (n lo k : Nat) : n &&& ((2 ^ k - 1) <<< lo) = (n / 2 ^ lo % 2 ^ k) <<< lo := by
  apply Nat.eq_of_testBit_eq
  intro i
  rw [Nat.testBit_and, Nat.testBit_shiftLeft, Nat.testBit_shiftLeft, Nat.testBit_mod_two_pow, Nat.testBit_div_two_pow, Nat.testBit_two_pow_sub_one]
  by_cases h : lo ≤ i
  · simp [h, show i - lo + lo = i by omega, Bool.and_comm]
  · simp [h]

/-- A word hits a pattern whose runs of fixed bits (place, length, value) it has. -/
theorem hits_runs {w : Word} {mask pat : Nat} (rs : List (Nat × Nat × Nat)) (h : ∀ r ∈ rs, w.toNat / 2 ^ r.1 % 2 ^ r.2.1 = r.2.2)
    (hm : mask = rs.foldr (fun r a => ((2 ^ r.2.1 - 1) <<< r.1) ||| a) 0) (hp : pat = rs.foldr (fun r a => (r.2.2 <<< r.1) ||| a) 0) :
    hits w mask pat = true := by
  subst hm hp
  simp only [hits, beq_iff_eq]
  induction rs with
  | nil => simp
  | cons r t ih => simp only [List.foldr_cons, Nat.and_or_distrib_left, land_run, ih (fun x hx => h x (by simp [hx])), h r (by simp)]

/-- A word misses a pattern when it differs from it on a run of fixed bits. -/
theorem hits_not {w : Word} {mask pat : Nat} (lo k : Nat) (h : w.toNat / 2 ^ lo % 2 ^ k ≠ pat / 2 ^ lo % 2 ^ k)
    (hm : mask &&& ((2 ^ k - 1) <<< lo) = (2 ^ k - 1) <<< lo) : hits w mask pat = false := by
  simp only [hits, beq_eq_false_iff_ne]
  intro e
  apply h
  have := congrArg (fun x => (x &&& ((2 ^ k - 1) <<< lo)) >>> lo) e
  simp only [Nat.and_assoc] at this
  rw [hm] at this
  simpa only [land_run, Nat.shiftLeft_shiftRight] using this

/-- A check passes when its condition holds. -/
theorem req_none {p : Prop} [Decidable p] {e : DecodeErr} : req p e = none ↔ p := by
  unfold req
  split <;> simp_all

/-- A list of checks passes when each of them does. -/
theorem firstErr_none {l : List (Option DecodeErr)} : firstErr l = none ↔ ∀ x ∈ l, x = none := by
  induction l with
  | nil => simp [firstErr]
  | cons a t ih => cases a <;> simp [firstErr, ih]

/-- A word whose bits are a number below 2^32. -/
theorem toNat_of {n : Nat} {w : Word} (h : some (BitVec.ofNat 32 n) = some w) (hn : n < 2 ^ 32) : n = w.toNat := by
  rw [← Option.some.inj h, BitVec.toNat_ofNat, Nat.mod_eq_of_lt hn]

theorem shape1 {v0 : Nat} (b0 : v0 < 2147483648) (x0 : BitVec 1) {w : Word} (h : mkWord (put (v0 * 2 ^ 0) 1 x0 31) = some w) :
    w.toNat / 2 ^ 0 % 2 ^ 31 = v0 ∧ fld w 31 1 = x0 := by
  have n := toNat_of h (by simp only [put]; omega)
  simp only [put] at n
  refine ⟨?_, ?_⟩
  all_goals first | omega | (apply BitVec.eq_of_toNat_eq; simp only [fld, BitVec.toNat_ofNat]; omega)

theorem shape2 {v0 v1 : Nat} (b0 : v0 < 256) (b1 : v1 < 2048) (x0 : BitVec 8) (x1 : BitVec 1) (x2 : BitVec 4) {w : Word} (h : mkWord (put (put (put (v0 * 2 ^ 0 + v1 * 2 ^ 21) 8 x0 13) 1 x1 12) 4 x2 8) = some w) :
    w.toNat / 2 ^ 0 % 2 ^ 8 = v0 ∧ w.toNat / 2 ^ 21 % 2 ^ 11 = v1 ∧ fld w 13 8 = x0 ∧ fld w 12 1 = x1 ∧ fld w 8 4 = x2 := by
  have n := toNat_of h (by simp only [put]; omega)
  simp only [put] at n
  refine ⟨?_, ?_, ?_, ?_, ?_⟩
  all_goals first | omega | (apply BitVec.eq_of_toNat_eq; simp only [fld, BitVec.toNat_ofNat]; omega)

theorem shape3 {v0 : Nat} (b0 : v0 < 128) (x0 : BitVec 1) (x1 : BitVec 3) (x2 : BitVec 21) {w : Word} (h : mkWord (put (put (put (v0 * 2 ^ 24) 1 x0 31) 3 x1 21) 21 x2 0) = some w) :
    w.toNat / 2 ^ 24 % 2 ^ 7 = v0 ∧ fld w 31 1 = x0 ∧ fld w 21 3 = x1 ∧ fld w 0 21 = x2 := by
  have n := toNat_of h (by simp only [put]; omega)
  simp only [put] at n
  refine ⟨?_, ?_, ?_, ?_⟩
  all_goals first | omega | (apply BitVec.eq_of_toNat_eq; simp only [fld, BitVec.toNat_ofNat]; omega)

theorem shape4 {v0 v1 v2 : Nat} (b0 : v0 < 128) (b1 : v1 < 128) (b2 : v2 < 128) (x0 : BitVec 1) (x1 : BitVec 3) (x2 : BitVec 7) {w : Word} (h : mkWord (put (put (put (v0 * 2 ^ 0 + v1 * 2 ^ 14 + v2 * 2 ^ 24) 1 x0 31) 3 x1 21) 7 x2 7) = some w) :
    w.toNat / 2 ^ 0 % 2 ^ 7 = v0 ∧ w.toNat / 2 ^ 14 % 2 ^ 7 = v1 ∧ w.toNat / 2 ^ 24 % 2 ^ 7 = v2 ∧ fld w 31 1 = x0 ∧ fld w 21 3 = x1 ∧ fld w 7 7 = x2 := by
  have n := toNat_of h (by simp only [put]; omega)
  simp only [put] at n
  refine ⟨?_, ?_, ?_, ?_, ?_, ?_⟩
  all_goals first | omega | (apply BitVec.eq_of_toNat_eq; simp only [fld, BitVec.toNat_ofNat]; omega)

theorem shape5 {v0 v1 : Nat} (b0 : v0 < 2097152) (b1 : v1 < 128) (x0 : BitVec 1) (x1 : BitVec 3) {w : Word} (h : mkWord (put (put (v0 * 2 ^ 0 + v1 * 2 ^ 24) 1 x0 31) 3 x1 21) = some w) :
    w.toNat / 2 ^ 0 % 2 ^ 21 = v0 ∧ w.toNat / 2 ^ 24 % 2 ^ 7 = v1 ∧ fld w 31 1 = x0 ∧ fld w 21 3 = x1 := by
  have n := toNat_of h (by simp only [put]; omega)
  simp only [put] at n
  refine ⟨?_, ?_, ?_, ?_⟩
  all_goals first | omega | (apply BitVec.eq_of_toNat_eq; simp only [fld, BitVec.toNat_ofNat]; omega)

theorem shape6 {v0 : Nat} (b0 : v0 < 16777216) (x0 : BitVec 1) (x1 : BitVec 7) {w : Word} (h : mkWord (put (put (v0 * 2 ^ 7) 1 x0 31) 7 x1 0) = some w) :
    w.toNat / 2 ^ 7 % 2 ^ 24 = v0 ∧ fld w 31 1 = x0 ∧ fld w 0 7 = x1 := by
  have n := toNat_of h (by simp only [put]; omega)
  simp only [put] at n
  refine ⟨?_, ?_, ?_⟩
  all_goals first | omega | (apply BitVec.eq_of_toNat_eq; simp only [fld, BitVec.toNat_ofNat]; omega)

theorem shape7 {v0 : Nat} (b0 : v0 < 128) (x0 : BitVec 1) (x1 : BitVec 3) (x2 : BitVec 7) (x3 : BitVec 7) (x4 : BitVec 7) {w : Word} (h : mkWord (put (put (put (put (put (v0 * 2 ^ 24) 1 x0 31) 3 x1 21) 7 x2 14) 7 x3 7) 7 x4 0) = some w) :
    w.toNat / 2 ^ 24 % 2 ^ 7 = v0 ∧ fld w 31 1 = x0 ∧ fld w 21 3 = x1 ∧ fld w 14 7 = x2 ∧ fld w 7 7 = x3 ∧ fld w 0 7 = x4 := by
  have n := toNat_of h (by simp only [put]; omega)
  simp only [put] at n
  refine ⟨?_, ?_, ?_, ?_, ?_, ?_⟩
  all_goals first | omega | (apply BitVec.eq_of_toNat_eq; simp only [fld, BitVec.toNat_ofNat]; omega)

theorem shape8 {v0 v1 : Nat} (b0 : v0 < 128) (b1 : v1 < 128) (x0 : BitVec 1) (x1 : BitVec 3) (x2 : BitVec 7) (x3 : BitVec 7) {w : Word} (h : mkWord (put (put (put (put (v0 * 2 ^ 14 + v1 * 2 ^ 24) 1 x0 31) 3 x1 21) 7 x2 7) 7 x3 0) = some w) :
    w.toNat / 2 ^ 14 % 2 ^ 7 = v0 ∧ w.toNat / 2 ^ 24 % 2 ^ 7 = v1 ∧ fld w 31 1 = x0 ∧ fld w 21 3 = x1 ∧ fld w 7 7 = x2 ∧ fld w 0 7 = x3 := by
  have n := toNat_of h (by simp only [put]; omega)
  simp only [put] at n
  refine ⟨?_, ?_, ?_, ?_, ?_, ?_⟩
  all_goals first | omega | (apply BitVec.eq_of_toNat_eq; simp only [fld, BitVec.toNat_ofNat]; omega)

theorem shape9 {v0 v1 v2 : Nat} (b0 : v0 < 16) (b1 : v1 < 16384) (b2 : v2 < 128) (x0 : BitVec 1) (x1 : BitVec 3) (x2 : BitVec 3) {w : Word} (h : mkWord (put (put (put (v0 * 2 ^ 0 + v1 * 2 ^ 7 + v2 * 2 ^ 24) 1 x0 31) 3 x1 21) 3 x2 4) = some w) :
    w.toNat / 2 ^ 0 % 2 ^ 4 = v0 ∧ w.toNat / 2 ^ 7 % 2 ^ 14 = v1 ∧ w.toNat / 2 ^ 24 % 2 ^ 7 = v2 ∧ fld w 31 1 = x0 ∧ fld w 21 3 = x1 ∧ fld w 4 3 = x2 := by
  have n := toNat_of h (by simp only [put]; omega)
  simp only [put] at n
  refine ⟨?_, ?_, ?_, ?_, ?_, ?_⟩
  all_goals first | omega | (apply BitVec.eq_of_toNat_eq; simp only [fld, BitVec.toNat_ofNat]; omega)

theorem shape10 {v0 v1 v2 : Nat} (b0 : v0 < 2) (b1 : v1 < 131072) (b2 : v2 < 128) (x0 : BitVec 1) (x1 : BitVec 3) (x2 : BitVec 3) {w : Word} (h : mkWord (put (put (put (v0 * 2 ^ 0 + v1 * 2 ^ 4 + v2 * 2 ^ 24) 1 x0 31) 3 x1 21) 3 x2 1) = some w) :
    w.toNat / 2 ^ 0 % 2 ^ 1 = v0 ∧ w.toNat / 2 ^ 4 % 2 ^ 17 = v1 ∧ w.toNat / 2 ^ 24 % 2 ^ 7 = v2 ∧ fld w 31 1 = x0 ∧ fld w 21 3 = x1 ∧ fld w 1 3 = x2 := by
  have n := toNat_of h (by simp only [put]; omega)
  simp only [put] at n
  refine ⟨?_, ?_, ?_, ?_, ?_, ?_⟩
  all_goals first | omega | (apply BitVec.eq_of_toNat_eq; simp only [fld, BitVec.toNat_ofNat]; omega)

theorem shape11 {v0 v1 v2 : Nat} (b0 : v0 < 2) (b1 : v1 < 16384) (b2 : v2 < 128) (x0 : BitVec 1) (x1 : BitVec 3) (x2 : BitVec 3) (x3 : BitVec 3) {w : Word} (h : mkWord (put (put (put (put (v0 * 2 ^ 0 + v1 * 2 ^ 7 + v2 * 2 ^ 24) 1 x0 31) 3 x1 21) 3 x2 4) 3 x3 1) = some w) :
    w.toNat / 2 ^ 0 % 2 ^ 1 = v0 ∧ w.toNat / 2 ^ 7 % 2 ^ 14 = v1 ∧ w.toNat / 2 ^ 24 % 2 ^ 7 = v2 ∧ fld w 31 1 = x0 ∧ fld w 21 3 = x1 ∧ fld w 4 3 = x2 ∧ fld w 1 3 = x3 := by
  have n := toNat_of h (by simp only [put]; omega)
  simp only [put] at n
  refine ⟨?_, ?_, ?_, ?_, ?_, ?_, ?_⟩
  all_goals first | omega | (apply BitVec.eq_of_toNat_eq; simp only [fld, BitVec.toNat_ofNat]; omega)

theorem shape12 {v0 v1 v2 : Nat} (b0 : v0 < 8) (b1 : v1 < 128) (b2 : v2 < 128) (x0 : BitVec 1) (x1 : BitVec 3) (x2 : BitVec 7) (x3 : BitVec 4) {w : Word} (h : mkWord (put (put (put (put (v0 * 2 ^ 4 + v1 * 2 ^ 14 + v2 * 2 ^ 24) 1 x0 31) 3 x1 21) 7 x2 7) 4 x3 0) = some w) :
    w.toNat / 2 ^ 4 % 2 ^ 3 = v0 ∧ w.toNat / 2 ^ 14 % 2 ^ 7 = v1 ∧ w.toNat / 2 ^ 24 % 2 ^ 7 = v2 ∧ fld w 31 1 = x0 ∧ fld w 21 3 = x1 ∧ fld w 7 7 = x2 ∧ fld w 0 4 = x3 := by
  have n := toNat_of h (by simp only [put]; omega)
  simp only [put] at n
  refine ⟨?_, ?_, ?_, ?_, ?_, ?_, ?_⟩
  all_goals first | omega | (apply BitVec.eq_of_toNat_eq; simp only [fld, BitVec.toNat_ofNat]; omega)

theorem shape13 {v0 : Nat} (b0 : v0 < 256) (x0 : BitVec 24) {w : Word} (h : mkWord (put (v0 * 2 ^ 24) 24 x0 0) = some w) :
    w.toNat / 2 ^ 24 % 2 ^ 8 = v0 ∧ fld w 0 24 = x0 := by
  have n := toNat_of h (by simp only [put]; omega)
  simp only [put] at n
  refine ⟨?_, ?_⟩
  all_goals first | omega | (apply BitVec.eq_of_toNat_eq; simp only [fld, BitVec.toNat_ofNat]; omega)

theorem shape14 {v0 v1 : Nat} (b0 : v0 < 128) (b1 : v1 < 128) (x0 : BitVec 1) (x1 : BitVec 3) (x2 : BitVec 7) (x3 : BitVec 7) {w : Word} (h : mkWord (put (put (put (put (v0 * 2 ^ 7 + v1 * 2 ^ 24) 1 x0 31) 3 x1 21) 7 x2 14) 7 x3 0) = some w) :
    w.toNat / 2 ^ 7 % 2 ^ 7 = v0 ∧ w.toNat / 2 ^ 24 % 2 ^ 7 = v1 ∧ fld w 31 1 = x0 ∧ fld w 21 3 = x1 ∧ fld w 14 7 = x2 ∧ fld w 0 7 = x3 := by
  have n := toNat_of h (by simp only [put]; omega)
  simp only [put] at n
  refine ⟨?_, ?_, ?_, ?_, ?_, ?_⟩
  all_goals first | omega | (apply BitVec.eq_of_toNat_eq; simp only [fld, BitVec.toNat_ofNat]; omega)

theorem shape15 {v0 v1 : Nat} (b0 : v0 < 128) (b1 : v1 < 128) (x0 : BitVec 1) (x1 : BitVec 3) (x2 : BitVec 7) (x3 : BitVec 7) {w : Word} (h : mkWord (put (put (put (put (v0 * 2 ^ 0 + v1 * 2 ^ 24) 1 x0 31) 3 x1 21) 7 x2 14) 7 x3 7) = some w) :
    w.toNat / 2 ^ 0 % 2 ^ 7 = v0 ∧ w.toNat / 2 ^ 24 % 2 ^ 7 = v1 ∧ fld w 31 1 = x0 ∧ fld w 21 3 = x1 ∧ fld w 14 7 = x2 ∧ fld w 7 7 = x3 := by
  have n := toNat_of h (by simp only [put]; omega)
  simp only [put] at n
  refine ⟨?_, ?_, ?_, ?_, ?_, ?_⟩
  all_goals first | omega | (apply BitVec.eq_of_toNat_eq; simp only [fld, BitVec.toNat_ofNat]; omega)

theorem shape16 {v0 : Nat} (b0 : v0 < 8192) (x0 : BitVec 1) (x1 : BitVec 1) (x2 : BitVec 3) (x3 : BitVec 7) (x4 : BitVec 7) {w : Word} (h : mkWord (put (put (put (put (put (v0 * 2 ^ 18) 1 x0 31) 1 x1 17) 3 x2 14) 7 x3 7) 7 x4 0) = some w) :
    w.toNat / 2 ^ 18 % 2 ^ 13 = v0 ∧ fld w 31 1 = x0 ∧ fld w 17 1 = x1 ∧ fld w 14 3 = x2 ∧ fld w 7 7 = x3 ∧ fld w 0 7 = x4 := by
  have n := toNat_of h (by simp only [put]; omega)
  simp only [put] at n
  refine ⟨?_, ?_, ?_, ?_, ?_, ?_⟩
  all_goals first | omega | (apply BitVec.eq_of_toNat_eq; simp only [fld, BitVec.toNat_ofNat]; omega)

theorem shape17 {v0 : Nat} (b0 : v0 < 16384) (x0 : BitVec 1) (x1 : BitVec 3) (x2 : BitVec 7) (x3 : BitVec 7) {w : Word} (h : mkWord (put (put (put (put (v0 * 2 ^ 17) 1 x0 31) 3 x1 14) 7 x2 7) 7 x3 0) = some w) :
    w.toNat / 2 ^ 17 % 2 ^ 14 = v0 ∧ fld w 31 1 = x0 ∧ fld w 14 3 = x1 ∧ fld w 7 7 = x2 ∧ fld w 0 7 = x3 := by
  have n := toNat_of h (by simp only [put]; omega)
  simp only [put] at n
  refine ⟨?_, ?_, ?_, ?_, ?_⟩
  all_goals first | omega | (apply BitVec.eq_of_toNat_eq; simp only [fld, BitVec.toNat_ofNat]; omega)

theorem shape18 {v0 v1 : Nat} (b0 : v0 < 16384) (b1 : v1 < 1024) (x0 : BitVec 1) (x1 : BitVec 7) {w : Word} (h : mkWord (put (put (v0 * 2 ^ 0 + v1 * 2 ^ 21) 1 x0 31) 7 x1 14) = some w) :
    w.toNat / 2 ^ 0 % 2 ^ 14 = v0 ∧ w.toNat / 2 ^ 21 % 2 ^ 10 = v1 ∧ fld w 31 1 = x0 ∧ fld w 14 7 = x1 := by
  have n := toNat_of h (by simp only [put]; omega)
  simp only [put] at n
  refine ⟨?_, ?_, ?_, ?_⟩
  all_goals first | omega | (apply BitVec.eq_of_toNat_eq; simp only [fld, BitVec.toNat_ofNat]; omega)

theorem shape19 {v0 v1 : Nat} (b0 : v0 < 128) (b1 : v1 < 131072) (x0 : BitVec 1) (x1 : BitVec 7) {w : Word} (h : mkWord (put (put (v0 * 2 ^ 0 + v1 * 2 ^ 14) 1 x0 31) 7 x1 7) = some w) :
    w.toNat / 2 ^ 0 % 2 ^ 7 = v0 ∧ w.toNat / 2 ^ 14 % 2 ^ 17 = v1 ∧ fld w 31 1 = x0 ∧ fld w 7 7 = x1 := by
  have n := toNat_of h (by simp only [put]; omega)
  simp only [put] at n
  refine ⟨?_, ?_, ?_, ?_⟩
  all_goals first | omega | (apply BitVec.eq_of_toNat_eq; simp only [fld, BitVec.toNat_ofNat]; omega)

theorem shape20 {v0 : Nat} (b0 : v0 < 128) (x0 : BitVec 1) (x1 : BitVec 3) (x2 : BitVec 7) (x3 : BitVec 14) {w : Word} (h : mkWord (put (put (put (put (v0 * 2 ^ 24) 1 x0 31) 3 x1 21) 7 x2 14) 14 x3 0) = some w) :
    w.toNat / 2 ^ 24 % 2 ^ 7 = v0 ∧ fld w 31 1 = x0 ∧ fld w 21 3 = x1 ∧ fld w 14 7 = x2 ∧ fld w 0 14 = x3 := by
  have n := toNat_of h (by simp only [put]; omega)
  simp only [put] at n
  refine ⟨?_, ?_, ?_, ?_, ?_⟩
  all_goals first | omega | (apply BitVec.eq_of_toNat_eq; simp only [fld, BitVec.toNat_ofNat]; omega)

theorem shape21 {v0 : Nat} (b0 : v0 < 128) (x0 : BitVec 1) (x1 : BitVec 3) (x2 : BitVec 14) (x3 : BitVec 7) {w : Word} (h : mkWord (put (put (put (put (v0 * 2 ^ 24) 1 x0 31) 3 x1 21) 14 x2 7) 7 x3 0) = some w) :
    w.toNat / 2 ^ 24 % 2 ^ 7 = v0 ∧ fld w 31 1 = x0 ∧ fld w 21 3 = x1 ∧ fld w 7 14 = x2 ∧ fld w 0 7 = x3 := by
  have n := toNat_of h (by simp only [put]; omega)
  simp only [put] at n
  refine ⟨?_, ?_, ?_, ?_, ?_⟩
  all_goals first | omega | (apply BitVec.eq_of_toNat_eq; simp only [fld, BitVec.toNat_ofNat]; omega)

theorem shape22 {v0 : Nat} (b0 : v0 < 32) (x0 : BitVec 1) (x1 : BitVec 2) (x2 : BitVec 3) (x3 : BitVec 7) (x4 : BitVec 7) (x5 : BitVec 7) {w : Word} (h : mkWord (put (put (put (put (put (put (v0 * 2 ^ 26) 1 x0 31) 2 x1 24) 3 x2 21) 7 x3 14) 7 x4 7) 7 x5 0) = some w) :
    w.toNat / 2 ^ 26 % 2 ^ 5 = v0 ∧ fld w 31 1 = x0 ∧ fld w 24 2 = x1 ∧ fld w 21 3 = x2 ∧ fld w 14 7 = x3 ∧ fld w 7 7 = x4 ∧ fld w 0 7 = x5 := by
  have n := toNat_of h (by simp only [put]; omega)
  simp only [put] at n
  refine ⟨?_, ?_, ?_, ?_, ?_, ?_, ?_⟩
  all_goals first | omega | (apply BitVec.eq_of_toNat_eq; simp only [fld, BitVec.toNat_ofNat]; omega)

theorem shape23 {v0 v1 : Nat} (b0 : v0 < 16) (b1 : v1 < 128) (x0 : BitVec 1) (x1 : BitVec 3) (x2 : BitVec 7) (x3 : BitVec 7) (x4 : BitVec 3) {w : Word} (h : mkWord (put (put (put (put (put (v0 * 2 ^ 3 + v1 * 2 ^ 24) 1 x0 31) 3 x1 21) 7 x2 14) 7 x3 7) 3 x4 0) = some w) :
    w.toNat / 2 ^ 3 % 2 ^ 4 = v0 ∧ w.toNat / 2 ^ 24 % 2 ^ 7 = v1 ∧ fld w 31 1 = x0 ∧ fld w 21 3 = x1 ∧ fld w 14 7 = x2 ∧ fld w 7 7 = x3 ∧ fld w 0 3 = x4 := by
  have n := toNat_of h (by simp only [put]; omega)
  simp only [put] at n
  refine ⟨?_, ?_, ?_, ?_, ?_, ?_, ?_⟩
  all_goals first | omega | (apply BitVec.eq_of_toNat_eq; simp only [fld, BitVec.toNat_ofNat]; omega)

theorem shape24 {v0 v1 : Nat} (b0 : v0 < 16) (b1 : v1 < 128) (x0 : BitVec 1) (x1 : BitVec 3) (x2 : BitVec 7) (x3 : BitVec 7) (x4 : BitVec 3) {w : Word} (h : mkWord (put (put (put (put (put (v0 * 2 ^ 0 + v1 * 2 ^ 24) 1 x0 31) 3 x1 21) 7 x2 14) 7 x3 7) 3 x4 4) = some w) :
    w.toNat / 2 ^ 0 % 2 ^ 4 = v0 ∧ w.toNat / 2 ^ 24 % 2 ^ 7 = v1 ∧ fld w 31 1 = x0 ∧ fld w 21 3 = x1 ∧ fld w 14 7 = x2 ∧ fld w 7 7 = x3 ∧ fld w 4 3 = x4 := by
  have n := toNat_of h (by simp only [put]; omega)
  simp only [put] at n
  refine ⟨?_, ?_, ?_, ?_, ?_, ?_, ?_⟩
  all_goals first | omega | (apply BitVec.eq_of_toNat_eq; simp only [fld, BitVec.toNat_ofNat]; omega)

theorem shape25 {v0 : Nat} (b0 : v0 < 128) (x0 : BitVec 1) (x1 : BitVec 3) (x2 : BitVec 7) (x3 : BitVec 7) (x4 : BitVec 4) (x5 : BitVec 3) {w : Word} (h : mkWord (put (put (put (put (put (put (v0 * 2 ^ 24) 1 x0 31) 3 x1 21) 7 x2 14) 7 x3 7) 4 x4 3) 3 x5 0) = some w) :
    w.toNat / 2 ^ 24 % 2 ^ 7 = v0 ∧ fld w 31 1 = x0 ∧ fld w 21 3 = x1 ∧ fld w 14 7 = x2 ∧ fld w 7 7 = x3 ∧ fld w 3 4 = x4 ∧ fld w 0 3 = x5 := by
  have n := toNat_of h (by simp only [put]; omega)
  simp only [put] at n
  refine ⟨?_, ?_, ?_, ?_, ?_, ?_, ?_⟩
  all_goals first | omega | (apply BitVec.eq_of_toNat_eq; simp only [fld, BitVec.toNat_ofNat]; omega)

theorem shape26 {v0 : Nat} (b0 : v0 < 1048576) (x0 : BitVec 3) (x1 : BitVec 3) (x2 : BitVec 3) (x3 : BitVec 3) {w : Word} (h : mkWord (put (put (put (put (v0 * 2 ^ 12) 3 x0 9) 3 x1 6) 3 x2 3) 3 x3 0) = some w) :
    w.toNat / 2 ^ 12 % 2 ^ 20 = v0 ∧ fld w 9 3 = x0 ∧ fld w 6 3 = x1 ∧ fld w 3 3 = x2 ∧ fld w 0 3 = x3 := by
  have n := toNat_of h (by simp only [put]; omega)
  simp only [put] at n
  refine ⟨?_, ?_, ?_, ?_, ?_⟩
  all_goals first | omega | (apply BitVec.eq_of_toNat_eq; simp only [fld, BitVec.toNat_ofNat]; omega)

theorem shape27 {v0 v1 : Nat} (b0 : v0 < 8) (b1 : v1 < 128) (x0 : BitVec 1) (x1 : BitVec 3) (x2 : BitVec 7) (x3 : BitVec 7) (x4 : BitVec 4) {w : Word} (h : mkWord (put (put (put (put (put (v0 * 2 ^ 4 + v1 * 2 ^ 24) 1 x0 31) 3 x1 21) 7 x2 14) 7 x3 7) 4 x4 0) = some w) :
    w.toNat / 2 ^ 4 % 2 ^ 3 = v0 ∧ w.toNat / 2 ^ 24 % 2 ^ 7 = v1 ∧ fld w 31 1 = x0 ∧ fld w 21 3 = x1 ∧ fld w 14 7 = x2 ∧ fld w 7 7 = x3 ∧ fld w 0 4 = x4 := by
  have n := toNat_of h (by simp only [put]; omega)
  simp only [put] at n
  refine ⟨?_, ?_, ?_, ?_, ?_, ?_, ?_⟩
  all_goals first | omega | (apply BitVec.eq_of_toNat_eq; simp only [fld, BitVec.toNat_ofNat]; omega)

theorem shape28 {v0 v1 : Nat} (b0 : v0 < 2048) (b1 : v1 < 128) (x0 : BitVec 1) (x1 : BitVec 3) (x2 : BitVec 7) (x3 : BitVec 3) {w : Word} (h : mkWord (put (put (put (put (v0 * 2 ^ 3 + v1 * 2 ^ 24) 1 x0 31) 3 x1 21) 7 x2 14) 3 x3 0) = some w) :
    w.toNat / 2 ^ 3 % 2 ^ 11 = v0 ∧ w.toNat / 2 ^ 24 % 2 ^ 7 = v1 ∧ fld w 31 1 = x0 ∧ fld w 21 3 = x1 ∧ fld w 14 7 = x2 ∧ fld w 0 3 = x3 := by
  have n := toNat_of h (by simp only [put]; omega)
  simp only [put] at n
  refine ⟨?_, ?_, ?_, ?_, ?_, ?_⟩
  all_goals first | omega | (apply BitVec.eq_of_toNat_eq; simp only [fld, BitVec.toNat_ofNat]; omega)

theorem shape29 {v0 : Nat} (b0 : v0 < 134217728) (x0 : BitVec 1) (x1 : BitVec 4) {w : Word} (h : mkWord (put (put (v0 * 2 ^ 4) 1 x0 31) 4 x1 0) = some w) :
    w.toNat / 2 ^ 4 % 2 ^ 27 = v0 ∧ fld w 31 1 = x0 ∧ fld w 0 4 = x1 := by
  have n := toNat_of h (by simp only [put]; omega)
  simp only [put] at n
  refine ⟨?_, ?_, ?_⟩
  all_goals first | omega | (apply BitVec.eq_of_toNat_eq; simp only [fld, BitVec.toNat_ofNat]; omega)

theorem shape30 {v0 v1 : Nat} (b0 : v0 < 131072) (b1 : v1 < 128) (x0 : BitVec 1) (x1 : BitVec 3) (x2 : BitVec 4) {w : Word} (h : mkWord (put (put (put (v0 * 2 ^ 4 + v1 * 2 ^ 24) 1 x0 31) 3 x1 21) 4 x2 0) = some w) :
    w.toNat / 2 ^ 4 % 2 ^ 17 = v0 ∧ w.toNat / 2 ^ 24 % 2 ^ 7 = v1 ∧ fld w 31 1 = x0 ∧ fld w 21 3 = x1 ∧ fld w 0 4 = x2 := by
  have n := toNat_of h (by simp only [put]; omega)
  simp only [put] at n
  refine ⟨?_, ?_, ?_, ?_, ?_⟩
  all_goals first | omega | (apply BitVec.eq_of_toNat_eq; simp only [fld, BitVec.toNat_ofNat]; omega)

theorem shape31 {v0 v1 v2 : Nat} (b0 : v0 < 2) (b1 : v1 < 128) (b2 : v2 < 128) (x0 : BitVec 1) (x1 : BitVec 3) (x2 : BitVec 7) (x3 : BitVec 3) (x4 : BitVec 3) {w : Word} (h : mkWord (put (put (put (put (put (v0 * 2 ^ 0 + v1 * 2 ^ 7 + v2 * 2 ^ 24) 1 x0 31) 3 x1 21) 7 x2 14) 3 x3 4) 3 x4 1) = some w) :
    w.toNat / 2 ^ 0 % 2 ^ 1 = v0 ∧ w.toNat / 2 ^ 7 % 2 ^ 7 = v1 ∧ w.toNat / 2 ^ 24 % 2 ^ 7 = v2 ∧ fld w 31 1 = x0 ∧ fld w 21 3 = x1 ∧ fld w 14 7 = x2 ∧ fld w 4 3 = x3 ∧ fld w 1 3 = x4 := by
  have n := toNat_of h (by simp only [put]; omega)
  simp only [put] at n
  refine ⟨?_, ?_, ?_, ?_, ?_, ?_, ?_, ?_⟩
  all_goals first | omega | (apply BitVec.eq_of_toNat_eq; simp only [fld, BitVec.toNat_ofNat]; omega)

theorem shape32 {v0 v1 v2 : Nat} (b0 : v0 < 8) (b1 : v1 < 128) (b2 : v2 < 128) (x0 : BitVec 1) (x1 : BitVec 3) (x2 : BitVec 7) (x3 : BitVec 4) {w : Word} (h : mkWord (put (put (put (put (v0 * 2 ^ 0 + v1 * 2 ^ 14 + v2 * 2 ^ 24) 1 x0 31) 3 x1 21) 7 x2 7) 4 x3 3) = some w) :
    w.toNat / 2 ^ 0 % 2 ^ 3 = v0 ∧ w.toNat / 2 ^ 14 % 2 ^ 7 = v1 ∧ w.toNat / 2 ^ 24 % 2 ^ 7 = v2 ∧ fld w 31 1 = x0 ∧ fld w 21 3 = x1 ∧ fld w 7 7 = x2 ∧ fld w 3 4 = x3 := by
  have n := toNat_of h (by simp only [put]; omega)
  simp only [put] at n
  refine ⟨?_, ?_, ?_, ?_, ?_, ?_, ?_⟩
  all_goals first | omega | (apply BitVec.eq_of_toNat_eq; simp only [fld, BitVec.toNat_ofNat]; omega)

theorem shape33 {v0 v1 : Nat} (b0 : v0 < 8) (b1 : v1 < 128) (x0 : BitVec 1) (x1 : BitVec 3) (x2 : BitVec 7) (x3 : BitVec 7) (x4 : BitVec 4) {w : Word} (h : mkWord (put (put (put (put (put (v0 * 2 ^ 0 + v1 * 2 ^ 24) 1 x0 31) 3 x1 21) 7 x2 14) 7 x3 7) 4 x4 3) = some w) :
    w.toNat / 2 ^ 0 % 2 ^ 3 = v0 ∧ w.toNat / 2 ^ 24 % 2 ^ 7 = v1 ∧ fld w 31 1 = x0 ∧ fld w 21 3 = x1 ∧ fld w 14 7 = x2 ∧ fld w 7 7 = x3 ∧ fld w 3 4 = x4 := by
  have n := toNat_of h (by simp only [put]; omega)
  simp only [put] at n
  refine ⟨?_, ?_, ?_, ?_, ?_, ?_, ?_⟩
  all_goals first | omega | (apply BitVec.eq_of_toNat_eq; simp only [fld, BitVec.toNat_ofNat]; omega)

theorem shape34 {v0 : Nat} (b0 : v0 < 128) (x0 : BitVec 1) (x1 : BitVec 3) (x2 : BitVec 7) (x3 : BitVec 7) (x4 : BitVec 3) (x5 : BitVec 1) (x6 : BitVec 3) {w : Word} (h : mkWord (put (put (put (put (put (put (put (v0 * 2 ^ 24) 1 x0 31) 3 x1 21) 7 x2 14) 7 x3 7) 3 x4 4) 1 x5 3) 3 x6 0) = some w) :
    w.toNat / 2 ^ 24 % 2 ^ 7 = v0 ∧ fld w 31 1 = x0 ∧ fld w 21 3 = x1 ∧ fld w 14 7 = x2 ∧ fld w 7 7 = x3 ∧ fld w 4 3 = x4 ∧ fld w 3 1 = x5 ∧ fld w 0 3 = x6 := by
  have n := toNat_of h (by simp only [put]; omega)
  simp only [put] at n
  refine ⟨?_, ?_, ?_, ?_, ?_, ?_, ?_, ?_⟩
  all_goals first | omega | (apply BitVec.eq_of_toNat_eq; simp only [fld, BitVec.toNat_ofNat]; omega)

theorem shape35 {v0 v1 : Nat} (b0 : v0 < 8) (b1 : v1 < 128) (x0 : BitVec 1) (x1 : BitVec 3) (x2 : BitVec 7) (x3 : BitVec 7) (x4 : BitVec 3) (x5 : BitVec 1) {w : Word} (h : mkWord (put (put (put (put (put (put (v0 * 2 ^ 0 + v1 * 2 ^ 24) 1 x0 31) 3 x1 21) 7 x2 14) 7 x3 7) 3 x4 4) 1 x5 3) = some w) :
    w.toNat / 2 ^ 0 % 2 ^ 3 = v0 ∧ w.toNat / 2 ^ 24 % 2 ^ 7 = v1 ∧ fld w 31 1 = x0 ∧ fld w 21 3 = x1 ∧ fld w 14 7 = x2 ∧ fld w 7 7 = x3 ∧ fld w 4 3 = x4 ∧ fld w 3 1 = x5 := by
  have n := toNat_of h (by simp only [put]; omega)
  simp only [put] at n
  refine ⟨?_, ?_, ?_, ?_, ?_, ?_, ?_, ?_⟩
  all_goals first | omega | (apply BitVec.eq_of_toNat_eq; simp only [fld, BitVec.toNat_ofNat]; omega)

theorem shape36 {v0 v1 : Nat} (b0 : v0 < 2) (b1 : v1 < 128) (x0 : BitVec 1) (x1 : BitVec 3) (x2 : BitVec 7) (x3 : BitVec 7) (x4 : BitVec 3) (x5 : BitVec 3) {w : Word} (h : mkWord (put (put (put (put (put (put (v0 * 2 ^ 0 + v1 * 2 ^ 24) 1 x0 31) 3 x1 21) 7 x2 14) 7 x3 7) 3 x4 4) 3 x5 1) = some w) :
    w.toNat / 2 ^ 0 % 2 ^ 1 = v0 ∧ w.toNat / 2 ^ 24 % 2 ^ 7 = v1 ∧ fld w 31 1 = x0 ∧ fld w 21 3 = x1 ∧ fld w 14 7 = x2 ∧ fld w 7 7 = x3 ∧ fld w 4 3 = x4 ∧ fld w 1 3 = x5 := by
  have n := toNat_of h (by simp only [put]; omega)
  simp only [put] at n
  refine ⟨?_, ?_, ?_, ?_, ?_, ?_, ?_, ?_⟩
  all_goals first | omega | (apply BitVec.eq_of_toNat_eq; simp only [fld, BitVec.toNat_ofNat]; omega)

theorem packageReset : Statement .packageReset := by
  intro _ w h
  cases h

theorem railOutOfLimits : Statement .railOutOfLimits := by
  intro _ w h
  cases h

theorem railSettledTimer : Statement .railSettledTimer := by
  intro _ w h
  cases h

theorem islandWrite : Statement .islandWrite := by
  intro _ w h
  cases h

theorem islandChangeComplete : Statement .islandChangeComplete := by
  intro _ w h
  cases h

theorem tcolSample : Statement .tcolSample := by
  intro _ w h
  cases h

theorem thermalThrottle : Statement .thermalThrottle := by
  intro _ w h
  cases h

theorem tcolHotClear : Statement .tcolHotClear := by
  intro _ w h
  cases h

theorem flitSend : Statement .flitSend := by
  intro _ w h
  cases h

theorem flitReceive : Statement .flitReceive := by
  intro _ w h
  cases h

theorem flitReplay : Statement .flitReplay := by
  intro _ w h
  cases h

theorem keyUpdateStart : Statement .keyUpdateStart := by
  intro _ w h
  cases h

theorem keyExpire : Statement .keyExpire := by
  intro _ w h
  cases h

theorem linkPeerDetected : Statement .linkPeerDetected := by
  intro _ w h
  cases h

theorem linkTrainingComplete : Statement .linkTrainingComplete := by
  intro _ w h
  cases h

theorem linkTrainingTimeout : Statement .linkTrainingTimeout := by
  intro _ w h
  cases h

theorem linkSessionEstablished : Statement .linkSessionEstablished := by
  intro _ w h
  cases h

theorem linkKeyingFail : Statement .linkKeyingFail := by
  intro _ w h
  cases h

theorem linkKeyingTimeout : Statement .linkKeyingTimeout := by
  intro _ w h
  cases h

theorem linkSessionAttemptFail : Statement .linkSessionAttemptFail := by
  intro _ w h
  cases h

theorem linkRetryTimer : Statement .linkRetryTimer := by
  intro _ w h
  cases h

theorem keyUpdateComplete : Statement .keyUpdateComplete := by
  intro _ w h
  cases h

theorem linkSessionExpire : Statement .linkSessionExpire := by
  intro _ w h
  cases h

theorem linkDrainComplete : Statement .linkDrainComplete := by
  intro _ w h
  cases h

theorem linkPortReset : Statement .linkPortReset := by
  intro _ w h
  cases h

theorem hostLinkTrainingComplete : Statement .hostLinkTrainingComplete := by
  intro _ w h
  cases h

theorem hdmbaseWrite : Statement .hdmbaseWrite := by
  intro _ w h
  cases h

theorem hdmsizeWrite : Statement .hdmsizeWrite := by
  intro _ w h
  cases h

theorem cxlmemRequest : Statement .cxlmemRequest := by
  intro _ w h
  cases h

theorem registerWrite : Statement .registerWrite := by
  intro _ w h
  cases h

theorem hartidWrite : Statement .hartidWrite := by
  intro _ w h
  cases h

theorem bridgePackageRead : Statement .bridgePackageRead := by
  intro _ w h
  cases h

theorem bridgePackageStore : Statement .bridgePackageStore := by
  intro _ w h
  cases h

theorem bridgeGrant : Statement .bridgeGrant := by
  intro _ w h
  cases h

theorem bridgeMscEviction : Statement .bridgeMscEviction := by
  intro _ w h
  cases h

theorem hostSnpinv : Statement .hostSnpinv := by
  intro _ w h
  cases h

theorem hostSnpdata : Statement .hostSnpdata := by
  intro _ w h
  cases h

theorem hostSnpcur : Statement .hostSnpcur := by
  intro _ w h
  cases h

theorem tenantModesWrite : Statement .tenantModesWrite := by
  intro _ w h
  cases h

theorem tenantSetOn : Statement .tenantSetOn := by
  intro _ w h
  cases h

theorem tenantSetOff : Statement .tenantSetOff := by
  intro _ w h
  cases h

theorem tenantRecordWrite : Statement .tenantRecordWrite := by
  intro _ w h
  cases h

theorem hreqbaseWrite : Statement .hreqbaseWrite := by
  intro _ w h
  cases h

theorem hfltbaseWrite : Statement .hfltbaseWrite := by
  intro _ w h
  cases h

theorem hreqheadWrite : Statement .hreqheadWrite := by
  intro _ w h
  cases h

theorem hfltheadWrite : Statement .hfltheadWrite := by
  intro _ w h
  cases h

theorem hearthRestart : Statement .hearthRestart := by
  intro _ w h
  cases h

theorem bootStart : Statement .bootStart := by
  intro _ w h
  cases h

theorem bootCxlReady : Statement .bootCxlReady := by
  intro _ w h
  cases h

theorem bootCxlTimeout : Statement .bootCxlTimeout := by
  intro _ w h
  cases h

theorem bootHeaderFetched : Statement .bootHeaderFetched := by
  intro _ w h
  cases h

theorem bootBodyFetched : Statement .bootBodyFetched := by
  intro _ w h
  cases h

theorem measExtend : Statement .measExtend := by
  intro _ w h
  cases h

theorem firmwareReady : Statement .firmwareReady := by
  intro _ w h
  cases h

theorem imageLineUe : Statement .imageLineUe := by
  intro _ w h
  cases h

theorem recoveryReloadComplete : Statement .recoveryReloadComplete := by
  intro _ w h
  cases h

theorem doorbellSetTail : Statement .doorbellSetTail := by
  intro _ w h
  cases h

theorem doorbellOpen : Statement .doorbellOpen := by
  intro _ w h
  cases h

theorem doorbellClose : Statement .doorbellClose := by
  intro _ w h
  cases h

theorem doorbellCmd3 : Statement .doorbellCmd3 := by
  intro _ w h
  cases h

theorem launchRecord : Statement .launchRecord := by
  intro _ w h
  cases h

theorem controlRecord : Statement .controlRecord := by
  intro _ w h
  cases h

theorem queueHeadRetry : Statement .queueHeadRetry := by
  intro _ w h
  cases h

theorem launchComplete : Statement .launchComplete := by
  intro _ w h
  cases h

theorem heartbeatRequest : Statement .heartbeatRequest := by
  intro _ w h
  cases h

theorem heartbeatTimeout : Statement .heartbeatTimeout := by
  intro _ w h
  cases h

theorem keyInstall : Statement .keyInstall := by
  intro _ w h
  cases h

theorem keyRemove : Statement .keyRemove := by
  intro _ w h
  cases h

theorem worldRetire : Statement .worldRetire := by
  intro _ w h
  cases h

theorem worldScrubComplete : Statement .worldScrubComplete := by
  intro _ w h
  cases h

theorem worldAbort : Statement .worldAbort := by
  intro _ w h
  cases h

theorem tdispLeaveRun : Statement .tdispLeaveRun := by
  intro _ w h
  cases h

theorem l1FillReturn : Statement .l1FillReturn := by
  intro _ w h
  cases h

theorem l1Update : Statement .l1Update := by
  intro _ w h
  cases h

theorem l1Invalidation : Statement .l1Invalidation := by
  intro _ w h
  cases h

theorem dirReadMiss : Statement .dirReadMiss := by
  intro _ w h
  cases h

theorem dirStore : Statement .dirStore := by
  intro _ w h
  cases h

theorem dirAck : Statement .dirAck := by
  intro _ w h
  cases h

theorem dirEvictionNotice : Statement .dirEvictionNotice := by
  intro _ w h
  cases h

theorem l2Victim : Statement .l2Victim := by
  intro _ w h
  cases h

theorem homeStore : Statement .homeStore := by
  intro _ w h
  cases h

theorem l2HomeUpdate : Statement .l2HomeUpdate := by
  intro _ w h
  cases h

theorem homeAck : Statement .homeAck := by
  intro _ w h
  cases h

theorem storeAck : Statement .storeAck := by
  intro _ w h
  cases h

theorem mscVictim : Statement .mscVictim := by
  intro _ w h
  cases h

theorem worldLineHandover : Statement .worldLineHandover := by
  intro _ w h
  cases h

theorem storeEntryDrainComplete : Statement .storeEntryDrainComplete := by
  intro _ w h
  cases h

theorem releaseComplete : Statement .releaseComplete := by
  intro _ w h
  cases h

theorem softError : Statement .softError := by
  intro _ w h
  cases h

theorem patrolScrub : Statement .patrolScrub := by
  intro _ w h
  cases h

theorem hsctlWrite : Statement .hsctlWrite := by
  intro _ w h
  cases h

theorem aliasRecord : Statement .aliasRecord := by
  intro _ w h
  cases h

theorem aliasResolve : Statement .aliasResolve := by
  intro _ w h
  cases h

theorem aliasResolveReply : Statement .aliasResolveReply := by
  intro _ w h
  cases h

theorem mark : Statement .mark := by
  intro _ w h
  cases h

theorem marked : Statement .marked := by
  intro _ w h
  cases h

theorem holdRelease : Statement .holdRelease := by
  intro _ w h
  cases h

theorem srcw : Statement .srcw := by
  intro _ w h
  cases h

theorem srcack : Statement .srcack := by
  intro _ w h
  cases h

theorem hotMaterialise : Statement .hotMaterialise := by
  intro _ w h
  cases h

theorem catctlWrite : Statement .catctlWrite := by
  intro _ w h
  cases h

theorem pageWalkComplete : Statement .pageWalkComplete := by
  intro _ w h
  cases h

theorem faultEntryWaitFree : Statement .faultEntryWaitFree := by
  intro _ w h
  cases h

theorem freplyRetry : Statement .freplyRetry := by
  intro _ w h
  cases h

theorem freplyKill : Statement .freplyKill := by
  intro _ w h
  cases h

theorem atsTranslationCompletion : Statement .atsTranslationCompletion := by
  intro _ w h
  cases h

theorem prgResponse : Statement .prgResponse := by
  intro _ w h
  cases h

theorem atsInvalidationRequest : Statement .atsInvalidationRequest := by
  intro _ w h
  cases h

theorem shootdownStart : Statement .shootdownStart := by
  intro _ w h
  cases h

theorem shootdownDrainComplete : Statement .shootdownDrainComplete := by
  intro _ w h
  cases h

theorem dtinvWrite : Statement .dtinvWrite := by
  intro _ w h
  cases h

theorem regionWriteback : Statement .regionWriteback := by
  intro _ w h
  cases h

theorem tcbPlace : Statement .tcbPlace := by
  intro _ w h
  cases h

theorem tcbBind : Statement .tcbBind := by
  intro _ w h
  cases h

theorem stealRequest : Statement .stealRequest := by
  intro _ w h
  cases h

theorem stealServe : Statement .stealServe := by
  intro _ w h
  cases h

theorem stealRetryTimer : Statement .stealRetryTimer := by
  intro _ w h
  cases h

theorem preemptTimer : Statement .preemptTimer := by
  intro _ w h
  cases h

theorem preemptSave : Statement .preemptSave := by
  intro _ w h
  cases h

theorem groupRestore : Statement .groupRestore := by
  intro _ w h
  cases h

theorem gangPark : Statement .gangPark := by
  intro _ w h
  cases h

theorem runStart : Statement .runStart := by
  intro _ w h
  cases h

theorem tokenComplete : Statement .tokenComplete := by
  intro _ w h
  cases h

theorem atomicReturn : Statement .atomicReturn := by
  intro _ w h
  cases h

theorem watchdogExpire : Statement .watchdogExpire := by
  intro _ w h
  cases h

theorem arrivalDelivery : Statement .arrivalDelivery := by
  intro _ w h
  cases h

theorem waitTimeout : Statement .waitTimeout := by
  intro _ w h
  cases h

theorem graphGangForm : Statement .graphGangForm := by
  intro _ w h
  cases h

theorem partialGangTimer : Statement .partialGangTimer := by
  intro _ w h
  cases h

theorem rebalanceTimer : Statement .rebalanceTimer := by
  intro _ w h
  cases h

theorem waveEnd : Statement .waveEnd := by
  intro _ w h
  cases h

theorem gstepWrite : Statement .gstepWrite := by
  intro _ w h
  cases h

theorem gstepWaveTimer : Statement .gstepWaveTimer := by
  intro _ w h
  cases h

theorem contributionArrive : Statement .contributionArrive := by
  intro _ w h
  cases h

theorem stopArrive : Statement .stopArrive := by
  intro _ w h
  cases h

theorem estselWrite : Statement .estselWrite := by
  intro _ w h
  cases h

theorem svcReply : Statement .svcReply := by
  intro _ w h
  cases h

theorem anvilStep : Statement .anvilStep := by
  intro _ w h
  cases h

theorem tileTaskComplete : Statement .tileTaskComplete := by
  intro _ w h
  cases h

theorem engineCommandComplete : Statement .engineCommandComplete := by
  intro _ w h
  cases h

theorem cpyqEntryStart : Statement .cpyqEntryStart := by
  intro _ w h
  cases h

theorem collMatch : Statement .collMatch := by
  intro _ w h
  cases h

theorem collComplete : Statement .collComplete := by
  intro _ w h
  cases h

theorem svcringWrite : Statement .svcringWrite := by
  intro _ w h
  cases h

theorem svcheadWrite : Statement .svcheadWrite := by
  intro _ w h
  cases h

theorem svrplyWrite : Statement .svrplyWrite := by
  intro _ w h
  cases h

theorem svrgo : Statement .svrgo := by
  intro _ w h
  cases h

theorem placepinWrite : Statement .placepinWrite := by
  intro _ w h
  cases h

theorem nbctlWrite : Statement .nbctlWrite := by
  intro _ w h
  cases h

theorem nbAttach : Statement .nbAttach := by
  intro _ w h
  cases h

theorem nbSetbp : Statement .nbSetbp := by
  intro _ w h
  cases h

theorem nbClrbp : Statement .nbClrbp := by
  intro _ w h
  cases h

theorem nbSetwp : Statement .nbSetwp := by
  intro _ w h
  cases h

theorem nbClrwp : Statement .nbClrwp := by
  intro _ w h
  cases h

theorem nbHalt : Statement .nbHalt := by
  intro _ w h
  cases h

theorem nbStep : Statement .nbStep := by
  intro _ w h
  cases h

theorem nbResume : Statement .nbResume := by
  intro _ w h
  cases h

theorem nbDetach : Statement .nbDetach := by
  intro _ w h
  cases h

theorem nbBadcmd : Statement .nbBadcmd := by
  intro _ w h
  cases h

theorem nop (x0 : BitVec 1) : Statement (.nop x0) := by
  intro hw w h
  obtain ⟨r0, f0⟩ := shape1 (v0 := 0) (by decide) x0 (w := w) h
  have m1 : hits w 0x7FFFFFFF 0x00000000 = true := hits_runs [(0, 31, 0)] (List.forall_mem_cons.2 ⟨r0, (List.forall_mem_nil _)⟩) (by decide) (by decide)
  have e : w.toNat / 2 ^ 24 % 128 = 0 := by omega
  simp only [pattern, e, Nat.reduceDiv, Nat.reduceMod, pattern0, m1, if_true, f0]

theorem endRun (x0 : BitVec 8) (x1 : BitVec 1) (x2 : BitVec 4) : Statement (.endRun x0 x1 x2) := by
  intro hw w h
  obtain ⟨r0, r1, f0, f1, f2⟩ := shape2 (v0 := 0) (v1 := 8) (by decide) (by decide) x0 x1 x2 (w := w) h
  have m1 : hits w 0xFFE000FF 0x01000000 = true := hits_runs [(0, 8, 0), (21, 11, 8)] (List.forall_mem_cons.2 ⟨r0, (List.forall_mem_cons.2 ⟨r1, (List.forall_mem_nil _)⟩)⟩) (by decide) (by decide)
  have e : w.toNat / 2 ^ 24 % 128 = 1 := by omega
  simp only [pattern, e, Nat.reduceDiv, Nat.reduceMod, pattern0, m1, if_true, f0, f1, f2]

theorem bra (x0 : BitVec 1) (x1 : BitVec 3) (x2 : BitVec 21) : Statement (.bra x0 x1 x2) := by
  intro hw w h
  obtain ⟨r0, f0, f1, f2⟩ := shape3 (v0 := 2) (by decide) x0 x1 x2 (w := w) h
  have m1 : hits w 0x7F000000 0x02000000 = true := hits_runs [(24, 7, 2)] (List.forall_mem_cons.2 ⟨r0, (List.forall_mem_nil _)⟩) (by decide) (by decide)
  have e : w.toNat / 2 ^ 24 % 128 = 2 := by omega
  simp only [pattern, e, Nat.reduceDiv, Nat.reduceMod, pattern0, m1, if_true, f0, f1, f2]

theorem call (x0 : BitVec 1) (x1 : BitVec 3) (x2 : BitVec 21) : Statement (.call x0 x1 x2) := by
  intro hw w h
  obtain ⟨r0, f0, f1, f2⟩ := shape3 (v0 := 3) (by decide) x0 x1 x2 (w := w) h
  have m1 : hits w 0x7F000000 0x03000000 = true := hits_runs [(24, 7, 3)] (List.forall_mem_cons.2 ⟨r0, (List.forall_mem_nil _)⟩) (by decide) (by decide)
  have e : w.toNat / 2 ^ 24 % 128 = 3 := by omega
  simp only [pattern, e, Nat.reduceDiv, Nat.reduceMod, pattern0, m1, if_true, f0, f1, f2]

theorem brx (x0 : BitVec 1) (x1 : BitVec 3) (x2 : BitVec 7) : Statement (.brx x0 x1 x2) := by
  intro hw w h
  obtain ⟨r0, r1, r2, f0, f1, f2⟩ := shape4 (v0 := 0) (v1 := 0) (v2 := 4) (by decide) (by decide) (by decide) x0 x1 x2 (w := w) h
  have m1 : hits w 0x7F1FC07F 0x04000000 = true := hits_runs [(0, 7, 0), (14, 7, 0), (24, 7, 4)] (List.forall_mem_cons.2 ⟨r0, (List.forall_mem_cons.2 ⟨r1, (List.forall_mem_cons.2 ⟨r2, (List.forall_mem_nil _)⟩)⟩)⟩) (by decide) (by decide)
  have e : w.toNat / 2 ^ 24 % 128 = 4 := by omega
  simp only [pattern, e, Nat.reduceDiv, Nat.reduceMod, pattern0, m1, if_true, f0, f1, f2]

theorem exit (x0 : BitVec 1) (x1 : BitVec 3) : Statement (.exit x0 x1) := by
  intro hw w h
  obtain ⟨r0, r1, f0, f1⟩ := shape5 (v0 := 0) (v1 := 5) (by decide) (by decide) x0 x1 (w := w) h
  have m1 : hits w 0x7F1FFFFF 0x05000000 = true := hits_runs [(0, 21, 0), (24, 7, 5)] (List.forall_mem_cons.2 ⟨r0, (List.forall_mem_cons.2 ⟨r1, (List.forall_mem_nil _)⟩)⟩) (by decide) (by decide)
  have e : w.toNat / 2 ^ 24 % 128 = 5 := by omega
  simp only [pattern, e, Nat.reduceDiv, Nat.reduceMod, pattern0, m1, if_true, f0, f1]

theorem ret (x0 : BitVec 1) (x1 : BitVec 3) : Statement (.ret x0 x1) := by
  intro hw w h
  obtain ⟨r0, r1, f0, f1⟩ := shape5 (v0 := 1) (v1 := 5) (by decide) (by decide) x0 x1 (w := w) h
  have m1 : hits w 0x7F1FFFFF 0x05000000 = false := hits_not 0 1 (by omega) (by decide)
  have m2 : hits w 0x7F1FFFFF 0x05000001 = true := hits_runs [(0, 21, 1), (24, 7, 5)] (List.forall_mem_cons.2 ⟨r0, (List.forall_mem_cons.2 ⟨r1, (List.forall_mem_nil _)⟩)⟩) (by decide) (by decide)
  have e : w.toNat / 2 ^ 24 % 128 = 5 := by omega
  simp only [pattern, e, Nat.reduceDiv, Nat.reduceMod, pattern0, m1, m2, if_true, Bool.false_eq_true, if_false, f0, f1]

theorem acqx (x0 : BitVec 1) : Statement (.acqx x0) := by
  intro hw w h
  obtain ⟨r0, f0⟩ := shape1 (v0 := 83886082) (by decide) x0 (w := w) h
  have m1 : hits w 0x7F1FFFFF 0x05000000 = false := hits_not 1 1 (by omega) (by decide)
  have m2 : hits w 0x7F1FFFFF 0x05000001 = false := hits_not 0 1 (by omega) (by decide)
  have m3 : hits w 0x7FFFFFFF 0x05000002 = true := hits_runs [(0, 31, 83886082)] (List.forall_mem_cons.2 ⟨r0, (List.forall_mem_nil _)⟩) (by decide) (by decide)
  have e : w.toNat / 2 ^ 24 % 128 = 5 := by omega
  simp only [pattern, e, Nat.reduceDiv, Nat.reduceMod, pattern0, m1, m2, m3, if_true, Bool.false_eq_true, if_false, f0]

theorem relx (x0 : BitVec 1) : Statement (.relx x0) := by
  intro hw w h
  obtain ⟨r0, f0⟩ := shape1 (v0 := 83886083) (by decide) x0 (w := w) h
  have m1 : hits w 0x7F1FFFFF 0x05000000 = false := hits_not 0 1 (by omega) (by decide)
  have m2 : hits w 0x7F1FFFFF 0x05000001 = false := hits_not 1 1 (by omega) (by decide)
  have m3 : hits w 0x7FFFFFFF 0x05000002 = false := hits_not 0 1 (by omega) (by decide)
  have m4 : hits w 0x7FFFFFFF 0x05000003 = true := hits_runs [(0, 31, 83886083)] (List.forall_mem_cons.2 ⟨r0, (List.forall_mem_nil _)⟩) (by decide) (by decide)
  have e : w.toNat / 2 ^ 24 % 128 = 5 := by omega
  simp only [pattern, e, Nat.reduceDiv, Nat.reduceMod, pattern0, m1, m2, m3, m4, if_true, Bool.false_eq_true, if_false, f0]

theorem brk (x0 : BitVec 1) (x1 : BitVec 3) : Statement (.brk x0 x1) := by
  intro hw w h
  obtain ⟨r0, r1, f0, f1⟩ := shape5 (v0 := 4) (v1 := 5) (by decide) (by decide) x0 x1 (w := w) h
  have m1 : hits w 0x7F1FFFFF 0x05000000 = false := hits_not 2 1 (by omega) (by decide)
  have m2 : hits w 0x7F1FFFFF 0x05000001 = false := hits_not 0 1 (by omega) (by decide)
  have m3 : hits w 0x7FFFFFFF 0x05000002 = false := hits_not 1 1 (by omega) (by decide)
  have m4 : hits w 0x7FFFFFFF 0x05000003 = false := hits_not 0 1 (by omega) (by decide)
  have m5 : hits w 0x7F1FFFFF 0x05000004 = true := hits_runs [(0, 21, 4), (24, 7, 5)] (List.forall_mem_cons.2 ⟨r0, (List.forall_mem_cons.2 ⟨r1, (List.forall_mem_nil _)⟩)⟩) (by decide) (by decide)
  have e : w.toNat / 2 ^ 24 % 128 = 5 := by omega
  simp only [pattern, e, Nat.reduceDiv, Nat.reduceMod, pattern0, m1, m2, m3, m4, m5, if_true, Bool.false_eq_true, if_false, f0, f1]

theorem join (x0 : BitVec 1) (x1 : BitVec 3) (x2 : BitVec 7) : Statement (.join x0 x1 x2) := by
  intro hw w h
  obtain ⟨r0, r1, r2, f0, f1, f2⟩ := shape4 (v0 := 0) (v1 := 0) (v2 := 6) (by decide) (by decide) (by decide) x0 x1 x2 (w := w) h
  have m1 : hits w 0x7F1FC07F 0x06000000 = true := hits_runs [(0, 7, 0), (14, 7, 0), (24, 7, 6)] (List.forall_mem_cons.2 ⟨r0, (List.forall_mem_cons.2 ⟨r1, (List.forall_mem_cons.2 ⟨r2, (List.forall_mem_nil _)⟩)⟩)⟩) (by decide) (by decide)
  have e : w.toNat / 2 ^ 24 % 128 = 6 := by omega
  simp only [pattern, e, Nat.reduceDiv, Nat.reduceMod, pattern0, m1, if_true, f0, f1, f2]

theorem svc (x0 : BitVec 1) (x1 : BitVec 3) (x2 : BitVec 7) : Statement (.svc x0 x1 x2) := by
  intro hw w h
  obtain ⟨r0, r1, r2, f0, f1, f2⟩ := shape4 (v0 := 0) (v1 := 0) (v2 := 7) (by decide) (by decide) (by decide) x0 x1 x2 (w := w) h
  have m1 : hits w 0x7F1FC07F 0x07000000 = true := hits_runs [(0, 7, 0), (14, 7, 0), (24, 7, 7)] (List.forall_mem_cons.2 ⟨r0, (List.forall_mem_cons.2 ⟨r1, (List.forall_mem_cons.2 ⟨r2, (List.forall_mem_nil _)⟩)⟩)⟩) (by decide) (by decide)
  have e : w.toNat / 2 ^ 24 % 128 = 7 := by omega
  simp only [pattern, e, Nat.reduceDiv, Nat.reduceMod, pattern0, m1, if_true, f0, f1, f2]

theorem bar (x0 : BitVec 1) (x1 : BitVec 7) : Statement (.bar x0 x1) := by
  intro hw w h
  obtain ⟨r0, f0, f1⟩ := shape6 (v0 := 1048576) (by decide) x0 x1 (w := w) h
  have m1 : hits w 0x7FFFFF80 0x08000000 = true := hits_runs [(7, 24, 1048576)] (List.forall_mem_cons.2 ⟨r0, (List.forall_mem_nil _)⟩) (by decide) (by decide)
  have e : w.toNat / 2 ^ 24 % 128 = 8 := by omega
  simp only [pattern, e, Nat.reduceDiv, Nat.reduceMod, pattern0, m1, if_true, f0, f1]

theorem waitAny (x0 : BitVec 1) (x1 : BitVec 3) (x2 : BitVec 7) (x3 : BitVec 7) (x4 : BitVec 7) : Statement (.waitAny x0 x1 x2 x3 x4) := by
  intro hw w h
  obtain ⟨r0, f0, f1, f2, f3, f4⟩ := shape7 (v0 := 9) (by decide) x0 x1 x2 x3 x4 (w := w) h
  have m1 : hits w 0x7F000000 0x09000000 = true := hits_runs [(24, 7, 9)] (List.forall_mem_cons.2 ⟨r0, (List.forall_mem_nil _)⟩) (by decide) (by decide)
  have e : w.toNat / 2 ^ 24 % 128 = 9 := by omega
  simp only [pattern, e, Nat.reduceDiv, Nat.reduceMod, pattern0, m1, if_true, f0, f1, f2, f3, f4]

theorem waitAll (x0 : BitVec 1) (x1 : BitVec 3) (x2 : BitVec 7) (x3 : BitVec 7) (x4 : BitVec 7) : Statement (.waitAll x0 x1 x2 x3 x4) := by
  intro hw w h
  obtain ⟨r0, f0, f1, f2, f3, f4⟩ := shape7 (v0 := 10) (by decide) x0 x1 x2 x3 x4 (w := w) h
  have m1 : hits w 0x7F000000 0x0A000000 = true := hits_runs [(24, 7, 10)] (List.forall_mem_cons.2 ⟨r0, (List.forall_mem_nil _)⟩) (by decide) (by decide)
  have e : w.toNat / 2 ^ 24 % 128 = 10 := by omega
  simp only [pattern, e, Nat.reduceDiv, Nat.reduceMod, pattern0, m1, if_true, f0, f1, f2, f3, f4]

theorem arm (x0 : BitVec 1) (x1 : BitVec 3) (x2 : BitVec 7) (x3 : BitVec 7) : Statement (.arm x0 x1 x2 x3) := by
  intro hw w h
  obtain ⟨r0, r1, f0, f1, f2, f3⟩ := shape8 (v0 := 0) (v1 := 11) (by decide) (by decide) x0 x1 x2 x3 (w := w) h
  have m1 : hits w 0x7F1FC000 0x0B000000 = true := hits_runs [(14, 7, 0), (24, 7, 11)] (List.forall_mem_cons.2 ⟨r0, (List.forall_mem_cons.2 ⟨r1, (List.forall_mem_nil _)⟩)⟩) (by decide) (by decide)
  have e : w.toNat / 2 ^ 24 % 128 = 11 := by omega
  simp only [pattern, e, Nat.reduceDiv, Nat.reduceMod, pattern0, m1, if_true, f0, f1, f2, f3]

theorem fenceAcq (x0 : BitVec 1) (x1 : BitVec 3) (x2 : BitVec 3) : Statement (.fenceAcq x0 x1 x2) := by
  intro hw w h
  obtain ⟨r0, r1, r2, f0, f1, f2⟩ := shape9 (v0 := 14) (v1 := 0) (v2 := 12) (by decide) (by decide) (by decide) x0 x1 x2 (w := w) h
  have m1 : hits w 0x7F1FFF8F 0x0C00000E = true := hits_runs [(0, 4, 14), (7, 14, 0), (24, 7, 12)] (List.forall_mem_cons.2 ⟨r0, (List.forall_mem_cons.2 ⟨r1, (List.forall_mem_cons.2 ⟨r2, (List.forall_mem_nil _)⟩)⟩)⟩) (by decide) (by decide)
  have e : w.toNat / 2 ^ 24 % 128 = 12 := by omega
  simp only [pattern, e, Nat.reduceDiv, Nat.reduceMod, pattern0, m1, if_true, f0, f1, f2]

theorem fenceRel (x0 : BitVec 1) (x1 : BitVec 3) (x2 : BitVec 3) : Statement (.fenceRel x0 x1 x2) := by
  intro hw w h
  obtain ⟨r0, r1, r2, f0, f1, f2⟩ := shape10 (v0 := 0) (v1 := 7) (v2 := 12) (by decide) (by decide) (by decide) x0 x1 x2 (w := w) h
  have m1 : hits w 0x7F1FFF8F 0x0C00000E = false := by
    apply hits_not 1 3 _ (by decide)
    have := congrArg BitVec.toNat f2
    replace hw := firstErr_none.1 hw
    simp only [List.forall_mem_cons, req_none] at hw
    have w7 : x2.toNat ≠ 7 := fun e => hw.2.1 (BitVec.eq_of_toNat_eq e)
    simp only [fld, BitVec.toNat_ofNat] at this
    omega
  have m2 : hits w 0x7F1FFFF1 0x0C000070 = true := hits_runs [(0, 1, 0), (4, 17, 7), (24, 7, 12)] (List.forall_mem_cons.2 ⟨r0, (List.forall_mem_cons.2 ⟨r1, (List.forall_mem_cons.2 ⟨r2, (List.forall_mem_nil _)⟩)⟩)⟩) (by decide) (by decide)
  have e : w.toNat / 2 ^ 24 % 128 = 12 := by omega
  simp only [pattern, e, Nat.reduceDiv, Nat.reduceMod, pattern0, m1, m2, if_true, Bool.false_eq_true, if_false, f0, f1, f2]

theorem fenceAr (x0 : BitVec 1) (x1 : BitVec 3) (x2 : BitVec 3) (x3 : BitVec 3) : Statement (.fenceAr x0 x1 x2 x3) := by
  intro hw w h
  obtain ⟨r0, r1, r2, f0, f1, f2, f3⟩ := shape11 (v0 := 0) (v1 := 0) (v2 := 12) (by decide) (by decide) (by decide) x0 x1 x2 x3 (w := w) h
  have m1 : hits w 0x7F1FFF8F 0x0C00000E = false := by
    apply hits_not 1 3 _ (by decide)
    replace hw := firstErr_none.1 hw
    simp only [List.forall_mem_cons, req_none] at hw
    have w7 : x2.toNat ≠ 7 := fun e => hw.2.1.2 (BitVec.eq_of_toNat_eq e)
    have := congrArg BitVec.toNat (f3.trans hw.2.1.1.symm)
    simp only [fld, BitVec.toNat_ofNat] at this
    omega
  have m2 : hits w 0x7F1FFFF1 0x0C000070 = false := by
    replace hw := firstErr_none.1 hw
    simp only [List.forall_mem_cons, req_none] at hw
    have w7 : x2.toNat ≠ 7 := fun e => hw.2.1.2 (BitVec.eq_of_toNat_eq e)
    apply hits_not 4 3 _ (by decide)
    have := congrArg BitVec.toNat f2
    simp only [fld, BitVec.toNat_ofNat] at this
    omega
  have m3 : hits w 0x7F1FFF81 0x0C000000 = true := hits_runs [(0, 1, 0), (7, 14, 0), (24, 7, 12)] (List.forall_mem_cons.2 ⟨r0, (List.forall_mem_cons.2 ⟨r1, (List.forall_mem_cons.2 ⟨r2, (List.forall_mem_nil _)⟩)⟩)⟩) (by decide) (by decide)
  have e : w.toNat / 2 ^ 24 % 128 = 12 := by omega
  simp only [pattern, e, Nat.reduceDiv, Nat.reduceMod, pattern0, m1, m2, m3, if_true, Bool.false_eq_true, if_false, f0, f1, f2, f3]

theorem phase (x0 : BitVec 1) (x1 : BitVec 3) (x2 : BitVec 3) (x3 : BitVec 3) : Statement (.phase x0 x1 x2 x3) := by
  intro hw w h
  obtain ⟨r0, r1, r2, f0, f1, f2, f3⟩ := shape11 (v0 := 0) (v1 := 0) (v2 := 13) (by decide) (by decide) (by decide) x0 x1 x2 x3 (w := w) h
  have m1 : hits w 0x7F1FFF81 0x0D000000 = true := hits_runs [(0, 1, 0), (7, 14, 0), (24, 7, 13)] (List.forall_mem_cons.2 ⟨r0, (List.forall_mem_cons.2 ⟨r1, (List.forall_mem_cons.2 ⟨r2, (List.forall_mem_nil _)⟩)⟩)⟩) (by decide) (by decide)
  have e : w.toNat / 2 ^ 24 % 128 = 13 := by omega
  simp only [pattern, e, Nat.reduceDiv, Nat.reduceMod, pattern0, m1, if_true, f0, f1, f2, f3]

theorem emit (x0 : BitVec 1) (x1 : BitVec 3) (x2 : BitVec 7) : Statement (.emit x0 x1 x2) := by
  intro hw w h
  obtain ⟨r0, r1, r2, f0, f1, f2⟩ := shape4 (v0 := 0) (v1 := 0) (v2 := 14) (by decide) (by decide) (by decide) x0 x1 x2 (w := w) h
  have m1 : hits w 0x7F1FC07F 0x0E000000 = true := hits_runs [(0, 7, 0), (14, 7, 0), (24, 7, 14)] (List.forall_mem_cons.2 ⟨r0, (List.forall_mem_cons.2 ⟨r1, (List.forall_mem_cons.2 ⟨r2, (List.forall_mem_nil _)⟩)⟩)⟩) (by decide) (by decide)
  have e : w.toNat / 2 ^ 24 % 128 = 14 := by omega
  simp only [pattern, e, Nat.reduceDiv, Nat.reduceMod, pattern0, m1, if_true, f0, f1, f2]

theorem post (x0 : BitVec 1) (x1 : BitVec 3) (x2 : BitVec 7) : Statement (.post x0 x1 x2) := by
  intro hw w h
  obtain ⟨r0, r1, r2, f0, f1, f2⟩ := shape4 (v0 := 16) (v1 := 0) (v2 := 14) (by decide) (by decide) (by decide) x0 x1 x2 (w := w) h
  have m1 : hits w 0x7F1FC07F 0x0E000000 = false := hits_not 4 1 (by omega) (by decide)
  have m2 : hits w 0x7F1FC07F 0x0E000010 = true := hits_runs [(0, 7, 16), (14, 7, 0), (24, 7, 14)] (List.forall_mem_cons.2 ⟨r0, (List.forall_mem_cons.2 ⟨r1, (List.forall_mem_cons.2 ⟨r2, (List.forall_mem_nil _)⟩)⟩)⟩) (by decide) (by decide)
  have e : w.toNat / 2 ^ 24 % 128 = 14 := by omega
  simp only [pattern, e, Nat.reduceDiv, Nat.reduceMod, pattern0, m1, m2, if_true, Bool.false_eq_true, if_false, f0, f1, f2]

theorem eacc (x0 : BitVec 1) (x1 : BitVec 3) (x2 : BitVec 7) (x3 : BitVec 4) : Statement (.eacc x0 x1 x2 x3) := by
  intro hw w h
  obtain ⟨r0, r1, r2, f0, f1, f2, f3⟩ := shape12 (v0 := 2) (v1 := 0) (v2 := 14) (by decide) (by decide) (by decide) x0 x1 x2 x3 (w := w) h
  have m1 : hits w 0x7F1FC07F 0x0E000000 = false := hits_not 5 1 (by omega) (by decide)
  have m2 : hits w 0x7F1FC07F 0x0E000010 = false := hits_not 4 1 (by omega) (by decide)
  have m3 : hits w 0x7F1FC070 0x0E000020 = true := hits_runs [(4, 3, 2), (14, 7, 0), (24, 7, 14)] (List.forall_mem_cons.2 ⟨r0, (List.forall_mem_cons.2 ⟨r1, (List.forall_mem_cons.2 ⟨r2, (List.forall_mem_nil _)⟩)⟩)⟩) (by decide) (by decide)
  have e : w.toNat / 2 ^ 24 % 128 = 14 := by omega
  simp only [pattern, e, Nat.reduceDiv, Nat.reduceMod, pattern0, m1, m2, m3, if_true, Bool.false_eq_true, if_false, f0, f1, f2, f3]

theorem kext (x0 : BitVec 24) : Statement (.kext x0) := by
  intro hw w h
  obtain ⟨r0, f0⟩ := shape13 (v0 := 15) (by decide) x0 (w := w) h
  have m1 : hits w 0xFF000000 0x0F000000 = true := hits_runs [(24, 8, 15)] (List.forall_mem_cons.2 ⟨r0, (List.forall_mem_nil _)⟩) (by decide) (by decide)
  have e : w.toNat / 2 ^ 24 % 128 = 15 := by omega
  simp only [pattern, e, Nat.reduceDiv, Nat.reduceMod, pattern0, m1, if_true, f0]

theorem iadd (x0 : BitVec 1) (x1 : BitVec 3) (x2 : BitVec 7) (x3 : BitVec 7) (x4 : BitVec 7) : Statement (.iadd x0 x1 x2 x3 x4) := by
  intro hw w h
  obtain ⟨r0, f0, f1, f2, f3, f4⟩ := shape7 (v0 := 16) (by decide) x0 x1 x2 x3 x4 (w := w) h
  have m1 : hits w 0x7F000000 0x10000000 = true := hits_runs [(24, 7, 16)] (List.forall_mem_cons.2 ⟨r0, (List.forall_mem_nil _)⟩) (by decide) (by decide)
  have e : w.toNat / 2 ^ 24 % 128 = 16 := by omega
  simp only [pattern, e, Nat.reduceDiv, Nat.reduceMod, pattern1, m1, if_true, f0, f1, f2, f3, f4]

theorem isub (x0 : BitVec 1) (x1 : BitVec 3) (x2 : BitVec 7) (x3 : BitVec 7) (x4 : BitVec 7) : Statement (.isub x0 x1 x2 x3 x4) := by
  intro hw w h
  obtain ⟨r0, f0, f1, f2, f3, f4⟩ := shape7 (v0 := 17) (by decide) x0 x1 x2 x3 x4 (w := w) h
  have m1 : hits w 0x7F000000 0x11000000 = true := hits_runs [(24, 7, 17)] (List.forall_mem_cons.2 ⟨r0, (List.forall_mem_nil _)⟩) (by decide) (by decide)
  have e : w.toNat / 2 ^ 24 % 128 = 17 := by omega
  simp only [pattern, e, Nat.reduceDiv, Nat.reduceMod, pattern1, m1, if_true, f0, f1, f2, f3, f4]

theorem imul (x0 : BitVec 1) (x1 : BitVec 3) (x2 : BitVec 7) (x3 : BitVec 7) (x4 : BitVec 7) : Statement (.imul x0 x1 x2 x3 x4) := by
  intro hw w h
  obtain ⟨r0, f0, f1, f2, f3, f4⟩ := shape7 (v0 := 18) (by decide) x0 x1 x2 x3 x4 (w := w) h
  have m1 : hits w 0x7F000000 0x12000000 = true := hits_runs [(24, 7, 18)] (List.forall_mem_cons.2 ⟨r0, (List.forall_mem_nil _)⟩) (by decide) (by decide)
  have e : w.toNat / 2 ^ 24 % 128 = 18 := by omega
  simp only [pattern, e, Nat.reduceDiv, Nat.reduceMod, pattern1, m1, if_true, f0, f1, f2, f3, f4]

theorem imad (x0 : BitVec 1) (x1 : BitVec 3) (x2 : BitVec 7) (x3 : BitVec 7) (x4 : BitVec 7) : Statement (.imad x0 x1 x2 x3 x4) := by
  intro hw w h
  obtain ⟨r0, f0, f1, f2, f3, f4⟩ := shape7 (v0 := 19) (by decide) x0 x1 x2 x3 x4 (w := w) h
  have m1 : hits w 0x7F000000 0x13000000 = true := hits_runs [(24, 7, 19)] (List.forall_mem_cons.2 ⟨r0, (List.forall_mem_nil _)⟩) (by decide) (by decide)
  have e : w.toNat / 2 ^ 24 % 128 = 19 := by omega
  simp only [pattern, e, Nat.reduceDiv, Nat.reduceMod, pattern1, m1, if_true, f0, f1, f2, f3, f4]

theorem imulhS32 (x0 : BitVec 1) (x1 : BitVec 3) (x2 : BitVec 7) (x3 : BitVec 7) (x4 : BitVec 7) : Statement (.imulhS32 x0 x1 x2 x3 x4) := by
  intro hw w h
  obtain ⟨r0, f0, f1, f2, f3, f4⟩ := shape7 (v0 := 20) (by decide) x0 x1 x2 x3 x4 (w := w) h
  have m1 : hits w 0x7F000000 0x14000000 = true := hits_runs [(24, 7, 20)] (List.forall_mem_cons.2 ⟨r0, (List.forall_mem_nil _)⟩) (by decide) (by decide)
  have e : w.toNat / 2 ^ 24 % 128 = 20 := by omega
  simp only [pattern, e, Nat.reduceDiv, Nat.reduceMod, pattern1, m1, if_true, f0, f1, f2, f3, f4]

theorem imulhN32 (x0 : BitVec 1) (x1 : BitVec 3) (x2 : BitVec 7) (x3 : BitVec 7) (x4 : BitVec 7) : Statement (.imulhN32 x0 x1 x2 x3 x4) := by
  intro hw w h
  obtain ⟨r0, f0, f1, f2, f3, f4⟩ := shape7 (v0 := 21) (by decide) x0 x1 x2 x3 x4 (w := w) h
  have m1 : hits w 0x7F000000 0x15000000 = true := hits_runs [(24, 7, 21)] (List.forall_mem_cons.2 ⟨r0, (List.forall_mem_nil _)⟩) (by decide) (by decide)
  have e : w.toNat / 2 ^ 24 % 128 = 21 := by omega
  simp only [pattern, e, Nat.reduceDiv, Nat.reduceMod, pattern1, m1, if_true, f0, f1, f2, f3, f4]

theorem idivS32 (x0 : BitVec 1) (x1 : BitVec 3) (x2 : BitVec 7) (x3 : BitVec 7) (x4 : BitVec 7) : Statement (.idivS32 x0 x1 x2 x3 x4) := by
  intro hw w h
  obtain ⟨r0, f0, f1, f2, f3, f4⟩ := shape7 (v0 := 22) (by decide) x0 x1 x2 x3 x4 (w := w) h
  have m1 : hits w 0x7F000000 0x16000000 = true := hits_runs [(24, 7, 22)] (List.forall_mem_cons.2 ⟨r0, (List.forall_mem_nil _)⟩) (by decide) (by decide)
  have e : w.toNat / 2 ^ 24 % 128 = 22 := by omega
  simp only [pattern, e, Nat.reduceDiv, Nat.reduceMod, pattern1, m1, if_true, f0, f1, f2, f3, f4]

theorem idivN32 (x0 : BitVec 1) (x1 : BitVec 3) (x2 : BitVec 7) (x3 : BitVec 7) (x4 : BitVec 7) : Statement (.idivN32 x0 x1 x2 x3 x4) := by
  intro hw w h
  obtain ⟨r0, f0, f1, f2, f3, f4⟩ := shape7 (v0 := 23) (by decide) x0 x1 x2 x3 x4 (w := w) h
  have m1 : hits w 0x7F000000 0x17000000 = true := hits_runs [(24, 7, 23)] (List.forall_mem_cons.2 ⟨r0, (List.forall_mem_nil _)⟩) (by decide) (by decide)
  have e : w.toNat / 2 ^ 24 % 128 = 23 := by omega
  simp only [pattern, e, Nat.reduceDiv, Nat.reduceMod, pattern1, m1, if_true, f0, f1, f2, f3, f4]

theorem iremS32 (x0 : BitVec 1) (x1 : BitVec 3) (x2 : BitVec 7) (x3 : BitVec 7) (x4 : BitVec 7) : Statement (.iremS32 x0 x1 x2 x3 x4) := by
  intro hw w h
  obtain ⟨r0, f0, f1, f2, f3, f4⟩ := shape7 (v0 := 24) (by decide) x0 x1 x2 x3 x4 (w := w) h
  have m1 : hits w 0x7F000000 0x18000000 = true := hits_runs [(24, 7, 24)] (List.forall_mem_cons.2 ⟨r0, (List.forall_mem_nil _)⟩) (by decide) (by decide)
  have e : w.toNat / 2 ^ 24 % 128 = 24 := by omega
  simp only [pattern, e, Nat.reduceDiv, Nat.reduceMod, pattern1, m1, if_true, f0, f1, f2, f3, f4]

theorem iremN32 (x0 : BitVec 1) (x1 : BitVec 3) (x2 : BitVec 7) (x3 : BitVec 7) (x4 : BitVec 7) : Statement (.iremN32 x0 x1 x2 x3 x4) := by
  intro hw w h
  obtain ⟨r0, f0, f1, f2, f3, f4⟩ := shape7 (v0 := 25) (by decide) x0 x1 x2 x3 x4 (w := w) h
  have m1 : hits w 0x7F000000 0x19000000 = true := hits_runs [(24, 7, 25)] (List.forall_mem_cons.2 ⟨r0, (List.forall_mem_nil _)⟩) (by decide) (by decide)
  have e : w.toNat / 2 ^ 24 % 128 = 25 := by omega
  simp only [pattern, e, Nat.reduceDiv, Nat.reduceMod, pattern1, m1, if_true, f0, f1, f2, f3, f4]

theorem iminS32 (x0 : BitVec 1) (x1 : BitVec 3) (x2 : BitVec 7) (x3 : BitVec 7) (x4 : BitVec 7) : Statement (.iminS32 x0 x1 x2 x3 x4) := by
  intro hw w h
  obtain ⟨r0, f0, f1, f2, f3, f4⟩ := shape7 (v0 := 26) (by decide) x0 x1 x2 x3 x4 (w := w) h
  have m1 : hits w 0x7F000000 0x1A000000 = true := hits_runs [(24, 7, 26)] (List.forall_mem_cons.2 ⟨r0, (List.forall_mem_nil _)⟩) (by decide) (by decide)
  have e : w.toNat / 2 ^ 24 % 128 = 26 := by omega
  simp only [pattern, e, Nat.reduceDiv, Nat.reduceMod, pattern1, m1, if_true, f0, f1, f2, f3, f4]

theorem iminN32 (x0 : BitVec 1) (x1 : BitVec 3) (x2 : BitVec 7) (x3 : BitVec 7) (x4 : BitVec 7) : Statement (.iminN32 x0 x1 x2 x3 x4) := by
  intro hw w h
  obtain ⟨r0, f0, f1, f2, f3, f4⟩ := shape7 (v0 := 27) (by decide) x0 x1 x2 x3 x4 (w := w) h
  have m1 : hits w 0x7F000000 0x1B000000 = true := hits_runs [(24, 7, 27)] (List.forall_mem_cons.2 ⟨r0, (List.forall_mem_nil _)⟩) (by decide) (by decide)
  have e : w.toNat / 2 ^ 24 % 128 = 27 := by omega
  simp only [pattern, e, Nat.reduceDiv, Nat.reduceMod, pattern1, m1, if_true, f0, f1, f2, f3, f4]

theorem imaxS32 (x0 : BitVec 1) (x1 : BitVec 3) (x2 : BitVec 7) (x3 : BitVec 7) (x4 : BitVec 7) : Statement (.imaxS32 x0 x1 x2 x3 x4) := by
  intro hw w h
  obtain ⟨r0, f0, f1, f2, f3, f4⟩ := shape7 (v0 := 28) (by decide) x0 x1 x2 x3 x4 (w := w) h
  have m1 : hits w 0x7F000000 0x1C000000 = true := hits_runs [(24, 7, 28)] (List.forall_mem_cons.2 ⟨r0, (List.forall_mem_nil _)⟩) (by decide) (by decide)
  have e : w.toNat / 2 ^ 24 % 128 = 28 := by omega
  simp only [pattern, e, Nat.reduceDiv, Nat.reduceMod, pattern1, m1, if_true, f0, f1, f2, f3, f4]

theorem imaxN32 (x0 : BitVec 1) (x1 : BitVec 3) (x2 : BitVec 7) (x3 : BitVec 7) (x4 : BitVec 7) : Statement (.imaxN32 x0 x1 x2 x3 x4) := by
  intro hw w h
  obtain ⟨r0, f0, f1, f2, f3, f4⟩ := shape7 (v0 := 29) (by decide) x0 x1 x2 x3 x4 (w := w) h
  have m1 : hits w 0x7F000000 0x1D000000 = true := hits_runs [(24, 7, 29)] (List.forall_mem_cons.2 ⟨r0, (List.forall_mem_nil _)⟩) (by decide) (by decide)
  have e : w.toNat / 2 ^ 24 % 128 = 29 := by omega
  simp only [pattern, e, Nat.reduceDiv, Nat.reduceMod, pattern1, m1, if_true, f0, f1, f2, f3, f4]

theorem movi (x0 : BitVec 1) (x1 : BitVec 3) (x2 : BitVec 7) (x3 : BitVec 7) : Statement (.movi x0 x1 x2 x3) := by
  intro hw w h
  obtain ⟨r0, r1, f0, f1, f2, f3⟩ := shape14 (v0 := 0) (v1 := 30) (by decide) (by decide) x0 x1 x2 x3 (w := w) h
  have m1 : hits w 0x7F003F80 0x1E000000 = true := hits_runs [(7, 7, 0), (24, 7, 30)] (List.forall_mem_cons.2 ⟨r0, (List.forall_mem_cons.2 ⟨r1, (List.forall_mem_nil _)⟩)⟩) (by decide) (by decide)
  have e : w.toNat / 2 ^ 24 % 128 = 30 := by omega
  simp only [pattern, e, Nat.reduceDiv, Nat.reduceMod, pattern1, m1, if_true, f0, f1, f2, f3]

theorem mov (x0 : BitVec 1) (x1 : BitVec 3) (x2 : BitVec 7) (x3 : BitVec 7) : Statement (.mov x0 x1 x2 x3) := by
  intro hw w h
  obtain ⟨r0, r1, f0, f1, f2, f3⟩ := shape15 (v0 := 0) (v1 := 31) (by decide) (by decide) x0 x1 x2 x3 (w := w) h
  have m1 : hits w 0x7F00007F 0x1F000000 = true := hits_runs [(0, 7, 0), (24, 7, 31)] (List.forall_mem_cons.2 ⟨r0, (List.forall_mem_cons.2 ⟨r1, (List.forall_mem_nil _)⟩)⟩) (by decide) (by decide)
  have e : w.toNat / 2 ^ 24 % 128 = 31 := by omega
  simp only [pattern, e, Nat.reduceDiv, Nat.reduceMod, pattern1, m1, if_true, f0, f1, f2, f3]

theorem iabs (x0 : BitVec 1) (x1 : BitVec 3) (x2 : BitVec 7) (x3 : BitVec 7) : Statement (.iabs x0 x1 x2 x3) := by
  intro hw w h
  obtain ⟨r0, r1, f0, f1, f2, f3⟩ := shape15 (v0 := 1) (v1 := 31) (by decide) (by decide) x0 x1 x2 x3 (w := w) h
  have m1 : hits w 0x7F00007F 0x1F000000 = false := hits_not 0 1 (by omega) (by decide)
  have m2 : hits w 0x7F00007F 0x1F000001 = true := hits_runs [(0, 7, 1), (24, 7, 31)] (List.forall_mem_cons.2 ⟨r0, (List.forall_mem_cons.2 ⟨r1, (List.forall_mem_nil _)⟩)⟩) (by decide) (by decide)
  have e : w.toNat / 2 ^ 24 % 128 = 31 := by omega
  simp only [pattern, e, Nat.reduceDiv, Nat.reduceMod, pattern1, m1, m2, if_true, Bool.false_eq_true, if_false, f0, f1, f2, f3]

theorem ineg (x0 : BitVec 1) (x1 : BitVec 3) (x2 : BitVec 7) (x3 : BitVec 7) : Statement (.ineg x0 x1 x2 x3) := by
  intro hw w h
  obtain ⟨r0, r1, f0, f1, f2, f3⟩ := shape15 (v0 := 2) (v1 := 31) (by decide) (by decide) x0 x1 x2 x3 (w := w) h
  have m1 : hits w 0x7F00007F 0x1F000000 = false := hits_not 1 1 (by omega) (by decide)
  have m2 : hits w 0x7F00007F 0x1F000001 = false := hits_not 0 1 (by omega) (by decide)
  have m3 : hits w 0x7F00007F 0x1F000002 = true := hits_runs [(0, 7, 2), (24, 7, 31)] (List.forall_mem_cons.2 ⟨r0, (List.forall_mem_cons.2 ⟨r1, (List.forall_mem_nil _)⟩)⟩) (by decide) (by decide)
  have e : w.toNat / 2 ^ 24 % 128 = 31 := by omega
  simp only [pattern, e, Nat.reduceDiv, Nat.reduceMod, pattern1, m1, m2, m3, if_true, Bool.false_eq_true, if_false, f0, f1, f2, f3]

theorem popc (x0 : BitVec 1) (x1 : BitVec 3) (x2 : BitVec 7) (x3 : BitVec 7) : Statement (.popc x0 x1 x2 x3) := by
  intro hw w h
  obtain ⟨r0, r1, f0, f1, f2, f3⟩ := shape15 (v0 := 3) (v1 := 31) (by decide) (by decide) x0 x1 x2 x3 (w := w) h
  have m1 : hits w 0x7F00007F 0x1F000000 = false := hits_not 0 1 (by omega) (by decide)
  have m2 : hits w 0x7F00007F 0x1F000001 = false := hits_not 1 1 (by omega) (by decide)
  have m3 : hits w 0x7F00007F 0x1F000002 = false := hits_not 0 1 (by omega) (by decide)
  have m4 : hits w 0x7F00007F 0x1F000003 = true := hits_runs [(0, 7, 3), (24, 7, 31)] (List.forall_mem_cons.2 ⟨r0, (List.forall_mem_cons.2 ⟨r1, (List.forall_mem_nil _)⟩)⟩) (by decide) (by decide)
  have e : w.toNat / 2 ^ 24 % 128 = 31 := by omega
  simp only [pattern, e, Nat.reduceDiv, Nat.reduceMod, pattern1, m1, m2, m3, m4, if_true, Bool.false_eq_true, if_false, f0, f1, f2, f3]

theorem clz (x0 : BitVec 1) (x1 : BitVec 3) (x2 : BitVec 7) (x3 : BitVec 7) : Statement (.clz x0 x1 x2 x3) := by
  intro hw w h
  obtain ⟨r0, r1, f0, f1, f2, f3⟩ := shape15 (v0 := 4) (v1 := 31) (by decide) (by decide) x0 x1 x2 x3 (w := w) h
  have m1 : hits w 0x7F00007F 0x1F000000 = false := hits_not 2 1 (by omega) (by decide)
  have m2 : hits w 0x7F00007F 0x1F000001 = false := hits_not 0 1 (by omega) (by decide)
  have m3 : hits w 0x7F00007F 0x1F000002 = false := hits_not 1 1 (by omega) (by decide)
  have m4 : hits w 0x7F00007F 0x1F000003 = false := hits_not 0 1 (by omega) (by decide)
  have m5 : hits w 0x7F00007F 0x1F000004 = true := hits_runs [(0, 7, 4), (24, 7, 31)] (List.forall_mem_cons.2 ⟨r0, (List.forall_mem_cons.2 ⟨r1, (List.forall_mem_nil _)⟩)⟩) (by decide) (by decide)
  have e : w.toNat / 2 ^ 24 % 128 = 31 := by omega
  simp only [pattern, e, Nat.reduceDiv, Nat.reduceMod, pattern1, m1, m2, m3, m4, m5, if_true, Bool.false_eq_true, if_false, f0, f1, f2, f3]

theorem ctz (x0 : BitVec 1) (x1 : BitVec 3) (x2 : BitVec 7) (x3 : BitVec 7) : Statement (.ctz x0 x1 x2 x3) := by
  intro hw w h
  obtain ⟨r0, r1, f0, f1, f2, f3⟩ := shape15 (v0 := 5) (v1 := 31) (by decide) (by decide) x0 x1 x2 x3 (w := w) h
  have m1 : hits w 0x7F00007F 0x1F000000 = false := hits_not 0 1 (by omega) (by decide)
  have m2 : hits w 0x7F00007F 0x1F000001 = false := hits_not 2 1 (by omega) (by decide)
  have m3 : hits w 0x7F00007F 0x1F000002 = false := hits_not 0 1 (by omega) (by decide)
  have m4 : hits w 0x7F00007F 0x1F000003 = false := hits_not 1 1 (by omega) (by decide)
  have m5 : hits w 0x7F00007F 0x1F000004 = false := hits_not 0 1 (by omega) (by decide)
  have m6 : hits w 0x7F00007F 0x1F000005 = true := hits_runs [(0, 7, 5), (24, 7, 31)] (List.forall_mem_cons.2 ⟨r0, (List.forall_mem_cons.2 ⟨r1, (List.forall_mem_nil _)⟩)⟩) (by decide) (by decide)
  have e : w.toNat / 2 ^ 24 % 128 = 31 := by omega
  simp only [pattern, e, Nat.reduceDiv, Nat.reduceMod, pattern1, m1, m2, m3, m4, m5, m6, if_true, Bool.false_eq_true, if_false, f0, f1, f2, f3]

theorem brev (x0 : BitVec 1) (x1 : BitVec 3) (x2 : BitVec 7) (x3 : BitVec 7) : Statement (.brev x0 x1 x2 x3) := by
  intro hw w h
  obtain ⟨r0, r1, f0, f1, f2, f3⟩ := shape15 (v0 := 6) (v1 := 31) (by decide) (by decide) x0 x1 x2 x3 (w := w) h
  have m1 : hits w 0x7F00007F 0x1F000000 = false := hits_not 1 1 (by omega) (by decide)
  have m2 : hits w 0x7F00007F 0x1F000001 = false := hits_not 0 1 (by omega) (by decide)
  have m3 : hits w 0x7F00007F 0x1F000002 = false := hits_not 2 1 (by omega) (by decide)
  have m4 : hits w 0x7F00007F 0x1F000003 = false := hits_not 0 1 (by omega) (by decide)
  have m5 : hits w 0x7F00007F 0x1F000004 = false := hits_not 1 1 (by omega) (by decide)
  have m6 : hits w 0x7F00007F 0x1F000005 = false := hits_not 0 1 (by omega) (by decide)
  have m7 : hits w 0x7F00007F 0x1F000006 = true := hits_runs [(0, 7, 6), (24, 7, 31)] (List.forall_mem_cons.2 ⟨r0, (List.forall_mem_cons.2 ⟨r1, (List.forall_mem_nil _)⟩)⟩) (by decide) (by decide)
  have e : w.toNat / 2 ^ 24 % 128 = 31 := by omega
  simp only [pattern, e, Nat.reduceDiv, Nat.reduceMod, pattern1, m1, m2, m3, m4, m5, m6, m7, if_true, Bool.false_eq_true, if_false, f0, f1, f2, f3]

theorem andW (x0 : BitVec 1) (x1 : BitVec 3) (x2 : BitVec 7) (x3 : BitVec 7) (x4 : BitVec 7) : Statement (.andW x0 x1 x2 x3 x4) := by
  intro hw w h
  obtain ⟨r0, f0, f1, f2, f3, f4⟩ := shape7 (v0 := 32) (by decide) x0 x1 x2 x3 x4 (w := w) h
  have m1 : hits w 0x7F000000 0x20000000 = true := hits_runs [(24, 7, 32)] (List.forall_mem_cons.2 ⟨r0, (List.forall_mem_nil _)⟩) (by decide) (by decide)
  have e : w.toNat / 2 ^ 24 % 128 = 32 := by omega
  simp only [pattern, e, Nat.reduceDiv, Nat.reduceMod, pattern2, m1, if_true, f0, f1, f2, f3, f4]

theorem orW (x0 : BitVec 1) (x1 : BitVec 3) (x2 : BitVec 7) (x3 : BitVec 7) (x4 : BitVec 7) : Statement (.orW x0 x1 x2 x3 x4) := by
  intro hw w h
  obtain ⟨r0, f0, f1, f2, f3, f4⟩ := shape7 (v0 := 33) (by decide) x0 x1 x2 x3 x4 (w := w) h
  have m1 : hits w 0x7F000000 0x21000000 = true := hits_runs [(24, 7, 33)] (List.forall_mem_cons.2 ⟨r0, (List.forall_mem_nil _)⟩) (by decide) (by decide)
  have e : w.toNat / 2 ^ 24 % 128 = 33 := by omega
  simp only [pattern, e, Nat.reduceDiv, Nat.reduceMod, pattern2, m1, if_true, f0, f1, f2, f3, f4]

theorem xor (x0 : BitVec 1) (x1 : BitVec 3) (x2 : BitVec 7) (x3 : BitVec 7) (x4 : BitVec 7) : Statement (.xor x0 x1 x2 x3 x4) := by
  intro hw w h
  obtain ⟨r0, f0, f1, f2, f3, f4⟩ := shape7 (v0 := 34) (by decide) x0 x1 x2 x3 x4 (w := w) h
  have m1 : hits w 0x7F000000 0x22000000 = true := hits_runs [(24, 7, 34)] (List.forall_mem_cons.2 ⟨r0, (List.forall_mem_nil _)⟩) (by decide) (by decide)
  have e : w.toNat / 2 ^ 24 % 128 = 34 := by omega
  simp only [pattern, e, Nat.reduceDiv, Nat.reduceMod, pattern2, m1, if_true, f0, f1, f2, f3, f4]

theorem andn (x0 : BitVec 1) (x1 : BitVec 3) (x2 : BitVec 7) (x3 : BitVec 7) (x4 : BitVec 7) : Statement (.andn x0 x1 x2 x3 x4) := by
  intro hw w h
  obtain ⟨r0, f0, f1, f2, f3, f4⟩ := shape7 (v0 := 35) (by decide) x0 x1 x2 x3 x4 (w := w) h
  have m1 : hits w 0x7F000000 0x23000000 = true := hits_runs [(24, 7, 35)] (List.forall_mem_cons.2 ⟨r0, (List.forall_mem_nil _)⟩) (by decide) (by decide)
  have e : w.toNat / 2 ^ 24 % 128 = 35 := by omega
  simp only [pattern, e, Nat.reduceDiv, Nat.reduceMod, pattern2, m1, if_true, f0, f1, f2, f3, f4]

theorem shl (x0 : BitVec 1) (x1 : BitVec 3) (x2 : BitVec 7) (x3 : BitVec 7) (x4 : BitVec 7) : Statement (.shl x0 x1 x2 x3 x4) := by
  intro hw w h
  obtain ⟨r0, f0, f1, f2, f3, f4⟩ := shape7 (v0 := 36) (by decide) x0 x1 x2 x3 x4 (w := w) h
  have m1 : hits w 0x7F000000 0x24000000 = true := hits_runs [(24, 7, 36)] (List.forall_mem_cons.2 ⟨r0, (List.forall_mem_nil _)⟩) (by decide) (by decide)
  have e : w.toNat / 2 ^ 24 % 128 = 36 := by omega
  simp only [pattern, e, Nat.reduceDiv, Nat.reduceMod, pattern2, m1, if_true, f0, f1, f2, f3, f4]

theorem shr (x0 : BitVec 1) (x1 : BitVec 3) (x2 : BitVec 7) (x3 : BitVec 7) (x4 : BitVec 7) : Statement (.shr x0 x1 x2 x3 x4) := by
  intro hw w h
  obtain ⟨r0, f0, f1, f2, f3, f4⟩ := shape7 (v0 := 37) (by decide) x0 x1 x2 x3 x4 (w := w) h
  have m1 : hits w 0x7F000000 0x25000000 = true := hits_runs [(24, 7, 37)] (List.forall_mem_cons.2 ⟨r0, (List.forall_mem_nil _)⟩) (by decide) (by decide)
  have e : w.toNat / 2 ^ 24 % 128 = 37 := by omega
  simp only [pattern, e, Nat.reduceDiv, Nat.reduceMod, pattern2, m1, if_true, f0, f1, f2, f3, f4]

theorem sar (x0 : BitVec 1) (x1 : BitVec 3) (x2 : BitVec 7) (x3 : BitVec 7) (x4 : BitVec 7) : Statement (.sar x0 x1 x2 x3 x4) := by
  intro hw w h
  obtain ⟨r0, f0, f1, f2, f3, f4⟩ := shape7 (v0 := 38) (by decide) x0 x1 x2 x3 x4 (w := w) h
  have m1 : hits w 0x7F000000 0x26000000 = true := hits_runs [(24, 7, 38)] (List.forall_mem_cons.2 ⟨r0, (List.forall_mem_nil _)⟩) (by decide) (by decide)
  have e : w.toNat / 2 ^ 24 % 128 = 38 := by omega
  simp only [pattern, e, Nat.reduceDiv, Nat.reduceMod, pattern2, m1, if_true, f0, f1, f2, f3, f4]

theorem rotl (x0 : BitVec 1) (x1 : BitVec 3) (x2 : BitVec 7) (x3 : BitVec 7) (x4 : BitVec 7) : Statement (.rotl x0 x1 x2 x3 x4) := by
  intro hw w h
  obtain ⟨r0, f0, f1, f2, f3, f4⟩ := shape7 (v0 := 39) (by decide) x0 x1 x2 x3 x4 (w := w) h
  have m1 : hits w 0x7F000000 0x27000000 = true := hits_runs [(24, 7, 39)] (List.forall_mem_cons.2 ⟨r0, (List.forall_mem_nil _)⟩) (by decide) (by decide)
  have e : w.toNat / 2 ^ 24 % 128 = 39 := by omega
  simp only [pattern, e, Nat.reduceDiv, Nat.reduceMod, pattern2, m1, if_true, f0, f1, f2, f3, f4]

theorem bfxN32 (x0 : BitVec 1) (x1 : BitVec 3) (x2 : BitVec 7) (x3 : BitVec 7) (x4 : BitVec 7) : Statement (.bfxN32 x0 x1 x2 x3 x4) := by
  intro hw w h
  obtain ⟨r0, f0, f1, f2, f3, f4⟩ := shape7 (v0 := 40) (by decide) x0 x1 x2 x3 x4 (w := w) h
  have m1 : hits w 0x7F000000 0x28000000 = true := hits_runs [(24, 7, 40)] (List.forall_mem_cons.2 ⟨r0, (List.forall_mem_nil _)⟩) (by decide) (by decide)
  have e : w.toNat / 2 ^ 24 % 128 = 40 := by omega
  simp only [pattern, e, Nat.reduceDiv, Nat.reduceMod, pattern2, m1, if_true, f0, f1, f2, f3, f4]

theorem bfxS32 (x0 : BitVec 1) (x1 : BitVec 3) (x2 : BitVec 7) (x3 : BitVec 7) (x4 : BitVec 7) : Statement (.bfxS32 x0 x1 x2 x3 x4) := by
  intro hw w h
  obtain ⟨r0, f0, f1, f2, f3, f4⟩ := shape7 (v0 := 41) (by decide) x0 x1 x2 x3 x4 (w := w) h
  have m1 : hits w 0x7F000000 0x29000000 = true := hits_runs [(24, 7, 41)] (List.forall_mem_cons.2 ⟨r0, (List.forall_mem_nil _)⟩) (by decide) (by decide)
  have e : w.toNat / 2 ^ 24 % 128 = 41 := by omega
  simp only [pattern, e, Nat.reduceDiv, Nat.reduceMod, pattern2, m1, if_true, f0, f1, f2, f3, f4]

theorem bfi (x0 : BitVec 1) (x1 : BitVec 3) (x2 : BitVec 7) (x3 : BitVec 7) (x4 : BitVec 7) : Statement (.bfi x0 x1 x2 x3 x4) := by
  intro hw w h
  obtain ⟨r0, f0, f1, f2, f3, f4⟩ := shape7 (v0 := 42) (by decide) x0 x1 x2 x3 x4 (w := w) h
  have m1 : hits w 0x7F000000 0x2A000000 = true := hits_runs [(24, 7, 42)] (List.forall_mem_cons.2 ⟨r0, (List.forall_mem_nil _)⟩) (by decide) (by decide)
  have e : w.toNat / 2 ^ 24 % 128 = 42 := by omega
  simp only [pattern, e, Nat.reduceDiv, Nat.reduceMod, pattern2, m1, if_true, f0, f1, f2, f3, f4]

theorem sel (x0 : BitVec 1) (x1 : BitVec 3) (x2 : BitVec 7) (x3 : BitVec 7) (x4 : BitVec 7) : Statement (.sel x0 x1 x2 x3 x4) := by
  intro hw w h
  obtain ⟨r0, f0, f1, f2, f3, f4⟩ := shape7 (v0 := 43) (by decide) x0 x1 x2 x3 x4 (w := w) h
  have m1 : hits w 0x7F000000 0x2B000000 = true := hits_runs [(24, 7, 43)] (List.forall_mem_cons.2 ⟨r0, (List.forall_mem_nil _)⟩) (by decide) (by decide)
  have e : w.toNat / 2 ^ 24 % 128 = 43 := by omega
  simp only [pattern, e, Nat.reduceDiv, Nat.reduceMod, pattern2, m1, if_true, f0, f1, f2, f3, f4]

theorem icmp (x0 : BitVec 1) (x1 : BitVec 1) (x2 : BitVec 3) (x3 : BitVec 7) (x4 : BitVec 7) : Statement (.icmp x0 x1 x2 x3 x4) := by
  intro hw w h
  obtain ⟨r0, f0, f1, f2, f3, f4⟩ := shape16 (v0 := 2816) (by decide) x0 x1 x2 x3 x4 (w := w) h
  have m1 : hits w 0x7FFC0000 0x2C000000 = true := hits_runs [(18, 13, 2816)] (List.forall_mem_cons.2 ⟨r0, (List.forall_mem_nil _)⟩) (by decide) (by decide)
  have e : w.toNat / 2 ^ 24 % 128 = 44 := by omega
  simp only [pattern, e, Nat.reduceDiv, Nat.reduceMod, pattern2, m1, if_true, f0, f1, f2, f3, f4]

theorem fcmp (x0 : BitVec 1) (x1 : BitVec 3) (x2 : BitVec 7) (x3 : BitVec 7) : Statement (.fcmp x0 x1 x2 x3) := by
  intro hw w h
  obtain ⟨r0, f0, f1, f2, f3⟩ := shape17 (v0 := 5640) (by decide) x0 x1 x2 x3 (w := w) h
  have m1 : hits w 0x7FFC0000 0x2C000000 = false := hits_not 20 1 (by omega) (by decide)
  have m2 : hits w 0x7FFE0000 0x2C100000 = true := hits_runs [(17, 14, 5640)] (List.forall_mem_cons.2 ⟨r0, (List.forall_mem_nil _)⟩) (by decide) (by decide)
  have e : w.toNat / 2 ^ 24 % 128 = 44 := by omega
  simp only [pattern, e, Nat.reduceDiv, Nat.reduceMod, pattern2, m1, m2, if_true, Bool.false_eq_true, if_false, f0, f1, f2, f3]

theorem ppop (x0 : BitVec 1) : Statement (.ppop x0) := by
  intro hw w h
  obtain ⟨r0, f0⟩ := shape1 (v0 := 754974720) (by decide) x0 (w := w) h
  have m1 : hits w 0x7FFFFFFF 0x2D000000 = true := hits_runs [(0, 31, 754974720)] (List.forall_mem_cons.2 ⟨r0, (List.forall_mem_nil _)⟩) (by decide) (by decide)
  have e : w.toNat / 2 ^ 24 % 128 = 45 := by omega
  simp only [pattern, e, Nat.reduceDiv, Nat.reduceMod, pattern2, m1, if_true, f0]

theorem pdup (x0 : BitVec 1) : Statement (.pdup x0) := by
  intro hw w h
  obtain ⟨r0, f0⟩ := shape1 (v0 := 754974721) (by decide) x0 (w := w) h
  have m1 : hits w 0x7FFFFFFF 0x2D000000 = false := hits_not 0 1 (by omega) (by decide)
  have m2 : hits w 0x7FFFFFFF 0x2D000001 = true := hits_runs [(0, 31, 754974721)] (List.forall_mem_cons.2 ⟨r0, (List.forall_mem_nil _)⟩) (by decide) (by decide)
  have e : w.toNat / 2 ^ 24 % 128 = 45 := by omega
  simp only [pattern, e, Nat.reduceDiv, Nat.reduceMod, pattern2, m1, m2, if_true, Bool.false_eq_true, if_false, f0]

theorem pswp (x0 : BitVec 1) : Statement (.pswp x0) := by
  intro hw w h
  obtain ⟨r0, f0⟩ := shape1 (v0 := 754974722) (by decide) x0 (w := w) h
  have m1 : hits w 0x7FFFFFFF 0x2D000000 = false := hits_not 1 1 (by omega) (by decide)
  have m2 : hits w 0x7FFFFFFF 0x2D000001 = false := hits_not 0 1 (by omega) (by decide)
  have m3 : hits w 0x7FFFFFFF 0x2D000002 = true := hits_runs [(0, 31, 754974722)] (List.forall_mem_cons.2 ⟨r0, (List.forall_mem_nil _)⟩) (by decide) (by decide)
  have e : w.toNat / 2 ^ 24 % 128 = 45 := by omega
  simp only [pattern, e, Nat.reduceDiv, Nat.reduceMod, pattern2, m1, m2, m3, if_true, Bool.false_eq_true, if_false, f0]

theorem pand (x0 : BitVec 1) : Statement (.pand x0) := by
  intro hw w h
  obtain ⟨r0, f0⟩ := shape1 (v0 := 754974723) (by decide) x0 (w := w) h
  have m1 : hits w 0x7FFFFFFF 0x2D000000 = false := hits_not 0 1 (by omega) (by decide)
  have m2 : hits w 0x7FFFFFFF 0x2D000001 = false := hits_not 1 1 (by omega) (by decide)
  have m3 : hits w 0x7FFFFFFF 0x2D000002 = false := hits_not 0 1 (by omega) (by decide)
  have m4 : hits w 0x7FFFFFFF 0x2D000003 = true := hits_runs [(0, 31, 754974723)] (List.forall_mem_cons.2 ⟨r0, (List.forall_mem_nil _)⟩) (by decide) (by decide)
  have e : w.toNat / 2 ^ 24 % 128 = 45 := by omega
  simp only [pattern, e, Nat.reduceDiv, Nat.reduceMod, pattern2, m1, m2, m3, m4, if_true, Bool.false_eq_true, if_false, f0]

theorem por (x0 : BitVec 1) : Statement (.por x0) := by
  intro hw w h
  obtain ⟨r0, f0⟩ := shape1 (v0 := 754974724) (by decide) x0 (w := w) h
  have m1 : hits w 0x7FFFFFFF 0x2D000000 = false := hits_not 2 1 (by omega) (by decide)
  have m2 : hits w 0x7FFFFFFF 0x2D000001 = false := hits_not 0 1 (by omega) (by decide)
  have m3 : hits w 0x7FFFFFFF 0x2D000002 = false := hits_not 1 1 (by omega) (by decide)
  have m4 : hits w 0x7FFFFFFF 0x2D000003 = false := hits_not 0 1 (by omega) (by decide)
  have m5 : hits w 0x7FFFFFFF 0x2D000004 = true := hits_runs [(0, 31, 754974724)] (List.forall_mem_cons.2 ⟨r0, (List.forall_mem_nil _)⟩) (by decide) (by decide)
  have e : w.toNat / 2 ^ 24 % 128 = 45 := by omega
  simp only [pattern, e, Nat.reduceDiv, Nat.reduceMod, pattern2, m1, m2, m3, m4, m5, if_true, Bool.false_eq_true, if_false, f0]

theorem pxor (x0 : BitVec 1) : Statement (.pxor x0) := by
  intro hw w h
  obtain ⟨r0, f0⟩ := shape1 (v0 := 754974725) (by decide) x0 (w := w) h
  have m1 : hits w 0x7FFFFFFF 0x2D000000 = false := hits_not 0 1 (by omega) (by decide)
  have m2 : hits w 0x7FFFFFFF 0x2D000001 = false := hits_not 2 1 (by omega) (by decide)
  have m3 : hits w 0x7FFFFFFF 0x2D000002 = false := hits_not 0 1 (by omega) (by decide)
  have m4 : hits w 0x7FFFFFFF 0x2D000003 = false := hits_not 1 1 (by omega) (by decide)
  have m5 : hits w 0x7FFFFFFF 0x2D000004 = false := hits_not 0 1 (by omega) (by decide)
  have m6 : hits w 0x7FFFFFFF 0x2D000005 = true := hits_runs [(0, 31, 754974725)] (List.forall_mem_cons.2 ⟨r0, (List.forall_mem_nil _)⟩) (by decide) (by decide)
  have e : w.toNat / 2 ^ 24 % 128 = 45 := by omega
  simp only [pattern, e, Nat.reduceDiv, Nat.reduceMod, pattern2, m1, m2, m3, m4, m5, m6, if_true, Bool.false_eq_true, if_false, f0]

theorem prd (x0 : BitVec 1) (x1 : BitVec 7) : Statement (.prd x0 x1) := by
  intro hw w h
  obtain ⟨r0, r1, f0, f1⟩ := shape18 (v0 := 6) (v1 := 360) (by decide) (by decide) x0 x1 (w := w) h
  have m1 : hits w 0x7FFFFFFF 0x2D000000 = false := hits_not 1 1 (by omega) (by decide)
  have m2 : hits w 0x7FFFFFFF 0x2D000001 = false := hits_not 0 1 (by omega) (by decide)
  have m3 : hits w 0x7FFFFFFF 0x2D000002 = false := hits_not 2 1 (by omega) (by decide)
  have m4 : hits w 0x7FFFFFFF 0x2D000003 = false := hits_not 0 1 (by omega) (by decide)
  have m5 : hits w 0x7FFFFFFF 0x2D000004 = false := hits_not 1 1 (by omega) (by decide)
  have m6 : hits w 0x7FFFFFFF 0x2D000005 = false := hits_not 0 1 (by omega) (by decide)
  have m7 : hits w 0x7FE03FFF 0x2D000006 = true := hits_runs [(0, 14, 6), (21, 10, 360)] (List.forall_mem_cons.2 ⟨r0, (List.forall_mem_cons.2 ⟨r1, (List.forall_mem_nil _)⟩)⟩) (by decide) (by decide)
  have e : w.toNat / 2 ^ 24 % 128 = 45 := by omega
  simp only [pattern, e, Nat.reduceDiv, Nat.reduceMod, pattern2, m1, m2, m3, m4, m5, m6, m7, if_true, Bool.false_eq_true, if_false, f0, f1]

theorem pwr (x0 : BitVec 1) (x1 : BitVec 7) : Statement (.pwr x0 x1) := by
  intro hw w h
  obtain ⟨r0, r1, f0, f1⟩ := shape19 (v0 := 7) (v1 := 46080) (by decide) (by decide) x0 x1 (w := w) h
  have m1 : hits w 0x7FFFFFFF 0x2D000000 = false := hits_not 0 1 (by omega) (by decide)
  have m2 : hits w 0x7FFFFFFF 0x2D000001 = false := hits_not 1 1 (by omega) (by decide)
  have m3 : hits w 0x7FFFFFFF 0x2D000002 = false := hits_not 0 1 (by omega) (by decide)
  have m4 : hits w 0x7FFFFFFF 0x2D000003 = false := hits_not 2 1 (by omega) (by decide)
  have m5 : hits w 0x7FFFFFFF 0x2D000004 = false := hits_not 0 1 (by omega) (by decide)
  have m6 : hits w 0x7FFFFFFF 0x2D000005 = false := hits_not 1 1 (by omega) (by decide)
  have m7 : hits w 0x7FE03FFF 0x2D000006 = false := hits_not 0 1 (by omega) (by decide)
  have m8 : hits w 0x7FFFC07F 0x2D000007 = true := hits_runs [(0, 7, 7), (14, 17, 46080)] (List.forall_mem_cons.2 ⟨r0, (List.forall_mem_cons.2 ⟨r1, (List.forall_mem_nil _)⟩)⟩) (by decide) (by decide)
  have e : w.toNat / 2 ^ 24 % 128 = 45 := by omega
  simp only [pattern, e, Nat.reduceDiv, Nat.reduceMod, pattern2, m1, m2, m3, m4, m5, m6, m7, m8, if_true, Bool.false_eq_true, if_false, f0, f1]

theorem srd (x0 : BitVec 1) (x1 : BitVec 3) (x2 : BitVec 7) (x3 : BitVec 14) : Statement (.srd x0 x1 x2 x3) := by
  intro hw w h
  obtain ⟨r0, f0, f1, f2, f3⟩ := shape20 (v0 := 46) (by decide) x0 x1 x2 x3 (w := w) h
  have m1 : hits w 0x7F000000 0x2E000000 = true := hits_runs [(24, 7, 46)] (List.forall_mem_cons.2 ⟨r0, (List.forall_mem_nil _)⟩) (by decide) (by decide)
  have e : w.toNat / 2 ^ 24 % 128 = 46 := by omega
  simp only [pattern, e, Nat.reduceDiv, Nat.reduceMod, pattern2, m1, if_true, f0, f1, f2, f3]

theorem swr (x0 : BitVec 1) (x1 : BitVec 3) (x2 : BitVec 14) (x3 : BitVec 7) : Statement (.swr x0 x1 x2 x3) := by
  intro hw w h
  obtain ⟨r0, f0, f1, f2, f3⟩ := shape21 (v0 := 47) (by decide) x0 x1 x2 x3 (w := w) h
  have m1 : hits w 0x7F000000 0x2F000000 = true := hits_runs [(24, 7, 47)] (List.forall_mem_cons.2 ⟨r0, (List.forall_mem_nil _)⟩) (by decide) (by decide)
  have e : w.toNat / 2 ^ 24 % 128 = 47 := by omega
  simp only [pattern, e, Nat.reduceDiv, Nat.reduceMod, pattern2, m1, if_true, f0, f1, f2, f3]

theorem fadd (x0 : BitVec 1) (x1 : BitVec 2) (x2 : BitVec 3) (x3 : BitVec 7) (x4 : BitVec 7) (x5 : BitVec 7) : Statement (.fadd x0 x1 x2 x3 x4 x5) := by
  intro hw w h
  obtain ⟨r0, f0, f1, f2, f3, f4, f5⟩ := shape22 (v0 := 12) (by decide) x0 x1 x2 x3 x4 x5 (w := w) h
  have m1 : hits w 0x7C000000 0x30000000 = true := hits_runs [(26, 5, 12)] (List.forall_mem_cons.2 ⟨r0, (List.forall_mem_nil _)⟩) (by decide) (by decide)
  have g : w.toNat / 2 ^ 24 % 4 = x1.toNat := by rw [← f1]; rfl
  have b := x1.isLt
  have e : w.toNat / 2 ^ 24 % 128 = 48 ∨ w.toNat / 2 ^ 24 % 128 = 49 ∨ w.toNat / 2 ^ 24 % 128 = 50 ∨ w.toNat / 2 ^ 24 % 128 = 51 := by omega
  rcases e with e | e | e | e <;> simp only [pattern, e, Nat.reduceDiv, Nat.reduceMod, pattern3, m1, if_true, f0, f1, f2, f3, f4, f5]

theorem fsub (x0 : BitVec 1) (x1 : BitVec 2) (x2 : BitVec 3) (x3 : BitVec 7) (x4 : BitVec 7) (x5 : BitVec 7) : Statement (.fsub x0 x1 x2 x3 x4 x5) := by
  intro hw w h
  obtain ⟨r0, f0, f1, f2, f3, f4, f5⟩ := shape22 (v0 := 13) (by decide) x0 x1 x2 x3 x4 x5 (w := w) h
  have m1 : hits w 0x7C000000 0x34000000 = true := hits_runs [(26, 5, 13)] (List.forall_mem_cons.2 ⟨r0, (List.forall_mem_nil _)⟩) (by decide) (by decide)
  have g : w.toNat / 2 ^ 24 % 4 = x1.toNat := by rw [← f1]; rfl
  have b := x1.isLt
  have e : w.toNat / 2 ^ 24 % 128 = 52 ∨ w.toNat / 2 ^ 24 % 128 = 53 ∨ w.toNat / 2 ^ 24 % 128 = 54 ∨ w.toNat / 2 ^ 24 % 128 = 55 := by omega
  rcases e with e | e | e | e <;> simp only [pattern, e, Nat.reduceDiv, Nat.reduceMod, pattern3, m1, if_true, f0, f1, f2, f3, f4, f5]

theorem fmul (x0 : BitVec 1) (x1 : BitVec 2) (x2 : BitVec 3) (x3 : BitVec 7) (x4 : BitVec 7) (x5 : BitVec 7) : Statement (.fmul x0 x1 x2 x3 x4 x5) := by
  intro hw w h
  obtain ⟨r0, f0, f1, f2, f3, f4, f5⟩ := shape22 (v0 := 14) (by decide) x0 x1 x2 x3 x4 x5 (w := w) h
  have m1 : hits w 0x7C000000 0x38000000 = true := hits_runs [(26, 5, 14)] (List.forall_mem_cons.2 ⟨r0, (List.forall_mem_nil _)⟩) (by decide) (by decide)
  have g : w.toNat / 2 ^ 24 % 4 = x1.toNat := by rw [← f1]; rfl
  have b := x1.isLt
  have e : w.toNat / 2 ^ 24 % 128 = 56 ∨ w.toNat / 2 ^ 24 % 128 = 57 ∨ w.toNat / 2 ^ 24 % 128 = 58 ∨ w.toNat / 2 ^ 24 % 128 = 59 := by omega
  rcases e with e | e | e | e <;> simp only [pattern, e, Nat.reduceDiv, Nat.reduceMod, pattern3, m1, if_true, f0, f1, f2, f3, f4, f5]

theorem fma (x0 : BitVec 1) (x1 : BitVec 2) (x2 : BitVec 3) (x3 : BitVec 7) (x4 : BitVec 7) (x5 : BitVec 7) : Statement (.fma x0 x1 x2 x3 x4 x5) := by
  intro hw w h
  obtain ⟨r0, f0, f1, f2, f3, f4, f5⟩ := shape22 (v0 := 15) (by decide) x0 x1 x2 x3 x4 x5 (w := w) h
  have m1 : hits w 0x7C000000 0x3C000000 = true := hits_runs [(26, 5, 15)] (List.forall_mem_cons.2 ⟨r0, (List.forall_mem_nil _)⟩) (by decide) (by decide)
  have g : w.toNat / 2 ^ 24 % 4 = x1.toNat := by rw [← f1]; rfl
  have b := x1.isLt
  have e : w.toNat / 2 ^ 24 % 128 = 60 ∨ w.toNat / 2 ^ 24 % 128 = 61 ∨ w.toNat / 2 ^ 24 % 128 = 62 ∨ w.toNat / 2 ^ 24 % 128 = 63 := by omega
  rcases e with e | e | e | e <;> simp only [pattern, e, Nat.reduceDiv, Nat.reduceMod, pattern3, m1, if_true, f0, f1, f2, f3, f4, f5]

theorem fmin (x0 : BitVec 1) (x1 : BitVec 3) (x2 : BitVec 7) (x3 : BitVec 7) (x4 : BitVec 7) : Statement (.fmin x0 x1 x2 x3 x4) := by
  intro hw w h
  obtain ⟨r0, f0, f1, f2, f3, f4⟩ := shape7 (v0 := 64) (by decide) x0 x1 x2 x3 x4 (w := w) h
  have m1 : hits w 0x7F000000 0x40000000 = true := hits_runs [(24, 7, 64)] (List.forall_mem_cons.2 ⟨r0, (List.forall_mem_nil _)⟩) (by decide) (by decide)
  have e : w.toNat / 2 ^ 24 % 128 = 64 := by omega
  simp only [pattern, e, Nat.reduceDiv, Nat.reduceMod, pattern4, m1, if_true, f0, f1, f2, f3, f4]

theorem fmax (x0 : BitVec 1) (x1 : BitVec 3) (x2 : BitVec 7) (x3 : BitVec 7) (x4 : BitVec 7) : Statement (.fmax x0 x1 x2 x3 x4) := by
  intro hw w h
  obtain ⟨r0, f0, f1, f2, f3, f4⟩ := shape7 (v0 := 65) (by decide) x0 x1 x2 x3 x4 (w := w) h
  have m1 : hits w 0x7F000000 0x41000000 = true := hits_runs [(24, 7, 65)] (List.forall_mem_cons.2 ⟨r0, (List.forall_mem_nil _)⟩) (by decide) (by decide)
  have e : w.toNat / 2 ^ 24 % 128 = 65 := by omega
  simp only [pattern, e, Nat.reduceDiv, Nat.reduceMod, pattern4, m1, if_true, f0, f1, f2, f3, f4]

theorem fscl (x0 : BitVec 1) (x1 : BitVec 3) (x2 : BitVec 7) (x3 : BitVec 7) (x4 : BitVec 7) : Statement (.fscl x0 x1 x2 x3 x4) := by
  intro hw w h
  obtain ⟨r0, f0, f1, f2, f3, f4⟩ := shape7 (v0 := 66) (by decide) x0 x1 x2 x3 x4 (w := w) h
  have m1 : hits w 0x7F000000 0x42000000 = true := hits_runs [(24, 7, 66)] (List.forall_mem_cons.2 ⟨r0, (List.forall_mem_nil _)⟩) (by decide) (by decide)
  have e : w.toNat / 2 ^ 24 % 128 = 66 := by omega
  simp only [pattern, e, Nat.reduceDiv, Nat.reduceMod, pattern4, m1, if_true, f0, f1, f2, f3, f4]

theorem frcp (x0 : BitVec 1) (x1 : BitVec 3) (x2 : BitVec 7) (x3 : BitVec 7) (x4 : BitVec 3) : Statement (.frcp x0 x1 x2 x3 x4) := by
  intro hw w h
  obtain ⟨r0, r1, f0, f1, f2, f3, f4⟩ := shape23 (v0 := 0) (v1 := 67) (by decide) (by decide) x0 x1 x2 x3 x4 (w := w) h
  have m1 : hits w 0x7F000078 0x43000000 = true := hits_runs [(3, 4, 0), (24, 7, 67)] (List.forall_mem_cons.2 ⟨r0, (List.forall_mem_cons.2 ⟨r1, (List.forall_mem_nil _)⟩)⟩) (by decide) (by decide)
  have e : w.toNat / 2 ^ 24 % 128 = 67 := by omega
  simp only [pattern, e, Nat.reduceDiv, Nat.reduceMod, pattern4, m1, if_true, f0, f1, f2, f3, f4]

theorem frsq (x0 : BitVec 1) (x1 : BitVec 3) (x2 : BitVec 7) (x3 : BitVec 7) (x4 : BitVec 3) : Statement (.frsq x0 x1 x2 x3 x4) := by
  intro hw w h
  obtain ⟨r0, r1, f0, f1, f2, f3, f4⟩ := shape23 (v0 := 1) (v1 := 67) (by decide) (by decide) x0 x1 x2 x3 x4 (w := w) h
  have m1 : hits w 0x7F000078 0x43000000 = false := hits_not 3 1 (by omega) (by decide)
  have m2 : hits w 0x7F000078 0x43000008 = true := hits_runs [(3, 4, 1), (24, 7, 67)] (List.forall_mem_cons.2 ⟨r0, (List.forall_mem_cons.2 ⟨r1, (List.forall_mem_nil _)⟩)⟩) (by decide) (by decide)
  have e : w.toNat / 2 ^ 24 % 128 = 67 := by omega
  simp only [pattern, e, Nat.reduceDiv, Nat.reduceMod, pattern4, m1, m2, if_true, Bool.false_eq_true, if_false, f0, f1, f2, f3, f4]

theorem fsqrt (x0 : BitVec 1) (x1 : BitVec 3) (x2 : BitVec 7) (x3 : BitVec 7) (x4 : BitVec 3) : Statement (.fsqrt x0 x1 x2 x3 x4) := by
  intro hw w h
  obtain ⟨r0, r1, f0, f1, f2, f3, f4⟩ := shape23 (v0 := 2) (v1 := 67) (by decide) (by decide) x0 x1 x2 x3 x4 (w := w) h
  have m1 : hits w 0x7F000078 0x43000000 = false := hits_not 4 1 (by omega) (by decide)
  have m2 : hits w 0x7F000078 0x43000008 = false := hits_not 3 1 (by omega) (by decide)
  have m3 : hits w 0x7F000078 0x43000010 = true := hits_runs [(3, 4, 2), (24, 7, 67)] (List.forall_mem_cons.2 ⟨r0, (List.forall_mem_cons.2 ⟨r1, (List.forall_mem_nil _)⟩)⟩) (by decide) (by decide)
  have e : w.toNat / 2 ^ 24 % 128 = 67 := by omega
  simp only [pattern, e, Nat.reduceDiv, Nat.reduceMod, pattern4, m1, m2, m3, if_true, Bool.false_eq_true, if_false, f0, f1, f2, f3, f4]

theorem fex2 (x0 : BitVec 1) (x1 : BitVec 3) (x2 : BitVec 7) (x3 : BitVec 7) (x4 : BitVec 3) : Statement (.fex2 x0 x1 x2 x3 x4) := by
  intro hw w h
  obtain ⟨r0, r1, f0, f1, f2, f3, f4⟩ := shape23 (v0 := 3) (v1 := 67) (by decide) (by decide) x0 x1 x2 x3 x4 (w := w) h
  have m1 : hits w 0x7F000078 0x43000000 = false := hits_not 3 1 (by omega) (by decide)
  have m2 : hits w 0x7F000078 0x43000008 = false := hits_not 4 1 (by omega) (by decide)
  have m3 : hits w 0x7F000078 0x43000010 = false := hits_not 3 1 (by omega) (by decide)
  have m4 : hits w 0x7F000078 0x43000018 = true := hits_runs [(3, 4, 3), (24, 7, 67)] (List.forall_mem_cons.2 ⟨r0, (List.forall_mem_cons.2 ⟨r1, (List.forall_mem_nil _)⟩)⟩) (by decide) (by decide)
  have e : w.toNat / 2 ^ 24 % 128 = 67 := by omega
  simp only [pattern, e, Nat.reduceDiv, Nat.reduceMod, pattern4, m1, m2, m3, m4, if_true, Bool.false_eq_true, if_false, f0, f1, f2, f3, f4]

theorem flg2 (x0 : BitVec 1) (x1 : BitVec 3) (x2 : BitVec 7) (x3 : BitVec 7) (x4 : BitVec 3) : Statement (.flg2 x0 x1 x2 x3 x4) := by
  intro hw w h
  obtain ⟨r0, r1, f0, f1, f2, f3, f4⟩ := shape23 (v0 := 4) (v1 := 67) (by decide) (by decide) x0 x1 x2 x3 x4 (w := w) h
  have m1 : hits w 0x7F000078 0x43000000 = false := hits_not 5 1 (by omega) (by decide)
  have m2 : hits w 0x7F000078 0x43000008 = false := hits_not 3 1 (by omega) (by decide)
  have m3 : hits w 0x7F000078 0x43000010 = false := hits_not 4 1 (by omega) (by decide)
  have m4 : hits w 0x7F000078 0x43000018 = false := hits_not 3 1 (by omega) (by decide)
  have m5 : hits w 0x7F000078 0x43000020 = true := hits_runs [(3, 4, 4), (24, 7, 67)] (List.forall_mem_cons.2 ⟨r0, (List.forall_mem_cons.2 ⟨r1, (List.forall_mem_nil _)⟩)⟩) (by decide) (by decide)
  have e : w.toNat / 2 ^ 24 % 128 = 67 := by omega
  simp only [pattern, e, Nat.reduceDiv, Nat.reduceMod, pattern4, m1, m2, m3, m4, m5, if_true, Bool.false_eq_true, if_false, f0, f1, f2, f3, f4]

theorem fsin (x0 : BitVec 1) (x1 : BitVec 3) (x2 : BitVec 7) (x3 : BitVec 7) (x4 : BitVec 3) : Statement (.fsin x0 x1 x2 x3 x4) := by
  intro hw w h
  obtain ⟨r0, r1, f0, f1, f2, f3, f4⟩ := shape23 (v0 := 5) (v1 := 67) (by decide) (by decide) x0 x1 x2 x3 x4 (w := w) h
  have m1 : hits w 0x7F000078 0x43000000 = false := hits_not 3 1 (by omega) (by decide)
  have m2 : hits w 0x7F000078 0x43000008 = false := hits_not 5 1 (by omega) (by decide)
  have m3 : hits w 0x7F000078 0x43000010 = false := hits_not 3 1 (by omega) (by decide)
  have m4 : hits w 0x7F000078 0x43000018 = false := hits_not 4 1 (by omega) (by decide)
  have m5 : hits w 0x7F000078 0x43000020 = false := hits_not 3 1 (by omega) (by decide)
  have m6 : hits w 0x7F000078 0x43000028 = true := hits_runs [(3, 4, 5), (24, 7, 67)] (List.forall_mem_cons.2 ⟨r0, (List.forall_mem_cons.2 ⟨r1, (List.forall_mem_nil _)⟩)⟩) (by decide) (by decide)
  have e : w.toNat / 2 ^ 24 % 128 = 67 := by omega
  simp only [pattern, e, Nat.reduceDiv, Nat.reduceMod, pattern4, m1, m2, m3, m4, m5, m6, if_true, Bool.false_eq_true, if_false, f0, f1, f2, f3, f4]

theorem fcos (x0 : BitVec 1) (x1 : BitVec 3) (x2 : BitVec 7) (x3 : BitVec 7) (x4 : BitVec 3) : Statement (.fcos x0 x1 x2 x3 x4) := by
  intro hw w h
  obtain ⟨r0, r1, f0, f1, f2, f3, f4⟩ := shape23 (v0 := 6) (v1 := 67) (by decide) (by decide) x0 x1 x2 x3 x4 (w := w) h
  have m1 : hits w 0x7F000078 0x43000000 = false := hits_not 4 1 (by omega) (by decide)
  have m2 : hits w 0x7F000078 0x43000008 = false := hits_not 3 1 (by omega) (by decide)
  have m3 : hits w 0x7F000078 0x43000010 = false := hits_not 5 1 (by omega) (by decide)
  have m4 : hits w 0x7F000078 0x43000018 = false := hits_not 3 1 (by omega) (by decide)
  have m5 : hits w 0x7F000078 0x43000020 = false := hits_not 4 1 (by omega) (by decide)
  have m6 : hits w 0x7F000078 0x43000028 = false := hits_not 3 1 (by omega) (by decide)
  have m7 : hits w 0x7F000078 0x43000030 = true := hits_runs [(3, 4, 6), (24, 7, 67)] (List.forall_mem_cons.2 ⟨r0, (List.forall_mem_cons.2 ⟨r1, (List.forall_mem_nil _)⟩)⟩) (by decide) (by decide)
  have e : w.toNat / 2 ^ 24 % 128 = 67 := by omega
  simp only [pattern, e, Nat.reduceDiv, Nat.reduceMod, pattern4, m1, m2, m3, m4, m5, m6, m7, if_true, Bool.false_eq_true, if_false, f0, f1, f2, f3, f4]

theorem fcls (x0 : BitVec 1) (x1 : BitVec 3) (x2 : BitVec 7) (x3 : BitVec 7) (x4 : BitVec 3) : Statement (.fcls x0 x1 x2 x3 x4) := by
  intro hw w h
  obtain ⟨r0, r1, f0, f1, f2, f3, f4⟩ := shape23 (v0 := 7) (v1 := 67) (by decide) (by decide) x0 x1 x2 x3 x4 (w := w) h
  have m1 : hits w 0x7F000078 0x43000000 = false := hits_not 3 1 (by omega) (by decide)
  have m2 : hits w 0x7F000078 0x43000008 = false := hits_not 4 1 (by omega) (by decide)
  have m3 : hits w 0x7F000078 0x43000010 = false := hits_not 3 1 (by omega) (by decide)
  have m4 : hits w 0x7F000078 0x43000018 = false := hits_not 5 1 (by omega) (by decide)
  have m5 : hits w 0x7F000078 0x43000020 = false := hits_not 3 1 (by omega) (by decide)
  have m6 : hits w 0x7F000078 0x43000028 = false := hits_not 4 1 (by omega) (by decide)
  have m7 : hits w 0x7F000078 0x43000030 = false := hits_not 3 1 (by omega) (by decide)
  have m8 : hits w 0x7F000078 0x43000038 = true := hits_runs [(3, 4, 7), (24, 7, 67)] (List.forall_mem_cons.2 ⟨r0, (List.forall_mem_cons.2 ⟨r1, (List.forall_mem_nil _)⟩)⟩) (by decide) (by decide)
  have e : w.toNat / 2 ^ 24 % 128 = 67 := by omega
  simp only [pattern, e, Nat.reduceDiv, Nat.reduceMod, pattern4, m1, m2, m3, m4, m5, m6, m7, m8, if_true, Bool.false_eq_true, if_false, f0, f1, f2, f3, f4]

theorem cvtS32F32 (x0 : BitVec 1) (x1 : BitVec 3) (x2 : BitVec 7) (x3 : BitVec 7) (x4 : BitVec 3) : Statement (.cvtS32F32 x0 x1 x2 x3 x4) := by
  intro hw w h
  obtain ⟨r0, r1, f0, f1, f2, f3, f4⟩ := shape24 (v0 := 0) (v1 := 68) (by decide) (by decide) x0 x1 x2 x3 x4 (w := w) h
  have m1 : hits w 0x7F00000F 0x44000000 = true := hits_runs [(0, 4, 0), (24, 7, 68)] (List.forall_mem_cons.2 ⟨r0, (List.forall_mem_cons.2 ⟨r1, (List.forall_mem_nil _)⟩)⟩) (by decide) (by decide)
  have e : w.toNat / 2 ^ 24 % 128 = 68 := by omega
  simp only [pattern, e, Nat.reduceDiv, Nat.reduceMod, pattern4, m1, if_true, f0, f1, f2, f3, f4]

theorem cvtN32F32 (x0 : BitVec 1) (x1 : BitVec 3) (x2 : BitVec 7) (x3 : BitVec 7) (x4 : BitVec 3) : Statement (.cvtN32F32 x0 x1 x2 x3 x4) := by
  intro hw w h
  obtain ⟨r0, r1, f0, f1, f2, f3, f4⟩ := shape24 (v0 := 1) (v1 := 68) (by decide) (by decide) x0 x1 x2 x3 x4 (w := w) h
  have m1 : hits w 0x7F00000F 0x44000000 = false := hits_not 0 1 (by omega) (by decide)
  have m2 : hits w 0x7F00000F 0x44000001 = true := hits_runs [(0, 4, 1), (24, 7, 68)] (List.forall_mem_cons.2 ⟨r0, (List.forall_mem_cons.2 ⟨r1, (List.forall_mem_nil _)⟩)⟩) (by decide) (by decide)
  have e : w.toNat / 2 ^ 24 % 128 = 68 := by omega
  simp only [pattern, e, Nat.reduceDiv, Nat.reduceMod, pattern4, m1, m2, if_true, Bool.false_eq_true, if_false, f0, f1, f2, f3, f4]

theorem cvtF32S32 (x0 : BitVec 1) (x1 : BitVec 3) (x2 : BitVec 7) (x3 : BitVec 7) (x4 : BitVec 3) : Statement (.cvtF32S32 x0 x1 x2 x3 x4) := by
  intro hw w h
  obtain ⟨r0, r1, f0, f1, f2, f3, f4⟩ := shape24 (v0 := 2) (v1 := 68) (by decide) (by decide) x0 x1 x2 x3 x4 (w := w) h
  have m1 : hits w 0x7F00000F 0x44000000 = false := hits_not 1 1 (by omega) (by decide)
  have m2 : hits w 0x7F00000F 0x44000001 = false := hits_not 0 1 (by omega) (by decide)
  have m3 : hits w 0x7F00000F 0x44000002 = true := hits_runs [(0, 4, 2), (24, 7, 68)] (List.forall_mem_cons.2 ⟨r0, (List.forall_mem_cons.2 ⟨r1, (List.forall_mem_nil _)⟩)⟩) (by decide) (by decide)
  have e : w.toNat / 2 ^ 24 % 128 = 68 := by omega
  simp only [pattern, e, Nat.reduceDiv, Nat.reduceMod, pattern4, m1, m2, m3, if_true, Bool.false_eq_true, if_false, f0, f1, f2, f3, f4]

theorem cvtF32N32 (x0 : BitVec 1) (x1 : BitVec 3) (x2 : BitVec 7) (x3 : BitVec 7) (x4 : BitVec 3) : Statement (.cvtF32N32 x0 x1 x2 x3 x4) := by
  intro hw w h
  obtain ⟨r0, r1, f0, f1, f2, f3, f4⟩ := shape24 (v0 := 3) (v1 := 68) (by decide) (by decide) x0 x1 x2 x3 x4 (w := w) h
  have m1 : hits w 0x7F00000F 0x44000000 = false := hits_not 0 1 (by omega) (by decide)
  have m2 : hits w 0x7F00000F 0x44000001 = false := hits_not 1 1 (by omega) (by decide)
  have m3 : hits w 0x7F00000F 0x44000002 = false := hits_not 0 1 (by omega) (by decide)
  have m4 : hits w 0x7F00000F 0x44000003 = true := hits_runs [(0, 4, 3), (24, 7, 68)] (List.forall_mem_cons.2 ⟨r0, (List.forall_mem_cons.2 ⟨r1, (List.forall_mem_nil _)⟩)⟩) (by decide) (by decide)
  have e : w.toNat / 2 ^ 24 % 128 = 68 := by omega
  simp only [pattern, e, Nat.reduceDiv, Nat.reduceMod, pattern4, m1, m2, m3, m4, if_true, Bool.false_eq_true, if_false, f0, f1, f2, f3, f4]

theorem cvti (x0 : BitVec 1) (x1 : BitVec 3) (x2 : BitVec 7) (x3 : BitVec 7) (x4 : BitVec 3) : Statement (.cvti x0 x1 x2 x3 x4) := by
  intro hw w h
  obtain ⟨r0, r1, f0, f1, f2, f3, f4⟩ := shape24 (v0 := 4) (v1 := 68) (by decide) (by decide) x0 x1 x2 x3 x4 (w := w) h
  have m1 : hits w 0x7F00000F 0x44000000 = false := hits_not 2 1 (by omega) (by decide)
  have m2 : hits w 0x7F00000F 0x44000001 = false := hits_not 0 1 (by omega) (by decide)
  have m3 : hits w 0x7F00000F 0x44000002 = false := hits_not 1 1 (by omega) (by decide)
  have m4 : hits w 0x7F00000F 0x44000003 = false := hits_not 0 1 (by omega) (by decide)
  have m5 : hits w 0x7F00000F 0x44000004 = true := hits_runs [(0, 4, 4), (24, 7, 68)] (List.forall_mem_cons.2 ⟨r0, (List.forall_mem_cons.2 ⟨r1, (List.forall_mem_nil _)⟩)⟩) (by decide) (by decide)
  have e : w.toNat / 2 ^ 24 % 128 = 68 := by omega
  simp only [pattern, e, Nat.reduceDiv, Nat.reduceMod, pattern4, m1, m2, m3, m4, m5, if_true, Bool.false_eq_true, if_false, f0, f1, f2, f3, f4]

theorem pack (x0 : BitVec 1) (x1 : BitVec 3) (x2 : BitVec 7) (x3 : BitVec 7) (x4 : BitVec 7) : Statement (.pack x0 x1 x2 x3 x4) := by
  intro hw w h
  obtain ⟨r0, f0, f1, f2, f3, f4⟩ := shape7 (v0 := 69) (by decide) x0 x1 x2 x3 x4 (w := w) h
  have m1 : hits w 0x7F000000 0x45000000 = true := hits_runs [(24, 7, 69)] (List.forall_mem_cons.2 ⟨r0, (List.forall_mem_nil _)⟩) (by decide) (by decide)
  have e : w.toNat / 2 ^ 24 % 128 = 69 := by omega
  simp only [pattern, e, Nat.reduceDiv, Nat.reduceMod, pattern4, m1, if_true, f0, f1, f2, f3, f4]

theorem unpk (x0 : BitVec 1) (x1 : BitVec 3) (x2 : BitVec 7) (x3 : BitVec 7) (x4 : BitVec 7) : Statement (.unpk x0 x1 x2 x3 x4) := by
  intro hw w h
  obtain ⟨r0, f0, f1, f2, f3, f4⟩ := shape7 (v0 := 70) (by decide) x0 x1 x2 x3 x4 (w := w) h
  have m1 : hits w 0x7F000000 0x46000000 = true := hits_runs [(24, 7, 70)] (List.forall_mem_cons.2 ⟨r0, (List.forall_mem_nil _)⟩) (by decide) (by decide)
  have e : w.toNat / 2 ^ 24 % 128 = 70 := by omega
  simp only [pattern, e, Nat.reduceDiv, Nat.reduceMod, pattern4, m1, if_true, f0, f1, f2, f3, f4]

theorem shfl (x0 : BitVec 1) (x1 : BitVec 3) (x2 : BitVec 7) (x3 : BitVec 7) (x4 : BitVec 4) (x5 : BitVec 3) : Statement (.shfl x0 x1 x2 x3 x4 x5) := by
  intro hw w h
  obtain ⟨r0, f0, f1, f2, f3, f4, f5⟩ := shape25 (v0 := 71) (by decide) x0 x1 x2 x3 x4 x5 (w := w) h
  have m1 : hits w 0x7F000000 0x47000000 = true := hits_runs [(24, 7, 71)] (List.forall_mem_cons.2 ⟨r0, (List.forall_mem_nil _)⟩) (by decide) (by decide)
  have e : w.toNat / 2 ^ 24 % 128 = 71 := by omega
  simp only [pattern, e, Nat.reduceDiv, Nat.reduceMod, pattern4, m1, if_true, f0, f1, f2, f3, f4, f5]

theorem vote (x0 : BitVec 1) (x1 : BitVec 3) (x2 : BitVec 7) (x3 : BitVec 7) (x4 : BitVec 4) (x5 : BitVec 3) : Statement (.vote x0 x1 x2 x3 x4 x5) := by
  intro hw w h
  obtain ⟨r0, f0, f1, f2, f3, f4, f5⟩ := shape25 (v0 := 72) (by decide) x0 x1 x2 x3 x4 x5 (w := w) h
  have m1 : hits w 0x7F000000 0x48000000 = true := hits_runs [(24, 7, 72)] (List.forall_mem_cons.2 ⟨r0, (List.forall_mem_nil _)⟩) (by decide) (by decide)
  have e : w.toNat / 2 ^ 24 % 128 = 72 := by omega
  simp only [pattern, e, Nat.reduceDiv, Nat.reduceMod, pattern4, m1, if_true, f0, f1, f2, f3, f4, f5]

theorem redx (x0 : BitVec 1) (x1 : BitVec 3) (x2 : BitVec 7) (x3 : BitVec 7) (x4 : BitVec 4) (x5 : BitVec 3) : Statement (.redx x0 x1 x2 x3 x4 x5) := by
  intro hw w h
  obtain ⟨r0, f0, f1, f2, f3, f4, f5⟩ := shape25 (v0 := 73) (by decide) x0 x1 x2 x3 x4 x5 (w := w) h
  have m1 : hits w 0x7F000000 0x49000000 = true := hits_runs [(24, 7, 73)] (List.forall_mem_cons.2 ⟨r0, (List.forall_mem_nil _)⟩) (by decide) (by decide)
  have e : w.toNat / 2 ^ 24 % 128 = 73 := by omega
  simp only [pattern, e, Nat.reduceDiv, Nat.reduceMod, pattern4, m1, if_true, f0, f1, f2, f3, f4, f5]

theorem scan (x0 : BitVec 1) (x1 : BitVec 3) (x2 : BitVec 7) (x3 : BitVec 7) (x4 : BitVec 4) (x5 : BitVec 3) : Statement (.scan x0 x1 x2 x3 x4 x5) := by
  intro hw w h
  obtain ⟨r0, f0, f1, f2, f3, f4, f5⟩ := shape25 (v0 := 74) (by decide) x0 x1 x2 x3 x4 x5 (w := w) h
  have m1 : hits w 0x7F000000 0x4A000000 = true := hits_runs [(24, 7, 74)] (List.forall_mem_cons.2 ⟨r0, (List.forall_mem_nil _)⟩) (by decide) (by decide)
  have e : w.toNat / 2 ^ 24 % 128 = 74 := by omega
  simp only [pattern, e, Nat.reduceDiv, Nat.reduceMod, pattern4, m1, if_true, f0, f1, f2, f3, f4, f5]

theorem matchW (x0 : BitVec 1) (x1 : BitVec 3) (x2 : BitVec 7) (x3 : BitVec 7) (x4 : BitVec 3) : Statement (.matchW x0 x1 x2 x3 x4) := by
  intro hw w h
  obtain ⟨r0, r1, f0, f1, f2, f3, f4⟩ := shape23 (v0 := 0) (v1 := 75) (by decide) (by decide) x0 x1 x2 x3 x4 (w := w) h
  have m1 : hits w 0x7F000078 0x4B000000 = true := hits_runs [(3, 4, 0), (24, 7, 75)] (List.forall_mem_cons.2 ⟨r0, (List.forall_mem_cons.2 ⟨r1, (List.forall_mem_nil _)⟩)⟩) (by decide) (by decide)
  have e : w.toNat / 2 ^ 24 % 128 = 75 := by omega
  simp only [pattern, e, Nat.reduceDiv, Nat.reduceMod, pattern4, m1, if_true, f0, f1, f2, f3, f4]

theorem matchF (x0 : BitVec 1) (x1 : BitVec 3) (x2 : BitVec 7) (x3 : BitVec 7) (x4 : BitVec 3) : Statement (.matchF x0 x1 x2 x3 x4) := by
  intro hw w h
  obtain ⟨r0, r1, f0, f1, f2, f3, f4⟩ := shape23 (v0 := 1) (v1 := 75) (by decide) (by decide) x0 x1 x2 x3 x4 (w := w) h
  have m1 : hits w 0x7F000078 0x4B000000 = false := hits_not 3 1 (by omega) (by decide)
  have m2 : hits w 0x7F000078 0x4B000008 = true := hits_runs [(3, 4, 1), (24, 7, 75)] (List.forall_mem_cons.2 ⟨r0, (List.forall_mem_cons.2 ⟨r1, (List.forall_mem_nil _)⟩)⟩) (by decide) (by decide)
  have e : w.toNat / 2 ^ 24 % 128 = 75 := by omega
  simp only [pattern, e, Nat.reduceDiv, Nat.reduceMod, pattern4, m1, m2, if_true, Bool.false_eq_true, if_false, f0, f1, f2, f3, f4]

theorem qual (x0 : BitVec 3) (x1 : BitVec 3) (x2 : BitVec 3) (x3 : BitVec 3) : Statement (.qual x0 x1 x2 x3) := by
  intro hw w h
  obtain ⟨r0, f0, f1, f2, f3⟩ := shape26 (v0 := 311296) (by decide) x0 x1 x2 x3 (w := w) h
  have m1 : hits w 0xFFFFF000 0x4C000000 = true := hits_runs [(12, 20, 311296)] (List.forall_mem_cons.2 ⟨r0, (List.forall_mem_nil _)⟩) (by decide) (by decide)
  have e : w.toNat / 2 ^ 24 % 128 = 76 := by omega
  simp only [pattern, e, Nat.reduceDiv, Nat.reduceMod, pattern4, m1, if_true, f0, f1, f2, f3]

theorem trd (x0 : BitVec 1) (x1 : BitVec 3) (x2 : BitVec 7) (x3 : BitVec 7) (x4 : BitVec 4) (x5 : BitVec 3) : Statement (.trd x0 x1 x2 x3 x4 x5) := by
  intro hw w h
  obtain ⟨r0, f0, f1, f2, f3, f4, f5⟩ := shape25 (v0 := 77) (by decide) x0 x1 x2 x3 x4 x5 (w := w) h
  have m1 : hits w 0x7F000000 0x4D000000 = true := hits_runs [(24, 7, 77)] (List.forall_mem_cons.2 ⟨r0, (List.forall_mem_nil _)⟩) (by decide) (by decide)
  have e : w.toNat / 2 ^ 24 % 128 = 77 := by omega
  simp only [pattern, e, Nat.reduceDiv, Nat.reduceMod, pattern4, m1, if_true, f0, f1, f2, f3, f4, f5]

theorem thrd (x0 : BitVec 1) (x1 : BitVec 3) (x2 : BitVec 7) (x3 : BitVec 7) (x4 : BitVec 4) : Statement (.thrd x0 x1 x2 x3 x4) := by
  intro hw w h
  obtain ⟨r0, r1, f0, f1, f2, f3, f4⟩ := shape27 (v0 := 0) (v1 := 78) (by decide) (by decide) x0 x1 x2 x3 x4 (w := w) h
  have m1 : hits w 0x7F000070 0x4E000000 = true := hits_runs [(4, 3, 0), (24, 7, 78)] (List.forall_mem_cons.2 ⟨r0, (List.forall_mem_cons.2 ⟨r1, (List.forall_mem_nil _)⟩)⟩) (by decide) (by decide)
  have e : w.toNat / 2 ^ 24 % 128 = 78 := by omega
  simp only [pattern, e, Nat.reduceDiv, Nat.reduceMod, pattern4, m1, if_true, f0, f1, f2, f3, f4]

theorem thwr (x0 : BitVec 1) (x1 : BitVec 3) (x2 : BitVec 7) (x3 : BitVec 7) (x4 : BitVec 4) : Statement (.thwr x0 x1 x2 x3 x4) := by
  intro hw w h
  obtain ⟨r0, r1, f0, f1, f2, f3, f4⟩ := shape27 (v0 := 1) (v1 := 78) (by decide) (by decide) x0 x1 x2 x3 x4 (w := w) h
  have m1 : hits w 0x7F000070 0x4E000000 = false := hits_not 4 1 (by omega) (by decide)
  have m2 : hits w 0x7F000070 0x4E000010 = true := hits_runs [(4, 3, 1), (24, 7, 78)] (List.forall_mem_cons.2 ⟨r0, (List.forall_mem_cons.2 ⟨r1, (List.forall_mem_nil _)⟩)⟩) (by decide) (by decide)
  have e : w.toNat / 2 ^ 24 % 128 = 78 := by omega
  simp only [pattern, e, Nat.reduceDiv, Nat.reduceMod, pattern4, m1, m2, if_true, Bool.false_eq_true, if_false, f0, f1, f2, f3, f4]

theorem scrd (x0 : BitVec 1) (x1 : BitVec 3) (x2 : BitVec 7) (x3 : BitVec 3) : Statement (.scrd x0 x1 x2 x3) := by
  intro hw w h
  obtain ⟨r0, r1, f0, f1, f2, f3⟩ := shape28 (v0 := 4) (v1 := 78) (by decide) (by decide) x0 x1 x2 x3 (w := w) h
  have m1 : hits w 0x7F000070 0x4E000000 = false := hits_not 5 1 (by omega) (by decide)
  have m2 : hits w 0x7F000070 0x4E000010 = false := hits_not 4 1 (by omega) (by decide)
  have m3 : hits w 0x7F003FF8 0x4E000020 = true := hits_runs [(3, 11, 4), (24, 7, 78)] (List.forall_mem_cons.2 ⟨r0, (List.forall_mem_cons.2 ⟨r1, (List.forall_mem_nil _)⟩)⟩) (by decide) (by decide)
  have e : w.toNat / 2 ^ 24 % 128 = 78 := by omega
  simp only [pattern, e, Nat.reduceDiv, Nat.reduceMod, pattern4, m1, m2, m3, if_true, Bool.false_eq_true, if_false, f0, f1, f2, f3]

theorem scwr (x0 : BitVec 1) (x1 : BitVec 3) (x2 : BitVec 7) (x3 : BitVec 3) : Statement (.scwr x0 x1 x2 x3) := by
  intro hw w h
  obtain ⟨r0, r1, f0, f1, f2, f3⟩ := shape28 (v0 := 6) (v1 := 78) (by decide) (by decide) x0 x1 x2 x3 (w := w) h
  have m1 : hits w 0x7F000070 0x4E000000 = false := hits_not 4 1 (by omega) (by decide)
  have m2 : hits w 0x7F000070 0x4E000010 = false := hits_not 5 1 (by omega) (by decide)
  have m3 : hits w 0x7F003FF8 0x4E000020 = false := hits_not 4 1 (by omega) (by decide)
  have m4 : hits w 0x7F003FF8 0x4E000030 = true := hits_runs [(3, 11, 6), (24, 7, 78)] (List.forall_mem_cons.2 ⟨r0, (List.forall_mem_cons.2 ⟨r1, (List.forall_mem_nil _)⟩)⟩) (by decide) (by decide)
  have e : w.toNat / 2 ^ 24 % 128 = 78 := by omega
  simp only [pattern, e, Nat.reduceDiv, Nat.reduceMod, pattern4, m1, m2, m3, m4, if_true, Bool.false_eq_true, if_false, f0, f1, f2, f3]

theorem talloc (x0 : BitVec 1) (x1 : BitVec 4) : Statement (.talloc x0 x1) := by
  intro hw w h
  obtain ⟨r0, f0, f1⟩ := shape29 (v0 := 81788932) (by decide) x0 x1 (w := w) h
  have m1 : hits w 0x7F000070 0x4E000000 = false := hits_not 6 1 (by omega) (by decide)
  have m2 : hits w 0x7F000070 0x4E000010 = false := hits_not 4 1 (by omega) (by decide)
  have m3 : hits w 0x7F003FF8 0x4E000020 = false := hits_not 5 1 (by omega) (by decide)
  have m4 : hits w 0x7F003FF8 0x4E000030 = false := hits_not 4 1 (by omega) (by decide)
  have m5 : hits w 0x7FFFFFF0 0x4E000040 = true := hits_runs [(4, 27, 81788932)] (List.forall_mem_cons.2 ⟨r0, (List.forall_mem_nil _)⟩) (by decide) (by decide)
  have e : w.toNat / 2 ^ 24 % 128 = 78 := by omega
  simp only [pattern, e, Nat.reduceDiv, Nat.reduceMod, pattern4, m1, m2, m3, m4, m5, if_true, Bool.false_eq_true, if_false, f0, f1]

theorem tfree (x0 : BitVec 1) (x1 : BitVec 3) (x2 : BitVec 4) : Statement (.tfree x0 x1 x2) := by
  intro hw w h
  obtain ⟨r0, r1, f0, f1, f2⟩ := shape30 (v0 := 5) (v1 := 78) (by decide) (by decide) x0 x1 x2 (w := w) h
  have m1 : hits w 0x7F000070 0x4E000000 = false := hits_not 4 1 (by omega) (by decide)
  have m2 : hits w 0x7F000070 0x4E000010 = false := hits_not 6 1 (by omega) (by decide)
  have m3 : hits w 0x7F003FF8 0x4E000020 = false := hits_not 4 1 (by omega) (by decide)
  have m4 : hits w 0x7F003FF8 0x4E000030 = false := hits_not 5 1 (by omega) (by decide)
  have m5 : hits w 0x7FFFFFF0 0x4E000040 = false := hits_not 4 1 (by omega) (by decide)
  have m6 : hits w 0x7F1FFFF0 0x4E000050 = true := hits_runs [(4, 17, 5), (24, 7, 78)] (List.forall_mem_cons.2 ⟨r0, (List.forall_mem_cons.2 ⟨r1, (List.forall_mem_nil _)⟩)⟩) (by decide) (by decide)
  have e : w.toNat / 2 ^ 24 % 128 = 78 := by omega
  simp only [pattern, e, Nat.reduceDiv, Nat.reduceMod, pattern4, m1, m2, m3, m4, m5, m6, if_true, Bool.false_eq_true, if_false, f0, f1, f2]

theorem twr (x0 : BitVec 1) (x1 : BitVec 3) (x2 : BitVec 7) (x3 : BitVec 7) (x4 : BitVec 4) : Statement (.twr x0 x1 x2 x3 x4) := by
  intro hw w h
  obtain ⟨r0, r1, f0, f1, f2, f3, f4⟩ := shape27 (v0 := 6) (v1 := 78) (by decide) (by decide) x0 x1 x2 x3 x4 (w := w) h
  have m1 : hits w 0x7F000070 0x4E000000 = false := hits_not 5 1 (by omega) (by decide)
  have m2 : hits w 0x7F000070 0x4E000010 = false := hits_not 4 1 (by omega) (by decide)
  have m3 : hits w 0x7F003FF8 0x4E000020 = false := hits_not 6 1 (by omega) (by decide)
  have m4 : hits w 0x7F003FF8 0x4E000030 = false := hits_not 4 1 (by omega) (by decide)
  have m5 : hits w 0x7FFFFFF0 0x4E000040 = false := hits_not 5 1 (by omega) (by decide)
  have m6 : hits w 0x7F1FFFF0 0x4E000050 = false := hits_not 4 1 (by omega) (by decide)
  have m7 : hits w 0x7F000070 0x4E000060 = true := hits_runs [(4, 3, 6), (24, 7, 78)] (List.forall_mem_cons.2 ⟨r0, (List.forall_mem_cons.2 ⟨r1, (List.forall_mem_nil _)⟩)⟩) (by decide) (by decide)
  have e : w.toNat / 2 ^ 24 % 128 = 78 := by omega
  simp only [pattern, e, Nat.reduceDiv, Nat.reduceMod, pattern4, m1, m2, m3, m4, m5, m6, m7, if_true, Bool.false_eq_true, if_false, f0, f1, f2, f3, f4]

theorem tq (x0 : BitVec 1) (x1 : BitVec 3) (x2 : BitVec 7) (x3 : BitVec 3) (x4 : BitVec 3) : Statement (.tq x0 x1 x2 x3 x4) := by
  intro hw w h
  obtain ⟨r0, r1, r2, f0, f1, f2, f3, f4⟩ := shape31 (v0 := 0) (v1 := 0) (v2 := 79) (by decide) (by decide) (by decide) x0 x1 x2 x3 x4 (w := w) h
  have m1 : hits w 0x7F003F81 0x4F000000 = true := hits_runs [(0, 1, 0), (7, 7, 0), (24, 7, 79)] (List.forall_mem_cons.2 ⟨r0, (List.forall_mem_cons.2 ⟨r1, (List.forall_mem_cons.2 ⟨r2, (List.forall_mem_nil _)⟩)⟩)⟩) (by decide) (by decide)
  have e : w.toNat / 2 ^ 24 % 128 = 79 := by omega
  simp only [pattern, e, Nat.reduceDiv, Nat.reduceMod, pattern4, m1, if_true, f0, f1, f2, f3, f4]

theorem paddB4 (x0 : BitVec 1) (x1 : BitVec 3) (x2 : BitVec 7) (x3 : BitVec 7) (x4 : BitVec 7) : Statement (.paddB4 x0 x1 x2 x3 x4) := by
  intro hw w h
  obtain ⟨r0, f0, f1, f2, f3, f4⟩ := shape7 (v0 := 80) (by decide) x0 x1 x2 x3 x4 (w := w) h
  have m1 : hits w 0x7F000000 0x50000000 = true := hits_runs [(24, 7, 80)] (List.forall_mem_cons.2 ⟨r0, (List.forall_mem_nil _)⟩) (by decide) (by decide)
  have e : w.toNat / 2 ^ 24 % 128 = 80 := by omega
  simp only [pattern, e, Nat.reduceDiv, Nat.reduceMod, pattern5, m1, if_true, f0, f1, f2, f3, f4]

theorem psubB4 (x0 : BitVec 1) (x1 : BitVec 3) (x2 : BitVec 7) (x3 : BitVec 7) (x4 : BitVec 7) : Statement (.psubB4 x0 x1 x2 x3 x4) := by
  intro hw w h
  obtain ⟨r0, f0, f1, f2, f3, f4⟩ := shape7 (v0 := 81) (by decide) x0 x1 x2 x3 x4 (w := w) h
  have m1 : hits w 0x7F000000 0x51000000 = true := hits_runs [(24, 7, 81)] (List.forall_mem_cons.2 ⟨r0, (List.forall_mem_nil _)⟩) (by decide) (by decide)
  have e : w.toNat / 2 ^ 24 % 128 = 81 := by omega
  simp only [pattern, e, Nat.reduceDiv, Nat.reduceMod, pattern5, m1, if_true, f0, f1, f2, f3, f4]

theorem pmulB4 (x0 : BitVec 1) (x1 : BitVec 3) (x2 : BitVec 7) (x3 : BitVec 7) (x4 : BitVec 7) : Statement (.pmulB4 x0 x1 x2 x3 x4) := by
  intro hw w h
  obtain ⟨r0, f0, f1, f2, f3, f4⟩ := shape7 (v0 := 82) (by decide) x0 x1 x2 x3 x4 (w := w) h
  have m1 : hits w 0x7F000000 0x52000000 = true := hits_runs [(24, 7, 82)] (List.forall_mem_cons.2 ⟨r0, (List.forall_mem_nil _)⟩) (by decide) (by decide)
  have e : w.toNat / 2 ^ 24 % 128 = 82 := by omega
  simp only [pattern, e, Nat.reduceDiv, Nat.reduceMod, pattern5, m1, if_true, f0, f1, f2, f3, f4]

theorem pminB4 (x0 : BitVec 1) (x1 : BitVec 3) (x2 : BitVec 7) (x3 : BitVec 7) (x4 : BitVec 7) : Statement (.pminB4 x0 x1 x2 x3 x4) := by
  intro hw w h
  obtain ⟨r0, f0, f1, f2, f3, f4⟩ := shape7 (v0 := 83) (by decide) x0 x1 x2 x3 x4 (w := w) h
  have m1 : hits w 0x7F000000 0x53000000 = true := hits_runs [(24, 7, 83)] (List.forall_mem_cons.2 ⟨r0, (List.forall_mem_nil _)⟩) (by decide) (by decide)
  have e : w.toNat / 2 ^ 24 % 128 = 83 := by omega
  simp only [pattern, e, Nat.reduceDiv, Nat.reduceMod, pattern5, m1, if_true, f0, f1, f2, f3, f4]

theorem pmaxB4 (x0 : BitVec 1) (x1 : BitVec 3) (x2 : BitVec 7) (x3 : BitVec 7) (x4 : BitVec 7) : Statement (.pmaxB4 x0 x1 x2 x3 x4) := by
  intro hw w h
  obtain ⟨r0, f0, f1, f2, f3, f4⟩ := shape7 (v0 := 84) (by decide) x0 x1 x2 x3 x4 (w := w) h
  have m1 : hits w 0x7F000000 0x54000000 = true := hits_runs [(24, 7, 84)] (List.forall_mem_cons.2 ⟨r0, (List.forall_mem_nil _)⟩) (by decide) (by decide)
  have e : w.toNat / 2 ^ 24 % 128 = 84 := by omega
  simp only [pattern, e, Nat.reduceDiv, Nat.reduceMod, pattern5, m1, if_true, f0, f1, f2, f3, f4]

theorem pshlB4 (x0 : BitVec 1) (x1 : BitVec 3) (x2 : BitVec 7) (x3 : BitVec 7) (x4 : BitVec 7) : Statement (.pshlB4 x0 x1 x2 x3 x4) := by
  intro hw w h
  obtain ⟨r0, f0, f1, f2, f3, f4⟩ := shape7 (v0 := 85) (by decide) x0 x1 x2 x3 x4 (w := w) h
  have m1 : hits w 0x7F000000 0x55000000 = true := hits_runs [(24, 7, 85)] (List.forall_mem_cons.2 ⟨r0, (List.forall_mem_nil _)⟩) (by decide) (by decide)
  have e : w.toNat / 2 ^ 24 % 128 = 85 := by omega
  simp only [pattern, e, Nat.reduceDiv, Nat.reduceMod, pattern5, m1, if_true, f0, f1, f2, f3, f4]

theorem pshrB4 (x0 : BitVec 1) (x1 : BitVec 3) (x2 : BitVec 7) (x3 : BitVec 7) (x4 : BitVec 7) : Statement (.pshrB4 x0 x1 x2 x3 x4) := by
  intro hw w h
  obtain ⟨r0, f0, f1, f2, f3, f4⟩ := shape7 (v0 := 86) (by decide) x0 x1 x2 x3 x4 (w := w) h
  have m1 : hits w 0x7F000000 0x56000000 = true := hits_runs [(24, 7, 86)] (List.forall_mem_cons.2 ⟨r0, (List.forall_mem_nil _)⟩) (by decide) (by decide)
  have e : w.toNat / 2 ^ 24 % 128 = 86 := by omega
  simp only [pattern, e, Nat.reduceDiv, Nat.reduceMod, pattern5, m1, if_true, f0, f1, f2, f3, f4]

theorem psarB4 (x0 : BitVec 1) (x1 : BitVec 3) (x2 : BitVec 7) (x3 : BitVec 7) (x4 : BitVec 7) : Statement (.psarB4 x0 x1 x2 x3 x4) := by
  intro hw w h
  obtain ⟨r0, f0, f1, f2, f3, f4⟩ := shape7 (v0 := 87) (by decide) x0 x1 x2 x3 x4 (w := w) h
  have m1 : hits w 0x7F000000 0x57000000 = true := hits_runs [(24, 7, 87)] (List.forall_mem_cons.2 ⟨r0, (List.forall_mem_nil _)⟩) (by decide) (by decide)
  have e : w.toNat / 2 ^ 24 % 128 = 87 := by omega
  simp only [pattern, e, Nat.reduceDiv, Nat.reduceMod, pattern5, m1, if_true, f0, f1, f2, f3, f4]

theorem paddH2 (x0 : BitVec 1) (x1 : BitVec 3) (x2 : BitVec 7) (x3 : BitVec 7) (x4 : BitVec 7) : Statement (.paddH2 x0 x1 x2 x3 x4) := by
  intro hw w h
  obtain ⟨r0, f0, f1, f2, f3, f4⟩ := shape7 (v0 := 88) (by decide) x0 x1 x2 x3 x4 (w := w) h
  have m1 : hits w 0x7F000000 0x58000000 = true := hits_runs [(24, 7, 88)] (List.forall_mem_cons.2 ⟨r0, (List.forall_mem_nil _)⟩) (by decide) (by decide)
  have e : w.toNat / 2 ^ 24 % 128 = 88 := by omega
  simp only [pattern, e, Nat.reduceDiv, Nat.reduceMod, pattern5, m1, if_true, f0, f1, f2, f3, f4]

theorem psubH2 (x0 : BitVec 1) (x1 : BitVec 3) (x2 : BitVec 7) (x3 : BitVec 7) (x4 : BitVec 7) : Statement (.psubH2 x0 x1 x2 x3 x4) := by
  intro hw w h
  obtain ⟨r0, f0, f1, f2, f3, f4⟩ := shape7 (v0 := 89) (by decide) x0 x1 x2 x3 x4 (w := w) h
  have m1 : hits w 0x7F000000 0x59000000 = true := hits_runs [(24, 7, 89)] (List.forall_mem_cons.2 ⟨r0, (List.forall_mem_nil _)⟩) (by decide) (by decide)
  have e : w.toNat / 2 ^ 24 % 128 = 89 := by omega
  simp only [pattern, e, Nat.reduceDiv, Nat.reduceMod, pattern5, m1, if_true, f0, f1, f2, f3, f4]

theorem pmulH2 (x0 : BitVec 1) (x1 : BitVec 3) (x2 : BitVec 7) (x3 : BitVec 7) (x4 : BitVec 7) : Statement (.pmulH2 x0 x1 x2 x3 x4) := by
  intro hw w h
  obtain ⟨r0, f0, f1, f2, f3, f4⟩ := shape7 (v0 := 90) (by decide) x0 x1 x2 x3 x4 (w := w) h
  have m1 : hits w 0x7F000000 0x5A000000 = true := hits_runs [(24, 7, 90)] (List.forall_mem_cons.2 ⟨r0, (List.forall_mem_nil _)⟩) (by decide) (by decide)
  have e : w.toNat / 2 ^ 24 % 128 = 90 := by omega
  simp only [pattern, e, Nat.reduceDiv, Nat.reduceMod, pattern5, m1, if_true, f0, f1, f2, f3, f4]

theorem pminH2 (x0 : BitVec 1) (x1 : BitVec 3) (x2 : BitVec 7) (x3 : BitVec 7) (x4 : BitVec 7) : Statement (.pminH2 x0 x1 x2 x3 x4) := by
  intro hw w h
  obtain ⟨r0, f0, f1, f2, f3, f4⟩ := shape7 (v0 := 91) (by decide) x0 x1 x2 x3 x4 (w := w) h
  have m1 : hits w 0x7F000000 0x5B000000 = true := hits_runs [(24, 7, 91)] (List.forall_mem_cons.2 ⟨r0, (List.forall_mem_nil _)⟩) (by decide) (by decide)
  have e : w.toNat / 2 ^ 24 % 128 = 91 := by omega
  simp only [pattern, e, Nat.reduceDiv, Nat.reduceMod, pattern5, m1, if_true, f0, f1, f2, f3, f4]

theorem pmaxH2 (x0 : BitVec 1) (x1 : BitVec 3) (x2 : BitVec 7) (x3 : BitVec 7) (x4 : BitVec 7) : Statement (.pmaxH2 x0 x1 x2 x3 x4) := by
  intro hw w h
  obtain ⟨r0, f0, f1, f2, f3, f4⟩ := shape7 (v0 := 92) (by decide) x0 x1 x2 x3 x4 (w := w) h
  have m1 : hits w 0x7F000000 0x5C000000 = true := hits_runs [(24, 7, 92)] (List.forall_mem_cons.2 ⟨r0, (List.forall_mem_nil _)⟩) (by decide) (by decide)
  have e : w.toNat / 2 ^ 24 % 128 = 92 := by omega
  simp only [pattern, e, Nat.reduceDiv, Nat.reduceMod, pattern5, m1, if_true, f0, f1, f2, f3, f4]

theorem pshlH2 (x0 : BitVec 1) (x1 : BitVec 3) (x2 : BitVec 7) (x3 : BitVec 7) (x4 : BitVec 7) : Statement (.pshlH2 x0 x1 x2 x3 x4) := by
  intro hw w h
  obtain ⟨r0, f0, f1, f2, f3, f4⟩ := shape7 (v0 := 93) (by decide) x0 x1 x2 x3 x4 (w := w) h
  have m1 : hits w 0x7F000000 0x5D000000 = true := hits_runs [(24, 7, 93)] (List.forall_mem_cons.2 ⟨r0, (List.forall_mem_nil _)⟩) (by decide) (by decide)
  have e : w.toNat / 2 ^ 24 % 128 = 93 := by omega
  simp only [pattern, e, Nat.reduceDiv, Nat.reduceMod, pattern5, m1, if_true, f0, f1, f2, f3, f4]

theorem pshrH2 (x0 : BitVec 1) (x1 : BitVec 3) (x2 : BitVec 7) (x3 : BitVec 7) (x4 : BitVec 7) : Statement (.pshrH2 x0 x1 x2 x3 x4) := by
  intro hw w h
  obtain ⟨r0, f0, f1, f2, f3, f4⟩ := shape7 (v0 := 94) (by decide) x0 x1 x2 x3 x4 (w := w) h
  have m1 : hits w 0x7F000000 0x5E000000 = true := hits_runs [(24, 7, 94)] (List.forall_mem_cons.2 ⟨r0, (List.forall_mem_nil _)⟩) (by decide) (by decide)
  have e : w.toNat / 2 ^ 24 % 128 = 94 := by omega
  simp only [pattern, e, Nat.reduceDiv, Nat.reduceMod, pattern5, m1, if_true, f0, f1, f2, f3, f4]

theorem psarH2 (x0 : BitVec 1) (x1 : BitVec 3) (x2 : BitVec 7) (x3 : BitVec 7) (x4 : BitVec 7) : Statement (.psarH2 x0 x1 x2 x3 x4) := by
  intro hw w h
  obtain ⟨r0, f0, f1, f2, f3, f4⟩ := shape7 (v0 := 95) (by decide) x0 x1 x2 x3 x4 (w := w) h
  have m1 : hits w 0x7F000000 0x5F000000 = true := hits_runs [(24, 7, 95)] (List.forall_mem_cons.2 ⟨r0, (List.forall_mem_nil _)⟩) (by decide) (by decide)
  have e : w.toNat / 2 ^ 24 % 128 = 95 := by omega
  simp only [pattern, e, Nat.reduceDiv, Nat.reduceMod, pattern5, m1, if_true, f0, f1, f2, f3, f4]

theorem ld8 (x0 : BitVec 1) (x1 : BitVec 3) (x2 : BitVec 7) (x3 : BitVec 7) (x4 : BitVec 4) (x5 : BitVec 3) : Statement (.ld8 x0 x1 x2 x3 x4 x5) := by
  intro hw w h
  obtain ⟨r0, f0, f1, f2, f3, f4, f5⟩ := shape25 (v0 := 96) (by decide) x0 x1 x2 x3 x4 x5 (w := w) h
  have m1 : hits w 0x7F000000 0x60000000 = true := hits_runs [(24, 7, 96)] (List.forall_mem_cons.2 ⟨r0, (List.forall_mem_nil _)⟩) (by decide) (by decide)
  have e : w.toNat / 2 ^ 24 % 128 = 96 := by omega
  simp only [pattern, e, Nat.reduceDiv, Nat.reduceMod, pattern6, m1, if_true, f0, f1, f2, f3, f4, f5]

theorem ld8s (x0 : BitVec 1) (x1 : BitVec 3) (x2 : BitVec 7) (x3 : BitVec 7) (x4 : BitVec 4) (x5 : BitVec 3) : Statement (.ld8s x0 x1 x2 x3 x4 x5) := by
  intro hw w h
  obtain ⟨r0, f0, f1, f2, f3, f4, f5⟩ := shape25 (v0 := 97) (by decide) x0 x1 x2 x3 x4 x5 (w := w) h
  have m1 : hits w 0x7F000000 0x61000000 = true := hits_runs [(24, 7, 97)] (List.forall_mem_cons.2 ⟨r0, (List.forall_mem_nil _)⟩) (by decide) (by decide)
  have e : w.toNat / 2 ^ 24 % 128 = 97 := by omega
  simp only [pattern, e, Nat.reduceDiv, Nat.reduceMod, pattern6, m1, if_true, f0, f1, f2, f3, f4, f5]

theorem ld16 (x0 : BitVec 1) (x1 : BitVec 3) (x2 : BitVec 7) (x3 : BitVec 7) (x4 : BitVec 4) (x5 : BitVec 3) : Statement (.ld16 x0 x1 x2 x3 x4 x5) := by
  intro hw w h
  obtain ⟨r0, f0, f1, f2, f3, f4, f5⟩ := shape25 (v0 := 98) (by decide) x0 x1 x2 x3 x4 x5 (w := w) h
  have m1 : hits w 0x7F000000 0x62000000 = true := hits_runs [(24, 7, 98)] (List.forall_mem_cons.2 ⟨r0, (List.forall_mem_nil _)⟩) (by decide) (by decide)
  have e : w.toNat / 2 ^ 24 % 128 = 98 := by omega
  simp only [pattern, e, Nat.reduceDiv, Nat.reduceMod, pattern6, m1, if_true, f0, f1, f2, f3, f4, f5]

theorem ld16s (x0 : BitVec 1) (x1 : BitVec 3) (x2 : BitVec 7) (x3 : BitVec 7) (x4 : BitVec 4) (x5 : BitVec 3) : Statement (.ld16s x0 x1 x2 x3 x4 x5) := by
  intro hw w h
  obtain ⟨r0, f0, f1, f2, f3, f4, f5⟩ := shape25 (v0 := 99) (by decide) x0 x1 x2 x3 x4 x5 (w := w) h
  have m1 : hits w 0x7F000000 0x63000000 = true := hits_runs [(24, 7, 99)] (List.forall_mem_cons.2 ⟨r0, (List.forall_mem_nil _)⟩) (by decide) (by decide)
  have e : w.toNat / 2 ^ 24 % 128 = 99 := by omega
  simp only [pattern, e, Nat.reduceDiv, Nat.reduceMod, pattern6, m1, if_true, f0, f1, f2, f3, f4, f5]

theorem ld32 (x0 : BitVec 1) (x1 : BitVec 3) (x2 : BitVec 7) (x3 : BitVec 7) (x4 : BitVec 4) (x5 : BitVec 3) : Statement (.ld32 x0 x1 x2 x3 x4 x5) := by
  intro hw w h
  obtain ⟨r0, f0, f1, f2, f3, f4, f5⟩ := shape25 (v0 := 100) (by decide) x0 x1 x2 x3 x4 x5 (w := w) h
  have m1 : hits w 0x7F000000 0x64000000 = true := hits_runs [(24, 7, 100)] (List.forall_mem_cons.2 ⟨r0, (List.forall_mem_nil _)⟩) (by decide) (by decide)
  have e : w.toNat / 2 ^ 24 % 128 = 100 := by omega
  simp only [pattern, e, Nat.reduceDiv, Nat.reduceMod, pattern6, m1, if_true, f0, f1, f2, f3, f4, f5]

theorem ld64 (x0 : BitVec 1) (x1 : BitVec 3) (x2 : BitVec 7) (x3 : BitVec 7) (x4 : BitVec 4) (x5 : BitVec 3) : Statement (.ld64 x0 x1 x2 x3 x4 x5) := by
  intro hw w h
  obtain ⟨r0, f0, f1, f2, f3, f4, f5⟩ := shape25 (v0 := 101) (by decide) x0 x1 x2 x3 x4 x5 (w := w) h
  have m1 : hits w 0x7F000000 0x65000000 = true := hits_runs [(24, 7, 101)] (List.forall_mem_cons.2 ⟨r0, (List.forall_mem_nil _)⟩) (by decide) (by decide)
  have e : w.toNat / 2 ^ 24 % 128 = 101 := by omega
  simp only [pattern, e, Nat.reduceDiv, Nat.reduceMod, pattern6, m1, if_true, f0, f1, f2, f3, f4, f5]

theorem ld128 (x0 : BitVec 1) (x1 : BitVec 3) (x2 : BitVec 7) (x3 : BitVec 7) (x4 : BitVec 4) (x5 : BitVec 3) : Statement (.ld128 x0 x1 x2 x3 x4 x5) := by
  intro hw w h
  obtain ⟨r0, f0, f1, f2, f3, f4, f5⟩ := shape25 (v0 := 102) (by decide) x0 x1 x2 x3 x4 x5 (w := w) h
  have m1 : hits w 0x7F000000 0x66000000 = true := hits_runs [(24, 7, 102)] (List.forall_mem_cons.2 ⟨r0, (List.forall_mem_nil _)⟩) (by decide) (by decide)
  have e : w.toNat / 2 ^ 24 % 128 = 102 := by omega
  simp only [pattern, e, Nat.reduceDiv, Nat.reduceMod, pattern6, m1, if_true, f0, f1, f2, f3, f4, f5]

theorem pref (x0 : BitVec 1) (x1 : BitVec 3) (x2 : BitVec 7) (x3 : BitVec 4) : Statement (.pref x0 x1 x2 x3) := by
  intro hw w h
  obtain ⟨r0, r1, r2, f0, f1, f2, f3⟩ := shape32 (v0 := 0) (v1 := 0) (v2 := 103) (by decide) (by decide) (by decide) x0 x1 x2 x3 (w := w) h
  have m1 : hits w 0x7F1FC007 0x67000000 = true := hits_runs [(0, 3, 0), (14, 7, 0), (24, 7, 103)] (List.forall_mem_cons.2 ⟨r0, (List.forall_mem_cons.2 ⟨r1, (List.forall_mem_cons.2 ⟨r2, (List.forall_mem_nil _)⟩)⟩)⟩) (by decide) (by decide)
  have e : w.toNat / 2 ^ 24 % 128 = 103 := by omega
  simp only [pattern, e, Nat.reduceDiv, Nat.reduceMod, pattern6, m1, if_true, f0, f1, f2, f3]

theorem prefL2 (x0 : BitVec 1) (x1 : BitVec 3) (x2 : BitVec 7) (x3 : BitVec 4) : Statement (.prefL2 x0 x1 x2 x3) := by
  intro hw w h
  obtain ⟨r0, r1, r2, f0, f1, f2, f3⟩ := shape32 (v0 := 0) (v1 := 1) (v2 := 103) (by decide) (by decide) (by decide) x0 x1 x2 x3 (w := w) h
  have m1 : hits w 0x7F1FC007 0x67000000 = false := hits_not 14 1 (by omega) (by decide)
  have m2 : hits w 0x7F1FC007 0x67004000 = true := hits_runs [(0, 3, 0), (14, 7, 1), (24, 7, 103)] (List.forall_mem_cons.2 ⟨r0, (List.forall_mem_cons.2 ⟨r1, (List.forall_mem_cons.2 ⟨r2, (List.forall_mem_nil _)⟩)⟩)⟩) (by decide) (by decide)
  have e : w.toNat / 2 ^ 24 % 128 = 103 := by omega
  simp only [pattern, e, Nat.reduceDiv, Nat.reduceMod, pattern6, m1, m2, if_true, Bool.false_eq_true, if_false, f0, f1, f2, f3]

theorem evct (x0 : BitVec 1) (x1 : BitVec 3) (x2 : BitVec 7) (x3 : BitVec 4) : Statement (.evct x0 x1 x2 x3) := by
  intro hw w h
  obtain ⟨r0, r1, r2, f0, f1, f2, f3⟩ := shape32 (v0 := 0) (v1 := 2) (v2 := 103) (by decide) (by decide) (by decide) x0 x1 x2 x3 (w := w) h
  have m1 : hits w 0x7F1FC007 0x67000000 = false := hits_not 15 1 (by omega) (by decide)
  have m2 : hits w 0x7F1FC007 0x67004000 = false := hits_not 14 1 (by omega) (by decide)
  have m3 : hits w 0x7F1FC007 0x67008000 = true := hits_runs [(0, 3, 0), (14, 7, 2), (24, 7, 103)] (List.forall_mem_cons.2 ⟨r0, (List.forall_mem_cons.2 ⟨r1, (List.forall_mem_cons.2 ⟨r2, (List.forall_mem_nil _)⟩)⟩)⟩) (by decide) (by decide)
  have e : w.toNat / 2 ^ 24 % 128 = 103 := by omega
  simp only [pattern, e, Nat.reduceDiv, Nat.reduceMod, pattern6, m1, m2, m3, if_true, Bool.false_eq_true, if_false, f0, f1, f2, f3]

theorem evctL2 (x0 : BitVec 1) (x1 : BitVec 3) (x2 : BitVec 7) (x3 : BitVec 4) : Statement (.evctL2 x0 x1 x2 x3) := by
  intro hw w h
  obtain ⟨r0, r1, r2, f0, f1, f2, f3⟩ := shape32 (v0 := 0) (v1 := 3) (v2 := 103) (by decide) (by decide) (by decide) x0 x1 x2 x3 (w := w) h
  have m1 : hits w 0x7F1FC007 0x67000000 = false := hits_not 14 1 (by omega) (by decide)
  have m2 : hits w 0x7F1FC007 0x67004000 = false := hits_not 15 1 (by omega) (by decide)
  have m3 : hits w 0x7F1FC007 0x67008000 = false := hits_not 14 1 (by omega) (by decide)
  have m4 : hits w 0x7F1FC007 0x6700C000 = true := hits_runs [(0, 3, 0), (14, 7, 3), (24, 7, 103)] (List.forall_mem_cons.2 ⟨r0, (List.forall_mem_cons.2 ⟨r1, (List.forall_mem_cons.2 ⟨r2, (List.forall_mem_nil _)⟩)⟩)⟩) (by decide) (by decide)
  have e : w.toNat / 2 ^ 24 % 128 = 103 := by omega
  simp only [pattern, e, Nat.reduceDiv, Nat.reduceMod, pattern6, m1, m2, m3, m4, if_true, Bool.false_eq_true, if_false, f0, f1, f2, f3]

theorem st8 (x0 : BitVec 1) (x1 : BitVec 3) (x2 : BitVec 7) (x3 : BitVec 7) (x4 : BitVec 4) : Statement (.st8 x0 x1 x2 x3 x4) := by
  intro hw w h
  obtain ⟨r0, r1, f0, f1, f2, f3, f4⟩ := shape33 (v0 := 0) (v1 := 104) (by decide) (by decide) x0 x1 x2 x3 x4 (w := w) h
  have m1 : hits w 0x7F000007 0x68000000 = true := hits_runs [(0, 3, 0), (24, 7, 104)] (List.forall_mem_cons.2 ⟨r0, (List.forall_mem_cons.2 ⟨r1, (List.forall_mem_nil _)⟩)⟩) (by decide) (by decide)
  have e : w.toNat / 2 ^ 24 % 128 = 104 := by omega
  simp only [pattern, e, Nat.reduceDiv, Nat.reduceMod, pattern6, m1, if_true, f0, f1, f2, f3, f4]

theorem st16 (x0 : BitVec 1) (x1 : BitVec 3) (x2 : BitVec 7) (x3 : BitVec 7) (x4 : BitVec 4) : Statement (.st16 x0 x1 x2 x3 x4) := by
  intro hw w h
  obtain ⟨r0, r1, f0, f1, f2, f3, f4⟩ := shape33 (v0 := 0) (v1 := 105) (by decide) (by decide) x0 x1 x2 x3 x4 (w := w) h
  have m1 : hits w 0x7F000007 0x69000000 = true := hits_runs [(0, 3, 0), (24, 7, 105)] (List.forall_mem_cons.2 ⟨r0, (List.forall_mem_cons.2 ⟨r1, (List.forall_mem_nil _)⟩)⟩) (by decide) (by decide)
  have e : w.toNat / 2 ^ 24 % 128 = 105 := by omega
  simp only [pattern, e, Nat.reduceDiv, Nat.reduceMod, pattern6, m1, if_true, f0, f1, f2, f3, f4]

theorem st32 (x0 : BitVec 1) (x1 : BitVec 3) (x2 : BitVec 7) (x3 : BitVec 7) (x4 : BitVec 4) : Statement (.st32 x0 x1 x2 x3 x4) := by
  intro hw w h
  obtain ⟨r0, r1, f0, f1, f2, f3, f4⟩ := shape33 (v0 := 0) (v1 := 106) (by decide) (by decide) x0 x1 x2 x3 x4 (w := w) h
  have m1 : hits w 0x7F000007 0x6A000000 = true := hits_runs [(0, 3, 0), (24, 7, 106)] (List.forall_mem_cons.2 ⟨r0, (List.forall_mem_cons.2 ⟨r1, (List.forall_mem_nil _)⟩)⟩) (by decide) (by decide)
  have e : w.toNat / 2 ^ 24 % 128 = 106 := by omega
  simp only [pattern, e, Nat.reduceDiv, Nat.reduceMod, pattern6, m1, if_true, f0, f1, f2, f3, f4]

theorem st64 (x0 : BitVec 1) (x1 : BitVec 3) (x2 : BitVec 7) (x3 : BitVec 7) (x4 : BitVec 4) : Statement (.st64 x0 x1 x2 x3 x4) := by
  intro hw w h
  obtain ⟨r0, r1, f0, f1, f2, f3, f4⟩ := shape33 (v0 := 0) (v1 := 107) (by decide) (by decide) x0 x1 x2 x3 x4 (w := w) h
  have m1 : hits w 0x7F000007 0x6B000000 = true := hits_runs [(0, 3, 0), (24, 7, 107)] (List.forall_mem_cons.2 ⟨r0, (List.forall_mem_cons.2 ⟨r1, (List.forall_mem_nil _)⟩)⟩) (by decide) (by decide)
  have e : w.toNat / 2 ^ 24 % 128 = 107 := by omega
  simp only [pattern, e, Nat.reduceDiv, Nat.reduceMod, pattern6, m1, if_true, f0, f1, f2, f3, f4]

theorem st128 (x0 : BitVec 1) (x1 : BitVec 3) (x2 : BitVec 7) (x3 : BitVec 7) (x4 : BitVec 4) : Statement (.st128 x0 x1 x2 x3 x4) := by
  intro hw w h
  obtain ⟨r0, r1, f0, f1, f2, f3, f4⟩ := shape33 (v0 := 0) (v1 := 108) (by decide) (by decide) x0 x1 x2 x3 x4 (w := w) h
  have m1 : hits w 0x7F000007 0x6C000000 = true := hits_runs [(0, 3, 0), (24, 7, 108)] (List.forall_mem_cons.2 ⟨r0, (List.forall_mem_cons.2 ⟨r1, (List.forall_mem_nil _)⟩)⟩) (by decide) (by decide)
  have e : w.toNat / 2 ^ 24 % 128 = 108 := by omega
  simp only [pattern, e, Nat.reduceDiv, Nat.reduceMod, pattern6, m1, if_true, f0, f1, f2, f3, f4]

theorem atom (x0 : BitVec 1) (x1 : BitVec 3) (x2 : BitVec 7) (x3 : BitVec 7) (x4 : BitVec 4) (x5 : BitVec 3) : Statement (.atom x0 x1 x2 x3 x4 x5) := by
  intro hw w h
  obtain ⟨r0, f0, f1, f2, f3, f4, f5⟩ := shape25 (v0 := 109) (by decide) x0 x1 x2 x3 x4 x5 (w := w) h
  have m1 : hits w 0x7F000000 0x6D000000 = true := hits_runs [(24, 7, 109)] (List.forall_mem_cons.2 ⟨r0, (List.forall_mem_nil _)⟩) (by decide) (by decide)
  have e : w.toNat / 2 ^ 24 % 128 = 109 := by omega
  simp only [pattern, e, Nat.reduceDiv, Nat.reduceMod, pattern6, m1, if_true, f0, f1, f2, f3, f4, f5]

theorem cas (x0 : BitVec 1) (x1 : BitVec 3) (x2 : BitVec 7) (x3 : BitVec 7) (x4 : BitVec 3) : Statement (.cas x0 x1 x2 x3 x4) := by
  intro hw w h
  obtain ⟨r0, r1, f0, f1, f2, f3, f4⟩ := shape23 (v0 := 0) (v1 := 110) (by decide) (by decide) x0 x1 x2 x3 x4 (w := w) h
  have m1 : hits w 0x7F000078 0x6E000000 = true := hits_runs [(3, 4, 0), (24, 7, 110)] (List.forall_mem_cons.2 ⟨r0, (List.forall_mem_cons.2 ⟨r1, (List.forall_mem_nil _)⟩)⟩) (by decide) (by decide)
  have e : w.toNat / 2 ^ 24 % 128 = 110 := by omega
  simp only [pattern, e, Nat.reduceDiv, Nat.reduceMod, pattern6, m1, if_true, f0, f1, f2, f3, f4]

theorem red (x0 : BitVec 1) (x1 : BitVec 3) (x2 : BitVec 7) (x3 : BitVec 7) (x4 : BitVec 4) (x5 : BitVec 3) : Statement (.red x0 x1 x2 x3 x4 x5) := by
  intro hw w h
  obtain ⟨r0, f0, f1, f2, f3, f4, f5⟩ := shape25 (v0 := 111) (by decide) x0 x1 x2 x3 x4 x5 (w := w) h
  have m1 : hits w 0x7F000000 0x6F000000 = true := hits_runs [(24, 7, 111)] (List.forall_mem_cons.2 ⟨r0, (List.forall_mem_nil _)⟩) (by decide) (by decide)
  have e : w.toNat / 2 ^ 24 % 128 = 111 := by omega
  simp only [pattern, e, Nat.reduceDiv, Nat.reduceMod, pattern6, m1, if_true, f0, f1, f2, f3, f4, f5]

theorem lds8 (x0 : BitVec 1) (x1 : BitVec 3) (x2 : BitVec 7) (x3 : BitVec 7) (x4 : BitVec 3) (x5 : BitVec 1) (x6 : BitVec 3) : Statement (.lds8 x0 x1 x2 x3 x4 x5 x6) := by
  intro hw w h
  obtain ⟨r0, f0, f1, f2, f3, f4, f5, f6⟩ := shape34 (v0 := 112) (by decide) x0 x1 x2 x3 x4 x5 x6 (w := w) h
  have m1 : hits w 0x7F000000 0x70000000 = true := hits_runs [(24, 7, 112)] (List.forall_mem_cons.2 ⟨r0, (List.forall_mem_nil _)⟩) (by decide) (by decide)
  have e : w.toNat / 2 ^ 24 % 128 = 112 := by omega
  simp only [pattern, e, Nat.reduceDiv, Nat.reduceMod, pattern7, m1, if_true, f0, f1, f2, f3, f4, f5, f6]

theorem lds16 (x0 : BitVec 1) (x1 : BitVec 3) (x2 : BitVec 7) (x3 : BitVec 7) (x4 : BitVec 3) (x5 : BitVec 1) (x6 : BitVec 3) : Statement (.lds16 x0 x1 x2 x3 x4 x5 x6) := by
  intro hw w h
  obtain ⟨r0, f0, f1, f2, f3, f4, f5, f6⟩ := shape34 (v0 := 113) (by decide) x0 x1 x2 x3 x4 x5 x6 (w := w) h
  have m1 : hits w 0x7F000000 0x71000000 = true := hits_runs [(24, 7, 113)] (List.forall_mem_cons.2 ⟨r0, (List.forall_mem_nil _)⟩) (by decide) (by decide)
  have e : w.toNat / 2 ^ 24 % 128 = 113 := by omega
  simp only [pattern, e, Nat.reduceDiv, Nat.reduceMod, pattern7, m1, if_true, f0, f1, f2, f3, f4, f5, f6]

theorem lds32 (x0 : BitVec 1) (x1 : BitVec 3) (x2 : BitVec 7) (x3 : BitVec 7) (x4 : BitVec 3) (x5 : BitVec 1) (x6 : BitVec 3) : Statement (.lds32 x0 x1 x2 x3 x4 x5 x6) := by
  intro hw w h
  obtain ⟨r0, f0, f1, f2, f3, f4, f5, f6⟩ := shape34 (v0 := 114) (by decide) x0 x1 x2 x3 x4 x5 x6 (w := w) h
  have m1 : hits w 0x7F000000 0x72000000 = true := hits_runs [(24, 7, 114)] (List.forall_mem_cons.2 ⟨r0, (List.forall_mem_nil _)⟩) (by decide) (by decide)
  have e : w.toNat / 2 ^ 24 % 128 = 114 := by omega
  simp only [pattern, e, Nat.reduceDiv, Nat.reduceMod, pattern7, m1, if_true, f0, f1, f2, f3, f4, f5, f6]

theorem lds64 (x0 : BitVec 1) (x1 : BitVec 3) (x2 : BitVec 7) (x3 : BitVec 7) (x4 : BitVec 3) (x5 : BitVec 1) (x6 : BitVec 3) : Statement (.lds64 x0 x1 x2 x3 x4 x5 x6) := by
  intro hw w h
  obtain ⟨r0, f0, f1, f2, f3, f4, f5, f6⟩ := shape34 (v0 := 115) (by decide) x0 x1 x2 x3 x4 x5 x6 (w := w) h
  have m1 : hits w 0x7F000000 0x73000000 = true := hits_runs [(24, 7, 115)] (List.forall_mem_cons.2 ⟨r0, (List.forall_mem_nil _)⟩) (by decide) (by decide)
  have e : w.toNat / 2 ^ 24 % 128 = 115 := by omega
  simp only [pattern, e, Nat.reduceDiv, Nat.reduceMod, pattern7, m1, if_true, f0, f1, f2, f3, f4, f5, f6]

theorem lds128 (x0 : BitVec 1) (x1 : BitVec 3) (x2 : BitVec 7) (x3 : BitVec 7) (x4 : BitVec 3) (x5 : BitVec 1) (x6 : BitVec 3) : Statement (.lds128 x0 x1 x2 x3 x4 x5 x6) := by
  intro hw w h
  obtain ⟨r0, f0, f1, f2, f3, f4, f5, f6⟩ := shape34 (v0 := 116) (by decide) x0 x1 x2 x3 x4 x5 x6 (w := w) h
  have m1 : hits w 0x7F000000 0x74000000 = true := hits_runs [(24, 7, 116)] (List.forall_mem_cons.2 ⟨r0, (List.forall_mem_nil _)⟩) (by decide) (by decide)
  have e : w.toNat / 2 ^ 24 % 128 = 116 := by omega
  simp only [pattern, e, Nat.reduceDiv, Nat.reduceMod, pattern7, m1, if_true, f0, f1, f2, f3, f4, f5, f6]

theorem sts8 (x0 : BitVec 1) (x1 : BitVec 3) (x2 : BitVec 7) (x3 : BitVec 7) (x4 : BitVec 3) (x5 : BitVec 1) : Statement (.sts8 x0 x1 x2 x3 x4 x5) := by
  intro hw w h
  obtain ⟨r0, r1, f0, f1, f2, f3, f4, f5⟩ := shape35 (v0 := 0) (v1 := 117) (by decide) (by decide) x0 x1 x2 x3 x4 x5 (w := w) h
  have m1 : hits w 0x7F000007 0x75000000 = true := hits_runs [(0, 3, 0), (24, 7, 117)] (List.forall_mem_cons.2 ⟨r0, (List.forall_mem_cons.2 ⟨r1, (List.forall_mem_nil _)⟩)⟩) (by decide) (by decide)
  have e : w.toNat / 2 ^ 24 % 128 = 117 := by omega
  simp only [pattern, e, Nat.reduceDiv, Nat.reduceMod, pattern7, m1, if_true, f0, f1, f2, f3, f4, f5]

theorem sts16 (x0 : BitVec 1) (x1 : BitVec 3) (x2 : BitVec 7) (x3 : BitVec 7) (x4 : BitVec 3) (x5 : BitVec 1) : Statement (.sts16 x0 x1 x2 x3 x4 x5) := by
  intro hw w h
  obtain ⟨r0, r1, f0, f1, f2, f3, f4, f5⟩ := shape35 (v0 := 0) (v1 := 118) (by decide) (by decide) x0 x1 x2 x3 x4 x5 (w := w) h
  have m1 : hits w 0x7F000007 0x76000000 = true := hits_runs [(0, 3, 0), (24, 7, 118)] (List.forall_mem_cons.2 ⟨r0, (List.forall_mem_cons.2 ⟨r1, (List.forall_mem_nil _)⟩)⟩) (by decide) (by decide)
  have e : w.toNat / 2 ^ 24 % 128 = 118 := by omega
  simp only [pattern, e, Nat.reduceDiv, Nat.reduceMod, pattern7, m1, if_true, f0, f1, f2, f3, f4, f5]

theorem sts32 (x0 : BitVec 1) (x1 : BitVec 3) (x2 : BitVec 7) (x3 : BitVec 7) (x4 : BitVec 3) (x5 : BitVec 1) : Statement (.sts32 x0 x1 x2 x3 x4 x5) := by
  intro hw w h
  obtain ⟨r0, r1, f0, f1, f2, f3, f4, f5⟩ := shape35 (v0 := 0) (v1 := 119) (by decide) (by decide) x0 x1 x2 x3 x4 x5 (w := w) h
  have m1 : hits w 0x7F000007 0x77000000 = true := hits_runs [(0, 3, 0), (24, 7, 119)] (List.forall_mem_cons.2 ⟨r0, (List.forall_mem_cons.2 ⟨r1, (List.forall_mem_nil _)⟩)⟩) (by decide) (by decide)
  have e : w.toNat / 2 ^ 24 % 128 = 119 := by omega
  simp only [pattern, e, Nat.reduceDiv, Nat.reduceMod, pattern7, m1, if_true, f0, f1, f2, f3, f4, f5]

theorem sts64 (x0 : BitVec 1) (x1 : BitVec 3) (x2 : BitVec 7) (x3 : BitVec 7) (x4 : BitVec 3) (x5 : BitVec 1) : Statement (.sts64 x0 x1 x2 x3 x4 x5) := by
  intro hw w h
  obtain ⟨r0, r1, f0, f1, f2, f3, f4, f5⟩ := shape35 (v0 := 0) (v1 := 120) (by decide) (by decide) x0 x1 x2 x3 x4 x5 (w := w) h
  have m1 : hits w 0x7F000007 0x78000000 = true := hits_runs [(0, 3, 0), (24, 7, 120)] (List.forall_mem_cons.2 ⟨r0, (List.forall_mem_cons.2 ⟨r1, (List.forall_mem_nil _)⟩)⟩) (by decide) (by decide)
  have e : w.toNat / 2 ^ 24 % 128 = 120 := by omega
  simp only [pattern, e, Nat.reduceDiv, Nat.reduceMod, pattern7, m1, if_true, f0, f1, f2, f3, f4, f5]

theorem sts128 (x0 : BitVec 1) (x1 : BitVec 3) (x2 : BitVec 7) (x3 : BitVec 7) (x4 : BitVec 3) (x5 : BitVec 1) : Statement (.sts128 x0 x1 x2 x3 x4 x5) := by
  intro hw w h
  obtain ⟨r0, r1, f0, f1, f2, f3, f4, f5⟩ := shape35 (v0 := 0) (v1 := 121) (by decide) (by decide) x0 x1 x2 x3 x4 x5 (w := w) h
  have m1 : hits w 0x7F000007 0x79000000 = true := hits_runs [(0, 3, 0), (24, 7, 121)] (List.forall_mem_cons.2 ⟨r0, (List.forall_mem_cons.2 ⟨r1, (List.forall_mem_nil _)⟩)⟩) (by decide) (by decide)
  have e : w.toNat / 2 ^ 24 % 128 = 121 := by omega
  simp only [pattern, e, Nat.reduceDiv, Nat.reduceMod, pattern7, m1, if_true, f0, f1, f2, f3, f4, f5]

theorem copy (x0 : BitVec 1) (x1 : BitVec 3) (x2 : BitVec 7) (x3 : BitVec 3) (x4 : BitVec 3) : Statement (.copy x0 x1 x2 x3 x4) := by
  intro hw w h
  obtain ⟨r0, r1, r2, f0, f1, f2, f3, f4⟩ := shape31 (v0 := 0) (v1 := 0) (v2 := 122) (by decide) (by decide) (by decide) x0 x1 x2 x3 x4 (w := w) h
  have m1 : hits w 0x7F003F81 0x7A000000 = true := hits_runs [(0, 1, 0), (7, 7, 0), (24, 7, 122)] (List.forall_mem_cons.2 ⟨r0, (List.forall_mem_cons.2 ⟨r1, (List.forall_mem_cons.2 ⟨r2, (List.forall_mem_nil _)⟩)⟩)⟩) (by decide) (by decide)
  have e : w.toNat / 2 ^ 24 % 128 = 122 := by omega
  simp only [pattern, e, Nat.reduceDiv, Nat.reduceMod, pattern7, m1, if_true, f0, f1, f2, f3, f4]

theorem rlay (x0 : BitVec 1) (x1 : BitVec 3) (x2 : BitVec 7) (x3 : BitVec 3) (x4 : BitVec 3) : Statement (.rlay x0 x1 x2 x3 x4) := by
  intro hw w h
  obtain ⟨r0, r1, r2, f0, f1, f2, f3, f4⟩ := shape31 (v0 := 1) (v1 := 0) (v2 := 122) (by decide) (by decide) (by decide) x0 x1 x2 x3 x4 (w := w) h
  have m1 : hits w 0x7F003F81 0x7A000000 = false := hits_not 0 1 (by omega) (by decide)
  have m2 : hits w 0x7F003F81 0x7A000001 = true := hits_runs [(0, 1, 1), (7, 7, 0), (24, 7, 122)] (List.forall_mem_cons.2 ⟨r0, (List.forall_mem_cons.2 ⟨r1, (List.forall_mem_cons.2 ⟨r2, (List.forall_mem_nil _)⟩)⟩)⟩) (by decide) (by decide)
  have e : w.toNat / 2 ^ 24 % 128 = 122 := by omega
  simp only [pattern, e, Nat.reduceDiv, Nat.reduceMod, pattern7, m1, m2, if_true, Bool.false_eq_true, if_false, f0, f1, f2, f3, f4]

theorem matl (x0 : BitVec 1) (x1 : BitVec 3) (x2 : BitVec 7) (x3 : BitVec 3) (x4 : BitVec 3) : Statement (.matl x0 x1 x2 x3 x4) := by
  intro hw w h
  obtain ⟨r0, r1, r2, f0, f1, f2, f3, f4⟩ := shape31 (v0 := 0) (v1 := 0) (v2 := 123) (by decide) (by decide) (by decide) x0 x1 x2 x3 x4 (w := w) h
  have m1 : hits w 0x7F003F81 0x7B000000 = true := hits_runs [(0, 1, 0), (7, 7, 0), (24, 7, 123)] (List.forall_mem_cons.2 ⟨r0, (List.forall_mem_cons.2 ⟨r1, (List.forall_mem_cons.2 ⟨r2, (List.forall_mem_nil _)⟩)⟩)⟩) (by decide) (by decide)
  have e : w.toNat / 2 ^ 24 % 128 = 123 := by omega
  simp only [pattern, e, Nat.reduceDiv, Nat.reduceMod, pattern7, m1, if_true, f0, f1, f2, f3, f4]

theorem gath (x0 : BitVec 1) (x1 : BitVec 3) (x2 : BitVec 7) (x3 : BitVec 3) (x4 : BitVec 3) : Statement (.gath x0 x1 x2 x3 x4) := by
  intro hw w h
  obtain ⟨r0, r1, r2, f0, f1, f2, f3, f4⟩ := shape31 (v0 := 0) (v1 := 0) (v2 := 124) (by decide) (by decide) (by decide) x0 x1 x2 x3 x4 (w := w) h
  have m1 : hits w 0x7F003F81 0x7C000000 = true := hits_runs [(0, 1, 0), (7, 7, 0), (24, 7, 124)] (List.forall_mem_cons.2 ⟨r0, (List.forall_mem_cons.2 ⟨r1, (List.forall_mem_cons.2 ⟨r2, (List.forall_mem_nil _)⟩)⟩)⟩) (by decide) (by decide)
  have e : w.toNat / 2 ^ 24 % 128 = 124 := by omega
  simp only [pattern, e, Nat.reduceDiv, Nat.reduceMod, pattern7, m1, if_true, f0, f1, f2, f3, f4]

theorem scat (x0 : BitVec 1) (x1 : BitVec 3) (x2 : BitVec 7) (x3 : BitVec 3) (x4 : BitVec 3) : Statement (.scat x0 x1 x2 x3 x4) := by
  intro hw w h
  obtain ⟨r0, r1, r2, f0, f1, f2, f3, f4⟩ := shape31 (v0 := 0) (v1 := 0) (v2 := 125) (by decide) (by decide) (by decide) x0 x1 x2 x3 x4 (w := w) h
  have m1 : hits w 0x7F003F81 0x7D000000 = true := hits_runs [(0, 1, 0), (7, 7, 0), (24, 7, 125)] (List.forall_mem_cons.2 ⟨r0, (List.forall_mem_cons.2 ⟨r1, (List.forall_mem_cons.2 ⟨r2, (List.forall_mem_nil _)⟩)⟩)⟩) (by decide) (by decide)
  have e : w.toNat / 2 ^ 24 % 128 = 125 := by omega
  simp only [pattern, e, Nat.reduceDiv, Nat.reduceMod, pattern7, m1, if_true, f0, f1, f2, f3, f4]

theorem scatAcc (x0 : BitVec 1) (x1 : BitVec 3) (x2 : BitVec 7) (x3 : BitVec 3) (x4 : BitVec 3) : Statement (.scatAcc x0 x1 x2 x3 x4) := by
  intro hw w h
  obtain ⟨r0, r1, r2, f0, f1, f2, f3, f4⟩ := shape31 (v0 := 1) (v1 := 0) (v2 := 125) (by decide) (by decide) (by decide) x0 x1 x2 x3 x4 (w := w) h
  have m1 : hits w 0x7F003F81 0x7D000000 = false := hits_not 0 1 (by omega) (by decide)
  have m2 : hits w 0x7F003F81 0x7D000001 = true := hits_runs [(0, 1, 1), (7, 7, 0), (24, 7, 125)] (List.forall_mem_cons.2 ⟨r0, (List.forall_mem_cons.2 ⟨r1, (List.forall_mem_cons.2 ⟨r2, (List.forall_mem_nil _)⟩)⟩)⟩) (by decide) (by decide)
  have e : w.toNat / 2 ^ 24 % 128 = 125 := by omega
  simp only [pattern, e, Nat.reduceDiv, Nat.reduceMod, pattern7, m1, m2, if_true, Bool.false_eq_true, if_false, f0, f1, f2, f3, f4]

theorem coll (x0 : BitVec 1) (x1 : BitVec 3) (x2 : BitVec 7) (x3 : BitVec 3) (x4 : BitVec 3) : Statement (.coll x0 x1 x2 x3 x4) := by
  intro hw w h
  obtain ⟨r0, r1, r2, f0, f1, f2, f3, f4⟩ := shape31 (v0 := 0) (v1 := 0) (v2 := 126) (by decide) (by decide) (by decide) x0 x1 x2 x3 x4 (w := w) h
  have m1 : hits w 0x7F003F81 0x7E000000 = true := hits_runs [(0, 1, 0), (7, 7, 0), (24, 7, 126)] (List.forall_mem_cons.2 ⟨r0, (List.forall_mem_cons.2 ⟨r1, (List.forall_mem_cons.2 ⟨r2, (List.forall_mem_nil _)⟩)⟩)⟩) (by decide) (by decide)
  have e : w.toNat / 2 ^ 24 % 128 = 126 := by omega
  simp only [pattern, e, Nat.reduceDiv, Nat.reduceMod, pattern7, m1, if_true, f0, f1, f2, f3, f4]

theorem cpyq (x0 : BitVec 1) (x1 : BitVec 3) (x2 : BitVec 7) (x3 : BitVec 7) (x4 : BitVec 3) (x5 : BitVec 3) : Statement (.cpyq x0 x1 x2 x3 x4 x5) := by
  intro hw w h
  obtain ⟨r0, r1, f0, f1, f2, f3, f4, f5⟩ := shape36 (v0 := 0) (v1 := 127) (by decide) (by decide) x0 x1 x2 x3 x4 x5 (w := w) h
  have m1 : hits w 0x7F000001 0x7F000000 = true := hits_runs [(0, 1, 0), (24, 7, 127)] (List.forall_mem_cons.2 ⟨r0, (List.forall_mem_cons.2 ⟨r1, (List.forall_mem_nil _)⟩)⟩) (by decide) (by decide)
  have e : w.toNat / 2 ^ 24 % 128 = 127 := by omega
  simp only [pattern, e, Nat.reduceDiv, Nat.reduceMod, pattern7, m1, if_true, f0, f1, f2, f3, f4, f5]

theorem tdispEnterRun : Statement .tdispEnterRun := by
  intro _ w h
  cases h

theorem spdmKeyExchange : Statement .spdmKeyExchange := by
  intro _ w h
  cases h

theorem hdmDecoderCommit : Statement .hdmDecoderCommit := by
  intro _ w h
  cases h

end Sys2Proof.Laws.Encoded
end

