-- ==== Sys2Proof/Laws/State.lean ====
section
/-! SUPPORT. What each small update of the state leaves alone, and the laws of sparse maps and of memory. -/

namespace Sys2Proof.Machine

open Sys2Proof

/-! ## Updates and the parts of the state they leave -/

@[simp] theorem State.send_mem (s : State) (e : Ev) : (s.send e).mem = s.mem := rfl
@[simp] theorem State.send_mm (s : State) (e : Ev) : (s.send e).mm = s.mm := rfl
@[simp] theorem State.send_pkg (s : State) (e : Ev) : (s.send e).pkg = s.pkg := rfl
@[simp] theorem State.send_host (s : State) (e : Ev) : (s.send e).host = s.host := rfl
@[simp] theorem State.send_ten (s : State) (e : Ev) : (s.send e).ten = s.ten := rfl
@[simp] theorem State.send_coh (s : State) (e : Ev) : (s.send e).coh = s.coh := rfl
@[simp] theorem State.send_ali (s : State) (e : Ev) : (s.send e).ali = s.ali := rfl
@[simp] theorem State.send_xl (s : State) (e : Ev) : (s.send e).xl = s.xl := rfl
@[simp] theorem State.send_run (s : State) (e : Ev) : (s.send e).run = s.run := rfl
@[simp] theorem State.send_core (s : State) (e : Ev) : (s.send e).core = s.core := rfl
@[simp] theorem State.send_eng (s : State) (e : Ev) : (s.send e).eng = s.eng := rfl
@[simp] theorem State.send_nb (s : State) (e : Ev) : (s.send e).nb = s.nb := rfl

@[simp] theorem State.sendAll_mem (s : State) (es : List Ev) : (s.sendAll es).mem = s.mem := rfl
@[simp] theorem State.sendAll_mm (s : State) (es : List Ev) : (s.sendAll es).mm = s.mm := rfl
@[simp] theorem State.sendAll_pkg (s : State) (es : List Ev) : (s.sendAll es).pkg = s.pkg := rfl
@[simp] theorem State.sendAll_host (s : State) (es : List Ev) : (s.sendAll es).host = s.host := rfl
@[simp] theorem State.sendAll_ten (s : State) (es : List Ev) : (s.sendAll es).ten = s.ten := rfl
@[simp] theorem State.sendAll_coh (s : State) (es : List Ev) : (s.sendAll es).coh = s.coh := rfl
@[simp] theorem State.sendAll_ali (s : State) (es : List Ev) : (s.sendAll es).ali = s.ali := rfl
@[simp] theorem State.sendAll_xl (s : State) (es : List Ev) : (s.sendAll es).xl = s.xl := rfl
@[simp] theorem State.sendAll_run (s : State) (es : List Ev) : (s.sendAll es).run = s.run := rfl
@[simp] theorem State.sendAll_core (s : State) (es : List Ev) : (s.sendAll es).core = s.core := rfl
@[simp] theorem State.sendAll_eng (s : State) (es : List Ev) : (s.sendAll es).eng = s.eng := rfl
@[simp] theorem State.sendAll_nb (s : State) (es : List Ev) : (s.sendAll es).nb = s.nb := rfl

@[simp] theorem State.after_mem (s : State) (n : Nat) (e : Ev) : (s.after n e).mem = s.mem := rfl
@[simp] theorem State.after_mm (s : State) (n : Nat) (e : Ev) : (s.after n e).mm = s.mm := rfl
@[simp] theorem State.after_pkg (s : State) (n : Nat) (e : Ev) : (s.after n e).pkg = s.pkg := rfl
@[simp] theorem State.after_host (s : State) (n : Nat) (e : Ev) : (s.after n e).host = s.host := rfl
@[simp] theorem State.after_ten (s : State) (n : Nat) (e : Ev) : (s.after n e).ten = s.ten := rfl
@[simp] theorem State.after_coh (s : State) (n : Nat) (e : Ev) : (s.after n e).coh = s.coh := rfl
@[simp] theorem State.after_ali (s : State) (n : Nat) (e : Ev) : (s.after n e).ali = s.ali := rfl
@[simp] theorem State.after_xl (s : State) (n : Nat) (e : Ev) : (s.after n e).xl = s.xl := rfl
@[simp] theorem State.after_run (s : State) (n : Nat) (e : Ev) : (s.after n e).run = s.run := rfl
@[simp] theorem State.after_core (s : State) (n : Nat) (e : Ev) : (s.after n e).core = s.core := rfl
@[simp] theorem State.after_eng (s : State) (n : Nat) (e : Ev) : (s.after n e).eng = s.eng := rfl
@[simp] theorem State.after_nb (s : State) (n : Nat) (e : Ev) : (s.after n e).nb = s.nb := rfl

@[simp] theorem State.cancel_mem (s : State) (p : Ev → Bool) : (s.cancel p).mem = s.mem := rfl
@[simp] theorem State.cancel_mm (s : State) (p : Ev → Bool) : (s.cancel p).mm = s.mm := rfl
@[simp] theorem State.cancel_pkg (s : State) (p : Ev → Bool) : (s.cancel p).pkg = s.pkg := rfl
@[simp] theorem State.cancel_host (s : State) (p : Ev → Bool) : (s.cancel p).host = s.host := rfl
@[simp] theorem State.cancel_ten (s : State) (p : Ev → Bool) : (s.cancel p).ten = s.ten := rfl
@[simp] theorem State.cancel_coh (s : State) (p : Ev → Bool) : (s.cancel p).coh = s.coh := rfl
@[simp] theorem State.cancel_ali (s : State) (p : Ev → Bool) : (s.cancel p).ali = s.ali := rfl
@[simp] theorem State.cancel_xl (s : State) (p : Ev → Bool) : (s.cancel p).xl = s.xl := rfl
@[simp] theorem State.cancel_run (s : State) (p : Ev → Bool) : (s.cancel p).run = s.run := rfl
@[simp] theorem State.cancel_core (s : State) (p : Ev → Bool) : (s.cancel p).core = s.core := rfl
@[simp] theorem State.cancel_eng (s : State) (p : Ev → Bool) : (s.cancel p).eng = s.eng := rfl
@[simp] theorem State.cancel_nb (s : State) (p : Ev → Bool) : (s.cancel p).nb = s.nb := rfl

@[simp] theorem State.unsend_mem (s : State) (p : Ev → Bool) : (s.unsend p).mem = s.mem := rfl
@[simp] theorem State.unsend_mm (s : State) (p : Ev → Bool) : (s.unsend p).mm = s.mm := rfl
@[simp] theorem State.unsend_pkg (s : State) (p : Ev → Bool) : (s.unsend p).pkg = s.pkg := rfl
@[simp] theorem State.unsend_host (s : State) (p : Ev → Bool) : (s.unsend p).host = s.host := rfl
@[simp] theorem State.unsend_ten (s : State) (p : Ev → Bool) : (s.unsend p).ten = s.ten := rfl
@[simp] theorem State.unsend_coh (s : State) (p : Ev → Bool) : (s.unsend p).coh = s.coh := rfl
@[simp] theorem State.unsend_ali (s : State) (p : Ev → Bool) : (s.unsend p).ali = s.ali := rfl
@[simp] theorem State.unsend_xl (s : State) (p : Ev → Bool) : (s.unsend p).xl = s.xl := rfl
@[simp] theorem State.unsend_run (s : State) (p : Ev → Bool) : (s.unsend p).run = s.run := rfl
@[simp] theorem State.unsend_core (s : State) (p : Ev → Bool) : (s.unsend p).core = s.core := rfl
@[simp] theorem State.unsend_eng (s : State) (p : Ev → Bool) : (s.unsend p).eng = s.eng := rfl
@[simp] theorem State.unsend_nb (s : State) (p : Ev → Bool) : (s.unsend p).nb = s.nb := rfl

@[simp] theorem State.bump_mem (s : State) : (s.bump).mem = s.mem := rfl
@[simp] theorem State.bump_mm (s : State) : (s.bump).mm = s.mm := rfl
@[simp] theorem State.bump_pkg (s : State) : (s.bump).pkg = s.pkg := rfl
@[simp] theorem State.bump_host (s : State) : (s.bump).host = s.host := rfl
@[simp] theorem State.bump_ten (s : State) : (s.bump).ten = s.ten := rfl
@[simp] theorem State.bump_coh (s : State) : (s.bump).coh = s.coh := rfl
@[simp] theorem State.bump_ali (s : State) : (s.bump).ali = s.ali := rfl
@[simp] theorem State.bump_xl (s : State) : (s.bump).xl = s.xl := rfl
@[simp] theorem State.bump_run (s : State) : (s.bump).run = s.run := rfl
@[simp] theorem State.bump_core (s : State) : (s.bump).core = s.core := rfl
@[simp] theorem State.bump_eng (s : State) : (s.bump).eng = s.eng := rfl
@[simp] theorem State.bump_nb (s : State) : (s.bump).nb = s.nb := rfl

@[simp] theorem State.toHost_ctl (s : State) (m : HostMsg) : (s.toHost m).ctl = s.ctl := rfl
@[simp] theorem State.toHost_mem (s : State) (m : HostMsg) : (s.toHost m).mem = s.mem := rfl
@[simp] theorem State.toHost_mm (s : State) (m : HostMsg) : (s.toHost m).mm = s.mm := rfl
@[simp] theorem State.toHost_pkg (s : State) (m : HostMsg) : (s.toHost m).pkg = s.pkg := rfl
@[simp] theorem State.toHost_ten (s : State) (m : HostMsg) : (s.toHost m).ten = s.ten := rfl
@[simp] theorem State.toHost_coh (s : State) (m : HostMsg) : (s.toHost m).coh = s.coh := rfl
@[simp] theorem State.toHost_ali (s : State) (m : HostMsg) : (s.toHost m).ali = s.ali := rfl
@[simp] theorem State.toHost_xl (s : State) (m : HostMsg) : (s.toHost m).xl = s.xl := rfl
@[simp] theorem State.toHost_run (s : State) (m : HostMsg) : (s.toHost m).run = s.run := rfl
@[simp] theorem State.toHost_core (s : State) (m : HostMsg) : (s.toHost m).core = s.core := rfl
@[simp] theorem State.toHost_eng (s : State) (m : HostMsg) : (s.toHost m).eng = s.eng := rfl
@[simp] theorem State.toHost_nb (s : State) (m : HostMsg) : (s.toHost m).nb = s.nb := rfl

@[simp] theorem State.putBytes_ctl (s : State) (pa : Nat) (bs : List Byte) : (s.putBytes pa bs).ctl = s.ctl := rfl
@[simp] theorem State.putBytes_mm (s : State) (pa : Nat) (bs : List Byte) : (s.putBytes pa bs).mm = s.mm := rfl
@[simp] theorem State.putBytes_pkg (s : State) (pa : Nat) (bs : List Byte) : (s.putBytes pa bs).pkg = s.pkg := rfl
@[simp] theorem State.putBytes_host (s : State) (pa : Nat) (bs : List Byte) : (s.putBytes pa bs).host = s.host := rfl
@[simp] theorem State.putBytes_ten (s : State) (pa : Nat) (bs : List Byte) : (s.putBytes pa bs).ten = s.ten := rfl
@[simp] theorem State.putBytes_coh (s : State) (pa : Nat) (bs : List Byte) : (s.putBytes pa bs).coh = s.coh := rfl
@[simp] theorem State.putBytes_ali (s : State) (pa : Nat) (bs : List Byte) : (s.putBytes pa bs).ali = s.ali := rfl
@[simp] theorem State.putBytes_xl (s : State) (pa : Nat) (bs : List Byte) : (s.putBytes pa bs).xl = s.xl := rfl
@[simp] theorem State.putBytes_run (s : State) (pa : Nat) (bs : List Byte) : (s.putBytes pa bs).run = s.run := rfl
@[simp] theorem State.putBytes_core (s : State) (pa : Nat) (bs : List Byte) : (s.putBytes pa bs).core = s.core := rfl
@[simp] theorem State.putBytes_eng (s : State) (pa : Nat) (bs : List Byte) : (s.putBytes pa bs).eng = s.eng := rfl
@[simp] theorem State.putBytes_nb (s : State) (pa : Nat) (bs : List Byte) : (s.putBytes pa bs).nb = s.nb := rfl

@[simp] theorem State.setTrec_ctl (s : State) (t w v : Nat) : (s.setTrec t w v).ctl = s.ctl := rfl
@[simp] theorem State.setTrec_mem (s : State) (t w v : Nat) : (s.setTrec t w v).mem = s.mem := rfl
@[simp] theorem State.setTrec_mm (s : State) (t w v : Nat) : (s.setTrec t w v).mm = s.mm := rfl
@[simp] theorem State.setTrec_pkg (s : State) (t w v : Nat) : (s.setTrec t w v).pkg = s.pkg := rfl
@[simp] theorem State.setTrec_host (s : State) (t w v : Nat) : (s.setTrec t w v).host = s.host := rfl
@[simp] theorem State.setTrec_coh (s : State) (t w v : Nat) : (s.setTrec t w v).coh = s.coh := rfl
@[simp] theorem State.setTrec_ali (s : State) (t w v : Nat) : (s.setTrec t w v).ali = s.ali := rfl
@[simp] theorem State.setTrec_xl (s : State) (t w v : Nat) : (s.setTrec t w v).xl = s.xl := rfl
@[simp] theorem State.setTrec_run (s : State) (t w v : Nat) : (s.setTrec t w v).run = s.run := rfl
@[simp] theorem State.setTrec_core (s : State) (t w v : Nat) : (s.setTrec t w v).core = s.core := rfl
@[simp] theorem State.setTrec_eng (s : State) (t w v : Nat) : (s.setTrec t w v).eng = s.eng := rfl
@[simp] theorem State.setTrec_nb (s : State) (t w v : Nat) : (s.setTrec t w v).nb = s.nb := rfl

@[simp] theorem State.updQueue_ctl (s : State) (q : Nat) (f : Queue → Queue) : (s.updQueue q f).ctl = s.ctl := rfl
@[simp] theorem State.updQueue_mem (s : State) (q : Nat) (f : Queue → Queue) : (s.updQueue q f).mem = s.mem := rfl
@[simp] theorem State.updQueue_mm (s : State) (q : Nat) (f : Queue → Queue) : (s.updQueue q f).mm = s.mm := rfl
@[simp] theorem State.updQueue_pkg (s : State) (q : Nat) (f : Queue → Queue) : (s.updQueue q f).pkg = s.pkg := rfl
@[simp] theorem State.updQueue_host (s : State) (q : Nat) (f : Queue → Queue) : (s.updQueue q f).host = s.host := rfl
@[simp] theorem State.updQueue_coh (s : State) (q : Nat) (f : Queue → Queue) : (s.updQueue q f).coh = s.coh := rfl
@[simp] theorem State.updQueue_ali (s : State) (q : Nat) (f : Queue → Queue) : (s.updQueue q f).ali = s.ali := rfl
@[simp] theorem State.updQueue_xl (s : State) (q : Nat) (f : Queue → Queue) : (s.updQueue q f).xl = s.xl := rfl
@[simp] theorem State.updQueue_run (s : State) (q : Nat) (f : Queue → Queue) : (s.updQueue q f).run = s.run := rfl
@[simp] theorem State.updQueue_core (s : State) (q : Nat) (f : Queue → Queue) : (s.updQueue q f).core = s.core := rfl
@[simp] theorem State.updQueue_eng (s : State) (q : Nat) (f : Queue → Queue) : (s.updQueue q f).eng = s.eng := rfl
@[simp] theorem State.updQueue_nb (s : State) (q : Nat) (f : Queue → Queue) : (s.updQueue q f).nb = s.nb := rfl

@[simp] theorem State.updLaunch_ctl (s : State) (c : Nat) (f : Launch → Launch) : (s.updLaunch c f).ctl = s.ctl := rfl
@[simp] theorem State.updLaunch_mem (s : State) (c : Nat) (f : Launch → Launch) : (s.updLaunch c f).mem = s.mem := rfl
@[simp] theorem State.updLaunch_mm (s : State) (c : Nat) (f : Launch → Launch) : (s.updLaunch c f).mm = s.mm := rfl
@[simp] theorem State.updLaunch_pkg (s : State) (c : Nat) (f : Launch → Launch) : (s.updLaunch c f).pkg = s.pkg := rfl
@[simp] theorem State.updLaunch_host (s : State) (c : Nat) (f : Launch → Launch) : (s.updLaunch c f).host = s.host := rfl
@[simp] theorem State.updLaunch_ten (s : State) (c : Nat) (f : Launch → Launch) : (s.updLaunch c f).ten = s.ten := rfl
@[simp] theorem State.updLaunch_coh (s : State) (c : Nat) (f : Launch → Launch) : (s.updLaunch c f).coh = s.coh := rfl
@[simp] theorem State.updLaunch_ali (s : State) (c : Nat) (f : Launch → Launch) : (s.updLaunch c f).ali = s.ali := rfl
@[simp] theorem State.updLaunch_xl (s : State) (c : Nat) (f : Launch → Launch) : (s.updLaunch c f).xl = s.xl := rfl
@[simp] theorem State.updLaunch_core (s : State) (c : Nat) (f : Launch → Launch) : (s.updLaunch c f).core = s.core := rfl
@[simp] theorem State.updLaunch_eng (s : State) (c : Nat) (f : Launch → Launch) : (s.updLaunch c f).eng = s.eng := rfl
@[simp] theorem State.updLaunch_nb (s : State) (c : Nat) (f : Launch → Launch) : (s.updLaunch c f).nb = s.nb := rfl

@[simp] theorem State.updTcb_ctl (s : State) (i : Nat) (f : TCB → TCB) : (s.updTcb i f).ctl = s.ctl := rfl
@[simp] theorem State.updTcb_mem (s : State) (i : Nat) (f : TCB → TCB) : (s.updTcb i f).mem = s.mem := rfl
@[simp] theorem State.updTcb_mm (s : State) (i : Nat) (f : TCB → TCB) : (s.updTcb i f).mm = s.mm := rfl
@[simp] theorem State.updTcb_pkg (s : State) (i : Nat) (f : TCB → TCB) : (s.updTcb i f).pkg = s.pkg := rfl
@[simp] theorem State.updTcb_host (s : State) (i : Nat) (f : TCB → TCB) : (s.updTcb i f).host = s.host := rfl
@[simp] theorem State.updTcb_ten (s : State) (i : Nat) (f : TCB → TCB) : (s.updTcb i f).ten = s.ten := rfl
@[simp] theorem State.updTcb_coh (s : State) (i : Nat) (f : TCB → TCB) : (s.updTcb i f).coh = s.coh := rfl
@[simp] theorem State.updTcb_ali (s : State) (i : Nat) (f : TCB → TCB) : (s.updTcb i f).ali = s.ali := rfl
@[simp] theorem State.updTcb_xl (s : State) (i : Nat) (f : TCB → TCB) : (s.updTcb i f).xl = s.xl := rfl
@[simp] theorem State.updTcb_core (s : State) (i : Nat) (f : TCB → TCB) : (s.updTcb i f).core = s.core := rfl
@[simp] theorem State.updTcb_eng (s : State) (i : Nat) (f : TCB → TCB) : (s.updTcb i f).eng = s.eng := rfl
@[simp] theorem State.updTcb_nb (s : State) (i : Nat) (f : TCB → TCB) : (s.updTcb i f).nb = s.nb := rfl

@[simp] theorem State.updGang_ctl (s : State) (c k : Nat) (f : Gang → Gang) : (s.updGang c k f).ctl = s.ctl := rfl
@[simp] theorem State.updGang_mem (s : State) (c k : Nat) (f : Gang → Gang) : (s.updGang c k f).mem = s.mem := rfl
@[simp] theorem State.updGang_mm (s : State) (c k : Nat) (f : Gang → Gang) : (s.updGang c k f).mm = s.mm := rfl
@[simp] theorem State.updGang_pkg (s : State) (c k : Nat) (f : Gang → Gang) : (s.updGang c k f).pkg = s.pkg := rfl
@[simp] theorem State.updGang_host (s : State) (c k : Nat) (f : Gang → Gang) : (s.updGang c k f).host = s.host := rfl
@[simp] theorem State.updGang_ten (s : State) (c k : Nat) (f : Gang → Gang) : (s.updGang c k f).ten = s.ten := rfl
@[simp] theorem State.updGang_coh (s : State) (c k : Nat) (f : Gang → Gang) : (s.updGang c k f).coh = s.coh := rfl
@[simp] theorem State.updGang_ali (s : State) (c k : Nat) (f : Gang → Gang) : (s.updGang c k f).ali = s.ali := rfl
@[simp] theorem State.updGang_xl (s : State) (c k : Nat) (f : Gang → Gang) : (s.updGang c k f).xl = s.xl := rfl
@[simp] theorem State.updGang_run (s : State) (c k : Nat) (f : Gang → Gang) : (s.updGang c k f).run = s.run := rfl
@[simp] theorem State.updGang_eng (s : State) (c k : Nat) (f : Gang → Gang) : (s.updGang c k f).eng = s.eng := rfl
@[simp] theorem State.updGang_nb (s : State) (c k : Nat) (f : Gang → Gang) : (s.updGang c k f).nb = s.nb := rfl

@[simp] theorem State.updTok_ctl (s : State) (i : Nat) (f : Token → Token) : (s.updTok i f).ctl = s.ctl := rfl
@[simp] theorem State.updTok_mem (s : State) (i : Nat) (f : Token → Token) : (s.updTok i f).mem = s.mem := rfl
@[simp] theorem State.updTok_mm (s : State) (i : Nat) (f : Token → Token) : (s.updTok i f).mm = s.mm := rfl
@[simp] theorem State.updTok_pkg (s : State) (i : Nat) (f : Token → Token) : (s.updTok i f).pkg = s.pkg := rfl
@[simp] theorem State.updTok_host (s : State) (i : Nat) (f : Token → Token) : (s.updTok i f).host = s.host := rfl
@[simp] theorem State.updTok_ten (s : State) (i : Nat) (f : Token → Token) : (s.updTok i f).ten = s.ten := rfl
@[simp] theorem State.updTok_coh (s : State) (i : Nat) (f : Token → Token) : (s.updTok i f).coh = s.coh := rfl
@[simp] theorem State.updTok_ali (s : State) (i : Nat) (f : Token → Token) : (s.updTok i f).ali = s.ali := rfl
@[simp] theorem State.updTok_xl (s : State) (i : Nat) (f : Token → Token) : (s.updTok i f).xl = s.xl := rfl
@[simp] theorem State.updTok_run (s : State) (i : Nat) (f : Token → Token) : (s.updTok i f).run = s.run := rfl
@[simp] theorem State.updTok_eng (s : State) (i : Nat) (f : Token → Token) : (s.updTok i f).eng = s.eng := rfl
@[simp] theorem State.updTok_nb (s : State) (i : Nat) (f : Token → Token) : (s.updTok i f).nb = s.nb := rfl

@[simp] theorem State.updTx_ctl (s : State) (i : Nat) (f : Tx → Tx) : (s.updTx i f).ctl = s.ctl := rfl
@[simp] theorem State.updTx_mem (s : State) (i : Nat) (f : Tx → Tx) : (s.updTx i f).mem = s.mem := rfl
@[simp] theorem State.updTx_mm (s : State) (i : Nat) (f : Tx → Tx) : (s.updTx i f).mm = s.mm := rfl
@[simp] theorem State.updTx_pkg (s : State) (i : Nat) (f : Tx → Tx) : (s.updTx i f).pkg = s.pkg := rfl
@[simp] theorem State.updTx_host (s : State) (i : Nat) (f : Tx → Tx) : (s.updTx i f).host = s.host := rfl
@[simp] theorem State.updTx_ten (s : State) (i : Nat) (f : Tx → Tx) : (s.updTx i f).ten = s.ten := rfl
@[simp] theorem State.updTx_ali (s : State) (i : Nat) (f : Tx → Tx) : (s.updTx i f).ali = s.ali := rfl
@[simp] theorem State.updTx_xl (s : State) (i : Nat) (f : Tx → Tx) : (s.updTx i f).xl = s.xl := rfl
@[simp] theorem State.updTx_run (s : State) (i : Nat) (f : Tx → Tx) : (s.updTx i f).run = s.run := rfl
@[simp] theorem State.updTx_core (s : State) (i : Nat) (f : Tx → Tx) : (s.updTx i f).core = s.core := rfl
@[simp] theorem State.updTx_eng (s : State) (i : Nat) (f : Tx → Tx) : (s.updTx i f).eng = s.eng := rfl
@[simp] theorem State.updTx_nb (s : State) (i : Nat) (f : Tx → Tx) : (s.updTx i f).nb = s.nb := rfl

@[simp] theorem State.updTask_ctl (s : State) (i : Nat) (f : Task → Task) : (s.updTask i f).ctl = s.ctl := rfl
@[simp] theorem State.updTask_mem (s : State) (i : Nat) (f : Task → Task) : (s.updTask i f).mem = s.mem := rfl
@[simp] theorem State.updTask_mm (s : State) (i : Nat) (f : Task → Task) : (s.updTask i f).mm = s.mm := rfl
@[simp] theorem State.updTask_pkg (s : State) (i : Nat) (f : Task → Task) : (s.updTask i f).pkg = s.pkg := rfl
@[simp] theorem State.updTask_host (s : State) (i : Nat) (f : Task → Task) : (s.updTask i f).host = s.host := rfl
@[simp] theorem State.updTask_ten (s : State) (i : Nat) (f : Task → Task) : (s.updTask i f).ten = s.ten := rfl
@[simp] theorem State.updTask_coh (s : State) (i : Nat) (f : Task → Task) : (s.updTask i f).coh = s.coh := rfl
@[simp] theorem State.updTask_ali (s : State) (i : Nat) (f : Task → Task) : (s.updTask i f).ali = s.ali := rfl
@[simp] theorem State.updTask_xl (s : State) (i : Nat) (f : Task → Task) : (s.updTask i f).xl = s.xl := rfl
@[simp] theorem State.updTask_run (s : State) (i : Nat) (f : Task → Task) : (s.updTask i f).run = s.run := rfl
@[simp] theorem State.updTask_core (s : State) (i : Nat) (f : Task → Task) : (s.updTask i f).core = s.core := rfl
@[simp] theorem State.updTask_nb (s : State) (i : Nat) (f : Task → Task) : (s.updTask i f).nb = s.nb := rfl

@[simp] theorem State.updCmd_ctl (s : State) (i : Nat) (f : Cmd → Cmd) : (s.updCmd i f).ctl = s.ctl := rfl
@[simp] theorem State.updCmd_mem (s : State) (i : Nat) (f : Cmd → Cmd) : (s.updCmd i f).mem = s.mem := rfl
@[simp] theorem State.updCmd_mm (s : State) (i : Nat) (f : Cmd → Cmd) : (s.updCmd i f).mm = s.mm := rfl
@[simp] theorem State.updCmd_pkg (s : State) (i : Nat) (f : Cmd → Cmd) : (s.updCmd i f).pkg = s.pkg := rfl
@[simp] theorem State.updCmd_host (s : State) (i : Nat) (f : Cmd → Cmd) : (s.updCmd i f).host = s.host := rfl
@[simp] theorem State.updCmd_ten (s : State) (i : Nat) (f : Cmd → Cmd) : (s.updCmd i f).ten = s.ten := rfl
@[simp] theorem State.updCmd_coh (s : State) (i : Nat) (f : Cmd → Cmd) : (s.updCmd i f).coh = s.coh := rfl
@[simp] theorem State.updCmd_ali (s : State) (i : Nat) (f : Cmd → Cmd) : (s.updCmd i f).ali = s.ali := rfl
@[simp] theorem State.updCmd_xl (s : State) (i : Nat) (f : Cmd → Cmd) : (s.updCmd i f).xl = s.xl := rfl
@[simp] theorem State.updCmd_run (s : State) (i : Nat) (f : Cmd → Cmd) : (s.updCmd i f).run = s.run := rfl
@[simp] theorem State.updCmd_core (s : State) (i : Nat) (f : Cmd → Cmd) : (s.updCmd i f).core = s.core := rfl
@[simp] theorem State.updCmd_nb (s : State) (i : Nat) (f : Cmd → Cmd) : (s.updCmd i f).nb = s.nb := rfl

@[simp] theorem State.updGrp_ctl (s : State) (i : Nat) (f : Grp → Grp) : (s.updGrp i f).ctl = s.ctl := rfl
@[simp] theorem State.updGrp_mem (s : State) (i : Nat) (f : Grp → Grp) : (s.updGrp i f).mem = s.mem := rfl
@[simp] theorem State.updGrp_mm (s : State) (i : Nat) (f : Grp → Grp) : (s.updGrp i f).mm = s.mm := rfl
@[simp] theorem State.updGrp_pkg (s : State) (i : Nat) (f : Grp → Grp) : (s.updGrp i f).pkg = s.pkg := rfl
@[simp] theorem State.updGrp_host (s : State) (i : Nat) (f : Grp → Grp) : (s.updGrp i f).host = s.host := rfl
@[simp] theorem State.updGrp_ten (s : State) (i : Nat) (f : Grp → Grp) : (s.updGrp i f).ten = s.ten := rfl
@[simp] theorem State.updGrp_coh (s : State) (i : Nat) (f : Grp → Grp) : (s.updGrp i f).coh = s.coh := rfl
@[simp] theorem State.updGrp_ali (s : State) (i : Nat) (f : Grp → Grp) : (s.updGrp i f).ali = s.ali := rfl
@[simp] theorem State.updGrp_xl (s : State) (i : Nat) (f : Grp → Grp) : (s.updGrp i f).xl = s.xl := rfl
@[simp] theorem State.updGrp_run (s : State) (i : Nat) (f : Grp → Grp) : (s.updGrp i f).run = s.run := rfl
@[simp] theorem State.updGrp_eng (s : State) (i : Nat) (f : Grp → Grp) : (s.updGrp i f).eng = s.eng := rfl
@[simp] theorem State.updGrp_nb (s : State) (i : Nat) (f : Grp → Grp) : (s.updGrp i f).nb = s.nb := rfl

@[simp] theorem State.dropGrp_ctl (s : State) (i : Nat) : (s.dropGrp i).ctl = s.ctl := rfl
@[simp] theorem State.dropGrp_mem (s : State) (i : Nat) : (s.dropGrp i).mem = s.mem := rfl
@[simp] theorem State.dropGrp_mm (s : State) (i : Nat) : (s.dropGrp i).mm = s.mm := rfl
@[simp] theorem State.dropGrp_pkg (s : State) (i : Nat) : (s.dropGrp i).pkg = s.pkg := rfl
@[simp] theorem State.dropGrp_host (s : State) (i : Nat) : (s.dropGrp i).host = s.host := rfl
@[simp] theorem State.dropGrp_ten (s : State) (i : Nat) : (s.dropGrp i).ten = s.ten := rfl
@[simp] theorem State.dropGrp_coh (s : State) (i : Nat) : (s.dropGrp i).coh = s.coh := rfl
@[simp] theorem State.dropGrp_ali (s : State) (i : Nat) : (s.dropGrp i).ali = s.ali := rfl
@[simp] theorem State.dropGrp_xl (s : State) (i : Nat) : (s.dropGrp i).xl = s.xl := rfl
@[simp] theorem State.dropGrp_run (s : State) (i : Nat) : (s.dropGrp i).run = s.run := rfl
@[simp] theorem State.dropGrp_eng (s : State) (i : Nat) : (s.dropGrp i).eng = s.eng := rfl
@[simp] theorem State.dropGrp_nb (s : State) (i : Nat) : (s.dropGrp i).nb = s.nb := rfl

@[simp] theorem State.hears_mem (s : State) (e : Ev) : (s.hears e).mem = s.mem := rfl
@[simp] theorem State.hears_mm (s : State) (e : Ev) : (s.hears e).mm = s.mm := rfl
@[simp] theorem State.hears_pkg (s : State) (e : Ev) : (s.hears e).pkg = s.pkg := rfl
@[simp] theorem State.hears_host (s : State) (e : Ev) : (s.hears e).host = s.host := rfl
@[simp] theorem State.hears_ten (s : State) (e : Ev) : (s.hears e).ten = s.ten := rfl
@[simp] theorem State.hears_coh (s : State) (e : Ev) : (s.hears e).coh = s.coh := rfl
@[simp] theorem State.hears_ali (s : State) (e : Ev) : (s.hears e).ali = s.ali := rfl
@[simp] theorem State.hears_xl (s : State) (e : Ev) : (s.hears e).xl = s.xl := rfl
@[simp] theorem State.hears_run (s : State) (e : Ev) : (s.hears e).run = s.run := rfl
@[simp] theorem State.hears_core (s : State) (e : Ev) : (s.hears e).core = s.core := rfl
@[simp] theorem State.hears_eng (s : State) (e : Ev) : (s.hears e).eng = s.eng := rfl
@[simp] theorem State.hears_nb (s : State) (e : Ev) : (s.hears e).nb = s.nb := rfl

@[simp] theorem State.headGrp_ctl (s : State) (g : Grp) (r : List Grp) : (s.headGrp g r).ctl = s.ctl := rfl
@[simp] theorem State.headGrp_mem (s : State) (g : Grp) (r : List Grp) : (s.headGrp g r).mem = s.mem := rfl
@[simp] theorem State.headGrp_mm (s : State) (g : Grp) (r : List Grp) : (s.headGrp g r).mm = s.mm := rfl
@[simp] theorem State.headGrp_pkg (s : State) (g : Grp) (r : List Grp) : (s.headGrp g r).pkg = s.pkg := rfl
@[simp] theorem State.headGrp_host (s : State) (g : Grp) (r : List Grp) : (s.headGrp g r).host = s.host := rfl
@[simp] theorem State.headGrp_ten (s : State) (g : Grp) (r : List Grp) : (s.headGrp g r).ten = s.ten := rfl
@[simp] theorem State.headGrp_coh (s : State) (g : Grp) (r : List Grp) : (s.headGrp g r).coh = s.coh := rfl
@[simp] theorem State.headGrp_ali (s : State) (g : Grp) (r : List Grp) : (s.headGrp g r).ali = s.ali := rfl
@[simp] theorem State.headGrp_xl (s : State) (g : Grp) (r : List Grp) : (s.headGrp g r).xl = s.xl := rfl
@[simp] theorem State.headGrp_run (s : State) (g : Grp) (r : List Grp) : (s.headGrp g r).run = s.run := rfl
@[simp] theorem State.headGrp_eng (s : State) (g : Grp) (r : List Grp) : (s.headGrp g r).eng = s.eng := rfl
@[simp] theorem State.headGrp_nb (s : State) (g : Grp) (r : List Grp) : (s.headGrp g r).nb = s.nb := rfl

@[simp] theorem State.named_mem (s : State) (g : Grp) (r : List Grp) (t : Token) : (s.named g r t).mem = s.mem := rfl
@[simp] theorem State.named_mm (s : State) (g : Grp) (r : List Grp) (t : Token) : (s.named g r t).mm = s.mm := rfl
@[simp] theorem State.named_pkg (s : State) (g : Grp) (r : List Grp) (t : Token) : (s.named g r t).pkg = s.pkg := rfl
@[simp] theorem State.named_host (s : State) (g : Grp) (r : List Grp) (t : Token) : (s.named g r t).host = s.host := rfl
@[simp] theorem State.named_ten (s : State) (g : Grp) (r : List Grp) (t : Token) : (s.named g r t).ten = s.ten := rfl
@[simp] theorem State.named_coh (s : State) (g : Grp) (r : List Grp) (t : Token) : (s.named g r t).coh = s.coh := rfl
@[simp] theorem State.named_ali (s : State) (g : Grp) (r : List Grp) (t : Token) : (s.named g r t).ali = s.ali := rfl
@[simp] theorem State.named_xl (s : State) (g : Grp) (r : List Grp) (t : Token) : (s.named g r t).xl = s.xl := rfl
@[simp] theorem State.named_run (s : State) (g : Grp) (r : List Grp) (t : Token) : (s.named g r t).run = s.run := rfl
@[simp] theorem State.named_eng (s : State) (g : Grp) (r : List Grp) (t : Token) : (s.named g r t).eng = s.eng := rfl
@[simp] theorem State.named_nb (s : State) (g : Grp) (r : List Grp) (t : Token) : (s.named g r t).nb = s.nb := rfl

@[simp] theorem State.urge_mem (s : State) (e : Ev) : (s.urge e).mem = s.mem := rfl
@[simp] theorem State.urge_mm (s : State) (e : Ev) : (s.urge e).mm = s.mm := rfl
@[simp] theorem State.urge_pkg (s : State) (e : Ev) : (s.urge e).pkg = s.pkg := rfl
@[simp] theorem State.urge_host (s : State) (e : Ev) : (s.urge e).host = s.host := rfl
@[simp] theorem State.urge_ten (s : State) (e : Ev) : (s.urge e).ten = s.ten := rfl
@[simp] theorem State.urge_coh (s : State) (e : Ev) : (s.urge e).coh = s.coh := rfl
@[simp] theorem State.urge_ali (s : State) (e : Ev) : (s.urge e).ali = s.ali := rfl
@[simp] theorem State.urge_xl (s : State) (e : Ev) : (s.urge e).xl = s.xl := rfl
@[simp] theorem State.urge_run (s : State) (e : Ev) : (s.urge e).run = s.run := rfl
@[simp] theorem State.urge_core (s : State) (e : Ev) : (s.urge e).core = s.core := rfl
@[simp] theorem State.urge_eng (s : State) (e : Ev) : (s.urge e).eng = s.eng := rfl
@[simp] theorem State.urge_nb (s : State) (e : Ev) : (s.urge e).nb = s.nb := rfl

@[simp] theorem State.wait_mem (s : State) (e : Ev) : (s.wait e).mem = s.mem := rfl
@[simp] theorem State.wait_mm (s : State) (e : Ev) : (s.wait e).mm = s.mm := rfl
@[simp] theorem State.wait_pkg (s : State) (e : Ev) : (s.wait e).pkg = s.pkg := rfl
@[simp] theorem State.wait_host (s : State) (e : Ev) : (s.wait e).host = s.host := rfl
@[simp] theorem State.wait_ten (s : State) (e : Ev) : (s.wait e).ten = s.ten := rfl
@[simp] theorem State.wait_coh (s : State) (e : Ev) : (s.wait e).coh = s.coh := rfl
@[simp] theorem State.wait_ali (s : State) (e : Ev) : (s.wait e).ali = s.ali := rfl
@[simp] theorem State.wait_xl (s : State) (e : Ev) : (s.wait e).xl = s.xl := rfl
@[simp] theorem State.wait_run (s : State) (e : Ev) : (s.wait e).run = s.run := rfl
@[simp] theorem State.wait_core (s : State) (e : Ev) : (s.wait e).core = s.core := rfl
@[simp] theorem State.wait_eng (s : State) (e : Ev) : (s.wait e).eng = s.eng := rfl
@[simp] theorem State.wait_nb (s : State) (e : Ev) : (s.wait e).nb = s.nb := rfl

@[simp] theorem State.waitFirst_mem (s : State) (es : List Ev) : (s.waitFirst es).mem = s.mem := rfl
@[simp] theorem State.waitFirst_mm (s : State) (es : List Ev) : (s.waitFirst es).mm = s.mm := rfl
@[simp] theorem State.waitFirst_pkg (s : State) (es : List Ev) : (s.waitFirst es).pkg = s.pkg := rfl
@[simp] theorem State.waitFirst_host (s : State) (es : List Ev) : (s.waitFirst es).host = s.host := rfl
@[simp] theorem State.waitFirst_ten (s : State) (es : List Ev) : (s.waitFirst es).ten = s.ten := rfl
@[simp] theorem State.waitFirst_coh (s : State) (es : List Ev) : (s.waitFirst es).coh = s.coh := rfl
@[simp] theorem State.waitFirst_ali (s : State) (es : List Ev) : (s.waitFirst es).ali = s.ali := rfl
@[simp] theorem State.waitFirst_xl (s : State) (es : List Ev) : (s.waitFirst es).xl = s.xl := rfl
@[simp] theorem State.waitFirst_run (s : State) (es : List Ev) : (s.waitFirst es).run = s.run := rfl
@[simp] theorem State.waitFirst_core (s : State) (es : List Ev) : (s.waitFirst es).core = s.core := rfl
@[simp] theorem State.waitFirst_eng (s : State) (es : List Ev) : (s.waitFirst es).eng = s.eng := rfl
@[simp] theorem State.waitFirst_nb (s : State) (es : List Ev) : (s.waitFirst es).nb = s.nb := rfl

@[simp] theorem State.updHearth_ctl (s : State) (h : Nat) (f : Hearth → Hearth) : (s.updHearth h f).ctl = s.ctl := rfl
@[simp] theorem State.updHearth_mem (s : State) (h : Nat) (f : Hearth → Hearth) : (s.updHearth h f).mem = s.mem := rfl
@[simp] theorem State.updHearth_mm (s : State) (h : Nat) (f : Hearth → Hearth) : (s.updHearth h f).mm = s.mm := rfl
@[simp] theorem State.updHearth_pkg (s : State) (h : Nat) (f : Hearth → Hearth) : (s.updHearth h f).pkg = s.pkg := rfl
@[simp] theorem State.updHearth_ten (s : State) (h : Nat) (f : Hearth → Hearth) : (s.updHearth h f).ten = s.ten := rfl
@[simp] theorem State.updHearth_coh (s : State) (h : Nat) (f : Hearth → Hearth) : (s.updHearth h f).coh = s.coh := rfl
@[simp] theorem State.updHearth_ali (s : State) (h : Nat) (f : Hearth → Hearth) : (s.updHearth h f).ali = s.ali := rfl
@[simp] theorem State.updHearth_xl (s : State) (h : Nat) (f : Hearth → Hearth) : (s.updHearth h f).xl = s.xl := rfl
@[simp] theorem State.updHearth_run (s : State) (h : Nat) (f : Hearth → Hearth) : (s.updHearth h f).run = s.run := rfl
@[simp] theorem State.updHearth_core (s : State) (h : Nat) (f : Hearth → Hearth) : (s.updHearth h f).core = s.core := rfl
@[simp] theorem State.updHearth_eng (s : State) (h : Nat) (f : Hearth → Hearth) : (s.updHearth h f).eng = s.eng := rfl
@[simp] theorem State.updHearth_nb (s : State) (h : Nat) (f : Hearth → Hearth) : (s.updHearth h f).nb = s.nb := rfl

@[simp] theorem State.updLink_ctl (s : State) (l : Nat) (f : Link → Link) : (s.updLink l f).ctl = s.ctl := rfl
@[simp] theorem State.updLink_mem (s : State) (l : Nat) (f : Link → Link) : (s.updLink l f).mem = s.mem := rfl
@[simp] theorem State.updLink_mm (s : State) (l : Nat) (f : Link → Link) : (s.updLink l f).mm = s.mm := rfl
@[simp] theorem State.updLink_host (s : State) (l : Nat) (f : Link → Link) : (s.updLink l f).host = s.host := rfl
@[simp] theorem State.updLink_ten (s : State) (l : Nat) (f : Link → Link) : (s.updLink l f).ten = s.ten := rfl
@[simp] theorem State.updLink_coh (s : State) (l : Nat) (f : Link → Link) : (s.updLink l f).coh = s.coh := rfl
@[simp] theorem State.updLink_ali (s : State) (l : Nat) (f : Link → Link) : (s.updLink l f).ali = s.ali := rfl
@[simp] theorem State.updLink_xl (s : State) (l : Nat) (f : Link → Link) : (s.updLink l f).xl = s.xl := rfl
@[simp] theorem State.updLink_run (s : State) (l : Nat) (f : Link → Link) : (s.updLink l f).run = s.run := rfl
@[simp] theorem State.updLink_core (s : State) (l : Nat) (f : Link → Link) : (s.updLink l f).core = s.core := rfl
@[simp] theorem State.updLink_eng (s : State) (l : Nat) (f : Link → Link) : (s.updLink l f).eng = s.eng := rfl
@[simp] theorem State.updLink_nb (s : State) (l : Nat) (f : Link → Link) : (s.updLink l f).nb = s.nb := rfl

@[simp] theorem State.updL1_ctl (s : State) (c l : Nat) (f : L1Line → L1Line) : (s.updL1 c l f).ctl = s.ctl := rfl
@[simp] theorem State.updL1_mem (s : State) (c l : Nat) (f : L1Line → L1Line) : (s.updL1 c l f).mem = s.mem := rfl
@[simp] theorem State.updL1_mm (s : State) (c l : Nat) (f : L1Line → L1Line) : (s.updL1 c l f).mm = s.mm := rfl
@[simp] theorem State.updL1_pkg (s : State) (c l : Nat) (f : L1Line → L1Line) : (s.updL1 c l f).pkg = s.pkg := rfl
@[simp] theorem State.updL1_host (s : State) (c l : Nat) (f : L1Line → L1Line) : (s.updL1 c l f).host = s.host := rfl
@[simp] theorem State.updL1_ten (s : State) (c l : Nat) (f : L1Line → L1Line) : (s.updL1 c l f).ten = s.ten := rfl
@[simp] theorem State.updL1_ali (s : State) (c l : Nat) (f : L1Line → L1Line) : (s.updL1 c l f).ali = s.ali := rfl
@[simp] theorem State.updL1_xl (s : State) (c l : Nat) (f : L1Line → L1Line) : (s.updL1 c l f).xl = s.xl := rfl
@[simp] theorem State.updL1_run (s : State) (c l : Nat) (f : L1Line → L1Line) : (s.updL1 c l f).run = s.run := rfl
@[simp] theorem State.updL1_core (s : State) (c l : Nat) (f : L1Line → L1Line) : (s.updL1 c l f).core = s.core := rfl
@[simp] theorem State.updL1_eng (s : State) (c l : Nat) (f : L1Line → L1Line) : (s.updL1 c l f).eng = s.eng := rfl
@[simp] theorem State.updL1_nb (s : State) (c l : Nat) (f : L1Line → L1Line) : (s.updL1 c l f).nb = s.nb := rfl

@[simp] theorem State.updL2_ctl (s : State) (k l w : Nat) (f : L2Line → L2Line) : (s.updL2 k l w f).ctl = s.ctl := rfl
@[simp] theorem State.updL2_mem (s : State) (k l w : Nat) (f : L2Line → L2Line) : (s.updL2 k l w f).mem = s.mem := rfl
@[simp] theorem State.updL2_mm (s : State) (k l w : Nat) (f : L2Line → L2Line) : (s.updL2 k l w f).mm = s.mm := rfl
@[simp] theorem State.updL2_pkg (s : State) (k l w : Nat) (f : L2Line → L2Line) : (s.updL2 k l w f).pkg = s.pkg := rfl
@[simp] theorem State.updL2_host (s : State) (k l w : Nat) (f : L2Line → L2Line) : (s.updL2 k l w f).host = s.host := rfl
@[simp] theorem State.updL2_ten (s : State) (k l w : Nat) (f : L2Line → L2Line) : (s.updL2 k l w f).ten = s.ten := rfl
@[simp] theorem State.updL2_ali (s : State) (k l w : Nat) (f : L2Line → L2Line) : (s.updL2 k l w f).ali = s.ali := rfl
@[simp] theorem State.updL2_xl (s : State) (k l w : Nat) (f : L2Line → L2Line) : (s.updL2 k l w f).xl = s.xl := rfl
@[simp] theorem State.updL2_run (s : State) (k l w : Nat) (f : L2Line → L2Line) : (s.updL2 k l w f).run = s.run := rfl
@[simp] theorem State.updL2_core (s : State) (k l w : Nat) (f : L2Line → L2Line) : (s.updL2 k l w f).core = s.core := rfl
@[simp] theorem State.updL2_eng (s : State) (k l w : Nat) (f : L2Line → L2Line) : (s.updL2 k l w f).eng = s.eng := rfl
@[simp] theorem State.updL2_nb (s : State) (k l w : Nat) (f : L2Line → L2Line) : (s.updL2 k l w f).nb = s.nb := rfl

@[simp] theorem State.updThread_ctl (s : State) (c k l : Nat) (f : Thread → Thread) : (s.updThread c k l f).ctl = s.ctl := rfl
@[simp] theorem State.updThread_mem (s : State) (c k l : Nat) (f : Thread → Thread) : (s.updThread c k l f).mem = s.mem := rfl
@[simp] theorem State.updThread_mm (s : State) (c k l : Nat) (f : Thread → Thread) : (s.updThread c k l f).mm = s.mm := rfl
@[simp] theorem State.updThread_pkg (s : State) (c k l : Nat) (f : Thread → Thread) : (s.updThread c k l f).pkg = s.pkg := rfl
@[simp] theorem State.updThread_host (s : State) (c k l : Nat) (f : Thread → Thread) : (s.updThread c k l f).host = s.host := rfl
@[simp] theorem State.updThread_ten (s : State) (c k l : Nat) (f : Thread → Thread) : (s.updThread c k l f).ten = s.ten := rfl
@[simp] theorem State.updThread_coh (s : State) (c k l : Nat) (f : Thread → Thread) : (s.updThread c k l f).coh = s.coh := rfl
@[simp] theorem State.updThread_ali (s : State) (c k l : Nat) (f : Thread → Thread) : (s.updThread c k l f).ali = s.ali := rfl
@[simp] theorem State.updThread_xl (s : State) (c k l : Nat) (f : Thread → Thread) : (s.updThread c k l f).xl = s.xl := rfl
@[simp] theorem State.updThread_run (s : State) (c k l : Nat) (f : Thread → Thread) : (s.updThread c k l f).run = s.run := rfl
@[simp] theorem State.updThread_eng (s : State) (c k l : Nat) (f : Thread → Thread) : (s.updThread c k l f).eng = s.eng := rfl
@[simp] theorem State.updThread_nb (s : State) (c k l : Nat) (f : Thread → Thread) : (s.updThread c k l f).nb = s.nb := rfl

@[simp] theorem State.updFault_ctl (s : State) (c i : Nat) (f : FaultEnt → FaultEnt) : (s.updFault c i f).ctl = s.ctl := rfl
@[simp] theorem State.updFault_mem (s : State) (c i : Nat) (f : FaultEnt → FaultEnt) : (s.updFault c i f).mem = s.mem := rfl
@[simp] theorem State.updFault_mm (s : State) (c i : Nat) (f : FaultEnt → FaultEnt) : (s.updFault c i f).mm = s.mm := rfl
@[simp] theorem State.updFault_pkg (s : State) (c i : Nat) (f : FaultEnt → FaultEnt) : (s.updFault c i f).pkg = s.pkg := rfl
@[simp] theorem State.updFault_host (s : State) (c i : Nat) (f : FaultEnt → FaultEnt) : (s.updFault c i f).host = s.host := rfl
@[simp] theorem State.updFault_ten (s : State) (c i : Nat) (f : FaultEnt → FaultEnt) : (s.updFault c i f).ten = s.ten := rfl
@[simp] theorem State.updFault_coh (s : State) (c i : Nat) (f : FaultEnt → FaultEnt) : (s.updFault c i f).coh = s.coh := rfl
@[simp] theorem State.updFault_ali (s : State) (c i : Nat) (f : FaultEnt → FaultEnt) : (s.updFault c i f).ali = s.ali := rfl
@[simp] theorem State.updFault_run (s : State) (c i : Nat) (f : FaultEnt → FaultEnt) : (s.updFault c i f).run = s.run := rfl
@[simp] theorem State.updFault_core (s : State) (c i : Nat) (f : FaultEnt → FaultEnt) : (s.updFault c i f).core = s.core := rfl
@[simp] theorem State.updFault_eng (s : State) (c i : Nat) (f : FaultEnt → FaultEnt) : (s.updFault c i f).eng = s.eng := rfl
@[simp] theorem State.updFault_nb (s : State) (c i : Nat) (f : FaultEnt → FaultEnt) : (s.updFault c i f).nb = s.nb := rfl

@[simp] theorem State.updWalk_ctl (s : State) (i : Nat) (f : Walk → Walk) : (s.updWalk i f).ctl = s.ctl := rfl
@[simp] theorem State.updWalk_mem (s : State) (i : Nat) (f : Walk → Walk) : (s.updWalk i f).mem = s.mem := rfl
@[simp] theorem State.updWalk_mm (s : State) (i : Nat) (f : Walk → Walk) : (s.updWalk i f).mm = s.mm := rfl
@[simp] theorem State.updWalk_pkg (s : State) (i : Nat) (f : Walk → Walk) : (s.updWalk i f).pkg = s.pkg := rfl
@[simp] theorem State.updWalk_host (s : State) (i : Nat) (f : Walk → Walk) : (s.updWalk i f).host = s.host := rfl
@[simp] theorem State.updWalk_ten (s : State) (i : Nat) (f : Walk → Walk) : (s.updWalk i f).ten = s.ten := rfl
@[simp] theorem State.updWalk_coh (s : State) (i : Nat) (f : Walk → Walk) : (s.updWalk i f).coh = s.coh := rfl
@[simp] theorem State.updWalk_ali (s : State) (i : Nat) (f : Walk → Walk) : (s.updWalk i f).ali = s.ali := rfl
@[simp] theorem State.updWalk_run (s : State) (i : Nat) (f : Walk → Walk) : (s.updWalk i f).run = s.run := rfl
@[simp] theorem State.updWalk_core (s : State) (i : Nat) (f : Walk → Walk) : (s.updWalk i f).core = s.core := rfl
@[simp] theorem State.updWalk_eng (s : State) (i : Nat) (f : Walk → Walk) : (s.updWalk i f).eng = s.eng := rfl
@[simp] theorem State.updWalk_nb (s : State) (i : Nat) (f : Walk → Walk) : (s.updWalk i f).nb = s.nb := rfl

@[simp] theorem State.updPiece_ctl (s : State) (i : Nat) (f : Piece → Piece) : (s.updPiece i f).ctl = s.ctl := rfl
@[simp] theorem State.updPiece_mem (s : State) (i : Nat) (f : Piece → Piece) : (s.updPiece i f).mem = s.mem := rfl
@[simp] theorem State.updPiece_mm (s : State) (i : Nat) (f : Piece → Piece) : (s.updPiece i f).mm = s.mm := rfl
@[simp] theorem State.updPiece_pkg (s : State) (i : Nat) (f : Piece → Piece) : (s.updPiece i f).pkg = s.pkg := rfl
@[simp] theorem State.updPiece_host (s : State) (i : Nat) (f : Piece → Piece) : (s.updPiece i f).host = s.host := rfl
@[simp] theorem State.updPiece_ten (s : State) (i : Nat) (f : Piece → Piece) : (s.updPiece i f).ten = s.ten := rfl
@[simp] theorem State.updPiece_coh (s : State) (i : Nat) (f : Piece → Piece) : (s.updPiece i f).coh = s.coh := rfl
@[simp] theorem State.updPiece_xl (s : State) (i : Nat) (f : Piece → Piece) : (s.updPiece i f).xl = s.xl := rfl
@[simp] theorem State.updPiece_run (s : State) (i : Nat) (f : Piece → Piece) : (s.updPiece i f).run = s.run := rfl
@[simp] theorem State.updPiece_core (s : State) (i : Nat) (f : Piece → Piece) : (s.updPiece i f).core = s.core := rfl
@[simp] theorem State.updPiece_eng (s : State) (i : Nat) (f : Piece → Piece) : (s.updPiece i f).eng = s.eng := rfl
@[simp] theorem State.updPiece_nb (s : State) (i : Nat) (f : Piece → Piece) : (s.updPiece i f).nb = s.nb := rfl

@[simp] theorem State.updList_ctl (s : State) (i : Nat) (f : CList → CList) : (s.updList i f).ctl = s.ctl := rfl
@[simp] theorem State.updList_mem (s : State) (i : Nat) (f : CList → CList) : (s.updList i f).mem = s.mem := rfl
@[simp] theorem State.updList_mm (s : State) (i : Nat) (f : CList → CList) : (s.updList i f).mm = s.mm := rfl
@[simp] theorem State.updList_pkg (s : State) (i : Nat) (f : CList → CList) : (s.updList i f).pkg = s.pkg := rfl
@[simp] theorem State.updList_host (s : State) (i : Nat) (f : CList → CList) : (s.updList i f).host = s.host := rfl
@[simp] theorem State.updList_ten (s : State) (i : Nat) (f : CList → CList) : (s.updList i f).ten = s.ten := rfl
@[simp] theorem State.updList_coh (s : State) (i : Nat) (f : CList → CList) : (s.updList i f).coh = s.coh := rfl
@[simp] theorem State.updList_ali (s : State) (i : Nat) (f : CList → CList) : (s.updList i f).ali = s.ali := rfl
@[simp] theorem State.updList_xl (s : State) (i : Nat) (f : CList → CList) : (s.updList i f).xl = s.xl := rfl
@[simp] theorem State.updList_run (s : State) (i : Nat) (f : CList → CList) : (s.updList i f).run = s.run := rfl
@[simp] theorem State.updList_core (s : State) (i : Nat) (f : CList → CList) : (s.updList i f).core = s.core := rfl
@[simp] theorem State.updList_nb (s : State) (i : Nat) (f : CList → CList) : (s.updList i f).nb = s.nb := rfl

@[simp] theorem State.updSaved_ctl (s : State) (c g : Nat) (f : Saved → Saved) : (s.updSaved c g f).ctl = s.ctl := rfl
@[simp] theorem State.updSaved_mem (s : State) (c g : Nat) (f : Saved → Saved) : (s.updSaved c g f).mem = s.mem := rfl
@[simp] theorem State.updSaved_mm (s : State) (c g : Nat) (f : Saved → Saved) : (s.updSaved c g f).mm = s.mm := rfl
@[simp] theorem State.updSaved_pkg (s : State) (c g : Nat) (f : Saved → Saved) : (s.updSaved c g f).pkg = s.pkg := rfl
@[simp] theorem State.updSaved_host (s : State) (c g : Nat) (f : Saved → Saved) : (s.updSaved c g f).host = s.host := rfl
@[simp] theorem State.updSaved_ten (s : State) (c g : Nat) (f : Saved → Saved) : (s.updSaved c g f).ten = s.ten := rfl
@[simp] theorem State.updSaved_coh (s : State) (c g : Nat) (f : Saved → Saved) : (s.updSaved c g f).coh = s.coh := rfl
@[simp] theorem State.updSaved_ali (s : State) (c g : Nat) (f : Saved → Saved) : (s.updSaved c g f).ali = s.ali := rfl
@[simp] theorem State.updSaved_xl (s : State) (c g : Nat) (f : Saved → Saved) : (s.updSaved c g f).xl = s.xl := rfl
@[simp] theorem State.updSaved_core (s : State) (c g : Nat) (f : Saved → Saved) : (s.updSaved c g f).core = s.core := rfl
@[simp] theorem State.updSaved_eng (s : State) (c g : Nat) (f : Saved → Saved) : (s.updSaved c g f).eng = s.eng := rfl
@[simp] theorem State.updSaved_nb (s : State) (c g : Nat) (f : Saved → Saved) : (s.updSaved c g f).nb = s.nb := rfl

/-! ## Groups -/

@[simp] theorem Grp.adv_lanes (g : Grp) : g.adv.lanes = g.lanes := rfl
@[simp] theorem Grp.adv_id (g : Grp) : g.adv.id = g.id := rfl
@[simp] theorem Grp.adv_idx (g : Grp) : g.adv.idx = g.idx + 1 := rfl
@[simp] theorem Grp.adv_kext (g : Grp) : g.adv.kext = [] := rfl
@[simp] theorem Grp.adv_qual (g : Grp) : g.adv.qual = none := rfl
@[simp] theorem Grp.adv_fx (g : Grp) : g.adv.fx = g.fx := rfl
@[simp] theorem Grp.adv_arith (g : Grp) : g.adv.arith = g.arith := rfl
@[simp] theorem Grp.logs_lanes (g : Grp) (a : List (Nat × Nat × Nat)) : (g.logs a).lanes = g.lanes := rfl
@[simp] theorem Grp.logs_arith (g : Grp) (a : List (Nat × Nat × Nat)) : (g.logs a).arith = a := rfl
@[simp] theorem Grp.logs_fx (g : Grp) (a : List (Nat × Nat × Nat)) : (g.logs a).fx = g.fx := rfl
@[simp] theorem Grp.addFx_fx (g : Grp) (l : List Fx) : (g.addFx l).fx = g.fx ++ l := rfl
@[simp] theorem Grp.addFx_lanes (g : Grp) (l : List Fx) : (g.addFx l).lanes = g.lanes := rfl
@[simp] theorem Grp.addFx_arith (g : Grp) (l : List Fx) : (g.addFx l).arith = g.arith := rfl

/-! ## Sparse maps -/

section Maps

variable {α : Type}

theorem nget_nerase_self (d : α) (m : NMap α) (k : Nat) : nget d (nerase k m) k = d := by
  induction m with
  | nil => rfl
  | cons e t ih =>
    obtain ⟨j, x⟩ := e
    by_cases h : j = k <;> simp [nerase, nget, h, ih]

theorem nget_nerase_ne (d : α) (m : NMap α) {j k : Nat} (h : j ≠ k) : nget d (nerase k m) j = nget d m j := by
  induction m with
  | nil => rfl
  | cons e t ih =>
    obtain ⟨i, x⟩ := e
    by_cases hi : i = k
    · subst hi
      simp [nerase, nget, ih, Ne.symm h]
    · simp only [nerase, hi, if_false, nget, ih]

theorem nget_ninsert_ne (d : α) (x : α) (m : NMap α) {j k : Nat} (h : j ≠ k) : nget d (ninsert k x m) j = nget d m j := by
  induction m with
  | nil => simp [ninsert, nget, Ne.symm h]
  | cons e t ih =>
    obtain ⟨i, y⟩ := e
    by_cases hi : k < i
    · simp [ninsert, nget, hi, Ne.symm h]
    · simp [ninsert, nget, hi, ih]

theorem nget_ninsert_self (d : α) (x : α) (m : NMap α) {k : Nat} (h : ∀ e ∈ m, e.1 ≠ k) : nget d (ninsert k x m) k = x := by
  induction m with
  | nil => simp [ninsert, nget]
  | cons e t ih =>
    obtain ⟨i, y⟩ := e
    have hi : i ≠ k := h (i, y) (by simp)
    by_cases hk : k < i
    · simp [ninsert, nget, hk]
    · simp [ninsert, nget, hk, hi, ih (fun e he => h e (by simp [he]))]

theorem nerase_ne (m : NMap α) (k : Nat) : ∀ e ∈ nerase k m, e.1 ≠ k := by
  induction m with
  | nil => simp [nerase]
  | cons e t ih =>
    obtain ⟨i, y⟩ := e
    by_cases hi : i = k
    · simpa [nerase, hi] using ih
    · simp only [nerase, hi, if_false, List.forall_mem_cons]
      exact ⟨hi, ih⟩

variable [DecidableEq α]

/-- A value written is the value read. -/
@[simp] theorem nget_nset_self (d : α) (m : NMap α) (k : Nat) (x : α) : nget d (nset d m k x) k = x := by
  unfold nset
  split
  · rename_i h
    rw [h, nget_nerase_self]
  · exact nget_ninsert_self d x _ (nerase_ne m k)

/-- A write leaves every other key. -/
theorem nget_nset_ne (d : α) (m : NMap α) {j k : Nat} (x : α) (h : j ≠ k) : nget d (nset d m k x) j = nget d m j := by
  unfold nset
  split
  · exact nget_nerase_ne d m h
  · rw [nget_ninsert_ne d x _ h, nget_nerase_ne d m h]

theorem nwfFrom_mono {d : α} {m : NMap α} {a b : Nat} (hab : a ≤ b) (h : nwfFrom d b m = true) : nwfFrom d a m = true := by
  cases m with
  | nil => rfl
  | cons e t =>
    obtain ⟨j, x⟩ := e
    simp only [nwfFrom, Bool.and_eq_true, decide_eq_true_eq] at h ⊢
    exact ⟨⟨by omega, h.1.2⟩, h.2⟩

theorem nerase_wf {d : α} {m : NMap α} {lo : Nat} (k : Nat) (h : nwfFrom d lo m = true) : nwfFrom d lo (nerase k m) = true := by
  induction m generalizing lo with
  | nil => rfl
  | cons e t ih =>
    obtain ⟨j, x⟩ := e
    simp only [nwfFrom, Bool.and_eq_true, decide_eq_true_eq] at h
    by_cases hj : j = k
    · simp only [nerase, hj, if_true]
      exact nwfFrom_mono (by omega) (ih h.2)
    · simp only [nerase, hj, if_false, nwfFrom, Bool.and_eq_true, decide_eq_true_eq]
      exact ⟨h.1, ih h.2⟩

theorem ninsert_wf {d : α} {m : NMap α} {lo k : Nat} {x : α} (hk : lo ≤ k) (hx : x ≠ d) (hm : ∀ e ∈ m, e.1 ≠ k) (h : nwfFrom d lo m = true) :
    nwfFrom d lo (ninsert k x m) = true := by
  induction m generalizing lo with
  | nil => simp [ninsert, nwfFrom, hk, hx]
  | cons e t ih =>
    obtain ⟨j, y⟩ := e
    have hj : j ≠ k := hm (j, y) (by simp)
    simp only [nwfFrom, Bool.and_eq_true, decide_eq_true_eq] at h
    by_cases hlt : k < j
    · simp only [ninsert, hlt, if_true, nwfFrom, Bool.and_eq_true, decide_eq_true_eq]
      exact ⟨⟨hk, hx⟩, ⟨by omega, h.1.2⟩, h.2⟩
    · simp only [ninsert, hlt, if_false, nwfFrom, Bool.and_eq_true, decide_eq_true_eq]
      exact ⟨h.1, ih (by omega) (fun e he => hm e (by simp [he])) h.2⟩

/-- A write keeps the canonical form. -/
theorem nset_wf {d : α} {m : NMap α} (k : Nat) (x : α) (h : nwf d m = true) : nwf d (nset d m k x) = true := by
  unfold nset nwf
  split
  · exact nerase_wf k h
  · rename_i hx
    exact ninsert_wf (by omega) hx (nerase_ne m k) (nerase_wf k h)

end Maps

/-! ## Memory -/

/-- A byte stored keeps memory canonical. -/
theorem Memory.put_wf {m : Memory} (pa : Nat) (b : Byte) (h : Memory.wf m = true) : Memory.wf (Memory.put m pa b) = true := nset_wf pa b h

/-- Bytes stored keep memory canonical. -/
theorem Memory.putAll_wf {m : Memory} (pa : Nat) (bs : List Byte) (h : Memory.wf m = true) : Memory.wf (Memory.putAll m pa bs) = true := by
  induction bs generalizing m pa with
  | nil => exact h
  | cons b t ih => exact ih (pa + 1) (Memory.put_wf pa b h)

/-- A patch of a line keeps memory canonical. -/
theorem Memory.patch_wf {m : Memory} (base : Nat) (p : Patch) (h : Memory.wf m = true) : Memory.wf (Memory.patch m base p) = true := by
  induction p generalizing m with
  | nil => exact h
  | cons e t ih => exact ih (Memory.put_wf _ _ h)

/-- A byte stored is the byte read. -/
theorem Memory.put_self (m : Memory) (pa : Nat) (b : Byte) : nget 0 (Memory.put m pa b) pa = b := nget_nset_self 0 m pa b

/-- A byte stored leaves every other byte. -/
theorem Memory.put_ne (m : Memory) {pa q : Nat} (b : Byte) (h : q ≠ pa) : nget 0 (Memory.put m pa b) q = nget 0 m q := nget_nset_ne 0 m b h

/-- Bytes stored from pa on leave every byte outside them. -/
theorem Memory.putAll_ne (m : Memory) (pa : Nat) (bs : List Byte) {q : Nat} (h : q < pa ∨ pa + bs.length ≤ q) : nget 0 (Memory.putAll m pa bs) q = nget 0 m q := by
  induction bs generalizing m pa with
  | nil => rfl
  | cons b t ih =>
    simp only [List.length_cons] at h
    rw [Memory.putAll, ih _ _ (by omega), Memory.put_ne m b (by omega)]

/-- Bytes stored from pa on are the bytes read there. -/
theorem Memory.putAll_at (m : Memory) (pa : Nat) (bs : List Byte) {i : Nat} (h : i < bs.length) : nget 0 (Memory.putAll m pa bs) (pa + i) = (bs[i]'h) := by
  induction bs generalizing m pa i with
  | nil => simp at h
  | cons b t ih =>
    cases i with
    | zero =>
      rw [Memory.putAll, Memory.putAll_ne _ _ _ (by omega)]
      exact Memory.put_self m pa b
    | succ j =>
      have e : pa + (j + 1) = pa + 1 + j := by omega
      rw [Memory.putAll, e, ih _ _ (by simpa using h)]
      rfl

/-- Bytes stored keep the machine's invariant. -/
theorem State.putBytes_inv {s : State} (pa : Nat) (bs : List Byte) (h : s.inv) : (s.putBytes pa bs).inv := Memory.putAll_wf pa bs h

end Sys2Proof.Machine
end

