-- ==== Sys2Proof/Laws/Ways.lean ====
section
/-! SUPPORT. What a transfer over the ways of the package can change: the links' counters and buffers, the messages that a counter's bound brings, and the notes of what failed. -/

namespace Sys2Proof.Machine

open Sys2Proof

/-- t is s but for the links, the agenda and the notes of failures. -/
def State.Sent (s t : State) : Prop := ∃ ls ag fd c, t = { s with pkg.links := ls, ctl.agenda := ag, ctl.failDue := fd, ctl.cut := c }

theorem State.Sent.refl (s : State) : s.Sent s := ⟨_, _, _, _, rfl⟩

theorem State.Sent.trans {s t u : State} (h : s.Sent t) (k : t.Sent u) : s.Sent u := by
  obtain ⟨_, _, _, _, rfl⟩ := h
  obtain ⟨_, _, _, _, rfl⟩ := k
  exact ⟨_, _, _, _, rfl⟩

theorem State.Sent.mem {s t : State} (h : s.Sent t) : t.mem = s.mem := by obtain ⟨_, _, _, _, rfl⟩ := h; rfl
theorem State.Sent.core {s t : State} (h : s.Sent t) : t.core = s.core := by obtain ⟨_, _, _, _, rfl⟩ := h; rfl
theorem State.Sent.ten {s t : State} (h : s.Sent t) : t.ten = s.ten := by obtain ⟨_, _, _, _, rfl⟩ := h; rfl
theorem State.Sent.run {s t : State} (h : s.Sent t) : t.run = s.run := by obtain ⟨_, _, _, _, rfl⟩ := h; rfl
theorem State.Sent.xl {s t : State} (h : s.Sent t) : t.xl = s.xl := by obtain ⟨_, _, _, _, rfl⟩ := h; rfl
theorem State.Sent.coh {s t : State} (h : s.Sent t) : t.coh = s.coh := by obtain ⟨_, _, _, _, rfl⟩ := h; rfl

/-- A bridge that is UP, with room under its key and nothing of an older message on the line, lets a message through. -/
theorem State.lets_of_up {s : State} {l n : Nat} (h : (s.link l).st = .up) (k : (s.link l).tx + 2 ^ 32 ≤ 2 ^ 62) (f : s.flying (linkId l) = false) : s.lets l (flitCount n) = true := by
  have : Config.flits n % 2 ^ 32 < 2 ^ 32 := Nat.mod_lt _ (by decide)
  have : (s.link l).tx + (1 + Config.flits n % 2 ^ 32) ≤ 2 ^ 62 := by omega
  simp only [State.lets, flitCount, h, f, Bool.and_eq_true]
  exact ⟨⟨rfl, decide_eq_true this⟩, rfl⟩

theorem State.updLink_sent (s : State) (l : Nat) (f : Link → Link) : s.Sent (s.updLink l f) := ⟨_, _, _, _, rfl⟩

theorem State.setLink_sent (s : State) (l : Nat) (st : LinkState) : s.Sent (s.setLink l st) := by
  unfold State.setLink State.updEnds
  split
  · exact s.updLink_sent ..
  · exact (s.updLink_sent ..).trans (State.updLink_sent ..)

theorem State.counted_sent (s : State) (l n : Nat) : s.Sent (s.counted l n) := by
  unfold State.counted
  split
  · exact ⟨_, _, _, _, rfl⟩
  · split <;> exact ⟨_, _, _, _, rfl⟩

theorem State.bridgeFlit_sent (s : State) (l k : Nat) : s.Sent (s.bridgeFlit l k).1 := by
  unfold State.bridgeFlit
  split
  · exact .refl s
  · have two (q : Prop) [Decidable q] (t u : State × Bool) (ht : s.Sent t.1) (hu : s.Sent u.1) : s.Sent (if q then t else u).1 := by split <;> assumption
    refine two _ _ _ ?_ ?_
    · exact ((s.updLink_sent ..).trans (State.updLink_sent ..)).trans ((State.setLink_sent ..).trans ⟨_, _, _, _, rfl⟩)
    · exact ((s.updLink_sent ..).trans (State.updLink_sent ..)).trans (State.counted_sent ..)

theorem State.sendOver_sent (s : State) (l n : Nat) : s.Sent (s.sendOver l n).1 := by
  unfold State.sendOver
  suffices h : ∀ (xs : List Nat) (q : State × Bool), s.Sent q.1 → s.Sent (xs.foldl (fun (q : State × Bool) i => if q.2 then q.1.bridgeFlit l (s.ctl.freeCtr + i) else q) q).1 from h _ _ (.refl s)
  intro xs
  induction xs with
  | nil => exact fun _ h => h
  | cons x t ih =>
    intro q h
    refine ih _ ?_
    dsimp only
    split
    · exact h.trans (State.bridgeFlit_sent ..)
    · exact h

/-- An access and its answer change nothing beside what Sent names, whether or not they get through. -/
theorem State.reach_sent (s : State) (a b : Node) : s.Sent (s.reach a b).1 := by
  have cut (t : State) : t.Sent { t with ctl.cut := true } := ⟨_, _, _, _, rfl⟩
  unfold State.reach
  split
  · exact .refl s
  · exact cut s
  · split
    · exact .refl s
    · dsimp only
      have h := s.sendOver_sent (bridgeEnd (nodeStack a) (nodeStack b)) (flitCount s.ctl.freeCtr)
      split
      · have k := h.trans (State.sendOver_sent _ (bridgeEnd (nodeStack b) (nodeStack a)) (flitCount (s.ctl.freeCtr + 1)))
        split
        · exact k
        · exact k.trans (cut _)
      · exact h.trans (cut _)

theorem State.reachAll_sent (s : State) (a : Node) (bs : List Node) : s.Sent (s.reachAll a bs).1 := by
  unfold State.reachAll
  suffices h : ∀ (xs : List Node) (q : State × Bool), s.Sent q.1 → s.Sent (xs.foldl (fun (q : State × Bool) b => if q.2 then q.1.reach a b else q) q).1 from h _ _ (.refl s)
  intro xs
  induction xs with
  | nil => exact fun _ h => h
  | cons x t ih =>
    intro q h
    refine ih _ ?_
    dsimp only
    split
    · exact h.trans (State.reach_sent ..)
    · exact h

/-- What a read of the Reeve's crosses. -/
theorem State.readOver_sent (s : State) (pa n : Nat) : s.Sent (s.readOver pa n).1 := State.reachAll_sent ..

end Sys2Proof.Machine
end

