-- ==== Sys2Proof/Machine/Window.lean ====
section
/-! DEFINITION. What reads of the management window (R34) and of a function's doorbell page (R55) answer: they change nothing, so they are no events of the machine. -/

namespace Sys2Proof.Machine

open Sys2Proof

/-- BOOTST (R35). -/
def State.bootst (s : State) : Nat :=
  setBit (setBit (setBits (setBits (setBits 0 31 28 s.host.step) 27 24 s.host.fail) 15 0 s.host.svn) 23 s.host.ready) 22 s.host.recov

/-- ISLANDi (R21): FLOOR, FSET, VSET, THROT, BUSY. While BUSY is 1 the fields still read the settings before the change (DESIGN CHOICE, log 76). -/
def Island.word (x : Island) : Nat :=
  setBit (setBit (setBits (setBits (setBits 0 47 36 x.floor) 35 24 x.fset) 23 12 x.vset) 1 x.throt) 0 x.change.isSome

/-- CATCTL (R113). -/
def State.catctl (s : State) : Nat := setBits (setBits 0 29 16 s.ali.limit) 7 0 s.ali.hot

/-- CATSTAT of slice m (R113). -/
def State.catstat (s : State) (m : Nat) : Nat :=
  setBits (setBits (setBits 0 63 48 (nget 0 s.ali.eager m)) 47 32 (nget 0 s.ali.hotmat m)) 13 0 (s.used m)

/-- A read of the 8 bytes at an offset that is a multiple of 8, and of the 4 bytes of a TCOL at a multiple of 4 (R34): 0 where the map assigns nothing, and
for GSTEP (R183). -/
def State.windowRead (s : State) (off : Nat) : Nat :=
  if off = 0x0 then s.bootst
  else if off = 0x8 then s.host.hartid.toNat
  else if 0x100 ≤ off ∧ off < 0x200 then fieldOf (s.host.meas.flatMap (fun m => m)) (off - 0x100) 8
  else if 0x1000 ≤ off ∧ off < 0x1180 then ((s.pkg.tcol.drop ((off - 0x1000) / 4)).headD 0).toNat
  else if 0x8000 ≤ off ∧ off < 0xC000 then s.trec ((off - 0x8000) / 64) (off % 64 / 8)
  else if off = 0xC000 then s.ten.qtbase.toNat
  else if off = 0xC008 then s.ten.serial
  else if off = 0xC010 then leNat (s.ten.wrrw.map (fun w => BitVec.ofNat 8 w))
  else if off = 0xC018 then s.ten.sysevr.toNat
  else if off = 0xC040 then s.run.savebase.toNat
  else if off = 0xC048 then s.run.savecnt.toNat
  else if off = 0xC050 then s.pkg.holtNode.toNat
  else if off = 0xC060 then s.host.hdmBase.toNat
  else if off = 0xC068 then s.host.hdmSize.toNat
  else if off = 0xC100 then s.xl.sdva.toNat
  else if off = 0xC108 then s.xl.sdack.toNat
  else if off = 0xC110 then s.xl.sdctl.toNat
  else if off = 0xC200 then s.run.estsel.toNat
  else if 0xC208 ≤ off ∧ off < 0xC228 then fieldOf s.run.estsnap (off - 0xC208) 8
  else if 0xC300 ≤ off ∧ off < 0xC380 then ((s.run.pins.drop ((off - 0xC300) / 8)).headD 0).toNat
  else if off = 0xC400 then s.nb.nbctl.toNat
  else if 0xC500 ≤ off ∧ off < 0xC5C0 then ((s.pkg.islands.drop ((off - 0xC500) / 8)).headD (resetIsland 0)).word
  else if 0xD000 ≤ off ∧ off < 0xE000 then (if off % 16 = 8 then nget 0 s.ten.hsctl ((off - 0xD000) / 16) else nget 0 s.ten.hsring ((off - 0xD000) / 16))
  else if off = 0xE000 then s.catctl
  else if 0xE100 ≤ off ∧ off < 0xE280 then s.catstat ((off - 0xE100) / 8)
  else if 0xE800 ≤ off ∧ off < 0xF000 then nget 0 s.ten.svcring ((off - 0xE800) / 8)
  else if 0xF000 ≤ off ∧ off < 0x10000 then (if off % 16 = 8 then s.txctl ((off - 0xF000) / 16) else nget 0 s.ten.hatp ((off - 0xF000) / 16))
  else 0

/-- A read of 4 or 8 bytes at an offset of a function's doorbell page: none, a completer abort, where the function's interface has left RUN (R91). SVRPLY, SVRGO and SVCHEAD
read as 0 (R384, R385); what the rest of the page reads as is given nowhere and is a free value (DESIGN CHOICE, log 97). -/
def State.pageRead (s : State) (port func off : Nat) : Option Nat :=
  if s.refuses port func then none
  else if 0x100 ≤ off ∧ off < 0x130 then some 0
  else some (Config.freeWord s.ctl.freeCtr).toNat

end Sys2Proof.Machine
end

