-- ==== Sys2Proof/Tests/Slice0.lean ====
section
/-! SUPPORT. Tests of the model: ill-formed terms, every word of the table written out from its encoding, single steps with the manual's own values, and for each statement for the provers states and operands that meet its hypotheses. -/

namespace Sys2Proof.Tests

-- The tests are checked one after the other: many at once each keep a thread's stack.
set_option Elab.async false

open Sys2Proof Sys2Proof.Machine

/-! ## States of the tests -/

/-- One lane of a run, with four predicates and two calls to its name. -/
def lane0 : RLane := { laneOf (probeGang, 0) with preds := 0x0D, depth := 4, calls := [7, 9] }

/-- Another lane of the same gang. -/
def lane1 : RLane := { laneOf (probeGang, 1) with preds := 0x0C, depth := 4, calls := [8] }

/-- A run of two lanes at its first word. -/
def twoLanes : Grp := { probeGrp 0 with id := 5, pc := 20, words := [(0x80000000, 20), (0x01000000, 20)], lanes := [lane0, lane1] }

/-- A gang with some values in V1 to V3 of lanes 0 and 1, and an extended block. -/
def someGang : Gang :=
  { probeGang with v := [(32 * 1, clean 7), (32 * 1 + 1, clean 0xFFFFFFFE), (32 * 2, clean 3), (32 * 2 + 1, clean 5)], xacq := true }

/-- A package with one launch, one gang and one run of it. -/
def small : State :=
  { State.reset.setTState 0 1 with
    ctl.agenda := [], ctl.nextId := 9, run.launches := [probeLaunch], run.tcbs := [probeTcb], core.gangs := [someGang], core.issue := [twoLanes] }

/-- small with another run at its head. -/
def smallWith (g : Grp) : State := { small with core.issue := [g] }

/-- A leaf that lets everything through. -/
def openLeaf : PAttr := { fattr := 0, stbl := false, uncached := false, size := 12, r := true, w := true, x := true }

/-- A translation of the device half at the virtual page 0xFF00000000000000 plus n, to the HBM page of tenant 0's window at the same offset. -/
def pageAt (n : Nat) : TlbEnt := { stack := 0, tenant := 0, va := 0xFF00000000000000 + 4096 * n, size := 12, pa := 4096 * n, attr := openLeaf, a := true, d := true }

/-- small with a window over the first MiB of HBM and two pages of it mapped. -/
def mapped : State := { (small.setTrec 0 3 0).setTrec 0 4 0x100000 with xl.tlb := [pageAt 0, pageAt 1] }

/-! ## Decidable forms of what the statements ask for -/

/-- Issues, as a test. -/
def issuesOk (s : State) (g : Grp) (rest : List Grp) (gd : BitVec 3) (srcs dsts : List Nat) : Bool :=
  decide (s.core.issue = g :: rest) && rest.all (fun x => x.id != g.id) && g.lanes.all (fun l => decide (guardEntry gd ≤ l.depth)) &&
    g.lanes.all (fun l => decide (l.gate gd ≠ .pois)) &&
    g.lanes.all (fun l => srcs.all (fun c => match s.read g l c with
      | .ok v => !v.bad
      | .error _ => false)) &&
    g.lanes.all (fun l => dsts.all (fun c => s.dstOk g l c)) && decide ((g.lanes.map (fun l => l.lane)).Nodup)

theorem issues_of_ok {s : State} {g : Grp} {rest : List Grp} {gd : BitVec 3} {srcs dsts : List Nat} (h : issuesOk s g rest gd srcs dsts = true) :
    Issues s g rest gd srcs dsts := by
  simp only [issuesOk, Bool.and_eq_true, List.all_eq_true, decide_eq_true_eq, bne_iff_ne] at h
  obtain ⟨⟨⟨⟨⟨⟨h1, h2⟩, h3⟩, h4⟩, h5⟩, h6⟩, h7⟩ := h
  refine ⟨h1, h2, h3, h4, fun l hl _ c hc => ?_, fun l hl _ c hc => h6 l hl c hc, h7⟩
  have := h5 l hl c hc
  split at this
  · rename_i v hv
    exact ⟨v, hv, by simpa using this⟩
  · simp at this

/-- Tokens, as a test. -/
def tokensOk (s : State) (g : Grp) (rest : List Grp) (gd : BitVec 3) (srcs dsts : List Nat) (k : BitVec 3) : Bool :=
  issuesOk s g rest gd srcs dsts && g.lanes.any (fun l => decide (l.gate gd = .on)) && !s.tokBusy g k.toNat

theorem tokens_of_ok {s : State} {g : Grp} {rest : List Grp} {gd : BitVec 3} {srcs dsts : List Nat} {k : BitVec 3} (h : tokensOk s g rest gd srcs dsts k = true) :
    Tokens s g rest gd srcs dsts k := by
  simp only [tokensOk, Bool.and_eq_true, List.any_eq_true, decide_eq_true_eq, Bool.not_eq_true'] at h
  exact { issues_of_ok h.1.1 with some := h.1.2, free := h.2 }

/-! ## Words that find their operands -/

/-- Two lanes, guard 0 and guard 6 (not p2), sources in V, destinations in V, X, o, t and the latch alone. -/
theorem test_meets_issues : Issues small twoLanes [] 0 [1, 2] [7] ∧ Issues small twoLanes [] 6 [1, 2, 95] [95] ∧ Issues small twoLanes [] 1 [1] [104] ∧ Issues small twoLanes [] 2 [1] [127] ∧
    Issues small twoLanes [] 3 [] [96] ∧ Issues small twoLanes [] 0 [] [] :=
  ⟨issues_of_ok (by decide), issues_of_ok (by decide), issues_of_ok (by decide), issues_of_ok (by decide), issues_of_ok (by decide), issues_of_ok (by decide)⟩

/-- The first and the last token. -/
theorem test_meets_tokens : Tokens small twoLanes [] 0 [1] [7] 0 ∧ Tokens small twoLanes [] 1 [1, 2] [7] 7 := ⟨tokens_of_ok (by decide), tokens_of_ok (by decide)⟩

/-! ## Ill-formed terms: one for each check, which the check refuses -/

theorem smoke_wellformed : (Instr.iadd 0 3 5 6 7).check = none ∧ (Instr.endRun 4 0 0).check = none ∧ (Instr.srd 0 0 4 0x10).check = none ∧ (Instr.qual 0 3 4 6).check = none := by decide
theorem smoke_reservedGuard : (Instr.iadd 0 4 5 6 7).check = some .reservedGuard ∧ (Instr.exit 0 4).check = some .reservedGuard := by decide
theorem smoke_reservedDestination : (Instr.iadd 0 0 97 6 7).check = some .reservedDestination ∧ (Instr.mov 0 0 103 6).check = some .reservedDestination ∧ (Instr.waitAny 0 0 112 1 2).check = some .reservedDestination := by decide
theorem smoke_tokenDestination : (Instr.frcp 0 0 96 8 1).check = some .tokenDestination ∧ (Instr.ld32 0 0 112 2 2 2).check = some .tokenDestination := by decide
theorem smoke_reservedBase : (Instr.ld32 0 0 4 3 2 2).check = some .reservedBase ∧ (Instr.pref 0 0 98 0).check = some .reservedBase := by decide
theorem smoke_reservedRegister : (Instr.ld64 0 0 5 2 0 0).check = some .reservedRegister ∧ (Instr.ld128 0 0 6 2 0 0).check = some .reservedRegister ∧ (Instr.st128 0 0 2 2 0).check = some .reservedRegister ∧
    (Instr.cas 0 0 94 2 2).check = some .reservedRegister ∧ (Instr.eacc 0 0 3 3).check = some .reservedRegister := by decide
theorem smoke_reservedFunction : (Instr.icmp 0 0 6 1 2).check = some .reservedFunction ∧ (Instr.cvti 0 0 1 2 5).check = some .reservedFunction ∧ (Instr.redx 0 0 1 2 11 0).check = some .reservedFunction ∧
    (Instr.eacc 0 0 2 6).check = some .reservedFunction := by decide
theorem smoke_reservedCombination : (Instr.phase 0 0 3 4).check = some .reservedCombination ∧ (Instr.fenceAcq 0 0 7).check = some .reservedCombination ∧ (Instr.red 0 0 2 2 6 0).check = some .reservedCombination ∧
    (Instr.cas 0 0 2 2 4).check = some .reservedCombination := by decide
theorem smoke_reservedSpecial : (Instr.srd 0 0 4 0x02).check = some .reservedSpecial ∧ (Instr.swr 0 0 0x10 7).check = some .reservedSpecial ∧ (Instr.swr 0 0 0x130 7).check = some .reservedSpecial := by decide
theorem smoke_reservedPayload : (Instr.qual 0 0 5 0).check = some .reservedPayload ∧ (Instr.qual 0 0 1 7).check = some .reservedPayload ∧ (Instr.qual 0 0 0 1).check = some .reservedPayload := by decide
theorem smoke_reservedTrailer : (Instr.endRun 4 1 0).check = some .reservedTrailer ∧ (Instr.endRun 4 0 2).check = some .reservedTrailer := by decide
theorem smoke_unassigned : decode 0x00800000 = .error .unassigned ∧ decode 0x44000050 = .error .reservedFunction ∧ decode 0x10184000 = .error .reservedDestination := by decide

/-! ## Words: each word of the table written out from its encoding (R263 to R280), field by field from bit 31 down -/

set_option maxRecDepth 4000 in
theorem test_decode_nop_to_brk :
    decodeWord (1#1 ++ 0#7 ++ 0#3 ++ 0#7 ++ 0#7 ++ 0#7) = some (.nop 1) ∧
    decodeWord (1#8 ++ 0#3 ++ 90#8 ++ 1#1 ++ 3#4 ++ 0#1 ++ 0#7) = some (.endRun 90 1 3) ∧
    decodeWord (1#1 ++ 2#7 ++ 6#3 ++ 1398101#21) = some (.bra 1 6 1398101) ∧
    decodeWord (1#1 ++ 3#7 ++ 6#3 ++ 1398101#21) = some (.call 1 6 1398101) ∧
    decodeWord (1#1 ++ 4#7 ++ 6#3 ++ 0#7 ++ 5#7 ++ 0#7) = some (.brx 1 6 5) ∧
    decodeWord (1#1 ++ 5#7 ++ 6#3 ++ 0#7 ++ 0#7 ++ 0#7) = some (.exit 1 6) ∧
    decodeWord (1#1 ++ 5#7 ++ 6#3 ++ 0#7 ++ 0#7 ++ 1#7) = some (.ret 1 6) ∧
    decodeWord (1#1 ++ 5#7 ++ 0#3 ++ 0#7 ++ 0#7 ++ 2#7) = some (.acqx 1) ∧
    decodeWord (1#1 ++ 5#7 ++ 0#3 ++ 0#7 ++ 0#7 ++ 3#7) = some (.relx 1) ∧
    decodeWord (1#1 ++ 5#7 ++ 6#3 ++ 0#7 ++ 0#7 ++ 4#7) = some (.brk 1 6) := by
  decide

set_option maxRecDepth 4000 in
theorem test_decode_join_to_phase :
    decodeWord (1#1 ++ 6#7 ++ 6#3 ++ 0#7 ++ 5#7 ++ 0#7) = some (.join 1 6 5) ∧
    decodeWord (1#1 ++ 7#7 ++ 6#3 ++ 0#7 ++ 5#7 ++ 0#7) = some (.svc 1 6 5) ∧
    decodeWord (1#1 ++ 8#7 ++ 0#3 ++ 0#7 ++ 0#7 ++ 5#7) = some (.bar 1 5) ∧
    decodeWord (1#1 ++ 9#7 ++ 6#3 ++ 5#7 ++ 22#7 ++ 39#7) = some (.waitAny 1 6 5 22 39) ∧
    decodeWord (1#1 ++ 10#7 ++ 6#3 ++ 5#7 ++ 22#7 ++ 39#7) = some (.waitAll 1 6 5 22 39) ∧
    decodeWord (1#1 ++ 11#7 ++ 6#3 ++ 0#7 ++ 5#7 ++ 22#7) = some (.arm 1 6 5 22) ∧
    decodeWord (1#1 ++ 12#7 ++ 6#3 ++ 0#7 ++ 0#7 ++ 2#3 ++ 14#4) = some (.fenceAcq 1 6 2) ∧
    decodeWord (1#1 ++ 12#7 ++ 6#3 ++ 0#7 ++ 0#7 ++ 7#3 ++ 2#3 ++ 0#1) = some (.fenceRel 1 6 2) ∧
    decodeWord (1#1 ++ 12#7 ++ 6#3 ++ 0#7 ++ 0#7 ++ 2#3 ++ 2#3 ++ 0#1) = some (.fenceAr 1 6 2 2) ∧
    decodeWord (1#1 ++ 13#7 ++ 6#3 ++ 0#7 ++ 0#7 ++ 2#3 ++ 2#3 ++ 0#1) = some (.phase 1 6 2 2) := by
  decide

set_option maxRecDepth 4000 in
theorem test_decode_emit_to_imulhN32 :
    decodeWord (1#1 ++ 14#7 ++ 6#3 ++ 0#7 ++ 5#7 ++ 0#7) = some (.emit 1 6 5) ∧
    decodeWord (1#1 ++ 14#7 ++ 6#3 ++ 0#7 ++ 5#7 ++ 16#7) = some (.post 1 6 5) ∧
    decodeWord (1#1 ++ 14#7 ++ 6#3 ++ 0#7 ++ 20#7 ++ 2#3 ++ 3#4) = some (.eacc 1 6 20 3) ∧
    decodeWord (15#8 ++ 2386092#24) = some (.kext 2386092) ∧
    decodeWord (1#1 ++ 16#7 ++ 6#3 ++ 5#7 ++ 22#7 ++ 39#7) = some (.iadd 1 6 5 22 39) ∧
    decodeWord (1#1 ++ 17#7 ++ 6#3 ++ 5#7 ++ 22#7 ++ 39#7) = some (.isub 1 6 5 22 39) ∧
    decodeWord (1#1 ++ 18#7 ++ 6#3 ++ 5#7 ++ 22#7 ++ 39#7) = some (.imul 1 6 5 22 39) ∧
    decodeWord (1#1 ++ 19#7 ++ 6#3 ++ 5#7 ++ 22#7 ++ 39#7) = some (.imad 1 6 5 22 39) ∧
    decodeWord (1#1 ++ 20#7 ++ 6#3 ++ 5#7 ++ 22#7 ++ 39#7) = some (.imulhS32 1 6 5 22 39) ∧
    decodeWord (1#1 ++ 21#7 ++ 6#3 ++ 5#7 ++ 22#7 ++ 39#7) = some (.imulhN32 1 6 5 22 39) := by
  decide

set_option maxRecDepth 4000 in
theorem test_decode_idivS32_to_mov :
    decodeWord (1#1 ++ 22#7 ++ 6#3 ++ 5#7 ++ 22#7 ++ 39#7) = some (.idivS32 1 6 5 22 39) ∧
    decodeWord (1#1 ++ 23#7 ++ 6#3 ++ 5#7 ++ 22#7 ++ 39#7) = some (.idivN32 1 6 5 22 39) ∧
    decodeWord (1#1 ++ 24#7 ++ 6#3 ++ 5#7 ++ 22#7 ++ 39#7) = some (.iremS32 1 6 5 22 39) ∧
    decodeWord (1#1 ++ 25#7 ++ 6#3 ++ 5#7 ++ 22#7 ++ 39#7) = some (.iremN32 1 6 5 22 39) ∧
    decodeWord (1#1 ++ 26#7 ++ 6#3 ++ 5#7 ++ 22#7 ++ 39#7) = some (.iminS32 1 6 5 22 39) ∧
    decodeWord (1#1 ++ 27#7 ++ 6#3 ++ 5#7 ++ 22#7 ++ 39#7) = some (.iminN32 1 6 5 22 39) ∧
    decodeWord (1#1 ++ 28#7 ++ 6#3 ++ 5#7 ++ 22#7 ++ 39#7) = some (.imaxS32 1 6 5 22 39) ∧
    decodeWord (1#1 ++ 29#7 ++ 6#3 ++ 5#7 ++ 22#7 ++ 39#7) = some (.imaxN32 1 6 5 22 39) ∧
    decodeWord (1#1 ++ 30#7 ++ 6#3 ++ 5#7 ++ 0#7 ++ 22#7) = some (.movi 1 6 5 22) ∧
    decodeWord (1#1 ++ 31#7 ++ 6#3 ++ 5#7 ++ 22#7 ++ 0#7) = some (.mov 1 6 5 22) := by
  decide

set_option maxRecDepth 4000 in
theorem test_decode_iabs_to_andn :
    decodeWord (1#1 ++ 31#7 ++ 6#3 ++ 5#7 ++ 22#7 ++ 1#7) = some (.iabs 1 6 5 22) ∧
    decodeWord (1#1 ++ 31#7 ++ 6#3 ++ 5#7 ++ 22#7 ++ 2#7) = some (.ineg 1 6 5 22) ∧
    decodeWord (1#1 ++ 31#7 ++ 6#3 ++ 5#7 ++ 22#7 ++ 3#7) = some (.popc 1 6 5 22) ∧
    decodeWord (1#1 ++ 31#7 ++ 6#3 ++ 5#7 ++ 22#7 ++ 4#7) = some (.clz 1 6 5 22) ∧
    decodeWord (1#1 ++ 31#7 ++ 6#3 ++ 5#7 ++ 22#7 ++ 5#7) = some (.ctz 1 6 5 22) ∧
    decodeWord (1#1 ++ 31#7 ++ 6#3 ++ 5#7 ++ 22#7 ++ 6#7) = some (.brev 1 6 5 22) ∧
    decodeWord (1#1 ++ 32#7 ++ 6#3 ++ 5#7 ++ 22#7 ++ 39#7) = some (.andW 1 6 5 22 39) ∧
    decodeWord (1#1 ++ 33#7 ++ 6#3 ++ 5#7 ++ 22#7 ++ 39#7) = some (.orW 1 6 5 22 39) ∧
    decodeWord (1#1 ++ 34#7 ++ 6#3 ++ 5#7 ++ 22#7 ++ 39#7) = some (.xor 1 6 5 22 39) ∧
    decodeWord (1#1 ++ 35#7 ++ 6#3 ++ 5#7 ++ 22#7 ++ 39#7) = some (.andn 1 6 5 22 39) := by
  decide

set_option maxRecDepth 4000 in
theorem test_decode_shl_to_fcmp :
    decodeWord (1#1 ++ 36#7 ++ 6#3 ++ 5#7 ++ 22#7 ++ 39#7) = some (.shl 1 6 5 22 39) ∧
    decodeWord (1#1 ++ 37#7 ++ 6#3 ++ 5#7 ++ 22#7 ++ 39#7) = some (.shr 1 6 5 22 39) ∧
    decodeWord (1#1 ++ 38#7 ++ 6#3 ++ 5#7 ++ 22#7 ++ 39#7) = some (.sar 1 6 5 22 39) ∧
    decodeWord (1#1 ++ 39#7 ++ 6#3 ++ 5#7 ++ 22#7 ++ 39#7) = some (.rotl 1 6 5 22 39) ∧
    decodeWord (1#1 ++ 40#7 ++ 6#3 ++ 5#7 ++ 22#7 ++ 39#7) = some (.bfxN32 1 6 5 22 39) ∧
    decodeWord (1#1 ++ 41#7 ++ 6#3 ++ 5#7 ++ 22#7 ++ 39#7) = some (.bfxS32 1 6 5 22 39) ∧
    decodeWord (1#1 ++ 42#7 ++ 6#3 ++ 5#7 ++ 22#7 ++ 39#7) = some (.bfi 1 6 5 22 39) ∧
    decodeWord (1#1 ++ 43#7 ++ 6#3 ++ 5#7 ++ 22#7 ++ 39#7) = some (.sel 1 6 5 22 39) ∧
    decodeWord (1#1 ++ 44#7 ++ 0#3 ++ 0#3 ++ 1#1 ++ 2#3 ++ 5#7 ++ 22#7) = some (.icmp 1 1 2 5 22) ∧
    decodeWord (1#1 ++ 44#7 ++ 0#3 ++ 8#4 ++ 2#3 ++ 5#7 ++ 22#7) = some (.fcmp 1 2 5 22) := by
  decide

set_option maxRecDepth 4000 in
theorem test_decode_ppop_to_swr :
    decodeWord (1#1 ++ 45#7 ++ 0#3 ++ 0#7 ++ 0#7 ++ 0#7) = some (.ppop 1) ∧
    decodeWord (1#1 ++ 45#7 ++ 0#3 ++ 0#7 ++ 0#7 ++ 1#7) = some (.pdup 1) ∧
    decodeWord (1#1 ++ 45#7 ++ 0#3 ++ 0#7 ++ 0#7 ++ 2#7) = some (.pswp 1) ∧
    decodeWord (1#1 ++ 45#7 ++ 0#3 ++ 0#7 ++ 0#7 ++ 3#7) = some (.pand 1) ∧
    decodeWord (1#1 ++ 45#7 ++ 0#3 ++ 0#7 ++ 0#7 ++ 4#7) = some (.por 1) ∧
    decodeWord (1#1 ++ 45#7 ++ 0#3 ++ 0#7 ++ 0#7 ++ 5#7) = some (.pxor 1) ∧
    decodeWord (1#1 ++ 45#7 ++ 0#3 ++ 5#7 ++ 0#7 ++ 6#7) = some (.prd 1 5) ∧
    decodeWord (1#1 ++ 45#7 ++ 0#3 ++ 0#7 ++ 5#7 ++ 7#7) = some (.pwr 1 5) ∧
    decodeWord (1#1 ++ 46#7 ++ 6#3 ++ 5#7 ++ 273#14) = some (.srd 1 6 5 273) ∧
    decodeWord (1#1 ++ 47#7 ++ 6#3 ++ 273#14 ++ 5#7) = some (.swr 1 6 273 5) := by
  decide

set_option maxRecDepth 4000 in
theorem test_decode_fadd_to_fsqrt :
    decodeWord (1#1 ++ 12#5 ++ 1#2 ++ 6#3 ++ 5#7 ++ 22#7 ++ 39#7) = some (.fadd 1 1 6 5 22 39) ∧
    decodeWord (1#1 ++ 13#5 ++ 1#2 ++ 6#3 ++ 5#7 ++ 22#7 ++ 39#7) = some (.fsub 1 1 6 5 22 39) ∧
    decodeWord (1#1 ++ 14#5 ++ 1#2 ++ 6#3 ++ 5#7 ++ 22#7 ++ 39#7) = some (.fmul 1 1 6 5 22 39) ∧
    decodeWord (1#1 ++ 15#5 ++ 1#2 ++ 6#3 ++ 5#7 ++ 22#7 ++ 39#7) = some (.fma 1 1 6 5 22 39) ∧
    decodeWord (1#1 ++ 64#7 ++ 6#3 ++ 5#7 ++ 22#7 ++ 39#7) = some (.fmin 1 6 5 22 39) ∧
    decodeWord (1#1 ++ 65#7 ++ 6#3 ++ 5#7 ++ 22#7 ++ 39#7) = some (.fmax 1 6 5 22 39) ∧
    decodeWord (1#1 ++ 66#7 ++ 6#3 ++ 5#7 ++ 22#7 ++ 39#7) = some (.fscl 1 6 5 22 39) ∧
    decodeWord (1#1 ++ 67#7 ++ 6#3 ++ 5#7 ++ 22#7 ++ 0#4 ++ 5#3) = some (.frcp 1 6 5 22 5) ∧
    decodeWord (1#1 ++ 67#7 ++ 6#3 ++ 5#7 ++ 22#7 ++ 1#4 ++ 5#3) = some (.frsq 1 6 5 22 5) ∧
    decodeWord (1#1 ++ 67#7 ++ 6#3 ++ 5#7 ++ 22#7 ++ 2#4 ++ 5#3) = some (.fsqrt 1 6 5 22 5) := by
  decide

set_option maxRecDepth 4000 in
theorem test_decode_fex2_to_cvti :
    decodeWord (1#1 ++ 67#7 ++ 6#3 ++ 5#7 ++ 22#7 ++ 3#4 ++ 5#3) = some (.fex2 1 6 5 22 5) ∧
    decodeWord (1#1 ++ 67#7 ++ 6#3 ++ 5#7 ++ 22#7 ++ 4#4 ++ 5#3) = some (.flg2 1 6 5 22 5) ∧
    decodeWord (1#1 ++ 67#7 ++ 6#3 ++ 5#7 ++ 22#7 ++ 5#4 ++ 5#3) = some (.fsin 1 6 5 22 5) ∧
    decodeWord (1#1 ++ 67#7 ++ 6#3 ++ 5#7 ++ 22#7 ++ 6#4 ++ 5#3) = some (.fcos 1 6 5 22 5) ∧
    decodeWord (1#1 ++ 67#7 ++ 6#3 ++ 5#7 ++ 22#7 ++ 7#4 ++ 5#3) = some (.fcls 1 6 5 22 5) ∧
    decodeWord (1#1 ++ 68#7 ++ 6#3 ++ 5#7 ++ 22#7 ++ 2#3 ++ 0#4) = some (.cvtS32F32 1 6 5 22 2) ∧
    decodeWord (1#1 ++ 68#7 ++ 6#3 ++ 5#7 ++ 22#7 ++ 2#3 ++ 1#4) = some (.cvtN32F32 1 6 5 22 2) ∧
    decodeWord (1#1 ++ 68#7 ++ 6#3 ++ 5#7 ++ 22#7 ++ 2#3 ++ 2#4) = some (.cvtF32S32 1 6 5 22 2) ∧
    decodeWord (1#1 ++ 68#7 ++ 6#3 ++ 5#7 ++ 22#7 ++ 2#3 ++ 3#4) = some (.cvtF32N32 1 6 5 22 2) ∧
    decodeWord (1#1 ++ 68#7 ++ 6#3 ++ 5#7 ++ 22#7 ++ 2#3 ++ 4#4) = some (.cvti 1 6 5 22 2) := by
  decide

set_option maxRecDepth 4000 in
theorem test_decode_pack_to_trd :
    decodeWord (1#1 ++ 69#7 ++ 6#3 ++ 5#7 ++ 22#7 ++ 39#7) = some (.pack 1 6 5 22 39) ∧
    decodeWord (1#1 ++ 70#7 ++ 6#3 ++ 5#7 ++ 22#7 ++ 39#7) = some (.unpk 1 6 5 22 39) ∧
    decodeWord (1#1 ++ 71#7 ++ 6#3 ++ 5#7 ++ 22#7 ++ 3#4 ++ 5#3) = some (.shfl 1 6 5 22 3 5) ∧
    decodeWord (1#1 ++ 72#7 ++ 6#3 ++ 5#7 ++ 22#7 ++ 3#4 ++ 5#3) = some (.vote 1 6 5 22 3 5) ∧
    decodeWord (1#1 ++ 73#7 ++ 6#3 ++ 5#7 ++ 22#7 ++ 3#4 ++ 5#3) = some (.redx 1 6 5 22 3 5) ∧
    decodeWord (1#1 ++ 74#7 ++ 6#3 ++ 5#7 ++ 22#7 ++ 3#4 ++ 5#3) = some (.scan 1 6 5 22 3 5) ∧
    decodeWord (1#1 ++ 75#7 ++ 6#3 ++ 5#7 ++ 22#7 ++ 0#4 ++ 5#3) = some (.matchW 1 6 5 22 5) ∧
    decodeWord (1#1 ++ 75#7 ++ 6#3 ++ 5#7 ++ 22#7 ++ 1#4 ++ 5#3) = some (.matchF 1 6 5 22 5) ∧
    decodeWord (76#8 ++ 0#3 ++ 0#7 ++ 0#2 ++ 2#3 ++ 2#3 ++ 2#3 ++ 2#3) = some (.qual 2 2 2 2) ∧
    decodeWord (1#1 ++ 77#7 ++ 6#3 ++ 5#7 ++ 22#7 ++ 3#4 ++ 5#3) = some (.trd 1 6 5 22 3 5) := by
  decide

set_option maxRecDepth 4000 in
theorem test_decode_thrd_to_psubB4 :
    decodeWord (1#1 ++ 78#7 ++ 6#3 ++ 5#7 ++ 22#7 ++ 0#3 ++ 3#4) = some (.thrd 1 6 5 22 3) ∧
    decodeWord (1#1 ++ 78#7 ++ 6#3 ++ 5#7 ++ 22#7 ++ 1#3 ++ 3#4) = some (.thwr 1 6 5 22 3) ∧
    decodeWord (1#1 ++ 78#7 ++ 6#3 ++ 5#7 ++ 0#7 ++ 4#4 ++ 2#3) = some (.scrd 1 6 5 2) ∧
    decodeWord (1#1 ++ 78#7 ++ 6#3 ++ 5#7 ++ 0#7 ++ 6#4 ++ 2#3) = some (.scwr 1 6 5 2) ∧
    decodeWord (1#1 ++ 78#7 ++ 0#3 ++ 0#7 ++ 0#7 ++ 4#3 ++ 3#4) = some (.talloc 1 3) ∧
    decodeWord (1#1 ++ 78#7 ++ 6#3 ++ 0#7 ++ 0#7 ++ 5#3 ++ 3#4) = some (.tfree 1 6 3) ∧
    decodeWord (1#1 ++ 78#7 ++ 6#3 ++ 5#7 ++ 22#7 ++ 6#3 ++ 3#4) = some (.twr 1 6 5 22 3) ∧
    decodeWord (1#1 ++ 79#7 ++ 6#3 ++ 5#7 ++ 0#7 ++ 2#3 ++ 2#3 ++ 0#1) = some (.tq 1 6 5 2 2) ∧
    decodeWord (1#1 ++ 80#7 ++ 6#3 ++ 5#7 ++ 22#7 ++ 39#7) = some (.paddB4 1 6 5 22 39) ∧
    decodeWord (1#1 ++ 81#7 ++ 6#3 ++ 5#7 ++ 22#7 ++ 39#7) = some (.psubB4 1 6 5 22 39) := by
  decide

set_option maxRecDepth 4000 in
theorem test_decode_pmulB4_to_pminH2 :
    decodeWord (1#1 ++ 82#7 ++ 6#3 ++ 5#7 ++ 22#7 ++ 39#7) = some (.pmulB4 1 6 5 22 39) ∧
    decodeWord (1#1 ++ 83#7 ++ 6#3 ++ 5#7 ++ 22#7 ++ 39#7) = some (.pminB4 1 6 5 22 39) ∧
    decodeWord (1#1 ++ 84#7 ++ 6#3 ++ 5#7 ++ 22#7 ++ 39#7) = some (.pmaxB4 1 6 5 22 39) ∧
    decodeWord (1#1 ++ 85#7 ++ 6#3 ++ 5#7 ++ 22#7 ++ 39#7) = some (.pshlB4 1 6 5 22 39) ∧
    decodeWord (1#1 ++ 86#7 ++ 6#3 ++ 5#7 ++ 22#7 ++ 39#7) = some (.pshrB4 1 6 5 22 39) ∧
    decodeWord (1#1 ++ 87#7 ++ 6#3 ++ 5#7 ++ 22#7 ++ 39#7) = some (.psarB4 1 6 5 22 39) ∧
    decodeWord (1#1 ++ 88#7 ++ 6#3 ++ 5#7 ++ 22#7 ++ 39#7) = some (.paddH2 1 6 5 22 39) ∧
    decodeWord (1#1 ++ 89#7 ++ 6#3 ++ 5#7 ++ 22#7 ++ 39#7) = some (.psubH2 1 6 5 22 39) ∧
    decodeWord (1#1 ++ 90#7 ++ 6#3 ++ 5#7 ++ 22#7 ++ 39#7) = some (.pmulH2 1 6 5 22 39) ∧
    decodeWord (1#1 ++ 91#7 ++ 6#3 ++ 5#7 ++ 22#7 ++ 39#7) = some (.pminH2 1 6 5 22 39) := by
  decide

set_option maxRecDepth 4000 in
theorem test_decode_pmaxH2_to_ld64 :
    decodeWord (1#1 ++ 92#7 ++ 6#3 ++ 5#7 ++ 22#7 ++ 39#7) = some (.pmaxH2 1 6 5 22 39) ∧
    decodeWord (1#1 ++ 93#7 ++ 6#3 ++ 5#7 ++ 22#7 ++ 39#7) = some (.pshlH2 1 6 5 22 39) ∧
    decodeWord (1#1 ++ 94#7 ++ 6#3 ++ 5#7 ++ 22#7 ++ 39#7) = some (.pshrH2 1 6 5 22 39) ∧
    decodeWord (1#1 ++ 95#7 ++ 6#3 ++ 5#7 ++ 22#7 ++ 39#7) = some (.psarH2 1 6 5 22 39) ∧
    decodeWord (1#1 ++ 96#7 ++ 6#3 ++ 5#7 ++ 22#7 ++ 3#4 ++ 5#3) = some (.ld8 1 6 5 22 3 5) ∧
    decodeWord (1#1 ++ 97#7 ++ 6#3 ++ 5#7 ++ 22#7 ++ 3#4 ++ 5#3) = some (.ld8s 1 6 5 22 3 5) ∧
    decodeWord (1#1 ++ 98#7 ++ 6#3 ++ 5#7 ++ 22#7 ++ 3#4 ++ 5#3) = some (.ld16 1 6 5 22 3 5) ∧
    decodeWord (1#1 ++ 99#7 ++ 6#3 ++ 5#7 ++ 22#7 ++ 3#4 ++ 5#3) = some (.ld16s 1 6 5 22 3 5) ∧
    decodeWord (1#1 ++ 100#7 ++ 6#3 ++ 5#7 ++ 22#7 ++ 3#4 ++ 5#3) = some (.ld32 1 6 5 22 3 5) ∧
    decodeWord (1#1 ++ 101#7 ++ 6#3 ++ 20#7 ++ 22#7 ++ 3#4 ++ 5#3) = some (.ld64 1 6 20 22 3 5) := by
  decide

set_option maxRecDepth 4000 in
theorem test_decode_ld128_to_st128 :
    decodeWord (1#1 ++ 102#7 ++ 6#3 ++ 20#7 ++ 22#7 ++ 3#4 ++ 5#3) = some (.ld128 1 6 20 22 3 5) ∧
    decodeWord (1#1 ++ 103#7 ++ 6#3 ++ 0#7 ++ 22#7 ++ 3#4 ++ 0#3) = some (.pref 1 6 22 3) ∧
    decodeWord (1#1 ++ 103#7 ++ 6#3 ++ 1#7 ++ 22#7 ++ 3#4 ++ 0#3) = some (.prefL2 1 6 22 3) ∧
    decodeWord (1#1 ++ 103#7 ++ 6#3 ++ 2#7 ++ 22#7 ++ 3#4 ++ 0#3) = some (.evct 1 6 22 3) ∧
    decodeWord (1#1 ++ 103#7 ++ 6#3 ++ 3#7 ++ 22#7 ++ 3#4 ++ 0#3) = some (.evctL2 1 6 22 3) ∧
    decodeWord (1#1 ++ 104#7 ++ 6#3 ++ 5#7 ++ 22#7 ++ 3#4 ++ 0#3) = some (.st8 1 6 5 22 3) ∧
    decodeWord (1#1 ++ 105#7 ++ 6#3 ++ 5#7 ++ 22#7 ++ 3#4 ++ 0#3) = some (.st16 1 6 5 22 3) ∧
    decodeWord (1#1 ++ 106#7 ++ 6#3 ++ 5#7 ++ 22#7 ++ 3#4 ++ 0#3) = some (.st32 1 6 5 22 3) ∧
    decodeWord (1#1 ++ 107#7 ++ 6#3 ++ 20#7 ++ 22#7 ++ 3#4 ++ 0#3) = some (.st64 1 6 20 22 3) ∧
    decodeWord (1#1 ++ 108#7 ++ 6#3 ++ 20#7 ++ 22#7 ++ 3#4 ++ 0#3) = some (.st128 1 6 20 22 3) := by
  decide

set_option maxRecDepth 4000 in
theorem test_decode_atom_to_sts16 :
    decodeWord (1#1 ++ 109#7 ++ 6#3 ++ 20#7 ++ 22#7 ++ 3#4 ++ 2#3) = some (.atom 1 6 20 22 3 2) ∧
    decodeWord (1#1 ++ 110#7 ++ 6#3 ++ 20#7 ++ 22#7 ++ 0#4 ++ 2#3) = some (.cas 1 6 20 22 2) ∧
    decodeWord (1#1 ++ 111#7 ++ 6#3 ++ 20#7 ++ 22#7 ++ 3#4 ++ 2#3) = some (.red 1 6 20 22 3 2) ∧
    decodeWord (1#1 ++ 112#7 ++ 6#3 ++ 5#7 ++ 22#7 ++ 2#3 ++ 1#1 ++ 5#3) = some (.lds8 1 6 5 22 2 1 5) ∧
    decodeWord (1#1 ++ 113#7 ++ 6#3 ++ 5#7 ++ 22#7 ++ 2#3 ++ 1#1 ++ 5#3) = some (.lds16 1 6 5 22 2 1 5) ∧
    decodeWord (1#1 ++ 114#7 ++ 6#3 ++ 5#7 ++ 22#7 ++ 2#3 ++ 1#1 ++ 5#3) = some (.lds32 1 6 5 22 2 1 5) ∧
    decodeWord (1#1 ++ 115#7 ++ 6#3 ++ 20#7 ++ 39#7 ++ 2#3 ++ 1#1 ++ 5#3) = some (.lds64 1 6 20 39 2 1 5) ∧
    decodeWord (1#1 ++ 116#7 ++ 6#3 ++ 20#7 ++ 39#7 ++ 2#3 ++ 1#1 ++ 5#3) = some (.lds128 1 6 20 39 2 1 5) ∧
    decodeWord (1#1 ++ 117#7 ++ 6#3 ++ 5#7 ++ 22#7 ++ 2#3 ++ 1#1 ++ 0#3) = some (.sts8 1 6 5 22 2 1) ∧
    decodeWord (1#1 ++ 118#7 ++ 6#3 ++ 5#7 ++ 22#7 ++ 2#3 ++ 1#1 ++ 0#3) = some (.sts16 1 6 5 22 2 1) := by
  decide

set_option maxRecDepth 4000 in
theorem test_decode_sts32_to_coll :
    decodeWord (1#1 ++ 119#7 ++ 6#3 ++ 5#7 ++ 22#7 ++ 2#3 ++ 1#1 ++ 0#3) = some (.sts32 1 6 5 22 2 1) ∧
    decodeWord (1#1 ++ 120#7 ++ 6#3 ++ 20#7 ++ 39#7 ++ 2#3 ++ 1#1 ++ 0#3) = some (.sts64 1 6 20 39 2 1) ∧
    decodeWord (1#1 ++ 121#7 ++ 6#3 ++ 20#7 ++ 39#7 ++ 2#3 ++ 1#1 ++ 0#3) = some (.sts128 1 6 20 39 2 1) ∧
    decodeWord (1#1 ++ 122#7 ++ 6#3 ++ 5#7 ++ 0#7 ++ 2#3 ++ 2#3 ++ 0#1) = some (.copy 1 6 5 2 2) ∧
    decodeWord (1#1 ++ 122#7 ++ 6#3 ++ 5#7 ++ 0#7 ++ 2#3 ++ 2#3 ++ 1#1) = some (.rlay 1 6 5 2 2) ∧
    decodeWord (1#1 ++ 123#7 ++ 6#3 ++ 5#7 ++ 0#7 ++ 2#3 ++ 2#3 ++ 0#1) = some (.matl 1 6 5 2 2) ∧
    decodeWord (1#1 ++ 124#7 ++ 6#3 ++ 5#7 ++ 0#7 ++ 2#3 ++ 2#3 ++ 0#1) = some (.gath 1 6 5 2 2) ∧
    decodeWord (1#1 ++ 125#7 ++ 6#3 ++ 5#7 ++ 0#7 ++ 2#3 ++ 2#3 ++ 0#1) = some (.scat 1 6 5 2 2) ∧
    decodeWord (1#1 ++ 125#7 ++ 6#3 ++ 5#7 ++ 0#7 ++ 2#3 ++ 2#3 ++ 1#1) = some (.scatAcc 1 6 5 2 2) ∧
    decodeWord (1#1 ++ 126#7 ++ 6#3 ++ 5#7 ++ 0#7 ++ 2#3 ++ 2#3 ++ 0#1) = some (.coll 1 6 5 2 2) := by
  decide

set_option maxRecDepth 4000 in
theorem test_decode_cpyq_to_cpyq :
    decodeWord (1#1 ++ 127#7 ++ 6#3 ++ 20#7 ++ 39#7 ++ 2#3 ++ 2#3 ++ 0#1) = some (.cpyq 1 6 20 39 2 2) := by
  decide

/-- The words that the manual writes out: the packing example of R267 to R273, the table after R284, PACK of R301 and the listing of the histogram. -/
theorem test_decode_manual_words :
    decodeWord 0x10014307 = some (.iadd 0 0 5 6 7) ∧ decodeWord 0x26C24481 = some (.sar 0 6 9 9 1) ∧ decodeWord 0x2C108082 = some (.fcmp 0 2 1 2) ∧ decodeWord 0x4700C411 = some (.shfl 0 0 3 8 2 1) ∧
    decodeWord 0x4B02420B = some (.matchF 0 0 9 4 3) ∧ decodeWord 0x2E010010 = some (.srd 0 0 4 0x10) ∧ decodeWord 0x2F009187 = some (.swr 0 0 0x123 7) ∧ decodeWord 0xB1214307 = some (.fadd 1 1 1 5 6 7) ∧
    decodeWord 0x45008519 = some (.pack 0 0 2 10 0x19) ∧ decodeWord 0x201C4270 = some (.andW 0 0 113 4 112) ∧ decodeWord 0x1F1D4180 = some (.mov 0 0 117 3) := by
  decide
theorem test_decode_histogram :
    decodeWord 0x6500B000 = some (.ld64 0 0 2 96 0 0) ∧ decodeWord 0x1E018001 = some (.movi 0 0 6 1) ∧ decodeWord 0x01002000 = some (.endRun 1 0 0) ∧ decodeWord 0x1E1C0003 = some (.movi 0 0 112 3) ∧
    decodeWord 0x241CF8F2 = some (.shl 0 0 115 113 114) ∧ decodeWord 0x101D0173 = some (.iadd 0 0 116 2 115) ∧ decodeWord 0x6D01BA01 = some (.atom 0 0 6 116 0 1) ∧ decodeWord 0x05000000 = some (.exit 0 0) := by
  decide

/-! ## Single steps: values from the manual's tables and worked cases -/

/-- Lane 0 of a run that has x in V1, y in V2 and z in t0. -/
def valState (x y z : Word) : State :=
  { small with core.gangs := [{ someGang with v := [(32 * 1, clean x), (32 * 2, clean y)] }], core.issue := [{ twoLanes with named := [112], lanes := [{ lane0 with tmp := [(112, clean z)] }] }] }
/-- What a word leaves in t0, the newest predicate, and what it logs. -/
def outOf (i : Instr) (x y z : Word) : Option Word :=
  match exec i (valState x y z) with
  | .next t => match t.core.issue with
    | g :: _ => match g.lanes with
      | l :: _ => some (nget pzero l.tmp 112).val
      | [] => none
    | [] => none
  | _ => none
def predOf (i : Instr) (x y : Word) : Option (Bool × Nat) :=
  match exec i (valState x y 0) with
  | .next t => match t.core.issue with
    | g :: _ => match g.lanes with
      | l :: _ => some (bit l.preds 0, l.depth)
      | [] => none
    | [] => none
  | _ => none

theorem test_iadd_wraps : outOf (.iadd 0 0 112 1 2) 0xFFFFFFFF 0x2 0x0 = some 0x1 := by decide +kernel
theorem test_isub : outOf (.isub 0 0 112 1 2) 0x1 0x2 0x0 = some 0xFFFFFFFF := by decide +kernel
theorem test_imul_imad : outOf (.imul 0 0 112 1 2) 0x10001 0x10001 0x0 = some 0x20001 ∧ outOf (.imad 0 0 112 1 2) 0x3 0xFFFFFFFF 0x5 = some 0x2 := by decide +kernel
theorem test_imulh : outOf (.imulhS32 0 0 112 1 2) 0xFFFFFFFF 0x2 0x0 = some 0xFFFFFFFF ∧ outOf (.imulhN32 0 0 112 1 2) 0xFFFFFFFF 0x2 0x0 = some 0x1 := by decide +kernel
theorem test_idiv : outOf (.idivS32 0 0 112 1 2) 0xFFFFFFF9 0x2 0x0 = some 0xFFFFFFFD ∧ outOf (.idivS32 0 0 112 1 2) 0x80000000 0xFFFFFFFF 0x0 = some 0x80000000 ∧ outOf (.idivN32 0 0 112 1 2) 0x5 0x0 0x0 = some 0xFFFFFFFF ∧ outOf (.idivN32 0 0 112 1 2) 0xFFFFFFF9 0x2 0x0 = some 0x7FFFFFFC := by decide +kernel
theorem test_irem : outOf (.iremS32 0 0 112 1 2) 0xFFFFFFF9 0x2 0x0 = some 0xFFFFFFFF ∧ outOf (.iremS32 0 0 112 1 2) 0x80000000 0xFFFFFFFF 0x0 = some 0x0 ∧ outOf (.iremN32 0 0 112 1 2) 0x5 0x0 0x0 = some 0x5 ∧ outOf (.iremN32 0 0 112 1 2) 0xFFFFFFF9 0x2 0x0 = some 0x1 := by decide +kernel
theorem test_imin_imax : outOf (.iminS32 0 0 112 1 2) 0xFFFFFFFF 0x2 0x0 = some 0xFFFFFFFF ∧ outOf (.iminN32 0 0 112 1 2) 0xFFFFFFFF 0x2 0x0 = some 0x2 ∧ outOf (.imaxS32 0 0 112 1 2) 0xFFFFFFFF 0x2 0x0 = some 0x2 ∧ outOf (.imaxN32 0 0 112 1 2) 0xFFFFFFFF 0x2 0x0 = some 0xFFFFFFFF := by decide +kernel
theorem test_movi_signed : outOf (.movi 0 0 112 0x78) 0 0 0 = some 0xFFFFFFF8 := by decide +kernel
theorem test_unary : outOf (.mov 0 0 112 1) 0x12345678 0x0 0x0 = some 0x12345678 ∧ outOf (.iabs 0 0 112 1) 0x80000000 0x0 0x0 = some 0x80000000 ∧ outOf (.iabs 0 0 112 1) 0xFFFFFFFF 0x0 0x0 = some 0x1 ∧ outOf (.ineg 0 0 112 1) 0x1 0x0 0x0 = some 0xFFFFFFFF := by decide +kernel
theorem test_bit_counts : outOf (.popc 0 0 112 1) 0xF0F00001 0x0 0x0 = some 0x9 ∧ outOf (.clz 0 0 112 1) 0x0 0x0 0x0 = some 0x20 ∧ outOf (.clz 0 0 112 1) 0x10000 0x0 0x0 = some 0xF ∧ outOf (.ctz 0 0 112 1) 0x0 0x0 0x0 = some 0x20 ∧ outOf (.ctz 0 0 112 1) 0x10000 0x0 0x0 = some 0x10 ∧ outOf (.brev 0 0 112 1) 0x1 0x0 0x0 = some 0x80000000 := by decide +kernel
theorem test_logic : outOf (.andW 0 0 112 1 2) 0xC 0xA 0x0 = some 0x8 ∧ outOf (.orW 0 0 112 1 2) 0xC 0xA 0x0 = some 0xE ∧ outOf (.xor 0 0 112 1 2) 0xC 0xA 0x0 = some 0x6 ∧ outOf (.andn 0 0 112 1 2) 0xC 0xA 0x0 = some 0x4 := by decide +kernel
theorem test_shifts : outOf (.shl 0 0 112 1 2) 0xF0 0x104 0x0 = some 0xF00 ∧ outOf (.shl 0 0 112 1 2) 0xF0 0x20 0x0 = some 0x0 ∧ outOf (.shr 0 0 112 1 2) 0x80000000 0x1F 0x0 = some 0x1 ∧ outOf (.sar 0 0 112 1 2) 0x80000010 0xC8 0x0 = some 0xFFFFFFFF ∧ outOf (.rotl 0 0 112 1 2) 0x80000001 0x21 0x0 = some 0x3 := by decide +kernel
theorem test_bit_fields : outOf (.bfxN32 0 0 112 1 2) 0xF0000000 0x81C 0x0 = some 0xF ∧ outOf (.bfxS32 0 0 112 1 2) 0xF0000000 0x81C 0x0 = some 0xFFFFFFFF ∧ outOf (.bfi 0 0 112 1 2) 0xFF 0x81C 0x0 = some 0xF0000000 := by decide +kernel
theorem test_sel : outOf (.sel 0 0 112 1 2) 0x1 0x2 0x0 = some 0x1 := by decide +kernel
theorem test_packed_shifts : outOf (.pshrB4 0 0 112 1 2) 0x80FF0102 0x9 0x0 = some 0x0 ∧ outOf (.psarB4 0 0 112 1 2) 0x80FF0102 0x9 0x0 = some 0xFFFF0000 ∧ outOf (.pshlH2 0 0 112 1 2) 0x18001 0xF 0x0 = some 0x80008000 := by decide +kernel
theorem test_packed_arithmetic : outOf (.paddB4 0 0 112 1 2) 0xFF01FF01 0x1010101 0x0 = some 0x20002 ∧ outOf (.psubB4 0 0 112 1 2) 0x10001 0x1010101 0x0 = some 0xFF00FF00 ∧ outOf (.pmulH2 0 0 112 1 2) 0x1000003 0x1000005 0x0 = some 0xF ∧ outOf (.pminB4 0 0 112 1 2) 0x80017F00 0x0 0x0 = some 0x80000000 ∧ outOf (.pmaxH2 0 0 112 1 2) 0x80000001 0x0 0x0 = some 0x1 := by decide +kernel
theorem test_fadd_rdn_of_opposites : outOf (.fadd 0 3 0 112 1 2) 0x3F800000 0xBF800000 0x0 = some 0x80000000 ∧ outOf (.fadd 0 0 0 112 1 2) 0x3F800000 0xBF800000 0x0 = some 0x0 := by decide +kernel
theorem test_fma_rounds_once : outOf (.fma 0 0 0 112 1 2) 0x3F800001 0x3F800001 0xBF800002 = some 0x28800000 ∧ outOf (.fmul 0 0 0 112 1 2) 0x3F800001 0x3F800001 0x0 = some 0x3F800002 ∧ outOf (.fsub 0 0 0 112 1 2) 0x3F800002 0x3F800002 0x0 = some 0x0 := by decide +kernel
theorem test_fmin_fmax : outOf (.fmin 0 0 112 1 2) 0x7F800001 0x40000000 0x0 = some 0x40000000 ∧ outOf (.fmin 0 0 112 1 2) 0x80000000 0x0 0x0 = some 0x80000000 ∧ outOf (.fmax 0 0 112 1 2) 0x80000000 0x0 0x0 = some 0x0 := by decide +kernel
theorem test_fscl : outOf (.fscl 0 0 112 1 2) 0x3F800000 0xFFFFFF81 0x0 = some 0x400000 := by decide +kernel
theorem test_cvti : outOf (.cvti 0 0 112 1 1) 0xBE99999A 0x0 0x0 = some 0x80000000 ∧ outOf (.cvti 0 0 112 1 4) 0x40200000 0x0 0x0 = some 0x40400000 := by decide +kernel
theorem test_cvt : outOf (.cvtS32F32 0 0 112 1 0) 0x4F000000 0x0 0x0 = some 0x7FFFFFFF ∧ outOf (.cvtN32F32 0 0 112 1 0) 0xBF800000 0x0 0x0 = some 0x0 ∧ outOf (.cvtF32S32 0 0 112 1 0) 0xFFFFFFFF 0x0 0x0 = some 0xBF800000 ∧ outOf (.cvtF32N32 0 0 112 1 0) 0xFFFFFFFF 0x0 0x0 = some 0x4F800000 := by decide +kernel
theorem test_icmp_pushes : predOf (.icmp 0 0 2 1 2) 0xFFFFFFFF 1 = some (true, 5) ∧ predOf (.icmp 0 1 2 1 2) 0xFFFFFFFF 1 = some (false, 5) := by decide +kernel
theorem test_fcmp_unordered : predOf (.fcmp 0 1 1 2) 0x7FC00000 0 = some (true, 5) ∧ predOf (.fcmp 0 2 1 2) 0x7FC00000 0 = some (false, 5) ∧ predOf (.fcmp 0 0 1 2) 0x80000000 0 = some (true, 5) := by decide +kernel

/-- The value of a code of bin8p4 (R222 and the example after R224), and the special functions at the inputs that R297 lists. -/
theorem test_bin8p4 : elemVal 0x13 0x4C = .fin false 12 (-2) ∧ elemVal 0x13 0x80 = .nan false := by decide
theorem test_special_inputs :
    special 0 0 = (0x7F800000, [2]) ∧ special 0 0xFF800000 = (0x80000000, []) ∧ special 1 0x80000000 = (0xFF800000, [2]) ∧ special 2 0x80000000 = (0x80000000, []) := by decide

/-! ## States and operands that meet the hypotheses of the statements, clause by clause -/

/-- Well-formed words, one a word of the table and one an event. -/
theorem test_meets_DecodeOfEncode : (Instr.iadd 0 0 7 5 6).wf ∧ encode (.iadd 0 0 7 5 6) = some 0x1001C286 ∧ (Instr.bootStart).wf ∧ encode .bootStart = none ∧ Ev.bootStart.instr = .bootStart :=
  ⟨rfl, by decide, rfl, rfl, rfl⟩

/-- A message that crosses from stack 1 to stack 0 over a bridge that is UP. -/
def crossing : State := { State.reset with ctl.schedule := [.event 0], ctl.agenda := [.dirReadMiss 128 (2 ^ 33) 0x7F 0], pkg.links := modAt State.reset.pkg.links 19 (fun x => { x with st := .up }) }

/-- A word by the schedule and by its turn; a message by the schedule, over a bridge that is UP or FAILED, by its turn, one that waits, and a timer that has run out; a Hearth core
and a forwarded request; the two ways a step closes. -/
theorem test_meets_StepsRunTheirInstructions :
    (small.core.issue[0]? = some twoLanes ∧ (twoLanes.words[twoLanes.idx]?).bind (fun w => decodeWord w.1) = some (.nop 1)) ∧
    { small with ctl.schedule := [.issue 0] }.ctl.schedule = [.issue 0] ∧
    ({ small with ctl.freeCtr := 3 }.ctl.schedule = [] ∧ { small with ctl.freeCtr := 3 }.dueTimer = none ∧ { small with ctl.freeCtr := 3 }.ctl.freeCtr % 5 = 3) ∧
    (Ev.bootStart.ok = true ∧ State.reset.held0 = false ∧ State.reset.ctl.schedule = [] ∧ State.reset.dueTimer = none ∧ State.reset.ctl.freeCtr % 5 = 0 ∧
      State.reset.firstFree = some 0 ∧ State.reset.ctl.agenda[0]? = some .bootStart ∧ Ev.bootStart.bridge State.reset = none) ∧
    (let s := { State.reset with ctl.schedule := [.event 0] }
     s.ctl.agenda[0]? = some .bootStart ∧ s.blocked .bootStart = false ∧ s.inCrossing .bootStart = false ∧ Ev.bootStart.bridge s = none) ∧
    (let s := { State.reset with ctl.waiting := [.bootStart], ctl.schedule := [.retry 0] }
     s.ctl.waiting[0]? = some .bootStart ∧ s.retryable 0 = true ∧ s.held0 = false) ∧
    (let s := { State.reset with ctl.waiting := [.bootStart], ctl.freeCtr := 1 }
     s.ctl.schedule = [] ∧ s.dueTimer = none ∧ s.ctl.freeCtr % 5 = 1 ∧ s.nextRetry = some 0 ∧ s.held0 = false) ∧
    (let s := { State.reset with ctl.timers := [(0, .bootCxlTimeout)] }
     s.dueTimer = some 0 ∧ s.ctl.timers[0]? = some (0, .bootCxlTimeout) ∧ Ev.bootCxlTimeout.ok = true ∧ s.held0 = false) ∧
    ({ State.reset with ctl.schedule := [.hearth 5] }.ctl.schedule = [.hearth 5] ∧ { State.reset with ctl.schedule := [.forward 0 1 2] }.ctl.schedule = [.forward 0 1 2]) ∧
    (State.reset.ctl.badPA = none ∧ { State.reset with ctl.badPA := some 0 }.ctl.badPA = some 0 ∧ State.reset.ctl.cut = false) ∧ State.reset.nb.heldCtx = none ∧
    (State.reset.ten.evWait = [] ∧ State.reset.ten.hsWait = [] ∧ State.reset.ten.hfltWait = []) ∧ State.reset.ctl.failDue = [] ∧ State.reset.ctl.integDue = [] ∧ State.reset.ctl.sealDue = [] := by
  decide

/-- The message that crosses: over a bridge that is UP and has room, and over one that has FAILED. -/
theorem test_meets_StepsRunTheirInstructions_crossing :
    (let e := Ev.dirReadMiss 128 (2 ^ 33) 0x7F 0
     (crossing.ctl.agenda[0]? = some e ∧ e.ok = true ∧ crossing.held0 = false ∧ crossing.blocked e = false ∧ crossing.inCrossing e = false ∧ e.bridge crossing = some 19) ∧
     crossing.lets 19 (flitCount crossing.ctl.freeCtr) = true ∧
     (let s := { crossing with pkg.links := State.reset.pkg.links.map (fun x => { x with st := .failed }) }
      s.blocked e = false ∧ s.inCrossing e = false ∧ e.bridge s = some 19 ∧ (s.link 19).st = .failed)) :=
  ⟨by decide, State.lets_of_up (by decide) (by decide) (by decide), by decide⟩

/-- A state in canonical form with a step that goes on. -/
theorem test_meets_StepKeepsMemoryForm : { small with ctl.freeCtr := 3 }.inv ∧ ∃ t, step { small with ctl.freeCtr := 3 } = .next t := ⟨rfl, _, rfl⟩

/-- small with one lane, a base pair in V2 and V3 that is misaligned (3), or aligned (4) with a walk that has faulted on the page, and a refillable poison value in V5. -/
def trapGrp : Grp := { twoLanes with lanes := [lane0] }
def trapState : State :=
  { smallWith trapGrp with
    core.gangs := [{ someGang with v := [(32 * 2, clean 3), (32 * 6, clean 4), (32 * 8, { val := 0, tag := 0x80000011 })] }],
    xl.walks := [{ id := 3, stack := 0, tenant := 0, ctx := 0, va := 4, acc := 1, ats := false, again := false, fault := some 1, fid := some 17, fattr := 0 }] }

theorem test_meets_TrapWords :
    Issues trapState trapGrp [] 0 ((1 : BitVec 7).toNat :: baseSrcs (2 : BitVec 7).toNat) [] ∧
    trapState.va trapGrp ((baseSrcs 2).map (trapState.readD trapGrp lane0)) (trapGrp.off4 0 4) % 4 ≠ 0 ∧ (trapGrp.active 0).length = 1 ∧
    Issues trapState trapGrp [] 0 ((1 : BitVec 7).toNat :: baseSrcs (6 : BitVec 7).toNat) [] ∧
    (let va := trapState.va trapGrp ((baseSrcs 6).map (trapState.readD trapGrp lane0)) (trapGrp.off4 0 4)
     va % 4 = 0 ∧ trapState.xlate (stackOf 0) (trapState.tenantOfCtx 0) 0 va 1 = .fault 3 1 (some 17)) ∧
    lane0.gate 0 = .on ∧ lane0.done = false ∧ (∃ x, trapState.gang 0 0 = some x ∧ 0 < x.threads.length ∧ (x.thread 0).status = .runnable) ∧
    (∃ L, trapState.launch 0 = some L ∧ L.ending = none) ∧
    (guardEntry 0 ≤ lane0.depth ∧ ∃ v, trapState.read trapGrp lane0 (8 : BitVec 7).toNat = .ok v ∧ v.bad = true ∧ v.kind = 0 ∧ v.fid = 17) ∧
    trapState.refilled trapGrp lane0 17 = true ∧ { trapState with xl.faults := [{ ctx := 0, fid := 17, va := 4, cause := 1, acc := 1, prg := none, stop := none, logged := true }] }.refilled trapGrp lane0 17 = false :=
  ⟨issues_of_ok (by decide), by decide, by decide, issues_of_ok (by decide), by decide, by decide, by decide, ⟨_, rfl, by decide, by decide⟩, ⟨_, rfl, rfl⟩, ⟨by decide, _, rfl, by decide, by decide, by decide⟩, by decide, by decide⟩

/-- Words of two and three sources and of none; MOVI with no, one and two KEXT words; SEL with a clean predicate. -/
theorem test_meets_ArithmeticWords :
    Issues small twoLanes [] 0 [(1 : BitVec 7).toNat, (2 : BitVec 7).toNat] [(7 : BitVec 7).toNat] ∧ Issues small twoLanes [] 0 [1, 2, 7] [7] ∧
    Issues (smallWith { twoLanes with kext := [0xFFFFFF] }) { twoLanes with kext := [0xFFFFFF] } [] 0 [] [7] ∧
    Issues (smallWith { twoLanes with kext := [1, 0] }) { twoLanes with kext := [1, 0] } [] 0 [] [7] ∧
    (∀ l ∈ twoLanes.lanes, 1 ≤ l.depth ∧ l.pp 1 = false) :=
  ⟨issues_of_ok (by decide), issues_of_ok (by decide), issues_of_ok (by decide), issues_of_ok (by decide), by decide⟩

theorem test_meets_LogicWords : Issues small twoLanes [] 6 [1, 2] [7] ∧ Issues small twoLanes [] 0 [1, 2, 7] [7] := ⟨issues_of_ok (by decide), issues_of_ok (by decide)⟩

theorem test_meets_PackedWords : Issues small twoLanes [] 0 [1, 2] [95] := issues_of_ok (by decide)

/-- Predicate words need one, two or no entries; PRD an unpoisoned register; push and pop at the last entry. -/
theorem test_meets_PredicateAndCompareWords :
    Issues small twoLanes [] 0 [1, 2] [] ∧ (∀ l ∈ twoLanes.lanes, 2 ≤ l.depth) ∧ (∀ l ∈ twoLanes.lanes, l.ppois = 0) ∧ Issues small twoLanes [] 0 [] [7] ∧ lane0.preds < 256 :=
  ⟨issues_of_ok (by decide), by decide, by decide, issues_of_ok (by decide), by decide⟩

theorem test_meets_FloatingWords : Issues small twoLanes [] 0 [1, 2] [7] ∧ (f32Val 0x7F800001).isNan = true ∧ (f32Val 0x7F800001).isSig = true ∧ f32Val 0xFF800000 = .inf true :=
  ⟨issues_of_ok (by decide), by decide⟩

theorem test_meets_Rounding : (f32Val 0x3F800000).isNan = false ∧ (f32Val 0).isNan = false := by decide

theorem test_meets_SpecialFunctions : Tokens small twoLanes [] 0 [1] [7] 0 ∧ (f32Val 0x7FFFFFFF).isNan = true ∧ ((0x80000000 : Word).setWidth 31 = 0 ∧ (0x80000000 : Word).msb = true) ∧
    ((0x80000001 : Word).msb = true ∧ (0x80000001 : Word).setWidth 31 ≠ 0 ∧ (f32Val 0x80000001).isNan = false) :=
  ⟨tokens_of_ok (by decide), by decide⟩

/-- PACK and UNPK with the extended immediate that their formats need. -/
theorem test_meets_ConversionWords : Issues small twoLanes [] 0 [1] [7] ∧
    Issues (smallWith { twoLanes with kext := [5] }) { twoLanes with kext := [5] } [] 0 [(1 : BitVec 7).toNat, (7 : BitVec 7).toNat] [7] :=
  ⟨issues_of_ok (by decide), issues_of_ok (by decide)⟩

/-- VOTE up to its last function; SHFL with its index in a temporary that the run has named. -/
theorem test_meets_CrossLaneWords : Tokens small twoLanes [] 1 [1] [7] 3 ∧ (3 : BitVec 4).toNat ≤ 3 ∧
    (let g := { twoLanes with named := [112 + 15] }
     Tokens (smallWith g) g [] 0 [(1 : BitVec 7).toNat, 112 + (15 : BitVec 4).toNat] [7] 0) :=
  ⟨tokens_of_ok (by decide), by decide, tokens_of_ok (by decide)⟩

/-- Call stacks with room and without, with an entry and without. -/
theorem test_meets_BranchAndCallWords : Issues small twoLanes [] 0 [] [] ∧ (∀ l ∈ twoLanes.active 0, l.calls.length < 16) ∧ (∀ l ∈ twoLanes.active 0, l.calls ≠ []) ∧
    (let g := { twoLanes with lanes := [{ lane0 with calls := List.replicate 16 1 }, { lane1 with calls := [] }] }
     Issues (smallWith g) g [] 0 [] [] ∧ (∃ l ∈ g.active 0, 16 ≤ l.calls.length) ∧ ∃ l ∈ g.active 0, l.calls = []) ∧ Issues small twoLanes [] 1 [1] [] :=
  ⟨issues_of_ok (by decide), by decide, by decide, ⟨issues_of_ok (by decide), by decide, by decide⟩, issues_of_ok (by decide)⟩

theorem test_meets_TrailerAndPrefixWords : Issues small twoLanes [] 3 [] [] ∧ Issues small twoLanes [] 0 [] [] ∧ twoLanes.kext = [] ∧ small.core.issue = [twoLanes] ∧ Issues small twoLanes [] 0 [1] [] :=
  ⟨issues_of_ok (by decide), issues_of_ok (by decide), rfl, rfl, issues_of_ok (by decide)⟩

/-- SRD of the last region register; SWR, SCWR and THWR where the lanes agree. -/
def agreed : State := { smallWith twoLanes with core.gangs := [{ someGang with v := [(32, clean 9), (33, clean 9)], tiles := [0, 15] }],
                                                 eng.tregs := [{ ctx := 0, gang := 0, name := 0, words := [], header := regHeader 0x52 0 0, pois := [] },
                                                               { ctx := 0, gang := 0, name := 15, words := [], header := regHeader 0x52 0 0, pois := [] }] }

theorem test_meets_SpecialRegisterWords : Issues agreed twoLanes [] 0 [] [7] ∧ (∃ x L, agreed.gang 0 0 = some x ∧ agreed.launch 0 = some L) ∧ 15 < 16 ∧
    Issues agreed twoLanes [] 0 [(1 : BitVec 7).toNat] [] ∧ (∀ l ∈ twoLanes.active 0, agreed.opnd twoLanes l 1 = 9) ∧ twoLanes.active 0 ≠ [] ∧
    (∀ l ∈ twoLanes.active 0, ∃ x, agreed.gang 0 l.slot = some x ∧ x.swrBad 0x12F 9 = false ∧ x.swrBad 0x100 9 = false) ∧
    Issues agreed twoLanes [] 0 [(1 : BitVec 7).toNat, (2 : BitVec 7).toNat] [] ∧ (∀ l ∈ twoLanes.active 0, agreed.opnd twoLanes l 1 = 9 ∧ agreed.opnd twoLanes l 2 = 0) ∧
    agreed.tregMissing twoLanes (twoLanes.active 0) 15 = [] := by
  refine ⟨issues_of_ok (by decide), ⟨_, _, rfl, rfl⟩, by decide, issues_of_ok (by decide), by decide, by decide, ?_, issues_of_ok (by decide), by decide, by decide⟩
  intro l hl
  have : l.slot = 0 := by revert l hl; decide
  exact ⟨_, by rw [this]; rfl, by decide, by decide⟩

theorem test_meets_TileWords : Issues agreed twoLanes [] 0 [1] [7] ∧ (∀ l ∈ twoLanes.active 0, agreed.opnd twoLanes l 1 = 9) ∧ agreed.tregMissing twoLanes (twoLanes.active 0) 0 = [] ∧
    Tokens agreed twoLanes [] 0 [1] [7] 2 ∧ agreed.tilesBusy twoLanes (twoLanes.active 0) 15 = false ∧ Issues agreed twoLanes [] 0 [2, 1] [] ∧ Issues agreed twoLanes [] 0 [2, 3] [] ∧
    (5 : BitVec 4).toNat ≤ 5 ∧ (∀ l ∈ twoLanes.active 0, (agreed.thread twoLanes.core l.slot l.lane).item = 0) :=
  ⟨issues_of_ok (by decide), by decide, by decide, tokens_of_ok (by decide), by decide, issues_of_ok (by decide), issues_of_ok (by decide), by decide, by decide⟩

/-- A gang without a block, in a launch with XREGS, with the pool free and with it taken; a free name below TILES. -/
def unblocked : State := { small with core.gangs := [probeGang], run.launches := [{ probeLaunch with lrec := { probeRecord with xregs := 1 } }] }

theorem test_meets_AllocationWords : unblocked.core.issue = [twoLanes] ∧ slotsOf twoLanes.lanes = [0] ∧ (∀ l ∈ twoLanes.lanes, l.slot = 0) ∧
    (∃ x L, unblocked.gang 0 0 = some x ∧ x.core = 0 ∧ x.slot = 0 ∧ unblocked.launch 0 = some L ∧ (15 : BitVec 4).toNat < L.lrec.tiles ∧ x.tiles.contains 15 = false ∧ L.lrec.xregs ≠ 0 ∧ x.xacq = false) ∧
    unblocked.blocksUsed 0 < 16 ∧
    16 ≤ { unblocked with core.gangs := probeGang :: (List.range 16).map (fun i => { probeGang with slot := i + 1, xacq := true }) }.blocksUsed 0 :=
  ⟨rfl, by decide, by decide, ⟨_, _, rfl, rfl, rfl, rfl, by decide, by decide, by decide, rfl⟩, by decide, by decide⟩

/-- A load of each size from a page that is known, at an aligned address, the line in the L1. -/
def loadGrp : Grp := { twoLanes with lanes := [lane0] }
def loadState : State :=
  { mapped with core.issue := [loadGrp], core.gangs := [{ someGang with v := [(32 * 2, clean 16), (32 * 3, clean 0xFF000000)] }],
                coh.l1 := [{ core := 0, line := 0, frozen := false, rd := 0, data := zeros 128, pois := [], queue := [], recNo := 0, wtag := 0x7F }] }

theorem test_meets_LoadWords : (16 : Nat) < 2 ^ 8 ∧ Tokens loadState loadGrp [] 0 (baseSrcs (2 : BitVec 7).toNat) (regCodes 4 (regCount 16)) 7 ∧ loadGrp.stage = 0 ∧ loadGrp.qual = none ∧ loadGrp.active 0 = [lane0] ∧
    (let va := loadState.va loadGrp ((baseSrcs (2 : BitVec 7).toNat).map (loadState.readD loadGrp lane0)) (loadGrp.off4 0 16)
     va = 0xFF00000000000010 ∧ va % 16 = 0 ∧ loadState.xlate (stackOf 0) (loadState.tenantOfCtx 0) 0 va 0 = .ok 16 openLeaf) ∧ openLeaf.uncached = false ∧
    bit (nget 0 loadState.ten.hsctl (loadState.tenantOfCtx 0)) 0 = false ∧ loadState.barred (loadState.tenantOfCtx 0) 16 16 false = false ∧ (loadState.plainRead 0 0 0 16 16 false 0 false 0).2 ≠ .wait ∧
    (loadState.aliasesOn (16 / 128)).all (fun e => e.wtag == 0x7F) = true :=
  ⟨by decide, tokens_of_ok (by decide), rfl, rfl, by decide, by decide, rfl, by decide, by decide, by decide, by decide⟩

theorem test_meets_StoreWords : Issues loadState loadGrp [] 0 (regCodes 4 (regCount 16) ++ baseSrcs 2) [] ∧
    (∀ l ∈ loadGrp.active 0, loadState.va loadGrp ((baseSrcs 2).map (loadState.readD loadGrp l)) (loadGrp.off4 1 16) % 16 = 0 ∧
      loadState.xlate 0 0 0 (loadState.va loadGrp ((baseSrcs 2).map (loadState.readD loadGrp l)) (loadGrp.off4 1 16)) 1 = .ok 32 openLeaf) :=
  ⟨issues_of_ok (by decide), by decide⟩

/-- An atomic leaving (32 and 64 bits), and one whose value has come. -/
theorem test_meets_AtomicWords : Issues loadState loadGrp [] 0 (regCodes 4 2 ++ baseSrcs 2) (regCodes 4 2) ∧ loadGrp.active 0 = [lane0] ∧ loadGrp.stage = 0 ∧ (loadGrp.sem = 0 ∨ loadGrp.sem = 1) ∧
    loadState.va loadGrp ((baseSrcs 2).map (loadState.readD loadGrp lane0)) 0 % 8 = 0 ∧
    loadState.xlate (stackOf 0) 0 0 (loadState.va loadGrp ((baseSrcs 2).map (loadState.readD loadGrp lane0)) 0) 2 = .ok 16 openLeaf ∧ tyWide 2 = true ∧ tyWide 1 = false ∧
    (let g := { loadGrp with stage := 3 }
     (smallWith g).core.issue = [g] ∧ g.stage = 3 ∧ g.stallTx = [] ∧ g.sem ≠ 2 ∧ g.sem ≠ 4) :=
  ⟨issues_of_ok (by decide), by decide, rfl, by decide, by decide, by decide, by decide, by decide, by decide⟩

/-- A scratchpad access that ends at SPAD. -/
theorem test_meets_ScratchpadAndWaitWords :
    (let s := { smallWith loadGrp with core.gangs := [{ someGang with v := [(32, clean 240), (64, clean 224), (96, clean 248)] }] }
     SpadReady s loadGrp 0 16 16 (fun l => swizzle 0 ((s.opnd loadGrp l 1).toNat + 0 * 16)) ∧ Tokens s loadGrp [] 0 [1] (regCodes 4 (regCount 16)) 0 ∧
     Issues s loadGrp [] 0 (1 :: regCodes 4 (regCount 16)) [] ∧ SpadReady s loadGrp 0 32 32 (fun l => (s.opnd loadGrp l 2).toNat) ∧ Issues s loadGrp [] 0 [2, 1] [7] ∧
     SpadReady s loadGrp 0 8 8 (fun l => (s.opnd loadGrp l 3).toNat) ∧ Issues s loadGrp [] 0 [3, 1] []) := by
  have one : ∀ l ∈ loadGrp.active 0, l = lane0 := by decide
  refine ⟨⟨by decide, fun l hl => ?_⟩, tokens_of_ok (by decide), issues_of_ok (by decide), ⟨by decide, fun l hl => ?_⟩, issues_of_ok (by decide), ⟨by decide, fun l hl => ?_⟩, issues_of_ok (by decide)⟩ <;>
    (rw [one l hl]; exact ⟨by decide, by decide, _, rfl, rfl, by decide⟩)

set_option maxRecDepth 8000 in
/-- BRK of one lane with an entry free, and after a RETRY. -/
theorem test_meets_BreakpointWord : Issues trapState trapGrp [] 0 [] [] ∧ trapGrp.lanes = [lane0] ∧ (∃ x, trapState.gang 0 0 = some x ∧ 0 < x.threads.length ∧ (x.thread 0).brkPass = false) ∧
    trapState.held 0 = false ∧ trapState.freeFid 0 = some 0 ∧
    (let s := trapState.updThread 0 0 0 (fun t => { t with brkPass := true })
     ∀ l ∈ trapGrp.active 0, (s.thread 0 l.slot l.lane).brkPass = true) :=
  ⟨issues_of_ok (by decide), rfl, ⟨_, rfl, by decide, rfl⟩, by decide, rfl, by decide⟩

/-- The nonzero bytes of a list, as a scratchpad from an offset on. -/
def padAt (off : Nat) (b : List Byte) : NMap Byte := ((List.range b.length).zip b).filterMap (fun e => if e.2 = 0 then none else some (off + e.1, e.2))

/-- A graph of one stage with a ring of 16 records at the start of the mapped page, which continues to itself. -/
def oneStage : GraphS :=
  { stages := [leBytes 4 3 ++ zeros 8 ++ zeros 4 ++ leBytes 1 1 ++ leBytes 1 2 ++ leBytes 1 1 ++ leBytes 1 4 ++ zeros 4 ++ leBytes 8 0xFF00000000000000], p := [0], ran := [], tail := [0],
    recs := [], wave := 0, waiting := false, picked := [], serial := 0, groups := 0, given := [] }

/-- A lane at its entry: an SVC with a full ring and with a free one, at the device's ring and at the tenant's; an EMIT to a full stage and to one with room. -/
def entryLane : RLane := { lane0 with rcd := zeros 64 }
def entryGrp : Grp := { twoLanes with lanes := [entryLane], stage := 9 }
def ringState (mode ring pidx tail : Nat) (q : GraphS) : State :=
  { (mapped.setTrec 0 0 (1 + 2 ^ 16 * mode)) with core.issue := [entryGrp], ten.svcring := [(0, ring)], ten.pidx := if pidx = 0 then [] else [(0, pidx)], ten.hreqTail := if tail = 0 then [] else [(0, tail)],
                                                  run.launches := [{ probeLaunch with graph := some q }] }

/-- The 16 ways of the MSC set of line 0, held by other lines. -/
def fullSet : List MLine := (List.range 16).map (fun w => { line := 393216 * (w + 1), way := w, dirty := false })

/-- The scratchpad of slot 0 as a run found it, with some valid region lines. -/
def padOf (valid : List Nat) : Pad := { slot := 0, spad := [(0, 7)], spois := [], valid := valid }

set_option maxRecDepth 20000 in
theorem test_meets_RingWords :
    (let s := { ringState 0 0 0 0 oneStage with core.issue := [loadGrp] }
     Issues s loadGrp [] 0 [3] [] ∧ loadGrp.stage = 0 ∧ loadGrp.active 0 = [lane0] ∧ s.gang 0 0 = some someGang ∧ SpadReady s loadGrp 0 64 64 (fun m => (s.opnd loadGrp m 3).toNat) ∧
       s.runPois loadGrp 0 (s.opnd loadGrp lane0 3).toNat = false ∧ emitBad s loadGrp lane0 (s.runBlock loadGrp 0 (s.opnd loadGrp lane0 3).toNat) = false) ∧
    ({ loadGrp with pads := [padOf [0]] }.pads.find? (fun p => p.slot == lane0.slot) = some (padOf [0]) ∧ someGang.regionOf (0 / 128) = none ∧ (padOf [0]).valid.contains (0 / 128) = true) ∧
    (let s := ringState 0 0 0 0 oneStage
     s.core.issue = [entryGrp] ∧ entryGrp.stage = 9 ∧ (s.gang 0 0).isSome = true ∧ (entryGrp.active 0).find? (fun l => !l.did) = some entryLane ∧ bit (s.tModes 0) 3 = false ∧ s.hearthOf 0 = 0 ∧ s.hreqFull 0 = false ∧
       s.storeReady (hreqAddr ((tget s.ten.hreqBase 0).getD 0) 0) 64 = true ∧ { s with coh.msc := fullSet }.storeReady (hreqAddr ((tget s.ten.hreqBase 0).getD 0) 0) 64 = false ∧
       (s.graphOf 0) = some oneStage ∧ oneStage.fill 0 < 2 ^ oneStage.qlog 0 ∧ s.reeveXl 0 (oneStage.slotVa 0) 5 = .ok 0 openLeaf ∧ s.storeReady 0 64 = true ∧ entryLane.rcd.length = 64) ∧
    (ringState 0 0 0 4096 oneStage).hreqFull 0 = true ∧ (ringState 0 0 0 4095 oneStage).hreqFull 0 = false ∧
    (let s := ringState 8 0x1000D 63 0 oneStage
     let addr := hostPa (s.tPort 0) (0x10000 + 64 * 63)
     bit (s.tModes 0) 3 = true ∧ bit (nget 0 s.ten.svcring 0) 0 = true ∧ (nget 0 s.ten.pidx 0 + 2 ^ 16 - nget 0 s.ten.cidx 0) % 2 ^ 16 ≠ 2 ^ bits (nget 0 s.ten.svcring 0) 4 1 ∧
       s.storeReady addr 64 = false ∧ { s with host.halves := [(addr / 64, .M)] }.storeReady addr 64 = true) ∧
    (let s := ringState 8 0x1000D 64 0 oneStage
     (nget 0 s.ten.pidx 0 + 2 ^ 16 - nget 0 s.ten.cidx 0) % 2 ^ 16 = 2 ^ bits (nget 0 s.ten.svcring 0) 4 1) ∧
    (let q := { oneStage with tail := [16], recs := [(0, 0, 0)] }
     2 ^ q.qlog 0 ≤ q.fill 0) ∧
    (let g := { entryGrp with lanes := [{ entryLane with did := true }] }
     ∀ l ∈ g.active 0, l.did = true) := by
  have one : ∀ l ∈ loadGrp.active 0, l = lane0 := by decide
  refine ⟨⟨issues_of_ok (by decide), rfl, by decide, rfl, ⟨by decide, fun l hl => ?_⟩, by decide, by decide⟩, by decide,
    ⟨rfl, rfl, rfl, by decide, by decide, by decide, by decide, by decide +kernel, by decide +kernel, rfl, by decide, by decide +kernel, by decide +kernel, by decide⟩, by decide, by decide, by decide +kernel, by decide, by decide, by decide⟩
  rw [one l hl]; exact ⟨by decide, by decide, _, rfl, rfl, by decide⟩

/-- A block of a COPY of 64 bytes between mapped pages, and one of a collective of one rank. -/
def copyBlock : List Byte := leBytes 8 0xFF00000000001000 ++ leBytes 8 0xFF00000000000000 ++ zeros 8 ++ leBytes 4 64 ++ zeros 4 ++ leBytes 1 1 ++ zeros 31
def collBlock : List Byte :=
  leBytes 8 0xFF00000000000000 ++ leBytes 8 0xFF00000000001000 ++ leBytes 8 0xFF00000000000800 ++ leBytes 8 5 ++ leBytes 2 1 ++ zeros 2 ++ leBytes 1 1 ++ zeros 1 ++ leBytes 1 0x20 ++ zeros 1 ++ leBytes 4 64 ++ zeros 20
def engineState (b : List Byte) : State := { mapped with core.issue := [entryGrp], core.gangs := [{ someGang with spad := padAt 0 b }] }

theorem test_meets_EngineWords :
    (let s := { engineState copyBlock with core.issue := [loadGrp] }
     Issues s loadGrp [] 0 [3] [] ∧ loadGrp.stage = 0 ∧ loadGrp.active 0 = [lane0] ∧ SpadReady s loadGrp 0 64 64 (fun m => (s.opnd loadGrp m 3).toNat) ∧
       (∃ x, s.gang 0 lane0.slot = some x ∧ s.runBlock loadGrp lane0.slot (s.opnd loadGrp lane0 3).toNat = copyBlock ∧ s.runPois loadGrp lane0.slot (s.opnd loadGrp lane0 3).toNat = false) ∧
       ∃ pages, s.cmdCheck 1 loadGrp lane0 copyBlock = (s, .ok pages)) ∧
    (let s := { engineState collBlock with core.issue := [loadGrp] }
     ∃ pages, s.cmdCheck 7 loadGrp lane0 collBlock = (s, .ok pages)) ∧
    (let s := engineState copyBlock
     s.core.issue = [entryGrp] ∧ (entryGrp.active 0).find? (fun l => !l.did) = some entryLane ∧ s.cmdSlots 0 < 64 ∧ (∀ opc ∈ [1, 2, 3, 4, 5, 6, 7], s.sourceFilled 0 (some 0) opc entryLane.rcd = (s, true))) := by
  have one : ∀ l ∈ loadGrp.active 0, l = lane0 := by decide
  refine ⟨⟨issues_of_ok (by decide), rfl, by decide, ⟨by decide, fun l hl => ?_⟩, ⟨_, rfl, by decide, by decide⟩, _, rfl⟩, ⟨_, rfl⟩, rfl, by decide, by decide, ?_⟩
  · rw [one l hl]; exact ⟨by decide, by decide, _, rfl, rfl, by decide⟩
  · simp only [List.mem_cons, List.not_mem_nil, or_false]
    rintro opc (rfl | rfl | rfl | rfl | rfl | rfl | rfl) <;> rfl

theorem test_meets_QueueWords :
    ((entryGrp.active 0).find? (fun l => !l.did) = some entryLane ∧ ((engineState []).eng.lists.filter (fun c => c.core == 0)).length < 16 ∧ entryGrp.active 0 = [entryLane] ∧ entryLane.did = false ∧
      entryLane.slot < 32 ∧ someGang.core = 0 ∧ someGang.slot = entryLane.slot ∧ ((engineState []).gangTasks 0 0).length < 16) ∧
    (let s := { engineState [] with core.issue := [loadGrp], core.gangs := [{ someGang with tiles := [0] }] }
     Issues s loadGrp [] 0 [3] [] ∧ SpadReady s loadGrp 0 64 64 (fun m => (s.opnd loadGrp m 3).toNat) ∧ s.runPois loadGrp 0 (s.opnd loadGrp lane0 3).toNat = false ∧ taskBad (s.spadSize loadGrp lane0) (s.runBlock loadGrp 0 (s.opnd loadGrp lane0 3).toNat) = false ∧
       (∀ n ∈ (taskRec (s.runBlock loadGrp 0 (s.opnd loadGrp lane0 3).toNat)).names, ([0] : List Nat).contains n = true)) ∧
    (let s := { loadState with core.gangs := [{ someGang with v := [(32 * 2, clean 64), (32 * 3, clean 0xFF000000), (32 * 5, clean 4096)] }] }
     Issues s loadGrp [] 0 (baseSrcs (2 : BitVec 7).toNat ++ [(5 : BitVec 7).toNat]) [] ∧ ∀ m ∈ loadGrp.active 0, s.va loadGrp ((baseSrcs 2).map (s.readD loadGrp m)) 0 % 64 = 0 ∧ 1 ≤ (s.opnd loadGrp m 5).toNat ∧ (s.opnd loadGrp m 5).toNat ≤ 4096) := by
  have one : ∀ l ∈ loadGrp.active 0, l = lane0 := by decide
  refine ⟨by decide, ⟨issues_of_ok (by decide), ⟨by decide, fun l hl => ?_⟩, by decide, by decide, by decide⟩, issues_of_ok (by decide), by decide⟩
  rw [one l hl]; exact ⟨by decide, by decide, _, rfl, rfl, by decide⟩

/-- A draw of an estimate with CANCEL that has stopped at 0, STOP having reached its cluster. -/
def cancelState : State :=
  { smallWith loadGrp with run.launches := [{ probeLaunch with lrec := { probeRecord with kind := 3, flags := 1 }, est := some { p := 0, n := 0, mean := 0, m2 := 0, e := 0, window := [], k := some 0, stopSerial := 0, disc := 0, cancelled := false, reached := [0] } }] }

/-- A run of one lane at its END, its count at the deadline. -/
theorem test_meets_EndOfRun :
    (let s := smallWith loadGrp
     s.core.issue = [loadGrp] ∧ loadGrp.lanes = [lane0] ∧ lane0.done = false ∧ loadGrp.fx = [] ∧ loadGrp.arith = [] ∧ loadGrp.trailer = false ∧
       ∃ x L, s.gang 0 0 = some x ∧ x.core = 0 ∧ x.slot = 0 ∧ x.ctx = 0 ∧ s.launch 0 = some L ∧ s.cancelled x 0 = false ∧ 0 < x.threads.length ∧
         ({ x.thread 0 with count := 256 * s.deadline 0 (x.thread 0) - 2 }).count + loadGrp.words.length ≤ 256 * s.deadline 0 (x.thread 0)) ∧
    someGang.xacq = true ∧ (∃ x, cancelState.gang 0 0 = some x ∧ cancelState.cancelled x 0 = true) :=
  ⟨⟨rfl, rfl, rfl, rfl, rfl, rfl, _, _, rfl, rfl, rfl, rfl, rfl, by decide, by decide, by decide⟩, rfl, _, rfl, by decide⟩

theorem test_meets_CacheHintWords :
    (let s := loadState
     Issues s loadGrp [] 0 (baseSrcs (2 : BitVec 7).toNat) [] ∧ loadGrp.active 0 = [lane0] ∧
       s.xlate (stackOf 0) (s.tenantOfCtx 0) 0xFFFF (s.va loadGrp ((baseSrcs 2).map (s.readD loadGrp lane0)) (loadGrp.off4 1 128)) 0 = .ok 144 openLeaf ∧ openLeaf.uncached = false ∧
       isCellar 144 = false ∧ s.l1At 0 1 0x7F = none ∧ s.slotWorld 0 0 = 0x7F ∧ (s.sliceFill (sliceFor 0 1) 1 0x7F 0).2 = .ok ∧
       ((s.sliceFill (sliceFor 0 1) 1 0x7F 0).1.l2At (sliceFor 0 1) 1 0x7F).isSome = true ∧ ∃ x, s.l1At 0 0 0x7F = some x ∧ x.frozen = false ∧ x.rd = 0) ∧
    (let s := { loadState with xl.tlb := [{ pageAt 0 with pa := 2 ^ 40 }] }
     s.xlate (stackOf 0) (s.tenantOfCtx 0) 0xFFFF (s.va loadGrp ((baseSrcs 2).map (s.readD loadGrp lane0)) (loadGrp.off4 1 128)) 0 = .ok (2 ^ 40 + 144) openLeaf ∧ isCellar (2 ^ 40 + 144) = true) ∧
    (let held := (loadState.sliceFill (sliceFor 0 1) 1 0x7F 0).1
     (held.l2At (sliceFor 0 1) 1 0x7F).isSome = true ∧ held.due (fun e => e == .l2Victim (sliceFor 0 1) 1 0x7F) = false ∧
       ({ loadState with coh.txs := [{ blankTx 7 1 [] with inval := true, slice := sliceFor 0 1 }] }.sliceFill (sliceFor 0 1) 1 0x7F 0).2 = .wait) :=
  ⟨⟨issues_of_ok (by decide), by decide, by decide, rfl, by decide, by decide, by decide, by decide, by decide, _, rfl, rfl, rfl⟩, by decide, by decide⟩

/-- Reset held and let go with rails good and bad; island writes at the bounds of a quadrant's ranges; temperatures at 840, 879, 880 and 799. -/
theorem test_meets_PackageEvents :
    ({ State.reset with pkg.inReset := true }.pkg.railBad = []) ∧ { State.reset with pkg.railBad := [3] }.pkg.inReset = false ∧ 3 ∈ { State.reset with pkg.inReset := true, pkg.railBad := [3] }.pkg.railBad ∧
    { State.reset with pkg.railBad := [3] }.railRuns 3 = false ∧ { State.reset with pkg.railBad := [3], ctl.timers := [(1700000, .railSettledTimer 3)] }.railRuns 3 = true ∧
    (let f := ((0x0C8_0C8_226_000 : DWord).extractLsb' 24 12).toNat
     let u := ((0x0C8_0C8_226_000 : DWord).extractLsb' 12 12).toNat
     let fl := ((0x0C8_0C8_226_000 : DWord).extractLsb' 36 12).toNat
     200 ≤ f ∧ f ≤ 850 ∧ f % 25 = 0 ∧ 550 ≤ u ∧ u ≤ 850 ∧ u % 5 = 0 ∧ 6 * (f - 200) ≤ 13 * (u - 550) ∧ 200 ≤ fl ∧ fl ≤ f ∧ fl % 25 = 0 ∧
       (State.reset.island 0).change = none ∧ (f, u, fl) ≠ ((State.reset.island 0).fset, (State.reset.island 0).vset, (State.reset.island 0).floor)) ∧
    ((20 : Nat) % 7 = 6 ∧ (425 : Nat) ≠ (State.reset.island 4).fset ∧ (850 : Nat) ≠ (State.reset.island 5).fset) ∧
    ({ State.reset with pkg.islands := modAt State.reset.pkg.islands 3 (fun x => { x with change := some (850, 850, 300) }) }.island 3).change = some (850, 850, 300) ∧
    (880 ≤ max 880 (max 0 0) ∧ max 879 (max 0 0) < 880 ∧ (840 : Nat) ≤ 840 ∧ 95 < State.reset.pkg.tcol.length ∧ (State.reset.island (islandOf 11)).throt = false ∧ ((State.reset.setThrottle 11 true).island (islandOf 11)).throt = true ∧
      State.reset.quadrantWarm 11 = false ∧ { State.reset with pkg.tcol := List.replicate 96 800 }.quadrantWarm 11 = true ∧ { State.reset with pkg.tcol := List.replicate 96 799 }.quadrantWarm 11 = false ∧
      (∀ t ∈ { State.reset with ctl.timers := [] }.ctl.timers, t.2 ≠ .tcolSample 0 0 0 0)) ∧
    ({ State.reset with pkg.tcol := [0xC0000000 + 839] }.pkg.tcol.length = 1 ∧ (∀ r ∈ readings (0xC0000000 + 839), r < 840) ∧ ∃ r ∈ readings (0xC0000000 + 840), 840 ≤ r) := by
  decide

/-- Each state of a link; counters at the two bounds of R26. -/
def linked (st : LinkState) (tx fails : Nat) : State :=
  { State.reset with pkg.links := modAt State.reset.pkg.links 18 (fun x => { x with st := st, tx := tx, fails := fails, replay := [(4, zeros 256)] }) }

theorem test_meets_LinkEvents : (∀ st ∈ [LinkState.down, .train, .keying, .up, .drain, .refuse], ((linked st 0 0).link 18).st = st) ∧
    (((linked .up (2 ^ 62 - 2 ^ 32) 0).link 18).st = .up ∧ 2 ^ 62 - 2 ^ 32 ≤ ((linked .up (2 ^ 62 - 2 ^ 32) 0).link 18).tx ∧ ((linked .up 0 0).link 18).updating = false ∧ 18 < (linked .up 0 0).pkg.links.length) ∧
    2 ^ 62 ≤ ((linked .up (2 ^ 62) 0).link 18).tx ∧ mate 18 = some 21 ∧ mate 3 = none ∧ (linked .drain 0 0).flying 18 = false ∧ { linked .drain 0 0 with ctl.agenda := [.flitReceive 21 []] }.flying 18 = true ∧
    (linked .up 0 0).flying 18 = false ∧ (let s := { linked .up 0 0 with ctl.agenda := [.flitReplay 18 0] }; (s.land 18).flying 18 = true ∧ ((s.land 18).link 18).st = .up) := by
  decide

set_option maxRecDepth 8000 in
theorem test_meets_FlitEvents : ((linked .up 0 0).link 18).tx < 2 ^ 62 ∧ ((linked .up 0 0).link 18).tx + 1 ≠ 2 ^ 62 - 2 ^ 32 ∧ ((linked .up 0 0).link 18).rx + 1 < 2 ^ 62 - 2 ^ 32 ∧ ((linked .up 0 1).link 18).fails < 2 ∧
    2 ≤ ((linked .drain 0 2).link 18).fails ∧ 2 ^ 62 ≤ ((linked .up (2 ^ 62) 0).link 18).tx ∧ ((linked .failed 0 0).link 18).st = .failed ∧ (linked .up 0 0).pkg.links.length = 22 ∧
    tget ((linked .drain 0 0).link 18).replay 4 = some (zeros 256) ∧ (∀ c ∈ (linked .up 0 0).eng.cmds, linkId 18 ∈ c.ports → c.finished = true) := by
  decide

/-- Flits whose tag verifies, and does not, under any key and counter. -/
theorem test_meets_FlitTags (key nonce : List Byte) : (∃ f : List Byte, gcmTag key nonce [] (f.take 240) = f.drop 240) ∧ ∃ f : List Byte, gcmTag key nonce [] (f.take 240) ≠ f.drop 240 := by
  have hl : (zeros 240).length = 240 := List.length_replicate
  refine ⟨⟨zeros 240 ++ gcmTag key nonce [] (zeros 240), ?_⟩, ⟨zeros 240 ++ (gcmTag key nonce [] (zeros 240) ++ [0]), fun h => ?_⟩⟩
  · rw [List.take_left' hl, List.drop_left' hl]
  · rw [List.take_left' hl, List.drop_left' hl] at h
    simpa using congrArg List.length h

/-- Half 2^50 is host memory of port 0; requests outstanding, every state of a half; a CXL request at the end of the range. -/
def hostState (st : Half) (own : Bool) : State :=
  { State.reset with host.train := [2, 1], host.hdmSize := 0x10000000, host.halves := if st = .I then [] else [(2 ^ 49, st)], host.reqs := [(2 ^ 49, own)] }

/-- hostState with the line of the half in a slice, for a world (0x7F: for none). -/
def slicedHost (st : Half) (w : Nat) : State :=
  { hostState st false with coh.l2 := [{ slice := 0, line := 2 ^ 48, world := w, way := 0, dirty := true, data := zeros 128, pois := [], dir := noDir }] }

theorem test_meets_HostPortAndBridgeEvents : isHost (64 * 2 ^ 49) = true ∧ (∀ st ∈ [Half.I, .S, .E, .M], (hostState st false).half (2 ^ 49) = st) ∧ (2 ^ 49, true) ∈ (hostState .S true).host.reqs ∧
    (hostState .S false).l2Holds (2 ^ 48) = false ∧ (slicedHost .S 0x7F).l2Holds (2 ^ 48) = true ∧ (slicedHost .S 0x7F).worldDirty (2 ^ 48) = false ∧ (slicedHost .S 3).worldDirty (2 ^ 48) = true ∧
    (hostState .S false).isCxl (halfPort (2 ^ 49)) = true ∧ { hostState .S false with host.train := [1, 1] }.isCxl (halfPort (2 ^ 49)) = false ∧ (hostState .S false).snoopWaits (2 ^ 48) = false ∧
    { hostState .S false with ctl.waiting := [.hostSnpinv (2 ^ 49)] }.snoopWaits (2 ^ 48) = true ∧
    (hostState .I false).isCxl 0 = true ∧ (hostState .I false).isCxl 1 = false ∧ (0x0FFFFFC0 : Nat) < (hostState .I false).host.hdmSize.toNat ∧
    (hostState .I false).host.hdmSize.toNat ≤ 0x10000000 ∧ (hostState .I false).host.hdmBase.toNat + (hostState .I false).host.hdmSize.toNat ≤ 768 * 2 ^ 30 ∧ (hostState .I false).host.decoders = [] ∧
    ((∀ l ∈ (hostState .I false).coh.l2, l.line = 5 → l.world = 0x7F) ∧ (∀ e ∈ (hostState .I false).aliasesOn 5, e.wtag = 0x7F) ∧ ((hostState .I false).mscFill 5).2 = true) ∧
    (hostState .I false).outsider { blankTx 0 5 [] with tenant := 0xFFFF } = none ∧ (slicedHost .I 3).outsider { blankTx 0 (2 ^ 48) [] with tenant := 0xFFFF } = some 3 ∧
    (hostState .I false).host.waitCxl = false ∧ { hostState .I false with host.waitCxl := true, host.decoders := [(0, 0)] }.host.decoders ≠ [] ∧
    ((hostState .I true).mscFill (2 ^ 48)).2 = true ∧ ({ hostState .I true with coh.msc := fullSet.map (fun (l : MLine) => { l with line := 2 ^ 48 + l.line }) }.mscFill (2 ^ 48)).2 = false ∧
    (hostState .I false).worldHolder 5 0x7F = none ∧ (hostState .I false).way 624 (lineNode 5) = .clear ∧ nodeStack (lineNode 5) = nodeStack 624 := by
  decide

/-- Launches of host and ATS tenants; a granule of HBM homed at its core and one that is not; a head with an entry held back; READY and not. -/
theorem test_meets_RegisterEvents : (∃ l ∈ small.run.launches, bit (small.tModes l.tenant) 0 = false) ∧ (∀ l ∈ (ringState 1 0 0 0 oneStage).run.launches, bit ((ringState 1 0 0 0 oneStage).tModes l.tenant) 0 = true) ∧
    State.reset.run.launches = [] ∧ small.run.launches ≠ [] ∧ ((47 * 4096) % 4096 = 0 ∧ isHbm (47 * 4096) = true ∧ homeOf (47 * 4096) = 47) ∧ ¬ (homeOf (46 * 4096) = 47) ∧
    State.reset.host.ready = false ∧ State.reset.host.halted = false ∧ { State.reset with host.held := false }.host.held = false ∧
    ({ State.reset with ten.hfltWait := [(3, [])], ten.hfltTail := [(3, 1024)] }.ten.hfltWait = [(3, [])] ∧ (1024 + 2 ^ 32 - (1 : Word).toNat) % 2 ^ 32 ≠ 1024) ∧
    State.reset.hfltReady 0 = true ∧ { State.reset with coh.msc := fullSet }.hfltReady 0 = false := by
  decide

/-- A locator without faults; a header that names a body of 128 zeros. -/
def goodFlash : List Byte := leBytes 4 0x4C42574B ++ leBytes 2 1 ++ zeros 2 ++ leBytes 8 0x10000 ++ leBytes 4 0x2000 ++ zeros 12 ++ zeros 32
def namesBody : State := { hostState .I false with host.step := 4, host.header := zeros 16 ++ sm3 (zeros 128) ++ zeros 208, host.body := 128 }

theorem test_meets_BootBody : namesBody.host.step = 4 ∧ namesBody.isCxl 0 = true ∧ namesBody.bodyOk (zeros 128) = true ∧ namesBody.bodyOk [] = false ∧ { namesBody with host.recov := true }.host.stopped = false := by
  decide +kernel

/-- A locator that is bad (all zero) and a good one at step 0; the later steps of boot. -/
theorem test_meets_BootEvents : State.reset.host.stopped = false ∧ State.reset.host.step = 0 ∧ locatorOk State.reset.host.flash = false ∧ locatorOk goodFlash = true ∧ State.reset.isCxl 0 = false ∧
    ({ hostState .I false with host.step := 2 }.host.step = 2 ∧ { hostState .I false with host.step := 2 }.isCxl 0 = true) ∧
    ({ State.reset with host.step := 2, host.waitCxl := true }.host.waitCxl = true) ∧
    ({ hostState .I false with host.step := 3 }.headerCode [] ≠ 0) ∧ ({ State.reset with host.step := 6 }.host.halted = false) ∧ (7, 0) ∈ { State.reset with coh.pins := [(7, 0)] }.coh.pins := by
  decide

/-- mapped with tenant 0's two queues (MAXPRI 7), the first open with one record at its head, on the second page; the descriptor of the other, of 16 records, lies at QTBASE + 64. -/
def openQueue : Queue :=
  { q := 0, tenant := 0, ctlseq := 0, expseq := 0, head := 0, tail := 1, secure := false, qst := 1, cls := 0, rlog := 4, rbase := 0xFF00000000001000, held := false, again := false }
def queued : State := { (mapped.setTrec 0 0 0x701).setTrec 0 1 (2 ^ 33) with ten.queues := [openQueue], mem := [(72, 4)], run.launches := [], run.tcbs := [], core.gangs := [], core.issue := [] }

/-- Doorbell values: index and VALUE. -/
def bell (i v : Nat) : DWord := BitVec.ofNat 64 (i + 2 ^ 32 * v)

set_option maxRecDepth 20000 in
theorem test_meets_TenantAndDoorbellEvents :
    (small.hasContext 0 = true ∧ queued.queuedLaunch 0 = true ∧ queued.queuesOpen 0 = true ∧ queued.hasContext 0 = false) ∧
    (State.reset.hasContext 0 = false ∧ State.reset.queuedLaunch 0 = false ∧ State.reset.queuesOpen 0 = false ∧ State.reset.tState 0 = 0 ∧ State.reset.tenantOk 0 = false) ∧
    (let s := (queued.setTState 0 0)
     s.tState 0 = 0 ∧ s.tenantOk 0 = true ∧ (s.setTrec 0 1 (2 ^ 33 + 131070)).tenantOk 0 = true ∧ (s.setTrec 0 1 (2 ^ 33 + 131071)).tenantOk 0 = false) ∧
    queued.tState 0 = 1 ∧ { queued with ten.tdi := [((0, 0), 3)] }.refuses 0 0 = true ∧ queued.refuses 0 0 = false ∧
    (queued.tenantOfAny 0 0 = some 0 ∧ queued.bellQueue (some 0) (bell 2 0) = none ∧ queued.bellQueue (some 0) (bell 0 16) = some (0, 0) ∧ queued.queue 0 = some openQueue ∧
      2 ^ openQueue.rlog < (bell 0 17).toNat / 2 ^ 32 ∧ (bell 0 16).toNat / 2 ^ 32 ≤ 2 ^ openQueue.rlog) ∧
    (queued.bellQueue (queued.tenantOf 0 0) (bell 1 0) = some (0, 1) ∧ queued.queue 1 = none ∧ isHbm (queued.ten.qtbase.toNat + 64 * 1) = true ∧ queued.descOk 0 (queued.devBytes 64 64) = true ∧
      { queued with mem := [] }.descOk 0 ({ queued with mem := [] }.devBytes 64 64) = false ∧ { queued with mem := [(72, 17)] }.descOk 0 ({ queued with mem := [(72, 17)] }.devBytes 64 64) = false) ∧
    (queued.readReady 64 64 = true ∧ (queued.readOver 64 64).2 = true ∧ { queued with coh.txs := [{ blankTx 7 0 [(5, 9)] with core := 384 }], ctl.agenda := [.homeStore 7] }.readReady 64 64 = false) := by
  decide

/-- A launch record (R57) of a kind, with its kind area, a COMPL and a sequence number: 32 identifiers of one level, 128 bytes of scratchpad, any deadline. -/
def recBytes (kind w0 compl : Nat) (area : List Byte) (seq : Nat) : List Byte :=
  leBytes 1 kind ++ leBytes 1 0 ++ leBytes 1 0 ++ leBytes 1 15 ++ zeros 4 ++ zeros 8 ++ leBytes 4 0 ++ leBytes 4 128 ++ leBytes 1 w0 ++ zeros 15 ++ leBytes 8 32 ++ zeros 8 ++ leBytes 8 compl ++ zeros 8 ++ zeros 8 ++
    (area ++ zeros (112 - area.length)) ++ leBytes 8 seq

/-- A record without a tag. -/
def plainRec (w0 : Nat) : List Byte := recBytes 1 w0 0xFF00000000000040 [] 0 ++ zeros 56

/-- queued with a record at its head, four save blocks and the home Hearth core of bit 31. -/
def recState (q : Queue) (b : List Byte) : State :=
  { queued with ten.queues := [q], mem := padAt 4096 b, host.hartid := 0x80000000, run.savebase := 0x80000, run.savecnt := 4,
                ten.keys := [(0, { state := 1, tenant := 0, keyid := 0, typ := 1, ways := 0, gen := 1, users := 0, key := zeros 32 })] }

/-- A secured queue that expects 5. -/
def securedQueue : Queue := { openQueue with secure := true, expseq := 5 }
/-- The area of a control record: NEWSEQ 9, CTLNUM 3, NEWKEY 0xFF. -/
def controlArea : List Byte := leBytes 8 9 ++ leBytes 8 3 ++ leBytes 1 0xFF

/-- The tag of a record under the key of slot 0. -/
def tagFor (b : List Byte) : List Byte := gcmTag (zeros 32) (leBytes 4 0 ++ cut b 192 8) b []
/-- A record of 200 bytes in memory with its tag, and what the Reeve reads. -/
def taggedState (b : List Byte) : State := (recState securedQueue b).putBytes 4296 (tagFor b)
def taggedRec (b : List Byte) : List Byte := (taggedState b).devBytes 4096 256

/-- HeadIs, as a test. -/
def headOk (s : State) (q : Queue) (b : List Byte) : Bool :=
  decide (s.queue q.q = some q) && q.head != q.tail && (match s.reeveXl q.tenant q.recordVa 4 with
    | .ok pa _ => s.reeveRead q.tenant q.recordVa 256 == some (some b) && (s.readOver pa 256).2 && !(s.readOver pa 256).1.extentPois pa 256
    | _ => false)

theorem head_of_ok {s : State} {q : Queue} {b : List Byte} (h : headOk s q b = true) : HeadIs s q b := by
  simp only [headOk, Bool.and_eq_true, decide_eq_true_eq, bne_iff_ne] at h
  obtain ⟨⟨h1, h2⟩, h3⟩ := h
  split at h3
  · rename_i pa attr hx
    simp only [Bool.and_eq_true, Bool.not_eq_true', beq_iff_eq] at h3
    exact ⟨h1, h2, pa, attr, hx, h3.1.1, h3.1.2, h3.2⟩
  · simp at h3

/-- Dispatchable, as a test. -/
def dispatchOk (s : State) (q : Queue) (b : List Byte) (ctx hdr : Nat) : Bool :=
  !badRecord b q.secure && (recordOf b).kind == 1 && !bit (recordOf b).flags 1 && (bit (s.tModes q.tenant) 0 || bit s.host.hartid.toNat 31) && !s.noSpace (recordOf b) q.q && s.freeCtx == some ctx &&
    s.freeBlocks 1 == some [hdr]

theorem dispatch_of_ok {s : State} {q : Queue} {b : List Byte} {ctx hdr : Nat} (h : dispatchOk s q b ctx hdr = true) : Dispatchable s q b ctx hdr := by
  simp only [dispatchOk, Bool.and_eq_true, Bool.not_eq_true', beq_iff_eq, Bool.or_eq_true] at h
  obtain ⟨⟨⟨⟨⟨⟨h1, h2⟩, h3⟩, h4⟩, h5⟩, h6⟩, h7⟩ := h
  exact ⟨h1, h2, h3, h4, h5, h6, h7⟩

def heldQueue : Queue := { openQueue with held := true }
def deadQueue : Queue := { openQueue with qst := 4 }

/-- A record that dispatches, at its first look and held; a malformed one; one on a DEAD queue. -/
theorem test_meets_LaunchRecordEvents :
    (HeadIs (recState openQueue (plainRec 5)) openQueue (plainRec 5) ∧ Dispatchable (recState openQueue (plainRec 5)) openQueue (plainRec 5) 0 0x80000) ∧
    (HeadIs (recState heldQueue (plainRec 5)) heldQueue (plainRec 5) ∧ Dispatchable (recState heldQueue (plainRec 5)) heldQueue (plainRec 5) 0 0x80000) ∧
    (HeadIs (recState openQueue (plainRec 6)) openQueue (plainRec 6) ∧ badRecord (plainRec 6) false = true ∧ (recordOf (plainRec 6)).compl % 64 = 0 ∧
      (recState openQueue (plainRec 6)).reeveXl 0 (recordOf (plainRec 6)).compl 5 = .ok 64 openLeaf ∧ (recState openQueue (plainRec 6)).storeReady 64 64 = true) ∧
    (HeadIs (recState deadQueue (plainRec 5)) deadQueue (plainRec 5) ∧ (recState deadQueue (plainRec 5)).isControl deadQueue (plainRec 5) = false) :=
  ⟨⟨head_of_ok (by decide +kernel), dispatch_of_ok (by decide +kernel)⟩, ⟨head_of_ok (by decide +kernel), dispatch_of_ok (by decide +kernel)⟩, ⟨head_of_ok (by decide +kernel), by decide +kernel⟩,
    head_of_ok (by decide +kernel), by decide +kernel⟩

/-- A COMPL-less record of each sequence number, and a control record. -/
def seqRec (seq : Nat) : List Byte := recBytes 1 5 0xFF00000000000040 [] seq
def controlRec : List Byte := recBytes 4 5 0xFF00000000000040 controlArea 0

theorem round_key : (((roundKeys (nums (zeros 32))).drop 14).headD []).length = 16 := by decide +kernel

theorem tag_length (b : List Byte) : (tagFor b).length = 16 := by
  have h := round_key
  simp only [tagFor, gcmTag, unnums, xorl, aesEncK, shiftRows, beBytes, List.length_map, List.length_zipWith, List.length_reverse, List.length_range, h]
  rfl

theorem tagged_byte (b : List Byte) (i : Nat) (h : i < 8192) : (taggedState b).devByte i = nget 0 (taggedState b).mem i := by
  have hc : isCellar i = false := by simp only [isCellar, Bool.and_eq_false_iff, decide_eq_false_iff_not]; omega
  simp only [State.devByte, hc]
  rfl

theorem tagged_mem (b : List Byte) (i : Nat) (h : i < 200) : nget 0 (taggedState b).mem (4096 + i) = nget 0 (padAt 4096 b) (4096 + i) :=
  Memory.putAll_ne _ 4296 _ (Or.inl (by omega))

theorem tagged_tag (b : List Byte) : cut (taggedRec b) 200 16 = tagFor b := by
  apply List.ext_getElem
  · simp [cut, taggedRec, State.devBytes, tag_length]
  · intro i h1 h2
    have h : nget 0 (taggedState b).mem (4296 + i) = (tagFor b)[i] := Memory.putAll_at _ 4296 _ h2
    simp only [cut, taggedRec, State.devBytes, List.getElem_take, List.getElem_drop, List.getElem_map, List.getElem_range]
    rw [tagged_byte _ _ (by have := tag_length b; simp [cut, taggedRec, State.devBytes] at h1; omega), ← h]
    congr 1
    omega

theorem tagged_body (b : List Byte) (hb : (List.range 200).map (fun i => nget 0 (padAt 4096 b) (4096 + i)) = b) : (taggedRec b).take 200 = b := by
  rw [taggedRec, State.devBytes, ← List.map_take, List.take_range]
  refine Eq.trans ?_ hb
  apply List.map_congr_left
  intro i hi
  have : i < 200 := by simpa using hi
  rw [tagged_byte _ _ (by omega), tagged_mem b i this]

theorem cut_take (l : List Byte) (a n k : Nat) (h : a + n ≤ k) : cut l a n = cut (l.take k) a n := by
  simp only [cut, List.drop_take, List.take_take]
  congr 1
  omega

theorem tagged_ok (b : List Byte) (hb : (List.range 200).map (fun i => nget 0 (padAt 4096 b) (4096 + i)) = b) : (taggedState b).tagOk securedQueue (taggedRec b) = true := by
  have h1 : (taggedState b).key ((taggedState b).tRingKey 0) = some { state := 1, tenant := 0, keyid := 0, typ := 1, ways := 0, gen := 1, users := 0, key := zeros 32 } := by
    have h : (taggedState b).ten = (recState securedQueue []).ten := rfl
    simp only [State.key, State.tRingKey, State.trec, h]
    decide +kernel
  have h2 : cut (taggedRec b) 192 8 = cut b 192 8 := by rw [cut_take _ 192 8 200 (by omega), tagged_body b hb]
  simp only [State.tagOk, show securedQueue.tenant = 0 from rfl, show securedQueue.q = 0 from rfl, h1, h2, tagged_body b hb, tagged_tag, tagFor]
  simp

theorem tagged_head (b : List Byte) : HeadIs (taggedState b) securedQueue (taggedRec b) :=
  ⟨rfl, by decide, 4096, openLeaf, rfl, rfl, rfl, rfl⟩

theorem seq4_body : (List.range 200).map (fun i => nget 0 (padAt 4096 (seqRec 4)) (4096 + i)) = seqRec 4 := by decide +kernel
theorem seq6_body : (List.range 200).map (fun i => nget 0 (padAt 4096 (seqRec 6)) (4096 + i)) = seqRec 6 := by decide +kernel
theorem control_body : (List.range 200).map (fun i => nget 0 (padAt 4096 controlRec) (4096 + i)) = controlRec := by decide +kernel

theorem tagged_cut (b : List Byte) (hb : (List.range 200).map (fun i => nget 0 (padAt 4096 b) (4096 + i)) = b) (a n : Nat) (h : a + n ≤ 200) : cut (taggedRec b) a n = cut b a n := by
  rw [cut_take _ a n 200 h, tagged_body b hb]

theorem tagged_tail (b : List Byte) (hb : (List.range 40).map (fun i => nget 0 (padAt 4096 b) (4312 + i)) = zeros 40) : (taggedRec b).drop 216 = zeros 40 := by
  rw [← hb]
  apply List.ext_getElem
  · simp [taggedRec, State.devBytes]
  · intro i h1 h2
    have hi : i < 40 := by simpa using h2
    have h : nget 0 (taggedState b).mem (4312 + i) = nget 0 (padAt 4096 b) (4312 + i) := Memory.putAll_ne _ 4296 _ (Or.inr (by rw [tag_length]; omega))
    simp only [taggedRec, State.devBytes, List.getElem_drop, List.getElem_map, List.getElem_range]
    rw [tagged_byte _ _ (by omega), ← h]
    congr 1
    omega

theorem seq5_body : (List.range 200).map (fun i => nget 0 (padAt 4096 (seqRec 5)) (4096 + i)) = seqRec 5 := by decide +kernel
theorem seq5_tail : (List.range 40).map (fun i => nget 0 (padAt 4096 (seqRec 5)) (4312 + i)) = zeros 40 := by decide +kernel

/-- The record with SEQ = E is dispatched whatever its tag is. -/
theorem seq5_dispatches : dispatchOk (taggedState (seqRec 5)) securedQueue (taggedRec (seqRec 5)) 0 0x80000 = true := by
  have h : ∀ a n, a + n ≤ 200 → cut (taggedRec (seqRec 5)) a n = cut (seqRec 5) a n := fun a n h => tagged_cut _ seq5_body a n h
  have t : cut (taggedRec (seqRec 5)) 216 40 = zeros 40 := by rw [cut, tagged_tail _ seq5_tail]; rfl
  simp (disch := omega) only [dispatchOk, badRecord, reservedOk, allZero, recordOf, fieldOf, List.range, List.range.loop, List.map, h, t, show securedQueue.secure = true from rfl, Bool.not_true, Bool.false_and]
  decide +kernel

/-- Secured queues: a tag under a key that no slot holds; the sequence number below and above EXPSEQ; a control record. -/
theorem test_meets_LaunchRecordEvents_secured :
    ({ taggedState (seqRec 4) with ten.keys := [] }.tagOk securedQueue (taggedRec (seqRec 4)) = false ∧ securedQueue.secure = true ∧ securedQueue.qst = 1 ∧ securedQueue.held = false) ∧
    (HeadIs (taggedState (seqRec 4)) securedQueue (taggedRec (seqRec 4)) ∧ (taggedState (seqRec 4)).tagOk securedQueue (taggedRec (seqRec 4)) = true ∧ fieldOf (taggedRec (seqRec 4)) 192 8 < securedQueue.expseq) ∧
    (HeadIs (taggedState (seqRec 6)) securedQueue (taggedRec (seqRec 6)) ∧ (taggedState (seqRec 6)).tagOk securedQueue (taggedRec (seqRec 6)) = true ∧ securedQueue.expseq < fieldOf (taggedRec (seqRec 6)) 192 8) ∧
    (HeadIs (taggedState controlRec) securedQueue (taggedRec controlRec) ∧ (taggedState controlRec).isControl securedQueue (taggedRec controlRec) = true ∧ fieldOf (taggedRec controlRec) 96 1 = 0xFF ∧
      securedQueue.ctlseq < fieldOf (taggedRec controlRec) 88 8) ∧
    (HeadIs (taggedState (seqRec 5)) securedQueue (taggedRec (seqRec 5)) ∧ (taggedState (seqRec 5)).tagOk securedQueue (taggedRec (seqRec 5)) = true ∧ fieldOf (taggedRec (seqRec 5)) 192 8 = securedQueue.expseq ∧
      (recordOf (taggedRec (seqRec 5))).kind ≠ 4 ∧ Dispatchable (taggedState (seqRec 5)) securedQueue (taggedRec (seqRec 5)) 0 0x80000) := by
  refine ⟨⟨rfl, rfl, rfl, rfl⟩, ⟨tagged_head _, tagged_ok _ seq4_body, ?_⟩, ⟨tagged_head _, tagged_ok _ seq6_body, ?_⟩, ⟨tagged_head _, ?_, ?_, ?_⟩, tagged_head _, tagged_ok _ seq5_body, ?_, ?_, dispatch_of_ok seq5_dispatches⟩
  · rw [fieldOf, tagged_cut _ seq4_body _ _ (by omega)]
    decide +kernel
  · rw [fieldOf, tagged_cut _ seq6_body _ _ (by omega)]
    decide +kernel
  · rw [State.isControl, tagged_ok _ control_body, fieldOf, tagged_cut _ control_body _ _ (by omega)]
    decide +kernel
  · rw [fieldOf, tagged_cut _ control_body _ _ (by omega)]
    decide +kernel
  · rw [fieldOf, tagged_cut _ control_body _ _ (by omega)]
    decide +kernel
  · rw [fieldOf, tagged_cut _ seq5_body _ _ (by omega)]
    decide +kernel
  · simp only [recordOf, fieldOf]
    rw [tagged_cut _ seq5_body _ _ (by omega)]
    decide +kernel

/-- A tagged record at the head of another queue; queues in GAP, at the last sequence number, and one that has had CTLNUM 3. -/
def taggedAs (q : Queue) (b : List Byte) : State := { taggedState b with ten.queues := [q] }
def gapQueue : Queue := { securedQueue with qst := 2 }
def lastQueue : Queue := { securedQueue with expseq := 2 ^ 64 - 1 }
def ctlQueue : Queue := { securedQueue with ctlseq := 3 }

/-- What the Reeve reads at the head does not depend on the rest of the queue. -/
theorem tagged_head_as (q : Queue) (b : List Byte) (h : q.q = 0 ∧ q.tenant = 0 ∧ q.head = 0 ∧ q.tail = 1 ∧ q.rbase = 0xFF00000000001000) : HeadIs (taggedAs q b) q (taggedRec b) := by
  obtain ⟨h1, h2, h3, h4, h5⟩ := h
  have r : q.recordVa = securedQueue.recordVa := by simp only [Queue.recordVa, h3, h5]; rfl
  refine ⟨by rw [h1]; simp [State.queue, taggedAs, h1], by rw [h3, h4]; decide, 4096, openLeaf, ?_, ?_, rfl, rfl⟩
  · rw [r, h2]; rfl
  · rw [r, h2]; rfl

theorem tagged_ok_as (q : Queue) (b x : List Byte) (h : q.q = 0 ∧ q.tenant = 0) : (taggedAs q b).tagOk q x = (taggedState b).tagOk securedQueue x := by
  simp only [State.tagOk, h.1, h.2, show securedQueue.tenant = 0 from rfl, show securedQueue.q = 0 from rfl]
  rfl

theorem last_body : (List.range 200).map (fun i => nget 0 (padAt 4096 (seqRec (2 ^ 64 - 1))) (4096 + i)) = seqRec (2 ^ 64 - 1) := by decide +kernel

theorem test_meets_LaunchRecordEvents_ends :
    (HeadIs (taggedAs gapQueue (seqRec 5)) gapQueue (taggedRec (seqRec 5)) ∧ (taggedAs gapQueue (seqRec 5)).tagOk gapQueue (taggedRec (seqRec 5)) = true ∧ gapQueue.qst ≠ 1 ∧ gapQueue.qst ≠ 4) ∧
    (HeadIs (taggedAs lastQueue (seqRec (2 ^ 64 - 1))) lastQueue (taggedRec (seqRec (2 ^ 64 - 1))) ∧ (taggedAs lastQueue (seqRec (2 ^ 64 - 1))).tagOk lastQueue (taggedRec (seqRec (2 ^ 64 - 1))) = true ∧
      fieldOf (taggedRec (seqRec (2 ^ 64 - 1))) 192 8 = lastQueue.expseq ∧ fieldOf (taggedRec (seqRec (2 ^ 64 - 1))) 192 8 = 2 ^ 64 - 1) ∧
    (HeadIs (taggedAs ctlQueue controlRec) ctlQueue (taggedRec controlRec) ∧ (taggedAs ctlQueue controlRec).isControl ctlQueue (taggedRec controlRec) = true ∧ fieldOf (taggedRec controlRec) 88 8 ≤ ctlQueue.ctlseq) := by
  have e : fieldOf (taggedRec (seqRec (2 ^ 64 - 1))) 192 8 = 2 ^ 64 - 1 := by
    rw [fieldOf, tagged_cut _ last_body _ _ (by omega)]
    decide +kernel
  refine ⟨⟨tagged_head_as gapQueue _ ⟨rfl, rfl, rfl, rfl, rfl⟩, (tagged_ok_as gapQueue _ _ ⟨rfl, rfl⟩).trans (tagged_ok _ seq5_body), by decide, by decide⟩, ⟨tagged_head_as lastQueue _ ⟨rfl, rfl, rfl, rfl, rfl⟩, (tagged_ok_as lastQueue _ _ ⟨rfl, rfl⟩).trans (tagged_ok _ last_body), e, e⟩,
    tagged_head_as ctlQueue _ ⟨rfl, rfl, rfl, rfl, rfl⟩, ?_, ?_⟩
  · rw [State.isControl, show (taggedAs ctlQueue controlRec).tagOk ctlQueue (taggedRec controlRec) = true from (tagged_ok_as ctlQueue _ _ ⟨rfl, rfl⟩).trans (tagged_ok _ control_body), fieldOf, tagged_cut _ control_body _ _ (by omega)]
    decide +kernel
  · rw [fieldOf, tagged_cut _ control_body _ _ (by omega)]
    decide +kernel

/-- mapped with its launch at its end: no gang and no TCB left, its record at the start of the mapped window, its release done or not. -/
def endLaunchRec (done : Bool) (w : Nat) : Launch := { probeLaunch with lrec := { probeRecord with compl := 0xFF00000000000040 }, released := done, world := w }
def endState (done : Bool) (w : Nat) : State := { mapped with core.gangs := [], core.issue := [], run.tcbs := [], run.launches := [endLaunchRec done w] }

set_option maxRecDepth 20000 in
theorem test_meets_CompletionEvents :
    (small.launch 0 = some probeLaunch ∧ probeLaunch.world = 0x7F ∧ probeLaunch.est = none ∧ probeLaunch.ending = none ∧ small.launchBusy probeLaunch = true) ∧
    ((endState true 0x7F).launch 0 = some (endLaunchRec true 0x7F) ∧ (endState true 0x7F).launchBusy (endLaunchRec true 0x7F) = false ∧ (endState true 0x7F).leftovers 0 = false ∧ (endLaunchRec true 0x7F).lrec.compl % 64 = 0 ∧
      (endState true 0x7F).reeveXl 0 (endLaunchRec true 0x7F).lrec.compl 5 = .ok 64 openLeaf ∧ (endState true 0x7F).storeReady 64 64 = true) ∧
    ((endState false 0x7F).launch 0 = some (endLaunchRec false 0x7F) ∧ (endState false 0x7F).launchBusy (endLaunchRec false 0x7F) = false ∧ (endState false 0x7F).dirtyLanes 0 = [] ∧
      (endState false 0x7F).due (fun e => e == .launchComplete 0) = false) := by
  decide

/-! Keys and sessions: handles hold a code of the chip's secret, of which nothing is known but its length. -/

theorem leNat_lt (l : List Byte) : leNat l < 256 ^ l.length := by
  induction l with
  | nil => decide
  | cons b t ih =>
    have := b.isLt
    simp only [leNat, List.length_cons, Nat.pow_succ]
    omega

theorem leNat_leBytes (n x : Nat) : leNat (leBytes n x) = x % 256 ^ n := by
  induction n generalizing x with
  | zero => simp [leNat, leBytes, Nat.mod_one]
  | succ n ih =>
    have h : 256 ^ (n + 1) = 256 * 256 ^ n := by rw [Nat.pow_succ, Nat.mul_comm]
    rw [h, Nat.mod_mul]
    simp only [leNat, leBytes, ih, BitVec.toNat_ofNat]

/-- The handle of slot 0, tenant 0, generation 1. -/
def handle0 : Nat := mkHandle (Config.secret 0) 0 1 0

theorem leNat_four (l : List Byte) : leNat (l.take 4).reverse < 2 ^ 32 := by
  refine Nat.lt_of_lt_of_le (leNat_lt _) ?_
  refine Nat.le_trans (Nat.pow_le_pow_right (n := 256) (j := 4) (by decide) ?_) (by decide)
  simp only [List.length_reverse, List.length_take]
  omega

theorem handle_form (secret : List Byte) : ∃ x, x < 2 ^ 32 ∧ mkHandle secret 0 1 0 = x * 2 ^ 32 + 256 := by
  refine ⟨_, leNat_four (hmacSm3 secret (leBytes 4 256 ++ leBytes 6 1)), ?_⟩
  norm_num [mkHandle]

theorem handle0_form : ∃ x, x < 2 ^ 32 ∧ handle0 = x * 2 ^ 32 + 256 := handle_form _

theorem handle_bits (x : Nat) (h : x < 2 ^ 32) : bits (x * 2 ^ 32 + 256) 31 24 = 0 ∧ (x * 2 ^ 32 + 256) % 256 = 0 ∧ bits (x * 2 ^ 32 + 256) 23 8 = 1 ∧ x * 2 ^ 32 + 256 < 256 ^ 8 := by
  simp only [bits, Nat.reducePow, Nat.reduceAdd, Nat.reduceSub] at *
  omega

theorem handle0_bits : bits handle0 31 24 = 0 ∧ handle0 % 256 = 0 ∧ bits handle0 23 8 = 1 ∧ handle0 < 256 ^ 8 := by
  obtain ⟨x, hx, h⟩ := handle0_form
  rw [h]
  exact handle_bits x hx

/-- A KEY_REMOVE of it. -/
def removal : List Byte := leBytes 1 2 ++ zeros 7 ++ leBytes 8 handle0

theorem removal_handle : fieldOf removal 8 8 = handle0 := by
  have : fieldOf removal 8 8 = leNat (leBytes 8 handle0) := rfl
  rw [this, leNat_leBytes]
  exact Nat.mod_eq_of_lt handle0_bits.2.2.2

def loadedKey (tenant users : Nat) : KeySlot := { state := 1, tenant := tenant, keyid := 7, typ := 1, ways := 0, gen := 1, users := users, key := zeros 32 }
def sessState (k : List (Nat × KeySlot)) : State := { queued with ten.sess := [((0, 0), { period := 10, last := 0, ending := false })], ten.keys := k }
/-- A KEY_INSTALL of a ring key, and of a world key. -/
def ringInstall : List Byte := leBytes 1 1 ++ leBytes 1 1 ++ zeros 46
def worldInstall (ways : Nat) : List Byte := leBytes 1 1 ++ leBytes 1 2 ++ leBytes 1 ways ++ zeros 109

set_option maxRecDepth 20000 in
theorem test_meets_SessionEvents :
    (sessState []).sessionOf 0 = some (0, 0) ∧ installOk [] = false ∧ installOk (worldInstall 3) = false ∧ installOk (worldInstall 8) = true ∧ installOk ringInstall = true ∧
    (List.range 256).find? (fun n => ((sessState [(0, loadedKey 0 0)]).slot n).state == 0) = some 1 ∧
    (List.range 256).find? (fun n => ((sessState ((List.range 256).map (fun n => (n, loadedKey 0 0)))).slot n).state == 0) = none ∧ (sessState []).tenantOf 0 0 = some 0 ∧
    tget (sessState []).ten.sess (0, 0) = some { period := 10, last := 0, ending := false } ∧ { sessState [] with ctl.time := 34000000000 }.ctl.time = 0 + 3400000000 * 10 ∧ { sessState [] with ctl.time := 33999999999 }.ctl.time < 0 + 3400000000 * 10 ∧
    (sessState []).hasContext 0 = false ∧ { sessState [] with run.launches := [probeLaunch] }.hasContext 0 = true ∧ (∀ u < 256, u ≠ 0 → (sessState []).tState u = 0 ∨ (sessState []).tPort u ≠ 0 ∨ (sessState []).tFunc u ≠ 0) ∧
    (∀ u ∈ [0, 2], let k := (sessState [(0, loadedKey 0 u)]).slot 0
      k.tenant = 0 ∧ k.state ≠ 0 ∧ (k.users = 0 ↔ u = 0)) := by
  decide +kernel

theorem test_meets_SessionEvents_removal :
    fieldOf removal 0 1 = 2 ∧ fieldOf removal 1 7 = 0 ∧ removal.length = 16 ∧
    (let handle := fieldOf removal 8 8
     ((sessState []).slot (handle % 256)).state = 0 ∧
     ∀ k ∈ [loadedKey 0 0, loadedKey 0 2, loadedKey 1 0], (sessState [(0, k)]).slot (handle % 256) = k ∧ k.state = 1 ∧ handle = mkHandle (Config.secret (sessState [(0, k)]).ctl.resets) (bits handle 31 24) k.gen (handle % 256) ∧
       bits handle 23 8 = k.gen % 2 ^ 16) := by
  refine ⟨rfl, rfl, rfl, ?_⟩
  obtain ⟨h1, h2, h3, -⟩ := handle0_bits
  simp only [removal_handle, h1, h2, h3]
  refine ⟨rfl, fun k hk => ?_⟩
  simp only [List.mem_cons, List.not_mem_nil, or_false] at hk
  rcases hk with rfl | rfl | rfl <;> exact ⟨rfl, rfl, rfl, rfl⟩

/-- World 5 of context 0 in a phase, its launch at its end, its release at RELS made or not, with a line in an L2 slice and entries of R111. -/
def worldIn (phase : Nat) (rels dirty : Bool) (es : List Alias) : State :=
  { endState true 5 with
    run.launches := [endLaunchRec rels 5],
    ten.worlds := [(5, { ctx := 0, slot := 0, ways := 2, phase := phase, status := 0, groups := [(0, 0)], failed := [] })],
    ten.keys := [(0, { loadedKey 0 1 with typ := 2, ways := 2 })], ten.tdi := [((0, 0), 2)], ali.entries := es,
    coh.l2 := [{ slice := 0, line := 32, world := 5, way := 0, dirty := dirty, data := zeros 128, pois := [], dir := noDir }] }
def worldState (phase : Nat) : State := worldIn phase true false []

set_option maxRecDepth 20000 in
theorem test_meets_WorldEvents :
    (∀ p ∈ [0, 1, 3], tget (worldState p).ten.worlds 5 = some { ctx := 0, slot := 0, ways := 2, phase := p, status := 0, groups := [(0, 0)], failed := [] } ∧ (worldState p).launch 0 = some (endLaunchRec true 5)) ∧
    (worldState 1).launchBusy (endLaunchRec true 5) = false ∧ (worldState 1).leftovers 0 = false ∧ (worldState 1).coh.txs = [] ∧ (worldState 1).ali.pieces = [] ∧ (endLaunchRec true 5).released = true ∧
    ((worldIn 1 false false []).launch 0 = some (endLaunchRec false 5) ∧ (worldIn 1 false false []).launchBusy (endLaunchRec false 5) = false ∧ (endLaunchRec false 5).released = false) ∧
    (∀ d ∈ [true, false], ∃ y ∈ (worldIn 1 true d []).coh.l2, y.world = 5 ∧ y.dirty = d) ∧ (∃ e ∈ (worldIn 1 true false [plainAlias 5 0 4096 64]).ali.entries, e.wtag = 5 ∧ e.left ≠ []) ∧
    ((worldIn 1 true true []).leftovers 0 = false ∧ (worldIn 1 true false [plainAlias 5 0 4096 64]).leftovers 0 = false ∧ (worldIn 1 false false []).leftovers 0 = false) ∧
    ((endLaunchRec true 5).est = none ∧ (endLaunchRec true 5).lrec.compl % 64 = 0 ∧ ((worldState 3).scrub 5).reeveXl 0 (endLaunchRec true 5).lrec.compl 5 = .ok 64 openLeaf ∧ ((worldState 3).scrub 5).storeReady 64 64 = true) ∧
    (worldState 0).core.gangs = [] ∧
    tget State.reset.ten.tdi (0, 0) ≠ some 2 ∧ tget (worldState 0).ten.tdi (0, 0) = some 2 ∧ (worldState 0).tenantOfAny 0 0 = some 0 ∧ (worldState 0).tenantOfCtx 0 = 0 := by
  decide +kernel

/-- A thread of small in lane 0 with a call outstanding under a key; replies to it, staged or of a Hearth core; its block in the request ring. -/
def callReply (key : Nat) : List Byte := leBytes 8 key ++ zeros 24
def callState (key : Nat) (modes : Nat) : State :=
  { ((small.setTrec 0 0 (1 + 2 ^ 16 * modes)).updThread 0 0 0 (fun t => { t with status := .svcwait, call := some key })) with
    ten.svrply := [((0, 0), callReply key)], ten.hreqTail := [(0, 1)], mem := padAt 0 (callReply key) }

/-- SLOG at 5, 6, 12 and 13. -/
def slogWord (n : Nat) : DWord := BitVec.ofNat 64 (0x5000 + 2 * n + 1)

set_option maxRecDepth 20000 in
theorem test_meets_ServiceEvents :
    (small.tState 0 ≠ 0 ∧ State.reset.tState 0 = 0 ∧ (slogWord 6).getLsbD 0 = true ∧ bits (slogWord 6).toNat 4 1 = 6 ∧ bits (slogWord 12).toNat 4 1 = 12 ∧ bits (slogWord 5).toNat 4 1 < 6 ∧ 12 < bits (slogWord 13).toNat 4 1) ∧
    { small with ten.tdi := [((0, 0), 3)] }.refuses 0 0 = true ∧ small.refuses 0 0 = false ∧ small.tenantOf 0 0 = some 0 ∧ 0x11C % 4 = 0 ∧ 0x11C % 8 ≠ 0 ∧
    (let s := callState 0x77 8
     replyTo (s.svrply 0 0) = (0, 0, 0) ∧ (s.launch 0).isSome = true ∧ s.tenantOfCtx 0 = 0 ∧ s.callOf 0 0 0 = some (fieldOf (s.svrply 0 0) 0 8, false)) ∧
    small.callOf 0 0 0 = none ∧
    (let s := callState 0x77 0
     s.host.halted = false ∧ (s.launch 0).isSome = true ∧ bit (s.modesOfCtx 0) 3 = false ∧ replyTo (callReply 0x77) = (0, 0, 0) ∧ s.callOf 0 0 0 = some (fieldOf (callReply 0x77) 0 8, false)) ∧
    (small.host.held = true ∧ { small with host.held := false, host.halted := true }.host.halted = true ∧ { small with host.held := false }.host.held = false ∧ { small with host.held := false }.host.halted = false ∧
      nget 0 small.ten.hreqTail 0 = nget 0 small.ten.hreqHead 0 ∧ nget 0 small.ten.hreqHead 0 < 2 ^ 32) ∧
    (∀ k ∈ [0, 0x77], let s := { callState k 0 with host.held := false, ten.hreqBase := [(0, 0)] }
     s.host.halted = false ∧ s.host.held = false ∧ nget 0 s.ten.hreqTail 0 = nget 0 s.ten.hreqHead 0 + 1 ∧ fieldOf (s.hreqEntry 0 0) 0 8 = k ∧ replyTo (s.hreqEntry 0 0) = (0, 0, 0) ∧
       s.callOf 0 0 0 = some (k, false)) ∧
    (let s := { callState 0x77 0 with host.held := false, host.step := 6, ten.hreqBase := [(0, 0), (1, 4096)] }
     s.hearthRuns 0 = true ∧ s.hearthRuns 1 = true ∧ 0 < (nget 0 s.ten.hreqTail 0 + 2 ^ 32 - nget 0 s.ten.hreqHead 0) % 2 ^ 32 ∧ s.hreqFull 1 = false ∧ s.storeReady (s.hreqSlot 1) 64 = true ∧
       s.readReady (hreqAddr ((tget s.ten.hreqBase 0).getD 0) (nget 0 s.ten.hreqHead 0 % 4096)) 64 = true) := by
  decide +kernel

/-- A line in the L1 of core 0, and a store of another core on its way to it; n updates of it are already queued. -/
def upd0 : L1Upd := { arr := 1, tx := 99, inval := false, bytes := [], pois := [] }
def l1State (frozen : Bool) (rd n : Nat) : State :=
  { small with
    coh.l1 := [{ core := 0, line := 32, frozen := frozen, rd := rd, data := zeros 128, pois := [], queue := List.replicate n upd0, recNo := 0, wtag := 0x7F }],
    coh.txs := [{ blankTx 7 32 [(5, 9)] with core := 4 }] }

/-- A token of core 0 whose only lane waits for a word of line 32. -/
def waitTok : Token :=
  { id := 3, core := 0, ctx := 0, k := 1, dst := 7, n := 1, size := 4, sx := false, strong := false, grp := 5, dead := false, lanes := [{ slot := 0, lane := 0, va := 4096, pa := 4096, own := [], lost := [], fmt := 0, vals := none, drop := false, walk := none }] }

theorem test_meets_L1Events :
    small.core.toks = [] ∧ (small.coh.l1.filter (fun l => l.core == 0 && l.line % 128 == 32 % 128 && l.line != 32)).length < 8 ∧
    ({ small with core.toks := [waitTok] }.slotWorld 0 0 = 0x7F ∧ (4096 : Nat) / 128 = 32 ∧ ∃ l, waitTok.lanes = [l] ∧ l.vals = none ∧ l.pa / 128 = 32) ∧
    ((l1State false 0 0).tx 7 = some { blankTx 7 32 [(5, 9)] with core := 4 } ∧ { l1State false 0 0 with coh.l1 := [] }.l1At 0 32 0x7F = none ∧
      (∃ l, (l1State true 0 0).l1At 0 32 0x7F = some l ∧ l.frozen = true) ∧ (∃ l, (l1State false 0 0).l1At 0 32 0x7F = some l ∧ l.frozen = false ∧ l.rd = 0) ∧
      (∃ l, (l1State false 2 31).l1At 0 32 0x7F = some l ∧ l.frozen = false ∧ l.rd ≠ 0) ∧ (l1State false 2 31).deferred 0 = 31 ∧ (l1State false 2 32).deferred 0 = 32) ∧
    (small.coh.l1.find? (fun l => l.core == 0 && l.line == 32) = none ∧ ((l1State false 2 31).coh.l1.find? (fun l => l.core == 0 && l.line == 32)).isSome = true) := by
  refine ⟨rfl, by decide, ⟨by decide, by decide, _, rfl, rfl, by decide⟩, ⟨rfl, rfl, ⟨_, rfl, rfl⟩, ⟨_, rfl, rfl, rfl⟩, ⟨_, rfl, rfl, by decide⟩, by decide, by decide⟩, by decide, by decide⟩

/-- A copy of line 32 in slice 0 with sharers, an HBM line; cores 3 and 4 of the first die. -/
def slice0 (d : Dir) : L2Line := { slice := 0, line := 32, world := 0x7F, way := 0, dirty := false, data := zeros 128, pois := [], dir := d }
def two : Dir := { coarse := false, ptrs := [3, 4], cvec := 0 }
def l2State (d : Dir) : State := { small with coh.l2 := [slice0 d] }
/-- The first line of the Cellar of package column 0. -/
def cell0 : Nat := 0x10000000000 / 128

/-- slice0 for world 5, dirty or clean, with memory's line sealed or not. -/
def wslice (dirty sealed : Bool) : State := { small with coh.l2 := [{ slice0 two with world := 5, dirty := dirty }], mm.sealed := if sealed then [(32, 0)] else [] }

theorem test_meets_DirectoryEvents :
    (isCellar (128 * 32) = false ∧ sliceFor (stackOf 5) 32 = 0 ∧ (l2State two).l2At 0 32 0x7F = some (slice0 two)) ∧
    (isCellar (128 * cell0) = true ∧ tget small.mm.ctag cell0 = none ∧ cellarColumn (128 * cell0) / 32 = 5 / 128 ∧ cellarColumn (128 * cell0) / 32 ≠ 130 / 128) ∧
    ((l2State two).invalBusy 0 32 = false ∧ { l2State two with coh.txs := [{ blankTx 7 32 [] with inval := true, slice := 0 }] }.invalBusy 0 32 = true) ∧
    { small with coh.pins := [(32, 0)] }.pinned 32 = true ∧ (l2State two).pinned 32 = false ∧ (l2State two).coh.txs = [] ∧ dirCores 0 two = [3, 4] ∧ dirCores 0 noDir = [] ∧
    ((l2State two).dephHomes 32 = [] ∧ isHost (128 * 32) = false ∧ isHost (128 * 2 ^ 48) = true) ∧ (l2State two).l2Holds 32 = true ∧ small.l2Holds 32 = false ∧ small.l2Holds (2 ^ 48) = false ∧ small.dephHomes (2 ^ 48) = [] ∧
    ((wslice true true).coh.l2.find? (fun l => l.slice == 0 && l.line == 32 && l.world != 0x7F) = some { slice0 two with world := 5, dirty := true } ∧
      (tget (wslice false true).mm.sealed 32).isSome = true ∧ tget (wslice false false).mm.sealed 32 = none ∧ (wslice true true).unowned 32 = [] ∧ (wslice true true).unowned (2 ^ 48) ≠ []) ∧
    ((l2State two).coh.l2.find? (fun l => l.line == 32 && l.world != 0x7F && !(l.world == 0x7F && l.slice == 0)) = none ∧
      (wslice true true).coh.l2.find? (fun l => l.line == 32 && l.world != 0x7F && !(l.world == 0x7F && l.slice == 0)) = some { slice0 two with world := 5, dirty := true } ∧
      (wslice true true).due (fun e => e == .worldLineHandover 0 32) = false ∧ (∃ t ∈ { small with coh.txs := [{ blankTx 7 cell0 [] with inval := true }] }.coh.txs, t.inval = true ∧ t.line = cell0) ∧
      (wslice true true).l2At 0 32 5 = some { slice0 two with world := 5, dirty := true } ∧ (5 : Nat) ≠ 0x7F) := by
  decide

/-- A store of core 5 to line 32, or to a Cellar line, on its way. -/
def stTx (line : Nat) : Tx := { blankTx 7 line [(5, 9), (6, 0)] with core := 5, slice := 0, tenant := 0, l1 := false, ackStack := false }
def storeState (line : Nat) : State := { small with coh.txs := [stTx line], coh.l2 := [slice0 two, { slice0 two with slice := 40 }], coh.hdir := [(32, { coarse := false, ptrs := [0, 40], cvec := 0 })] }

theorem test_meets_StoreEvents :
    ({ small with coh.txs := [stTx 40, { stTx 32 with id := 8, after := [(7, 3)] }] }.tx 8 = some { stTx 32 with id := 8, after := [(7, 3)] } ∧ { small with coh.txs := [stTx 40, { stTx 32 with id := 8, after := [(7, 3)] }] }.acked 7 3 = false) ∧
    ((storeState 32).halvesMissing (128 * 32) 128 true = [] ∧ (storeState 32).invalBusy 0 32 = false) ∧
    ((∀ u ∈ (storeState 32).coh.txs, u.id ≠ 7 → u.waitSrc = []) ∧ (storeState 32).recording 32 = false ∧ ((storeState 32).mscFill 32).2 = true ∧ (storeState 32).pinRoom 32 = true) ∧
    ((storeState 32).tx 7 = some (stTx 32) ∧ isCellar (128 * 32) = false ∧ (stTx 32).world = 0x7F ∧ (stTx 32).after = [] ∧ (stTx 32).atom = none ∧ (storeState 32).outsider (stTx 32) = none ∧
      (storeState 32).l2At (stTx 32).slice 32 0x7F = some (slice0 two)) ∧
    ((storeState cell0).tx 7 = some (stTx cell0) ∧ isCellar (128 * cell0) = true ∧ (stTx cell0).pois = [] ∧ (storeState cell0).outsider (stTx cell0) = none) ∧
    ((stTx 32).drop = false ∧ (stTx 32).bytes ≠ [] ∧ isHost (128 * 32) = false ∧ (storeState 32).aliasesOn 32 = [] ∧ (storeState 32).dephHomes 32 = [] ∧
      dirSlices ((tget (storeState 32).coh.hdir 32).getD noDir) = [0, 40] ∧ { storeState 32 with coh.hdir := [] }.coh.hdir = []) ∧
    ((storeState 32).l2At 40 32 0x7F = some { slice0 two with slice := 40 }) ∧
    (let x := { stTx 32 with own := [3, 4] }
     (3 ∈ x.own ∧ x.slice = sliceFor (3 / 128) x.line ∧ x.inval = false ∧ x.core < 384)) ∧
    (storeState 32).lineOpen 32 = false ∧ { small with coh.txs := [stTx 32, { stTx 32 with id := 8, atHome := true, others := [(40, [])] }] }.lineOpen 32 = true := by
  decide

/-- An exchange of 64 bits at offset 16, and one whose old value has come. -/
def atTx (done : Option Nat) : Tx := { stTx 32 with bytes := [], atom := some { aop := 0, ty := 2, off := 16, x := 5, y := 0, scope := 1, dst := some 62, grp := 5 }, done := done }
def atState (done : Option Nat) : State := { small with coh.txs := [atTx done], coh.l2 := [slice0 noDir], core.gangs := [probeGang] }
def atCore (s : State) : State := { s with coh.txs := s.coh.txs.map (fun (x : Tx) => { x with core := 0 }) }

theorem test_meets_AtomicEvents :
    (∃ a, (atState none).tx 7 = some (atTx none) ∧ (atTx none).atom = some a ∧ isCellar (128 * 32) = false ∧ (atTx none).world = 0x7F ∧ (atTx none).after = [] ∧ (atState none).outsider (atTx none) = none ∧ a.scope < 5 ∧ (atState none).halvesMissing (128 * 32) 128 true = [] ∧ (atState none).invalBusy 0 32 = false ∧
      (atState none).l2At 0 32 0x7F = some (slice0 noDir) ∧ a.dst = some 62 ∧ a.ty = 2) ∧
    ((atState (some 0xFFFFFFFF00000001)).tx 7 = some (atTx (some 0xFFFFFFFF00000001)) ∧ (atTx (some 0xFFFFFFFF00000001)).done = some 0xFFFFFFFF00000001 ∧ (atTx (some 0xFFFFFFFF00000001)).lost = false ∧
      ∃ g, (atCore (atState (some 0xFFFFFFFF00000001))).gang 0 0 = some g) ∧
    (let x := { atTx none with atom := some { aop := 0, ty := 2, off := 16, x := 5, y := 0, scope := 5, dst := some 62, grp := 5 } }
     let s := { storeState 32 with coh.txs := [x] }
     s.tx 7 = some x ∧ x.after = [] ∧ s.invalBusy 0 32 = false ∧ x.drop = false ∧ s.outsider x = none ∧ x.done = none ∧ isHost (128 * 32) = false ∧ s.aliasesOn 32 = [] ∧ s.dephHomes 32 = [] ∧ s.recording 32 = false ∧
       s.lineOpen 32 = false ∧ x.core < 384 ∧ (s.mscFill 32).2 = true ∧ s.halvesMissing (128 * 32) 128 true = [] ∧ s.l2At 0 32 0x7F = some (slice0 two)) :=
  ⟨⟨_, rfl, rfl, by decide, rfl, rfl, by decide, by decide, by decide, by decide, rfl, rfl, rfl⟩, ⟨rfl, rfl, rfl, _, rfl⟩, by decide⟩

/-- A release of thread (0, 0, 0) of a store that is acknowledged nowhere, or of none; a token of its lane or none. -/
def relState (acq busy : Bool) (toks : List Token) : State :=
  { small with coh.rels := [{ id := 2, core := 0, slot := 0, lane := 0, scope := 4, txs := if busy then [7] else [], acq := acq }], coh.txs := [stTx 32], core.toks := toks }

theorem test_meets_ReleaseAndErrorEvents :
    (∀ acq ∈ [true, false], (relState acq false []).coh.rels.find? (fun x => x.id == 2) = some { id := 2, core := 0, slot := 0, lane := 0, scope := 4, txs := [], acq := acq } ∧
      ([] : List Nat).all (fun x => (relState acq false []).acked x 4) = true) ∧ (relState true false []).loadsPending 0 0 0 = false ∧ [7].all (fun x => (relState true true []).acked x 4) = false ∧
    ((128 / 128, 0) ∉ small.coh.pins ∧ (128 / 128, 0) ∈ { small with coh.pins := [(1, 0)] }.coh.pins ∧ isCellar (128 * (4096 / 128)) = false ∧ ∃ l ∈ (l2State two).coh.l2, l.slice = 96 % 96 ∧ l.line = 4096 / 128) ∧
    small.coh.rels = [] ∧ (∃ x ∈ (relState true false []).coh.rels, x.core = 0 ∧ x.slot = 0 ∧ x.scope = 4) ∧
    (let v : DWord := 0x80006201
     v.getLsbD 0 = true ∧ 4 ≤ (v.extractLsb' 11 5).toNat ∧ (v.extractLsb' 11 5).toNat ≤ 20 ∧ ¬ 6 ≤ (v.extractLsb' 7 4).toNat) ∧ (0x80006300 : DWord).getLsbD 0 = false ∧
    ((l2State two).coh.l2.filter (fun l => l.slice == 0 && l.line == 4096 / 128) ≠ [] ∧ (l2State two).coh.l2.filter (fun l => l.slice == 96 && l.line == 4096 / 128) = []) := by
  decide

/-- A COPY of 64 bytes from 0 to 4096 in slot 11 of core 0's engine, and its piece in a stage. -/
def copyCmd : Cmd :=
  { id := 11, core := 0, slot := 0, lane := 0, ctx := 0, gang := 0, tenant := 0, world := 0x7F, alloc := 0, opc := 1, block := copyBlock, rl := 7, pos := 1, pieces := [12], buf := [], idx := [], pages := [], fid := none, txs := [],
    list := none, matched := false, remote := [], away := [], ports := [], finished := false }
def ent : Alias := plainAlias 0x7F 0 4096 64
def pieceOf (stage : Nat) (parts : List Alias) (asked due : List Nat) : Piece :=
  { id := 12, cmd := 11, entry := ent, stage := stage, parts := parts, asked := asked, due := due, stale := false, failed := false, marks := [], caught := [] }
def pieceState (p : Piece) (es : List Alias) : State := { mapped with eng.cmds := [copyCmd], ali.pieces := [p], ali.entries := es }
def srcTx (w : List Nat) : Tx := { stTx 32 with waitSrc := w }

set_option maxRecDepth 20000 in
theorem test_meets_AliasEvents :
    ((pieceState (pieceOf 0 [] [] []) []).piece 12 = some (pieceOf 0 [] [] []) ∧ (pieceState (pieceOf 0 [] [] []) []).cmd 11 = some copyCmd) ∧
    (let s := pieceState (pieceOf 0 [] [] []) []
     s.pieceOutsider copyCmd ent = none ∧ (∀ q ∈ s.ali.pieces, ¬ q.id < 12) ∧ s.usedSoon ent.home 12 < s.ali.limit ∧ meet (aliasExtent ent) ent.range = false ∧ isHbm ent.dbase = true ∧ isHbm (ent.dbase + ent.len - 1) = true ∧ isHbm (aliasExtent ent).1 = true ∧
       isHbm ((aliasExtent ent).1 + (aliasExtent ent).2 - 1) = true ∧ s.worldSources ent = [] ∧ ent.lines = [32] ∧ s.aliasesOn 32 = []) ∧
    (let s := pieceState (pieceOf 4 [ent] [] []) []
     (pieceOf 4 [ent] [] []).stage = 4 ∧ (pieceOf 4 [ent] [] []).stale = false ∧ (pieceOf 4 [ent] [] []).caught = [] ∧ s.coh.l2 = [] ∧ s.coh.txs = [] ∧ s.aliasesOn 32 = [] ∧ s.dephHomes 32 = [] ∧
       [ent].any (fun x => meet (aliasExtent x) (128 * 0, 128)) = true) ∧
    ((pieceOf 1 [] [] [0, 1]).stage = 1 ∧ ent.xform = 0 ∧ (pieceState (pieceOf 1 [] [] [0, 1]) []).ali.entries = [] ∧ (pieceOf 1 [] [] [0, 1]).due.drop 1 ≠ []) ∧
    ((pieceOf 2 [ent] [] [0, 1]).due.drop 1 ≠ [] ∧ (pieceOf 2 [ent] [] [0]).due.drop 1 = [] ∧ (pieceOf 2 [ent] [] [0]).asked = [] ∧ (pieceOf 2 [ent] [3] [0]).asked ≠ []) ∧
    (let s := pieceState (pieceOf 2 [ent] [] [0]) []
     s.granuleBusy (0 / 32) = false ∧ s.granuleOwed (0 / 32) = false ∧ { s with ali.srcAcks := [(5, [1])] }.granuleBusy (0 / 32) = true ∧ { s with coh.txs := [{ stTx 5 with ackStack := true }] }.granuleOwed (0 / 32) = true) ∧
    ((pieceOf 3 [ent] [0] []).asked = [0] ∧ ∀ x ∈ (pieceState (pieceOf 3 [ent] [0] []) [{ ent with holders := [12, 3] }]).ali.entries, x.holders.Nodup) ∧
    ({ small with coh.txs := [srcTx [1]] }.coh.txs = [srcTx [1]] ∧ (srcTx [1]).line = 32 ∧ (srcTx [1]).waitSrc = [1] ∧ ∀ a ∈ { small with ali.srcAcks := [(5, [2])] }.ali.srcAcks, a.1 ≠ 32 ∧ a.2 ≠ []) ∧
    { small with ali.srcAcks := [(32, [1])] }.ali.srcAcks = [(32, [1])] ∧ small.coh.txs = [] := by
  decide

set_option maxRecDepth 20000 in
theorem test_meets_AliasEvents_waits :
    ({ pieceState (pieceOf 0 [] [] []) [ent] with ali.queue := [(1, 4096)] }.ali.queue = [(1, 4096)] ∧
      { pieceState (pieceOf 0 [] [] []) [ent] with ali.queue := [(1, 4096)] }.ali.entries.find? (fun (e : Alias) => e.home == 1 && e.dbase == 4096 && e.hot && !e.left.isEmpty) = none ∧
      (pieceState (pieceOf 0 [] [] []) [{ ent with hot := true }]).ali.entries.find? (fun (e : Alias) => e.home == 1 && e.dbase == 4096 && e.hot && !e.left.isEmpty) = some { ent with hot := true } ∧
      { pieceState (pieceOf 0 [] [] []) [ent] with ali.hot := 0 }.ali.hot = 0 ∧ (pieceState (pieceOf 0 [] [] []) [ent]).ali.hot ≠ 0 ∧ (pieceState (pieceOf 0 [] [] []) [ent]).homeBusy 1 = false ∧
      { pieceState (pieceOf 0 [] [] []) [ent] with ctl.agenda := [.srcw 1 5] }.homeBusy 1 = true) ∧
    ((pieceState (pieceOf 0 [] [] []) []).pinRoom 32 = true ∧ (pieceState (pieceOf 4 [ent] [] []) []).pieceOutsider copyCmd ent = none ∧
      { pieceState (pieceOf 4 [ent] [] []) [] with coh.l2 := [{ slice0 two with world := 5 }] }.pieceOutsider copyCmd ent = some (5, 32) ∧
      { pieceState (pieceOf 4 [ent] [] []) [] with mm.deph := [(32, 2)] }.dephHomes 32 ≠ [] ∧ (pieceState (pieceOf 2 [ent] [] [0]) []).partWorlds (pieceOf 2 [ent] [] [0]) 0 = []) := by
  decide

/-- A walk for page 2 of the device half in context 0, and its page table: a root at 0x2000 whose entry 256 is a leaf with the given low bits. -/
def walkOf (acc : Nat) (ats again : Bool) : Walk := { id := 3, stack := 0, tenant := 0, ctx := 0, va := 0xFF00000000002000, acc := acc, ats := ats, again := again, fault := none, fid := none, fattr := 0 }
def walkState (acc : Nat) (ats again : Bool) (pte : Byte) : State :=
  { (mapped.setTrec 0 5 (10 * 2 ^ 60 + 2)) with xl.walks := [walkOf acc ats again], mem := if pte = 0 then [] else [(0x2800, pte)] }
/-- What the leaf grants. -/
def leafAttr : PAttr := { fattr := 0, stbl := false, uncached := false, size := 48, r := true, w := true, x := true }
/-- An outstanding fault of context 0, for a thread of lane 0 that waits for it. -/
def faultOf (cause : Nat) (prg : Option Nat) : FaultEnt := { ctx := 0, fid := 9, va := 0xFF00000000002000, cause := cause, acc := 0, prg := prg, stop := none, logged := true }
def faultState (cause : Nat) (prg : Option Nat) : State := { (mapped.updThread 0 0 0 (fun t => { t with status := .faultwait, fid := 9 })) with xl.faults := [faultOf cause prg], core.issue := [] }

set_option maxRecDepth 20000 in
theorem test_meets_FaultEvents :
    ((walkState 0 false false 0xDF).xl.walks.find? (fun x => x.id == 3) = some (walkOf 0 false false) ∧ (walkOf 0 false false).fault = none ∧ (walkOf 0 false false).ats = false ∧
      (walkState 0 false false 0xDF).walkVa 0 0xFF00000000002000 0 = .ok 8192 leafAttr true true none ∧ (walkState 1 false false 0x1F).walkVa 0 0xFF00000000002000 1 = .ok 8192 leafAttr true true (some (0x2800, 0xDF)) ∧
      (walkState 1 false false 0).walkVa 0 0xFF00000000002000 1 = .fault 2 0 ∧ (walkState 1 false false 0).faultFor 0 0xFF00000000002000 2 = none ∧ (walkState 1 false false 0).freeFid 0 = some 0 ∧
      (∀ p ∈ [0, 0x1F, 0xDF], ((walkState 1 false false p).walkOver (walkOf 1 false false)).2 = true ∧ (((walkState 1 false false p).hears (.pageWalkComplete 3)).walkOver (walkOf 1 false false)).2 = true) ∧
      (walkState 1 false false 0x1F).storeReady 0x2800 8 = true ∧ { walkState 1 false false 0x1F with coh.msc := fullSet.map (fun (l : MLine) => { l with line := 0x50 + l.line }) }.storeReady 0x2800 8 = false ∧
      { mapped with ten.hatp := [(0, 10 * 2 ^ 60 + 2)] }.walkVa 0 0x2000 0 = .need [562949953421440] false) ∧
    ((walkOf 1 true true).again = true ∧ (walkOf 1 true false).again = false ∧ accWrites 1 = true ∧ isMapped (hostPa (small.tPort 0) (0x12345678 / 2 ^ 21 * 2 ^ 21 + 0xFF00000000002000 % 2 ^ 21)) = true) ∧
    small.xl.walks = [] ∧ small.faultEnt 0 9 = none ∧ (faultState 2 none).faultEnt 0 9 = some (faultOf 2 none) ∧
    (small.xl.walks = [] ∧ small.core.toks = [] ∧ small.outstanding 0 9 = false ∧ (faultOf 2 none).cause < answered) ∧
    ((faultState 2 none).refills 0 9 = [] ∧ (faultState 2 none).lateLanes 0 9 = [] ∧ (faultState 2 none).core.toks = [] ∧ (faultState 2 none).run.saved = [] ∧ tget (faultState 2 none).xl.freply (0, 9) = none ∧ (∀ g ∈ (faultState 2 none).core.gangs, g.restoring = false) ∧
      ∃ g, (faultState 2 none).gang 0 0 = some g ∧ g.ctx = 0 ∧ (g.thread 0).status = .faultwait ∧ (g.thread 0).fid = 9) ∧
    (faultState 0x0C none).faultEnt 0 9 = some (faultOf 0x0C none) ∧
    (faultState 2 (some 4)).xl.faults.find? (fun f => f.prg == some 4 && decide (f.cause < answered)) = some (faultOf 2 (some 4)) ∧ (∀ f ∈ (faultState 2 none).xl.faults, f.prg ≠ some 4) :=
  ⟨⟨by decide +kernel, by decide +kernel, by decide +kernel, by decide +kernel, by decide +kernel, by decide +kernel, by decide +kernel, by decide +kernel, by decide +kernel, by decide +kernel, by decide +kernel, by decide +kernel⟩, by decide +kernel, rfl, by decide +kernel, by decide +kernel, by decide +kernel, ⟨by decide +kernel, by decide +kernel, rfl, rfl, rfl, by decide +kernel, _, rfl, rfl, rfl, rfl⟩, by decide +kernel, by decide +kernel, by decide +kernel⟩

/-- An invalidation under way, of a kind, that waits for a token or for nothing; its own and DTINV's words. -/
def invalOf (kind : Nat) (toks : List Nat) : Inval := { id := 6, kind := kind, v := 0xF, port := 1, rels := [], txs := [], toks := toks, cmds := [], runs := [], fills := [] }
def invalState (kind : Nat) (toks : List Nat) : State := { mapped with xl.invals := [invalOf kind toks], xl.sdctl := 2, core.toks := [{ waitTok with lanes := [{ slot := 0, lane := 0, va := 0xFF00000000000000, pa := 0, own := [], lost := [], fmt := 0, vals := none, drop := false, walk := none }] }] }
/-- A run in issue that holds a store through a page that an invalidation of everything removes. -/
def heldInval : Inval := { invalOf 2 [] with runs := [5] }
def heldRun : State := { mapped with xl.invals := [heldInval], core.issue := [{ twoLanes with fx := [.store 0 0 0xFF00000000000000 [] 0] }] }
/-- A gang with a written line of a WB region. -/
def regionGang : Gang := { someGang with regions := [{ rgva := 0xFF00000000001000, rgcf := 0xC0000001 }], written := [1] }

set_option maxRecDepth 20000 in
theorem test_meets_InvalidationEvents :
    ((invalState 0 []).xl.sdctl.getLsbD 1 = true ∧ small.xl.sdctl.getLsbD 1 = false) ∧ (10 ≤ (0xA : DWord).toNat % 16 ∧ (0xE : DWord).toNat % 16 ≤ 14 ∧ (0x9 : DWord).toNat % 16 < 10 ∧ (0xF : DWord).toNat % 16 = 15) ∧
    small.xl.invals = [] ∧ (∃ i ∈ (invalState 2 []).xl.invals, i.kind = 2) ∧ (List.replicate 15 (0 : DWord)).length < 16 ∧
    (∀ k ∈ [0, 1, 2, 3], (invalState k []).xl.invals.find? (fun x => x.id == 6) = some (invalOf k []) ∧ (invalState k []).invalDrained (invalOf k []) = true) ∧ (invalState 2 []).xl.dtq = [] ∧
    (invalState 2 [3]).invalDrained (invalOf 2 [3]) = false ∧ 16 ≤ (List.replicate 16 (0 : DWord)).length ∧ (∃ g ∈ heldRun.core.issue, g.id ∈ heldInval.runs ∧ heldRun.holdsRemoved heldInval g = true) ∧
    (let s := { mapped with core.gangs := [regionGang] }
     s.gang 0 0 = some regionGang ∧ (regionGang.regions.drop 0).headD { rgva := 0, rgcf := 0 } = { rgva := 0xFF00000000001000, rgcf := 0xC0000001 } ∧ 1 ∈ regionGang.written ∧
       s.xlate 0 0 0 0xFF00000000001000 7 = .ok 4096 openLeaf) := by
  decide

/-- A launch without tiles, its TCB in a state at a place, four save blocks, the first column hot. -/
def bindLaunch : Launch := { probeLaunch with lrec := { probeRecord with tiles := 0 } }
def bindTcb (state place : Nat) : TCB := { probeTcb with state := state, place := place }
def bindState (state place : Nat) : State :=
  { small with run.launches := [bindLaunch], run.tcbs := [bindTcb state place], core.gangs := [], core.issue := [], run.savebase := 0x80000, run.savecnt := 4, pkg.tcol := 0xC0000000 :: List.replicate 95 0x80000000 }
/-- The plan and the place of its gang. -/
def bindPlan : Plan := { gang := 0, group := 0, wids := List.range 32, live := List.replicate 32 true, xacq := false }
def stolen (n : Nat) : State := { bindState 0 5 with run.tcbs := (List.range n).map (fun i => { bindTcb 0 5 with id := i }), run.steals := [(7, [9])] }

set_option maxRecDepth 20000 in
theorem test_meets_SchedulingEvents :
    (let s := bindState 0 96
     s.tcb 0 = some (bindTcb 0 96) ∧ s.launch 0 = some bindLaunch ∧ s.savedGroup (bindTcb 0 96) = none ∧ s.coolest (s.candidates bindLaunch (bindTcb 0 96)) = some 1 ∧ (bindTcb 0 96).pinned = false ∧ bindLaunch.est = none ∧ bindLaunch.unitCut (bindTcb 0 96) = true ∧ bit ((s.pkg.tcol.drop 0).headD 0).toNat 30 = true ∧ s.coolest [0] = some 0) ∧
    (let s := bindState 0 3
     s.scanOrder 3 = [bindTcb 0 3] ∧ s.savedGroup (bindTcb 0 3) = none ∧ bindLaunch.plans (bindTcb 0 3) = [bindPlan] ∧ (s.fit bindLaunch (bindTcb 0 3) [bindPlan] bindLaunch.lrec.blocks).map (fun xs => xs.map (fun x => (x.core, x.slot))) = some [(12, 0)] ∧
       s.freeBlocks bindLaunch.lrec.blocks = some [0x80000]) ∧
    ((bindState 1 3).mayAsk 3 = true ∧ (bindState 0 3).mayAsk 3 = false ∧ victims 3 ≠ []) ∧
    (tget (stolen 4).run.steals 7 = some [9] ∧ (stolen 4).ctl.agenda = [] ∧
     (let may := (stolen 4).run.tcbs.filter (fun t => t.place == 5 && t.state == 0 && !t.pinned && (stolen 4).waysOk t.wtag 7)
      (may.drop (may.length - min (may.length / 2) (64 - (stolen 4).queued 7))).length = 2) ∧
     (let may := (stolen 1).run.tcbs.filter (fun t => t.place == 5 && t.state == 0 && !t.pinned && (stolen 1).waysOk t.wtag 7)
      may.drop (may.length - min (may.length / 2) (64 - (stolen 1).queued 7)) = []) ∧ (stolen 1).run.launches ≠ [] ∧ Ev.tcbBind 5 ∈ { stolen 1 with ctl.agenda := [.tcbBind 5] }.ctl.agenda) := by
  decide +kernel

/-- A launch of class 3 that waits since 0, beside the gang of the launch of class 0 on cluster 0. -/
def highLaunch : Launch := { bindLaunch with ctx := 1, cls := 3 }
def waitState (time place : Nat) : State :=
  { bindState 1 0 with run.launches := [bindLaunch, highLaunch], run.tcbs := [bindTcb 1 0, { bindTcb 0 place with id := 8, ctx := 1 }], core.gangs := [someGang], ctl.time := time }
/-- The gang with every thread stopped at a packet, or parked; a token of it or none. -/
def restGang (st : Status) : Gang := { someGang with xacq := false, threads := (List.range 32).map (fun _ => { emptyThread with status := st, stopped := true }) }
def restState (st : Status) (toks : List Token) : State := { bindState 1 0 with core.gangs := [restGang st], core.toks := toks }
/-- The gang as saved. -/
def savedGang0 : Saved := { ctx := 0, group := 0, gang := 0, tcb := 0, parked := false, block := 0x80000, tblocks := [], wids := List.range 32, stage := 255, world := 0x7F, tpois := [], threads := List.replicate 32 { emptyThread with status := .runnable } }
def savedState : State := { bindState 3 0 with run.saved := [savedGang0] }
def still (s : State) : Bool :=
  let u := (s.groupGangs 0 0).foldl (fun (s : State) g => s.stopWaiters g) s
  (u.groupGangs 0 0).all (fun g => g.atRest && !u.atStop g)

set_option maxRecDepth 20000 in
theorem test_meets_PreemptionEvents :
    ((waitState 170000 0).launch 1 = some highLaunch ∧ highLaunch.ending = none ∧ (waitState 169999 0).waitingTcbs highLaunch = [] ∧ (waitState 170000 0).waitingTcbs highLaunch = [{ bindTcb 0 0 with id := 8, ctx := 1 }] ∧ (waitState 170000 0).victimFor highLaunch { bindTcb 0 0 with id := 8, ctx := 1 } = some someGang ∧
      (waitState 170000 5).victimFor highLaunch { bindTcb 0 5 with id := 8, ctx := 1 } = none ∧
      (waitState 170000 0).run.preempts = [] ∧ ((waitState 170000 0).core.gangs.filter (fun g => [0].contains (clusterOf g.core) && (waitState 170000 0).mayPreempt g)) = [someGang] ∧
      ((waitState 170000 5).core.gangs.filter (fun g => [5].contains (clusterOf g.core) && (waitState 170000 5).mayPreempt g)) = []) ∧
    (small.groupGangs 0 0 ≠ [] ∧ still (small.hears (.preemptSave 0 0)) = false) ∧
    (∀ toks ∈ [[], [waitTok]], still ((restState .runnable toks).hears (.preemptSave 0 0)) = true) ∧
    ((((restState .runnable [waitTok]).hears (.preemptSave 0 0)).setSaving 0 0 true).quiesce 0 0).2 = false ∧ ((((restState .runnable []).hears (.preemptSave 0 0)).setSaving 0 0 true).quiesce 0 0).2 = true ∧
    small.parkable 0 0 = false ∧ (restState .svcwait []).parkable 0 0 = true ∧ (restState .svcwait []).run.preempts = [] ∧ ((((restState .svcwait []).hears (.gangPark 0 0)).setSaving 0 0 true).quiesce 0 0).2 = true ∧
    (∀ s ∈ [((((restState .runnable []).hears (.preemptSave 0 0)).setSaving 0 0 true).quiesce 0 0).1, ((((restState .svcwait []).hears (.gangPark 0 0)).setSaving 0 0 true).quiesce 0 0).1.parkStop 0 0], s.launch 0 = some bindLaunch ∧ bindLaunch.est = none) ∧
    ((((restState .svcwait [waitTok]).hears (.gangPark 0 0)).setSaving 0 0 true).quiesce 0 0).2 = false := by
  decide +kernel

set_option maxRecDepth 20000 in
theorem test_meets_PreemptionEvents_restore :
    savedState.run.saved.filter (fun x => x.ctx == 0 && x.group == 0) = [savedGang0] ∧ savedState.tcb 0 = some (bindTcb 3 0) ∧ savedState.launch 0 = some bindLaunch ∧
    (∃ pl p, savedState.restoreFit (bindTcb 3 0) = some ([pl], [p]) ∧ savedState.gang p.core p.slot = none) ∧ savedState.xl.freply = [] ∧ (∀ h ∈ savedGang0.threads, h.reply = none) ∧ savedState.groupGangs 0 0 = [] := by
  refine ⟨by decide +kernel, by decide +kernel, by decide +kernel, ⟨_, _, rfl, rfl⟩, rfl, by decide +kernel, rfl⟩

/-- A core with a gang whose threads stand ready at packet 0, the oldest in lane 3; the run's words on the second mapped page. -/
def readyGang : Gang := { someGang with xacq := false, threads := (List.range 32).map (fun i => { emptyThread with status := .runnable, stamp := if i = 3 then 1 else 2 }) }
def runLaunch : Launch := { bindLaunch with lrec := { bindLaunch.lrec with codebase := 0xFF00000000001000 } }
def runState (ws : List Word) : State :=
  { mapped with run.launches := [runLaunch], run.tcbs := [bindTcb 1 0], core.gangs := [readyGang], core.issue := [], mem := padAt 4096 (ws.flatMap bytesOfWord) }
/-- NOP and END; and a run with a word of a reserved function. -/
def goodRun : List Word := [0x80000000, 0x01000000, 0]
def badRun : List Word := [0x44000050, 0x01000000, 0]
def fetched (ws : List Word) : State × FetchR := State.fetchRun 0 0 0 0x7F 0xFF00000000001000 8 ((runState ws).hears (.runStart 0)).bump 0
/-- A token of the first gang whose value has come, alone or dead. -/
def doneTok (dead : Bool) : Token := { waitTok with dead := dead, lanes := [{ slot := 0, lane := 31, va := 4096, pa := 4096, own := [], lost := [], fmt := 0, vals := some [clean 77], drop := false, walk := none }] }
/-- A plain store of thread (0, 0, 0) to line 32 whose release to its gang is not complete. -/
def veilState : State := { small with coh.rels := [{ id := 2, core := 0, slot := 0, lane := 0, scope := 3, txs := [7], acq := false }], coh.txs := [{ stTx 32 with core := 0, strong := false, bytes := [(0, 9)] }] }
/-- A gang whose region is enabled and not mapped: its fill waits or faults. -/
def fillGang : Gang := { someGang with regions := [{ rgva := 0xFF00000000002000, rgcf := 0x80000000 }] }
def fillState : State := { mapped with core.gangs := [fillGang] }
/-- A lane of a group that waits until a time. -/
def waitGrp (due : Nat) : Grp := { twoLanes with lanes := [{ lane0 with wait := 2 + due }] }
/-- small with lane 0's count at, or one past, the limit of its deadline (15). -/
def lateState (n : Nat) : State := small.updThread 0 0 0 (fun t => { t with count := 256 * 15 + n })

theorem fetch_good : (fetched goodRun).2 = .words goodRun ∧ (fetched badRun).2 = .words badRun ∧ runFault runLaunch.lrec goodRun = none ∧ runFault runLaunch.lrec badRun = some 0x11 ∧
    (fetched goodRun).1.hazards 0 ((groupAround ((runState goodRun).readyThreads 0) (readyGang, 3)).map laneOf) (runRegs goodRun) = [] := by
  decide +kernel

set_option maxRecDepth 20000 in
theorem test_meets_RunEvents :
    (small.nb.heldCtx = none ∧ small.readyThreads 0 = [] ∧ oldest ((runState goodRun).readyThreads 0) = some (readyGang, 3) ∧ (runState goodRun).launch 0 = some runLaunch ∧
      (∃ u, State.fetchRun 0 runLaunch.tenant runLaunch.ctx runLaunch.world runLaunch.lrec.codebase 8 ((runState goodRun).hears (.runStart 0)).bump 0 = (u, .words goodRun)) ∧
      ∃ u, State.fetchRun 0 runLaunch.tenant runLaunch.ctx runLaunch.world runLaunch.lrec.codebase 8 ((runState badRun).hears (.runStart 0)).bump 0 = (u, .words badRun)) ∧
    (∃ x, small.gang twoLanes.core lane0.slot = some x ∧ lane0.lane < x.threads.length) ∧ lane0 ∈ twoLanes.lanes ∧
    (∀ d ∈ [true, false], { small with core.toks := [doneTok d] }.core.toks.find? (fun t => t.id == 3) = some (doneTok d) ∧ (doneTok d).k < 8) ∧
    (∃ x, (doneTok true).lanes = [x] ∧ x.vals = some [clean 77] ∧ x.drop = false) ∧ (small.veiled 0 0 31 32 0 4 = false ∧ veilState.veiled 0 0 31 32 0 4 = true) ∧ (∃ h ∈ someGang.threads, h.live = true) ∧ (∀ h ∈ someGang.threads, h.reply = none) ∧
    63 + [clean 1].length ≤ 64 ∧ (small.core.gangs.find? (fun g => g.core == 0 && g.alloc == 0) = some someGang ∧ small.core.gangs.find? (fun g => g.core == 0 && g.alloc == 1) = none) ∧ ((small.fillFor someGang 0).2 = true ∧ (fillState.fillFor fillGang 0).2 = false ∧ someGang.regionOf (0 / 128) = none) ∧
    (2 ^ 24 - 1 < 2 ^ 24 ∧ 2 ^ 16 - 1 < 2 ^ 16) ∧ ((waitGrp 0).id = 5 ∧ (∀ l ∈ (waitGrp 0).lanes, 2 ≤ l.wait ∧ l.wait < never ∧ l.wait ≤ 2 + small.ctl.time)) ∧
    ((∀ g ∈ (lateState 0).core.gangs, ¬ ∃ t ∈ g.threads, t.live = true ∧ (lateState 0).overdue 0 t = true) ∧ (∃ g ∈ (lateState 1).core.gangs, g.ctx = 0 ∧ ∃ t ∈ g.threads, t.live = true ∧ (lateState 1).overdue 0 t = true) ∧
      tget (lateState 1).ten.worlds ((lateState 1).worldOfCtx 0) = none) := by
  refine ⟨⟨rfl, by decide, by decide +kernel, rfl, ⟨(fetched goodRun).1, Prod.ext rfl fetch_good.1⟩, (fetched badRun).1, Prod.ext rfl fetch_good.2.1⟩, ⟨_, rfl, by decide⟩, by decide, by decide, ⟨_, rfl, rfl, rfl⟩, by decide, by decide,
    by decide, by decide, by decide, by decide, by decide, by decide, by decide⟩

/-- A stage of R179: ENTRY 3, one branch to stage 1, MAXGS 2, MINGS 1, QLOG 4, SEED 4, its ring at the start of the mapped window; a graph of two such stages with records in the first ring. -/
def stageRec : List Byte := leBytes 4 3 ++ zeros 8 ++ leBytes 4 1 ++ leBytes 1 1 ++ leBytes 1 2 ++ leBytes 1 1 ++ leBytes 1 4 ++ leBytes 4 4 ++ leBytes 8 0xFF00000000000000
def graphOfRing (n : Nat) (ran : List Nat) (waiting : Bool) : GraphS :=
  { stages := [stageRec, stageRec], p := [0, 0], ran := ran, tail := [n, 0], recs := (List.range n).map (fun i => (0, i, 0)), wave := 0, waiting := waiting, picked := [0], serial := 7, groups := 0, given := [] }
def graphLaunch (q : GraphS) : Launch := { bindLaunch with graph := some q, lrec := { bindLaunch.lrec with kindArea := leBytes 8 0xFF00000000001000 ++ leBytes 1 2 ++ zeros 103 } }
/-- Two gangs of the second stage. -/
def stageGangs : List Gang := [{ someGang with stage := 1, bornAt := 1 }, { someGang with slot := 1, gang := 1, group := 1, stage := 1, bornAt := 2 }]
def graphState (q : GraphS) (gs : List Gang) (modes : Nat) : State :=
  { (mapped.setTrec 0 0 (1 + 2 ^ 16 * modes)) with run.launches := [graphLaunch q], run.tcbs := if gs = [] then [] else [bindTcb 1 0], core.gangs := gs, core.issue := [] }
def step1 (n : Nat) : DWord := BitVec.ofNat 64 n

set_option maxRecDepth 20000 in
theorem test_meets_GraphEvents :
    (let q := graphOfRing 1 [] false
     (graphState q [] 0).launch 0 = some (graphLaunch q) ∧ (graphLaunch q).graph = some q ∧ (graphLaunch q).ending = none ∧ (graphLaunch q).world = 0x7F ∧ (graphLaunch q).tenant = 0 ∧ (graphState q [] 0).run.saved = [] ∧ (graphState q [] 0).ringRecs 0x7F 0 q 0 = some [(0, 0, zeros 64)] ∧ [(0, 0, zeros 64)].map (fun r => r.1) = (q.ring 0).map (fun r => r.2.1) ∧
       (graphState q [] 0).nextGang 0 0 [(0, 0, zeros 64)] ≠ [] ∧ (graphState q [] 0).due (fun e => e == .graphGangForm 0 0) = false ∧
       (graphState q stageGangs 0).ringRecs 0x7F 0 q 0 = some [(0, 0, zeros 64)] ∧ (graphState q stageGangs 0).nextGang 0 0 [(0, 0, zeros 64)] = []) ∧
    (32 ≤ (((List.range 32).map (fun i => (i, 0, zeros 64))).filter (fun r => eoff r == 0)).length ∧ (((List.range 31).map (fun i => (i, 0, zeros 64))).filter (fun r => eoff r == 0)).length < 32) ∧
    (let q := graphOfRing 12 [] false
     let s := graphState q stageGangs 0
     (List.range q.stages.length).filter (fun t => decide (3 * 2 ^ q.qlog t ≤ 4 * q.fill t) && decide (s.keptSlots 0 t < q.fld t 17 1)) = [0] ∧ s.donor 0 q = some 1 ∧
       (worst (fun _ => 0) (s.core.gangs.filter (fun g => g.ctx == 0 && g.stage == 1 && s.mayPreempt g))).isSome = true) ∧
    (let q := graphOfRing 11 [] false
     (List.range q.stages.length).filter (fun t => decide (3 * 2 ^ q.qlog t ≤ 4 * q.fill t) && decide ((graphState q stageGangs 0).keptSlots 0 t < q.fld t 17 1)) = []) := by
  decide +kernel

set_option maxRecDepth 20000 in
theorem test_meets_GraphEvents_waves :
    (∀ ran ∈ [[], [0]], let q := graphOfRing 0 ran false
     (graphState q [] 0).launch 0 = some (graphLaunch q) ∧ (graphLaunch q).released = false ∧ q.waiting = false ∧ (graphState q [] 0).launchBusy (graphLaunch q) = false ∧ q.recs = [] ∧ (q.branches = [] ↔ ran = [])) ∧
    (bit ((graphState (graphOfRing 0 [0] false) [] 0).tModes 0) 2 = false ∧ bit ((graphState (graphOfRing 0 [0] false) [] 4).tModes 0) 2 = true ∧
      (((graphState (graphOfRing 0 [0] false) [] 4).hears (.waveEnd 0)).putPwords (graphLaunch (graphOfRing 0 [0] false)) (graphOfRing 0 [0] false)).isSome = true ∧
      { graphState (graphOfRing 0 [0] false) [] 4 with xl.tlb := [] }.putPwords (graphLaunch (graphOfRing 0 [0] false)) (graphOfRing 0 [0] false) = none ∧ (graphState (graphOfRing 0 [0] false) [] 4).storeReady 4100 4 = true) ∧
    (0 ∈ (graphOfRing 0 [0] false).ran ∧ 0 < (graphOfRing 0 [0] false).fld 0 16 1) ∧
    ((graphOfRing 0 [0] false).ran = [0] ∧ (graphState (graphOfRing 0 [0] false) [] 4).reeveXl 0 ((graphLaunch (graphOfRing 0 [0] false)).lrec.stageTab + 32 * 0 + 4) 5 = .ok 4100 openLeaf) ∧
    (((step1 1).extractLsb' 48 16).toNat = 0 ∧ ((step1 1).extractLsb' 0 8).toNat = 1 ∧ ((step1 2).extractLsb' 0 8).toNat = 2 ∧ ((step1 0xFF).extractLsb' 0 8).toNat = 0xFF ∧ (graphOfRing 0 [] true).stages.length = 2 ∧
      (graphOfRing 0 [] true).waiting = true ∧ (graphOfRing 0 [] true).serial = 7) := by
  decide +kernel

/-- An estimate with a window of draws that have arrived, and K. The record's flags give CANCEL. -/
def estOf (p : Nat) (w : List (Nat × Option Nat)) (k : Option Nat) : EstS := { p := p, n := p, mean := 0, m2 := 0, e := 0x7FF8000000000000, window := w, k := k, stopSerial := 0, disc := 0, cancelled := false, reached := [] }
def estLaunch (e : EstS) (flags : Nat) (area : List Byte) : Launch := { bindLaunch with est := some e, lrec := { bindLaunch.lrec with kind := 3, flags := flags, kindArea := area } }
def estState (e : EstS) (flags : Nat) (area : List Byte) : State :=
  { mapped with run.launches := [estLaunch e flags area], run.tcbs := [bindTcb 0 0], core.issue := [], core.gangs := [{ someGang with threads := (List.range 32).map (fun _ => { emptyThread with status := .svcwait }) }] }

set_option maxRecDepth 20000 in
theorem test_meets_EstimateEvents :
    ((estState (estOf 2 [] none) 0 (zeros 112)).launch 0 = some (estLaunch (estOf 2 [] none) 0 (zeros 112)) ∧ (estLaunch (estOf 2 [] none) 0 (zeros 112)).est = some (estOf 2 [] none)) ∧
    ((estOf 2 [] (some 2)).k ≠ none ∧ 1 < (estOf 2 [] none).p ∧ (estOf 2 [] none).k = none ∧ (estOf 2 [] none).p < 3 ∧ (∀ w ∈ (estOf 2 [(4, none)] none).window, w.1 ≠ 2) ∧ (estOf 2 [(2, some 5)] none).window = [(2, some 5)]) ∧
    ((estOf 2 [] (some 2)).k = some 2 ∧ bit (estLaunch (estOf 2 [] (some 2)) 0 []).lrec.flags 0 = false ∧ bit (estLaunch (estOf 2 [] (some 2)) 1 []).lrec.flags 0 = true ∧
      ((estState (estOf 2 [] (some 2)) 1 []).core.gangs.map (fun g => (g.core, g.slot))).Nodup ∧ (∃ g, (estState (estOf 2 [] (some 2)) 1 []).gang 0 0 = some g ∧ g.ctx = 0 ∧ clusterOf 0 = 0 ∧ 2 ≤ (g.wids.drop 2).headD 0 ∧ (g.thread 2).status = .svcwait)) ∧
    (((0 : DWord).extractLsb' 48 16).toNat = 0 ∧ (estState (estOf 2 [] none) 0 []).launch ((0x0001000000000000 : DWord).extractLsb' 48 16).toNat = none) :=
  ⟨by decide +kernel, by decide, ⟨rfl, by decide, by decide, by decide, _, rfl, rfl, rfl, by decide, by decide⟩, by decide⟩

/-- A task of 64 x 64 into register 0 of a gang, A a column of 64 and B a row of 64 in S32 on the two mapped pages; its step to come, or its steps issued. -/
def taskRcd (arrive : Nat) : List Byte := leBytes 8 0xFF00000000000000 ++ leBytes 8 0xFF00000000001000 ++ zeros 20 ++ leBytes 4 arrive ++ zeros 24
def taskOf (step : Nat) (arrive : Nat) (txs : List Nat) (heads : List (List Byte)) : Task :=
  { id := 4, cluster := 0, ctx := 0, gang := 0, alloc := 0, lane := 0, pc := 0, rcd := taskRcd arrive, fsc := 0, osc := 0, seq := 0, deps := [], rl := 0, grp := 5, passed := true, step := step, heads := heads, fid := none,
    log := [], txs := txs, finished := false }
def aHead : List Byte := plainHeader 0x52 63 0 0 0 0 false
def bHead : List Byte := plainHeader 0x52 0 63 0 0 0 false
def tileGang : Gang := { someGang with tiles := [0, 15] }
def taskState (t : Task) : State :=
  { mapped with core.issue := [], core.gangs := [tileGang], eng.tregs := [{ ctx := 0, gang := 0, name := 0, words := [], header := regHeader 0x52 0 0, pois := [] }], eng.tasks := [t], coh.txs := [stTx 32] }
def wasOk (r : State × TongsR) : Bool := match r.2 with
  | .ok _ => true
  | _ => false

theorem was_ok {r : State × TongsR} (h : wasOk r = true) : ∃ u ls, r = (u, .ok ls) := by
  obtain ⟨u, x⟩ := r
  cases x with
  | ok ls => exact ⟨u, ls, rfl⟩
  | fault _ _ => simp [wasOk] at h
  | wait => simp [wasOk] at h

/-- The step's task, its record, and the lines of A and of B. -/
def stepTask : Task := taskOf 0 0 [] [aHead, bHead]
def aFetch : State × TongsR := (taskState stepTask).fetchTile stepTask tileGang.world 0xFF00000000000000 (hdrOf aHead) (blockRange 0) (List.range (hdrOf aHead).cols)

theorem a_ok : wasOk aFetch = true := by decide +kernel
theorem b_ok : wasOk (aFetch.1.fetchTile stepTask tileGang.world 0xFF00000000001000 (hdrOf bHead) (List.range (hdrOf bHead).rows) (blockRange 0)) = true := by decide +kernel

set_option maxRecDepth 20000 in
theorem test_meets_AnvilEvents :
    ((taskState stepTask).nextTask 1 = none ∧ (taskState stepTask).nextTask 0 = some (stepTask, tileGang) ∧ stepTask.heads ≠ []) ∧
    ((taskRec stepTask.rcd).dst = false ∧ (taskRec stepTask.rcd).acc = false ∧ pairOf (hdrOf aHead) (hdrOf bHead) = some (0x52, 4) ∧ (taskRec stepTask.rcd).aaddr = 0xFF00000000000000 ∧ (taskRec stepTask.rcd).baddr = 0xFF00000000001000 ∧
      (taskRec stepTask.rcd).masked (hdrOf aHead) (hdrOf bHead) 0 0 = false ∧ (taskRec stepTask.rcd).n / 64 = 1) ∧
    (∃ u la, aFetch = (u, .ok la) ∧ ∃ w lb, u.fetchTile stepTask tileGang.world 0xFF00000000001000 (hdrOf bHead) (List.range (hdrOf bHead).rows) (blockRange 0) = (w, .ok lb)) ∧
    (aFetch.1.fetchTile stepTask tileGang.world 0xFF00000000001000 (hdrOf bHead) (List.range (hdrOf bHead).rows) (blockRange 0)).1.treg tileGang 0 ≠ none ∧
    ((taskState stepTask).eng.tasks.find? (fun u => u.id == 4) = some stepTask ∧ stepTask.issued = false ∧ (taskOf 1 0 [7] []).issued = true ∧ (taskOf 1 0 [7] []).rl ≠ 7 ∧ ((taskState (taskOf 1 0 [7] [])).tx 7).isSome = true) ∧
    (taskState (taskOf 1 0 [9] [])).tx 9 = none := by
  refine ⟨by decide +kernel, by decide +kernel, ?_, by decide +kernel, by decide +kernel, rfl⟩
  obtain ⟨u, la, h⟩ := was_ok a_ok
  refine ⟨u, la, h, ?_⟩
  have hb := b_ok
  rw [h] at hb
  exact was_ok hb

/-! ## Commands, collectives and the board's commands -/

/-- A command in slot 11 of core 0's engine. -/
def cmdOf (opc pos : Nat) (pieces : List Nat) (rl : Nat) (txs : List Nat) (list : Option Nat) (fid : Option Nat) : Cmd :=
  { copyCmd with opc := opc, pos := pos, pieces := pieces, rl := rl, txs := txs, list := list, fid := fid, pages := [(0xFF00000000000, 0, 12), (0xFF00000000001, 1, 12)] }
def cmdState (c : Cmd) : State := { mapped with eng.cmds := [c] }
/-- A MATL over 64 bytes, and the bytes of a request list's entry that asks for it; one that waits for what comes before it. -/
def matlBlock : List Byte := leBytes 8 0xFF00000000000000 ++ zeros 16 ++ leBytes 4 64 ++ zeros 4 ++ leBytes 1 3 ++ zeros 31
def waitBlock : List Byte := leBytes 8 0xFF00000000000000 ++ zeros 16 ++ leBytes 4 64 ++ zeros 4 ++ leBytes 1 3 ++ zeros 3 ++ leBytes 1 1 ++ zeros 27
def listOf (fid : Option Nat) : CList := { id := 21, core := 0, slot := 0, lane := 0, ctx := 0, gang := 0, tenant := 0, world := 0x7F, alloc := 0, addr := 0xFF00000000000000, n := 2, next := 0, rl := 7, fid := fid }
/-- A request list whose first entry has these bytes. -/
def listState (b : List Byte) (fid : Option Nat) (cmds : List Cmd) : State := { mapped with mem := padAt 0 b, eng.lists := [listOf fid], eng.cmds := cmds }

/-- What the engine reads of a list's entry is these bytes, none of them poisoned. -/
def entryOk (s : State) (n : Nat) (l : CList) (b : List Byte) : Bool :=
  (match s.xlate (stackOf l.core) l.tenant l.ctx (l.addr + 64 * l.next) 4 with
    | .ok pa _ => (match ((s.hears (.cpyqEntryStart n)).engBytes (stackOf l.core) l.world l.tenant pa 64).2 with
      | some bs => (bs.map (fun x => x.1) == b) && bs.all (fun x => !x.2)
      | none => false)
    | _ => false)

set_option maxRecDepth 20000 in
/-- The first entry of a list: nothing, a MATL, one that waits while a command of its list is in a slot; and a list with a fault outstanding. -/
theorem test_meets_CommandEvents_lists :
    ((listState [] none []).eng.lists.find? (fun l => l.id == 21) = some (listOf none) ∧ (listState [] (some 2) []).eng.lists.find? (fun l => l.id == 21) = some (listOf (some 2)) ∧ (listState [] none []).cmdSlots 0 < 64) ∧
    entryOk (listState [] none []) 21 (listOf none) (zeros 64) = true ∧
    (entryOk (listState matlBlock none []) 21 (listOf none) matlBlock = true ∧ fieldOf matlBlock 32 1 = 3 ∧ bit (fieldOf matlBlock 36 1) 0 = false ∧ cmdBad 3 true ((listState matlBlock none []).spadOf 0 0) matlBlock = false ∧
      (match ((listState matlBlock none []).xlExtents 0 0 0 (cmdExtents 3 matlBlock)).2 with
        | .ok _ => true
        | _ => false) = true) ∧
    (let s := listState waitBlock none [cmdOf 1 1 [12] 7 [] (some 21) none]
     entryOk s 21 (listOf none) waitBlock = true ∧ bit (fieldOf waitBlock 36 1) 0 = true ∧ ∃ c ∈ s.eng.cmds, c.list = some 21) :=
  ⟨by decide, by decide +kernel, by decide +kernel, by decide +kernel, by decide, _, List.mem_cons_self .., rfl⟩

set_option maxRecDepth 20000 in
/-- Commands that wait, that have completed (alone, in a list, with writes or pieces still out), a COPY that starts, a MATL that starts, and the widest integer elements. -/
theorem test_meets_CommandEvents :
    ((cmdState (cmdOf 1 1 [] 7 [] none (some 2))).cmd 11 = some (cmdOf 1 1 [] 7 [] none (some 2)) ∧ (cmdOf 1 1 [] 7 [] none (some 2)).fid ≠ none) ∧
    (copyCuts (cmdBlk copyBlock) (cmdOf 1 1 [] 7 [] none none).pages 3 0 = [(0, 64)] ∧ (cmdBlk copyBlock).len / 2048 + 3 = 3 ∧ (cmdState (cmdOf 1 1 [] 7 [] none none)).cmd 11 = some (cmdOf 1 1 [] 7 [] none none)) ∧
    ((cmdOf 2 1 [] 0 [5] none none).pieces = [] ∧ ∀ x ∈ (cmdOf 2 1 [] 0 [5] none none).txs, (cmdState (cmdOf 2 1 [] 0 [5] none none)).tx x = none) ∧
    ((cmdOf 4 65 [] 7 [] (some 21) none).list = some 21 ∧ (cmdState (cmdOf 4 65 [] 7 [] (some 21) none)).due (fun e => e == .cpyqEntryStart 21) = false ∧ (cmdBlk copyBlock).len < 65) ∧
    ((cmdOf 1 1 [12] 7 [] none none).pieces ≠ [] ∧ (cmdOf 3 1 [] 0 [7] none none).rl ≠ 7 ∧ { cmdState (cmdOf 3 1 [] 0 [7] none none) with coh.txs := [stTx 32] }.tx 7 ≠ none) ∧
    ((cmdOf 1 0 [] 7 [] none none).pos < 1 ∧ meet ((cmdBlk copyBlock).src, (cmdBlk copyBlock).len) ((cmdBlk copyBlock).dst, (cmdBlk copyBlock).len) = false) ∧
    ((cmdOf 3 0 [] 7 [] none none).opc = 3 ∧ (cmdOf 3 0 [] 7 [] none none).pos = 0) ∧
    ((intFmt 0x49).isSome = true ∧ fmtBits 0x49 = 64 ∧ 2 ^ 64 - 1 < 2 ^ fmtBits 0x49 ∧ (intFmt 0x40).isSome = true ∧ fmtBits 0x40 = 4) := by
  decide

/-! ## Collectives -/

/-- A collective's block: PLAIN, the sum of one u32 from 0xFF00000000000000 to 0xFF00000000001000, rank 0 of nr with the table at 0xFF00000000000100. -/
def rankBlock (nr : Nat) : List Byte := leBytes 8 0xFF00000000000000 ++ leBytes 8 0xFF00000000001000 ++ leBytes 8 0xFF00000000000100 ++ leBytes 8 5 ++ leBytes 2 nr ++ leBytes 2 0 ++ leBytes 1 0 ++ leBytes 1 0 ++ leBytes 1 0x46 ++
  leBytes 1 0 ++ leBytes 4 4 ++ leBytes 4 0 ++ zeros 16
def collOf (id nr pos : Nat) (matched : Bool) (rl : Nat) (txs : List Nat) (fid : Option Nat) : Cmd :=
  { copyCmd with id := id, opc := 7, block := rankBlock nr, pos := pos, pieces := [], rl := rl, txs := txs, fid := fid, pages := [(0xFF00000000000, 0, 12), (0xFF00000000001, 1, 12)], matched := matched, remote := [zeros 4] }
def collState (cs : List Cmd) : State := { mapped with eng.cmds := cs }
/-- The ranks of this package in the table that a collective reads, and the commands that they wait with. -/
def collReads (s : State) (ev : Ev) (pas : List Nat) : Bool := !((s.hears ev).readLines 0 0x7F 0 (linesOfAll pas)).2.2
def collTab (s : State) (c : Cmd) : List (Byte × Bool) :=
  (heldRange c.pages (collBlk c.block).rtab (16 * (collBlk c.block).nr)).map (byteOf ((s.hears (.collMatch c.id)).readLines 0 0x7F 0 (linesOfAll (heldRange c.pages (collBlk c.block).rtab (16 * (collBlk c.block).nr)))).2.1)
def collMine (s : State) (c : Cmd) : List Cmd :=
  ((List.range (collBlk c.block).nr).map (fun i => (i, rankOf (collTab s c) i))).filterMap (fun x => (s.collPeers c).find? (fun d => (collBlk d.block).me == x.1 && stackOf d.core == x.2.2 && !d.matched))

/-- A collective of two ranks on stacks 0 and 1, whose bridge has failed. -/
def splitColl : State := { collState [collOf 11 2 0 false 7 [] none] with mem := [(276, 1)], pkg.links := modAt State.reset.pkg.links (linkId 16) (fun x => { x with st := .failed }) }

set_option maxRecDepth 20000 in
/-- A collective of one rank, which is matched, and one of two, which waits for the other; the table of zeros names stack 0 of package 0 for each rank. -/
theorem test_meets_CollectiveEvents_match :
    (let s := collState [collOf 11 1 0 false 7 [] none]
     s.cmd 11 = some (collOf 11 1 0 false 7 [] none) ∧ collReads s (.collMatch 11) (heldRange (collOf 11 1 0 false 7 [] none).pages 0xFF00000000000100 16) = true ∧
       (∀ i < 1, (rankOf (collTab s (collOf 11 1 0 false 7 [] none)) i).1 = s.pkg.holtNode.toNat) ∧ (collMine s (collOf 11 1 0 false 7 [] none)).length = 1 ∧ ∀ d ∈ collMine s (collOf 11 1 0 false 7 [] none), d.world = 0x7F) ∧
    (let s := collState [collOf 11 2 0 false 7 [] none]
     (∀ i < 2, (rankOf (collTab s (collOf 11 2 0 false 7 [] none)) i).1 = s.pkg.holtNode.toNat) ∧ (collMine s (collOf 11 2 0 false 7 [] none)).length = 1) ∧
    (let c := collOf 11 2 0 false 7 [] none
     splitColl.cmd 11 = some c ∧ collReads splitColl (.collMatch 11) (heldRange c.pages 0xFF00000000000100 32) = true ∧ (rankOf (collTab splitColl c) 0).2 = 0 ∧ (rankOf (collTab splitColl c) 1).2 = 1 ∧
       (splitColl.link (linkId (bridgeEnd 0 1))).st = .failed ∧ (collState [c]).link (linkId (bridgeEnd 0 1)) ≠ splitColl.link (linkId (bridgeEnd 0 1))) ∧
    ((collState [collOf 11 1 0 true 7 [] none]).cmd 11 = some (collOf 11 1 0 true 7 [] none) ∧ (collOf 11 1 0 true 7 [] none).matched = true) :=
  ⟨by decide +kernel, by decide +kernel, by decide +kernel, by decide +kernel⟩

set_option maxRecDepth 20000 in
/-- The steps of a matched collective: its own data read, a rank that has not read yet, the results written, writes still out, and its end. -/
theorem test_meets_CollectiveEvents :
    ((collOf 11 1 0 true 7 [] (some 2)).fid ≠ none ∧ (collState [collOf 11 1 0 true 7 [] (some 2)]).cmd 11 = some (collOf 11 1 0 true 7 [] (some 2))) ∧
    ((collBlk (rankBlock 1)).mode ≠ 1 ∧ collReads (collState [collOf 11 1 0 true 7 [] none]) (.collComplete 11) (heldRange (collOf 11 1 0 true 7 [] none).pages 0xFF00000000000000 4) = true) ∧
    (∃ d ∈ (collState [collOf 11 2 1 true 7 [] none, collOf 12 2 0 true 7 [] none]).collPeers (collOf 11 2 1 true 7 [] none), d.matched = true ∧ d.pos = 0) ∧
    (let c := collOf 11 1 1 true 7 [] none
     let s := collState [c]
     (∀ d ∈ s.collPeers c, 1 ≤ d.pos) ∧ s.endsUp c.bridgeEnds = true ∧ s.received [c] c = [.got []] ∧ s.endsUp { c with ports := [linkId 16] }.bridgeEnds = false ∧ s.endsUp c.outEnds = true ∧
       { c with away := [(1, 4)] }.outEnds = [16] ∧ s.endsUp [16] = false) ∧
    ((collOf 11 1 2 true 7 [] none).pos = 2 ∧ (collOf 11 1 2 true 7 [] none).matched = true) ∧
    ((collOf 11 1 3 true 0 [7] none).rl ≠ 7 ∧ { collState [collOf 11 1 3 true 0 [7] none] with coh.txs := [stTx 32] }.tx 7 ≠ none) ∧
    ((collOf 11 1 3 true 7 [] none).list = none ∧ (collOf 11 1 3 true 7 [] none).txs = []) ∧
    ((collBlk (rankBlock 1)).op = 0 ∧ elemBytes (collBlk (rankBlock 1)).ety = 4 ∧ 0 < (collBlk (rankBlock 1)).len / 4) ∧
    ((floatFmt 0x50).isSome = true ∧ (elemVal 0x50 0x7E00).isNan = true ∧ elemVal 0x50 0x7C00 = .inf false ∧ elemVal 0x50 0xFC00 = .inf true) :=
  ⟨by decide +kernel, by decide +kernel, ⟨_, List.mem_cons_of_mem _ (List.mem_cons_self ..), rfl, rfl⟩, by decide +kernel, by decide, by decide, by decide, by decide, by decide +kernel⟩

/-! ## The board's commands -/

/-- A command word of R392: opcode, SLOT, FLAGS, LEN, gang, argument, the rest. -/
def nbWord (slot flags len gang arg rest : Nat) : BitVec 128 := BitVec.ofNat 128 (slot * 2 ^ 8 + flags * 2 ^ 16 + len * 2 ^ 24 + gang * 2 ^ 32 + arg * 2 ^ 64 + rest * 2 ^ 96)
/-- The board holds the launch of context 0, of one gang; it is armed; it may attach to the queues 0 and 1 of tenant 0. -/
def heldState : State := { mapped with nb.heldCtx := some 0, nb.nbctl := 1 }
def armedState : State := { mapped with nb.armed := some 0 }
def boardState (ctl : DWord) : State := { (mapped.setTrec 0 1 (2 * 2 ^ 32)) with nb.nbctl := ctl }

set_option maxRecDepth 20000 in
theorem test_meets_BoardEvents_control :
    (heldState.nb.heldCtx ≠ none ∧ armedState.nb.armed ≠ none ∧ mapped.nb.heldCtx = none ∧ mapped.nb.armed = none) ∧
    ((1 : DWord).getLsbD 0 = true ∧ isHbm 0 = true ∧ mapped.tWinBase 0 = 0 ∧ mapped.tWinLim 0 = 0x100000 ∧ ((0xFF001 : DWord).extractLsb' 12 44).toNat * 4096 + 4096 = mapped.tWinLim 0 ∧
      mapped.tWinLim 0 < ((0x100001 : DWord).extractLsb' 12 44).toNat * 4096 + 4096) ∧
    ((boardState 1).nb.nbctl.getLsbD 0 = true ∧ (boardState 0).nb.nbctl.getLsbD 0 = false) ∧
    ((boardState 1).tQBase 0 = 0 ∧ (boardState 1).tQCount 0 = 2 ∧ (nbCmd (nbWord 0 0 0 0 1 0)).arg = 1 ∧ (nbCmd (nbWord 0 0 0 0 2 0)).arg = 2) := by
  decide

set_option maxRecDepth 20000 in
theorem test_meets_BoardEvents :
    ((nbCmd (nbWord 1 0 0 0 0 0)).slot ≠ 0 ∧ (nbCmd (nbWord 0 1 0 0 0 0)).flags ≠ 0 ∧ (nbCmd (nbWord 0 0 1 0 0 0)).len ≠ 0 ∧ (nbCmd (nbWord 0 0 0 1 0 0)).gang ≠ 0 ∧ (nbCmd (nbWord 0 0 0 0 0 1)).rest ≠ 0) ∧
    ((nbCmd (nbWord 7 0 0 0 0 0)).slot ≤ 7 ∧ 7 < (nbCmd (nbWord 8 0 0 0 0 0)).slot ∧ (nbCmd (nbWord 3 0 0 0 0 0)).slot ≤ 3) ∧
    ((let c := nbCmd (nbWord 3 3 128 0 (2 ^ 24 - 1) 0)
      ¬ (c.rest ≠ 0 ∨ 3 < c.slot ∨ c.flags = 0 ∨ 3 < c.flags ∨ c.len = 0 ∨ 128 < c.len ∨ 2 ^ 24 ≤ c.arg) ∧ c.gang < heldState.heldGangs) ∧
      3 < (nbCmd (nbWord 4 1 1 0 0 0)).slot ∧ (nbCmd (nbWord 0 0 1 0 0 0)).flags = 0 ∧ 3 < (nbCmd (nbWord 0 4 1 0 0 0)).flags ∧ (nbCmd (nbWord 0 1 0 0 0 0)).len = 0 ∧ 128 < (nbCmd (nbWord 0 1 129 0 0 0)).len ∧
      2 ^ 24 ≤ (nbCmd (nbWord 0 1 1 0 (2 ^ 24) 0)).arg ∧ (nbCmd (nbWord 0 1 1 0xFFFFFFFF 0 0)).gang = 0xFFFFFFFF) ∧
    (heldState.heldGangs = 1 ∧ (nbCmd (nbWord 0 0 0 0 0 0)).gang < heldState.heldGangs ∧ heldState.heldGangs ≤ (nbCmd (nbWord 0 0 0 1 0 0)).gang) ∧
    (gangStatus heldState (nbCmd (nbWord 0 0 0 0 0 0)) = 0 ∧ heldState.nb.steps = [] ∧ { heldState with nb.steps := [0] }.nb.steps = [0] ∧ gangStatus { heldState with nb.steps := [0] } (nbCmd (nbWord 0 0 0 0 0 0)) = 0) ∧
    (nbWord 0 0 0 0 0 0).toNat / 2 ^ 8 = 0 := by
  decide

/-! ## Hearth cores (R42): words written out from the RISC-V manual, and single steps -/

/-- ADDI x1, x0, -1; MULHU x5, x6, x7; SD x2, -8(x3); BEQ x1, x2, -4; AMOADD.W x10, x11, (x12); CSRRS x1, mhartid, x0; MRET. -/
theorem test_rv_words :
    rvDecode 0xFFF00093 = some (.opImm .add false 1 0 (-1)) ∧ rvDecode 0x027332B3 = some (.op .mulhu false 5 6 7) ∧ rvDecode 0xFE21BC23 = some (.store 3 3 2 (-8)) ∧
    rvDecode 0xFE208EE3 = some (.branch .eq 1 2 (-4)) ∧ rvDecode 0x00B6252F = some (.amo .add 2 10 12 11) ∧ rvDecode 0xF14020F3 = some (.csr .set false 1 0 0xF14) ∧
    rvDecode 0x30200073 = some .mret := by decide

/-- C.ADDI x1, 4; C.JR x1; C.LW x8, 4(x9); the word of zeros is illegal. -/
theorem test_rv_compressed :
    rvCDecode 0x0091 = some (.opImm .add false 1 1 4) ∧ rvCDecode 0x8082 = some (.jalr 0 1 0) ∧ rvCDecode 0x40C0 = some (.load 2 false 8 9 4) ∧ rvCDecode 0 = none := by decide

/-- Core 1 at an address that holds bytes, in a package whose firmware runs. -/
def hearthAt (pa : Nat) (bytes : List Byte) : State :=
  { State.reset with
    ctl.agenda := [], mem := Memory.putAll State.reset.mem pa bytes, host.step := 6, host.held := false, host.halted := false,
    host.hearth := modAt State.reset.host.hearth 1 (fun c => { c with pc := pa }) }

/-- ADDI x1, x0, -1 (R42). -/
theorem test_hearth_addi : (((hearthAt 4096 (leBytes 4 0xFFF00093)).hearthStep 1).hearth 1).reg 1 = 0xFFFFFFFFFFFFFFFF := by decide

/-- mhartid is the number of the core. -/
theorem test_hearth_hartid : (((hearthAt 4096 (leBytes 4 0xF14020F3)).hearthStep 1).hearth 1).reg 1 = 1 := by decide

/-- A halfword of zeros is illegal: cause 2, and its address in mepc. -/
theorem test_hearth_illegal :
    (((hearthAt 4096 []).hearthStep 1).hearth 1).stored 0x342 = 2 ∧ (((hearthAt 4096 []).hearthStep 1).hearth 1).stored 0x341 = 4096 := by decide

end Sys2Proof.Tests
end

section
/-! SUPPORT. Messages that happen, lists with an entry changed, and the links of the package: what one end reads after an update, and that no write of the device's own brings a
link UP or sets a send counter back. -/

namespace Sys2Proof.Machine

open Sys2Proof

/-! ## Messages that happen -/

/-- A message happens by the branch of its meaning whose condition holds. -/
theorem Gives.of_pos {i : Instr} {e : Ev} {s t : State} {f : State → State} {c : Prop} [Decidable c] (hc : c) (hi : e.instr = i)
    (h : exec i (s.hears e) = .next (if c then f (s.hears e) else t)) : Gives i e s f := ⟨hi, by rw [h, if_pos hc]⟩

/-- A message happens by the branch of its meaning whose condition does not hold. -/
theorem Gives.of_neg {i : Instr} {e : Ev} {s t : State} {f : State → State} {c : Prop} [Decidable c] (hc : ¬ c) (hi : e.instr = i)
    (h : exec i (s.hears e) = .next (if c then t else f (s.hears e))) : Gives i e s f := ⟨hi, by rw [h, if_neg hc]⟩

/-! ## Lists with an entry changed -/

theorem modAt_of_length_le {α : Type} {f : α → α} {l : List α} {i : Nat} (h : l.length ≤ i) : modAt l i f = l := by
  induction l generalizing i with
  | nil => cases i <;> rfl
  | cons x t ih =>
    cases i with
    | zero => simp at h
    | succ i => rw [modAt, ih (by simpa using h)]

theorem headD_drop_modAt_self {α : Type} {f : α → α} {l : List α} {i : Nat} (d : α) (h : i < l.length) : ((modAt l i f).drop i).headD d = f ((l.drop i).headD d) := by
  induction l generalizing i with
  | nil => simp at h
  | cons x t ih =>
    cases i with
    | zero => rfl
    | succ i => exact ih (by simpa using h)

theorem headD_drop_modAt_ne {α : Type} {f : α → α} {l : List α} {i j : Nat} (d : α) (h : j ≠ i) : ((modAt l i f).drop j).headD d = (l.drop j).headD d := by
  induction l generalizing i j with
  | nil => cases i <;> rfl
  | cons x t ih =>
    cases i with
    | zero => cases j with
      | zero => exact absurd rfl h
      | succ j => rfl
    | succ i => cases j with
      | zero => rfl
      | succ j => exact ih (by simpa using h)

/-! ## Links -/

theorem State.link_updLink_self {s : State} {l : Nat} (f : Link → Link) (h : l < s.pkg.links.length) : (s.updLink l f).link l = f (s.link l) := headD_drop_modAt_self _ h

theorem State.link_updLink_ne (s : State) {l k : Nat} (f : Link → Link) (h : k ≠ l) : (s.updLink l f).link k = s.link k := headD_drop_modAt_ne _ h

theorem State.updLink_of_length_le {s : State} {l : Nat} (f : Link → Link) (h : s.pkg.links.length ≤ l) : s.updLink l f = s := by rw [State.updLink, modAt_of_length_le h]

/-- What an end reads after some end has changed: the change where it is that end and there is one, else what it read before. -/
theorem State.link_updLink_cases (s : State) (l k : Nat) (f : Link → Link) :
    (s.updLink l f).link k = s.link k ∨ (k = l ∧ (s.updLink l f).link k = f (s.link k)) := by
  by_cases h : k = l
  · subst h
    by_cases hk : k < s.pkg.links.length
    · exact .inr ⟨rfl, s.link_updLink_self f hk⟩
    · exact .inl (by rw [s.updLink_of_length_le f (Nat.le_of_not_lt hk)])
  · exact .inl (s.link_updLink_ne f h)

/-- A link that is not DOWN is one of the package's. -/
theorem State.lt_of_link_ne_down {s : State} {l : Nat} (h : (s.link l).st ≠ .down) : l < s.pkg.links.length := by
  by_contra hl
  rw [State.link, List.drop_eq_nil_of_le (Nat.le_of_not_lt hl)] at h
  exact h rfl

@[simp] theorem State.counted_pkg (s : State) (l n : Nat) : (s.counted l n).pkg = s.pkg := by
  unfold State.counted
  split
  · rfl
  · split <;> rfl

theorem State.updEnds_of_mate_none {l : Nat} (h : mate l = none) (s : State) (f : Link → Link) : s.updEnds l f = s.updLink l f := by rw [State.updEnds, h]

theorem State.updEnds_of_mate_some {l m : Nat} (h : mate l = some m) (s : State) (f : Link → Link) : s.updEnds l f = (s.updLink l f).updLink m f := by rw [State.updEnds, h]

/-! ## Links that go on

Beside the events of R28 a link changes by the package's own flits, which raise the send counter and may take the link to FAILED. -/

/-- From s to t no send counter has fallen and no link has come UP. -/
def State.LinksGoOn (s t : State) : Prop := ∀ l, (s.link l).tx ≤ (t.link l).tx ∧ ((t.link l).st = .up → (s.link l).st = .up)

namespace State.LinksGoOn

theorem of_pkg {s t : State} (h : t.pkg = s.pkg) : s.LinksGoOn t := fun l => by
  have : t.link l = s.link l := by rw [State.link, State.link, h]
  rw [this]
  exact ⟨Nat.le_refl _, id⟩

theorem refl (s : State) : s.LinksGoOn s := of_pkg rfl

theorem trans {s t u : State} (h : s.LinksGoOn t) (k : t.LinksGoOn u) : s.LinksGoOn u := fun l =>
  ⟨Nat.le_trans (h l).1 (k l).1, fun hu => (h l).2 ((k l).2 hu)⟩

/-- t and a state with the same package. -/
theorem then_pkg {s t u : State} (h : s.LinksGoOn t) (k : u.pkg = t.pkg) : s.LinksGoOn u := h.trans (of_pkg k)

/-- Either branch. -/
theorem ite {s t u : State} {c : Prop} [Decidable c] (ht : s.LinksGoOn t) (hu : s.LinksGoOn u) : s.LinksGoOn (if c then t else u) := by
  split
  · exact ht
  · exact hu

/-- A fold whose every step lets the links go on. -/
theorem foldl {β : Type} {f : State → β → State} (h : ∀ (s : State) x, s.LinksGoOn (f s x)) (l : List β) (s : State) : s.LinksGoOn (l.foldl f s) :=
  List.foldlRecOn (motive := fun t => s.LinksGoOn t) l f (refl s) (fun t ht x _ => ht.trans (h t x))

/-- A fold that carries a flag with the state. -/
theorem foldl_fst {β : Type} {f : State × Bool → β → State × Bool} (h : ∀ (q : State × Bool) x, q.1.LinksGoOn (f q x).1) (l : List β) (q : State × Bool) :
    q.1.LinksGoOn (l.foldl f q).1 :=
  List.foldlRecOn (motive := fun r => q.1.LinksGoOn r.1) l f (refl q.1) (fun r hr x _ => hr.trans (h r x))

end State.LinksGoOn

/-- A change of one end that keeps its counter from falling and brings it not UP. -/
theorem State.updLink_goOn (s : State) (l : Nat) {f : Link → Link} (h : ∀ x, x.tx ≤ (f x).tx ∧ ((f x).st = .up → x.st = .up)) : s.LinksGoOn (s.updLink l f) := fun k => by
  rcases s.link_updLink_cases l k f with e | ⟨_, e⟩
  · rw [e]
    exact ⟨Nat.le_refl _, id⟩
  · rw [e]
    exact h _

theorem State.updEnds_goOn (s : State) (l : Nat) {f : Link → Link} (h : ∀ x, x.tx ≤ (f x).tx ∧ ((f x).st = .up → x.st = .up)) : s.LinksGoOn (s.updEnds l f) := by
  unfold State.updEnds
  split
  · exact s.updLink_goOn l h
  · exact (s.updLink_goOn l h).trans (State.updLink_goOn _ _ h)

theorem State.setLink_goOn (s : State) (l : Nat) {st : LinkState} (h : st ≠ .up) : s.LinksGoOn (s.setLink l st) := 
  s.updEnds_goOn l (f := fun x => { x with st := st }) fun _ => ⟨Nat.le_refl _, fun e => absurd e h⟩

/-- An end of a link that has been set to a state other than UP is not UP. -/
theorem State.setLink_not_up (s : State) {l k : Nat} {st : LinkState} (hk : l = k ∨ mate k = some l) (h : st ≠ .up) : ((s.setLink k st).link l).st ≠ .up := by
  have own (t : State) : ((t.updLink l (fun x => { x with st := st })).link l).st ≠ .up := by
    by_cases hl : l < t.pkg.links.length
    · rw [t.link_updLink_self _ hl]
      exact h
    · rw [t.updLink_of_length_le _ (Nat.le_of_not_lt hl)]
      exact fun e => hl (State.lt_of_link_ne_down (by rw [e]; decide))
  unfold State.setLink State.updEnds
  rcases hk with rfl | hm
  · split
    · exact own s
    · exact fun e => own s ((State.updLink_goOn _ _ (f := fun x => { x with st := st }) (fun _ => ⟨Nat.le_refl _, fun e => absurd e h⟩) l).2 e)
  · rw [hm]
    exact own _

/-! ## Flits over a bridge -/

/-- An end puts a flit on its line, n times over, under the next counter value, and keeps it for replay. -/
def Link.puts (flit : List Byte) (n : Nat) (x : Link) : Link := { x with tx := x.tx + 1, out := x.out ++ List.replicate n flit, replay := x.replay ++ [(x.tx, flit)] }

/-- A flit is put on the line of a bridge, and what else it does lets the links go on. -/
theorem State.bridgeFlit_of_mate {l m : Nat} (hm : mate l = some m) (s : State) (k : Nat) : ∃ flit n, (s.updLink l (Link.puts flit n)).LinksGoOn (s.bridgeFlit l k).1 := by
  have received (t : State) (g : Link → Nat) (n : Nat) (o : Link → List Nat) : t.LinksGoOn (t.updLink m (fun y => { y with rx := g y, fails := n, asks := o y })) :=
    t.updLink_goOn m fun _ => ⟨Nat.le_refl _, id⟩
  have either {P : State → Prop} {c : Prop} [Decidable c] {a b : State × Bool} (ha : P a.1) (hb : P b.1) : P (if c then a else b).1 := by
    split
    · exact ha
    · exact hb
  unfold State.bridgeFlit
  rw [hm]
  exact either (P := fun t => ∃ flit n, (s.updLink l (Link.puts flit n)).LinksGoOn t)
    ⟨_, _, ((received (s.updLink l (Link.puts _ _)) _ _ _).trans (State.setLink_goOn _ l (by decide))).then_pkg rfl⟩
    ⟨_, _, (received (s.updLink l (Link.puts _ _)) _ _ _).then_pkg (State.counted_pkg ..)⟩

theorem State.bridgeFlit_goOn (s : State) (l k : Nat) : s.LinksGoOn (s.bridgeFlit l k).1 := by
  cases hm : mate l with
  | none =>
    unfold State.bridgeFlit
    rw [hm]
    exact .refl s
  | some m =>
    obtain ⟨flit, n, h⟩ := State.bridgeFlit_of_mate hm s k
    exact (s.updLink_goOn l (f := Link.puts flit n) fun _ => ⟨Nat.le_succ _, id⟩).trans h

theorem State.bridgeFlit_tx_lt {s : State} {l m : Nat} (hm : mate l = some m) (hl : l < s.pkg.links.length) (k : Nat) : (s.link l).tx < ((s.bridgeFlit l k).1.link l).tx := by
  obtain ⟨flit, n, h⟩ := State.bridgeFlit_of_mate hm s k
  have hx := (h l).1
  rw [s.link_updLink_self _ hl] at hx
  exact hx

/-- The flits of a message, one after the other until one is lost, let the links go on. -/
theorem State.flitsOver_goOn (l c : Nat) (xs : List Nat) (q : State × Bool) :
    q.1.LinksGoOn (xs.foldl (fun (q : State × Bool) i => if q.2 then q.1.bridgeFlit l (c + i) else q) q).1 := by
  refine State.LinksGoOn.foldl_fst (fun q x => ?_) xs q
  split
  · exact q.1.bridgeFlit_goOn l _
  · exact .refl q.1

theorem State.sendOver_goOn (s : State) (l n : Nat) : s.LinksGoOn (s.sendOver l n).1 := State.flitsOver_goOn l s.ctl.freeCtr _ (s, true)

theorem State.sendOver_tx_lt {s : State} {l m : Nat} (hm : mate l = some m) (hl : l < s.pkg.links.length) (n : Nat) : (s.link l).tx < ((s.sendOver l (1 + n)).1.link l).tx := by
  unfold State.sendOver
  rw [Nat.add_comm, List.range_succ_eq_map, List.foldl_cons]
  exact Nat.lt_of_lt_of_le (State.bridgeFlit_tx_lt hm hl _) (State.flitsOver_goOn l s.ctl.freeCtr _ _ l).1

/-- An access and its answer let the links go on. -/
theorem State.reach_goOn (s : State) (a b : Node) : s.LinksGoOn (s.reach a b).1 := by
  unfold State.reach
  split
  · exact .refl s
  · exact .of_pkg rfl
  · split
    · exact .refl s
    · dsimp only
      have h := s.sendOver_goOn (bridgeEnd (nodeStack a) (nodeStack b)) (flitCount s.ctl.freeCtr)
      split
      · have k := h.trans (State.sendOver_goOn _ (bridgeEnd (nodeStack b) (nodeStack a)) (flitCount (s.ctl.freeCtr + 1)))
        split
        · exact k
        · exact k.then_pkg rfl
      · exact h.then_pkg rfl

/-- An access whose way over a bridge is clear raises the bridge's send counter. -/
theorem State.reach_tx_lt {s : State} {a b : Node} {m : Nat} (hw : s.way a b = .clear) (hs : nodeStack a ≠ nodeStack b)
    (hm : mate (bridgeEnd (nodeStack a) (nodeStack b)) = some m) (hl : bridgeEnd (nodeStack a) (nodeStack b) < s.pkg.links.length) :
    (s.link (bridgeEnd (nodeStack a) (nodeStack b))).tx < ((s.reach a b).1.link (bridgeEnd (nodeStack a) (nodeStack b))).tx := by
  have h := State.sendOver_tx_lt hm hl (Config.flits s.ctl.freeCtr % 2 ^ 32)
  unfold State.reach
  rw [hw]
  dsimp only
  rw [if_neg hs]
  split
  · have k := Nat.lt_of_lt_of_le h (State.sendOver_goOn _ (bridgeEnd (nodeStack b) (nodeStack a)) (flitCount (s.ctl.freeCtr + 1)) _).1
    split
    · exact k
    · exact k
  · exact h

end Sys2Proof.Machine
end

section
/-! SUPPORT. What the device's own writes, the records of the event arbiter and the end of a launch do to the package: nothing, or flits over its bridges. -/

namespace Sys2Proof.Machine

open Sys2Proof

/-- A fold whose steps leave the package leaves it. -/
theorem foldl_pkg {β : Type} {f : State → β → State} (h : ∀ s x, (f s x).pkg = s.pkg) (l : List β) (s : State) : (l.foldl f s).pkg = s.pkg :=
  List.foldlRecOn (motive := fun t => t.pkg = s.pkg) l f rfl (fun t ht x _ => (h t x).trans ht)

theorem ite_pkg {s t u : State} {c : Prop} [Decidable c] (ht : t.pkg = s.pkg) (hu : u.pkg = s.pkg) : (if c then t else u).pkg = s.pkg := by
  split
  · exact ht
  · exact hu

/-! ## A home's writes -/

@[simp] theorem State.setPoison_pkg (s : State) (w : Nat) (b : Bool) : (s.setPoison w b).pkg = s.pkg := rfl
@[simp] theorem State.setHalf_pkg (s : State) (h : Nat) (x : Half) : (s.setHalf h x).pkg = s.pkg := rfl
@[simp] theorem State.mscDirty_pkg (s : State) (line : Nat) : (s.mscDirty line).pkg = s.pkg := rfl
@[simp] theorem State.settleDev_pkg (s : State) (id : Nat) : (s.settleDev id).pkg = s.pkg := rfl

@[simp] theorem State.materialiseLine_pkg (s : State) (e : Alias) (line : Nat) : (s.materialiseLine e line).pkg = s.pkg := by
  unfold State.materialiseLine
  refine (foldl_pkg (fun t w => ?_) _ _).trans ?_
  · split <;> rfl
  · split
    · rfl
    · split <;> rfl

@[simp] theorem State.materialise_pkg (s : State) (e : Alias) (lines : List Nat) : (s.materialise e lines).pkg = s.pkg := by
  refine foldl_pkg (fun t l => ?_) _ _
  split
  · exact t.materialiseLine_pkg ..
  · rfl

@[simp] theorem State.destWrite_pkg (s : State) (line : Nat) : (s.destWrite line).pkg = s.pkg := foldl_pkg (fun t e => t.materialise_pkg e _) _ _

@[simp] theorem State.failLine_pkg (s : State) (wtag line : Nat) : (s.failLine wtag line).pkg = s.pkg := by
  unfold State.failLine
  split <;> rfl

@[simp] theorem State.srcMaterialise_pkg (s : State) (home line : Nat) : (s.srcMaterialise home line).pkg = s.pkg := by
  unfold State.srcMaterialise
  exact (foldl_pkg (fun t e => t.materialise_pkg e _) _ _).trans (foldl_pkg (fun t p => t.failLine_pkg ..) _ _)

@[simp] theorem State.srcWriteNow_pkg (s : State) (line : Nat) : (s.srcWriteNow line).pkg = s.pkg := foldl_pkg (fun t m => t.srcMaterialise_pkg m line) _ s

@[simp] theorem State.snoopHost_pkg (s : State) (line : Nat) (p : Patch) : (s.snoopHost line p).pkg = s.pkg := foldl_pkg (fun _ _ => by rfl) _ _

@[simp] theorem State.dropResv_pkg (s : State) (line : Nat) : (s.dropResv line).pkg = s.pkg := by
  unfold State.dropResv
  split <;> rfl

@[simp] theorem State.dirtyHalves_pkg (s : State) (line : Nat) (p : Patch) : (s.dirtyHalves line p).pkg = s.pkg := by
  unfold State.dirtyHalves
  split
  · exact foldl_pkg (fun _ _ => by rfl) _ _
  · rfl

@[simp] theorem State.applyPatch_pkg (s : State) (line : Nat) (p : Patch) (pois : List Nat) : (s.applyPatch line p pois).pkg = s.pkg := by
  calc (s.applyPatch line p pois).pkg
    _ = _ := State.dirtyHalves_pkg ..
    _ = _ := foldl_pkg (fun _ _ => by rfl) _ _
    _ = _ := foldl_pkg (fun _ _ => by rfl) _ _
    _ = _ := State.dropResv_pkg ..
    _ = _ := State.snoopHost_pkg ..

@[simp] theorem State.nbTake_pkg (s : State) (line : Nat) (p : Patch) : (s.nbTake line p).pkg = s.pkg := by
  unfold State.nbTake
  split <;> rfl

@[simp] theorem State.homeUpdates_pkg (s : State) (t : Tx) : (s.homeUpdates t).pkg = s.pkg := by
  unfold State.homeUpdates
  split <;> rfl

@[simp] theorem State.raiseMsi_pkg (s : State) (v : Option (Nat × Nat × Nat)) : (s.raiseMsi v).pkg = s.pkg := by
  unfold State.raiseMsi
  split
  · split <;> rfl
  · rfl

@[simp] theorem State.homeWrite_pkg (s : State) (t : Tx) (irq : Option (Nat × Nat × Nat)) : (s.homeWrite t irq).pkg = s.pkg := by simp [State.homeWrite]

/-! ## The MSC and the halves of host memory -/

@[simp] theorem State.mscUse_pkg (s : State) (line : Nat) : (s.mscUse line).pkg = s.pkg := by
  unfold State.mscUse
  split <;> rfl

@[simp] theorem State.mscFill_pkg (s : State) (line : Nat) : (s.mscFill line).1.pkg = s.pkg := by
  unfold State.mscFill
  split
  · exact s.mscUse_pkg line
  · dsimp only
    split
    · exact State.mscUse_pkg _ line
    · split
      · rfl
      · split <;> rfl

@[simp] theorem State.askHalves_pkg (s : State) (hs : List Nat) (store : Bool) : (s.askHalves hs store).pkg = s.pkg := by
  refine foldl_pkg (fun t h => ?_) _ _
  split
  · rfl
  · split <;> rfl

@[simp] theorem State.storeNeed_pkg (s : State) (pa n : Nat) : (s.storeNeed pa n).pkg = s.pkg := by
  unfold State.storeNeed
  rw [State.askHalves_pkg]
  exact foldl_pkg (fun t l => t.mscFill_pkg l) _ _

/-! ## Writes by the device -/

/-- The store that a write of the device's makes. -/
def State.devTx (s : State) (pa : Nat) (bytes : List Byte) (irq : Option (Nat × Nat × Nat)) : Tx :=
  { blankTx s.ctl.nextId (lineOf pa) (patchOf (pa % 128) bytes) with irq := irq }

/-- s with such a store under way, its line in its home's MSC slice where there is room. -/
def State.withDevTx (s : State) (pa : Nat) (bytes : List Byte) (irq : Option (Nat × Nat × Nat)) : State :=
  { (s.mscFill (lineOf pa)).1.bump with coh.txs := (s.mscFill (lineOf pa)).1.coh.txs ++ [s.devTx pa bytes irq] }

/-- A write of the device's that nothing holds back goes the way to its line's home; what follows leaves the package. -/
theorem State.devStoreLine_of_ready {s : State} {pa : Nat} {bytes : List Byte} {irq : Option (Nat × Nat × Nat)} (hm : isMapped pa = true)
    (ho : s.outsider (s.devTx pa bytes irq) = none) (hw : s.way deviceNode (lineNode (lineOf pa)) ≠ .cut)
    (hr : ((s.mscFill (lineOf pa)).2 && s.lineReady (lineOf pa) && (s.halvesMissing pa bytes.length true).isEmpty) = true) :
    (s.devStoreLine pa bytes irq).pkg = ((s.withDevTx pa bytes irq).reach deviceNode (lineNode (lineOf pa))).1.pkg := by
  unfold State.devTx at ho
  unfold State.devStoreLine
  dsimp only
  rw [if_neg (by simp [hm]), ho]
  dsimp only
  rw [if_neg hw, if_pos hr]
  split
  · exact State.raiseMsi_pkg ..
  · exact State.homeWrite_pkg ..

theorem State.devStoreLine_goOn (s : State) (pa : Nat) (bytes : List Byte) (irq : Option (Nat × Nat × Nat)) : s.LinksGoOn (s.devStoreLine pa bytes irq) := by
  have across : s.LinksGoOn ((s.withDevTx pa bytes irq).reach deviceNode (lineNode (lineOf pa))).1 :=
    (State.LinksGoOn.of_pkg (t := s.withDevTx pa bytes irq) (s.mscFill_pkg (lineOf pa))).trans (State.reach_goOn _ _ _)
  unfold State.devStoreLine
  refine .ite (.of_pkg rfl) ?_
  dsimp only
  split
  · exact .of_pkg (State.raiseMsi_pkg ..)
  · refine .ite (.of_pkg (State.raiseMsi_pkg ..)) (.ite (.ite ?_ ?_) (.of_pkg (s.mscFill_pkg _)))
    · exact across.then_pkg (State.raiseMsi_pkg ..)
    · exact across.then_pkg (State.homeWrite_pkg ..)

theorem State.devStoreN_goOn (k : Nat) (s : State) (pa : Nat) (bytes : List Byte) (irq : Option (Nat × Nat × Nat)) : s.LinksGoOn (State.devStoreN k s pa bytes irq) := by
  induction k generalizing s pa bytes with
  | zero => exact .refl s
  | succ k ih =>
    unfold State.devStoreN
    dsimp only
    split
    · exact s.devStoreLine_goOn _ _ _
    · exact (s.devStoreLine_goOn _ _ _).trans (ih _ _ _)

theorem State.devStore_goOn (s : State) (pa : Nat) (bytes : List Byte) (irq : Option (Nat × Nat × Nat)) : s.LinksGoOn (s.devStore pa bytes irq) := by
  unfold State.devStore
  split
  · exact .of_pkg (s.raiseMsi_pkg irq)
  · exact State.devStoreN_goOn _ _ _ _ _

/-! ## Records of the event arbiter -/

theorem State.ringPut_goOn (s : State) (e : RingEntry) : s.LinksGoOn (s.ringPut e) := by
  unfold State.ringPut
  split
  · exact s.devStore_goOn _ _ _
  · exact .of_pkg (State.storeNeed_pkg ..)

/-- s once the arbiter has stamped a record of a ring: the two serial numbers have advanced (R64). -/
def State.stamped (s : State) (ring : Nat) : State := { s with ten.serial := s.ten.serial + 1, ten.tseq := nset 0 s.ten.tseq ring ((nget 0 s.ten.tseq ring + 1) % 2 ^ 32) }

/-- A record is stamped and counted, and goes over what bridge its ring lies behind. -/
theorem State.logEvent_goOn (s : State) (ring source code : Nat) (cls : Option Nat) (fs : List (Nat × Nat × Nat)) : s.LinksGoOn (s.logEvent ring source code cls fs) := by
  have stamped : s.LinksGoOn (s.stamped ring) := .of_pkg rfl
  unfold State.logEvent
  exact .ite (stamped.trans (State.ringPut_goOn _ _)) stamped

theorem State.logRun_goOn (s : State) (g : Grp) : s.LinksGoOn (s.logRun g) := by
  refine State.LinksGoOn.foldl (fun t r => ?_) _ s
  exact (t.logEvent_goOn _ _ _ _ _).then_pkg (State.updLaunch_pkg ..)

/-! ## The end of a launch -/

@[simp] theorem State.rdZero_pkg (s : State) (l : L1Line) : (s.rdZero l).pkg = s.pkg := by
  unfold State.rdZero
  split
  · rfl
  · split <;> rfl

@[simp] theorem State.clearRd_pkg (s : State) (core slot : Nat) : (s.clearRd core slot).pkg = s.pkg := by
  refine foldl_pkg (fun t l => ?_) _ _
  dsimp only
  split
  · exact State.rdZero_pkg ..
  · rfl

@[simp] theorem State.clearLoaded_pkg (s : State) (core slot lane : Nat) : (s.clearLoaded core slot lane).pkg = s.pkg := by
  unfold State.clearLoaded
  dsimp only
  split
  · split
    · rfl
    · exact State.clearRd_pkg ..
  · rfl

/-- Poison and sealing of memory changed. -/
theorem State.with_mm_pkg (s : State) (m : Meta) : { s with mm := m }.pkg = s.pkg := rfl

/-- Scheduling changed. -/
theorem State.with_run_pkg (s : State) (r : RunS) : { s with run := r }.pkg = s.pkg := rfl

@[simp] theorem State.wipe_pkg (s : State) (pa n : Nat) : (s.wipe pa n).pkg = s.pkg := by
  refine foldl_pkg (fun t l => ?_) _ _
  exact (State.with_mm_pkg _ _).trans ((foldl_pkg (fun u i => u.setPoison_pkg ..) _ _).trans (State.putBytes_pkg ..))

/-- Extents of n bytes wiped, for any n: the kernel would compute with a numeral. -/
theorem State.wipes_pkg (n : Nat) (bs : List Nat) (s : State) : (bs.foldl (fun (s : State) b => s.wipe b n) s).pkg = s.pkg := foldl_pkg (fun t b => t.wipe_pkg b n) bs s

@[simp] theorem State.pokeReeve_pkg (s : State) : s.pokeReeve.pkg = s.pkg := by
  unfold State.pokeReeve
  split
  · rfl
  · split <;> rfl

@[simp] theorem State.retryHeld_pkg (s : State) : s.retryHeld.pkg = s.pkg := by
  unfold State.retryHeld
  split
  · exact State.pokeReeve_pkg _
  · rfl

@[simp] theorem State.releaseBlocks_pkg (s : State) (world : Nat) (bs : List Nat) : (s.releaseBlocks world bs).pkg = s.pkg := by
  have wiped : (if world = 0x7F then s else bs.foldl (fun (s : State) b => s.wipe b 32768) s).pkg = s.pkg := ite_pkg rfl (State.wipes_pkg 32768 bs s)
  exact (State.retryHeld_pkg _).trans ((State.with_run_pkg _ _).trans wiped)

@[simp] theorem State.sendAbort_pkg (s : State) (w status : Nat) : (s.sendAbort w status).pkg = s.pkg := by
  unfold State.sendAbort
  split
  · next x _ =>
    have noted : (if x.status = 0 then { s with ten.worlds := tset s.ten.worlds w { x with status := status } } else s).pkg = s.pkg := ite_pkg rfl rfl
    exact ite_pkg noted noted
  · rfl

/-- A launch ends by the records of its runs, and by nothing else that reaches a link. -/
theorem State.endLaunch_goOn (s : State) (ctx status : Nat) : s.LinksGoOn (s.endLaunch ctx status) := by
  have logged : s.LinksGoOn ((s.core.issue.filter (fun g => g.ctx == ctx)).foldl (fun (s : State) g => s.logRun g) s) := State.LinksGoOn.foldl (fun t g => t.logRun_goOn g) _ _
  unfold State.endLaunch
  split
  · exact .refl s
  · split
    · exact .refl s
    · refine logged.then_pkg ?_
      have sent (t : State) : (if t.due (fun e => e == .launchComplete ctx) then t else t.send (.launchComplete ctx)).pkg = t.pkg := ite_pkg rfl rfl
      have cleared (t : State) : ((t.core.gangs.filter (fun g => g.ctx == ctx)).foldl (fun (s : State) g => (List.range 32).foldl (fun (s : State) l => s.clearLoaded g.core g.slot l) s) t).pkg = t.pkg :=
        foldl_pkg (fun u g => foldl_pkg (fun v l => v.clearLoaded_pkg ..) _ _) _ _
      exact (sent _).trans ((State.releaseBlocks_pkg _ _ _).trans (cleared _))

/-! ## A port in FAILED -/

/-- A port taken to FAILED, and reported (R28). -/
def State.failReported (s : State) (l counter : Nat) : State :=
  (s.setLink l .failed).logEvent 256 (srcLink (linkId l)) 0x46 none [(24, 8, counter), (22, 2, srcLink (linkId l))]

/-- After the report the links go on: the endings of what was on its way bring none UP. -/
theorem State.failReported_goOn (s : State) (l counter : Nat) : (s.failReported l counter).LinksGoOn (s.linkFail l counter) := by
  refine .trans (.of_pkg (State.unsend_pkg ..)) (State.LinksGoOn.foldl (fun t c => ?_) _ _)
  exact .ite (t.endLaunch_goOn _ _) (.of_pkg (t.sendAbort_pkg ..))

theorem State.linkFail_goOn (s : State) (l counter : Nat) : (s.setLink l .failed).LinksGoOn (s.linkFail l counter) :=
  (State.logEvent_goOn _ _ _ _ _ _).trans (s.failReported_goOn l counter)

/-- Neither end of a link that has failed is UP. -/
theorem State.linkFail_not_up (s : State) {l k : Nat} (counter : Nat) (hk : l = k ∨ mate k = some l) : ((s.linkFail k counter).link l).st ≠ .up :=
  fun h => s.setLink_not_up hk (st := .failed) (by decide) ((s.linkFail_goOn k counter l).2 h)

end Sys2Proof.Machine
end

section
/-! SUPPORT. Reset and rails, islands and column temperatures: what each event of R19 to R24 comes to, and that they come to what the rules say. -/

namespace Sys2Proof.Machine

open Sys2Proof

/-! ## Fields of words -/

theorem toNat_extractLsb' {w : Nat} (v : BitVec w) (lo n : Nat) : (v.extractLsb' lo n).toNat = v.toNat / 2 ^ lo % 2 ^ n := by
  rw [BitVec.extractLsb'_toNat, Nat.shiftRight_eq_div_pow]

theorem toNat_extractLsb'_24_12 (v : DWord) : (v.extractLsb' 24 12).toNat = bits v.toNat 35 24 := toNat_extractLsb' v 24 12
theorem toNat_extractLsb'_12_12 (v : DWord) : (v.extractLsb' 12 12).toNat = bits v.toNat 23 12 := toNat_extractLsb' v 12 12
theorem toNat_extractLsb'_36_12 (v : DWord) : (v.extractLsb' 36 12).toNat = bits v.toNat 47 36 := toNat_extractLsb' v 36 12

theorem bit_toNat {w : Nat} (v : BitVec w) (i : Nat) : bit v.toNat i = v.getLsbD i := by
  rw [BitVec.getLsbD, Nat.testBit_eq_decide_div_mod_eq, bit]
  rfl

/-! ## Reset and rails -/

theorem State.toReset_timers (s : State) : ∀ e ∈ s.toReset.ctl.timers, ∃ k, e.2 = .railSettledTimer k := by
  intro e he
  obtain ⟨t, -, ht⟩ := List.mem_filterMap.mp he
  split at ht
  · cases ht
    exact ⟨_, rfl⟩
  · cases ht

theorem State.boot_of_held {s : State} (h : s.held0 = true) : s.boot = s := if_pos h

theorem State.boot_of_free {s : State} (h : s.held0 = false) : s.boot = { s with ctl.timers := s.ctl.timers ++ sampleTimers s.ctl.freeCtr }.send .bootStart :=
  if_neg (by rw [h]; decide)

theorem mem_addSorted {l : List Nat} {r x : Nat} : x ∈ addSorted l r ↔ x = r ∨ x ∈ l := by
  unfold addSorted
  split
  · next h =>
    refine ⟨.inr, fun hx => hx.elim (fun e => e ▸ List.contains_iff_mem.mp h) id⟩
  · simp only [List.mem_append, List.mem_cons, List.mem_filter, decide_eq_true_eq]
    constructor
    · rintro (h | h | h)
      · exact .inr h.1
      · exact .inl h
      · exact .inr h.1
    · rintro (h | h)
      · exact .inr (.inl h)
      · rcases Nat.lt_trichotomy x r with k | k | k
        · exact .inl ⟨h, k⟩
        · exact .inr (.inl k)
        · exact .inr (.inr ⟨h, k⟩)

/-- The only timer of a rail that has left its limits runs from the reset it brings (R19). -/
theorem State.railOut_timer (s : State) (r n : Nat) : (n, Ev.railSettledTimer r) ∈ (s.railOut r).ctl.timers ↔ n = Config.railAway s.ctl.freeCtr + 1700000 := by
  have gone (t : State) : (n, Ev.railSettledTimer r) ∉ (t.cancel (fun e => e == Ev.railSettledTimer r)).ctl.timers := by simp [State.cancel]
  have new : (s.railOut r).ctl.timers = (({ s with pkg.railBad := addSorted s.pkg.railBad r }).toReset.cancel (fun e => e == Ev.railSettledTimer r)).ctl.timers ++
    [(0 + (Config.railAway s.ctl.freeCtr + 1000 * 1700), Ev.railSettledTimer r)] := rfl
  rw [new, List.mem_append, List.mem_singleton, Prod.mk.injEq, Nat.zero_add]
  exact ⟨fun h => h.elim (fun h => absurd h (gone _)) (fun h => h.1), fun h => .inr ⟨h, rfl⟩⟩

theorem State.railOut_timers (s : State) (r : Nat) : ∀ e ∈ (s.railOut r).ctl.timers, ∃ k, e.2 = .railSettledTimer k := by
  intro e he
  rcases List.mem_append.mp he with h | h
  · exact State.toReset_timers _ e (List.mem_filter.mp h).1
  · rw [List.mem_singleton.mp h]
    exact ⟨r, rfl⟩

theorem State.railOut_held (s : State) (r : Nat) : (s.railOut r).held0 = true := by
  have h : r ∈ addSorted s.pkg.railBad r := mem_addSorted.mpr (.inl rfl)
  have : (s.railOut r).pkg.railBad = addSorted s.pkg.railBad r := rfl
  rw [State.held0, this]
  simp [List.ne_nil_of_mem h]

/-- What a reset leaves of s in t (R19; log 25). -/
def State.Cleared (s t : State) : Prop :=
  t.mem = s.mem ∧ t.mm = s.mm ∧ t.ten = State.reset.ten ∧ t.coh = State.reset.coh ∧ t.ali = State.reset.ali ∧ t.xl = State.reset.xl ∧
    t.run = State.reset.run ∧ t.core = State.reset.core ∧ t.eng = State.reset.eng ∧ t.nb = State.reset.nb ∧ t.pkg.islands = State.reset.pkg.islands ∧
    t.pkg.tcol = State.reset.pkg.tcol ∧ t.pkg.links = State.reset.pkg.links ∧ t.host.halves = [] ∧ t.host.step = 0 ∧ t.host.flash = s.host.flash ∧ t.ctl.time = 0 ∧ t.ctl.waiting = [] ∧
    (∀ e ∈ t.ctl.timers, ∃ k, e.2 = .railSettledTimer k) ∧ t.held0 = true

theorem State.railOut_cleared (s : State) (r : Nat) : s.Cleared (s.railOut r) :=
  ⟨rfl, rfl, rfl, rfl, rfl, rfl, rfl, rfl, rfl, rfl, rfl, rfl, rfl, rfl, rfl, rfl, rfl, rfl, s.railOut_timers r, s.railOut_held r⟩

theorem State.toReset_cleared {s : State} (h : s.held0 = true) : s.Cleared s.toReset :=
  ⟨rfl, rfl, rfl, rfl, rfl, rfl, rfl, rfl, rfl, rfl, rfl, rfl, rfl, rfl, rfl, rfl, rfl, rfl, s.toReset_timers, h⟩

theorem happens_packageReset (s : State) : Happens .packageReset (.packageReset true) s (fun t => s.Cleared t ∧ t.pkg.inReset = true ∧ t.pkg.railBad = s.pkg.railBad) :=
  ⟨rfl, ({ s.hears (.packageReset true) with pkg.inReset := true }).toReset, rfl, State.toReset_cleared rfl, rfl, rfl⟩

theorem happens_railOutOfLimits (s : State) (r : Nat) : Happens .railOutOfLimits (.railOutOfLimits r) s (fun t => s.Cleared t ∧ t.pkg.inReset = s.pkg.inReset ∧ r ∈ t.pkg.railBad ∧
    (∀ x, x ≠ r → (x ∈ t.pkg.railBad ↔ x ∈ s.pkg.railBad)) ∧ ∀ n, (n, Ev.railSettledTimer r) ∈ t.ctl.timers ↔ n = Config.railAway s.ctl.freeCtr + 1700000) := by
  refine ⟨rfl, (s.hears (.railOutOfLimits r)).railOut r, rfl, (s.hears (.railOutOfLimits r)).railOut_cleared r, rfl, ?_, ?_, State.railOut_timer _ r⟩
  · exact mem_addSorted.mpr (.inl rfl)
  · exact fun x hx => mem_addSorted.trans (or_iff_right hx)

/-- Reset let go, in a package that something else may still hold. -/
theorem gives_packageReset_letGo {s : State} {f : State → State} (hr : s.pkg.inReset = true)
    (h : ({ s.hears (.packageReset false) with pkg.inReset := false }).boot = f (s.hears (.packageReset false))) : Gives .packageReset (.packageReset false) s f :=
  ⟨rfl, congrArg Host.Outcome.next ((if_pos (c := (s.hears (.packageReset false)).pkg.inReset = true) hr).trans h)⟩

/-- A rail has settled, in a package that something else may still hold. -/
theorem gives_railSettled {s : State} {r : Nat} {f : State → State} (hr : r ∈ s.pkg.railBad) (hs : s.railRuns r = false)
    (h : ({ s.hears (.railSettledTimer r) with pkg.railBad := s.pkg.railBad.filter (fun x => x != r) }).boot = f (s.hears (.railSettledTimer r))) :
    Gives .railSettledTimer (.railSettledTimer r) s f := by
  have hc : (s.pkg.railBad.contains r && !s.railRuns r) = true := by simp [hr, hs]
  exact ⟨rfl, congrArg Host.Outcome.next ((if_pos hc).trans h)⟩

/-! ## Islands -/

/-- A change begins (R21): a frequency that falls falls at once. -/
def State.beginChange (s : State) (i : Nat) (a : Nat × Nat × Nat) : State :=
  let s1 : State := { s with pkg.islands := modAt s.pkg.islands i (fun (x : Island) => { x with change := some a }) }
  if a.1 < (s.island i).run then s1.setRun i a.1 else s1

theorem State.islandWrite_ignored {s : State} {i : Nat} {v : DWord} (h : islandAsk i (s.island i) v.toNat = none) : s.islandWrite i v = s := by
  rw [State.islandWrite, h]

theorem State.islandWrite_same {s : State} {i : Nat} {v : DWord} (h : islandAsk i (s.island i) v.toNat = some ((s.island i).fset, (s.island i).vset, (s.island i).floor)) :
    s.islandWrite i v = s := by
  rw [State.islandWrite, h]
  exact if_pos rfl

theorem State.islandWrite_begins {s : State} {i : Nat} {v : DWord} {a : Nat × Nat × Nat} (h : islandAsk i (s.island i) v.toNat = some a)
    (ha : a ≠ ((s.island i).fset, (s.island i).vset, (s.island i).floor)) : s.islandWrite i v = ((s.beginChange i a).setVolts i a.2.1).send (.islandChangeComplete i) := by
  rw [State.islandWrite, h]
  exact if_neg ha

section Ask

variable {i : Nat} {x : Island} {v : DWord}

/-- What ISLANDi of a compute quadrant may be set to (R21): frequency, voltage and floor in their ranges, the voltage at least VMIN. -/
abbrev QuadrantRange (f u fl : Nat) : Prop :=
  200 ≤ f ∧ f ≤ 850 ∧ f % 25 = 0 ∧ 550 ≤ u ∧ u ≤ 850 ∧ u % 5 = 0 ∧ 6 * (f - 200) ≤ 13 * (u - 550) ∧ 200 ≤ fl ∧ fl ≤ f ∧ fl % 25 = 0

theorem islandAsk_changing {n : Nat} (h : x.change ≠ none) : islandAsk i x n = none := if_pos (Option.isSome_iff_ne_none.mpr h)

/-- An island that settles takes what islandAsk finds in range; one that is changing takes nothing. -/
theorem islandAsk_none_of {n : Nat} (h : x.change = none → islandAsk i x n = none) : islandAsk i x n = none := by
  by_cases hx : x.change = none
  · exact h hx
  · exact islandAsk_changing hx

theorem islandAsk_fixed {n : Nat} (hx : x.change = none) (hi : 21 ≤ i ∨ i % 7 = 6) : islandAsk i x n = some (x.fset, x.vset, x.floor) := by
  unfold islandAsk
  rw [hx]
  exact if_pos hi

theorem islandAsk_mesh (hx : x.change = none) (hi : i < 21) (hj : i % 7 = 5) : islandAsk i x v.toNat =
    if (v.extractLsb' 24 12).toNat = 850 ∨ (v.extractLsb' 24 12).toNat = 1700 then some ((v.extractLsb' 24 12).toNat, x.vset, x.floor) else none := by
  unfold islandAsk
  rw [hx, ← toNat_extractLsb'_24_12]
  simp [hj, Nat.not_le_of_lt hi]

theorem islandAsk_cellar (hx : x.change = none) (hi : i < 21) (hj : i % 7 = 4) : islandAsk i x v.toNat =
    if (v.extractLsb' 24 12).toNat = 425 ∨ (v.extractLsb' 24 12).toNat = 850 then some ((v.extractLsb' 24 12).toNat, x.vset, x.floor) else none := by
  unfold islandAsk
  rw [hx, ← toNat_extractLsb'_24_12]
  simp [hj, Nat.not_le_of_lt hi]

theorem islandAsk_quadrant (hx : x.change = none) (hi : i < 21) (hj : i % 7 < 4) : islandAsk i x v.toNat = if QuadrantRange (v.extractLsb' 24 12).toNat (v.extractLsb' 12 12).toNat (v.extractLsb' 36 12).toNat then
      some ((v.extractLsb' 24 12).toNat, (v.extractLsb' 12 12).toNat, (v.extractLsb' 36 12).toNat) else none := by
  unfold islandAsk
  rw [hx, ← toNat_extractLsb'_24_12, ← toNat_extractLsb'_12_12, ← toNat_extractLsb'_36_12]
  dsimp only
  rw [if_neg (by decide), if_neg (by omega), if_neg (by omega), if_neg (by omega)]
  refine if_congr ?_ rfl rfl
  unfold vmin ceilDiv
  omega

end Ask

section Writes

variable {s : State} {i : Nat} {v : DWord}

theorem gives_islandWrite_ignored (h : islandAsk i (s.island i) v.toNat = none) : Gives .islandWrite (.islandWrite i v) s id :=
  ⟨rfl, congrArg Host.Outcome.next (State.islandWrite_ignored (s := s.hears _) h)⟩

theorem gives_islandWrite_begins {a : Nat × Nat × Nat} {f : State → State} (h : islandAsk i (s.island i) v.toNat = some a)
    (ha : a ≠ ((s.island i).fset, (s.island i).vset, (s.island i).floor))
    (hf : (((s.hears (.islandWrite i v)).beginChange i a).setVolts i a.2.1).send (.islandChangeComplete i) = f (s.hears (.islandWrite i v))) :
    Gives .islandWrite (.islandWrite i v) s f :=
  ⟨rfl, congrArg Host.Outcome.next ((State.islandWrite_begins (s := s.hears _) h ha).trans hf)⟩

theorem State.setVolts_of_quadrant (s : State) (mv : Nat) (hi : i < 21) (hj : i % 7 < 4) : s.setVolts i mv = s.toHost (.pmbus (0x40 + i) mv) := if_pos (by simp [quadrantIsland, hi, hj])

theorem State.setVolts_of_fixed (s : State) (mv : Nat) (hj : 4 ≤ i % 7) : s.setVolts i mv = s := if_neg (by simp [quadrantIsland, Nat.not_lt_of_le hj])

/-- A change completes with the setpoints asked for, and no other island changes (R21). -/
theorem happens_islandChangeComplete {a : Nat × Nat × Nat} (h : (s.island i).change = some a) (hi : i < s.pkg.islands.length) :
    Happens .islandChangeComplete (.islandChangeComplete i) s (fun t =>
      t.island i = { s.island i with fset := a.1, vset := a.2.1, floor := a.2.2, run := a.1, change := none } ∧ (∀ j, j ≠ i → t.island j = s.island j) ∧ t.mem = s.mem ∧ t.core = s.core) := by
  refine ⟨rfl, _, rfl, ?_, fun j hj => headD_drop_modAt_ne _ hj, rfl, rfl⟩
  refine (headD_drop_modAt_self _ hi).trans ?_
  unfold State.island at h
  dsimp only
  rw [h]
  rfl

end Writes

/-! ## Temperatures -/

section Temperatures

variable {s : State} {c a b d : Nat}

/-- The word that a sample of a column publishes (R23). -/
def sampleWord (old : Word) (a b d : Nat) : Word :=
  BitVec.ofNat 32 (2 ^ 31 + (if old.getLsbD 30 || decide (840 ≤ max a (max b d)) then 2 ^ 30 else 0) + a * 2 ^ 20 + b * 2 ^ 10 + d)

/-- s with a sample of a column published (R23). -/
def State.publish (s : State) (c a b d : Nat) : State := { s with pkg.tcol := modAt s.pkg.tcol c (fun _ => sampleWord ((s.pkg.tcol.drop c).headD 0) a b d) }

theorem State.tcolSample_eq (s : State) (c a b d : Nat) : s.tcolSample c a b d =
    if 880 ≤ max a (max b d) then (s.publish c a b d).send (.thermalThrottle (c / 8))
    else if ((s.publish c a b d).island (islandOf (c / 8))).throt && !(s.publish c a b d).quadrantWarm (c / 8) then (s.publish c a b d).setThrottle (c / 8) false
    else s.publish c a b d := by
  have hot : (bit ((s.pkg.tcol.drop c).headD 0).toNat 30 || decide (840 ≤ a) || decide (840 ≤ b) || decide (840 ≤ d)) =
      (((s.pkg.tcol.drop c).headD 0).getLsbD 30 || decide (840 ≤ max a (max b d))) := by
    rw [bit_toNat]
    simp only [le_max_iff, Bool.decide_or, Bool.or_assoc]
  unfold State.tcolSample
  dsimp only
  rw [hot]
  simp only [← le_max_iff]
  rfl

/-- A quadrant held at its floor is let go: no reading of it is at or above 100 °C (R24). -/
theorem floorEnds_iff {q : Nat} : ((s.island (islandOf q)).throt && !s.quadrantWarm q) = true ↔ (s.island (islandOf q)).throt = true ∧ s.quadrantWarm q = false := by
  rw [Bool.and_eq_true, Bool.not_eq_true']

theorem gives_tcolSample {f : State → State} (h : ((s.hears (.tcolSample c a b d)).tcolSample c a b d).nextSample c = f (s.hears (.tcolSample c a b d))) :
    Gives .tcolSample (.tcolSample c a b d) s f := ⟨rfl, congrArg Host.Outcome.next h⟩

/-- The first sampling of a column that has none due (R23; log 75). -/
theorem State.nextSample_of_none (h : ∀ n x y z, (n, Ev.tcolSample c x y z) ∉ s.ctl.timers) :
    ∃ x y z, s.nextSample c = { s with ctl.timers := s.ctl.timers ++ [(s.ctl.time + 17000, .tcolSample c x y z)] } := by
  refine ⟨_, _, _, if_neg ?_⟩
  rw [List.any_eq_true]
  rintro ⟨⟨n, e⟩, hm, he⟩
  dsimp only at he
  split at he
  · next k x y z =>
    obtain rfl : k = c := by simpa using he
    exact h n x y z hm
  · cases he

/-- Clearing HOT clears one bit of the register. -/
theorem ofNat_setBit_30 (w : Word) : BitVec.ofNat 32 (setBit w.toNat 30 false) = w &&& 0xBFFFFFFF := by
  have mask : w.toNat &&& 0xBFFFFFFF = (w.toNat / 2 ^ 31 % 2 ^ 1) <<< 31 + w.toNat % 2 ^ 30 := by
    rw [show 0xBFFFFFFF = (2 ^ 1 - 1) <<< 31 ||| (2 ^ 30 - 1) from rfl, Nat.and_or_distrib_left, Laws.Encoded.land_run, Nat.and_two_pow_sub_one_eq_mod,
      Nat.shiftLeft_add_eq_or_of_lt (by omega)]
  apply BitVec.eq_of_toNat_eq
  rw [BitVec.toNat_and, show (0xBFFFFFFF : Word).toNat = 0xBFFFFFFF from rfl, mask, BitVec.toNat_ofNat, setBit, setBits, Nat.shiftLeft_eq]
  simp only [Bool.false_eq_true, if_false]
  omega

/-- A column has its HOT cleared where the write asks for it and every reading is below 105 °C (R23, R24). -/
theorem hotClears_iff (v old : Word) : (bit v.toNat 30 && (readings old.toNat).all (fun r => decide (r < 840))) = true ↔ v.getLsbD 30 = true ∧ ∀ r ∈ readings old.toNat, r < 840 := by
  rw [bit_toNat, Bool.and_eq_true, List.all_eq_true]
  simp only [decide_eq_true_eq]

end Temperatures

/-- Settles O32, event by event. -/
theorem packageEvents : Obligations.PackageEvents := by
  refine ⟨fun s r => ?rails, fun s i v => ?islands, fun s c a b d v _ _ _ _ => ?temperatures⟩
  case rails =>
    refine ⟨happens_packageReset s, happens_railOutOfLimits s r, fun hr hb => ?free, fun hr hb => ?bad, fun hr hb hs => ?last, fun hs => ?runs, fun hr hb hs => ?inReset⟩
    case free => exact gives_packageReset_letGo hr (State.boot_of_free (by simp [State.held0, hb]))
    case bad => exact gives_packageReset_letGo hr (State.boot_of_held (by simp [State.held0, hb]))
    case last =>
      have settled : s.pkg.railBad.filter (fun x => x != r) = [] := by simp [hb]
      refine gives_railSettled (by simp [hb]) hs ?_
      rw [settled]
      exact State.boot_of_free (by simp [State.held0, hr])
    case runs =>
      have : ¬ (s.pkg.railBad.contains r && !s.railRuns r) = true := by simp [hs]
      exact Gives.of_neg this rfl rfl
    case inReset => exact gives_railSettled hb hs (State.boot_of_held (by simp [State.held0, hr]))
  case islands =>
    refine ⟨fun hx => gives_islandWrite_ignored (islandAsk_changing hx), fun hi hj => ⟨fun hq => ?_, fun hq hx ha => ?_⟩, fun hi hj => ⟨fun h1 h2 => ?_, fun hf hx ha => ?_⟩,
      fun hi hj => ⟨fun h1 h2 => ?_, fun hf hx ha => ?_⟩, fun hi => ?fixed, fun a ha hi => happens_islandChangeComplete ha hi⟩
    · exact gives_islandWrite_ignored (islandAsk_none_of fun hx => (islandAsk_quadrant hx hi hj).trans (if_neg hq))
    · exact gives_islandWrite_begins ((islandAsk_quadrant hx hi hj).trans (if_pos hq)) ha (by rw [State.setVolts_of_quadrant _ _ hi hj]; rfl)
    · exact gives_islandWrite_ignored (islandAsk_none_of fun hx => (islandAsk_cellar hx hi hj).trans (if_neg (not_or.mpr ⟨h1, h2⟩)))
    · exact gives_islandWrite_begins ((islandAsk_cellar hx hi hj).trans (if_pos hf)) (fun e => ha (Prod.mk.inj e).1) (by rw [State.setVolts_of_fixed _ _ (by omega)]; rfl)
    · exact gives_islandWrite_ignored (islandAsk_none_of fun hx => (islandAsk_mesh hx hi hj).trans (if_neg (not_or.mpr ⟨h1, h2⟩)))
    · exact gives_islandWrite_begins ((islandAsk_mesh hx hi hj).trans (if_pos hf)) (fun e => ha (Prod.mk.inj e).1) (by rw [State.setVolts_of_fixed _ _ (by omega)]; rfl)
    case fixed =>
      by_cases hx : (s.island i).change = none
      · exact ⟨rfl, congrArg Host.Outcome.next (State.islandWrite_same (s := s.hears _) (islandAsk_fixed hx hi))⟩
      · exact gives_islandWrite_ignored (islandAsk_changing hx)
  case temperatures =>
    refine ⟨fun h => ?hot, fun h hq => ?asItIs, fun h ht hq => ?letGo, State.nextSample_of_none, fun hq => ?throttle, fun hv hr => ?clear, fun h => ?keep⟩
    case hot => exact gives_tcolSample (by rw [State.tcolSample_eq, if_pos h]; rfl)
    case asItIs =>
      refine gives_tcolSample ?_
      rw [State.tcolSample_eq, if_neg (by omega), if_neg]
      · rfl
      · rw [floorEnds_iff]
        rintro ⟨ht, hw⟩
        exact hq.elim (fun e => Bool.false_ne_true (e.symm.trans ht)) (fun e => Bool.false_ne_true (hw.symm.trans e))
    case letGo =>
      refine gives_tcolSample ?_
      rw [State.tcolSample_eq, if_neg (by omega), if_pos ((floorEnds_iff (s := (s.hears _).publish c a b d)).mpr ⟨ht, hq⟩)]
      rfl
    case throttle => exact Gives.of_pos (c := s.quadrantWarm (c / 8) = true) hq rfl rfl
    case clear =>
      refine ⟨rfl, congrArg Host.Outcome.next ((if_pos ((hotClears_iff v _).mpr ⟨hv, hr⟩)).trans ?_)⟩
      rw [ofNat_setBit_30]
      rfl
    case keep =>
      refine Gives.of_neg (mt (hotClears_iff v _).mp ?_) rfl rfl
      rintro ⟨hv, hr⟩
      rcases h with h | ⟨r, hm, h⟩
      · exact Bool.false_ne_true (h.symm.trans hv)
      · exact absurd (hr r hm) (Nat.not_lt_of_le h)

end Sys2Proof.Machine
end

section
/-! SUPPORT. The links' events of R28: what a flit that comes in does, the flits on the line of a bridge before a new key comes into force, and that the events come to what the
table says. -/

namespace Sys2Proof.Machine

open Sys2Proof

/-! ## Flits that come in -/

theorem State.hears_link (s : State) (e : Ev) (l : Nat) : (s.hears e).link l = s.link l := rfl

theorem State.counted_hears (s : State) (e : Ev) (l n : Nat) : (s.hears e).counted l n = (s.counted l n).hears e := by
  unfold State.counted
  split
  · rfl
  · split <;> rfl

/-- A flit that comes in takes its port to FAILED, or the message that happens makes no difference to what it does and the links go on. -/
theorem State.flitReceive_fails_or (s : State) (e : Ev) (k : Nat) (flit : List Byte) :
    (∃ u c, s.flitReceive k flit = State.linkFail u k c) ∨ ((s.hears e).flitReceive k flit = (s.flitReceive k flit).hears e ∧ s.LinksGoOn (s.flitReceive k flit)) := by
  have taken {t : State} {f : Link → Link} (ht : t.pkg = (s.updLink k f).pkg) (hf : ∀ x, (f x).tx = x.tx ∧ (f x).st = x.st) : s.LinksGoOn t :=
    (s.updLink_goOn k fun x => ⟨Nat.le_of_eq (hf x).1.symm, fun h => (hf x).2 ▸ h⟩).then_pkg ht
  unfold State.flitReceive
  dsimp only
  rw [State.hears_link]
  by_cases hst : ((s.link k).st = .up ∧ (s.link k).rx < 2 ^ 62) ∨ (s.link k).st = .drain ∨ (s.link k).st = .refuse
  · rw [if_pos hst, if_pos hst]
    by_cases hg : gcmTag (s.link k).key (flitNonce (s.link k).rxId (s.link k).rx) [] (flit.take 240) = flit.drop 240
    · rw [if_pos hg, if_pos hg]
      right
      by_cases hr : (s.link k).st = .refuse
      · rw [if_pos hr, if_pos hr]
        exact ⟨rfl, .refl s⟩
      · rw [if_neg hr, if_neg hr]
        by_cases hu : (s.link k).st = .up
        · rw [if_pos hu, if_pos hu]
          exact ⟨State.counted_hears (s.updLink k _) .., taken (State.counted_pkg ..) fun _ => ⟨rfl, rfl⟩⟩
        · rw [if_neg hu, if_neg hu]
          exact ⟨rfl, taken rfl fun _ => ⟨rfl, rfl⟩⟩
    · rw [if_neg hg, if_neg hg]
      by_cases h3 : (s.link k).fails + 1 ≥ 3
      · rw [if_pos h3]
        exact .inl ⟨_, _, rfl⟩
      · rw [if_neg h3, if_neg h3]
        right
        split
        · exact ⟨rfl, taken (State.send_pkg ..) fun _ => ⟨rfl, rfl⟩⟩
        · exact ⟨rfl, taken rfl fun _ => ⟨rfl, rfl⟩⟩
  · rw [if_neg hst, if_neg hst]
    exact .inr ⟨rfl, .refl s⟩

/-- A flit that leaves an end of its link UP found it UP. -/
theorem State.flitReceive_up (s : State) {k l : Nat} (flit : List Byte) (hk : l = k ∨ mate k = some l) (h : ((s.flitReceive k flit).link l).st = .up) : (s.link l).st = .up := by
  rcases s.flitReceive_fails_or (.flitReceive k flit) k flit with ⟨u, c, e⟩ | ⟨-, g⟩
  · exact absurd (e ▸ h) (u.linkFail_not_up c hk)
  · exact (g l).2 h

/-- A flit that leaves an end of its link UP comes in whatever message happens. -/
theorem State.flitReceive_hears {s : State} {k l : Nat} {flit : List Byte} (e : Ev) (hk : l = k ∨ mate k = some l) (h : ((s.flitReceive k flit).link l).st = .up) :
    (s.hears e).flitReceive k flit = (s.flitReceive k flit).hears e := by
  rcases s.flitReceive_fails_or e k flit with ⟨u, c, e'⟩ | ⟨g, -⟩
  · exact absurd (e' ▸ h) (u.linkFail_not_up c hk)
  · exact g

/-! ## The flits on the line of a bridge -/

/-- A flit on the line of a bridge. -/
def onLine (l : Nat) (e : Ev) : Bool := match e with | .flitReceive k _ => decide (16 ≤ l) && linkId k == l | _ => false

/-- Such a flit comes in. -/
def State.takeIn (s : State) (e : Ev) : State := match e with | .flitReceive k f => s.flitReceive k f | _ => s

theorem State.land_eq (s : State) (l : Nat) :
    s.land l = (s.ctl.agenda.filter (onLine l)).foldl State.takeIn (s.unsend (fun e => (s.ctl.agenda.filter (onLine l)).contains e)) := rfl

/-- A flit on the line of a bridge comes in at one of its ends. -/
theorem onLine_iff {l : Nat} {e : Ev} (h : onLine l e = true) : ∃ k f, e = .flitReceive k f ∧ (l = k ∨ mate k = some l) := by
  unfold onLine at h
  split at h
  · next k f =>
    refine ⟨k, f, rfl, ?_⟩
    simp only [Bool.and_eq_true, decide_eq_true_eq, beq_iff_eq] at h
    obtain ⟨hl, hk⟩ := h
    unfold linkId at hk
    split at hk
    · exact .inl hk.symm
    · have h16 : ¬ k < 16 := by omega
      have h19 : ¬ k < 19 := by omega
      exact .inr (by rw [mate, if_neg h16, if_neg h19, hk])
  · cases h

/-- Flits that leave an end of their bridge UP come in whatever message happens, and found it UP. -/
theorem foldl_takeIn_hears {l : Nat} (e : Ev) (fs : List Ev) (hfs : ∀ f ∈ fs, onLine l f = true) (s : State) (h : ((fs.foldl State.takeIn s).link l).st = .up) :
    fs.foldl State.takeIn (s.hears e) = (fs.foldl State.takeIn s).hears e ∧ (s.link l).st = .up := by
  induction fs generalizing s with
  | nil => exact ⟨rfl, h⟩
  | cons f t ih =>
    obtain ⟨k, flit, rfl, hk⟩ := onLine_iff (hfs f (by simp))
    obtain ⟨same, up⟩ := ih (fun x hx => hfs x (by simp [hx])) (s.flitReceive k flit) h
    refine ⟨?_, s.flitReceive_up flit hk up⟩
    rw [List.foldl_cons, List.foldl_cons]
    exact (congrArg (t.foldl State.takeIn) (State.flitReceive_hears e hk up)).trans same

/-- Where the bridge is UP once the flits on its line have come in, they come in whatever message happens. -/
theorem State.land_hears {s : State} {l : Nat} (e : Ev) (h : ((s.land l).link l).st = .up) : (s.hears e).land l = (s.land l).hears e :=
  (foldl_takeIn_hears e _ (fun _ hf => (List.mem_filter.mp hf).2) _ h).1

/-- Without a flit on its way nothing comes in. -/
theorem State.land_of_not_flying {s : State} {l : Nat} (h : s.flying l = false) : s.land l = s := by
  have none_ : s.ctl.agenda.filter (onLine l) = [] := by
    rw [List.filter_eq_nil_iff]
    intro e he hl
    obtain ⟨k, f, rfl, -⟩ := onLine_iff hl
    have : s.flying l = true := by
      unfold State.flying State.due
      rw [Bool.or_eq_true, Bool.or_eq_true]
      exact .inl (.inl (List.any_eq_true.mpr ⟨_, he, hl⟩))
    rw [h] at this
    cases this
  rw [State.land_eq, none_]
  simp [State.unsend]

/-! ## Keys -/

/-- A counter of an end of the link has reached n (R27). -/
theorem State.reached_iff (s : State) (l n : Nat) :
    s.reached l n = true ↔ n ≤ (s.link l).tx ∨ n ≤ (s.link l).rx ∨ ∃ m, mate l = some m ∧ (n ≤ (s.link m).tx ∨ n ≤ (s.link m).rx) := by
  unfold State.reached Link.reached
  cases mate l with
  | none => simp
  | some m => simp [or_assoc]

/-- A new key, once the flits under the old one have come in and have left the link UP: it waits for those asked for again, and else comes into force (R28). -/
theorem exec_keyUpdateComplete {s u : State} {l : Nat} {key : List Byte} (hu : (s.hears (.keyUpdateComplete l key)).land l = u) (hst : (u.link l).st = .up) :
    exec .keyUpdateComplete (s.hears (.keyUpdateComplete l key)) = .next (if u.flying l then u.wait (.keyUpdateComplete l key) else u.updEnds l (fun x => x.rekey key)) := by
  subst hu
  exact congrArg Host.Outcome.next (if_pos hst)

/-- Settles O33, event by event. -/
theorem linkEvents : Obligations.LinkEvents := by
  intro s l key tx rx
  refine ⟨fun h => .of_pos h rfl rfl, fun h => ⟨.of_pos h rfl rfl, .of_pos h rfl rfl⟩, fun h => ⟨.of_pos h rfl rfl, .of_pos h rfl rfl⟩, fun h => .of_pos h rfl rfl,
    fun h => .of_pos h rfl rfl, ⟨rfl, rfl⟩, fun h => ⟨fun hf => ?rekeyed, fun hf hu => ?waits, .of_pos h rfl rfl⟩, fun h hf => ?drained, fun h hf => ?draining, ⟨rfl, rfl⟩,
    fun h hn => .of_pos ⟨h, (s.reached_iff l _).mpr hn⟩ rfl rfl, fun h hn => ?expired, fun x f hm => ⟨State.updEnds_of_mate_none hm _ _, State.updEnds_of_mate_none hm _ _⟩,
    fun x f m hm => ⟨State.updEnds_of_mate_some hm _ _, rfl⟩, fun h => .of_neg h rfl rfl, fun h => .of_neg h rfl rfl, fun h => .of_neg h rfl rfl⟩
  case rekeyed => exact .of_neg (c := s.flying l = true) (by rw [hf]; decide) rfl (exec_keyUpdateComplete (State.land_of_not_flying (s := s.hears _) hf) h)
  case waits =>
    have landed := State.land_hears (.keyUpdateComplete l key) hu
    refine .of_pos (c := ((s.hears (.keyUpdateComplete l key)).land l).flying l = true) (by rw [landed]; exact hf) rfl (exec_keyUpdateComplete rfl ?_)
    rw [landed]
    exact hu
  case drained => exact ⟨rfl, congrArg Host.Outcome.next ((if_pos h).trans (if_neg fun e => Bool.false_ne_true (hf.symm.trans e)))⟩
  case draining => exact ⟨rfl, congrArg Host.Outcome.next ((if_pos h).trans (if_pos hf))⟩
  case expired => exact ⟨rfl, congrArg Host.Outcome.next ((if_pos h).trans (if_pos ((s.reached_iff l _).mpr hn)))⟩

end Sys2Proof.Machine
end

section
/-! SUPPORT. A report that crosses a bridge: a Holt port fails for the third time while the system ring lies behind a bridge that is UP, and the record's flits move the bridge's
counters. -/

namespace Sys2Proof.Machine

open Sys2Proof

/-! ## A flit that fails for the third time -/

/-- A flit that fails in a state that verifies flits, after two that have failed, takes the port to FAILED (R26). -/
theorem State.flitReceive_third {s : State} {l : Nat} {flit : List Byte} (hs : ((s.link l).st = .up ∧ (s.link l).rx < 2 ^ 62) ∨ (s.link l).st = .drain ∨ (s.link l).st = .refuse)
    (hg : ¬ gcmTag (s.link l).key (flitNonce (s.link l).rxId (s.link l).rx) [] (flit.take 240) = flit.drop 240) (hf : 2 ≤ (s.link l).fails) :
    s.flitReceive l flit = (s.updLink l (fun x => { x with fails := x.fails + 1, asks := x.asks ++ [x.rx] })).linkFail l (s.link l).rx := by
  unfold State.flitReceive
  dsimp only
  rw [if_pos hs, if_neg hg, if_pos (by omega)]

/-! ## Ways over a bridge -/

/-- The way over a bridge whose ends are UP, with nothing before the access, no island that changes and room under the keys, is clear. -/
theorem State.way_clear {s : State} {a b : Node} (ha : ∀ e ∈ s.ctl.agenda, e.route s = none) (hi : s.changing (wayIslands (a, b)) = false) (hs : nodeStack a ≠ nodeStack b)
    (hl : ∀ l ∈ [bridgeEnd (nodeStack a) (nodeStack b), bridgeEnd (nodeStack b) (nodeStack a)], (s.link l).st = .up ∧ (s.link l).tx + 2 ^ 32 ≤ 2 ^ 62 ∧ s.flying (linkId l) = false) :
    s.way a b = .clear := by
  obtain ⟨u1, r1, f1⟩ := hl _ List.mem_cons_self
  obtain ⟨u2, r2, f2⟩ := hl _ (List.mem_cons_of_mem _ List.mem_cons_self)
  unfold State.way
  refine (if_neg ?behind).trans ?_
  case behind =>
    rw [List.any_eq_true]
    rintro ⟨e, he, h⟩
    rw [ha e he] at h
    cases h
  rw [if_neg (by rw [hi]; decide), if_neg hs, if_neg (by rw [u1]; decide), State.lets_of_up u1 r1 f1, State.lets_of_up u2 r2 f2]
  rfl

/-- A record whose ring's line is ready goes the way to its line's home; what follows leaves the package. -/
theorem State.ringPut_of_ready {s : State} {e : RingEntry} (hw : s.ten.evWait = []) (hr : s.storeReady e.addr e.bytes.length = true) (h0 : e.bytes ≠ [])
    (h1 : e.bytes.length ≤ 128 - e.addr % 128) (hm : isMapped e.addr = true) (ho : s.outsider (s.devTx e.addr e.bytes e.irq) = none)
    (hc : s.way deviceNode (lineNode (lineOf e.addr)) ≠ .cut) :
    (s.ringPut e).pkg = ((s.withDevTx e.addr e.bytes e.irq).reach deviceNode (lineNode (lineOf e.addr))).1.pkg := by
  have line : linesOf e.addr e.bytes.length = [lineOf e.addr] := by
    have : 0 < e.bytes.length := List.length_pos_iff.mpr h0
    have : (e.addr + e.bytes.length - 1) / 128 - e.addr / 128 = 0 := by omega
    rw [linesOf, this]
    simp [lineOf]
  have ready : ((s.mscFill (lineOf e.addr)).2 && s.lineReady (lineOf e.addr) && (s.halvesMissing e.addr e.bytes.length true).isEmpty) = true := by
    unfold State.storeReady State.storeReadyAt at hr
    rw [hm, line] at hr
    simpa [State.lineReady, and_comm] using hr
  have put : s.ringPut e = s.devStoreLine e.addr e.bytes e.irq := by
    unfold State.ringPut State.devStore State.devStoreN
    rw [if_pos (by rw [hw, hr]; rfl), if_neg (by simp [h0])]
    exact if_pos h1
  rw [put]
  exact State.devStoreLine_of_ready hm ho hc ready

/-- The entry of the system ring that a record makes (R65). -/
def State.systemEntry (s : State) (source code : Nat) (fs : List (Nat × Nat × Nat)) : RingEntry :=
  let tseq := (nget 0 s.ten.tseq 256 + 1) % 2 ^ 32
  { ring := 256, addr := s.ten.sysevr.toNat / 2 ^ 15 * 2 ^ 15 + 32 * ((tseq + 1023) % 1024), bytes := eventEntry (s.ten.serial + 1) tseq code source (eventData fs), irq := none }

theorem State.logEvent_system {s : State} (h : bit s.ten.sysevr.toNat 0 = true) (source code : Nat) (fs : List (Nat × Nat × Nat)) :
    s.logEvent 256 source code none fs = (s.stamped 256).ringPut (s.systemEntry source code fs) := if_pos h

/-! ## The state -/

/-- Holt port 3 is UP and has failed twice, the system ring is set up behind the bridge from stack 0 to stack 1, and the bridge is UP. -/
def portFailing : State :=
  { State.reset with
    ten.sysevr := 0x10001,
    pkg.links := modAt (modAt (modAt State.reset.pkg.links 3 (fun x => { x with st := .up, fails := 2 })) 16 (fun x => { x with st := .up })) 19 (fun x => { x with st := .up }) }

/-- A flit whose tag is too long to verify. -/
def badFlit : List Byte := zeros 240 ++ 0 :: gcmTag [] (flitNonce 0 0) [] (zeros 240)

theorem badFlit_fails : ¬ gcmTag [] (flitNonce 0 0) [] (badFlit.take 240) = badFlit.drop 240 := by
  have hl : (zeros 240).length = 240 := List.length_replicate
  rw [badFlit, List.take_left' hl, List.drop_left' hl]
  exact List.ne_cons_self

/-- The state once that flit has come in and is asked for again. -/
def portAsking : State := (portFailing.hears (.flitReceive 3 badFlit)).updLink 3 (fun x => { x with fails := x.fails + 1, asks := x.asks ++ [x.rx] })

/-- The state once the port is in FAILED and its record is stamped. -/
def portFailed : State := (portAsking.setLink 3 .failed).stamped 256

/-- The record of the failure, for the first place of the system ring. -/
def failRecord : RingEntry := { ring := 256, addr := 0x10000, bytes := eventEntry 1 1 0x46 0x13 (eventData [(24, 8, 0), (22, 2, 0x13)]), irq := none }

/-- The failure's record is put into the system ring. -/
theorem portAsking_failReported : portAsking.failReported 3 0 = portFailed.ringPut failRecord := by
  refine (State.logEvent_system (by decide) _ _ _).trans ?_
  rw [show failRecord = (portAsking.setLink 3 .failed).systemEntry (srcLink (linkId 3)) 0x46 [(24, 8, 0), (22, 2, srcLink (linkId 3))] from by decide]
  rfl

theorem failRecord_length : failRecord.bytes.length = 32 := by decide

theorem portFailed_way : portFailed.way deviceNode (lineNode 512) = .clear := State.way_clear (by decide) (by decide) (by decide) (by decide)

theorem portFailed_withDevTx_way : (portFailed.withDevTx 0x10000 failRecord.bytes none).way deviceNode (lineNode 512) = .clear :=
  State.way_clear (by decide) (by decide) (by decide) (by decide)

theorem portFailed_ready : portFailed.storeReady 0x10000 32 = true := by
  have rest : (!portFailed.storeDue 512 && !portFailed.recording 512 && !portFailed.lineOpen 512 && (portFailed.mscFill 512).2 && (portFailed.halvesMissing 0x10000 32 true).isEmpty) = true := by decide
  unfold State.storeReady State.storeReadyAt State.lineReadyAt
  rw [show linesOf 0x10000 32 = [512] from by decide]
  rw [Bool.or_eq_true]
  right
  simpa [portFailed_way] using rest

/-- The record crosses the bridge: the bridge's send counter is no longer 0. -/
theorem portFailed_ringPut_tx : 0 < ((portFailed.ringPut failRecord).link 16).tx := by
  have h := State.ringPut_of_ready (s := portFailed) (e := failRecord) rfl (by rw [failRecord_length]; exact portFailed_ready) (by decide) (by decide) (by decide) (by decide)
    (by rw [show lineNode (lineOf failRecord.addr) = lineNode 512 from rfl, portFailed_way]; decide)
  have k := State.reach_tx_lt (m := 19) portFailed_withDevTx_way (by decide) rfl (by decide)
  rw [State.link, h]
  exact Nat.lt_of_le_of_lt (Nat.zero_le _) k

theorem portAsking_linkFail_tx : 0 < ((portAsking.linkFail 3 0).link 16).tx := by
  have raised := portFailed_ringPut_tx
  rw [← portAsking_failReported] at raised
  have goOn := portAsking.failReported_goOn 3 0 16
  exact Nat.lt_of_lt_of_le raised goOn.1

/-- The flit that comes in fails the port. -/
theorem portFailing_flitReceive : (portFailing.hears (.flitReceive 3 badFlit)).flitReceive 3 badFlit = portAsking.linkFail 3 0 :=
  State.flitReceive_third (s := portFailing.hears (.flitReceive 3 badFlit)) (.inl (by decide)) badFlit_fails (by decide)

/-- Refutes O34: of the statement's links that a third failure leaves as they were, the bridge that the failure's record crosses is not one. Holt port 3 of portFailing is UP and
has failed twice; FLIT_RECEIVE of a flit that does not verify takes it to FAILED and reports it (R26, R28), the system ring lies behind the bridge from stack 0 to stack 1, and the
record's flits raise that bridge's send counter (R25, R26) from 0. -/
theorem not_flitEvents : ¬ Obligations.FlitEvents := by
  intro h
  obtain ⟨-, -, -, -, -, -, -, -, -, -, -, -, third, -⟩ := h portFailing 3 0 [] badFlit
  obtain ⟨-, t, ht, -, -, others, -⟩ := third (.inl (by decide)) badFlit_fails (by decide) (by decide) (by decide) (by decide)
  have failed : t = portAsking.linkFail 3 0 := (Host.Outcome.next.inj ht).symm.trans portFailing_flitReceive
  have raised := portAsking_linkFail_tx
  rw [← failed, others 16 (by decide) (by decide)] at raised
  exact absurd raised (by decide)

end Sys2Proof.Machine
end

section
/-! SUPPORT. What a home's MSC slice does to the state when it takes a line. -/

namespace Sys2Proof.Machine

open Sys2Proof

/-- t is s but for the lines that MSC slices hold and the messages under way. -/
def State.Placed (s t : State) : Prop := ∃ a ms pl, t = { s with ctl.agenda := a, coh.msc := ms, coh.mplru := pl }

theorem State.mscUse_eq (s : State) (line : Nat) : ∃ pl, s.mscUse line = { s with coh.mplru := pl } := by
  unfold State.mscUse
  split
  · exact ⟨_, rfl⟩
  · exact ⟨_, rfl⟩

/-- A line that has its place in the MSC slice: nothing else has changed. -/
theorem State.mscFill_of_snd {s : State} {line : Nat} (h : (s.mscFill line).2 = true) : ∃ ms pl, (s.mscFill line).1 = { s with coh.msc := ms, coh.mplru := pl } := by
  unfold State.mscFill at h ⊢
  split
  · obtain ⟨pl, e⟩ := s.mscUse_eq line
    exact ⟨_, pl, e⟩
  · next hn =>
    rw [if_neg hn] at h
    dsimp only at h ⊢
    split
    · next w hw =>
      obtain ⟨pl, e⟩ := State.mscUse_eq { s with coh.msc := s.coh.msc ++ [{ line := line, way := w, dirty := false }] } line
      exact ⟨_, pl, e⟩
    · next hw =>
      rw [hw] at h
      dsimp only at h
      split at h
      · cases h
      · split at h <;> cases h

/-- A line that must wait for its place: at most a victim has been chosen. -/
theorem State.mscFill_of_not_snd {s : State} {line : Nat} (h : (s.mscFill line).2 = false) : ∃ a, (s.mscFill line).1 = { s with ctl.agenda := a } := by
  unfold State.mscFill at h ⊢
  split
  · next hy =>
    rw [if_pos hy] at h
    cases h
  · next hn =>
    rw [if_neg hn] at h
    dsimp only at h ⊢
    split
    · next w hw =>
      rw [hw] at h
      cases h
    · split
      · exact ⟨_, rfl⟩
      · split <;> exact ⟨_, rfl⟩

theorem State.mscFill_placed (s : State) (line : Nat) : s.Placed (s.mscFill line).1 := by
  cases h : (s.mscFill line).2 with
  | false =>
    obtain ⟨a, e⟩ := State.mscFill_of_not_snd h
    exact ⟨a, _, _, e⟩
  | true =>
    obtain ⟨ms, pl, e⟩ := State.mscFill_of_snd h
    exact ⟨_, ms, pl, e⟩

theorem State.mscFill_host (s : State) (line : Nat) : (s.mscFill line).1.host = s.host := by
  obtain ⟨_, _, _, e⟩ := s.mscFill_placed line
  rw [e]

/-- Whether a line finds its place in its home's MSC slice: the slice holds it already, or has a way free. -/
theorem State.mscFill_snd (s : State) (line : Nat) : (s.mscFill line).2 =
    (isCellar (128 * line) || (s.mscAt line).isSome || ((List.range 16).find? (fun w => !(s.mscHere line).any (fun m => m.way == w))).isSome) := by
  unfold State.mscFill
  by_cases h : (isCellar (128 * line) || (s.mscAt line).isSome) = true
  · rw [if_pos h, h, Bool.true_or]
  · rw [if_neg h, eq_false_of_ne_true h, Bool.false_or]
    dsimp only
    split
    · next hw => rw [hw]; rfl
    · next hw =>
      rw [hw]
      split
      · rfl
      · split <;> rfl

end Sys2Proof.Machine
end

section
/-! SUPPORT. Boot and recovery: what the ROM's steps come to (R49, R51), what loading the image leaves of the state and which lines it pins. -/

namespace Sys2Proof.Machine

open Sys2Proof

/-! ## The image in memory -/

/-- t is s but for the lines that caches and the host's halves hold, the words of memory that are poisoned, and messages; what was pinned stays so. -/
def State.Holds (s t : State) : Prop := ∃ a m h k, (∀ x ∈ s.coh.pins, x ∈ k.pins) ∧ t = { s with ctl.agenda := a, mm := m, host.halves := h, coh := k }

theorem State.Holds.refl (s : State) : s.Holds s := ⟨_, _, _, _, fun _ h => h, rfl⟩

theorem State.Holds.trans {s t u : State} (h : s.Holds t) (k : t.Holds u) : s.Holds u := by
  obtain ⟨_, _, _, _, p, rfl⟩ := h
  obtain ⟨_, _, _, _, q, rfl⟩ := k
  exact ⟨_, _, _, _, fun x hx => q x (p x hx), rfl⟩

theorem State.Holds.foldl {β : Type} {f : State → β → State} (h : ∀ s x, State.Holds s (f s x)) (l : List β) (s : State) : s.Holds (l.foldl f s) :=
  List.foldlRecOn (motive := fun t => s.Holds t) l f (.refl s) (fun _ ht x _ => ht.trans (h _ x))

theorem State.Holds.ite {s t u : State} {c : Prop} [Decidable c] (ht : s.Holds t) (hu : s.Holds u) : s.Holds (if c then t else u) := by
  split
  · exact ht
  · exact hu

theorem State.setPoison_holds (s : State) (w : Nat) (b : Bool) : s.Holds (s.setPoison w b) := ⟨_, _, _, _, fun _ h => h, rfl⟩

theorem State.setHalf_holds (s : State) (h : Nat) (x : Half) : s.Holds (s.setHalf h x) := ⟨_, _, _, _, fun _ h => h, rfl⟩

theorem State.mscFill_holds (s : State) (line : Nat) : s.Holds (s.mscFill line).1 := by
  obtain ⟨_, _, _, e⟩ := s.mscFill_placed line
  rw [e]
  refine ⟨_, _, _, _, ?_, rfl⟩
  exact fun _ h => h

/-- A line is pinned (R49). -/
def State.pinLine (s : State) (l : Nat) : State := if s.coh.pins.contains (l, 0) then s else { s with coh.pins := s.coh.pins ++ [(l, 0)] }

theorem State.pinLine_holds (s : State) (l : Nat) : s.Holds (s.pinLine l) := .ite (.refl s) ⟨_, _, _, _, fun _ h => List.mem_append_left _ h, rfl⟩

theorem State.mem_pinLine (s : State) (l : Nat) : (l, 0) ∈ (s.pinLine l).coh.pins := by
  unfold State.pinLine
  split
  · next h => exact List.contains_iff_mem.mp h
  · exact List.mem_append_right _ List.mem_cons_self

/-- One half of a line of the image, granted shared (R49). -/
def State.shareHalf (s : State) (h : Nat) : State := if s.half h = .I then s.setHalf h .S else s

theorem State.shareHalf_holds (s : State) (h : Nat) : s.Holds (s.shareHalf h) := .ite (s.setHalf_holds h .S) (.refl s)

/-- One line of the image comes into its slice. -/
def State.loadLine (s : State) (l : Nat) : State :=
  (((((List.range 16).foldl (fun (s : State) w => s.setPoison (16 * l + w) false) s).shareHalf (2 * l)).shareHalf (2 * l + 1)).mscFill l).1.pinLine l

theorem State.loadImage_eq (s : State) (body : List Byte) :
    s.loadImage body = ((List.range (body.length / 128)).map (fun i => lineOf s.bodyAt + i)).foldl State.loadLine (s.putBytes s.bodyAt body) := rfl

theorem State.loadLine_holds (s : State) (l : Nat) : s.Holds (s.loadLine l) :=
  ((((State.Holds.foldl (fun t _ => t.setPoison_holds _ _) _ s).trans (State.shareHalf_holds _ _)).trans (State.shareHalf_holds _ _)).trans
    (State.mscFill_holds _ l)).trans (State.pinLine_holds _ l)

/-- Every line that has been loaded is pinned. -/
theorem State.mem_loadLines {ls : List Nat} {l : Nat} (h : l ∈ ls) (s : State) : (l, 0) ∈ (ls.foldl State.loadLine s).coh.pins := by
  induction ls generalizing s with
  | nil => cases h
  | cons x t ih =>
    rcases List.mem_cons.mp h with rfl | h
    · obtain ⟨_, _, _, _, kept, e⟩ := State.Holds.foldl (fun u k => u.loadLine_holds k) t (s.loadLine l)
      rw [List.foldl_cons, e]
      exact kept _ (State.mem_pinLine _ l)
    · exact ih h _

/-- The image is in memory, and nothing changes but what holds it (R49). -/
theorem State.loadImage_holds (s : State) (body : List Byte) : (s.putBytes s.bodyAt body).Holds (s.loadImage body) :=
  State.Holds.foldl (fun t l => t.loadLine_holds l) _ _

theorem State.mem_loadImage (s : State) (body : List Byte) {i : Nat} (h : i < body.length / 128) : (lineOf s.bodyAt + i, 0) ∈ (s.loadImage body).coh.pins :=
  State.mem_loadLines (List.mem_map.mpr ⟨i, List.mem_range.mpr h, rfl⟩) _

/-! ## The ROM's steps -/

/-- A branch behind a check that passes. -/
theorem ite_not_of_true {α : Type} {c : Bool} {a b : α} (h : c = true) : (if !c then a else b) = b := by rw [h]; rfl

/-- The branch of a check that fails. -/
theorem ite_not_of_false {α : Type} {c : Bool} {a b : α} (h : c = false) : (if !c then a else b) = a := by rw [h]; rfl

/-- A branch behind two checks that pass. -/
theorem ite_not_or_of_true {α : Type} {c d : Bool} {a b : α} (hc : c = true) (hd : d = true) : (if !c || !d then a else b) = b := by rw [hc, hd]; rfl

theorem State.romAt_of {s : State} {n : Nat} (h : s.host.step = n) (hs : s.host.stopped = false) : s.romAt n = true := by simp [State.romAt, h, hs]

theorem State.bodyOk_length {s : State} {b : List Byte} (h : s.bodyOk b = true) : b.length = s.host.body := by
  unfold State.bodyOk at h
  rw [Bool.and_eq_true, beq_iff_eq] at h
  exact h.1

/-- A Hearth core that is released is in machine mode at ENTRY (R49). -/
theorem mem_map_start {x : Hearth} {l : List Hearth} {pc : Nat} (h : x ∈ l.map (fun (y : Hearth) => y.start pc)) : x.pc = pc ∧ x.mode = .machine := by
  obtain ⟨_, -, rfl⟩ := List.mem_map.mp h
  exact ⟨rfl, rfl⟩

/-- The body that the header names completes steps 5 and 6 (R49). -/
theorem happens_bootBodyFetched {s : State} {b : List Byte} (hs : s.host.stopped = false) (h4 : s.host.step = 4) (hc : s.isCxl 0 = true) (ok : s.bodyOk b = true) :
    Happens .bootBodyFetched (.bootBodyFetched b) s (fun t => t.host.step = 6 ∧ t.host.held = false ∧ t.host.svn = fieldOf s.host.header 6 2 ∧
      t.host.meas = modAt s.host.meas 3 (fun m => sm3 (m ++ cut s.host.header 16 32)) ∧ t.mem = Memory.putAll s.mem s.bodyAt b ∧
      (∀ x ∈ t.host.hearth, x.pc = s.entryPc ∧ x.mode = .machine) ∧ ∀ i, i < b.length / 128 → (lineOf s.bodyAt + i, 0) ∈ t.coh.pins) := by
  have whole : b.take (s.hears (.bootBodyFetched b)).host.body = b := List.take_of_length_le (Nat.le_of_eq (State.bodyOk_length ok))
  obtain ⟨_, _, _, _, -, loaded⟩ := (s.hears (.bootBodyFetched b)).loadImage_holds b
  have pinned {i : Nat} := (s.hears (.bootBodyFetched b)).mem_loadImage b (i := i)
  rw [loaded] at pinned
  refine ⟨rfl, _, congrArg Host.Outcome.next ((ite_not_or_of_true (State.romAt_of h4 hs) hc).trans (ite_not_of_true ok)), ?_⟩
  rw [whole, loaded]
  exact ⟨rfl, rfl, rfl, rfl, rfl, fun x hx => mem_map_start hx, fun i hi => pinned hi⟩

/-- Another body stops the ROM (R49). -/
theorem happens_bootBodyFetched_bad {s : State} {b : List Byte} (hs : s.host.stopped = false) (h4 : s.host.step = 4) (hc : s.isCxl 0 = true) (bad : s.bodyOk b = false) :
    Happens .bootBodyFetched (.bootBodyFetched b) s (fun t => t.host.fail = 7 ∧ t.host.stopped = true ∧ t.host.held = s.host.held) := by
  obtain ⟨_, _, _, _, -, loaded⟩ := (s.hears (.bootBodyFetched b)).loadImage_holds (b.take s.host.body)
  refine ⟨rfl, _, congrArg Host.Outcome.next ((ite_not_or_of_true (State.romAt_of h4 hs) hc).trans (ite_not_of_false bad)), rfl, rfl, ?_⟩
  exact (congrArg (fun t : State => t.host.held) loaded :)

/-- A header at step 4: the ROM goes on, or stops with the header's code (R49). -/
theorem State.headerStep_eq (s : State) (b : List Byte) :
    (match s.headerCode b with | 0 => (({ s with host.header := b, host.body := bodyLen b }).extend 2 (sm3 b)).bootStep 4 | c => s.bootFail c) =
      if s.headerCode b = 0 then ({ s with host.header := b, host.body := fieldOf b 8 4 }.extend 2 (sm3 b)).bootStep 4 else s.bootFail (s.headerCode b) := by
  cases s.headerCode b <;> rfl

/-- Settles O37, step by step. -/
theorem bootEvents : Obligations.BootEvents := by
  intro s b l hs
  refine ⟨fun h0 hl hc => ?start, fun h0 hl => ?badLocator, fun h2 hc => ?cxl, fun h2 hw => ?timeout, fun h3 hc => ?header, fun h4 hc => ⟨fun ok => ?body, fun bad => ?badBody⟩, fun h6 hh => ?ready, fun hp hh => ?ue,
    fun hr hc => ⟨fun ok => ?reloaded, fun bad => ?differs⟩⟩
  case start => exact ⟨rfl, congrArg Host.Outcome.next ((ite_not_of_true (State.romAt_of h0 hs)).trans ((ite_not_of_true hl).trans (if_neg fun e => Bool.false_ne_true (hc.symm.trans e))))⟩
  case badLocator => exact ⟨rfl, congrArg Host.Outcome.next ((ite_not_of_true (State.romAt_of h0 hs)).trans (ite_not_of_false hl))⟩
  case cxl => exact .of_pos (c := (s.romAt 2 && s.isCxl 0) = true) (by rw [State.romAt_of h2 hs, hc]; rfl) rfl rfl
  case timeout => exact .of_pos (c := (s.romAt 2 && s.host.waitCxl) = true) (by rw [State.romAt_of h2 hs, hw]; rfl) rfl rfl
  case header => exact ⟨rfl, congrArg Host.Outcome.next ((ite_not_or_of_true (State.romAt_of h3 hs) hc).trans (State.headerStep_eq _ b))⟩
  case body => exact happens_bootBodyFetched hs h4 hc ok
  case badBody => exact happens_bootBodyFetched_bad hs h4 hc bad
  case ready => exact .of_pos (c := (s.romAt 6 && !s.host.halted) = true) (by rw [State.romAt_of h6 hs, hh]; rfl) rfl rfl
  case ue => exact .of_pos (c := (s.coh.pins.contains (l, 0) && !s.host.halted) = true) (by rw [List.contains_iff_mem.mpr hp, hh]; rfl) rfl rfl
  case reloaded => exact ⟨rfl, congrArg Host.Outcome.next ((ite_not_or_of_true hr hc).trans (if_pos ok))⟩
  case differs => exact ⟨rfl, congrArg Host.Outcome.next ((ite_not_or_of_true hr hc).trans (if_neg fun e => Bool.false_ne_true (bad.symm.trans e)))⟩

end Sys2Proof.Machine
end

section
/-! SUPPORT. What the device's own writes leave of the state: tenants, translation, scheduling, cores, engines and the notice board. -/

namespace Sys2Proof.Machine

open Sys2Proof

/-- t is s but for messages, memory and its marks, caches, copy aliases, the host bridge and the links. -/
def State.Writes (s t : State) : Prop := ∃ c m mm p h k a, t = { s with ctl := c, mem := m, mm := mm, pkg := p, host := h, coh := k, ali := a }

namespace State.Writes

theorem refl (s : State) : s.Writes s := ⟨_, _, _, _, _, _, _, rfl⟩

theorem trans {s t u : State} (h : s.Writes t) (k : t.Writes u) : s.Writes u := by
  obtain ⟨_, _, _, _, _, _, _, rfl⟩ := h
  obtain ⟨_, _, _, _, _, _, _, rfl⟩ := k
  exact ⟨_, _, _, _, _, _, _, rfl⟩

theorem ten {s t : State} (h : s.Writes t) : t.ten = s.ten := by obtain ⟨_, _, _, _, _, _, _, rfl⟩ := h; rfl

theorem ite {s t u : State} {c : Prop} [Decidable c] (ht : s.Writes t) (hu : s.Writes u) : s.Writes (if c then t else u) := by
  split
  · exact ht
  · exact hu

theorem foldl {β : Type} {f : State → β → State} (h : ∀ s x, State.Writes s (f s x)) (l : List β) (s : State) : s.Writes (l.foldl f s) :=
  List.foldlRecOn (motive := fun t => s.Writes t) l f (refl s) (fun _ ht x _ => ht.trans (h _ x))

theorem of_sent {s t : State} (h : s.Sent t) : s.Writes t := by
  obtain ⟨_, _, _, _, rfl⟩ := h
  exact ⟨_, _, _, _, _, _, _, rfl⟩

theorem of_placed {s t : State} (h : s.Placed t) : s.Writes t := by
  obtain ⟨_, _, _, rfl⟩ := h
  exact ⟨_, _, _, _, _, _, _, rfl⟩

end State.Writes

/-! ## A home's writes -/

theorem State.send_writes (s : State) (e : Ev) : s.Writes (s.send e) := ⟨_, _, _, _, _, _, _, rfl⟩
theorem State.toHost_writes (s : State) (m : HostMsg) : s.Writes (s.toHost m) := ⟨_, _, _, _, _, _, _, rfl⟩
theorem State.setPoison_writes (s : State) (w : Nat) (b : Bool) : s.Writes (s.setPoison w b) := ⟨_, _, _, _, _, _, _, rfl⟩
theorem State.setHalf_writes (s : State) (h : Nat) (x : Half) : s.Writes (s.setHalf h x) := ⟨_, _, _, _, _, _, _, rfl⟩
theorem State.mscDirty_writes (s : State) (line : Nat) : s.Writes (s.mscDirty line) := ⟨_, _, _, _, _, _, _, rfl⟩
theorem State.updTx_writes (s : State) (id : Nat) (f : Tx → Tx) : s.Writes (s.updTx id f) := ⟨_, _, _, _, _, _, _, rfl⟩
theorem State.settleDev_writes (s : State) (id : Nat) : s.Writes (s.settleDev id) := ⟨_, _, _, _, _, _, _, rfl⟩

theorem State.materialiseLine_writes (s : State) (e : Alias) (line : Nat) : s.Writes (s.materialiseLine e line) := by
  unfold State.materialiseLine
  refine .trans (.trans ?bytes (.foldl (fun t w => .ite (t.setPoison_writes _ _) (.refl t)) _ _)) ⟨_, _, _, _, _, _, _, rfl⟩
  split
  · exact ⟨_, _, _, _, _, _, _, rfl⟩
  · split
    · exact ⟨_, _, _, _, _, _, _, rfl⟩
    · exact .refl s

theorem State.materialise_writes (s : State) (e : Alias) (lines : List Nat) : s.Writes (s.materialise e lines) := by
  refine .foldl (fun t l => ?_) _ _
  split
  · exact t.materialiseLine_writes ..
  · exact .refl t

theorem State.destWrite_writes (s : State) (line : Nat) : s.Writes (s.destWrite line) := .foldl (fun t e => t.materialise_writes e _) _ _

theorem State.failLine_writes (s : State) (wtag line : Nat) : s.Writes (s.failLine wtag line) := .ite ⟨_, _, _, _, _, _, _, rfl⟩ (.refl s)

theorem State.srcMaterialise_writes (s : State) (home line : Nat) : s.Writes (s.srcMaterialise home line) := by
  unfold State.srcMaterialise
  exact .trans (.trans (.foldl (fun t p => t.failLine_writes ..) _ _) ⟨_, _, _, _, _, _, _, rfl⟩) (.foldl (fun t e => t.materialise_writes e _) _ _)

theorem State.srcWriteNow_writes (s : State) (line : Nat) : s.Writes (s.srcWriteNow line) :=
  .trans (.foldl (fun t m => t.srcMaterialise_writes m line) _ s) ⟨_, _, _, _, _, _, _, rfl⟩

theorem State.snoopHost_writes (s : State) (line : Nat) (p : Patch) : s.Writes (s.snoopHost line p) := .foldl (fun _ _ => ⟨_, _, _, _, _, _, _, rfl⟩) _ _

theorem State.dropResv_writes (s : State) (line : Nat) : s.Writes (s.dropResv line) := .ite ⟨_, _, _, _, _, _, _, rfl⟩ (.refl s)

theorem State.dirtyHalves_writes (s : State) (line : Nat) (p : Patch) : s.Writes (s.dirtyHalves line p) := .ite (.foldl (fun t _ => t.setHalf_writes _ _) _ _) (.refl s)

theorem State.applyPatch_writes (s : State) (line : Nat) (p : Patch) (pois : List Nat) : s.Writes (s.applyPatch line p pois) := by
  unfold State.applyPatch
  have stored : s.Writes ((s.snoopHost line p).dropResv line) := (s.snoopHost_writes line p).trans (State.dropResv_writes _ line)
  refine .trans (.trans (.trans (stored.trans ?_) (.foldl (fun t w => t.setPoison_writes _ _) _ _)) (.foldl (fun t w => t.setPoison_writes _ _) _ _)) (State.dirtyHalves_writes ..)
  exact ⟨_, _, _, _, _, _, _, rfl⟩

theorem State.nbTake_writes (s : State) (line : Nat) (p : Patch) : s.Writes (s.nbTake line p) := .ite (s.send_writes _) (.refl s)

theorem State.homeUpdates_writes (s : State) (t : Tx) : s.Writes (s.homeUpdates t) := .ite ⟨_, _, _, _, _, _, _, rfl⟩ ⟨_, _, _, _, _, _, _, rfl⟩

theorem State.raiseMsi_writes (s : State) (v : Option (Nat × Nat × Nat)) : s.Writes (s.raiseMsi v) := by
  unfold State.raiseMsi
  split
  · exact .ite (.refl s) (s.toHost_writes _)
  · exact .refl s

theorem State.homeWrite_writes (s : State) (t : Tx) (irq : Option (Nat × Nat × Nat)) : s.Writes (s.homeWrite t irq) := by
  have stored : s.Writes (((s.destWrite t.line).srcWriteNow t.line).applyPatch t.line t.bytes []) :=
    ((s.destWrite_writes _).trans (State.srcWriteNow_writes ..)).trans (State.applyPatch_writes ..)
  have taken := ((stored.trans (State.mscDirty_writes _ t.line)).trans (State.updTx_writes _ t.id (fun t => { t with atHome := true, irq := none }))).trans (State.nbTake_writes _ t.line t.bytes)
  exact ((taken.trans (State.homeUpdates_writes _ t)).trans (State.raiseMsi_writes _ irq)).trans (State.settleDev_writes _ t.id)

/-! ## Writes by the device -/

theorem State.withDevTx_writes (s : State) (pa : Nat) (bytes : List Byte) (irq : Option (Nat × Nat × Nat)) : s.Writes (s.withDevTx pa bytes irq) :=
  .trans (.of_placed (s.mscFill_placed (lineOf pa))) ⟨_, _, _, _, _, _, _, rfl⟩

theorem State.devStoreLine_writes (s : State) (pa : Nat) (bytes : List Byte) (irq : Option (Nat × Nat × Nat)) : s.Writes (s.devStoreLine pa bytes irq) := by
  have across : s.Writes ((s.withDevTx pa bytes irq).reach deviceNode (lineNode (lineOf pa))).1 := (s.withDevTx_writes pa bytes irq).trans (.of_sent (State.reach_sent _ _ _))
  unfold State.devStoreLine
  refine .ite ⟨_, _, _, _, _, _, _, rfl⟩ ?_
  dsimp only
  split
  · exact .trans ⟨_, _, _, _, _, _, _, rfl⟩ (State.raiseMsi_writes _ irq)
  · refine .ite (s.raiseMsi_writes irq) (.ite (.ite ?lost ?stored) ((s.withDevTx_writes pa bytes irq).trans (State.send_writes _ _)))
    case lost => exact (across.trans ⟨_, _, _, _, _, _, _, rfl⟩).trans (State.raiseMsi_writes _ irq)
    case stored => exact across.trans (State.homeWrite_writes _ _ irq)

theorem State.devStoreN_writes (k : Nat) (s : State) (pa : Nat) (bytes : List Byte) (irq : Option (Nat × Nat × Nat)) : s.Writes (State.devStoreN k s pa bytes irq) := by
  induction k generalizing s pa bytes with
  | zero => exact .refl s
  | succ k ih =>
    unfold State.devStoreN
    exact .ite (s.devStoreLine_writes _ _ _) ((s.devStoreLine_writes _ _ _).trans (ih _ _ _))

theorem State.devStore_writes (s : State) (pa : Nat) (bytes : List Byte) (irq : Option (Nat × Nat × Nat)) : s.Writes (s.devStore pa bytes irq) :=
  .ite (s.raiseMsi_writes irq) (State.devStoreN_writes _ _ _ _ _)

end Sys2Proof.Machine
end

section
/-! SUPPORT. The bits of fields: a register written field by field is the value written under a mask. -/

namespace Sys2Proof.Machine

open Sys2Proof

theorem testBit_bits (x hi lo i : Nat) : (bits x hi lo).testBit i = (decide (i < hi + 1 - lo) && x.testBit (i + lo)) := by
  rw [bits, Nat.testBit_mod_two_pow, Nat.testBit_div_two_pow]

theorem testBit_setBits (x v i : Nat) {hi lo : Nat} (h : lo ≤ hi) :
    (setBits x hi lo v).testBit i = if lo ≤ i ∧ i ≤ hi then v.testBit (i - lo) else x.testBit i := by
  have split : 2 ^ lo * 2 ^ (hi + 1 - lo) = 2 ^ (hi + 1) := by rw [← Nat.pow_add]; congr 1; omega
  have low : x % 2 ^ lo < 2 ^ lo := Nat.mod_lt _ (Nat.two_pow_pos lo)
  have field : v % 2 ^ (hi + 1 - lo) < 2 ^ (hi + 1 - lo) := Nat.mod_lt _ (Nat.two_pow_pos _)
  have below : 2 ^ lo * (v % 2 ^ (hi + 1 - lo)) + x % 2 ^ lo < 2 ^ (hi + 1) := by
    calc 2 ^ lo * (v % 2 ^ (hi + 1 - lo)) + x % 2 ^ lo
      _ < 2 ^ lo * (v % 2 ^ (hi + 1 - lo) + 1) := by rw [Nat.mul_succ]; omega
      _ ≤ 2 ^ lo * 2 ^ (hi + 1 - lo) := Nat.mul_le_mul_left _ field
      _ = 2 ^ (hi + 1) := split
  have parts : setBits x hi lo v = 2 ^ (hi + 1) * (x / 2 ^ (hi + 1)) + (2 ^ lo * (v % 2 ^ (hi + 1 - lo)) + x % 2 ^ lo) := by
    rw [setBits, Nat.mul_comm (2 ^ (hi + 1)), Nat.mul_comm (2 ^ lo)]
    omega
  rw [parts, Nat.testBit_two_pow_mul_add _ below, Nat.testBit_two_pow_mul_add _ low, Nat.testBit_mod_two_pow, Nat.testBit_mod_two_pow, Nat.testBit_div_two_pow]
  by_cases h1 : i < lo
  · rw [if_pos (by omega), if_pos h1, if_neg (by omega), decide_eq_true h1, Bool.true_and]
  · by_cases h2 : i ≤ hi
    · rw [if_pos (by omega), if_neg h1, if_pos (by omega), decide_eq_true (by omega), Bool.true_and]
    · rw [if_neg (by omega), if_neg (by omega), Nat.sub_add_cancel (by omega)]

/-- A field copied at its own place. -/
theorem testBit_setBits_bits (x n i : Nat) {hi lo : Nat} (h : lo ≤ hi) :
    (setBits x hi lo (bits n hi lo)).testBit i = if lo ≤ i ∧ i ≤ hi then n.testBit i else x.testBit i := by
  rw [testBit_setBits _ _ _ h]
  refine ite_congr rfl (fun hi => ?_) fun _ => rfl
  rw [testBit_bits, Nat.sub_add_cancel hi.1, decide_eq_true (by omega), Bool.true_and]

theorem testBit_setBit (x k i : Nat) (b : Bool) : (setBit x k b).testBit i = if i = k then b else x.testBit i := by
  rw [setBit, testBit_setBits _ _ _ (Nat.le_refl k)]
  by_cases h : i = k
  · subst h
    rw [if_pos ⟨Nat.le_refl i, Nat.le_refl i⟩, if_pos rfl, Nat.sub_self]
    cases b <;> rfl
  · rw [if_neg (by omega), if_neg h]

/-- The bits from k on, at their places. -/
theorem testBit_div_mul (n k i : Nat) : (n / 2 ^ k * 2 ^ k).testBit i = (decide (k ≤ i) && n.testBit i) := by
  rw [Nat.testBit_mul_two_pow, Nat.testBit_div_two_pow]
  by_cases h : k ≤ i
  · rw [Nat.sub_add_cancel h]
  · rw [decide_eq_false h, Bool.false_and, Bool.false_and]

/-- A register that keeps the bits that p names. -/
theorem ofNat_eq_and {w x : Nat} {v mask : BitVec w} (p : Nat → Bool) (hm : ∀ i < w, mask.getLsbD i = p i) (hx : ∀ i < w, x.testBit i = (v.getLsbD i && p i)) :
    BitVec.ofNat w x = v &&& mask := by
  apply BitVec.eq_of_getLsbD_eq
  intro i hi
  rw [BitVec.getLsbD_ofNat, decide_eq_true hi, Bool.true_and, BitVec.getLsbD_and, hm i hi, hx i hi]

/-- A field alone, at its place. -/
theorem testBit_bits_mul (n hi lo i : Nat) : (bits n hi lo * 2 ^ lo).testBit i = (n.testBit i && (decide (lo ≤ i) && decide (i < hi + 1))) := by
  rw [Nat.testBit_mul_two_pow, testBit_bits, Bool.and_comm]
  by_cases h : lo ≤ i
  · rw [Nat.sub_add_cancel h, decide_eq_true h, Bool.true_and, Bool.and_true, Bool.and_comm]
    congr 1
    exact decide_eq_decide.mpr (by omega)
  · rw [decide_eq_false h, Bool.false_and, Bool.and_false, Bool.and_false]

theorem hdmField_eq (v : DWord) : hdmField v = v &&& 0xFFF0000000 :=
  ofNat_eq_and (fun i => decide (28 ≤ i) && decide (i < 40)) (by decide) fun i _ => testBit_bits_mul v.toNat 39 28 i

theorem ofNat_div_mul_23 (v : DWord) : BitVec.ofNat 64 (v.toNat / 2 ^ 23 * 2 ^ 23) = v &&& 0xFFFFFFFFFF800000 :=
  ofNat_eq_and (fun i => decide (23 ≤ i)) (by decide) fun i _ => (testBit_div_mul v.toNat 23 i).trans (Bool.and_comm ..)

theorem ofNat_div_mul_15 (v : DWord) : BitVec.ofNat 64 (v.toNat / 2 ^ 15 * 2 ^ 15) = v &&& 0xFFFFFFFFFFFF8000 :=
  ofNat_eq_and (fun i => decide (15 ≤ i)) (by decide) fun i _ => (testBit_div_mul v.toNat 15 i).trans (Bool.and_comm ..)

/-- A ring's place and its enable bit (R52, R65). -/
theorem ofNat_ringPlace (v : DWord) : BitVec.ofNat 64 (setBit (v.toNat / 2 ^ 15 * 2 ^ 15) 0 (bit v.toNat 0)) = v &&& 0xFFFFFFFFFFFF8001 := by
  refine ofNat_eq_and (fun i => decide (i = 0) || decide (15 ≤ i)) (by decide) fun i _ => ?_
  rw [testBit_setBit, testBit_div_mul, bit_toNat, BitVec.testBit_toNat]
  by_cases h : i = 0
  · simp [h]
  · simp [h, Bool.and_comm]

/-- VALID and HART (R36). -/
theorem ofNat_hartid (v : DWord) : BitVec.ofNat 32 (setBit (bits v.toNat 19 0) 31 (bit v.toNat 31)) = v.setWidth 32 &&& 0x800FFFFF := by
  refine ofNat_eq_and (fun i => decide (i = 31) || decide (i < 20)) (by decide) fun i hi => ?_
  rw [testBit_setBit, testBit_bits, bit_toNat, BitVec.testBit_toNat, BitVec.getLsbD_setWidth, decide_eq_true hi]
  by_cases h : i = 31
  · simp [h]
  · simp [h, Bool.and_comm]

/-- A pin's fields (R388), with EN as b. -/
def pinWord (n : Nat) (b : Bool) : Nat := setBit (setBits (setBits (bits n 16 0) 47 32 (bits n 47 32)) 56 48 (bits n 56 48)) 63 b

theorem testBit_pinWord (n i : Nat) (b : Bool) :
    (pinWord n b).testBit i = if i = 63 then b else n.testBit i && (decide (i < 17) || (decide (32 ≤ i) && decide (i < 57))) := by
  rw [pinWord, testBit_setBit, testBit_setBits_bits _ _ _ (by decide), testBit_setBits_bits _ _ _ (by decide), testBit_bits]
  refine ite_congr rfl (fun _ => rfl) fun _ => ?_
  by_cases h1 : 48 ≤ i ∧ i ≤ 56
  · rw [if_pos h1, decide_eq_true (show 32 ≤ i by omega), decide_eq_true (show i < 57 by omega)]
    simp
  · rw [if_neg h1]
    by_cases h2 : 32 ≤ i ∧ i ≤ 47
    · rw [if_pos h2, decide_eq_true (show 32 ≤ i by omega), decide_eq_true (show i < 57 by omega)]
      simp
    · have outside : (decide (32 ≤ i) && decide (i < 57)) = false := by
        rw [← Bool.decide_and, decide_eq_false (by omega)]
      rw [if_neg h2, outside, Bool.or_false, Bool.and_comm]
      rfl

theorem ofNat_pinWord (v : DWord) : BitVec.ofNat 64 (pinWord v.toNat (bit v.toNat 63)) = v &&& 0x81FFFFFF0001FFFF := by
  refine ofNat_eq_and (fun i => decide (i = 63) || (decide (i < 17) || (decide (32 ≤ i) && decide (i < 57)))) (by decide) fun i _ => ?_
  rw [testBit_pinWord, bit_toNat, BitVec.testBit_toNat]
  by_cases h : i = 63 <;> simp [h]

theorem ofNat_pinWord_off (v : DWord) : BitVec.ofNat 64 (pinWord v.toNat false) = v &&& 0x01FFFFFF0001FFFF := by
  refine ofNat_eq_and (fun i => decide (i < 17) || (decide (32 ≤ i) && decide (i < 57))) (by decide) fun i _ => ?_
  rw [testBit_pinWord, BitVec.testBit_toNat]
  by_cases h : i = 63 <;> simp [h]

end Sys2Proof.Machine
end

section
/-! SUPPORT. Writes to the management window and to the Hearth cores' registers: which event each offset becomes (R34), what a register keeps of the value written, and what the
fault entries held back for a Hearth core's ring do when its head moves (R44). -/

namespace Sys2Proof.Machine

open Sys2Proof

/-! ## The management window -/

section Window

variable {s : State} {v : DWord} {i : Nat}

theorem gives_registerWrite {off : Nat} {f : State → State} (h : (s.hears (.registerWrite off v)).windowWrite off v = f (s.hears (.registerWrite off v))) :
    Gives .registerWrite (.registerWrite off v) s f := ⟨rfl, congrArg Host.Outcome.next h⟩

theorem State.windowWrite_island (h : i < 24) : s.windowWrite (0xC500 + 8 * i) v = s.urge (.islandWrite i v) := by
  unfold State.windowWrite
  simp (disch := omega) only [if_neg, if_pos]
  rw [show (0xC500 + 8 * i - 0xC500) / 8 = i by omega]

theorem State.windowWrite_svcring (h : i < 256) : s.windowWrite (0xE800 + 8 * i) v = s.urge (.svcringWrite i v) := by
  unfold State.windowWrite
  simp (disch := omega) only [if_neg, if_pos]
  rw [show (0xE800 + 8 * i - 0xE800) / 8 = i by omega]

theorem State.windowWrite_record {k : Nat} (h : i < 256) (hk : k < 8) : s.windowWrite (0x8000 + 64 * i + 8 * k) v = s.recordEvents i k v := by
  unfold State.windowWrite
  simp (disch := omega) only [if_neg, if_pos]
  rw [show (0x8000 + 64 * i + 8 * k - 0x8000) / 64 = i by omega, show (0x8000 + 64 * i + 8 * k) % 64 / 8 = k by omega]

/-- STATE as a write of a record's first word asks for it (R53). -/
theorem State.recordEvents_first (s : State) (t : Nat) (v : DWord) : s.recordEvents t 0 v =
    s.urgeAll (.tenantRecordWrite t 0 v :: .tenantModesWrite t (v.toNat / 2 ^ 16 % 16) ::
      (if v.toNat % 4 = 0 then [.tenantSetOff t] else if v.toNat % 4 = 1 then [.tenantSetOn t] else [])) := by
  have state : bits v.toNat 1 0 = v.toNat % 4 := by
    rw [bits, Nat.pow_zero, Nat.div_one]
    rfl
  unfold State.recordEvents
  rw [state]
  match v.toNat % 4 with
  | 0 => rfl
  | 1 => rfl
  | _ + 2 => rfl

theorem State.recordEvents_other (s : State) (t : Nat) (v : DWord) {k : Nat} (h : k ≠ 0) : s.recordEvents t k v = s.urge (.tenantRecordWrite t k v) :=
  congrArg s.urgeAll (if_neg h)

theorem State.windowWrite_savebase (s : State) (v : DWord) :
    s.windowWrite 0xC040 v = if s.run.launches.isEmpty then { s with run.savebase := v &&& 0xFFFFFFFFFFFF8000 } else s := by
  rw [← ofNat_div_mul_15]
  rfl

/-- HARTID is written while no launch of a tenant in direct mode is left (R37). -/
theorem exec_hartidWrite (s : State) (v : DWord) : exec .hartidWrite (s.hears (.hartidWrite v)) =
    .next (if s.run.launches.any (fun l => !bit (s.tModes l.tenant) 0) then s.hears (.hartidWrite v)
      else { s.hears (.hartidWrite v) with host.hartid := v.setWidth 32 &&& 0x800FFFFF }) := by
  rw [← ofNat_hartid]
  rfl

/-- A pin with CORE of 384 or more leaves EN at 0 (R388). -/
theorem pinWord_eq (v : DWord) : BitVec.ofNat 64 (pinWord v.toNat (bit v.toNat 63 && decide (bits v.toNat 56 48 < 384))) =
    if (v.extractLsb' 48 9).toNat < 384 then v &&& 0x81FFFFFF0001FFFF else v &&& 0x01FFFFFF0001FFFF := by
  rw [← ofNat_pinWord, ← ofNat_pinWord_off, show (v.extractLsb' 48 9).toNat = bits v.toNat 56 48 from toNat_extractLsb' v 48 9]
  split
  · next h => rw [decide_eq_true h, Bool.and_true]
  · next h => rw [decide_eq_false h, Bool.and_false]

theorem gives_placepinWrite (s : State) (i : Nat) (v : DWord) : Gives .placepinWrite (.placepinWrite i v) s (fun s => { s with run.pins := modAt s.run.pins i (fun _ =>
    if (v.extractLsb' 48 9).toNat < 384 then v &&& 0x81FFFFFF0001FFFF else v &&& 0x01FFFFFF0001FFFF) }) := by
  refine ⟨rfl, ?_⟩
  rw [← pinWord_eq]
  rfl

end Window

/-! ## The rings of the Hearth cores -/

theorem State.ringBaseOk_iff (s : State) (h v : Nat) :
    s.ringBaseOk h v = true ↔ s.host.ready = false ∧ s.host.halted = false ∧ v % 4096 = 0 ∧ isHbm v = true ∧ homeOf v = h := by
  simp only [State.ringBaseOk, Bool.and_eq_true, Bool.not_eq_true', beq_iff_eq, and_assoc]

/-- What a write of an extent waits for does not depend on the heads of the rings, nor on the Hearth cores. -/
theorem State.storeReady_withHead (s : State) (m : NMap Nat) (hs : List Hearth) (pa n : Nat) :
    { s with ten.hfltHead := m, host.hearth := hs }.storeReady pa n = s.storeReady pa n := by
  unfold State.storeReady State.storeReadyAt
  simp only [State.mscFill_snd]
  rfl

@[simp] theorem State.extLower_ten (s : State) (h : Nat) : (s.extLower h).ten = s.ten := by
  unfold State.extLower
  split <;> rfl

/-- HFLTHEAD has moved: the interrupt is pending no more where the rings are empty (R44). -/
def State.headMoved (s : State) (h v : Nat) : State := { s with ten.hfltHead := nset 0 s.ten.hfltHead h v }.extLower h

theorem State.headMoved_hfltReady (s : State) (h v k : Nat) : (s.headMoved h v).hfltReady k = s.hfltReady k := by
  have same (hs : List Hearth) : { s with ten.hfltHead := nset 0 s.ten.hfltHead h v, host.hearth := hs }.hfltReady k = s.hfltReady k := s.storeReady_withHead _ hs _ _
  unfold State.headMoved State.extLower
  split
  · exact same _
  · exact same s.host.hearth

theorem State.hfltReady_hears (s : State) (e : Ev) (k : Nat) : (s.hears e).hfltReady k = s.hfltReady k := by
  unfold State.hfltReady State.storeReady State.storeReadyAt
  simp only [State.mscFill_snd]
  rfl

theorem State.headMoved_hfltWait (s : State) (h v : Nat) : (s.headMoved h v).ten.hfltWait = s.ten.hfltWait := by
  rw [State.headMoved, State.extLower_ten]

theorem State.headMoved_hfltFull (s : State) (h v : Nat) : (s.headMoved h v).hfltFull h = ((nget 0 s.ten.hfltTail h + 2 ^ 32 - v) % 2 ^ 32 == 1024) := by
  unfold State.hfltFull State.headMoved
  rw [State.extLower_ten, nget_nset_self]

theorem State.headMoved_hfltNext (s : State) (h v k : Nat) : (s.headMoved h v).hfltNext k = s.hfltNext k := by
  unfold State.hfltNext State.headMoved
  rw [State.extLower_ten]

/-- An entry put into a fault ring is not held back, and none other is let go. -/
@[simp] theorem State.hfltPut_hfltWait (s : State) (h : Nat) (e : List Byte) : (s.hfltPut h e).ten.hfltWait = s.ten.hfltWait := by
  have stored := (State.devStore_writes { s with ten.hfltTail := nset 0 s.ten.hfltTail h ((nget 0 s.ten.hfltTail h + 1) % 2 ^ 32) }
    (hfltAddr ((tget s.ten.hfltBase h).getD 0) (nget 0 s.ten.hfltTail h)) (overlay e 8 (leBytes 4 ((nget 0 s.ten.hfltTail h + 1) % 2 ^ 32))) none).ten
  exact (congrArg (fun t : TenS => t.hfltWait) stored :)

section Drain

variable {s : State} {h : Nat} {e : List Byte}

theorem State.hfltDrain_of_none (k : Nat) (hn : ∀ x ∈ s.ten.hfltWait, x.1 ≠ h) : State.hfltDrain k s h = s := by
  have none_ : s.ten.hfltWait.find? (fun w => w.1 == h) = none := List.find?_eq_none.mpr fun x hx => by simpa using hn x hx
  cases k with
  | zero => rfl
  | succ k =>
    unfold State.hfltDrain
    rw [none_]

/-- The one entry held back goes in where there is room and its line is there (R44). -/
theorem State.hfltDrain_of_ready (k : Nat) (hw : s.ten.hfltWait = [(h, e)]) (hf : s.hfltFull h = false) (hr : s.hfltReady h = true) :
    State.hfltDrain (k + 1) s h = { s with ten.hfltWait := [] }.hfltPut h e := by
  have found : s.ten.hfltWait.find? (fun w => w.1 == h) = some (h, e) := by rw [hw]; simp
  have rest : s.ten.hfltWait.erase (h, e) = [] := by rw [hw]; simp
  unfold State.hfltDrain
  rw [found]
  dsimp only
  rw [if_neg (by rw [hf]; decide), if_neg (by rw [hr]; decide), rest]
  exact State.hfltDrain_of_none k (by simp)

/-- Where its line is not there it is asked for. -/
theorem State.hfltDrain_of_not_ready (k : Nat) (hw : s.ten.hfltWait = [(h, e)]) (hf : s.hfltFull h = false) (hr : s.hfltReady h = false) :
    State.hfltDrain (k + 1) s h = s.storeNeed (s.hfltNext h) 32 := by
  have found : s.ten.hfltWait.find? (fun w => w.1 == h) = some (h, e) := by rw [hw]; simp
  unfold State.hfltDrain
  rw [found]
  dsimp only
  rw [if_neg (by rw [hf]; decide), if_pos (by rw [hr]; rfl)]

end Drain

section Heads

variable {s : State} {h v : Nat} {w : Word} {e : List Byte}

theorem State.putHfltHead_eq (s : State) (h v : Nat) : s.putHfltHead h v = State.hfltDrain (1023 + 1) (s.headMoved h v) h := rfl

theorem State.putHfltHead_of_none (hn : ∀ x ∈ s.ten.hfltWait, x.1 ≠ h) : s.putHfltHead h v = s.headMoved h v := by
  rw [State.putHfltHead_eq]
  exact State.hfltDrain_of_none _ (by rw [State.headMoved_hfltWait]; exact hn)

theorem State.putHfltHead_of_ready (hw : s.ten.hfltWait = [(h, e)]) (hf : (nget 0 s.ten.hfltTail h + 2 ^ 32 - v) % 2 ^ 32 ≠ 1024) (hr : s.hfltReady h = true) :
    s.putHfltHead h v = { s.headMoved h v with ten.hfltWait := [] }.hfltPut h e := by
  rw [State.putHfltHead_eq]
  exact State.hfltDrain_of_ready 1023 ((s.headMoved_hfltWait h v).trans hw) ((s.headMoved_hfltFull h v).trans (beq_false_of_ne hf)) ((s.headMoved_hfltReady h v h).trans hr)

theorem State.putHfltHead_of_not_ready (hw : s.ten.hfltWait = [(h, e)]) (hf : (nget 0 s.ten.hfltTail h + 2 ^ 32 - v) % 2 ^ 32 ≠ 1024) (hr : s.hfltReady h = false) :
    s.putHfltHead h v = (s.headMoved h v).storeNeed (s.hfltNext h) 32 := by
  rw [State.putHfltHead_eq, ← s.headMoved_hfltNext h v h]
  exact State.hfltDrain_of_not_ready 1023 ((s.headMoved_hfltWait h v).trans hw) ((s.headMoved_hfltFull h v).trans (beq_false_of_ne hf)) ((s.headMoved_hfltReady h v h).trans hr)

theorem gives_hfltheadWrite {f : State → State} (hh : s.host.halted = false) (hf : (s.hears (.hfltheadWrite h w)).putHfltHead h w.toNat = f (s.hears (.hfltheadWrite h w))) :
    Gives .hfltheadWrite (.hfltheadWrite h w) s f :=
  ⟨rfl, congrArg Host.Outcome.next ((if_neg fun e => Bool.false_ne_true (hh.symm.trans e)).trans hf)⟩

theorem gives_hreqheadWrite (hh : s.host.halted = false) : Gives .hreqheadWrite (.hreqheadWrite h w) s (fun s =>
    ({ s with ten.hreqHead := nset 0 s.ten.hreqHead h w.toNat }.extLower h).wakeSaved (fun x => s.hearthOf x.ctx == h) Hold.ring) :=
  ⟨rfl, congrArg Host.Outcome.next (if_neg fun e => Bool.false_ne_true (hh.symm.trans e))⟩

end Heads

/-- Settles O36, register by register. -/
theorem registerEvents : Obligations.RegisterEvents := by
  refine ⟨fun s v i => ?window, fun s h i v w b => ?hearth⟩
  case window =>
    refine ⟨⟨rfl, rfl⟩, gives_registerWrite ?qtbase, gives_registerWrite ?sysevr, ⟨rfl, rfl⟩, ⟨rfl, rfl⟩, ⟨rfl, rfl⟩, ⟨rfl, rfl⟩, ⟨rfl, rfl⟩, ⟨rfl, rfl⟩, ⟨rfl, rfl⟩,
      fun hi => gives_registerWrite (State.windowWrite_island hi), fun hi => ⟨gives_registerWrite ?first, fun k _ hk => gives_registerWrite ?other⟩,
      fun hi => gives_registerWrite (State.windowWrite_svcring hi), fun hl => gives_registerWrite ?savebase, fun hl => gives_registerWrite ?savebaseKept, fun hl => ?hartid, fun hl => ?hartidKept,
      gives_placepinWrite s i v⟩
    case qtbase =>
      dsimp only
      rw [← ofNat_div_mul_23]
      rfl
    case sysevr =>
      dsimp only
      rw [← ofNat_ringPlace]
      rfl
    case first => exact (State.windowWrite_record (k := 0) hi (by decide)).trans (State.recordEvents_first _ i v)
    case other => exact (State.windowWrite_record hi hk).trans (State.recordEvents_other _ i v (by omega))
    case savebase => exact (State.windowWrite_savebase _ v).trans (if_pos (List.isEmpty_iff.mpr hl))
    case savebaseKept => exact (State.windowWrite_savebase _ v).trans (if_neg (mt List.isEmpty_iff.mp hl))
    case hartid =>
      refine .of_neg ?_ rfl (exec_hartidWrite s v)
      simpa using hl
    case hartidKept =>
      refine .of_pos ?_ rfl (exec_hartidWrite s v)
      simpa using hl
  case hearth =>
    refine ⟨fun hr hh ⟨ha, hm, ho⟩ => ?taken, fun hn => ?ignored, fun hh => ⟨gives_hreqheadWrite hh, fun hn => ?_, fun e hw hf => ⟨fun hr => ?_, fun hr => ?_⟩⟩, fun hr hl hh => ?extended, fun hr => ?fixed⟩
    case taken =>
      have ok := (s.ringBaseOk_iff h v.toNat).mpr ⟨hr, hh, ha, hm, ho⟩
      exact ⟨.of_pos ok rfl rfl, .of_pos ok rfl rfl⟩
    case ignored =>
      have bad : ¬ s.ringBaseOk h v.toNat = true := by
        rw [State.ringBaseOk_iff]
        rintro ⟨hr, -, ok⟩
        exact hn.elim (fun e => Bool.false_ne_true (hr.symm.trans e)) (fun e => e ok)
      exact ⟨.of_neg bad rfl rfl, .of_neg bad rfl rfl⟩
    · exact gives_hfltheadWrite hh (State.putHfltHead_of_none hn)
    · exact gives_hfltheadWrite hh (State.putHfltHead_of_ready hw hf ((s.hfltReady_hears _ h).trans hr))
    · exact gives_hfltheadWrite hh (State.putHfltHead_of_not_ready hw hf ((s.hfltReady_hears _ h).trans hr))
    case extended => exact .of_neg (c := (s.host.ready || s.host.held || s.host.halted) = true) (by rw [hr, hl, hh]; decide) rfl rfl
    case fixed => exact .of_pos (c := (s.host.ready || s.host.held || s.host.halted) = true) (by rw [hr]; rfl) rfl rfl

end Sys2Proof.Machine
end

section
/-! SUPPORT. Which message happens makes no difference to what a home reads, fills and sends over its ways. -/

namespace Sys2Proof.Machine

open Sys2Proof

/-- A state and a result, with a message as the one that happens. -/
abbrev hearsFst {α : Type} (e : Ev) (q : State × α) : State × α := (q.1.hears e, q.2)

theorem foldl_hears {β : Type} {f : State → β → State} (e : Ev) (h : ∀ s x, f (s.hears e) x = (f s x).hears e) (l : List β) (s : State) :
    l.foldl f (s.hears e) = (l.foldl f s).hears e := List.foldl_hom (fun t : State => t.hears e) h

theorem State.homeLine_hears (s : State) (e : Ev) (line : Nat) : (s.hears e).homeLine line = s.homeLine line := rfl
theorem State.way_hears (s : State) (e : Ev) (a b : Node) : (s.hears e).way a b = s.way a b := rfl
theorem State.mscAt_hears (s : State) (e : Ev) (line : Nat) : (s.hears e).mscAt line = s.mscAt line := rfl
theorem State.mscHere_hears (s : State) (e : Ev) (line : Nat) : (s.hears e).mscHere line = s.mscHere line := rfl
theorem State.pinned_hears (s : State) (e : Ev) (line : Nat) : (s.hears e).pinned line = s.pinned line := rfl
theorem State.freeCtr_hears (s : State) (e : Ev) : (s.hears e).ctl.freeCtr = s.ctl.freeCtr := rfl
theorem State.updLink_hears (s : State) (e : Ev) (l : Nat) (f : Link → Link) : (s.hears e).updLink l f = (s.updLink l f).hears e := rfl
theorem State.due_hears (s : State) (e : Ev) (p : Ev → Bool) : (s.hears e).due p = s.due p := rfl

/-! ## Aliases -/

/-- The bytes of a line of an entry written, and its sealing (R118, R122). -/
def State.aliasBytes (s : State) (a : Alias) (line : Nat) (h : List Byte × List Nat × Option (Nat × Nat)) : State :=
  if a.wtag = 0x7F then
    { s with mem := Memory.patch s.mem (128 * line) (((List.range 128).filter (fun i => aliasHas a (128 * line + i))).map (fun i => (i, (h.1.drop i).headD 0))),
             mm.sealed := tdel s.mm.sealed line }
  else
    match h.2.2 with
    | some m => { s with mem := Memory.putAll s.mem (128 * line) h.1, mm.sealed := tset s.mm.sealed line m }
    | none => s

/-- A word of the line that the entry covers and that its reader receives poisoned is poisoned (R118). -/
def State.aliasPois (a : Alias) (line : Nat) (pois : List Nat) (s : State) (w : Nat) : State :=
  if pois.contains w && ((List.range 128).filter (fun i => aliasHas a (128 * line + i))).any (fun i => i / 8 == w) then s.setPoison (16 * line + w) true else s

/-- The entry loses the line (R118). -/
def State.aliasCut (s : State) (a : Alias) (line : Nat) (fails : Option (Nat × Nat)) : State :=
  let es := s.ali.entries.map (fun x => if sameAlias x a then { x with left := cutRanges x.left line, stale := x.stale || x.hold } else x)
  { s with ali.entries := es.filter (fun x => !x.left.isEmpty || x.hold), ctl.integDue := s.ctl.integDue ++ fails.toList }

theorem State.materialiseLine_eq (s : State) (a : Alias) (line : Nat) : s.materialiseLine a line =
    ((List.range 16).foldl (State.aliasPois a line (s.homeLine line).2.1) (s.aliasBytes a line (s.homeLine line))).aliasCut a line
      (if a.wtag = 0x7F then none else s.aliasFails line) := rfl

theorem State.aliasBytes_hears (s : State) (e : Ev) (a : Alias) (line : Nat) (h : List Byte × List Nat × Option (Nat × Nat)) :
    (s.hears e).aliasBytes a line h = (s.aliasBytes a line h).hears e := by
  unfold State.aliasBytes
  split
  · rfl
  · split <;> rfl

theorem State.aliasPois_hears (s : State) (e : Ev) (a : Alias) (line : Nat) (pois : List Nat) (w : Nat) :
    State.aliasPois a line pois (s.hears e) w = (State.aliasPois a line pois s w).hears e := by
  unfold State.aliasPois
  split <;> rfl

theorem State.materialiseLine_hears (s : State) (e : Ev) (a : Alias) (line : Nat) : (s.hears e).materialiseLine a line = (s.materialiseLine a line).hears e := by
  rw [State.materialiseLine_eq, State.materialiseLine_eq, State.homeLine_hears, State.aliasBytes_hears, foldl_hears e fun t w => t.aliasPois_hears e a line _ w]
  rfl

theorem State.materialise_hears (s : State) (e : Ev) (a : Alias) (lines : List Nat) : (s.hears e).materialise a lines = (s.materialise a lines).hears e := by
  refine foldl_hears e (fun t l => ?_) lines s
  rw [State.hears_ali]
  split
  · exact t.materialiseLine_hears e _ l
  · rfl

theorem State.destWrite_hears (s : State) (e : Ev) (line : Nat) : (s.hears e).destWrite line = (s.destWrite line).hears e :=
  foldl_hears e (fun t a => t.materialise_hears e a [line]) (s.aliasesOn line) s

/-- Reads of an entry counted (R121). -/
theorem State.countReads_hears (s : State) (e : Ev) (line : Nat) : (s.hears e).countReads line = (s.countReads line).hears e := by
  refine foldl_hears e (fun t a => ?_) (s.aliasesOn line) s
  dsimp only
  rw [State.hears_ali]
  split <;> rfl

/-! ## The MSC and the halves of host memory -/

theorem State.mscUse_hears (s : State) (e : Ev) (line : Nat) : (s.hears e).mscUse line = (s.mscUse line).hears e := by
  unfold State.mscUse
  rw [State.mscAt_hears]
  split <;> rfl

theorem State.mscFill_snd_hears (s : State) (e : Ev) (line : Nat) : ((s.hears e).mscFill line).2 = (s.mscFill line).2 := by
  rw [State.mscFill_snd, State.mscFill_snd]
  rfl

theorem State.mscFill_hears (s : State) (e : Ev) (line : Nat) : (s.hears e).mscFill line = hearsFst e (s.mscFill line) := by
  unfold State.mscFill
  dsimp only
  rw [State.mscAt_hears, State.mscHere_hears]
  by_cases hh : (isCellar (128 * line) || (s.mscAt line).isSome) = true
  · rw [if_pos hh, if_pos hh, State.mscUse_hears]
  · rw [if_neg hh, if_neg hh]
    cases (List.range 16).find? (fun w => !(s.mscHere line).any (fun m => m.way == w)) with
    | some w => exact congrArg (·, true) (State.mscUse_hears { s with coh.msc := s.coh.msc ++ [{ line := line, way := w, dirty := false }] } e line)
    | none =>
      dsimp only
      simp only [State.due_hears, State.pinned_hears, State.hears_coh]
      rw [apply_ite (hearsFst e)]
      refine ite_congr rfl (fun _ => rfl) fun _ => ?_
      split <;> rfl

theorem State.askHalves_hears (s : State) (e : Ev) (hs : List Nat) (store : Bool) : (s.hears e).askHalves hs store = (s.askHalves hs store).hears e := by
  refine foldl_hears e (fun t h => ?_) hs s
  rw [State.hears_host, State.due_hears]
  split
  · rfl
  · split <;> rfl

/-! ## Ways -/

theorem State.setLink_hears (s : State) (e : Ev) (l : Nat) (st : LinkState) : (s.hears e).setLink l st = (s.setLink l st).hears e := by
  unfold State.setLink State.updEnds
  split <;> rfl

theorem State.bridgeFlit_hears (s : State) (e : Ev) (l k : Nat) : (s.hears e).bridgeFlit l k = hearsFst e (s.bridgeFlit l k) := by
  unfold State.bridgeFlit
  cases hm : mate l with
  | none => rfl
  | some m =>
    dsimp only
    simp only [State.hears_link]
    rw [apply_ite (hearsFst e)]
    refine ite_congr rfl (fun _ => congrArg (·, false) ?_) fun _ => congrArg (·, true) ?_
    · unfold State.setLink State.updEnds
      rw [hm]
      rfl
    · rw [State.updLink_hears, State.updLink_hears, State.counted_hears]
      rfl

theorem State.sendOver_hears (s : State) (e : Ev) (l n : Nat) : (s.hears e).sendOver l n = hearsFst e (s.sendOver l n) := by
  refine List.foldl_hom (hearsFst e) (l := List.range n) (init := (s, true)) fun q i => ?_
  dsimp only
  split
  · exact State.bridgeFlit_hears ..
  · rfl

/-- The flits of an access and of its answer go over a bridge (R25). -/
def State.crossOver (s : State) (a b : Node) : State × Bool :=
  let r := s.sendOver (bridgeEnd (nodeStack a) (nodeStack b)) (flitCount s.ctl.freeCtr)
  if r.2 then r.1.sendOver (bridgeEnd (nodeStack b) (nodeStack a)) (flitCount (s.ctl.freeCtr + 1)) else r

theorem State.crossOver_hears (s : State) (e : Ev) (a b : Node) : (s.hears e).crossOver a b = hearsFst e (s.crossOver a b) := by
  unfold State.crossOver
  rw [State.freeCtr_hears, State.sendOver_hears]
  dsimp only
  split
  · exact State.sendOver_hears ..
  · rfl

/-- An access whose way over a bridge is clear. -/
theorem State.reach_of_clear {s : State} {a b : Node} (hw : s.way a b = .clear) (hs : nodeStack a ≠ nodeStack b) :
    s.reach a b = if (s.crossOver a b).2 then s.crossOver a b else ({ (s.crossOver a b).1 with ctl.cut := true }, false) := by
  unfold State.reach
  rw [hw]
  exact if_neg hs

/-- An access within a stack. -/
theorem State.reach_of_near {s : State} {a b : Node} (hw : s.way a b = .clear) (hs : nodeStack a = nodeStack b) : s.reach a b = (s, true) := by
  unfold State.reach
  rw [hw]
  exact if_pos hs

theorem State.reach_hears (s : State) (e : Ev) (a b : Node) : (s.hears e).reach a b = hearsFst e (s.reach a b) := by
  cases hw : s.way a b with
  | blocked =>
    unfold State.reach
    rw [State.way_hears, hw]
  | cut =>
    unfold State.reach
    rw [State.way_hears, hw]
    rfl
  | clear =>
    by_cases hs : nodeStack a = nodeStack b
    · rw [State.reach_of_near hw hs, State.reach_of_near ((s.way_hears e a b).trans hw) hs]
    · rw [State.reach_of_clear hw hs, State.reach_of_clear ((s.way_hears e a b).trans hw) hs, State.crossOver_hears]
      dsimp only
      split <;> rfl

/-! ## Reads at the home -/

/-- A read from outside every world of a line that its home may give (R158), once its way is clear. -/
def State.homeGive (s : State) (node line off n : Nat) : State × Option (List Byte × List Nat) :=
  let m := s.mscFill line
  let missing := m.1.halvesMissing (128 * line + off) n false
  if !m.2 then (m.1, none)
  else if !missing.isEmpty then (m.1.askHalves missing false, none)
  else
    let q := m.1.reach node (lineNode line)
    if !q.2 then (q.1, none) else (q.1.countReads line, some ((q.1.homeLine line).1, (q.1.homeLine line).2.1))

/-- A world's destination is materialised before a reader outside the world has the line (R85). -/
def State.openLineOut (s : State) (line : Nat) : State := if (s.aliasesOn line).any (fun e => e.wtag != 0x7F) then s.destWrite line else s

/-- A line that a world's ways hold is handed over first (R84). -/
def State.askHandover (s : State) (slice line : Nat) : State :=
  if s.due (fun e => e == .worldLineHandover slice line) then s else s.send (.worldLineHandover slice line)

theorem State.homeRead_outside {s : State} {line : Nat} (hc : isCellar (128 * line) = false) (node stack off n : Nat) : s.homeRead node stack line 0x7F off n =
    match s.worldHolder line 0x7F with
    | some l => (s.askHandover l.slice line, none)
    | none =>
      match s.way node (lineNode line) with
      | .cut => ({ s with ctl.cut := true }, none)
      | .blocked => (s, none)
      | .clear => (s.openLineOut line).homeGive node line off n := by
  unfold State.homeRead
  rw [if_neg (by rw [hc]; decide), if_neg (by decide)]
  cases s.worldHolder line 0x7F with
  | some l => rfl
  | none =>
    dsimp only
    cases s.way node (lineNode line) <;> rfl

theorem State.homeGive_hears (s : State) (e : Ev) (node line off n : Nat) : (s.hears e).homeGive node line off n = hearsFst e (s.homeGive node line off n) := by
  have missing (t : State) : (t.hears e).halvesMissing (128 * line + off) n false = t.halvesMissing (128 * line + off) n false := rfl
  unfold State.homeGive
  rw [State.mscFill_hears]
  dsimp only
  rw [missing, State.askHalves_hears, State.reach_hears]
  dsimp only
  split
  · rfl
  · split
    · rfl
    · split
      · rfl
      · rw [State.countReads_hears, State.homeLine_hears]

theorem State.openLineOut_hears (s : State) (e : Ev) (line : Nat) : (s.hears e).openLineOut line = (s.openLineOut line).hears e := by
  unfold State.openLineOut
  rw [State.destWrite_hears]
  exact (apply_ite (fun t : State => t.hears e) _ _ _).symm

theorem State.askHandover_hears (s : State) (e : Ev) (slice line : Nat) : (s.hears e).askHandover slice line = (s.askHandover slice line).hears e := by
  unfold State.askHandover
  rw [State.due_hears]
  split <;> rfl

/-- What a home answers a reader outside every world does not depend on the message that happens. -/
theorem State.homeRead_hears (s : State) (e : Ev) {line : Nat} (hc : isCellar (128 * line) = false) (node stack off n : Nat) :
    (s.hears e).homeRead node stack line 0x7F off n = hearsFst e (s.homeRead node stack line 0x7F off n) := by
  have holder : (s.hears e).worldHolder line 0x7F = s.worldHolder line 0x7F := rfl
  rw [State.homeRead_outside hc, State.homeRead_outside hc, holder]
  cases s.worldHolder line 0x7F with
  | some l => exact congrArg (·, none) (s.askHandover_hears e l.slice line)
  | none =>
    dsimp only
    rw [State.way_hears]
    cases s.way node (lineNode line) with
    | clear =>
      dsimp only
      rw [State.openLineOut_hears, State.homeGive_hears]
    | blocked => rfl
    | cut => rfl

end Sys2Proof.Machine
end

section
/-! SUPPORT. Host ports, the device memory they offer, and the half-lines of the host bridge: what the events of R31 to R33, R38 and R39 come to. -/

namespace Sys2Proof.Machine

open Sys2Proof

/-! ## Device memory -/

section Memory

variable {s : State} {p addr : Nat} {w : Bool} {b : List Byte}

/-- The range that the ports offer lies in HBM (R33, R94). -/
theorem State.range_hbm (hr : s.host.hdmBase.toNat + s.host.hdmSize.toNat ≤ 768 * 2 ^ 30) (ha : addr < s.host.hdmSize.toNat) : s.host.hdmBase.toNat + addr < 768 * 2 ^ 30 := by omega

theorem not_isCellar_line {pa : Nat} (h : pa < 768 * 2 ^ 30) : isCellar (128 * (pa / 128)) = false := by
  unfold isCellar
  rw [decide_eq_false (by omega), Bool.false_and]

theorem not_isHost {pa : Nat} (h : pa < 768 * 2 ^ 30) : isHost pa = false := by
  have top : bit pa 55 = false := by
    unfold bit
    rw [Nat.div_eq_of_lt (by omega)]
    rfl
  unfold isHost
  rw [top, Bool.and_false, Bool.false_and]

/-- No request is taken over a plain port, or beyond the range (R32, R33). -/
theorem State.memRequest_aborts (h : s.isCxl p = false ∨ s.host.hdmSize.toNat ≤ addr ∨ 768 * 2 ^ 30 < s.host.hdmBase.toNat + s.host.hdmSize.toNat) :
    s.memRequest p addr w b = s.toHost (.memAbort p addr) := by
  refine if_pos ?_
  rw [Bool.or_eq_true, Bool.not_eq_true', decide_eq_true_eq]
  refine h.imp_right fun h => ?_
  unfold State.hdmRange
  split <;> omega

/-- A request that is taken (R33). -/
theorem State.memRequest_taken (hc : s.isCxl p = true) (ha : addr < s.host.hdmSize.toNat) (hr : s.host.hdmBase.toNat + s.host.hdmSize.toNat ≤ 768 * 2 ^ 30) :
    ¬ (!s.isCxl p || decide (addr ≥ s.hdmRange)) = true := by
  rw [hc, State.hdmRange, if_pos hr]
  simpa using ha

/-- A read at its home of a line outside every world, whose place and way are clear: through the aliases over it (R118, R158). -/
theorem State.homeRead_near {node stack line off n : Nat} (hc : isCellar (128 * line) = false) (hh : isHost (128 * line + off) = false) (hw : s.worldHolder line 0x7F = none)
    (ha : ∀ e ∈ s.aliasesOn line, e.wtag = 0x7F) (hm : (s.mscFill line).2 = true) (hway : s.way node (lineNode line) = .clear) (hs : nodeStack (lineNode line) = nodeStack node) :
    s.homeRead node stack line 0x7F off n =
      ((s.mscFill line).1.countReads line, some (((s.mscFill line).1.homeLine line).1, ((s.mscFill line).1.homeLine line).2.1)) := by
  have own : s.openLineOut line = s := by
    refine if_neg ?_
    rw [List.any_eq_true]
    rintro ⟨e, he, hne⟩
    exact absurd (ha e he) (by simpa using hne)
  have same : (s.mscFill line).1.way node (lineNode line) = .clear := by
    obtain ⟨_, _, e⟩ := State.mscFill_of_snd hm
    rw [e]
    exact hway
  have present : (s.mscFill line).1.halvesMissing (128 * line + off) n false = [] := if_neg (by rw [hh]; decide)
  rw [State.homeRead_outside hc, hw, hway, own]
  unfold State.homeGive
  dsimp only
  rw [if_neg (by rw [hm]; decide), present, State.reach_of_near same hs.symm]
  rfl

end Memory

/-- The HBM address that an address of device memory reaches (R33). -/
abbrev State.hdmPa (s : State) (addr : Nat) : Nat := s.host.hdmBase.toNat + addr

/-- The home's answer to a host's read of device memory. -/
def State.hdmRead (s : State) (p addr : Nat) : State × Option (List Byte × List Nat) := s.homeRead (624 + p) 0 (s.hdmPa addr / 128) 0x7F (s.hdmPa addr % 128) 64

/-- The store that a host makes in device memory. -/
def State.hdmTx (s : State) (addr : Nat) (b : List Byte) : Tx := { blankTx 0 (s.hdmPa addr / 128) (patchOf (s.hdmPa addr % 128) b) with tenant := 0xFFFF }

section Requests

variable {s : State} {p addr : Nat} {b : List Byte} (hc : s.isCxl p = true) (ha : addr < s.host.hdmSize.toNat)
  (hr : s.host.hdmBase.toNat + s.host.hdmSize.toNat ≤ 768 * 2 ^ 30)

include ha hr in
theorem State.hdmRead_hears (e : Ev) : (s.hears e).hdmRead p addr = hearsFst e (s.hdmRead p addr) :=
  s.homeRead_hears e (not_isCellar_line (State.range_hbm hr ha)) _ _ _ _

include hc ha hr

theorem State.memRequest_read (b : List Byte) : s.memRequest p addr false b = match (s.hdmRead p addr).2 with
    | some d => { (s.hdmRead p addr).1 with host.lent := (p, addr / 64) :: (s.hdmRead p addr).1.host.lent.erase (p, addr / 64) }.toHost
        (.memData p addr (cut d.1 (s.hdmPa addr % 128) 64))
    | none => (s.hdmRead p addr).1.wait (.cxlmemRequest p addr false b) :=
  (if_neg (State.memRequest_taken hc ha hr)).trans (if_neg Bool.false_ne_true)

theorem State.memRequest_store (b : List Byte) : s.memRequest p addr true b = match s.outsider (s.hdmTx addr b) with
    | some w => (s.sealWr (128 * (s.hdmPa addr / 128)) w 0xFFFF).toHost (.memDone p addr)
    | none => ({ s with host.lent := s.host.lent.erase (p, addr / 64) }.devStoreLine (s.hdmPa addr) b none).toHost (.memDone p addr) :=
  (if_neg (State.memRequest_taken hc ha hr)).trans (if_pos rfl)

theorem State.memRequest_found {d : List Byte × List Nat} (hd : (s.hdmRead p addr).2 = some d) : s.memRequest p addr false b =
    { (s.hdmRead p addr).1 with host.lent := (p, addr / 64) :: (s.hdmRead p addr).1.host.lent.erase (p, addr / 64) }.toHost (.memData p addr (cut d.1 (s.hdmPa addr % 128) 64)) := by
  rw [State.memRequest_read hc ha hr, hd]

theorem State.memRequest_waits (hd : (s.hdmRead p addr).2 = none) : s.memRequest p addr false b = (s.hdmRead p addr).1.wait (.cxlmemRequest p addr false b) := by
  rw [State.memRequest_read hc ha hr, hd]

theorem State.memRequest_stored (ho : s.outsider (s.hdmTx addr b) = none) :
    s.memRequest p addr true b = ({ s with host.lent := s.host.lent.erase (p, addr / 64) }.devStoreLine (s.hdmPa addr) b none).toHost (.memDone p addr) := by
  rw [State.memRequest_store hc ha hr, ho]

theorem State.memRequest_dropped {w : Nat} (ho : s.outsider (s.hdmTx addr b) = some w) :
    s.memRequest p addr true b = (s.sealWr (128 * (s.hdmPa addr / 128)) w 0xFFFF).toHost (.memDone p addr) := by
  rw [State.memRequest_store hc ha hr, ho]

end Requests

theorem gives_cxlmemRequest {s : State} {p addr : Nat} {w : Bool} {b : List Byte} {f : State → State}
    (h : (s.hears (.cxlmemRequest p addr w b)).memRequest p addr w b = f (s.hears (.cxlmemRequest p addr w b))) : Gives .cxlmemRequest (.cxlmemRequest p addr w b) s f :=
  ⟨rfl, congrArg Host.Outcome.next h⟩

/-! ## Ports -/

/-- Decoders after a commit, or its end (R33). -/
theorem mem_decoders {l : List (Nat × Nat)} {x y : Nat × Nat} {c : Bool} :
    (x ∈ if c then y :: l.filter (fun z => z != y) else l.filter (fun z => z != y)) ↔ (x = y ∧ c = true) ∨ (x ≠ y ∧ x ∈ l) := by
  cases c
  · simp [and_comm]
  · by_cases h : x = y <;> simp [h]

/-- HDM_DECODER_COMMIT changes the decoder named, and no other. -/
theorem happens_hdmDecoderCommit (s : State) (p d : Nat) (c : Bool) : Happens .hdmDecoderCommit (.hdmDecoderCommit p d c) s (fun t => ((p, d) ∈ t.host.decoders ↔ c = true) ∧
    (∀ x, x ≠ (p, d) → (x ∈ t.host.decoders ↔ x ∈ s.host.decoders)) ∧ t.mem = s.mem ∧ t.ten = s.ten ∧ t.core = s.core) := by
  refine ⟨rfl, _, rfl, mem_decoders.trans ?_, fun x hx => mem_decoders.trans ?_, rfl, rfl, rfl⟩
  · simp
  · simp [hx]

/-! ## Halves -/

section Bridge

variable {s : State} {h : Nat}

/-- A store needs the half asked for (R38). -/
theorem State.half_asks_iff : (s.half h == .I || s.half h == .S) = true ↔ s.half h = .I ∨ s.half h = .S := by rw [Bool.or_eq_true, beq_iff_eq, beq_iff_eq]

section Stores

variable {off : Nat} {b : List Byte} (hh : isHost (64 * h) = true) (hb : b ≠ [])

include hh hb

theorem gives_bridgePackageStore_asks (hs : s.half h = .I ∨ s.half h = .S) :
    Gives .bridgePackageStore (.bridgePackageStore h off b) s (fun s => (s.bridgeAsk h true).devStoreLine (64 * h + off) b none) :=
  ⟨rfl, congrArg Host.Outcome.next ((ite_not_of_true hh).trans ((if_neg (mt List.isEmpty_iff.mp hb)).trans
    (congrArg (fun t : State => t.devStoreLine (64 * h + off) b none) (if_pos (State.half_asks_iff.mpr hs)))))⟩

theorem gives_bridgePackageStore_owned (hs : s.half h = .E ∨ s.half h = .M) :
    Gives .bridgePackageStore (.bridgePackageStore h off b) s (fun s => s.devStoreLine (64 * h + off) b none) := by
  have owned : ¬ (s.half h = .I ∨ s.half h = .S) := by rcases hs with e | e <;> rw [e] <;> decide
  exact ⟨rfl, congrArg Host.Outcome.next ((ite_not_of_true hh).trans ((if_neg (mt List.isEmpty_iff.mp hb)).trans
    (congrArg (fun t : State => t.devStoreLine (64 * h + off) b none) (if_neg (mt State.half_asks_iff.mp owned)))))⟩

end Stores

section Grant

variable {own excl : Bool} {b : List Byte} (hq : (h, own) ∈ s.host.reqs)

include hq

theorem gives_bridgeGrant_waits (hm : (s.mscFill (h / 2)).2 = false) :
    Gives .bridgeGrant (.bridgeGrant h own excl b) s (fun s => (s.mscFill (h / 2)).1.wait (.bridgeGrant h own excl b)) :=
  ⟨rfl, congrArg Host.Outcome.next ((ite_not_of_true (List.contains_iff_mem.mpr hq)).trans (ite_not_of_false ((s.mscFill_snd_hears _ _).trans hm)))⟩

/-- A grant of a half in I brings its data (R38). -/
theorem gives_bridgeGrant_fills (hm : (s.mscFill (h / 2)).2 = true) (hs : s.half h = .I) :
    Gives .bridgeGrant (.bridgeGrant h own excl b) s (fun s =>
      ((List.range 8).foldl (fun (s : State) w => s.setPoison (8 * h + w) false)
        ({ (s.mscFill (h / 2)).1 with host.reqs := s.host.reqs.erase (h, own) }.putBytes (64 * h) b)).setHalf h (if own then .M else if excl then .E else .S)) := by
  have state : (s.hears (.bridgeGrant h own excl b)).half h = .I := hs
  refine ⟨rfl, congrArg Host.Outcome.next ((ite_not_of_true (List.contains_iff_mem.mpr hq)).trans ((ite_not_of_true ((s.mscFill_snd_hears _ _).trans hm)).trans ?_))⟩
  dsimp only
  rw [state, State.mscFill_host]
  rfl

/-- A grant of a half in S changes its state alone (R38). -/
theorem gives_bridgeGrant_keeps (hm : (s.mscFill (h / 2)).2 = true) (hs : s.half h = .S) :
    Gives .bridgeGrant (.bridgeGrant h own excl b) s (fun s =>
      { (s.mscFill (h / 2)).1 with host.reqs := s.host.reqs.erase (h, own) }.setHalf h (if own then .M else .S)) := by
  have state : (s.hears (.bridgeGrant h own excl b)).half h = .S := hs
  refine ⟨rfl, congrArg Host.Outcome.next ((ite_not_of_true (List.contains_iff_mem.mpr hq)).trans ((ite_not_of_true ((s.mscFill_snd_hears _ _).trans hm)).trans ?_))⟩
  dsimp only
  rw [state, State.mscFill_host]
  rfl

end Grant

/-- What a snoop is answered: data where the half is in M (R38). -/
def State.snoopReply (s : State) (h : Nat) : HostMsg := if s.half h = .M then .snpAnswer h (some (s.bytesAt (64 * h) 64)) (s.halfPois h) else .snpAnswer h none []

theorem State.snoopReply_eq (s : State) (h : Nat) :
    (if s.half h == .M then HostMsg.snpAnswer h (some (s.halfBytes h)) (s.halfPois h) else .snpAnswer h none []) = s.snoopReply h := if_congr beq_iff_eq rfl rfl

section Snoops

variable (hc : s.isCxl (halfPort h) = true)

include hc

/-- A half that no slice holds leaves, its line with its last half unless it is pinned, and the snoop is answered (R38, R39; log 84). -/
theorem gives_hostSnpinv (hs : s.half h ≠ .I) (hl : s.l2Holds (h / 2) = false) : Gives .hostSnpinv (.hostSnpinv h) s (fun t =>
    let s1 := t.setHalf h .I
    (if s1.half (2 * (h / 2)) = .I ∧ s1.half (2 * (h / 2) + 1) = .I ∧ (h / 2, 0) ∉ s1.coh.pins then { s1 with coh.msc := s1.coh.msc.filter (fun m => m.line != h / 2) } else s1).toHost
      (s.snoopReply h)) := by
  refine ⟨rfl, congrArg Host.Outcome.next ((ite_not_of_true hc).trans ((if_neg (mt beq_iff_eq.mp hs)).trans ((if_neg (Bool.eq_false_iff.mp hl)).trans ?_)))⟩
  refine congrArg₂ State.toHost (if_congr ?_ rfl rfl) (s.snoopReply_eq h)
  rw [Bool.and_eq_true, Bool.and_eq_true, beq_iff_eq, beq_iff_eq, Bool.not_eq_true', ← Bool.not_eq_true, List.contains_iff_mem, and_assoc]
  rfl

theorem exec_hostSnpdata (hd : s.worldDirty (h / 2) = false) : exec .hostSnpdata (s.hears (.hostSnpdata h)) =
    .next ((if s.half h = .E ∨ s.half h = .M then (s.hears (.hostSnpdata h)).setHalf h .S else s.hears (.hostSnpdata h)).toHost (s.snoopReply h)) := by
  have state : (s.hears (.hostSnpdata h)).half h = s.half h := rfl
  refine congrArg Host.Outcome.next ((ite_not_of_true hc).trans ((if_neg (Bool.eq_false_iff.mp hd)).trans ?_))
  rw [state, State.snoopReply]
  cases s.half h <;> rfl

/-- A half in E or M is shared with the host that reads it (R38). -/
theorem gives_hostSnpdata_shares (hd : s.worldDirty (h / 2) = false) (hs : s.half h = .E ∨ s.half h = .M) :
    Gives .hostSnpdata (.hostSnpdata h) s (fun t => (t.setHalf h .S).toHost (s.snoopReply h)) := ⟨rfl, by rw [exec_hostSnpdata hc hd, if_pos hs]⟩

theorem gives_hostSnpdata_keeps (hd : s.worldDirty (h / 2) = false) (hs : s.half h = .I ∨ s.half h = .S) :
    Gives .hostSnpdata (.hostSnpdata h) s (fun t => t.toHost (s.snoopReply h)) := by
  have kept : ¬ (s.half h = .E ∨ s.half h = .M) := by rcases hs with e | e <;> rw [e] <;> decide
  exact ⟨rfl, by rw [exec_hostSnpdata hc hd, if_neg kept]⟩

theorem gives_hostSnpcur (hd : s.worldDirty (h / 2) = false) : Gives .hostSnpcur (.hostSnpcur h) s (fun t => t.toHost (s.snoopReply h)) :=
  ⟨rfl, congrArg Host.Outcome.next ((ite_not_of_true hc).trans ((if_neg (Bool.eq_false_iff.mp hd)).trans (congrArg (State.toHost _) (s.snoopReply_eq h))))⟩

end Snoops

/-- A line that no slice holds and no snoop waits for is given up half by half (R38). -/
theorem State.evicts_iff {line : Nat} {due : Bool} : ((s.l2Holds line && due) || s.snoopWaits line || !s.isCxl (halfPort (2 * line))) = true ↔
    (s.l2Holds line = true ∧ due = true) ∨ s.snoopWaits line = true ∨ s.isCxl (halfPort (2 * line)) = false := by
  rw [Bool.or_eq_true, Bool.or_eq_true, Bool.and_eq_true, Bool.not_eq_true', or_assoc]

end Bridge

/-- Settles O35, event by event. -/
theorem hostPortAndBridgeEvents : Obligations.HostPortAndBridgeEvents := by
  refine ⟨fun s p d addr rate width flits cxl ide w v b => ?ports, fun s h off line b e => ?bridge⟩
  case ports =>
    refine ⟨fun hp => ?trained, fun hw => ?waited, fun hd => ?uncommitted, fun hd => ?committed, happens_hdmDecoderCommit s p d cxl,
      fun ha => gives_cxlmemRequest (State.memRequest_aborts ha), fun hc ha hr => ⟨fun x hx => ?found, fun hx => ?waits, fun hw hal hm hway hs => ?near, fun ho => ?stored, fun x ho => ?dropped⟩⟩
    case trained =>
      refine .of_neg (c := (decide (p = 0) && cxl && s.host.waitCxl) = true) ?_ rfl rfl
      rw [Bool.and_eq_true, Bool.and_eq_true, decide_eq_true_eq]
      rintro ⟨⟨h0, rfl⟩, hw⟩
      rw [hw] at hp
      simp [h0] at hp
    case waited => exact .of_pos (c := (decide (0 = 0) && true && s.host.waitCxl) = true) (by rw [hw]; rfl) rfl rfl
    case uncommitted =>
      have free : s.host.decoders.isEmpty = true := List.isEmpty_iff.mpr hd
      rw [← hdmField_eq]
      exact ⟨.of_pos free rfl rfl, .of_pos free rfl rfl⟩
    case committed =>
      have held : ¬ s.host.decoders.isEmpty = true := mt List.isEmpty_iff.mp hd
      exact ⟨.of_neg held rfl rfl, .of_neg held rfl rfl⟩
    case found => exact gives_cxlmemRequest (State.memRequest_found (s := s.hears _) hc ha hr ((congrArg Prod.snd (State.hdmRead_hears ha hr _)).trans hx))
    case waits => exact gives_cxlmemRequest (State.memRequest_waits (s := s.hears _) hc ha hr ((congrArg Prod.snd (State.hdmRead_hears ha hr _)).trans hx))
    case near =>
      refine State.homeRead_near (not_isCellar_line (State.range_hbm hr ha)) ?_ hw hal hm hway hs
      rw [Nat.div_add_mod]
      exact not_isHost (State.range_hbm hr ha)
    case stored => exact gives_cxlmemRequest (State.memRequest_stored (s := s.hears _) hc ha hr ho)
    case dropped => exact gives_cxlmemRequest (State.memRequest_dropped (s := s.hears _) hc ha hr ho)
  case bridge =>
    refine ⟨fun hh hs => ?read, fun hs => ?noRead, fun hh hb => ⟨gives_bridgePackageStore_asks hh hb, gives_bridgePackageStore_owned hh hb⟩,
      fun own hq => ⟨gives_bridgeGrant_waits hq, fun hm => ⟨gives_bridgeGrant_fills hq hm, gives_bridgeGrant_keeps hq hm⟩⟩, fun hl hw hc => ?evicts, fun hn => ?stays, fun hc => ?plain,
      fun hc => ⟨gives_hostSnpinv hc, fun hs hl => ?purged, fun hs => ?unexpected, fun hd => ⟨gives_hostSnpdata_shares hc hd, gives_hostSnpdata_keeps hc hd, gives_hostSnpcur hc hd⟩, fun hd => ?dirty⟩⟩
    case read => exact .of_pos (c := (isHost (64 * h) && s.half h == .I) = true) (by rw [hh, hs]; rfl) rfl rfl
    case noRead => exact .of_neg (c := (isHost (64 * h) && s.half h == .I) = true) (by simp [hs]) rfl rfl
    case evicts =>
      refine ⟨rfl, congrArg Host.Outcome.next ((if_neg (mt (State.evicts_iff (s := s.hears _)).mp ?_)).trans (if_neg (Bool.eq_false_iff.mp hl)))⟩
      rintro (⟨e, -⟩ | e | e)
      · exact Bool.false_ne_true (hl.symm.trans e)
      · exact Bool.false_ne_true (hw.symm.trans e)
      · exact Bool.false_ne_true (e.symm.trans hc)
    case stays => exact ⟨rfl, congrArg Host.Outcome.next (if_pos ((State.evicts_iff (s := s.hears _)).mpr (.inr hn.symm)))⟩
    case plain =>
      exact ⟨⟨rfl, congrArg Host.Outcome.next (ite_not_of_false hc)⟩, ⟨rfl, congrArg Host.Outcome.next (ite_not_of_false hc)⟩, ⟨rfl, congrArg Host.Outcome.next (ite_not_of_false hc)⟩⟩
    case purged => exact ⟨rfl, congrArg Host.Outcome.next ((ite_not_of_true hc).trans ((if_neg (mt beq_iff_eq.mp hs)).trans (if_pos hl)))⟩
    case unexpected => exact ⟨rfl, congrArg Host.Outcome.next ((ite_not_of_true hc).trans (if_pos (beq_iff_eq.mpr hs)))⟩
    case dirty =>
      exact ⟨⟨rfl, congrArg Host.Outcome.next ((ite_not_of_true hc).trans (if_pos hd))⟩, ⟨rfl, congrArg Host.Outcome.next ((ite_not_of_true hc).trans (if_pos hd))⟩⟩

end Sys2Proof.Machine
end

section
/-! SUPPORT. Completion records (R62) and the end of a launch outside a world. -/

namespace Sys2Proof.Machine

open Sys2Proof

/-! ## Writes at virtual addresses -/

/-- What a write of an extent waits for does not depend on the message that happens. -/
theorem State.storeReady_hears (s : State) (e : Ev) (pa n : Nat) : (s.hears e).storeReady pa n = s.storeReady pa n := by
  unfold State.storeReady State.storeReadyAt
  simp only [State.mscFill_snd]
  rfl

theorem State.reeveWrite_of_ready {s : State} {t va pa : Nat} {attr : PAttr} {bytes : List Byte} (irq : Option (Nat × Nat × Nat))
    (hx : s.reeveXl t va 5 = .ok pa attr) (hr : s.storeReady pa bytes.length = true) : s.reeveWrite t va bytes irq = some (s.devStore pa bytes irq) := by
  unfold State.reeveWrite
  rw [hx]
  exact if_pos hr

@[simp] theorem length_leBytes (n x : Nat) : (leBytes n x).length = n := by
  induction n generalizing x with
  | zero => rfl
  | succ n ih => exact congrArg (· + 1) (ih _)

@[simp] theorem length_zeros (n : Nat) : (zeros n).length = n := List.length_replicate

/-! ## Completion records -/

/-- The bytes of a completion record (R62). -/
def completionBytes (serial status q seq arith : Nat) : List Byte :=
  leBytes 8 serial ++ leBytes 2 status ++ zeros 2 ++ leBytes 4 q ++ leBytes 8 seq ++ leBytes 8 arith ++ zeros 32

/-- s once a completion record has been stored at pa and its COMPLETE event logged (R62). -/
def State.completed (s : State) (pa t q ctx : Nat) (r : LRec) (status arith : Nat) : State :=
  (s.devStore pa (completionBytes (s.ten.serial + 1) status q r.seq arith) none).logEvent t 0 1 (if bit r.flags 2 then some 0 else none)
    [(30, 2, ctx), (28, 2, status), (20, 8, r.seq), (16, 4, q)]

/-- A completion record whose place is there is stored, then its event is logged (R62). -/
theorem State.complete_of_ready {s : State} {r : LRec} {t pa : Nat} {attr : PAttr} (q ctx status arith : Nat) (hc : r.compl % 64 = 0)
    (hx : s.reeveXl t r.compl 5 = .ok pa attr) (hr : s.storeReady pa 64 = true) :
    s.complete t q ctx r status arith (zeros 32) = some (s.completed pa t q ctx r status arith) := by
  have stored := State.reeveWrite_of_ready (bytes := completionBytes (s.ten.serial + 1) status q r.seq arith) none hx (by simpa [completionBytes] using hr)
  unfold State.complete
  exact (if_neg (not_not.mpr hc)).trans (congrArg (Option.map _) stored)

/-! ## The end of a launch -/

theorem State.hears_op (s : State) (e : Ev) : (s.hears e).ctl.op = some e := rfl

/-- LAUNCH_COMPLETE for a launch that has no world and estimates nothing (R62). -/
def State.endPlain (s : State) (l : Launch) : State :=
  if l.ending.isNone && s.launchBusy l then s
  else if !l.released then (s.startRels l).later (.launchComplete l.ctx)
  else if s.leftovers l.ctx then (s.clearUp l.ctx).later (.launchComplete l.ctx)
  else (s.finish l (l.ending.getD 0)).getD ((s.askFinish l).later (.launchComplete l.ctx))

theorem gives_launchComplete {s : State} {l : Launch} {f : State → State} (hl : s.launch l.ctx = some l) (hw : l.world = 0x7F) (he : l.est = none)
    (h : (s.hears (.launchComplete l.ctx)).endPlain l = f (s.hears (.launchComplete l.ctx))) : Gives .launchComplete (.launchComplete l.ctx) s f := by
  have found : (s.hears (.launchComplete l.ctx)).launch l.ctx = some l := hl
  have ended : execLaunchComplete (s.hears (.launchComplete l.ctx)) = .next ((s.hears (.launchComplete l.ctx)).endPlain l) := by
    unfold execLaunchComplete State.endPlain
    rw [State.hears_op]
    dsimp only
    rw [found]
    dsimp only
    simp only [hw, he, ne_eq, not_true_eq_false, if_false, Option.isSome_none, Bool.and_false, Bool.false_and, Bool.false_eq_true]
    cases (s.hears (.launchComplete l.ctx)).finish l (l.ending.getD 0) <;> rfl
  exact ⟨rfl, ended.trans (congrArg Host.Outcome.next h)⟩

section Ends

variable {s : State} {l : Launch}

theorem State.endPlain_of_busy (hn : l.ending = none) (hb : s.launchBusy l = true) : s.endPlain l = s := if_pos (by rw [hn, hb]; rfl)

/-- An end that is stamped, or the last thread gone, lets the launch end. -/
theorem ends_of {n : Option Nat} {b : Bool} (h : n ≠ none ∨ b = false) : ¬ (n.isNone && b) = true := by
  rcases h with h | h <;> simp [h]

variable (hend : l.ending ≠ none ∨ s.launchBusy l = false)

include hend

/-- The completion record is stored, its event logged and the entry freed, once nothing of the launch is left (R62). -/
theorem State.endPlain_of_done {pa : Nat} {attr : PAttr} (he : l.est = none) (hr : l.released = true) (hleft : s.leftovers l.ctx = false) (hc : l.lrec.compl % 64 = 0)
    (hx : s.reeveXl l.tenant l.lrec.compl 5 = .ok pa attr) (hs : s.storeReady pa 64 = true) :
    s.endPlain l = (s.completed pa l.tenant l.queue l.ctx l.lrec (l.ending.getD 0) l.arith).forget l (l.ending.getD 0) := by
  have finished : s.finish l (l.ending.getD 0) = some ((s.completed pa l.tenant l.queue l.ctx l.lrec (l.ending.getD 0) l.arith).forget l (l.ending.getD 0)) := by
    unfold State.finish
    rw [he]
    exact congrArg (Option.map _) (State.complete_of_ready l.queue l.ctx (l.ending.getD 0) l.arith hc hx hs)
  unfold State.endPlain
  rw [if_neg (ends_of hend), if_neg (by simp [hr]), if_neg (by simp [hleft]), finished]
  rfl

/-- The release at RELS starts; with no store left there is none to wait for (R62). -/
theorem State.endPlain_of_unreleased (he : l.est = none) (hr : l.released = false) (hd : s.dirtyLanes l.ctx = []) (hdue : s.due (fun e => e == .launchComplete l.ctx) = false) :
    s.endPlain l = (s.updLaunch l.ctx (fun l => { l with released := true })).wait (.launchComplete l.ctx) := by
  have none_ : (s.updLaunch l.ctx (fun l => { l with released := true })).dirtyLanes l.ctx = [] := hd
  have started : s.startRels l = s.updLaunch l.ctx (fun l => { l with released := true }) := by
    unfold State.startRels State.putResult
    rw [he]
    dsimp only
    unfold State.releaseLanes
    rw [none_]
    rfl
  unfold State.endPlain
  rw [if_neg (ends_of hend), if_pos (by simp [hr]), started]
  exact if_neg (Bool.eq_false_iff.mp hdue)

end Ends

/-- Settles O40, by the three things that LAUNCH_COMPLETE can find. -/
theorem completionEvents : Obligations.CompletionEvents := by
  intro s l pa attr hl hw he
  refine ⟨fun hn hb => ?busy, fun hend hr hleft hc hx hs => ?done, fun hend hr hd hdue => ?unreleased⟩
  case busy => exact gives_launchComplete hl hw he (State.endPlain_of_busy hn hb)
  case done =>
    have done := State.endPlain_of_done (s := s.hears (.launchComplete l.ctx)) hend he hr hleft hc hx ((s.storeReady_hears _ pa 64).trans hs)
    exact gives_launchComplete hl hw he done
  case unreleased => exact gives_launchComplete hl hw he (State.endPlain_of_unreleased hend he hr hd hdue)

end Sys2Proof.Machine
end

section
/-! SUPPORT. Tenant records (R41, R52, R53): what a word of a record keeps of the value written, and what each event of a record comes to. -/

namespace Sys2Proof.Machine

open Sys2Proof

/-! ## Words of a record -/

/-- A number that keeps the bits of a register that p names. -/
theorem eq_toNat_and {w x : Nat} {v mask : BitVec w} (p : Nat → Bool) (hm : ∀ i < w, mask.getLsbD i = p i) (hx : ∀ i, x.testBit i = (v.getLsbD i && p i)) :
    x = (v &&& mask).toNat := by
  apply Nat.eq_of_testBit_eq
  intro i
  rw [hx, BitVec.testBit_toNat, BitVec.getLsbD_and]
  by_cases hi : i < w
  · rw [hm i hi]
  · rw [BitVec.getLsbD_of_ge v i (Nat.le_of_not_lt hi), Bool.false_and, Bool.false_and]

/-- QBASE and QCOUNT (R52). -/
theorem recordWord_queues (old : Nat) (v : DWord) : recordWord old 1 v.toNat = (v &&& 0x3FFFF0001FFFF).toNat := by
  refine eq_toNat_and (fun i => decide (i < 17) || (decide (32 ≤ i) && decide (i < 50))) (by decide) fun i => ?_
  change (setBits (bits v.toNat 16 0) 49 32 (bits v.toNat 49 32)).testBit i = _
  rw [testBit_setBits_bits _ _ _ (by decide), testBit_bits, ← BitVec.testBit_toNat]
  by_cases h : 32 ≤ i ∧ i ≤ 49
  · rw [if_pos h, decide_eq_true h.1, decide_eq_true (show i < 50 by omega)]
    simp
  · have outside : (decide (32 ≤ i) && decide (i < 50)) = false := by rw [← Bool.decide_and, decide_eq_false (by omega)]
    rw [if_neg h, outside, Bool.or_false, Bool.and_comm]
    rfl

/-- PASID (R52). -/
theorem recordWord_pasid (old : Nat) (v : DWord) : recordWord old 2 v.toNat = (v &&& 0xFFFFF).toNat := by
  refine eq_toNat_and (fun i => decide (i < 20)) (by decide) fun i => ?_
  exact (testBit_bits _ _ _ _).trans (Bool.and_comm ..)

/-- WINBASE (R52). -/
theorem recordWord_winBase (old : Nat) (v : DWord) : recordWord old 3 v.toNat = (v &&& 0xFFFFFFFFFFE00000).toNat :=
  eq_toNat_and (fun i => decide (21 ≤ i)) (by decide) fun i => (testBit_div_mul v.toNat 21 i).trans (Bool.and_comm ..)

/-- EVRING (R52, R65). -/
theorem recordWord_evRing (old : Nat) (v : DWord) : recordWord old 6 v.toNat = (v &&& 0xFFFFFFFFFFFF8001).toNat := by
  refine eq_toNat_and (fun i => decide (i = 0) || decide (15 ≤ i)) (by decide) fun i => ?_
  change (setBit (v.toNat / 2 ^ 15 * 2 ^ 15) 0 (bit v.toNat 0)).testBit i = _
  rw [testBit_setBit, testBit_div_mul, bit_toNat, BitVec.testBit_toNat]
  by_cases h : i = 0
  · simp [h]
  · simp [h, Bool.and_comm]

section Records

variable {s : State} {t m w : Nat} {v : DWord}

theorem tenantBusy_iff : (s.hasContext t || s.queuedLaunch t) = true ↔ s.hasContext t = true ∨ s.queuedLaunch t = true := by rw [Bool.or_eq_true]

theorem gives_tenantModesWrite_busy (h : s.hasContext t = true ∨ s.queuedLaunch t = true) : Gives .tenantModesWrite (.tenantModesWrite t m) s (fun s => s.toHost (.busy t)) :=
  .of_pos (tenantBusy_iff.mpr h) rfl rfl

theorem gives_tenantModesWrite (h : ¬ (s.hasContext t = true ∨ s.queuedLaunch t = true)) :
    Gives .tenantModesWrite (.tenantModesWrite t m) s (fun s => s.setTrec t 0 (setBits (s.trec t 0) 19 16 m)) := .of_neg (mt tenantBusy_iff.mp h) rfl rfl

theorem exec_tenantSetOn_off (h : s.tState t = 0) : exec .tenantSetOn (s.hears (.tenantSetOn t)) = .next (if s.tenantOk t = true then (s.hears (.tenantSetOn t)).setTState t 1
    else (s.hears (.tenantSetOn t)).logEvent 256 2 0x40 none [(24, 8, setBits (s.trec t 0) 1 0 1), (22, 2, t)]) := 
  congrArg Host.Outcome.next (if_neg (c := (s.tState t != 0) = true) (by simp [h]))

theorem gives_tenantSetOn_kept (h : s.tState t ≠ 0) : Gives .tenantSetOn (.tenantSetOn t) s id := .of_pos (c := (s.tState t != 0) = true) (bne_iff_ne.mpr h) rfl rfl

theorem gives_tenantSetOff_kept (h : s.hasContext t = true ∨ s.queuesOpen t = true) : Gives .tenantSetOff (.tenantSetOff t) s id :=
  .of_pos (c := (s.hasContext t || s.queuesOpen t) = true) ((Bool.or_eq_true ..).mpr h) rfl rfl

theorem gives_tenantSetOff (hc : s.hasContext t = false) (hq : s.queuesOpen t = false) : Gives .tenantSetOff (.tenantSetOff t) s (fun s => s.setTState t 0) :=
  .of_neg (c := (s.hasContext t || s.queuesOpen t) = true) (by rw [hc, hq]; decide) rfl rfl

end Records

end Sys2Proof.Machine
end

section
/-! SUPPORT. Doorbells (R55, R60): a doorbell that is refused, one that names no queue, and what the others come to. -/

namespace Sys2Proof.Machine

open Sys2Proof

theorem bits_zero (x hi : Nat) : bits x hi 0 = x % 2 ^ (hi + 1) := by rw [bits, Nat.pow_zero, Nat.div_one, Nat.sub_zero]

/-- A field of a register that reaches its top. -/
theorem bits_toNat_top {w : Nat} (v : BitVec w) {hi lo : Nat} (h : w ≤ hi + 1) (hl : lo ≤ hi) : bits v.toNat hi lo = v.toNat / 2 ^ lo := by
  refine Nat.mod_eq_of_lt (Nat.div_lt_of_lt_mul ?_)
  rw [← Nat.pow_add, show lo + (hi + 1 - lo) = hi + 1 by omega]
  exact Nat.lt_of_lt_of_le v.isLt (Nat.pow_le_pow_right (by decide) h)

theorem State.badBell_eq (s : State) (t : Option Nat) (p : Nat) (v : DWord) : s.badBell t p v = s.logTenant t (8 + p) 0x20 2 [(24, 8, v.toNat), (16, 4, v.toNat % 2 ^ 17)] := by
  rw [State.badBell, bits_zero]
  rfl

theorem bellOf_value (v : DWord) : (bellOf v).2 = v.toNat / 2 ^ 32 := bits_toNat_top v (by decide) (by decide)

/-- What a read of the Reeve's crosses does not depend on the message that happens. -/
theorem State.readOver_hears (s : State) (e : Ev) (pa n : Nat) : (s.hears e).readOver pa n = hearsFst e (s.readOver pa n) := by
  refine List.foldl_hom (hearsFst e) (l := (linesOf pa n).map lineNode) (init := (s, true)) fun q b => ?_
  dsimp only
  split
  · exact State.reach_hears ..
  · rfl

theorem State.noteRead_hears (s : State) (e : Ev) (pa : Nat) : (s.hears e).noteRead pa = (s.noteRead pa).hears e := by
  unfold State.noteRead
  split <;> rfl

theorem State.devBytes_hears (s : State) (e : Ev) (pa n : Nat) : (s.hears e).devBytes pa n = s.devBytes pa n := rfl

/-- s once a descriptor has been read. -/
def State.foundDesc (s : State) (place : Nat) : State := (s.readOver place 64).1.noteRead place

/-- The descriptor read. -/
def State.descRead (s : State) (place : Nat) : List Byte := (s.readOver place 64).1.devBytes place 64

theorem State.foundDesc_hears (s : State) (e : Ev) (place : Nat) : (s.hears e).foundDesc place = (s.foundDesc place).hears e := by
  rw [State.foundDesc, State.readOver_hears, State.noteRead_hears, State.foundDesc]

theorem State.descRead_hears (s : State) (e : Ev) (place : Nat) : (s.hears e).descRead place = s.descRead place := by
  rw [State.descRead, State.readOver_hears, State.devBytes_hears, State.descRead]

/-- A descriptor that has been read is checked and taken (R54, R55). -/
def State.takeDesc (s : State) (p : Nat) (v : DWord) (t n : Nat) (d : List Byte) : State :=
  if !s.descOk t d then s.badBell (some t) p v else ({ s with ten.queues := s.ten.queues ++ [queueOf n d] }.syncQueue (queueOf n d) 1).pokeReeve

/-- What CMD 1 does with the read of a descriptor, and whether it got through (R55, R60). -/
def openFrom (p f : Nat) (v : DWord) (t n place : Nat) (r : State × Bool) : State :=
  if !r.2 then r.1.wait (.doorbellOpen p f v) else (r.1.noteRead place).takeDesc p v t n (r.1.devBytes place 64)

section Bells

variable {s : State} {p f t n : Nat} {v : DWord}

/-- A doorbell through an interface that has left RUN is refused (R91). -/
theorem gives_doorbells_refused (h : s.refuses p f = true) :
    Gives .doorbellSetTail (.doorbellSetTail p f v) s (fun s => s.toHost (.completerAbort p f)) ∧ Gives .doorbellOpen (.doorbellOpen p f v) s (fun s => s.toHost (.completerAbort p f)) ∧
      Gives .doorbellClose (.doorbellClose p f v) s (fun s => s.toHost (.completerAbort p f)) ∧ Gives .doorbellCmd3 (.doorbellCmd3 p f v) s (fun s => s.toHost (.completerAbort p f)) :=
  ⟨.of_pos h rfl rfl, .of_pos h rfl rfl, .of_pos h rfl rfl, .of_pos h rfl rfl⟩

/-- BADBELL of a doorbell as R55 and R68 give it. -/
def State.rejectBell (p : Nat) (v : DWord) (x : Option Nat) (s : State) : State := s.logTenant x (8 + p) 0x20 2 [(24, 8, v.toNat), (16, 4, v.toNat % 2 ^ 17)]

variable (hr : s.refuses p f = false)

include hr

/-- CMD 0 and CMD 2 that name no queue of the tenant (R55). -/
theorem gives_doorbell_noQueue (h : s.bellQueue (s.tenantOfAny p f) v = none) :
    Gives .doorbellSetTail (.doorbellSetTail p f v) s (State.rejectBell p v (s.tenantOf p f)) ∧ Gives .doorbellClose (.doorbellClose p f v) s (State.rejectBell p v (s.tenantOf p f)) := by
  have tail : (s.hears (.doorbellSetTail p f v)).bellQueue ((s.hears (.doorbellSetTail p f v)).tenantOfAny p f) v = none := h
  have close : (s.hears (.doorbellClose p f v)).bellQueue ((s.hears (.doorbellClose p f v)).tenantOfAny p f) v = none := h
  refine ⟨⟨rfl, congrArg Host.Outcome.next ((if_neg (Bool.eq_false_iff.mp hr)).trans ?_)⟩, ⟨rfl, congrArg Host.Outcome.next ((if_neg (Bool.eq_false_iff.mp hr)).trans ?_)⟩⟩
  · rw [tail]
    exact State.badBell_eq ..
  · rw [close]
    exact State.badBell_eq ..

/-- CMD 0 and CMD 2 on a queue that is OFF (R60). -/
theorem gives_doorbell_off (h : s.bellQueue (s.tenantOfAny p f) v = some (t, n)) (hq : s.queue n = none) :
    Gives .doorbellSetTail (.doorbellSetTail p f v) s (State.rejectBell p v (s.tenantOf p f)) ∧ Gives .doorbellClose (.doorbellClose p f v) s (State.rejectBell p v (s.tenantOf p f)) := by
  have tail : (s.hears (.doorbellSetTail p f v)).bellQueue ((s.hears (.doorbellSetTail p f v)).tenantOfAny p f) v = some (t, n) := h
  have close : (s.hears (.doorbellClose p f v)).bellQueue ((s.hears (.doorbellClose p f v)).tenantOfAny p f) v = some (t, n) := h
  have tailOff : (s.hears (.doorbellSetTail p f v)).queue n = none := hq
  have closeOff : (s.hears (.doorbellClose p f v)).queue n = none := hq
  refine ⟨⟨rfl, congrArg Host.Outcome.next ((if_neg (Bool.eq_false_iff.mp hr)).trans ?_)⟩, ⟨rfl, congrArg Host.Outcome.next ((if_neg (Bool.eq_false_iff.mp hr)).trans ?_)⟩⟩
  · rw [tail]
    dsimp only
    rw [tailOff]
    exact State.badBell_eq ..
  · rw [close]
    dsimp only
    rw [closeOff]
    exact State.badBell_eq ..

section Open

variable {q : Queue} (h : s.bellQueue (s.tenantOfAny p f) v = some (t, n)) (hq : s.queue n = some q)

include h hq

/-- CMD 0 on a queue that is not OFF (R55). -/
theorem exec_doorbellSetTail_on : exec .doorbellSetTail (s.hears (.doorbellSetTail p f v)) = .next (if 2 ^ q.rlog < v.toNat / 2 ^ 32 then
      (s.hears (.doorbellSetTail p f v)).rejectBell p v (s.tenantOf p f) else ((s.hears (.doorbellSetTail p f v)).putQueue { q with tail := v.toNat / 2 ^ 32 }).pokeReeve) := by
  have found : (s.hears (.doorbellSetTail p f v)).bellQueue ((s.hears (.doorbellSetTail p f v)).tenantOfAny p f) v = some (t, n) := h
  have on : (s.hears (.doorbellSetTail p f v)).queue n = some q := hq
  refine congrArg Host.Outcome.next ((if_neg (Bool.eq_false_iff.mp hr)).trans ?_)
  rw [found]
  dsimp only
  rw [on]
  dsimp only
  rw [bellOf_value, State.badBell_eq]
  rfl

/-- CMD 2 closes a queue (R60). -/
theorem gives_doorbellClose : Gives .doorbellClose (.doorbellClose p f v) s (fun s => { s with ten.queues := s.ten.queues.filter (fun x => x.q != n) }.syncQueue q 0) := by
  have found : (s.hears (.doorbellClose p f v)).bellQueue ((s.hears (.doorbellClose p f v)).tenantOfAny p f) v = some (t, n) := h
  have on : (s.hears (.doorbellClose p f v)).queue n = some q := hq
  refine ⟨rfl, congrArg Host.Outcome.next ((if_neg (Bool.eq_false_iff.mp hr)).trans ?_)⟩
  rw [found]
  dsimp only
  rw [on]

end Open

section Descriptors

variable (h : s.bellQueue (s.tenantOf p f) v = some (t, n))

include h

/-- CMD 3 on a queue of the tenant is ignored (R55). -/
theorem gives_doorbellCmd3 : Gives .doorbellCmd3 (.doorbellCmd3 p f v) s id := by
  have named : ((s.hears (.doorbellCmd3 p f v)).bellQueue ((s.hears (.doorbellCmd3 p f v)).tenantOf p f) v).isSome = true := Option.isSome_iff_exists.mpr ⟨_, h⟩
  exact ⟨rfl, congrArg Host.Outcome.next ((if_neg (Bool.eq_false_iff.mp hr)).trans (if_pos named))⟩

/-- CMD 1 on a queue that is not OFF (R60). -/
theorem gives_doorbellOpen_on (hq : (s.queue n).isSome = true) : Gives .doorbellOpen (.doorbellOpen p f v) s (State.rejectBell p v (some t)) := by
  have named : (s.hears (.doorbellOpen p f v)).bellQueue ((s.hears (.doorbellOpen p f v)).tenantOf p f) v = some (t, n) := h
  have on : ((s.hears (.doorbellOpen p f v)).queue n).isSome = true := hq
  refine ⟨rfl, congrArg Host.Outcome.next ((if_neg (Bool.eq_false_iff.mp hr)).trans ?_)⟩
  rw [named]
  exact (if_pos on).trans (State.badBell_eq ..)

section Off

variable (hq : s.queue n = none)

include hq

/-- CMD 1 on a queue that is OFF reads its descriptor, once it can (R54, R55). -/
theorem exec_doorbellOpen : exec .doorbellOpen (s.hears (.doorbellOpen p f v)) = .next (openFrom p f v t n (s.descAt n)
    (if s.readReady (s.descAt n) 64 then (s.hears (.doorbellOpen p f v)).readOver (s.descAt n) 64 else ((s.hears (.doorbellOpen p f v)).readNeed (s.descAt n) 64, false))) := by
  have named : (s.hears (.doorbellOpen p f v)).bellQueue ((s.hears (.doorbellOpen p f v)).tenantOf p f) v = some (t, n) := h
  have off : ¬ ((s.hears (.doorbellOpen p f v)).queue n).isSome = true := by rw [show (s.hears (.doorbellOpen p f v)).queue n = none from hq]; decide
  refine congrArg Host.Outcome.next ((if_neg (Bool.eq_false_iff.mp hr)).trans ?_)
  rw [named]
  exact if_neg off

theorem gives_doorbellOpen_waits (hn : s.readReady (s.descAt n) 64 = false) :
    Gives .doorbellOpen (.doorbellOpen p f v) s (fun s => (s.readNeed (s.descAt n) 64).wait (.doorbellOpen p f v)) := by
  refine ⟨rfl, (exec_doorbellOpen hr h hq).trans ?_⟩
  rw [hn]
  rfl

section Read

variable (hy : s.readReady (s.descAt n) 64 = true) (ho : (s.readOver (s.descAt n) 64).2 = true)

include hy ho

theorem exec_doorbellOpen_read : exec .doorbellOpen (s.hears (.doorbellOpen p f v)) =
    .next (((s.hears (.doorbellOpen p f v)).foundDesc (s.descAt n)).takeDesc p v t n ((s.hears (.doorbellOpen p f v)).descRead (s.descAt n))) := by
  rw [exec_doorbellOpen hr h hq, hy, if_pos rfl]
  exact congrArg Host.Outcome.next (ite_not_of_true (by rw [State.readOver_hears]; exact ho))

/-- A descriptor that fails R55's checks. -/
theorem gives_doorbellOpen_bad (hd : (s.foundDesc (s.descAt n)).descOk t (s.descRead (s.descAt n)) = false) :
    Gives .doorbellOpen (.doorbellOpen p f v) s (fun u => (u.foundDesc (s.descAt n)).rejectBell p v (some t)) := by
  refine ⟨rfl, (exec_doorbellOpen_read hr h hq hy ho).trans (congrArg Host.Outcome.next ((ite_not_of_false ?_).trans (State.badBell_eq ..)))⟩
  rw [State.foundDesc_hears, State.descRead_hears]
  exact hd

/-- A descriptor that passes them opens its queue. -/
theorem gives_doorbellOpen (hd : (s.foundDesc (s.descAt n)).descOk t (s.descRead (s.descAt n)) = true) :
    Gives .doorbellOpen (.doorbellOpen p f v) s (fun u => ({ u.foundDesc (s.descAt n) with ten.queues := (u.foundDesc (s.descAt n)).ten.queues ++
      [queueOf n (u.descRead (s.descAt n))] }.syncQueue (queueOf n (u.descRead (s.descAt n))) 1).pokeReeve) := by
  refine ⟨rfl, (exec_doorbellOpen_read hr h hq hy ho).trans (congrArg Host.Outcome.next (ite_not_of_true ?_))⟩
  rw [State.foundDesc_hears, State.descRead_hears]
  exact hd

end Read

end Off

end Descriptors

end Bells

/-- Settles O38, event by event. -/
theorem tenantAndDoorbellEvents : Obligations.TenantAndDoorbellEvents := by
  refine ⟨fun s t m w v => ?records, fun s p f t n v => ⟨fun hr => ?refused, fun hr => ⟨fun h => ?noQueue, fun h hq => ?off, fun h q hq => ⟨fun hv => ?beyond, fun hv => ?tail, ?close⟩, fun h => ?named⟩⟩⟩
  case records =>
    refine ⟨gives_tenantModesWrite_busy, gives_tenantModesWrite, fun h => ⟨fun ok => .of_pos ok rfl (exec_tenantSetOn_off h), fun bad => .of_neg (Bool.eq_false_iff.mp bad) rfl (exec_tenantSetOn_off h)⟩,
      gives_tenantSetOn_kept, gives_tenantSetOff_kept, gives_tenantSetOff, fun h => .of_pos h rfl rfl, fun h => ⟨rfl, congrArg Host.Outcome.next ((if_neg h).trans (congrArg (State.setTrec _ t w) ?_))⟩⟩
    split
    · exact recordWord_queues _ v
    · exact recordWord_pasid _ v
    · exact recordWord_winBase _ v
    · rfl
    · rfl
    · exact recordWord_evRing _ v
    · rfl
    · rfl
  case refused => exact gives_doorbells_refused hr
  case noQueue => exact gives_doorbell_noQueue hr h
  case off => exact gives_doorbell_off hr h hq
  case beyond => exact .of_pos hv rfl (exec_doorbellSetTail_on hr h hq)
  case tail => exact .of_neg (Nat.not_lt_of_le hv) rfl (exec_doorbellSetTail_on hr h hq)
  case close => exact gives_doorbellClose hr h hq
  case named =>
    exact ⟨gives_doorbellCmd3 hr h, gives_doorbellOpen_on hr h, fun hq => ⟨gives_doorbellOpen_waits hr h hq, fun hy ho => ⟨gives_doorbellOpen_bad hr h hq hy ho, gives_doorbellOpen hr h hq hy ho⟩⟩⟩

end Sys2Proof.Machine
end

section
/-! SUPPORT. Service rings and replies (R70, R72, R382 to R385), requests that a Hearth core forwards (R43), and what a Hearth core that restarts answers (R45). -/

namespace Sys2Proof.Machine

open Sys2Proof

/-! ## The host service ring -/

/-- SVCRING with EN as b (R382): the bits between SLOG and the address are reserved. -/
theorem testBit_svcring (n i : Nat) (b : Bool) : (setBit (setBits n 11 5 0) 0 b).testBit i = if i = 0 then b else n.testBit i && (decide (i < 5) || decide (12 ≤ i)) := by
  rw [testBit_setBit, testBit_setBits _ _ _ (by decide), Nat.zero_testBit]
  refine ite_congr rfl (fun _ => rfl) fun _ => ?_
  by_cases h : 5 ≤ i ∧ i ≤ 11
  · rw [if_pos h, decide_eq_false (show ¬ i < 5 by omega), decide_eq_false (show ¬ 12 ≤ i by omega)]
    simp
  · have kept : (decide (i < 5) || decide (12 ≤ i)) = true := by rw [← Bool.decide_or, decide_eq_true (by omega)]
    rw [if_neg h, kept, Bool.and_true]

/-- SVCRING with its ring on. -/
theorem svcring_on {v : DWord} (h : v.getLsbD 0 = true) : setBit (setBits v.toNat 11 5 0) 0 true = (v &&& 0xFFFFFFFFFFFFF01F).toNat := by
  refine eq_toNat_and (fun i => decide (i < 64) && (decide (i < 5) || decide (12 ≤ i))) (by decide) fun i => ?_
  rw [testBit_svcring, BitVec.testBit_toNat]
  by_cases h0 : i = 0
  · subst h0
    rw [if_pos rfl, h]
    rfl
  · rw [if_neg h0]
    by_cases hi : i < 64
    · rw [decide_eq_true hi, Bool.true_and]
    · rw [BitVec.getLsbD_of_ge v i (Nat.le_of_not_lt hi), Bool.false_and, Bool.false_and]

/-- SVCRING with its ring off. -/
theorem svcring_off (v : DWord) : setBit (setBits v.toNat 11 5 0) 0 false = (v &&& 0xFFFFFFFFFFFFF01E).toNat := by
  refine eq_toNat_and (fun i => decide (i < 64) && (decide (i ≠ 0) && (decide (i < 5) || decide (12 ≤ i)))) (by decide) fun i => ?_
  rw [testBit_svcring, BitVec.testBit_toNat]
  by_cases h0 : i = 0
  · subst h0
    simp
  · rw [if_neg h0]
    by_cases hi : i < 64
    · rw [decide_eq_true hi, decide_eq_true h0, Bool.true_and, Bool.true_and]
    · rw [BitVec.getLsbD_of_ge v i (Nat.le_of_not_lt hi), Bool.false_and, Bool.false_and]

section Ring

variable {s : State} {t : Nat} {v : DWord}

theorem gives_svcringWrite_kept (h : s.tState t ≠ 0) : Gives .svcringWrite (.svcringWrite t v) s id := .of_pos (c := (s.tState t != 0) = true) (bne_iff_ne.mpr h) rfl rfl

/-- A ring's sizes that R383 names. -/
theorem svcringOn_iff : (bit v.toNat 0 && decide (6 ≤ bits v.toNat 4 1) && decide (bits v.toNat 4 1 ≤ 12)) = true ↔ v.getLsbD 0 = true ∧ 6 ≤ bits v.toNat 4 1 ∧ bits v.toNat 4 1 ≤ 12 := by
  rw [Bool.and_eq_true, Bool.and_eq_true, bit_toNat, decide_eq_true_eq, decide_eq_true_eq, and_assoc]

variable (h : s.tState t = 0)

include h

theorem exec_svcringWrite {on : Bool} (he : (bit v.toNat 0 && decide (6 ≤ bits v.toNat 4 1) && decide (bits v.toNat 4 1 ≤ 12)) = on) :
    exec .svcringWrite (s.hears (.svcringWrite t v)) = .next (
      let s1 : State := { s.hears (.svcringWrite t v) with ten.svcring := nset 0 s.ten.svcring t (setBit (setBits v.toNat 11 5 0) 0 on) }
      if on then { s1 with ten.pidx := nset 0 s.ten.pidx t 0, ten.cidx := nset 0 s.ten.cidx t 0 } else s1) := by
  subst he
  exact congrArg Host.Outcome.next (if_neg (c := (s.tState t != 0) = true) (by simp [h]))

/-- The ring is placed, and its indices start at 0 (R382 to R384). -/
theorem gives_svcringWrite_on (h0 : v.getLsbD 0 = true) (h6 : 6 ≤ bits v.toNat 4 1) (h12 : bits v.toNat 4 1 ≤ 12) : Gives .svcringWrite (.svcringWrite t v) s (fun s =>
    { s with ten.svcring := nset 0 s.ten.svcring t (v &&& 0xFFFFFFFFFFFFF01F).toNat, ten.pidx := nset 0 s.ten.pidx t 0, ten.cidx := nset 0 s.ten.cidx t 0 }) := by
  refine ⟨rfl, (exec_svcringWrite h (svcringOn_iff.mpr ⟨h0, h6, h12⟩)).trans ?_⟩
  rw [← svcring_on h0]
  rfl

theorem gives_svcringWrite_off (hn : v.getLsbD 0 = false ∨ bits v.toNat 4 1 < 6 ∨ 12 < bits v.toNat 4 1) : Gives .svcringWrite (.svcringWrite t v) s (fun s =>
    { s with ten.svcring := nset 0 s.ten.svcring t (v &&& 0xFFFFFFFFFFFFF01E).toNat }) := by
  have off : (bit v.toNat 0 && decide (6 ≤ bits v.toNat 4 1) && decide (bits v.toNat 4 1 ≤ 12)) = false := by
    rw [← Bool.not_eq_true, svcringOn_iff]
    rintro ⟨h0, h6, h12⟩
    rcases hn with e | e | e
    · exact Bool.false_ne_true (e.symm.trans h0)
    · omega
    · omega
  refine ⟨rfl, (exec_svcringWrite h off).trans ?_⟩
  rw [← svcring_off]
  rfl

end Ring

/-! ## Replies -/

theorem State.answers_of_call {s : State} {r : List Byte} (h : s.callOf (replyTo r).1 (replyTo r).2.1 (replyTo r).2.2 = some (fieldOf r 0 8, false)) : s.answers r = true := by
  unfold State.answers
  dsimp only
  rw [h]
  exact beq_self_eq_true _

theorem State.answers_of_none {s : State} {r : List Byte} (h : s.callOf (replyTo r).1 (replyTo r).2.1 (replyTo r).2.2 = none) : s.answers r = false := by
  unfold State.answers
  dsimp only
  rw [h]

section Replies

variable {s : State} {p f off width t : Nat} {v : DWord}

/-- What a daemon writes through an interface that has left RUN is refused (R91). -/
theorem gives_replies_refused (h : s.refuses p f = true) : Gives .svcheadWrite (.svcheadWrite p f v) s (fun s => s.toHost (.completerAbort p f)) ∧
    Gives .svrplyWrite (.svrplyWrite p f off width v) s (fun s => s.toHost (.completerAbort p f)) ∧ Gives .svrgo (.svrgo p f v) s (fun s => s.toHost (.completerAbort p f)) :=
  ⟨.of_pos h rfl rfl, .of_pos h rfl rfl, .of_pos h rfl rfl⟩

variable (hr : s.refuses p f = false)

include hr

/-- The consumer index moves, and what has waited for room goes on (R384). -/
theorem gives_svcheadWrite (ht : s.tenantOf p f = some t) : Gives .svcheadWrite (.svcheadWrite p f v) s (fun s =>
    { s with ten.cidx := nset 0 s.ten.cidx t (v.toNat % 2 ^ 16) }.wakeSaved (fun x => s.tenantOfCtx x.ctx == t) Hold.ring) := by
  have on : (s.hears (.svcheadWrite p f v)).tenantOf p f = some t := ht
  refine ⟨rfl, congrArg Host.Outcome.next ((if_neg (Bool.eq_false_iff.mp hr)).trans ?_)⟩
  rw [on, ← bits_zero v.toNat 15]

theorem gives_svrplyWrite (hw : width = 4 ∨ width = 8) (ho : off % width = 0) : Gives .svrplyWrite (.svrplyWrite p f off width v) s (fun s =>
    { s with ten.svrply := tset s.ten.svrply (p, f) (overlay (s.svrply p f) (off - 0x100) (leBytes width v.toNat)) }) :=
  ⟨rfl, congrArg Host.Outcome.next ((if_neg (Bool.eq_false_iff.mp hr)).trans (if_pos ⟨hw, ho⟩))⟩

theorem gives_svrplyWrite_bad (ho : off % width ≠ 0) : Gives .svrplyWrite (.svrplyWrite p f off width v) s (fun s => s.badReply (s.tenantOf p f) (srcPort p) off v.toNat) :=
  ⟨rfl, congrArg Host.Outcome.next ((if_neg (Bool.eq_false_iff.mp hr)).trans (if_neg fun h => ho h.2))⟩

variable (ht : s.tenantOf p f = some t)

include ht

/-- SVRGO of a function of a tenant (R385). -/
theorem exec_svrgo : exec .svrgo (s.hears (.svrgo p f v)) = .next (
    let c := replyTo (s.svrply p f)
    if (s.launch c.1).isSome && s.tenantOfCtx c.1 == t && s.answers (s.svrply p f) then (s.hears (.svrgo p f v)).acceptReply c.1 c.2.1 c.2.2 (s.svrply p f)
    else (s.hears (.svrgo p f v)).badReply (some t) (srcPort p) 0x120 v.toNat) := by
  have on : (s.hears (.svrgo p f v)).tenantOf p f = some t := ht
  refine congrArg Host.Outcome.next ((if_neg (Bool.eq_false_iff.mp hr)).trans ?_)
  dsimp only
  rw [on]
  rfl

/-- A staged reply to a call that waits for it is accepted (R385). -/
theorem gives_svrgo_accepted (hl : (s.launch (replyTo (s.svrply p f)).1).isSome = true) (ho : s.tenantOfCtx (replyTo (s.svrply p f)).1 = t) (ha : s.answers (s.svrply p f) = true) :
    Gives .svrgo (.svrgo p f v) s (fun u =>
      u.acceptReply (replyTo (s.svrply p f)).1 (replyTo (s.svrply p f)).2.1 (replyTo (s.svrply p f)).2.2 (s.svrply p f)) :=
  .of_pos (by rw [hl, ho, ha]; simp) rfl (exec_svrgo hr ht)

/-- A staged reply that nothing waits for is BADREPLY (R385). -/
theorem gives_svrgo_bad (ha : s.answers (s.svrply p f) = false) : Gives .svrgo (.svrgo p f v) s (fun u => u.badReply (some t) (srcPort p) 0x120 v.toNat) :=
  .of_neg (by rw [ha]; simp) rfl (exec_svrgo hr ht)

end Replies

section HearthReplies

variable {s : State} {h : Nat} {r : List Byte}

/-- The service of any Hearth core answers a caller, whichever ring took the call (R43, R70). -/
theorem gives_svcReply_accepted (hh : h < 48) (hn : s.host.halted = false) (hl : (s.launch (replyTo r).1).isSome = true) (hm : bit (s.modesOfCtx (replyTo r).1) 3 = false) (ha : s.answers r = true) :
    Gives .svcReply (.svcReply h r) s (fun s => s.acceptReply (replyTo r).1 (replyTo r).2.1 (replyTo r).2.2 r) :=
  .of_pos (c := (decide (h < 48) && !s.host.halted && (s.launch (replyTo r).1).isSome && !bit (s.modesOfCtx (replyTo r).1) 3 && s.answers r) = true)
    (by rw [decide_eq_true hh, hn, hl, hm, ha]; rfl) rfl rfl

theorem gives_svcReply_ignored (ha : s.answers r = false) : Gives .svcReply (.svcReply h r) s id :=
  .of_neg (c := (decide (h < 48) && !s.host.halted && (s.launch (replyTo r).1).isSome && !bit (s.modesOfCtx (replyTo r).1) 3 && s.answers r) = true)
    (by rw [ha]; simp) rfl rfl

end HearthReplies

/-! ## Requests forwarded -/

/-- s with a request counted in the ring of core k, and its bytes stored there (R43, R44). -/
theorem State.forward_of_ready {s : State} {h i k : Nat} (hh : s.hearthRuns h = true) (hk : s.hearthRuns k = true) (hne : h ≠ k)
    (hi : i < (nget 0 s.ten.hreqTail h + 2 ^ 32 - nget 0 s.ten.hreqHead h) % 2 ^ 32) (hf : s.hreqFull k = false) (hs : s.storeReady (s.hreqSlot k) 64 = true)
    (hr : s.readReady (hreqAddr ((tget s.ten.hreqBase h).getD 0) ((nget 0 s.ten.hreqHead h + i) % 4096)) 64 = true) :
    (s.forward h i k).ten = { s.ten with hreqTail := nset 0 s.ten.hreqTail k ((nget 0 s.ten.hreqTail k + 1) % 2 ^ 32) } := by
  unfold State.forward
  dsimp only
  rw [if_neg (by rw [hh, hk, hf, hs, hr, beq_false_of_ne hne, decide_eq_false (Nat.not_le_of_lt hi)]; decide)]
  rw [State.updHearth_ten, (State.devStore_writes _ _ _ _).ten]

/-! ## Restarts -/

section Restarts

/-- The Hearth core starts at ENTRY (R45, R49). -/
def State.hearthUp (s : State) (h : Nat) : State := s.updHearth h (fun x => x.start s.entryPc)

/-- LOST, for a call (R72). -/
def lostReply (e : List Byte) : List Byte := overlay (e.take 16) 8 (leBytes 2 1) ++ zeros 16

/-- An entry of the ring of a core that restarts is answered LOST where its call has key 0 and waits (R72). -/
def State.answerLost (h head : Nat) (s : State) (i : Nat) : State :=
  let e := s.hreqEntry h (head + i)
  if fieldOf e 0 8 = 0 ∧ s.answers e then s.acceptReply (replyTo e).1 (replyTo e).2.1 (replyTo e).2.2 (lostReply e) else s

variable {s : State} {h : Nat}

/-- The entries of a ring that the core has not taken are looked at in turn (R72). -/
theorem exec_hearthRestart {n : Nat} (hh : s.host.halted = false) (hd : s.host.held = false)
    (hn : (nget 0 s.ten.hreqTail h + 2 ^ 32 - nget 0 s.ten.hreqHead h) % 2 ^ 32 = n) : exec .hearthRestart (s.hears (.hearthRestart h)) =
    .next ((List.range n).foldl (State.answerLost h (nget 0 s.ten.hreqHead h)) ((s.hears (.hearthRestart h)).hearthUp h)) := by
  subst hn
  exact congrArg Host.Outcome.next (if_neg (c := (s.host.halted || s.host.held) = true) (by rw [hh, hd]; decide))

/-- What an entry holds does not depend on the cores, nor on the message that happens. -/
theorem State.hreqEntry_hearthUp (s : State) (e : Ev) (h i : Nat) : ((s.hears e).hearthUp h).hreqEntry h i = s.hreqEntry h i := rfl

theorem State.answers_hearthUp (s : State) (e : Ev) (h : Nat) (r : List Byte) : ((s.hears e).hearthUp h).answers r = s.answers r := rfl

theorem gives_hearthRestart_held (hh : s.host.halted = true ∨ s.host.held = true) : Gives .hearthRestart (.hearthRestart h) s id :=
  .of_pos (c := (s.host.halted || s.host.held) = true) ((Bool.or_eq_true ..).mpr hh) rfl rfl

variable (hh : s.host.halted = false) (hd : s.host.held = false)

include hh hd

theorem gives_hearthRestart_empty (ht : nget 0 s.ten.hreqTail h = nget 0 s.ten.hreqHead h) : Gives .hearthRestart (.hearthRestart h) s (fun s => s.hearthUp h) :=
  ⟨rfl, exec_hearthRestart (n := 0) hh hd (by omega)⟩

/-- One entry is left. -/
theorem exec_hearthRestart_one (ht : nget 0 s.ten.hreqTail h = nget 0 s.ten.hreqHead h + 1) : exec .hearthRestart (s.hears (.hearthRestart h)) =
    .next (let e := s.hreqEntry h (nget 0 s.ten.hreqHead h)
      if fieldOf e 0 8 = 0 ∧ s.answers e = true then ((s.hears (.hearthRestart h)).hearthUp h).acceptReply (replyTo e).1 (replyTo e).2.1 (replyTo e).2.2 (lostReply e)
      else (s.hears (.hearthRestart h)).hearthUp h) := by
  rw [exec_hearthRestart (n := 1) hh hd (by omega), List.range_one, List.foldl_cons, List.foldl_nil]
  unfold State.answerLost
  rw [State.hreqEntry_hearthUp]
  dsimp only
  rw [State.answers_hearthUp, Nat.add_zero]

end Restarts

/-- Settles O43, event by event. -/
theorem serviceEvents : Obligations.ServiceEvents := by
  intro s t p f off width h v r
  refine ⟨gives_svcringWrite_kept, gives_svcringWrite_on, gives_svcringWrite_off, gives_replies_refused, fun hr => ⟨gives_svcheadWrite hr, gives_svrplyWrite hr, fun _ => gives_svrplyWrite_bad hr,
    fun ht hl ho hc => gives_svrgo_accepted hr ht hl ho (State.answers_of_call hc), fun ht hc => gives_svrgo_bad hr ht (State.answers_of_none hc)⟩,
    ⟨fun hh hn hl hm hc => gives_svcReply_accepted hh hn hl hm (State.answers_of_call hc), fun hc => gives_svcReply_ignored (State.answers_of_none hc)⟩,
    fun i k hh hk hne hi hf hs hrd => ?forward, gives_hearthRestart_held, fun hh hd => ⟨fun ht _ => gives_hearthRestart_empty hh hd ht, fun ht _ => ⟨fun hk => ?keyed, fun hk hc => ?lost⟩⟩⟩
  case forward =>
    rw [State.forward_of_ready hh hk hne hi hf hs hrd]
    exact ⟨nget_nset_self .., rfl, fun j hj => nget_nset_ne _ _ _ hj⟩
  case keyed => exact .of_neg (fun e => hk e.1) rfl (exec_hearthRestart_one hh hd ht)
  case lost => exact .of_pos ⟨hk, State.answers_of_call (by rw [hk]; exact hc)⟩ rfl (exec_hearthRestart_one hh hd ht)

end Sys2Proof.Machine
end

section
/-! SUPPORT. Records at a queue's head (R56 to R63): how the Reeve comes to read one, and what each of its looks at it comes to. -/

namespace Sys2Proof.Machine

open Sys2Proof

/-! ## Reading a head -/

theorem State.Sent.tagOk {s t : State} (h : s.Sent t) (q : Queue) (b : List Byte) : t.tagOk q b = s.tagOk q b := by
  obtain ⟨_, _, _, _, rfl⟩ := h
  rfl

theorem State.Sent.isControl {s t : State} (h : s.Sent t) (q : Queue) (b : List Byte) : t.isControl q b = s.isControl q b := by
  rw [State.isControl, h.tagOk]
  rfl

theorem State.Sent.queue {s t : State} (h : s.Sent t) (n : Nat) : t.queue n = s.queue n := by rw [State.queue, h.ten]; rfl

theorem Dispatchable.of_sent {s t : State} {q : Queue} {b : List Byte} {ctx hdr : Nat} (h : s.Sent t) (hd : Dispatchable s q b ctx hdr) : Dispatchable t q b ctx hdr := by
  obtain ⟨_, _, _, _, rfl⟩ := h
  exact hd

theorem State.readHead_sent (s : State) (q : Queue) : s.Sent (s.readHead q) := by
  unfold State.readHead
  split
  · exact s.readOver_sent ..
  · exact .refl s

/-- What stands at a queue's head does not depend on the message that happens. -/
theorem HeadIs.hears {s : State} {q : Queue} {b : List Byte} (h : HeadIs s q b) (e : Ev) : HeadIs (s.hears e) q b := by
  obtain ⟨hq, hne, pa, attr, hx, hb, ho, hp⟩ := h
  have same := s.readOver_hears e pa 256
  exact ⟨hq, hne, pa, attr, hx, hb, by rw [same]; exact ho, by rw [same]; exact hp⟩

section Heads

variable {s : State} {q : Queue} {b : List Byte} (h : HeadIs s q b)

include h

/-- A record that can be read is read, and given to f. -/
theorem State.readRecord_of_head (hq : q.qst ≠ 4) (again : Ev) (f : State → Queue → List Byte → State) : s.readRecord q.q again f = f (s.readHead q) q b := by
  obtain ⟨found, hne, pa, attr, hx, hb, ho, hp⟩ := h
  unfold State.readRecord State.readHead
  rw [found]
  dsimp only
  rw [if_neg (by simpa using hne), if_neg hq, hx, hb]
  exact (ite_not_of_true ho).trans (if_neg (Bool.eq_false_iff.mp hp))

/-- A DEAD queue drops its records unread (R60). -/
theorem State.readRecord_of_dead (hq : q.qst = 4) (again : Ev) (f : State → Queue → List Byte → State) : s.readRecord q.q again f = s.pastRecord q := by
  obtain ⟨found, hne, -⟩ := h
  unfold State.readRecord
  rw [found]
  dsimp only
  rw [if_neg (by simpa using hne), if_pos hq]

end Heads

/-! ## The messages that look at a head -/

section Looks

variable {s : State} {q : Queue} {b : List Byte} (h : HeadIs s q b)

include h

theorem gives_record_dead (hq : q.qst = 4) : Gives .launchRecord (.launchRecord q.q) s (fun s => s.pastRecord q) ∧ Gives .controlRecord (.controlRecord q.q) s (fun s => s.pastRecord q) :=
  ⟨⟨rfl, congrArg Host.Outcome.next (State.readRecord_of_dead (h.hears _) hq _ _)⟩, ⟨rfl, congrArg Host.Outcome.next (State.readRecord_of_dead (h.hears _) hq _ _)⟩⟩

variable (hq : q.qst ≠ 4)

include hq

/-- LAUNCH_RECORD leaves a record that is held, and a control record to CONTROL_RECORD (R60). -/
theorem exec_launchRecord : exec .launchRecord (s.hears (.launchRecord q.q)) = .next (let u := (s.hears (.launchRecord q.q)).readHead q
    if q.held then u.pokeReeve else if s.isControl q b then u.urge (.controlRecord q.q) else u.launchRecord q b (.launchRecord q.q)) := by
  refine congrArg Host.Outcome.next ((State.readRecord_of_head (h.hears _) hq _ _).trans ?_)
  dsimp only
  rw [(State.readHead_sent _ q).isControl]
  rfl

theorem exec_launchRecord_first (hh : q.held = false) (hc : s.isControl q b = false) : exec .launchRecord (s.hears (.launchRecord q.q)) =
    .next (((s.hears (.launchRecord q.q)).readHead q).launchRecord q b (.launchRecord q.q)) := by
  rw [exec_launchRecord h hq, hh, hc]
  rfl

theorem exec_queueHeadRetry (hh : q.held = true) : exec .queueHeadRetry (s.hears (.queueHeadRetry q.q)) =
    .next (((s.hears (.queueHeadRetry q.q)).readHead q).launchRecord q b (.queueHeadRetry q.q)) := by
  have held : (s.hears (.queueHeadRetry q.q)).headHeld q.q = true := by
    unfold State.headHeld
    rw [(h.hears _).1]
    exact hh
  exact congrArg Host.Outcome.next ((if_pos held).trans (State.readRecord_of_head (h.hears _) hq _ _))

theorem gives_launchRecord_control (hc : s.isControl q b = true) : Gives .launchRecord (.launchRecord q.q) s (fun s =>
    if q.held then (s.readHead q).pokeReeve else (s.readHead q).urge (.controlRecord q.q)) := by
  refine ⟨rfl, ?_⟩
  rw [exec_launchRecord h hq, hc]
  rfl

theorem exec_controlRecord (hc : s.isControl q b = true) : exec .controlRecord (s.hears (.controlRecord q.q)) =
    .next (((s.hears (.controlRecord q.q)).readHead q).controlRecord q b) := by
  refine congrArg Host.Outcome.next ((State.readRecord_of_head (h.hears _) hq _ _).trans (if_pos ?_))
  rw [(State.readHead_sent _ q).isControl]
  exact hc

end Looks

/-! ## Records that are dropped (R60) -/

section Drops

variable {s : State} {q : Queue} {b : List Byte} {e : Ev}

theorem State.isControl_of_open (h : q.secure = false) : s.isControl q b = false := by rw [State.isControl, h]; rfl

theorem State.isControl_of_badTag (h : s.tagOk q b = false) : s.isControl q b = false := by rw [State.isControl, h, Bool.and_false]

theorem State.isControl_of_kind (h : (recordOf b).kind ≠ 4) : s.isControl q b = false := by
  have kind : (fieldOf b 0 1 == 4) = false := beq_false_of_ne h
  rw [State.isControl, kind, Bool.and_false, Bool.false_and]

theorem State.launchRecord_of_open (hq : q.qst ≠ 4) (hs : q.secure = false) : s.launchRecord q b e = settleRecord q (s.takeRecord q b) e :=
  (if_neg hq).trans (ite_not_of_false hs)

variable (hq : q.qst ≠ 4) (hs : q.secure = true)

include hq hs

theorem State.launchRecord_of_badTag (ht : s.tagOk q b = false) : s.launchRecord q b e = (s.dropLog q 0x21 (fieldOf b 192 8)).pastRecord q :=
  (if_neg hq).trans ((ite_not_of_true hs).trans (ite_not_of_false ht))

variable (ht : s.tagOk q b = true)

include ht

theorem State.launchRecord_of_gap (ho : q.qst ≠ 1) : s.launchRecord q b e = (s.dropLog q 0x24 (fieldOf b 192 8)).pastRecord q :=
  (if_neg hq).trans ((ite_not_of_true hs).trans ((ite_not_of_true ht).trans (if_pos ho)))

end Drops

section Secured

variable {s : State} {q : Queue} {b : List Byte} {e : Ev} (hs : q.secure = true) (hq : q.qst = 1) (ht : s.tagOk q b = true)

include hs hq ht

/-- A record with a valid tag on an OPEN queue, by its sequence number (R60). -/
theorem State.launchRecord_of_expecting : s.launchRecord q b e =
    if fieldOf b 192 8 < q.expseq then (s.dropLog q 0x22 (fieldOf b 192 8)).pastRecord q
    else if q.expseq < fieldOf b 192 8 then (s.dropLog q 0x23 (fieldOf b 192 8)).pastRecord { q with qst := 2 }
    else if fieldOf b 192 8 = 2 ^ 64 - 1 then (s.dropLog q 0x25 (fieldOf b 192 8)).pastRecord { q with qst := 3 }
    else match s.takeRecord q b with
      | .done s1 => (s1.countTaken).pastRecord { q with expseq := q.expseq + 1 }
      | x => settleRecord q x e :=
  (if_neg (by rw [hq]; decide)).trans ((ite_not_of_true hs).trans ((ite_not_of_true ht).trans (if_neg (not_not.mpr hq))))

theorem State.launchRecord_of_old (h : fieldOf b 192 8 < q.expseq) : s.launchRecord q b e = (s.dropLog q 0x22 (fieldOf b 192 8)).pastRecord q :=
  (State.launchRecord_of_expecting hs hq ht).trans (if_pos h)

theorem State.launchRecord_of_skip (h : q.expseq < fieldOf b 192 8) : s.launchRecord q b e = (s.dropLog q 0x23 (fieldOf b 192 8)).pastRecord { q with qst := 2 } :=
  (State.launchRecord_of_expecting hs hq ht).trans ((if_neg (Nat.not_lt_of_lt h)).trans (if_pos h))

theorem State.launchRecord_of_last (h : fieldOf b 192 8 = q.expseq) (hl : fieldOf b 192 8 = 2 ^ 64 - 1) :
    s.launchRecord q b e = (s.dropLog q 0x25 (fieldOf b 192 8)).pastRecord { q with qst := 3 } :=
  (State.launchRecord_of_expecting hs hq ht).trans ((if_neg (Nat.not_lt_of_le h.ge)).trans ((if_neg (Nat.not_lt_of_le h.le)).trans (if_pos hl)))

/-- The record expected is taken, and what the queue expects rises (R60). -/
theorem State.launchRecord_of_next {s1 : State} (h : fieldOf b 192 8 = q.expseq) (hl : fieldOf b 192 8 ≠ 2 ^ 64 - 1) (hd : s.takeRecord q b = .done s1) :
    s.launchRecord q b e = (s1.countTaken).pastRecord { q with expseq := q.expseq + 1 } := by
  refine (State.launchRecord_of_expecting hs hq ht).trans ((if_neg (Nat.not_lt_of_le h.ge)).trans ((if_neg (Nat.not_lt_of_le h.le)).trans ((if_neg hl).trans ?_)))
  rw [hd]

end Secured

section Controls

variable {s : State} {q : Queue} {b : List Byte} (hq : q.qst ≠ 4)

include hq

/-- A control record that is new opens its queue (R60, R61). -/
theorem State.controlRecord_of_new (hk : fieldOf b 96 1 = 0xFF) (hn : q.ctlseq < fieldOf b 88 8) : s.controlRecord q b =
    (s.logEvent q.tenant 0 0x26 (some 2) [(24, 8, fieldOf b 80 8), (20, 4, fieldOf b 88 8), (16, 4, q.q)]).pastRecord { q with qst := 1, ctlseq := fieldOf b 88 8, expseq := fieldOf b 80 8 } := by
  refine (if_neg hq).trans ((if_pos hn).trans ?_)
  rw [if_pos hk]

theorem State.controlRecord_of_old (hn : fieldOf b 88 8 ≤ q.ctlseq) : s.controlRecord q b = (s.dropLog q (if q.qst = 1 then 0x22 else 0x24) (fieldOf b 192 8)).pastRecord q :=
  (if_neg hq).trans (if_neg (Nat.not_lt_of_le hn))

end Controls

end Sys2Proof.Machine
end

section
/-! SUPPORT. The dispatch of a launch (R165 to R167): what the Reeve's steps on the way to its first task control blocks leave of the launches, of the queues and of the blocks taken. -/

namespace Sys2Proof.Machine

open Sys2Proof

theorem State.Writes.run {s t : State} (h : s.Writes t) : t.run = s.run := by obtain ⟨_, _, _, _, _, _, _, rfl⟩ := h; rfl

/-- From s to t the queues and the save blocks taken stay, and of each launch all but how far it has been cut. -/
def State.Cuts (s t : State) : Prop := t.ten.queues = s.ten.queues ∧ t.run.blocks = s.run.blocks ∧ ∀ c l, s.launch c = some l → ∃ n, t.launch c = some { l with cut := n }

namespace State.Cuts

theorem of_launches {s t : State} (hq : t.ten.queues = s.ten.queues) (hb : t.run.blocks = s.run.blocks) (hl : t.run.launches = s.run.launches) : s.Cuts t :=
  ⟨hq, hb, fun c l h => ⟨l.cut, by rw [State.launch, hl]; exact h⟩⟩

theorem refl (s : State) : s.Cuts s := of_launches rfl rfl rfl

theorem trans {s t u : State} (h : s.Cuts t) (k : t.Cuts u) : s.Cuts u := by
  refine ⟨k.1.trans h.1, k.2.1.trans h.2.1, fun c l hl => ?_⟩
  obtain ⟨n, hn⟩ := h.2.2 c l hl
  obtain ⟨m, hm⟩ := k.2.2 c _ hn
  exact ⟨m, hm⟩

theorem of_writes {s t : State} (h : s.Writes t) : s.Cuts t := of_launches (by rw [h.ten]) (by rw [h.run]) (by rw [h.run])

theorem foldl {β : Type} {f : State → β → State} (h : ∀ (s : State) x, s.Cuts (f s x)) (l : List β) (s : State) : s.Cuts (l.foldl f s) :=
  List.foldlRecOn (motive := fun t => s.Cuts t) l f (refl s) (fun t ht x _ => ht.trans (h t x))

end State.Cuts

/-! ## The notice board -/

theorem State.devStoreAfter_writes (s : State) (pa : Nat) (bytes : List Byte) (before : Nat) : s.Writes (s.devStoreAfter pa bytes before) :=
  .ite (s.devStore_writes _ _ _) ⟨_, _, _, _, _, _, _, rfl⟩

theorem State.boardStore_writes (s : State) (off : Nat) (bytes : List Byte) : s.Writes (s.boardStore off bytes) := by
  unfold State.boardStore
  split
  · exact s.devStoreAfter_writes ..
  · exact s.devStore_writes ..

theorem State.Cuts.board {s t : State} (h : s.Cuts t) (off : Nat) (bytes : List Byte) : s.Cuts (t.boardStore off bytes) := h.trans (.of_writes (t.boardStore_writes off bytes))

theorem State.nbRecord_cuts (s : State) (r : NbRec) : s.Cuts (s.nbRecord r) := by
  unfold State.nbRecord
  split
  · exact .refl s
  · refine .board (.board ?_ _ _) _ _
    exact .of_launches rfl rfl rfl

theorem State.attach_cuts (s : State) (l : Launch) : s.Cuts (s.attach l) := by
  unfold State.attach
  split
  · refine .board (.trans ?_ (State.nbRecord_cuts _ _)) _ _
    exact .of_launches rfl rfl rfl
  · exact .refl s

/-! ## Task control blocks -/

theorem State.addTcb_cuts (s : State) (t : TCB) : s.Cuts (s.addTcb t) := .of_launches rfl rfl rfl

theorem State.pokePinned_cuts (s : State) (ctx group : Nat) : s.Cuts (s.pokePinned ctx group) := by
  unfold State.pokePinned
  split
  · split
    · exact .refl s
    · exact .of_launches rfl rfl rfl
  · exact .refl s

/-- A launch is found again after a change that keeps its context. -/
theorem State.launch_updLaunch (s : State) (ctx c : Nat) {f : Launch → Launch} (hf : ∀ l, (f l).ctx = l.ctx) :
    (s.updLaunch ctx f).launch c = (s.launch c).map (fun l => if l.ctx = ctx then f l else l) := by
  have same : (fun l : Launch => l.ctx == c) ∘ (fun l => if l.ctx = ctx then f l else l) = fun l => l.ctx == c := by
    funext l
    simp only [Function.comp_apply]
    split
    · rw [hf]
    · rfl
  unfold State.launch State.updLaunch
  rw [List.find?_map, same]

theorem State.updLaunch_cut_cuts (s : State) (ctx n : Nat) : s.Cuts (s.updLaunch ctx (fun l => { l with cut := l.cut + n })) := by
  refine ⟨rfl, rfl, fun c l h => ?_⟩
  rw [State.launch_updLaunch s ctx c (f := fun l => { l with cut := l.cut + n }) fun _ => rfl, h]
  by_cases hc : l.ctx = ctx
  · exact ⟨l.cut + n, congrArg some (if_pos hc)⟩
  · exact ⟨l.cut, congrArg some (if_neg hc)⟩

theorem State.cutTcbs_cuts (k : Nat) (s : State) (ctx : Nat) : s.Cuts (State.cutTcbs k s ctx) := by
  induction k generalizing s with
  | zero => exact .refl s
  | succ k ih =>
    unfold State.cutTcbs
    split
    · exact .refl s
    · next l _ =>
      have cut (n : Nat) : s.Cuts ((s.updLaunch ctx (fun l => { l with cut := l.cut + n })).addTcb (l.tcb l.cut n none)) := (s.updLaunch_cut_cuts ctx n).trans (State.addTcb_cuts _ _)
      split
      · exact .refl s
      · dsimp only
        split
        · exact ((s.updLaunch_cut_cuts ctx 1).trans (State.pokePinned_cuts ..)).trans (ih _)
        · split
          · exact (cut _).trans (ih _)
          · exact cut _

/-- A launch that is no graph starts with its first task control blocks (R166, R167). -/
theorem State.startLaunch_cuts (s : State) {l : Launch} (h : l.graph = none) : s.Cuts (s.startLaunch l) := by
  unfold State.startLaunch
  rw [h]
  exact (State.Cuts.foldl (fun t p => t.addTcb_cuts _) _ s).trans (State.cutTcbs_cuts ..)

end Sys2Proof.Machine
end

section
/-! SUPPORT. Launch records that are dispatched (R165) or rejected (R63), and the queue behind them. -/

namespace Sys2Proof.Machine

open Sys2Proof

/-! ## HEAD moves on -/

theorem State.pokeReeve_cuts (s : State) : s.Cuts s.pokeReeve := by
  unfold State.pokeReeve
  split
  · exact .refl s
  · split
    · exact .of_launches rfl rfl rfl
    · exact .refl s

theorem State.syncQueue_writes (s : State) (x : Queue) (qst : Nat) : s.Writes (s.syncQueue x qst) := (s.devStore_writes _ _ _).trans (State.devStore_writes _ _ _ _)

/-- A queue that is not OFF is found again after a change of it. -/
theorem State.queue_updQueue {s : State} {q x : Queue} (h : s.queue q.q = some q) (hx : x.q = q.q) : (s.updQueue q.q (fun _ => x)).queue q.q = some x := by
  have same : (fun y : Queue => y.q == q.q) ∘ (fun y => if y.q = q.q then x else y) = fun y => y.q == q.q := by
    funext y
    simp only [Function.comp_apply]
    split
    · next e => rw [hx, e]
    · rfl
  unfold State.queue at h
  unfold State.queue State.updQueue
  rw [List.find?_map, same, h]
  exact congrArg some (if_pos rfl)

section Past

variable {s : State} {q x : Queue} (hx : x.q = q.q)

include hx

/-- The queue after its HEAD has moved (R54, R55). -/
theorem State.pastRecord_queue (h : s.queue q.q = some q) : (s.pastRecord x).queue q.q = some { x with head := x.past, held := false, again := false } := by
  unfold State.pastRecord State.putQueue
  rw [State.queue, (State.pokeReeve_cuts _).1, (State.syncQueue_writes _ _ _).ten]
  have moved := State.queue_updQueue (x := { x with head := x.past, held := false, again := false }) h hx
  rw [← hx] at moved ⊢
  exact moved

end Past

/-- The launches stay. -/
theorem State.pastRecord_run (s : State) (x : Queue) : (s.pastRecord x).run.blocks = s.run.blocks ∧ ∀ c l, s.launch c = some l → ∃ n, (s.pastRecord x).launch c = some { l with cut := n } := by
  have synced := State.Cuts.of_writes ((s.updQueue x.q (fun _ => { x with head := x.past, held := false, again := false })).syncQueue_writes { x with head := x.past, held := false, again := false } x.qst)
  exact (synced.trans (State.pokeReeve_cuts _)).2

/-! ## Dispatch -/

/-- The launch of a kernel record outside a world (R165). -/
def State.kernelLaunch (s : State) (q : Queue) (r : LRec) (ctx hdr : Nat) : Launch :=
  { ctx := ctx, tenant := q.tenant, queue := q.q, cls := q.cls, pins := s.pinsOf q.q r.groups, world := 0x7F, lrec := r, hdr := hdr, arith := 0, ending := none, released := false, cut := 0,
    waitSince := s.ctl.time, graph := none, est := none }

/-- s with a launch in its table, and its header block taken and cleared (R41, R165). -/
def State.enterLaunch (s : State) (l : Launch) : State :=
  { s with run.launches := s.run.launches ++ [l], run.blocks := s.run.blocks ++ [l.hdr] }.devStore l.hdr (zeros 1024) none

/-- s once a launch has been dispatched into its first task control blocks (R165 to R168). -/
def State.dispatched (s : State) (l : Launch) : State := (((s.enterLaunch l).attach l).startLaunch l).after (100 * perUs) (.preemptTimer l.ctx)

/-- With a table entry and a header block free a kernel record is dispatched (R165). -/
theorem State.dispatch_of_free {s : State} {q : Queue} {r : LRec} {ctx hdr : Nat} (h2 : r.kind ≠ 2) (h3 : r.kind ≠ 3) (hs : bit r.flags 1 = false) (hc : s.freeCtx = some ctx)
    (hh : s.freeBlocks 1 = some [hdr]) : s.dispatch q r [] = .done (s.dispatched (s.kernelLaunch q r ctx hdr)) := by
  unfold State.dispatch
  rw [hc, hh, hs]
  simp only [h2, h3, if_false, Bool.false_eq_true]
  unfold State.dispatched State.enterLaunch State.kernelLaunch
  rfl

section Dispatch

variable {s : State} {q : Queue} {b : List Byte} {ctx hdr : Nat} (hd : Dispatchable s q b ctx hdr)

include hd

/-- A kernel record whose checks pass is dispatched (R165). -/
theorem State.takeRecord_of_dispatchable : s.takeRecord q b = .done (s.dispatched (s.kernelLaunch q (recordOf b) ctx hdr)) := by
  obtain ⟨hb, hk, hs, hm, hn, hc, hh⟩ := hd
  have mode : (!bit (s.tModes q.tenant) 0 && !bit s.host.hartid.toNat 31) = false := by rcases hm with h | h <;> simp [h]
  unfold State.takeRecord
  dsimp only
  rw [if_neg (by simp [hb, hk]), if_neg (by rw [mode]; decide), if_neg (by simp [hs]), if_neg (by simp [hs]), if_neg (by simp [hk]), if_neg (by simp [hn])]
  exact State.dispatch_of_free (by rw [hk]; decide) (by rw [hk]; decide) hs hc hh

theorem State.launch_enterLaunch {l : Launch} (hl : l.ctx = ctx) : (s.enterLaunch l).launch ctx = some l := by
  obtain ⟨-, -, -, -, -, hc, -⟩ := hd
  have free : s.launch ctx = none := by simpa using List.find?_some hc
  unfold State.launch at free
  unfold State.enterLaunch
  rw [State.launch, (State.devStore_writes _ _ _ _).run]
  dsimp only
  rw [List.find?_append, free]
  simp [hl]

/-- After a dispatch the launch is in the table, its header block is taken, and the queues are as before (R165). -/
theorem State.dispatched_launch {l : Launch} (hl : l.ctx = ctx) (hg : l.graph = none) : (s.dispatched l).ten.queues = s.ten.queues ∧ l.hdr ∈ (s.dispatched l).run.blocks ∧
    ∃ n, (s.dispatched l).launch ctx = some { l with cut := n } := by
  have entered : (s.enterLaunch l).Cuts (s.dispatched l) := ((State.attach_cuts _ l).trans (State.startLaunch_cuts _ hg)).trans (.of_launches rfl rfl rfl)
  obtain ⟨hq, hb, hl'⟩ := entered
  refine ⟨hq.trans ?_, ?_, hl' _ _ (State.launch_enterLaunch hd hl)⟩
  · rw [State.enterLaunch, (State.devStore_writes _ _ _ _).ten]
  · rw [hb, State.enterLaunch, (State.devStore_writes _ _ _ _).run]
    simp

end Dispatch

/-- What the dispatch of a record leaves: its launch in the table, HEAD past it, and its header block taken (R55, R165). -/
def Launched (q : Queue) (b : List Byte) (ctx hdr : Nat) (t : State) : Prop :=
  (∃ l, t.launch ctx = some l ∧ l.lrec = recordOf b ∧ l.tenant = q.tenant ∧ l.queue = q.q ∧ l.hdr = hdr ∧ l.world = 0x7F ∧ l.ending = none ∧ l.arith = 0) ∧
    (∃ x, t.queue q.q = some x ∧ x.head = q.past ∧ x.held = false ∧ x.qst = q.qst) ∧ hdr ∈ t.run.blocks

/-- A record that is dispatched is launched, whatever its queue then expects. -/
theorem launched_of_dispatchable {s : State} {q : Queue} {b : List Byte} {ctx hdr : Nat} (hq : s.queue q.q = some q) (hd : Dispatchable s q b ctx hdr) (e : Nat) :
    let t := ((s.dispatched (s.kernelLaunch q (recordOf b) ctx hdr)).countTaken).pastRecord { q with expseq := e }
    Launched q b ctx hdr t ∧ ∃ x, t.queue q.q = some x ∧ x.expseq = e := by
  obtain ⟨queues, block, n, found⟩ := State.dispatched_launch hd (l := s.kernelLaunch q (recordOf b) ctx hdr) rfl rfl
  have on : ((s.dispatched (s.kernelLaunch q (recordOf b) ctx hdr)).countTaken).queue q.q = some q := by
    rw [State.queue]
    exact (congrArg (List.find? (fun x : Queue => x.q == q.q)) queues).trans hq
  have moved := State.pastRecord_queue (q := q) (x := { q with expseq := e }) rfl on
  obtain ⟨blocks, launches⟩ := State.pastRecord_run ((s.dispatched (s.kernelLaunch q (recordOf b) ctx hdr)).countTaken) { q with expseq := e }
  obtain ⟨m, kept⟩ := launches ctx _ found
  exact ⟨⟨⟨_, kept, rfl, rfl, rfl, rfl, rfl, rfl, rfl⟩, ⟨_, moved, rfl, rfl, rfl⟩, blocks ▸ block⟩, _, moved, rfl⟩

/-! ## Rejection -/

/-- A malformed record completes as BADREC without a thread, once its completion record's line is there (R58, R63). -/
theorem State.takeRecord_of_bad {s : State} {q : Queue} {b : List Byte} {pa : Nat} {attr : PAttr} (hb : badRecord b q.secure = true) (hc : (recordOf b).compl % 64 = 0)
    (hx : s.reeveXl q.tenant (recordOf b).compl 5 = .ok pa attr) (hr : s.storeReady pa 64 = true) :
    s.takeRecord q b = .done (s.completed pa q.tenant q.q 0xFFFF (recordOf b) 1 0) := by
  have completes : s.reject q.tenant q.q (recordOf b) 1 = some (s.completed pa q.tenant q.q 0xFFFF (recordOf b) 1 0) := State.complete_of_ready q.q 0xFFFF 1 0 hc hx hr
  unfold State.takeRecord
  dsimp only
  rw [if_pos (by simp [hb]), State.rejected, completes]

/-! ## Records that are taken -/

section Taken

variable {s : State} {q : Queue} {b : List Byte} {ctx hdr : Nat} {e : Ev}

/-- A record that passes on an open ring is dispatched, whichever message looks at it. -/
theorem launchRecord_open (h : HeadIs s q b) (hs : q.secure = false) (hq : q.qst = 1) (hd : Dispatchable s q b ctx hdr) :
    ∃ t, ((s.hears e).readHead q).launchRecord q b e = t ∧ Launched q b ctx hdr t := by
  have sent := State.readHead_sent (s.hears e) q
  have taken := State.takeRecord_of_dispatchable (Dispatchable.of_sent (s := s.hears e) sent hd)
  refine ⟨_, State.launchRecord_of_open (by rw [hq]; decide) hs, ?_⟩
  rw [taken]
  exact (launched_of_dispatchable ((sent.queue _).trans h.1) (Dispatchable.of_sent (s := s.hears e) sent hd) q.expseq).1

/-- The record that a secured ring expects is dispatched, and E rises (R60). -/
theorem launchRecord_secured (h : HeadIs s q b) (hs : q.secure = true) (hq : q.qst = 1) (ht : s.tagOk q b = true) (hn : fieldOf b 192 8 = q.expseq) (hl : fieldOf b 192 8 ≠ 2 ^ 64 - 1)
    (hd : Dispatchable s q b ctx hdr) :
    ∃ t, ((s.hears e).readHead q).launchRecord q b e = t ∧ Launched q b ctx hdr t ∧ ∃ x, t.queue q.q = some x ∧ x.expseq = q.expseq + 1 := by
  have sent := State.readHead_sent (s.hears e) q
  have taken := State.takeRecord_of_dispatchable (Dispatchable.of_sent (s := s.hears e) sent hd)
  exact ⟨_, State.launchRecord_of_next hs hq ((sent.tagOk q b).trans ht) hn hl taken,
    launched_of_dispatchable ((sent.queue _).trans h.1) (Dispatchable.of_sent (s := s.hears e) sent hd) (q.expseq + 1)⟩

/-- What a record at a head comes to at its first look, or at a retry. -/
theorem happens_record {P : State → Prop} (h : HeadIs s q b) (hq : q.qst ≠ 4) (hc : s.isControl q b = false)
    (hp : ∀ e, ∃ t, ((s.hears e).readHead q).launchRecord q b e = t ∧ P t) :
    (q.held = false → Happens .launchRecord (.launchRecord q.q) s P) ∧ (q.held = true → Happens .queueHeadRetry (.queueHeadRetry q.q) s P) := by
  refine ⟨fun hh => ⟨rfl, ?_⟩, fun hh => ⟨rfl, ?_⟩⟩
  · obtain ⟨t, ht, pt⟩ := hp (.launchRecord q.q)
    exact ⟨t, (exec_launchRecord_first h hq hh hc).trans (congrArg Host.Outcome.next ht), pt⟩
  · obtain ⟨t, ht, pt⟩ := hp (.queueHeadRetry q.q)
    exact ⟨t, (exec_queueHeadRetry h hq hh).trans (congrArg Host.Outcome.next ht), pt⟩

/-- What a record at a head comes to at its first look. -/
theorem gives_record {f : State → State} (h : HeadIs s q b) (hq : q.qst ≠ 4) (hh : q.held = false) (hc : s.isControl q b = false)
    (hf : ((s.hears (.launchRecord q.q)).readHead q).launchRecord q b (.launchRecord q.q) = f (s.hears (.launchRecord q.q))) : Gives .launchRecord (.launchRecord q.q) s f :=
  ⟨rfl, (exec_launchRecord_first h hq hh hc).trans (congrArg Host.Outcome.next hf)⟩

end Taken

/-- Settles O39, by what the Reeve finds of the queue and of the record at its head. -/
theorem launchRecordEvents : Obligations.LaunchRecordEvents := by
  intro s q b ctx hdr h
  have tag (e : Ev) : ((s.hears e).readHead q).tagOk q b = s.tagOk q b := (State.readHead_sent (s.hears e) q).tagOk q b
  have isOpen (hq : q.qst = 1) : q.qst ≠ 4 := by rw [hq]; decide
  refine ⟨fun hs hq hd => happens_record h (isOpen hq) (State.isControl_of_open hs) fun e => launchRecord_open h hs hq hd,
    fun hs hq ht hk hn hl hd => happens_record h (isOpen hq) (State.isControl_of_kind hk) fun e => launchRecord_secured h hs hq ht hn hl hd,
    fun hs hq hh hb pa attr hc hx hr => ?malformed, gives_record_dead h, fun hh hs hq ht => ?badTag, fun hh hs ho hq ht hk => ?gap, fun hh hs hq ht hk => ⟨fun hn => ?old, fun hn hl => ?last, fun hn => ?skip⟩,
    fun hc hq => gives_launchRecord_control h hq hc, fun hc hq hk hn => ?opens, fun hc hq hn => ?oldControl⟩
  case malformed =>
    have taken := State.takeRecord_of_bad (by rw [hs]; exact hb) hc hx hr
    refine (exec_launchRecord_first h (isOpen hq) hh (State.isControl_of_open hs)).trans (congrArg Host.Outcome.next ((State.launchRecord_of_open (isOpen hq) hs).trans ?_))
    rw [taken]
    rfl
  case badTag => exact gives_record h hq hh (State.isControl_of_badTag ht) (State.launchRecord_of_badTag hq hs ((tag _).trans ht))
  case gap => exact gives_record h hq hh (State.isControl_of_kind hk) (State.launchRecord_of_gap hq hs ((tag _).trans ht) ho)
  case old => exact gives_record h (isOpen hq) hh (State.isControl_of_kind hk) (State.launchRecord_of_old hs hq ((tag _).trans ht) hn)
  case last => exact gives_record h (isOpen hq) hh (State.isControl_of_kind hk) (State.launchRecord_of_last hs hq ((tag _).trans ht) hn hl)
  case skip => exact gives_record h (isOpen hq) hh (State.isControl_of_kind hk) (State.launchRecord_of_skip hs hq ((tag _).trans ht) hn)
  case opens => exact ⟨rfl, (exec_controlRecord h hq hc).trans (congrArg Host.Outcome.next (State.controlRecord_of_new hq hk hn))⟩
  case oldControl => exact ⟨rfl, (exec_controlRecord h hq hc).trans (congrArg Host.Outcome.next (State.controlRecord_of_old hq hn))⟩

end Sys2Proof.Machine
end

section
/-! SUPPORT. SVC and EMIT (R69, R339, R346): the stages of a word that writes one entry for each lane, and what an entry of each of the two leaves. -/

namespace Sys2Proof.Machine

open Sys2Proof

/-! ## Releases -/

/-- A release starts without a change to a core or to memory: what it drains goes to the slices by messages. -/
theorem State.startRelease_keeps (s : State) (core slot lane scope : Nat) (acq : Bool) :
    (s.startRelease core slot lane scope acq).core = s.core ∧ (s.startRelease core slot lane scope acq).mem = s.mem := by
  have drained : (s.drain core slot lane).core = s.core ∧ (s.drain core slot lane).mem = s.mem :=
    List.foldlRecOn (motive := fun t : State => t.core = s.core ∧ t.mem = s.mem) _ _ ⟨rfl, rfl⟩ fun _ h _ _ => h
  exact drained

/-! ## Bytes -/

theorem length_overlay {l new : List Byte} {off : Nat} (h : off + new.length ≤ l.length) : (overlay l off new).length = l.length := by
  simp only [overlay, List.length_append, List.length_take, List.length_drop]
  omega

/-! ## The stages of a word that writes entries -/

/-- The group once its lanes have read their blocks and their releases have started. -/
def Grp.reading (g : Grp) (rels : List (Nat × Nat)) (block : RLane → List Byte) : Grp :=
  { g with stage := 8, lanes := g.lanes.map (fun l => { l with relId := tget rels l.lane, did := false, rcd := block l }) }

/-- s after the entry of a lane. -/
def State.entryMade (s : State) (g : Grp) (l : RLane) : State :=
  s.updGrp g.id (fun g => { g.updLane l.lane (fun l => { l with did := true }) with stage := 9 })

/-- s where a lane waits for a place in its ring. -/
def State.entryWaits (s : State) (g : Grp) (l : RLane) : State := ((s.updGrp g.id (fun g => { g with stage := 10 })).maybeParkSlot g.core l.slot).rotate

theorem Grp.mem_active_reading {g : Grp} {gd : BitVec 3} {rels : List (Nat × Nat)} {block : RLane → List Byte} {m : RLane} (h : m ∈ (g.reading rels block).active gd) :
    ∃ l ∈ g.active gd, m.rcd = block l ∧ m.relId = tget rels l.lane := by
  obtain ⟨hm, hg⟩ := Grp.mem_active.mp h
  obtain ⟨l, hl, rfl⟩ := List.mem_map.mp hm
  exact ⟨l, Grp.mem_active.mpr ⟨hl, hg⟩, rfl, rfl⟩

section
variable {s t : State} {g : Grp} {rest : List Grp} {gd : BitVec 3} {a : BitVec 7} {scope : Nat} {l : RLane}
  {chk : State → Grp → RLane → List Byte → Bool} {put : State → Grp → RLane → List Byte → Option State} {full : State → Grp → RLane → List Byte → Bool}
  {ask : State → Grp → RLane → List Byte → State} {fin : Nat → List Fx}

/-- The checks of a word with one active lane pass: the lane's block is read, its release starts. -/
theorem State.ringWord_start (h0 : g.stage = 0) (hi : Issues s g rest gd [a.toNat] []) (ha : g.active gd = [l]) (hr : SpadReady s g gd 64 64 (fun m => (s.opnd g m a).toNat))
    (hp : s.runPois g l.slot (s.opnd g l a).toNat = false) (hc : chk s g l (s.runBlock g l.slot (s.opnd g l a).toNat) = false) :
    s.ringWord gd a scope chk put full ask fin = (s.startRelease g.core l.slot l.lane scope false).updGrp g.id
      (fun h => h.reading [(l.lane, s.nextRelease g.core l.slot l.lane)] (fun m => s.runBlock g m.slot (s.opnd g m a).toNat)) := by
  have checks := spadCheck_ready hr
  simp only [ha, List.map_cons, List.map_nil] at checks
  simp only [State.opnd] at checks hp hc
  simp only [State.ringWord, State.word, hi.head, h0]
  simp only [OfNat.zero_ne_ofNat, or_self, if_false, consume_issues 0 _ hi, ha, List.map_cons, List.map_nil]
  rw [checks]
  simp only [List.filter_cons, List.filter_nil, hp, hc, Bool.false_eq_true, if_false, List.isEmpty_nil, Bool.not_true, List.foldl_cons, List.foldl_nil]
  rfl

theorem State.ringWord_reads (h0 : g.stage = 0) (hi : Issues s g rest gd [a.toNat] []) (ha : g.active gd = [l]) (hr : SpadReady s g gd 64 64 (fun m => (s.opnd g m a).toNat))
    (hp : s.runPois g l.slot (s.opnd g l a).toNat = false) (hc : chk s g l (s.runBlock g l.slot (s.opnd g l a).toNat) = false) :
    ∃ t h, (Host.Outcome.next (s.ringWord gd a scope chk put full ask fin) : Out) = .next t ∧ t.core.issue = h :: rest ∧ h.stage = 8 ∧
      (∀ m ∈ h.active gd, m.rcd = s.runBlock g l.slot (s.opnd g l a).toNat ∧ m.relId.isSome) ∧ t.mem = s.mem := by
  obtain ⟨core, mem⟩ := State.startRelease_keeps s g.core l.slot l.lane scope false
  have started := State.ringWord_start (put := put) (full := full) (ask := ask) (fin := fin) (scope := scope) h0 hi ha hr hp hc
  rw [updGrp_head (by rw [core]; exact hi.head) hi.ids] at started
  refine ⟨_, _, congrArg _ started, rfl, rfl, fun m hm => ?_, mem⟩
  obtain ⟨n, hn, read, rel⟩ := Grp.mem_active_reading hm
  obtain rfl : n = l := by rwa [ha, List.mem_singleton] at hn
  exact ⟨read, by rw [rel, tget, if_pos rfl]; rfl⟩

variable (head : s.core.issue = g :: rest) (h9 : g.stage = 9)
include head h9

theorem State.ringWord_made (hl : (g.active gd).find? (fun l => !l.did) = some l) (hp : put s g l l.rcd = some t) : s.ringWord gd a scope chk put full ask fin = t.entryMade g l := by
  simp only [State.ringWord, State.word, head, h9, hl, hp]
  rfl

theorem State.ringWord_full (hl : (g.active gd).find? (fun l => !l.did) = some l) (hp : put s g l l.rcd = none) (hf : full s g l l.rcd = true) :
    s.ringWord gd a scope chk put full ask fin = s.entryWaits g l := by
  simp only [State.ringWord, State.word, head, h9, hl, hp, hf]
  rfl

theorem State.ringWord_asks (hl : (g.active gd).find? (fun l => !l.did) = some l) (hp : put s g l l.rcd = none) (hf : full s g l l.rcd = false) :
    s.ringWord gd a scope chk put full ask fin = (ask s g l l.rcd).rotate := by
  simp only [State.ringWord, State.word, head, h9, hl, hp, hf]
  rfl

theorem State.ringWord_over (hr : ∀ y ∈ rest, y.id ≠ g.id) (hd : ∀ l ∈ g.active gd, l.did = true) : s.ringWord gd a scope chk put full ask fin =
    s.headGrp ({ g.addFx (((g.active gd).map (fun (l : RLane) => l.lane)).flatMap fin) with lanes := g.lanes.map (fun (l : RLane) => { l with did := false }) }.adv) rest := by
  have none : (g.active gd).find? (fun l => !l.did) = none := List.find?_eq_none.mpr fun m hm => by rw [hd m hm]; decide
  simp only [State.ringWord, State.word, head, h9, none]
  exact advance_head head hr rfl

end

/-! ## What a run finds in its scratchpad -/

theorem State.runBlock_of_pad {s : State} {g : Grp} {slot off : Nat} {x : Gang} {p : Pad} (hg : s.gang g.core slot = some x) (hp : g.pads.find? (fun p => p.slot == slot) = some p)
    (hv : x.regionOf (off / 128) = none ∨ p.valid.contains (off / 128) = true) : s.runBlock g slot off = (List.range 64).map (fun i => nget 0 p.spad (off + i)) := by
  have stood : ¬ ((x.regionOf (off / 128)).isSome && !p.valid.contains (off / 128)) = true := by
    rcases hv with h | h <;> rw [h] <;> simp
  simp only [State.runBlock, State.runGang, hg, hp, Option.map_some, if_neg stood]
  rfl

/-! ## An entry of SVC -/

section
variable {s : State} {g : Grp} {l : RLane} {x : Gang} {block : List Byte} (hx : s.gang g.core l.slot = some x)

section
variable (hm : bit (s.tModes (s.tenantOfCtx g.ctx)) 3 = false)
include hm

theorem State.svcFull_hearth : s.svcFull g.ctx = s.hreqFull (s.hearthOf g.ctx) := by rw [State.svcFull]; exact if_neg (by rw [hm]; decide)

theorem svcAsk_hearth : svcAsk s g l block = s.storeNeed (s.hreqSlot (s.hearthOf g.ctx)) 64 := by rw [svcAsk]; simp only [hm, Bool.false_eq_true, if_false]

include hx

theorem State.svcPut_hearth_none (h : s.hreqFull (s.hearthOf g.ctx) = true ∨ s.storeReady (s.hreqSlot (s.hearthOf g.ctx)) 64 = false) : s.svcPut g l block = none := by
  have blocked : (s.svcFull g.ctx || !s.storeReady (s.hreqSlot (s.hearthOf g.ctx)) 64) = true := by
    rcases h with h | h <;> simp [State.svcFull_hearth hm, h]
  simp only [State.svcPut, hx, hm, Bool.false_eq_true, if_false, blocked, if_true]

theorem State.svcPut_hearth (hf : s.hreqFull (s.hearthOf g.ctx) = false) (hr : s.storeReady (s.hreqSlot (s.hearthOf g.ctx)) 64 = true) : s.svcPut g l block =
    some (({ s.noteCall g l block with ten.hreqTail := nset 0 s.ten.hreqTail (s.hearthOf g.ctx) ((nget 0 s.ten.hreqTail (s.hearthOf g.ctx) + 1) % 2 ^ 32) }.devStore
      (s.hreqSlot (s.hearthOf g.ctx)) (svcEntry block g.ctx x.gang l.lane 0) none).updHearth (s.hearthOf g.ctx) (fun x => { x with ext := true })) := by
  simp only [State.svcPut, hx, hm, State.svcFull_hearth hm, hf, hr]
  rfl

end

section
variable (hm : bit (s.tModes (s.tenantOfCtx g.ctx)) 3 = true) (hon : bit (nget 0 s.ten.svcring (s.tenantOfCtx g.ctx)) 0 = true)
include hm

theorem svcAsk_host : svcAsk s g l block = s.storeNeed (s.svcSlot (s.tenantOfCtx g.ctx)) 64 := by rw [svcAsk]; simp only [hm, if_true]

include hon

theorem State.svcFull_host : s.svcFull g.ctx = decide ((nget 0 s.ten.pidx (s.tenantOfCtx g.ctx) + 2 ^ 16 - nget 0 s.ten.cidx (s.tenantOfCtx g.ctx)) % 2 ^ 16 =
    2 ^ bits (nget 0 s.ten.svcring (s.tenantOfCtx g.ctx)) 4 1) := by
  simp only [State.svcFull, hm, hon, if_true, Bool.true_and]
  rfl

include hx

theorem State.svcPut_host_none (h : s.svcFull g.ctx = true ∨ s.storeReady (s.svcSlot (s.tenantOfCtx g.ctx)) 64 = false) : s.svcPut g l block = none := by
  have blocked : (s.svcFull g.ctx || !s.storeReady (s.svcSlot (s.tenantOfCtx g.ctx)) 64) = true := by
    rcases h with h | h <;> simp [h]
  simp only [State.svcPut, hx, hm, hon, Bool.not_true, Bool.false_eq_true, if_false, blocked, if_true]

theorem State.svcPut_host (hf : s.svcFull g.ctx = false) (hr : s.storeReady (s.svcSlot (s.tenantOfCtx g.ctx)) 64 = true) : s.svcPut g l block =
    some ({ s.noteCall g l block with ten.pidx := nset 0 s.ten.pidx (s.tenantOfCtx g.ctx) ((nget 0 s.ten.pidx (s.tenantOfCtx g.ctx) + 1) % 2 ^ 16) }.devStore
      (s.svcSlot (s.tenantOfCtx g.ctx)) (svcEntry block g.ctx x.gang l.lane
        (1 - nget 0 s.ten.pidx (s.tenantOfCtx g.ctx) / 2 ^ bits (nget 0 s.ten.svcring (s.tenantOfCtx g.ctx)) 4 1 % 2)) none) := by
  simp only [State.svcPut, hx, hm, hon, hf, hr]
  rfl

end

/-! ## An entry of EMIT -/

variable {q : GraphS} (hq : s.graphOf g.ctx = some q)
include hq

theorem emitFull_of_fill (h : 2 ^ q.qlog (fieldOf block 5 1) ≤ q.fill (fieldOf block 5 1)) : emitFull s g l block = true := by
  simp only [emitFull, hq]
  exact decide_eq_true h

include hx

theorem State.emitPut_full (h : 2 ^ q.qlog (fieldOf block 5 1) ≤ q.fill (fieldOf block 5 1)) : s.emitPut g l block = none := by
  simp only [State.emitPut, hq, hx]
  exact if_pos h

/-- s once a record of a stage stands in its ring: the ring's tail and the stages that ran, the timer of a partial gang and the gang that may form. -/
def State.recordJoins (u : State) (ctx st : Nat) : State :=
  let v := u.updGraph ctx (fun q => { q with tail := modAt q.tail st (fun n => n + 1), ran := addSorted q.ran st, recs := q.recs ++ [(st, (q.tail.drop st).headD 0, u.ctl.time)] })
  let w := if v.due (fun e => e == .partialGangTimer ctx st) then v else v.after 16384 (.partialGangTimer ctx st)
  if w.due (fun e => e == .graphGangForm ctx st) then w else w.send (.graphGangForm ctx st)

theorem State.emitPut_of_ready {pa : Nat} {attr : PAttr} (h : q.fill (fieldOf block 5 1) < 2 ^ q.qlog (fieldOf block 5 1))
    (hxl : s.reeveXl (s.tenantOfCtx g.ctx) (q.slotVa (fieldOf block 5 1)) 5 = .ok pa attr) (hr : s.storeReady pa 64 = true) (hb : block.length = 64) :
    s.emitPut g l block = some ((s.putAs x.world pa (overlay block 0 (leBytes 4 (x.wid l.lane)))).recordJoins g.ctx (fieldOf block 5 1)) := by
  have len : (overlay block 0 (leBytes 4 (x.wid l.lane))).length = 64 := by rw [length_overlay (by rw [length_leBytes, hb]; decide), hb]
  have written : s.reeveWriteAs x.world (s.tenantOfCtx g.ctx) (q.slotVa (fieldOf block 5 1)) (overlay block 0 (leBytes 4 (x.wid l.lane))) =
      some (s.putAs x.world pa (overlay block 0 (leBytes 4 (x.wid l.lane)))) := by
    simp only [State.reeveWriteAs, hxl, len, hr, if_true]
  simp only [State.emitPut, hq, hx, if_neg (Nat.not_le.mpr h), written]
  rfl

end

/-- Settles O27, by the stages of the word: what a lane reads, and what its entry comes to by the ring that takes it. -/
theorem ringWords : Obligations.RingWords := by
  intro c s g rest gd a l x head ids hx
  refine ⟨fun h0 hi ha hr hp => ⟨State.ringWord_reads h0 hi ha hr hp rfl, State.ringWord_reads h0 hi ha hr hp⟩, fun off p => State.runBlock_of_pad hx,
    fun h9 hl => ⟨fun hm => ?hearth, fun hm hon => ?host, fun q hq => ?emit⟩, fun h9 hd => ?done⟩
  case hearth =>
    have full := State.svcFull_hearth hm
    refine ⟨fun hf => ?_, fun hf => ⟨fun hr => ?_, fun hr => ?_⟩⟩ <;> refine congrArg Host.Outcome.next ?_
    · exact State.ringWord_full head h9 hl (State.svcPut_hearth_none hx hm (.inl hf)) (full.trans hf)
    · exact (State.ringWord_asks head h9 hl (State.svcPut_hearth_none hx hm (.inr hr)) (full.trans hf)).trans (congrArg State.rotate (svcAsk_hearth hm))
    · exact State.ringWord_made head h9 hl (State.svcPut_hearth hx hm hf hr)
  case host =>
    have full := State.svcFull_host hm hon
    refine ⟨fun hf => ?_, fun hf => ?_⟩
    · have hf := full.trans (decide_eq_true hf)
      exact congrArg Host.Outcome.next (State.ringWord_full head h9 hl (State.svcPut_host_none hx hm hon (.inl hf)) hf)
    · have hf := full.trans (decide_eq_false hf)
      refine ⟨fun hr => congrArg Host.Outcome.next ?_, fun hr => congrArg Host.Outcome.next ?_⟩
      · exact (State.ringWord_asks head h9 hl (State.svcPut_host_none hx hm hon (.inr hr)) hf).trans (congrArg State.rotate (svcAsk_host hm))
      · exact State.ringWord_made head h9 hl (State.svcPut_host hx hm hon hf hr)
  case emit =>
    refine ⟨fun hf => congrArg Host.Outcome.next ?_, fun hf pa attr hxl hr hb => congrArg Host.Outcome.next ?_⟩
    · exact State.ringWord_full head h9 hl (State.emitPut_full hx hq hf) (emitFull_of_fill hq hf)
    · exact State.ringWord_made head h9 hl (State.emitPut_of_ready hx hq hf hxl hr hb)
  case done =>
    refine ⟨congrArg Host.Outcome.next ((State.ringWord_over head h9 ids hd).trans ?_), congrArg Host.Outcome.next ((State.ringWord_over head h9 ids hd).trans ?_)⟩
    · rw [List.flatMap_map, ← List.map_eq_flatMap]
    · rw [List.flatMap_eq_nil_iff.mpr fun _ _ => rfl, Grp.addFx, List.append_nil]

end Sys2Proof.Machine
end

section
/-! SUPPORT. Keyed tables, what folds leave alone, and what the device's own writes leave of the lines that carry a world's tag (R81). -/

namespace Sys2Proof.Machine

open Sys2Proof

/-! ## Keyed tables -/

section Tables

variable {κ α : Type} [DecidableEq κ]

theorem tget_tdel_self (m : Tab κ α) (k : κ) : tget (tdel m k) k = none := by
  induction m with
  | nil => rfl
  | cons e m ih =>
    obtain ⟨j, x⟩ := e
    by_cases h : j = k
    · simpa [tdel, List.filter, h] using ih
    · simpa [tdel, List.filter, tget, h] using ih

theorem tget_tdel_ne (m : Tab κ α) {j k : κ} (h : j ≠ k) : tget (tdel m k) j = tget m j := by
  induction m with
  | nil => rfl
  | cons e m ih =>
    obtain ⟨i, x⟩ := e
    by_cases hi : i = k
    · have other : i ≠ j := fun e => h (e ▸ hi)
      simpa [tdel, List.filter, tget, hi, other, Ne.symm h] using ih
    · by_cases hj : i = j
      · simp [tdel, List.filter, tget, hj, h]
      · simpa [tdel, List.filter, tget, hi, hj] using ih

@[simp] theorem tget_tset_self (m : Tab κ α) (k : κ) (x : α) : tget (tset m k x) k = some x := if_pos rfl

theorem tget_tset_ne (m : Tab κ α) {j k : κ} (x : α) (h : j ≠ k) : tget (tset m k x) j = tget m j := (if_neg (Ne.symm h)).trans (tget_tdel_ne m h)

/-- A key that is listed has an entry. -/
theorem tget_of_mem {m : Tab κ α} {k : κ} {x : α} (h : (k, x) ∈ m) : ∃ y, tget m k = some y := by
  induction m with
  | nil => cases h
  | cons e m ih =>
    obtain ⟨j, y⟩ := e
    by_cases hj : j = k
    · exact ⟨y, if_pos hj⟩
    · obtain ⟨z, hz⟩ := ih ((List.mem_cons.mp h).resolve_left (by simp [Ne.symm hj]))
      exact ⟨z, (if_neg hj).trans hz⟩

theorem mem_tdel {m : Tab κ α} {k : κ} {e : κ × α} : e ∈ tdel m k ↔ e ∈ m ∧ e.1 ≠ k := by simp [tdel]

theorem mem_foldl_tdel {m : Tab κ α} {ks : List κ} {e : κ × α} : e ∈ ks.foldl tdel m ↔ e ∈ m ∧ e.1 ∉ ks := by
  induction ks generalizing m with
  | nil => simp
  | cons k ks ih => rw [List.foldl_cons, ih, mem_tdel, List.mem_cons, not_or, and_assoc]

end Tables

/-! ## What folds leave alone -/

/-- A fold leaves what each of its steps leaves. -/
theorem foldl_keeps {β γ : Type} (π : State → γ) {f : State → β → State} (h : ∀ s x, π (f s x) = π s) (l : List β) (s : State) : π (l.foldl f s) = π s :=
  List.foldlRecOn (motive := fun t => π t = π s) l f rfl (fun t ht x _ => (h t x).trans ht)

theorem ite_keeps {γ : Type} (π : State → γ) {s t u : State} {c : Prop} [Decidable c] (ht : π t = π s) (hu : π u = π s) : π (if c then t else u) = π s := by
  split
  · exact ht
  · exact hu

/-! ## Lines that carry a world's tag -/

/-- The lines that may carry a world's tag: of the L1s, of the L2 slices and of the Cellar (R81). -/
def State.tagged (s : State) : List L1Line × List L2Line × Tab Nat Nat := (s.coh.l1, s.coh.l2, s.mm.ctag)

@[simp] theorem State.setPoison_tagged (s : State) (w : Nat) (b : Bool) : (s.setPoison w b).tagged = s.tagged := rfl
@[simp] theorem State.mscDirty_tagged (s : State) (line : Nat) : (s.mscDirty line).tagged = s.tagged := rfl
@[simp] theorem State.updTx_tagged (s : State) (id : Nat) (f : Tx → Tx) : (s.updTx id f).tagged = s.tagged := rfl
@[simp] theorem State.settleDev_tagged (s : State) (id : Nat) : (s.settleDev id).tagged = s.tagged := rfl

@[simp] theorem State.materialiseLine_tagged (s : State) (e : Alias) (line : Nat) : (s.materialiseLine e line).tagged = s.tagged := by
  unfold State.materialiseLine
  refine (foldl_keeps State.tagged (fun t w => ?_) _ _).trans ?_
  · split <;> rfl
  · split
    · rfl
    · split <;> rfl

@[simp] theorem State.materialise_tagged (s : State) (e : Alias) (lines : List Nat) : (s.materialise e lines).tagged = s.tagged := by
  refine foldl_keeps State.tagged (fun t l => ?_) _ _
  split
  · exact t.materialiseLine_tagged ..
  · rfl

@[simp] theorem State.destWrite_tagged (s : State) (line : Nat) : (s.destWrite line).tagged = s.tagged := foldl_keeps State.tagged (fun t e => t.materialise_tagged e _) _ _

theorem State.failLine_tagged (s : State) (wtag line : Nat) : (s.failLine wtag line).tagged = s.tagged := by
  unfold State.failLine
  split <;> rfl

theorem State.srcMaterialise_tagged (s : State) (home line : Nat) : (s.srcMaterialise home line).tagged = s.tagged := by
  unfold State.srcMaterialise
  exact (foldl_keeps State.tagged (fun t e => t.materialise_tagged e _) _ _).trans (foldl_keeps State.tagged (fun t p => t.failLine_tagged ..) _ _)

@[simp] theorem State.srcWriteNow_tagged (s : State) (line : Nat) : (s.srcWriteNow line).tagged = s.tagged :=
  foldl_keeps State.tagged (fun t m => t.srcMaterialise_tagged m line) _ s

theorem State.snoopHost_tagged (s : State) (line : Nat) (p : Patch) : (s.snoopHost line p).tagged = s.tagged := foldl_keeps State.tagged (fun _ _ => by rfl) _ _

theorem State.dropResv_tagged (s : State) (line : Nat) : (s.dropResv line).tagged = s.tagged := by
  unfold State.dropResv
  split <;> rfl

theorem State.dirtyHalves_tagged (s : State) (line : Nat) (p : Patch) : (s.dirtyHalves line p).tagged = s.tagged := by
  unfold State.dirtyHalves
  split
  · exact foldl_keeps State.tagged (fun _ _ => by rfl) _ _
  · rfl

@[simp] theorem State.applyPatch_tagged (s : State) (line : Nat) (p : Patch) (pois : List Nat) : (s.applyPatch line p pois).tagged = s.tagged := by
  calc (s.applyPatch line p pois).tagged
    _ = _ := State.dirtyHalves_tagged ..
    _ = _ := foldl_keeps State.tagged (fun _ _ => by rfl) _ _
    _ = _ := foldl_keeps State.tagged (fun _ _ => by rfl) _ _
    _ = _ := State.dropResv_tagged ..
    _ = _ := State.snoopHost_tagged ..

@[simp] theorem State.nbTake_tagged (s : State) (line : Nat) (p : Patch) : (s.nbTake line p).tagged = s.tagged := by
  unfold State.nbTake
  split <;> rfl

@[simp] theorem State.homeUpdates_tagged (s : State) (t : Tx) : (s.homeUpdates t).tagged = s.tagged := by
  unfold State.homeUpdates
  split <;> rfl

@[simp] theorem State.raiseMsi_tagged (s : State) (v : Option (Nat × Nat × Nat)) : (s.raiseMsi v).tagged = s.tagged := by
  unfold State.raiseMsi
  split
  · split <;> rfl
  · rfl

theorem State.homeWrite_tagged (s : State) (t : Tx) (irq : Option (Nat × Nat × Nat)) : (s.homeWrite t irq).tagged = s.tagged := by simp [State.homeWrite]

theorem State.Sent.tagged {s t : State} (h : s.Sent t) : t.tagged = s.tagged := by obtain ⟨_, _, _, _, rfl⟩ := h; rfl
theorem State.Placed.tagged {s t : State} (h : s.Placed t) : t.tagged = s.tagged := by obtain ⟨_, _, _, rfl⟩ := h; rfl

theorem State.devStoreLine_tagged (s : State) (pa : Nat) (bytes : List Byte) (irq : Option (Nat × Nat × Nat)) : (s.devStoreLine pa bytes irq).tagged = s.tagged := by
  have placed : (s.withDevTx pa bytes irq).tagged = s.tagged := (s.mscFill_placed (lineOf pa)).tagged
  have across : ((s.withDevTx pa bytes irq).reach deviceNode (lineNode (lineOf pa))).1.tagged = s.tagged := (State.reach_sent _ _ _).tagged.trans placed
  unfold State.devStoreLine
  refine ite_keeps State.tagged rfl ?_
  dsimp only
  split
  · exact State.raiseMsi_tagged _ irq
  · refine ite_keeps State.tagged (s.raiseMsi_tagged irq) (ite_keeps State.tagged (ite_keeps State.tagged ?lost ?stored) placed)
    case lost => exact (State.raiseMsi_tagged _ irq).trans across
    case stored => exact (State.homeWrite_tagged _ _ irq).trans across

theorem State.devStoreN_tagged (k : Nat) (s : State) (pa : Nat) (bytes : List Byte) (irq : Option (Nat × Nat × Nat)) : (State.devStoreN k s pa bytes irq).tagged = s.tagged := by
  induction k generalizing s pa bytes with
  | zero => rfl
  | succ k ih =>
    unfold State.devStoreN
    exact ite_keeps State.tagged (s.devStoreLine_tagged _ _ _) ((ih _ _ _).trans (s.devStoreLine_tagged _ _ _))

theorem State.devStore_tagged (s : State) (pa : Nat) (bytes : List Byte) (irq : Option (Nat × Nat × Nat)) : (s.devStore pa bytes irq).tagged = s.tagged :=
  ite_keeps State.tagged (s.raiseMsi_tagged irq) (State.devStoreN_tagged _ _ _ _ _)

end Sys2Proof.Machine
end

section
/-! SUPPORT. What the records of the event arbiter and of the notice board, the end of a launch and the turns of the Reeve leave of the state. -/

namespace Sys2Proof.Machine

open Sys2Proof

/-- What R73 to R92 keep of the tenants: their records, key slots, worlds, interfaces and sessions. -/
def State.standing (s : State) : NMap Nat × Tab Nat KeySlot × Tab Nat World × Tab (Nat × Nat) Nat × Tab (Nat × Nat) Session :=
  (s.ten.trec, s.ten.keys, s.ten.worlds, s.ten.tdi, s.ten.sess)

/-- What neither the Reeve's turns nor the giving back of blocks change: the lines with their tags, the tenants' standing, and the cores. -/
def State.warded (s : State) := (s.tagged, s.standing, s.core)

theorem State.tagged_of_warded {s t : State} (h : t.warded = s.warded) : t.tagged = s.tagged := congrArg (·.1) h
theorem State.standing_of_warded {s t : State} (h : t.warded = s.warded) : t.standing = s.standing := congrArg (·.2.1) h
theorem State.core_of_warded {s t : State} (h : t.warded = s.warded) : t.core = s.core := congrArg (·.2.2) h

/-! ## Records -/

/-- t is s but for what a write of the device's may change, the arbiter's counters and waiting entries, and the notice board; and every line with a world's tag stays. -/
structure State.Logs (s t : State) : Prop where
  tagged : t.tagged = s.tagged
  parts : ∃ c m mm p h k a sr ts ew nb, t = { s with ctl := c, mem := m, mm := mm, pkg := p, host := h, coh := k, ali := a, ten.serial := sr, ten.tseq := ts, ten.evWait := ew, nb := nb }

namespace State.Logs

theorem refl (s : State) : s.Logs s := ⟨rfl, _, _, _, _, _, _, _, _, _, _, _, rfl⟩

theorem trans {s t u : State} (h : s.Logs t) (k : t.Logs u) : s.Logs u := by
  obtain ⟨ht, _, _, _, _, _, _, _, _, _, _, _, rfl⟩ := h
  obtain ⟨ku, _, _, _, _, _, _, _, _, _, _, _, rfl⟩ := k
  exact ⟨ku.trans ht, _, _, _, _, _, _, _, _, _, _, _, rfl⟩

theorem of_writes {s t : State} (h : s.Writes t) (k : t.tagged = s.tagged) : s.Logs t := by
  obtain ⟨_, _, _, _, _, _, _, rfl⟩ := h
  exact ⟨k, _, _, _, _, _, _, _, _, _, _, _, rfl⟩

theorem ite {s t u : State} {c : Prop} [Decidable c] (ht : s.Logs t) (hu : s.Logs u) : s.Logs (if c then t else u) := by
  split
  · exact ht
  · exact hu

variable {s t : State}

theorem standing (h : s.Logs t) : t.standing = s.standing := by obtain ⟨-, _, _, _, _, _, _, _, _, _, _, _, rfl⟩ := h; rfl
theorem core (h : s.Logs t) : t.core = s.core := by obtain ⟨-, _, _, _, _, _, _, _, _, _, _, _, rfl⟩ := h; rfl
theorem warded (h : s.Logs t) : t.warded = s.warded := Prod.ext h.tagged (Prod.ext h.standing h.core)
theorem run (h : s.Logs t) : t.run = s.run := by obtain ⟨-, _, _, _, _, _, _, _, _, _, _, _, rfl⟩ := h; rfl
theorem queues (h : s.Logs t) : t.ten.queues = s.ten.queues := by obtain ⟨-, _, _, _, _, _, _, _, _, _, _, _, rfl⟩ := h; rfl

end State.Logs

theorem State.devStore_logs (s : State) (pa : Nat) (bytes : List Byte) (irq : Option (Nat × Nat × Nat)) : s.Logs (s.devStore pa bytes irq) :=
  .of_writes (s.devStore_writes pa bytes irq) (s.devStore_tagged pa bytes irq)

theorem State.askHalves_logs (s : State) (hs : List Nat) (store : Bool) : s.Logs (s.askHalves hs store) :=
  List.foldlRecOn (motive := fun t => s.Logs t) hs _ (.refl s) fun t ht _ _ => ht.trans (.ite (.refl t) ⟨rfl, _, _, _, _, _, _, _, _, _, _, _, rfl⟩)

/-- What a write needs is asked for: places in the MSC slices, and halves. -/
theorem State.storeNeed_logs (s : State) (pa n : Nat) : s.Logs (s.storeNeed pa n) := by
  refine .trans (List.foldlRecOn (motive := fun t => s.Logs t) (linesOf pa n) _ (.refl s) fun t ht l _ => ht.trans ?_) (State.askHalves_logs ..)
  exact .of_writes (.of_placed (t.mscFill_placed l)) (t.mscFill_placed l).tagged

theorem State.ringPut_logs (s : State) (e : RingEntry) : s.Logs (s.ringPut e) := by
  have queued : s.Logs { s with ten.evWait := s.ten.evWait ++ [e] } := ⟨rfl, _, _, _, _, _, _, _, _, _, _, _, rfl⟩
  exact .ite (s.devStore_logs ..) (queued.trans (State.storeNeed_logs ..))

theorem State.logEvent_logs (s : State) (ring source code : Nat) (cls : Option Nat) (fs : List (Nat × Nat × Nat)) : s.Logs (s.logEvent ring source code cls fs) := by
  have stamped : s.Logs (s.stamped ring) := ⟨rfl, _, _, _, _, _, _, _, _, _, _, _, rfl⟩
  exact .ite (stamped.trans (State.ringPut_logs _ _)) stamped

theorem State.devStoreAfter_logs (s : State) (pa : Nat) (bytes : List Byte) (before : Nat) : s.Logs (s.devStoreAfter pa bytes before) :=
  .ite (s.devStore_logs _ _ _) ⟨rfl, _, _, _, _, _, _, _, _, _, _, _, rfl⟩

theorem State.boardStore_logs (s : State) (off : Nat) (bytes : List Byte) : s.Logs (s.boardStore off bytes) := by
  unfold State.boardStore
  split
  · exact s.devStoreAfter_logs ..
  · exact s.devStore_logs ..

theorem State.nbRecord_logs (s : State) (r : NbRec) : s.Logs (s.nbRecord r) := by
  refine .ite (.refl s) (.trans (.trans ?_ (State.boardStore_logs ..)) (State.boardStore_logs ..))
  exact ⟨rfl, _, _, _, _, _, _, _, _, _, _, _, rfl⟩

theorem State.endAttach_logs (s : State) (ctx status : Nat) : s.Logs (s.endAttach ctx status) := by
  refine .ite (.trans (.trans ?_ (State.nbRecord_logs _ _)) (State.boardStore_logs ..)) (.refl s)
  exact ⟨rfl, _, _, _, _, _, _, _, _, _, _, _, rfl⟩

/-- A completion record and its event (R62). -/
theorem State.completed_logs (s : State) (pa t q ctx : Nat) (r : LRec) (status arith : Nat) : s.Logs (s.completed pa t q ctx r status arith) :=
  (s.devStore_logs ..).trans (State.logEvent_logs ..)

/-! ## The Reeve -/

section Turns

variable (s : State)

theorem State.pokeReeve_warded : s.pokeReeve.warded = s.warded := by
  unfold State.pokeReeve
  split
  · rfl
  · split <;> rfl

theorem State.pokeReeve_run : s.pokeReeve.run = s.run := by
  unfold State.pokeReeve
  split
  · rfl
  · split <;> rfl

theorem State.retryHeld_warded : s.retryHeld.warded = s.warded := ite_keeps State.warded (State.pokeReeve_warded _) rfl
theorem State.retryHeld_run : s.retryHeld.run = s.run := ite_keeps State.run (State.pokeReeve_run _) rfl

end Turns

/-! ## The end of a launch -/

/-- Sealing of memory changed. -/
theorem State.with_sealed_warded (s : State) (m : Tab Nat (Nat × Nat)) : { s with mm.sealed := m }.warded = s.warded := rfl

/-- Blocks taken changed. -/
theorem State.with_blocks_warded (s : State) (bs : List Nat) : { s with run.blocks := bs }.warded = s.warded := rfl

theorem State.wipe_warded (s : State) (pa n : Nat) : (s.wipe pa n).warded = s.warded :=
  foldl_keeps State.warded (fun t _ => (State.with_sealed_warded _ _).trans (foldl_keeps State.warded (fun _ _ => by rfl) _ (t.putBytes _ _))) _ _

/-- Extents of n bytes wiped, for any n: the kernel would compute with a numeral. -/
theorem State.wipes_warded (n : Nat) (bs : List Nat) (s : State) : (bs.foldl (fun (s : State) b => s.wipe b n) s).warded = s.warded :=
  foldl_keeps State.warded (fun t b => t.wipe_warded b n) bs s

theorem State.releaseBlocks_warded (s : State) (world : Nat) (bs : List Nat) : (s.releaseBlocks world bs).warded = s.warded :=
  (State.retryHeld_warded _).trans ((State.with_blocks_warded _ _).trans (ite_keeps State.warded rfl (State.wipes_warded 32768 bs s)))

theorem State.forget_warded (s : State) (l : Launch) (status : Nat) : (s.forget l status).warded = s.warded := by
  unfold State.forget
  exact (State.retryHeld_warded _).trans ((State.endAttach_logs ..).warded.trans (State.releaseBlocks_warded ..))

/-- A launch that has been forgotten is not in the table (R62). -/
theorem State.forget_launch (s : State) (l : Launch) (status : Nat) : (s.forget l status).launch l.ctx = none := by
  have struck : ∃ ls : List Launch, (s.forget l status).run.launches = ls.filter (fun x => x.ctx != l.ctx) := by
    unfold State.forget
    refine ⟨_, congrArg RunS.launches ((State.retryHeld_run _).trans (State.endAttach_logs ..).run)⟩
  obtain ⟨ls, e⟩ := struck
  rw [State.launch, e]
  simp [List.find?_eq_none]

theorem State.rdZero_standing (s : State) (l : L1Line) : (s.rdZero l).standing = s.standing := by
  unfold State.rdZero
  split
  · rfl
  · split <;> rfl

theorem State.clearRd_standing (s : State) (core slot : Nat) : (s.clearRd core slot).standing = s.standing := by
  refine foldl_keeps State.standing (fun t l => ?_) _ _
  dsimp only
  split
  · exact State.rdZero_standing ..
  · rfl

theorem State.clearLoaded_standing (s : State) (core slot lane : Nat) : (s.clearLoaded core slot lane).standing = s.standing := by
  unfold State.clearLoaded
  dsimp only
  split
  · split
    · rfl
    · exact State.clearRd_standing ..
  · rfl

theorem State.updLaunch_standing (s : State) (ctx : Nat) (f : Launch → Launch) : (s.updLaunch ctx f).standing = s.standing := rfl

theorem State.logRun_standing (s : State) (g : Grp) : (s.logRun g).standing = s.standing := by
  refine foldl_keeps State.standing (fun t r => ?_) _ s
  exact (State.updLaunch_standing ..).trans (t.logEvent_logs ..).standing

/-- A launch that ends leaves the tenants' records, key slots, worlds, interfaces and sessions. -/
theorem State.endLaunch_standing (s : State) (ctx status : Nat) : (s.endLaunch ctx status).standing = s.standing := by
  have sent (t : State) : (if t.due (fun e => e == .launchComplete ctx) then t else t.send (.launchComplete ctx)).standing = t.standing := ite_keeps State.standing rfl rfl
  have cleared (t : State) : ((t.core.gangs.filter (fun g => g.ctx == ctx)).foldl (fun (s : State) g => (List.range 32).foldl (fun (s : State) l => s.clearLoaded g.core g.slot l) s) t).standing = t.standing :=
    foldl_keeps State.standing (fun u g => foldl_keeps State.standing (fun v l => v.clearLoaded_standing ..) _ _) _ _
  unfold State.endLaunch
  split
  · rfl
  · split
    · rfl
    · exact (sent _).trans ((State.standing_of_warded (State.releaseBlocks_warded _ _ _)).trans ((cleared _).trans (foldl_keeps State.standing (fun t g => t.logRun_standing g) _ _)))

end Sys2Proof.Machine
end

section
/-! SUPPORT. Key slots and sessions (R73 to R76): what a slot holds after a change, whose session a function's is, and what KEY_INSTALL and KEY_REMOVE come to. -/

namespace Sys2Proof.Machine

open Sys2Proof

/-! ## Slots -/

@[simp] theorem State.slot_setSlot_self (s : State) (n : Nat) (k : KeySlot) : (s.setSlot n k).slot n = k := by simp [State.slot, State.key, State.setSlot]

theorem State.slot_setSlot_ne (s : State) {n j : Nat} (k : KeySlot) (h : j ≠ n) : (s.setSlot n k).slot j = s.slot j := by
  unfold State.slot State.key State.setSlot
  rw [tget_tset_ne _ _ h]

/-- What a slot becomes as its tenant is declared absent (R76, R92): nothing where it is EMPTY or another's; EMPTY where no world uses it; else REMOVING. -/
def KeySlot.retired (t : Nat) (k : KeySlot) : KeySlot := if k.state = 0 ∨ k.tenant ≠ t then k else if k.users = 0 then k.zeroise else { k with state := 2 }

section Retired

variable {t : Nat} {k : KeySlot}

theorem KeySlot.retired_of_other (h : k.state = 0 ∨ k.tenant ≠ t) : k.retired t = k := if_pos h

theorem KeySlot.retired_of_idle (h : ¬ (k.state = 0 ∨ k.tenant ≠ t)) (hu : k.users = 0) : k.retired t = k.zeroise := (if_neg h).trans (if_pos hu)

theorem KeySlot.retired_of_used (h : ¬ (k.state = 0 ∨ k.tenant ≠ t)) (hu : k.users ≠ 0) : k.retired t = { k with state := 2 } := (if_neg h).trans (if_neg hu)

theorem KeySlot.retired_users (k : KeySlot) : (k.retired t).users = k.users := by
  unfold KeySlot.retired
  split
  · rfl
  · split <;> rfl

theorem KeySlot.retired_tenant (k : KeySlot) : (k.retired t).tenant = k.tenant := by
  unfold KeySlot.retired
  split
  · rfl
  · split <;> rfl

theorem KeySlot.retired_retired (k : KeySlot) : (k.retired t).retired t = k.retired t := by
  by_cases h : k.state = 0 ∨ k.tenant ≠ t
  · rw [KeySlot.retired_of_other h, KeySlot.retired_of_other h]
  · by_cases hu : k.users = 0
    · rw [KeySlot.retired_of_idle h hu]
      exact KeySlot.retired_of_other (.inl rfl)
    · rw [KeySlot.retired_of_used h hu]
      exact KeySlot.retired_of_used (by simpa using fun e => (not_or.mp h).2 e) hu

/-- A slot of the tenant is not LOADED afterwards. -/
theorem KeySlot.retired_state_ne (ht : k.tenant = t) : (k.retired t).state ≠ 1 := by
  by_cases h : k.state = 0 ∨ k.tenant ≠ t
  · rw [KeySlot.retired_of_other h, h.resolve_right (not_not.mpr ht)]
    decide
  · by_cases hu : k.users = 0
    · rw [KeySlot.retired_of_idle h hu]
      exact Nat.zero_ne_one
    · rw [KeySlot.retired_of_used h hu]
      exact fun e => nomatch e

/-- A slot of the tenant that is not EMPTY afterwards is in use. -/
theorem KeySlot.retired_state_iff (ht : k.tenant = t) : (k.retired t).state ≠ 0 ↔ k.state ≠ 0 ∧ k.users ≠ 0 := by
  by_cases h : k.state = 0 ∨ k.tenant ≠ t
  · have empty := h.resolve_right (not_not.mpr ht)
    simp [KeySlot.retired_of_other h, empty]
  · by_cases hu : k.users = 0
    · simp [KeySlot.retired_of_idle h hu, KeySlot.zeroise, hu]
    · simp [KeySlot.retired_of_used h hu, hu, (not_or.mp h).1]

end Retired

/-- s with slot n as its tenant's absence leaves it. -/
def State.retireSlot (t : Nat) (s : State) (n : Nat) : State := if (s.slot n).state = 0 ∨ (s.slot n).tenant ≠ t then s else s.setSlot n (if (s.slot n).users = 0 then (s.slot n).zeroise else { s.slot n with state := 2 })

theorem State.zeroiseSlots_eq (s : State) (t : Nat) : s.zeroiseSlots t = (List.range 256).foldl (State.retireSlot t) s := rfl

theorem State.slot_retireSlot (s : State) (t n j : Nat) : (s.retireSlot t n).slot j = if j = n then (s.slot j).retired t else s.slot j := by
  unfold State.retireSlot
  by_cases h : (s.slot n).state = 0 ∨ (s.slot n).tenant ≠ t
  · rw [if_pos h]
    split
    · next e => rw [e, KeySlot.retired_of_other h]
    · rfl
  · rw [if_neg h]
    by_cases hj : j = n
    · rw [if_pos hj, hj, State.slot_setSlot_self]
      exact (if_neg h).symm
    · rw [if_neg hj]
      exact s.slot_setSlot_ne _ hj

theorem State.slot_foldl_retireSlot (t j : Nat) (l : List Nat) (s : State) : (l.foldl (State.retireSlot t) s).slot j = if j ∈ l then (s.slot j).retired t else s.slot j := by
  induction l generalizing s with
  | nil => rfl
  | cons n l ih =>
    rw [List.foldl_cons, ih, State.slot_retireSlot]
    by_cases hn : j = n
    · simp [hn, KeySlot.retired_retired]
    · simp [hn]

theorem State.slot_zeroiseSlots (s : State) (t j : Nat) : (s.zeroiseSlots t).slot j = if j < 256 then (s.slot j).retired t else s.slot j := by
  rw [State.zeroiseSlots_eq, State.slot_foldl_retireSlot]
  simp only [List.mem_range]

/-- Nothing but key slots changes. -/
theorem State.zeroiseSlots_eq_keys (s : State) (t : Nat) : ∃ ks : Tab Nat KeySlot, s.zeroiseSlots t = { s with ten.keys := ks } := by
  rw [State.zeroiseSlots_eq]
  refine List.foldlRecOn (motive := fun u => ∃ ks : Tab Nat KeySlot, u = { s with ten.keys := ks }) _ _ ⟨s.ten.keys, rfl⟩ fun u hu n _ => ?_
  obtain ⟨ks, rfl⟩ := hu
  unfold State.retireSlot
  split
  · exact ⟨ks, rfl⟩
  · exact ⟨_, rfl⟩

/-! ## Functions and their tenants -/

section Functions

variable {s : State} {t p f : Nat}

theorem State.tenantOfAny_spec (h : s.tenantOfAny p f = some t) : t < 256 ∧ s.tPort t = p ∧ s.tFunc t = f := by
  unfold State.tenantOfAny at h
  split at h
  · next u hu =>
    cases h
    have found := List.find?_some hu
    simp only [Bool.and_eq_true, beq_iff_eq] at found
    exact ⟨List.mem_range.mp (List.mem_of_find?_eq_some hu), found.1.2, found.2⟩
  · have found := List.find?_some h
    simp only [Bool.and_eq_true, beq_iff_eq] at found
    exact ⟨List.mem_range.mp (List.mem_of_find?_eq_some h), found.1.2, found.2⟩

/-- A DEAD tenant is its function's where no other tenant that is not OFF has the function (R53, R60). -/
theorem State.tenantOfAny_of_dead (ht : t < 256) (hd : s.tState t = 2) (hp : s.tPort t = p) (hf : s.tFunc t = f)
    (ho : ∀ u < 256, u ≠ t → s.tState u = 0 ∨ s.tPort u ≠ p ∨ s.tFunc u ≠ f) : s.tenantOfAny p f = some t := by
  have off : s.tenantOf p f = none := by
    refine List.find?_eq_none.mpr fun u hu hy => ?_
    simp only [Bool.and_eq_true, beq_iff_eq] at hy
    obtain ⟨⟨hs, hpu⟩, hfu⟩ := hy
    by_cases hut : u = t
    · rw [hut, hd] at hs
      cases hs
    · rcases ho u (List.mem_range.mp hu) hut with h | h | h
      · rw [h] at hs
        cases hs
      · exact h hpu
      · exact h hfu
  unfold State.tenantOfAny
  rw [off]
  dsimp only
  obtain ⟨u, hu⟩ : ∃ u, (List.range 256).find? (fun t => s.tState t == 2 && s.tPort t == p && s.tFunc t == f) = some u :=
    Option.isSome_iff_exists.mp (List.find?_isSome.mpr ⟨t, List.mem_range.mpr ht, by simp [hd, hp, hf]⟩)
  have found := List.find?_some hu
  simp only [Bool.and_eq_true, beq_iff_eq] at found
  obtain ⟨⟨hs, hpu⟩, hfu⟩ := found
  rw [hu]
  refine congrArg some (not_not.mp fun hut => ?_)
  rcases ho u (List.mem_range.mp (List.mem_of_find?_eq_some hu)) hut with h | h | h
  · rw [h] at hs
    cases hs
  · exact h hpu
  · exact h hfu

/-- A session's function belongs to its tenant (R74). -/
theorem State.tenantOfAny_of_sessionOf (h : s.sessionOf t = some (p, f)) : s.tenantOfAny p f = some t := by
  obtain ⟨e, he, hk⟩ := Option.map_eq_some_iff.mp h
  have found := List.find?_some he
  simp only [beq_iff_eq] at found
  rwa [hk] at found

/-- The session of a tenant's function that is listed first is the tenant's. -/
theorem State.sessionOf_tset {m : Tab (Nat × Nat) Session} {x : Session} (hs : s.ten.sess = tset m (p, f) x) (h : s.tenantOfAny p f = some t) : s.sessionOf t = some (p, f) := by
  unfold State.sessionOf
  rw [hs, tset, List.find?_cons_of_pos (by simpa using h)]
  rfl

end Functions

/-! ## KEY_INSTALL and KEY_REMOVE -/

section Keys

variable {s : State} {t p f : Nat} {b : List Byte} (hs : s.sessionOf t = some (p, f))

include hs

/-- KEY_INSTALL in a tenant's session (R74, R75). -/
theorem exec_keyInstall : exec .keyInstall (s.hears (.keyInstall t b)) = .next (
    if !installOk b then (s.hears (.keyInstall t b)).toHost (.keyReply p f (keyResponse (fieldOf b 0 1) 2 0))
    else match (List.range 256).find? (fun n => (s.slot n).state == 0) with
      | none => (s.hears (.keyInstall t b)).toHost (.keyReply p f (keyResponse 1 1 0))
      | some n => ((s.hears (.keyInstall t b)).setSlot n
          { state := 1, tenant := t, keyid := fieldOf b 4 4, typ := fieldOf b 1 1, ways := fieldOf b 2 1, gen := (s.slot n).gen + 1, users := 0, key := b.drop 16 }).toHost
            (.keyReply p f (keyResponse 1 0 (mkHandle (Config.secret s.ctl.resets) t ((s.slot n).gen + 1) n)))) := by
  have found : (s.hears (.keyInstall t b)).sessionOf t = some (p, f) := hs
  change execKeyInstall (s.hears (.keyInstall t b)) = _
  unfold execKeyInstall
  rw [State.hears_op]
  dsimp only
  rw [found]
  rfl

/-- KEY_REMOVE in a tenant's session, of a request that keeps the layout (R74, R76). -/
theorem exec_keyRemove (h0 : fieldOf b 0 1 = 2) (h1 : fieldOf b 1 7 = 0) (hl : b.length = 16) : exec .keyRemove (s.hears (.keyRemove t b)) = .next (
    let r := removeSlot (Config.secret s.ctl.resets) t (fieldOf b 8 8) (s.slot (fieldOf b 8 8 % 256))
    (if r.1 = 3 ∨ r.1 = 5 then s.hears (.keyRemove t b) else (s.hears (.keyRemove t b)).setSlot (fieldOf b 8 8 % 256) r.2).toHost (.keyReply p f (keyResponse 2 r.1 0))) := by
  have found : (s.hears (.keyRemove t b)).sessionOf t = some (p, f) := hs
  change execKeyRemove (s.hears (.keyRemove t b)) = _
  unfold execKeyRemove
  rw [State.hears_op]
  dsimp only
  rw [found]
  exact congrArg Host.Outcome.next (if_neg (by simp [h0, h1, hl]))

end Keys

section Removal

variable {secret : List Byte} {t handle : Nat} {k : KeySlot}

theorem removeSlot_of_empty (h : k.state = 0) : removeSlot secret t handle k = (3, k) := if_pos (.inl h)

variable (h1 : k.state = 1) (hc : handle = mkHandle secret (bits handle 31 24) k.gen (handle % 256)) (hg : bits handle 23 8 = k.gen % 2 ^ 16)

include h1 hc hg

/-- A handle that passes the checks of R74 for a LOADED slot. -/
theorem removeSlot_of_loaded : removeSlot secret t handle k = if k.tenant ≠ t then (5, k) else if k.users = 0 then (0, k.zeroise) else (4, { k with state := 2 }) := by
  unfold removeSlot
  rw [if_neg (by simp [h1, ← hc, hg]), if_neg (c := k.state = 2) (by rw [h1]; decide)]

end Removal

end Sys2Proof.Machine
end

section
/-! SUPPORT. Heartbeats (R92): what the time-out of a tenant's session does to its queues, slots and session. -/

namespace Sys2Proof.Machine

open Sys2Proof

/-! ## STATE of a tenant -/

/-- A field that lies above another is not touched by a write of it. -/
theorem bits_setBits_above (x v hi lo : Nat) {a b : Nat} (h : b ≤ a) (hb : a < lo) : bits (setBits x a b v) hi lo = bits x hi lo := by
  apply Nat.eq_of_testBit_eq
  intro i
  rw [testBit_bits, testBit_bits, testBit_setBits x v _ h, if_neg (by omega)]

theorem bits_setBits_low (x v hi : Nat) : bits (setBits x hi 0 v) hi 0 = v % 2 ^ (hi + 1) := by
  apply Nat.eq_of_testBit_eq
  intro i
  rw [testBit_bits, testBit_setBits x v _ (Nat.zero_le hi), Nat.testBit_mod_two_pow]
  by_cases hi' : i < hi + 1
  · rw [if_pos ⟨Nat.zero_le _, by omega⟩]
    simp [hi']
  · simp [hi']

section Records

variable (s : State) {t u : Nat} (v : Nat)

theorem State.trec_setTState_self : (s.setTState t v).trec t 0 = setBits (s.trec t 0) 1 0 v := nget_nset_self ..

theorem State.trec_setTState_ne (w : Nat) (h : 8 * u + w ≠ 8 * t) : (s.setTState t v).trec u w = s.trec u w := nget_nset_ne _ _ _ h

theorem State.tState_setTState_self : (s.setTState t v).tState t = v % 4 := by
  unfold State.tState
  exact (congrArg (bits · 1 0) (s.trec_setTState_self v)).trans (bits_setBits_low ..)

theorem State.tState_setTState_ne (h : u ≠ t) : (s.setTState t v).tState u = s.tState u := by
  unfold State.tState
  rw [s.trec_setTState_ne v 0 (by omega)]

/-- A field of the first word above STATE stays. -/
theorem State.bits_setTState (u : Nat) {hi lo : Nat} (h : 2 ≤ lo) : bits ((s.setTState t v).trec u 0) hi lo = bits (s.trec u 0) hi lo := by
  by_cases hu : u = t
  · rw [hu, State.trec_setTState_self, bits_setBits_above _ _ _ _ (by decide) (by omega)]
  · rw [s.trec_setTState_ne v 0 (by omega)]

end Records

/-! ## Queues of an absent tenant -/

/-- The entry of a queue that was OFF as it goes to DEAD: what its descriptor holds, or will hold (R60). -/
def State.deadQueue (s : State) (t n : Nat) : Queue := { queueOf n (s.bytesOwed (s.descAt n) 64) with tenant := t, qst := 4 }

theorem State.deadQueue_q (s : State) (t n : Nat) : (s.deadQueue t n).q = n := rfl
theorem State.deadQueue_qst (s : State) (t n : Nat) : (s.deadQueue t n).qst = 4 := rfl

/-- A queue of a tenant goes to DEAD, open or not (R60). -/
def State.toDead (t : Nat) (s : State) (n : Nat) : State :=
  match s.queue n with
  | some q => s.putQueue { q with qst := 4, held := false, again := false }
  | none => { s with ten.queues := s.ten.queues ++ [s.deadQueue t n] }.syncQueue (s.deadQueue t n) 4

/-- Queue i of a tenant goes to DEAD, and QUEDEAD is logged (R60, R92). -/
def State.killQueue (t : Nat) (s : State) (i : Nat) : State := (s.toDead t (s.tQBase t + i)).logEvent t 0 0x27 (some 2) [(16, 4, s.tQBase t + i)]

theorem State.killQueues_eq (s : State) (t : Nat) : s.killQueues t = (List.range (s.tQCount t)).foldl (State.killQueue t) s := rfl

theorem State.syncQueue_logs (s : State) (x : Queue) (qst : Nat) : s.Logs (s.syncQueue x qst) := (s.devStore_logs _ _ _).trans (State.devStore_logs _ _ _ _)

/-- A queue's entry, and what is stored of it, changed. -/
theorem State.queue_putQueue (s : State) (x : Queue) (m : Nat) : (s.putQueue x).queue m = (s.updQueue x.q (fun _ => x)).queue m := by
  unfold State.putQueue State.queue
  rw [(State.syncQueue_logs _ _ _).queues]

theorem State.queue_updQueue_ne (s : State) {x : Queue} {m : Nat} (h : m ≠ x.q) : (s.updQueue x.q (fun _ => x)).queue m = s.queue m := by
  unfold State.queue State.updQueue
  dsimp only
  induction s.ten.queues with
  | nil => rfl
  | cons y ys ih =>
    rw [List.map_cons, List.find?_cons, List.find?_cons, ih]
    by_cases hy : y.q = x.q
    · rw [if_pos hy, hy, beq_eq_false_iff_ne.mpr (Ne.symm h)]
    · rw [if_neg hy]

/-- A queue that was OFF is listed last. -/
theorem State.queue_append (s : State) (x : Queue) (m : Nat) : { s with ten.queues := s.ten.queues ++ [x] }.queue m = (s.queue m).or (if x.q = m then some x else none) := by
  unfold State.queue
  dsimp only
  rw [List.find?_append, List.find?_singleton]
  simp only [beq_iff_eq]

theorem State.queue_toDead_self (s : State) (t n : Nat) : ∃ q, (s.toDead t n).queue n = some q ∧ q.qst = 4 := by
  unfold State.toDead
  split
  · next q hq =>
    have hn : q.q = n := by simpa using List.find?_some hq
    subst hn
    exact ⟨_, (State.queue_putQueue ..).trans (State.queue_updQueue (q := q) (x := { q with qst := 4, held := false, again := false }) hq rfl), rfl⟩
  · next hq =>
    refine ⟨s.deadQueue t n, ?_, s.deadQueue_qst t n⟩
    rw [State.queue, (State.syncQueue_logs _ _ _).queues]
    refine (s.queue_append _ n).trans ?_
    rw [hq, if_pos (s.deadQueue_q t n), Option.none_or]

theorem State.queue_toDead_ne (s : State) (t : Nat) {m n : Nat} (h : m ≠ n) : (s.toDead t n).queue m = s.queue m := by
  unfold State.toDead
  split
  · next q hq =>
    have hn : q.q = n := by simpa using List.find?_some hq
    subst hn
    exact (State.queue_putQueue ..).trans (s.queue_updQueue_ne (x := { q with qst := 4, held := false, again := false }) h)
  · next hq =>
    rw [State.queue, (State.syncQueue_logs _ _ _).queues]
    refine (s.queue_append _ m).trans ?_
    rw [if_neg (by rw [s.deadQueue_q t n]; exact Ne.symm h), Option.or_none]

theorem State.toDead_standing (s : State) (t n : Nat) : (s.toDead t n).standing = s.standing := by
  unfold State.toDead
  split
  · exact (State.syncQueue_logs _ _ _).standing
  · exact (State.syncQueue_logs _ _ _).standing

theorem State.killQueue_queues (s : State) (t i : Nat) : (s.killQueue t i).ten.queues = (s.toDead t (s.tQBase t + i)).ten.queues := (State.logEvent_logs ..).queues

/-- The queue is DEAD. -/
theorem State.queue_killQueue_self (s : State) (t i : Nat) : ∃ q, (s.killQueue t i).queue (s.tQBase t + i) = some q ∧ q.qst = 4 := by
  rw [State.queue, State.killQueue_queues]
  exact s.queue_toDead_self t _

/-- Every other queue stays. -/
theorem State.queue_killQueue_ne (s : State) (t i : Nat) {m : Nat} (h : m ≠ s.tQBase t + i) : (s.killQueue t i).queue m = s.queue m := by
  rw [State.queue, State.killQueue_queues]
  exact s.queue_toDead_ne t h

theorem State.killQueue_standing (s : State) (t i : Nat) : (s.killQueue t i).standing = s.standing := (State.logEvent_logs ..).standing.trans (s.toDead_standing t _)

theorem State.killQueues_standing (s : State) (t : Nat) : (s.killQueues t).standing = s.standing := foldl_keeps State.standing (fun u i => u.killQueue_standing t i) _ s

/-- A tenant's records are part of its standing. -/
theorem State.trec_of_standing {s u : State} (h : u.standing = s.standing) (t w : Nat) : u.trec t w = s.trec t w := congrArg (fun m => nget 0 m (8 * t + w)) (Prod.mk.inj h).1

theorem State.tQBase_of_standing {s u : State} (h : u.standing = s.standing) (t : Nat) : u.tQBase t = s.tQBase t := congrArg (bits · 16 0) (State.trec_of_standing h t 1)

theorem State.slot_of_standing {s u : State} (h : u.standing = s.standing) (n : Nat) : u.slot n = s.slot n := by
  unfold State.slot State.key
  rw [(Prod.mk.inj (Prod.mk.inj h).2).1]

/-- Every queue of the tenant is DEAD, those that were OFF among them (log 22). -/
theorem State.queue_killQueues (s : State) (t : Nat) {i : Nat} (hi : i < s.tQCount t) : ∃ q, (s.killQueues t).queue (s.tQBase t + i) = some q ∧ q.qst = 4 := by
  rw [State.killQueues_eq]
  have hm := List.mem_range.mpr hi
  revert hm
  generalize List.range (s.tQCount t) = l
  clear hi
  -- a queue that is DEAD stays so, and the fold reaches i
  have stays (u : State) (l : List Nat) (m : Nat) (h : ∃ q, u.queue m = some q ∧ q.qst = 4) : ∃ q, (l.foldl (State.killQueue t) u).queue m = some q ∧ q.qst = 4 := by
    refine List.foldlRecOn (motive := fun (u : State) => ∃ q, u.queue m = some q ∧ q.qst = 4) l _ h fun u hu j _ => ?_
    by_cases hj : m = u.tQBase t + j
    · rw [hj]
      exact u.queue_killQueue_self t j
    · rw [u.queue_killQueue_ne t j hj]
      exact hu
  induction l generalizing s with
  | nil => exact fun h => nomatch h
  | cons j l ih =>
    intro hm
    rw [List.foldl_cons]
    by_cases hj : i = j
    · rw [hj]
      exact stays _ _ _ (s.queue_killQueue_self t j)
    · rw [← State.tQBase_of_standing (s.killQueue_standing t j)]
      exact ih _ ((List.mem_cons.mp hm).resolve_left hj)

end Sys2Proof.Machine
end

section
/-! SUPPORT. Sessions at their end (R92): the tenant that is absent, and the order in which its slots and its session go. -/

namespace Sys2Proof.Machine

open Sys2Proof

/-! ## Endings stamped -/

/-- A world's ending is stamped, unless one was before (R90). -/
def State.stampEnd (s : State) (w : Nat) (x : World) (status : Nat) : State := if x.status = 0 then { s with ten.worlds := tset s.ten.worlds w { x with status := status } } else s

theorem State.stampEnd_eq (s : State) (w : Nat) (x : World) (status : Nat) : ∃ ws : Tab Nat World, s.stampEnd w x status = { s with ten.worlds := ws } := by
  unfold State.stampEnd
  split <;> exact ⟨_, rfl⟩

theorem State.sendAbort_of_world {s : State} {w : Nat} {x : World} (h : tget s.ten.worlds w = some x) (status : Nat) : s.sendAbort w status =
    if (s.stampEnd w x status).due (fun e => e == .worldAbort w 6 || e == .worldAbort w 7) then s.stampEnd w x status else (s.stampEnd w x status).send (.worldAbort w status) := by
  unfold State.sendAbort
  rw [h]
  rfl

theorem State.sendAbort_of_none {s : State} {w : Nat} (h : tget s.ten.worlds w = none) (status : Nat) : s.sendAbort w status = s := by
  unfold State.sendAbort
  rw [h]

/-- An ending stamps its world and sends its message, and nothing else. -/
theorem State.sendAbort_eq (s : State) (w status : Nat) : ∃ (ws : Tab Nat World) (ag : List Ev), s.sendAbort w status = { s with ten.worlds := ws, ctl.agenda := ag } := by
  cases h : tget s.ten.worlds w with
  | none => exact ⟨_, _, State.sendAbort_of_none h status⟩
  | some x =>
    obtain ⟨ws, stamped⟩ := s.stampEnd_eq w x status
    rw [State.sendAbort_of_world h, stamped]
    split <;> exact ⟨ws, _, rfl⟩

theorem State.abortWorlds_eq (s : State) (t : Nat) : ∃ (ws : Tab Nat World) (ag : List Ev), s.abortWorlds t = { s with ten.worlds := ws, ctl.agenda := ag } := by
  refine List.foldlRecOn (motive := fun u => ∃ (ws : Tab Nat World) (ag : List Ev), u = { s with ten.worlds := ws, ctl.agenda := ag }) _ _ ⟨s.ten.worlds, s.ctl.agenda, rfl⟩ fun u hu e _ => ?_
  obtain ⟨ws, ag, rfl⟩ := hu
  obtain ⟨ws', ag', h⟩ := State.sendAbort_eq { s with ten.worlds := ws, ctl.agenda := ag } e.1 6
  exact ⟨ws', ag', h⟩

/-! ## The tenant that is absent -/

/-- s once an absent tenant's queues and its STATE are DEAD and its worlds are to end (R92, steps 1 and 2). -/
def State.shut (s : State) (t : Nat) : State := ((s.killQueues t).setTState t 2).abortWorlds t

theorem State.shut_eq (s : State) (t : Nat) : ∃ (ws : Tab Nat World) (ag : List Ev), s.shut t = { (s.killQueues t).setTState t 2 with ten.worlds := ws, ctl.agenda := ag } :=
  State.abortWorlds_eq _ t

theorem State.slot_of_keys {s u : State} (h : u.ten.keys = s.ten.keys) (j : Nat) : u.slot j = s.slot j := by
  unfold State.slot State.key
  rw [h]

theorem State.trec_of_ten {s u : State} (h : u.ten.trec = s.ten.trec) (t w : Nat) : u.trec t w = s.trec t w := congrArg (fun m => nget 0 m (8 * t + w)) h

/-- A session is to end once its tenant's slots are zeroised (R92). -/
def State.pendEnd (s : State) (f : Nat × Nat) (x : Session) : State := { s with ten.sess := tset s.ten.sess f { x with ending := true } }

/-- A session has ended. -/
def State.leaveSession (s : State) (f : Nat × Nat) : State := { s with ten.sess := tdel s.ten.sess f }

theorem State.pendEnd_slot (s : State) (f : Nat × Nat) (x : Session) (j : Nat) : (s.pendEnd f x).slot j = s.slot j := rfl
theorem State.leaveSession_slot (s : State) (f : Nat × Nat) (j : Nat) : (s.leaveSession f).slot j = s.slot j := rfl
theorem State.leaveSession_sess (s : State) (f : Nat × Nat) : tget (s.leaveSession f).ten.sess f = none := tget_tdel_self _ _

/-- s once a tenant is declared absent (R92, steps 1 to 3): its queues and its STATE are DEAD, its worlds are to end, its slots that no world uses are zeroised, and its session is to
end. -/
def State.absent (s : State) (t : Nat) (f : Nat × Nat) (x : Session) : State := ((s.shut t).zeroiseSlots t).pendEnd f x

section Absent

variable (s : State) (t : Nat) (f : Nat × Nat) (x : Session)

theorem State.absent_queues : (s.absent t f x).ten.queues = (s.killQueues t).ten.queues := by
  obtain ⟨ws, ag, h⟩ := s.shut_eq t
  obtain ⟨ks, k⟩ := (s.shut t).zeroiseSlots_eq_keys t
  rw [State.absent, k, h]
  rfl

theorem State.absent_trec (u w : Nat) : (s.absent t f x).trec u w = ((s.killQueues t).setTState t 2).trec u w := by
  obtain ⟨ws, ag, h⟩ := s.shut_eq t
  obtain ⟨ks, k⟩ := (s.shut t).zeroiseSlots_eq_keys t
  refine State.trec_of_ten ?_ u w
  rw [State.absent, k, h]
  rfl

theorem State.absent_sess : (s.absent t f x).ten.sess = tset s.ten.sess f { x with ending := true } := by
  obtain ⟨ws, ag, h⟩ := s.shut_eq t
  obtain ⟨ks, k⟩ := (s.shut t).zeroiseSlots_eq_keys t
  have kept : (s.killQueues t).ten.sess = s.ten.sess := congrArg (fun q => q.2.2.2.2) (s.killQueues_standing t)
  rw [State.absent, k, h, ← kept]
  rfl

theorem State.shut_slot (j : Nat) : (s.shut t).slot j = s.slot j := by
  obtain ⟨ws, ag, h⟩ := s.shut_eq t
  refine (State.slot_of_keys ?_ j).trans (State.slot_of_standing (s.killQueues_standing t) j)
  rw [h]
  rfl

theorem State.absent_slot {j : Nat} (hj : j < 256) : (s.absent t f x).slot j = (s.slot j).retired t := by
  rw [State.absent, State.pendEnd_slot, State.slot_zeroiseSlots, if_pos hj, State.shut_slot]

theorem State.absent_tState : (s.absent t f x).tState t = 2 :=
  (congrArg (bits · 1 0) (s.absent_trec t f x t 0)).trans ((s.killQueues t).tState_setTState_self 2)

/-- The tenant's function is still its own (R60). -/
theorem State.absent_tenantOfAny {p q : Nat} (h : s.tenantOfAny p q = some t) (ho : ∀ u < 256, u ≠ t → s.tState u = 0 ∨ s.tPort u ≠ p ∨ s.tFunc u ≠ q) :
    (s.absent t f x).tenantOfAny p q = some t := by
  have field (u hi lo : Nat) (hl : 2 ≤ lo) : bits ((s.absent t f x).trec u 0) hi lo = bits (s.trec u 0) hi lo := by
    rw [State.absent_trec, State.bits_setTState _ _ _ hl, State.trec_of_standing (s.killQueues_standing t)]
  have others (u : Nat) (hu : u ≠ t) : (s.absent t f x).tState u = s.tState u := by
    refine (congrArg (bits · 1 0) (s.absent_trec t f x u 0)).trans (((s.killQueues t).tState_setTState_ne 2 hu).trans ?_)
    exact congrArg (bits · 1 0) (State.trec_of_standing (s.killQueues_standing t) u 0)
  obtain ⟨ht, hp, hq⟩ := State.tenantOfAny_spec h
  refine State.tenantOfAny_of_dead ht (s.absent_tState t f x) ((field t 56 56 (by decide)).trans hp) ((field t 47 40 (by decide)).trans hq) fun u hu hut => ?_
  rw [others u hut, show (s.absent t f x).tPort u = s.tPort u from field u 56 56 (by decide), show (s.absent t f x).tFunc u = s.tFunc u from field u 47 40 (by decide)]
  exact ho u hu hut

end Absent

/-! ## Sessions that end -/

/-- Some slot of a tenant is not EMPTY. -/
def State.holdsSlot (s : State) (t : Nat) : Bool := (List.range 256).any (fun n => (s.slot n).state != 0 && (s.slot n).tenant == t)

theorem State.holdsSlot_iff {s : State} {t : Nat} : s.holdsSlot t = true ↔ ∃ j < 256, (s.slot j).tenant = t ∧ (s.slot j).state ≠ 0 := by
  simp only [State.holdsSlot, List.any_eq_true, List.mem_range, Bool.and_eq_true, bne_iff_ne, beq_iff_eq, and_comm]

/-- The session of an absent tenant ends once none of its slots is left (R92). -/
theorem State.endSession_of_ending {s : State} {t : Nat} {f : Nat × Nat} {x : Session} (hs : s.sessionOf t = some f) (hx : tget s.ten.sess f = some x) (he : x.ending = true) :
    s.endSession t = if (s.zeroiseSlots t).holdsSlot t then s.zeroiseSlots t else (s.zeroiseSlots t).leaveSession f := by
  unfold State.endSession
  rw [hs]
  dsimp only
  rw [hx]
  exact ite_not_of_true he

/-- An end of a session zeroises slots and may take the session away (R92). -/
theorem State.endSession_cases (s : State) (t : Nat) : s.endSession t = s ∨ s.endSession t = s.zeroiseSlots t ∨
    ∃ f, s.endSession t = (s.zeroiseSlots t).leaveSession f := by
  cases hs : s.sessionOf t with
  | none => exact .inl (by rw [State.endSession, hs])
  | some f =>
    cases hx : tget s.ten.sess f with
    | none => exact .inl (by rw [State.endSession, hs]; dsimp only; rw [hx])
    | some x =>
      cases he : x.ending with
      | false => exact .inl (by rw [State.endSession, hs]; dsimp only; rw [hx]; exact ite_not_of_false he)
      | true =>
        rw [State.endSession_of_ending hs hx he]
        split
        · exact .inr (.inl rfl)
        · exact .inr (.inr ⟨f, rfl⟩)

/-- What an end of a session leaves as it is, beside slots and sessions. -/
theorem State.endSession_eq (s : State) (t : Nat) : ∃ (ks : Tab Nat KeySlot) (ss : Tab (Nat × Nat) Session), s.endSession t = { s with ten.keys := ks, ten.sess := ss } := by
  obtain ⟨ks, h⟩ := s.zeroiseSlots_eq_keys t
  rcases s.endSession_cases t with e | e | ⟨f, e⟩
  · exact ⟨_, _, e⟩
  · exact ⟨ks, s.ten.sess, e.trans h⟩
  · rw [h] at e
    exact ⟨ks, _, e⟩

/-- No slot gains or loses a user. -/
theorem State.endSession_slot_users (s : State) (t j : Nat) : ((s.endSession t).slot j).users = (s.slot j).users := by
  have zeroised : ((s.zeroiseSlots t).slot j).users = (s.slot j).users := by
    rw [State.slot_zeroiseSlots]
    split
    · exact KeySlot.retired_users _
    · rfl
  rcases s.endSession_cases t with e | e | ⟨f, e⟩
  · rw [e]
  · rw [e, zeroised]
  · rw [e, State.leaveSession_slot, zeroised]

/-- Zeroising slots anew finds them as they are. -/
theorem State.absent_zeroised_slot (s : State) (t : Nat) (f : Nat × Nat) (x : Session) {j : Nat} (hj : j < 256) : ((s.absent t f x).zeroiseSlots t).slot j = (s.slot j).retired t := by
  rw [State.slot_zeroiseSlots, if_pos hj, s.absent_slot t f x hj, KeySlot.retired_retired]

/-- A slot of the tenant is left just where a world uses it. -/
theorem State.absent_holdsSlot (s : State) (t : Nat) (f : Nat × Nat) (x : Session) : ((s.absent t f x).zeroiseSlots t).holdsSlot t = true ↔
    ∃ j < 256, (s.slot j).tenant = t ∧ (s.slot j).state ≠ 0 ∧ (s.slot j).users ≠ 0 := by
  rw [State.holdsSlot_iff]
  refine exists_congr fun j => and_congr_right fun hj => ?_
  rw [s.absent_zeroised_slot t f x hj, KeySlot.retired_tenant]
  exact and_congr_right fun ht => KeySlot.retired_state_iff ht

/-- What HEARTBEAT_TIMEOUT makes of a tenant with a launch dispatched (R92). -/
def State.absence (s : State) (t : Nat) (f : Nat × Nat) (x : Session) : State := ((s.absent t f x).endSession t).pokeReeve

section Absence

variable {s : State} {t p f : Nat} (x : Session) (hs : s.sessionOf t = some (p, f))

theorem State.pokeReeve_slot (s : State) (j : Nat) : s.pokeReeve.slot j = s.slot j := State.slot_of_standing (State.standing_of_warded s.pokeReeve_warded) j

theorem State.pokeReeve_sess (s : State) : s.pokeReeve.ten.sess = s.ten.sess :=
  congrArg (·.2.2.2.2) (State.standing_of_warded s.pokeReeve_warded)

/-- Slots and sessions changed. -/
theorem State.with_slots_trec (s : State) (ks : Tab Nat KeySlot) (ss : Tab (Nat × Nat) Session) (t w : Nat) : { s with ten.keys := ks, ten.sess := ss }.trec t w = s.trec t w := rfl

/-- The tenant is DEAD (R92, step 1). -/
theorem State.absence_tState (s : State) (t : Nat) (f : Nat × Nat) (x : Session) : (s.absence t f x).tState t = 2 := by
  obtain ⟨ks, ss, h⟩ := (s.absent t f x).endSession_eq t
  have kept : (s.absence t f x).trec t 0 = (s.absent t f x).trec t 0 := by
    rw [State.absence, State.trec_of_standing (State.standing_of_warded (State.pokeReeve_warded _)), h, State.with_slots_trec]
  exact (congrArg (bits · 1 0) kept).trans (s.absent_tState t f x)

/-- So are its queues. -/
theorem State.absence_queue (s : State) (t : Nat) (f : Nat × Nat) (x : Session) (n : Nat) : (s.absence t f x).queue n = (s.killQueues t).queue n := by
  obtain ⟨ks, ss, h⟩ := (s.absent t f x).endSession_eq t
  unfold State.queue
  rw [State.absence, (State.pokeReeve_cuts _).1, h, ← s.absent_queues t f x]

variable (ho : ∀ u < 256, u ≠ t → s.tState u = 0 ∨ s.tPort u ≠ p ∨ s.tFunc u ≠ f)

include hs ho

theorem State.endSession_absent : (s.absent t (p, f) x).endSession t = if ((s.absent t (p, f) x).zeroiseSlots t).holdsSlot t then (s.absent t (p, f) x).zeroiseSlots t
    else ((s.absent t (p, f) x).zeroiseSlots t).leaveSession (p, f) := by
  have own := s.absent_tenantOfAny t (p, f) x (State.tenantOfAny_of_sessionOf hs) ho
  refine State.endSession_of_ending (x := { x with ending := true }) (State.sessionOf_tset (s.absent_sess t (p, f) x) own) ?_ rfl
  rw [State.absent_sess, tget_tset_self]

theorem State.absence_slot {j : Nat} (hj : j < 256) : (s.absence t (p, f) x).slot j = (s.slot j).retired t := by
  rw [State.absence, State.pokeReeve_slot, State.endSession_absent x hs ho, ← s.absent_zeroised_slot t (p, f) x hj]
  split
  · rfl
  · exact State.leaveSession_slot ..

/-- The session is gone once every slot is zeroised (R92, step 4). -/
theorem State.absence_ended (h : ∀ j < 256, (s.slot j).tenant = t → (s.slot j).state ≠ 0 → (s.slot j).users = 0) : tget (s.absence t (p, f) x).ten.sess (p, f) = none := by
  have none_left : ¬ ((s.absent t (p, f) x).zeroiseSlots t).holdsSlot t = true := fun hl => by
    obtain ⟨j, hj, ht, hne, hu⟩ := (s.absent_holdsSlot t (p, f) x).mp hl
    exact hu (h j hj ht hne)
  rw [State.absence, State.pokeReeve_sess, State.endSession_absent x hs ho, if_neg none_left]
  exact State.leaveSession_sess ..

/-- Else it is still to end. -/
theorem State.absence_ending (h : ∃ j < 256, (s.slot j).tenant = t ∧ (s.slot j).state ≠ 0 ∧ (s.slot j).users ≠ 0) :
    ∃ y, tget (s.absence t (p, f) x).ten.sess (p, f) = some y ∧ y.ending = true := by
  refine ⟨{ x with ending := true }, ?_, rfl⟩
  obtain ⟨ks, hk⟩ := (s.absent t (p, f) x).zeroiseSlots_eq_keys t
  rw [State.absence, State.pokeReeve_sess, State.endSession_absent x hs ho, if_pos ((s.absent_holdsSlot t (p, f) x).mpr h), hk]
  exact (congrArg (tget · (p, f)) (s.absent_sess t (p, f) x)).trans (tget_tset_self ..)

/-- What R92 asks of a tenant that is absent, step by step. -/
theorem State.absence_spec : (s.absence t (p, f) x).tState t = 2 ∧ (∀ i, i < s.tQCount t → ∃ q, (s.absence t (p, f) x).queue (s.tQBase t + i) = some q ∧ q.qst = 4) ∧
    (∀ j < 256, (s.slot j).tenant = t → ((s.absence t (p, f) x).slot j).state ≠ 1) ∧
    ((∀ j < 256, (s.slot j).tenant = t → (s.slot j).state ≠ 0 → (s.slot j).users = 0) → tget (s.absence t (p, f) x).ten.sess (p, f) = none) ∧
    ((∃ j < 256, (s.slot j).tenant = t ∧ (s.slot j).state ≠ 0 ∧ (s.slot j).users ≠ 0) → ∃ y, tget (s.absence t (p, f) x).ten.sess (p, f) = some y ∧ y.ending = true) := by
  refine ⟨State.absence_tState .., fun i hi => ?_, fun j hj ht => ?_, State.absence_ended x hs ho, State.absence_ending x hs ho⟩
  · rw [State.absence_queue]
    exact s.queue_killQueues t hi
  · rw [State.absence_slot x hs ho hj]
    exact KeySlot.retired_state_ne ht

end Absence

/-! ## HEARTBEAT_TIMEOUT -/

/-- The time-out of a session that is not ending yet (R92). -/
theorem exec_heartbeatTimeout {s : State} {t p f : Nat} {x : Session} (hs : s.sessionOf t = some (p, f)) (hx : tget s.ten.sess (p, f) = some x) (he : x.ending = false) :
    exec .heartbeatTimeout (s.hears (.heartbeatTimeout t)) = .next (
      if s.ctl.time < x.last + 3400000000 * x.period then s.hears (.heartbeatTimeout t)
      else if s.hasContext t = true then (s.hears (.heartbeatTimeout t)).absence t (p, f) x
      else { s.hears (.heartbeatTimeout t) with ten.sess := tdel s.ten.sess (p, f) }) := by
  have found : (s.hears (.heartbeatTimeout t)).sessionOf t = some (p, f) := hs
  have kept : tget (s.hears (.heartbeatTimeout t)).ten.sess (p, f) = some x := hx
  have two : 2 * x.period * 1000000 * perUs = 3400000000 * x.period := by unfold perUs; omega
  change execHeartbeatTimeout (s.hears (.heartbeatTimeout t)) = _
  unfold execHeartbeatTimeout
  rw [State.hears_op]
  dsimp only
  rw [found]
  dsimp only
  rw [kept]
  dsimp only
  rw [he, Bool.false_or, two]
  simp only [decide_eq_true_eq]
  unfold State.absence State.absent State.pendEnd State.shut
  rfl

/-- Settles O41, message by message. -/
theorem sessionEvents : Obligations.SessionEvents := by
  intro s t p f n b x hs secret empty handle k
  refine ⟨fun hb => ?badInstall, fun hb hn => ?noSlot, fun hb hn => ?install, fun h0 h1 hl => ⟨fun hk => ?noKey, fun hk hc hg => ⟨fun ht => ?denied, fun ht hu => ?removed, fun ht hu => ?pending⟩⟩,
    fun ht => ?exchange, fun hx he => ⟨?heartbeat, fun hd => ⟨fun hc => ?ended, fun hc ho => ?absent⟩, fun hd => ?early⟩⟩
  case badInstall => exact .of_pos (c := (!installOk b) = true) (by rw [hb]; rfl) rfl (exec_keyInstall hs)
  case noSlot =>
    refine ⟨rfl, (exec_keyInstall hs).trans (congrArg Host.Outcome.next ((ite_not_of_true hb).trans ?_))⟩
    rw [show (List.range 256).find? (fun n => (s.slot n).state == 0) = none from hn]
  case install =>
    refine ⟨rfl, (exec_keyInstall hs).trans (congrArg Host.Outcome.next ((ite_not_of_true hb).trans ?_))⟩
    rw [show (List.range 256).find? (fun n => (s.slot n).state == 0) = some n from hn]
    rfl
  case noKey =>
    refine ⟨rfl, (exec_keyRemove hs h0 h1 hl).trans ?_⟩
    rw [removeSlot_of_empty hk]
    rfl
  case denied =>
    refine ⟨rfl, (exec_keyRemove hs h0 h1 hl).trans ?_⟩
    rw [removeSlot_of_loaded hk hc hg, if_pos ht]
    rfl
  case removed =>
    refine ⟨rfl, (exec_keyRemove hs h0 h1 hl).trans ?_⟩
    rw [removeSlot_of_loaded hk hc hg, if_neg (not_not.mpr ht), if_pos hu]
    rfl
  case pending =>
    refine ⟨rfl, (exec_keyRemove hs h0 h1 hl).trans ?_⟩
    rw [removeSlot_of_loaded hk hc hg, if_neg (not_not.mpr ht), if_neg hu]
    rfl
  case exchange =>
    have on : (s.hears (.spdmKeyExchange p f)).tenantOf p f = some t := ht
    refine ⟨rfl, ?_⟩
    change execSpdmKeyExchange (s.hears (.spdmKeyExchange p f)) = _
    unfold execSpdmKeyExchange
    rw [State.hears_op]
    dsimp only
    rw [on]
  case heartbeat =>
    have found : (s.hears (.heartbeatRequest t)).sessionOf t = some (p, f) := hs
    have kept : tget (s.hears (.heartbeatRequest t)).ten.sess (p, f) = some x := hx
    refine ⟨rfl, ?_⟩
    change execHeartbeatRequest (s.hears (.heartbeatRequest t)) = _
    unfold execHeartbeatRequest
    rw [State.hears_op]
    dsimp only
    rw [found]
    dsimp only
    rw [kept]
    exact congrArg Host.Outcome.next (if_neg (Bool.eq_false_iff.mp he))
  case ended =>
    refine ⟨rfl, (exec_heartbeatTimeout hs hx he).trans ?_⟩
    rw [if_neg (Nat.not_lt_of_le hd), if_neg (Bool.eq_false_iff.mp hc)]
    rfl
  case absent =>
    have gone : exec .heartbeatTimeout (s.hears (.heartbeatTimeout t)) = .next ((s.hears (.heartbeatTimeout t)).absence t (p, f) x) := by
      rw [exec_heartbeatTimeout hs hx he, if_neg (Nat.not_lt_of_le hd), if_pos hc]
    exact ⟨rfl, _, gone, State.absence_spec (s := s.hears (.heartbeatTimeout t)) x hs ho⟩
  case early =>
    refine ⟨rfl, (exec_heartbeatTimeout hs hx he).trans ?_⟩
    rw [if_pos hd]
    rfl

end Sys2Proof.Machine
end

section
/-! SUPPORT. Worlds at their end (R88 to R90): retirement in its order, the scrub and what it leaves of a world's lines, and an abnormal end. -/

namespace Sys2Proof.Machine

open Sys2Proof

/-! ## Retirement -/

section Retire

variable {s : State} {w : Nat} {x : World} {l : Launch}

/-- A dirty line in the ways of a world. -/
def State.dirtyLine (s : State) (w : Nat) : Bool := s.coh.l2.any (fun l => l.world == w && l.dirty)

/-- A copy of a world's that is not materialised in full. -/
def State.openAlias (s : State) (w : Nat) : Bool := s.ali.entries.any (fun e => e.wtag == w && !e.left.isEmpty)

theorem State.dirtyLine_iff : s.dirtyLine w = true ↔ ∃ y ∈ s.coh.l2, y.world = w ∧ y.dirty = true := by simp [State.dirtyLine]

theorem State.openAlias_iff : s.openAlias w = true ↔ ∃ e ∈ s.ali.entries, e.wtag = w ∧ e.left ≠ [] := by simp [State.openAlias]

/-- The steps of R88 that follow the end of a world's stores and copies, the next one due. -/
def State.retireStep (s : State) (w : Nat) (l : Launch) : State :=
  if s.dirtyLine w then (s.sealAll w).later (.worldRetire w)
  else if s.openAlias w then (s.materialiseWorld w).later (.worldRetire w)
  else if !l.released then (s.startRels l).later (.worldRetire w)
  else (s.updWorld w (fun x => { x with phase := 3 })).send (.worldScrubComplete w)

/-- WORLD_RETIRE of a world whose stores have drained (R88). -/
theorem exec_worldRetire (hx : tget s.ten.worlds w = some x) (hl : s.launch x.ctx = some l) (hp : x.phase = 1) (h0 : x.status = 0) (hend : l.ending ≠ none ∨ s.launchBusy l = false)
    (hleft : s.leftovers x.ctx = false) (htx : ∀ t ∈ s.coh.txs, t.world = w → t.inval = true) (hpc : ∀ p ∈ s.ali.pieces, p.entry.wtag ≠ w) :
    exec .worldRetire (s.hears (.worldRetire w)) = .next ((s.hears (.worldRetire w)).retireStep w l) := by
  have found : tget (s.hears (.worldRetire w)).ten.worlds w = some x := hx
  have listed : (s.hears (.worldRetire w)).launch x.ctx = some l := hl
  have stored : ¬ (s.coh.txs.any (fun t => t.world == w && !t.inval) || s.ali.pieces.any (fun p => p.entry.wtag == w)) = true := by
    simp only [Bool.or_eq_true, List.any_eq_true, Bool.and_eq_true, beq_iff_eq, Bool.not_eq_true', not_or, not_exists, not_and]
    exact ⟨fun t ht hw => by rw [htx t ht hw]; decide, hpc⟩
  change execWorldRetire (s.hears (.worldRetire w)) = _
  unfold execWorldRetire
  rw [State.hears_op]
  dsimp only
  rw [found]
  dsimp only
  rw [if_neg (by simp [hp, h0]), listed]
  dsimp only
  rw [if_neg (c := (l.ending.isNone && (s.hears (.worldRetire w)).launchBusy l) = true) (ends_of hend), if_neg (by simp [hp]),
    if_neg (c := (s.hears (.worldRetire w)).leftovers x.ctx = true) (Bool.eq_false_iff.mp hleft)]
  exact congrArg Host.Outcome.next (if_neg stored)

end Retire

/-! ## The scrub -/

/-- No line of t carries a world's tag. -/
def State.Untagged (t : State) (w : Nat) : Prop := (∀ y ∈ t.coh.l2, y.world ≠ w) ∧ (∀ y ∈ t.coh.l1, y.wtag ≠ w) ∧ ∀ y ∈ t.mm.ctag, y.2 ≠ w

theorem State.Untagged.of_tagged {s t : State} {w : Nat} (h : s.Untagged w) (k : t.tagged = s.tagged) : t.Untagged w := by
  obtain ⟨k1, k2, k3⟩ : t.coh.l1 = s.coh.l1 ∧ t.coh.l2 = s.coh.l2 ∧ t.mm.ctag = s.mm.ctag := ⟨congrArg (·.1) k, congrArg (·.2.1) k, congrArg (·.2.2) k⟩
  rw [State.Untagged, k1, k2, k3]
  exact h

section Scrub

variable (s : State) (w : Nat)

/-- The Cellar lines that carry a world's tag. -/
def State.cells : List Nat := (s.mm.ctag.filter (fun e => e.2 == w)).map (fun e => e.1)

/-- The lines of a world in the caches are gone, and those on their way to an L1. -/
def State.dropLines : State :=
  let s1 := s.unsend (fun e => match e with | .dirReadMiss _ _ t _ => t == w | .l1FillReturn _ _ t _ _ _ _ => t == w | _ => false)
  { s1 with
    coh.l2 := s1.coh.l2.filter (fun l => l.world != w),
    coh.l1 := s1.coh.l1.filter (fun l => l.wtag != w),
    coh.cdir := s1.coh.cdir.filter (fun e => !(s.cells w).contains e.1) }

/-- The poison of a line's words is cleared. -/
def State.clearPoison (s : State) (line : Nat) : State := (List.range 16).foldl (fun (s : State) i => s.setPoison (16 * line + i) false) s

/-- A Cellar line is zeroed and its tag cleared. -/
def State.wipeCell (s : State) (line : Nat) : State :=
  { (s.putBytes (128 * line) (zeros 128)).clearPoison line with mm.ctag := tdel ((s.putBytes (128 * line) (zeros 128)).clearPoison line).mm.ctag line }

theorem State.scrub_eq : s.scrub w = (s.cells w).foldl State.wipeCell (s.dropLines w) := rfl

theorem State.foldl_setPoison_eq (line : Nat) (is : List Nat) (s : State) : ∃ ps : List Nat, is.foldl (fun (s : State) i => s.setPoison (16 * line + i) false) s = { s with mm.pois := ps } := by
  refine List.foldlRecOn (motive := fun (u : State) => ∃ ps : List Nat, u = { s with mm.pois := ps }) _ _ ⟨s.mm.pois, rfl⟩ fun u hu i _ => ?_
  obtain ⟨ps, rfl⟩ := hu
  exact ⟨_, rfl⟩

theorem State.clearPoison_eq (s : State) (line : Nat) : ∃ ps : List Nat, s.clearPoison line = { s with mm.pois := ps } := State.foldl_setPoison_eq line (List.range 16) s

theorem State.clearPoison_hears (s : State) (e : Ev) (line : Nat) : (s.hears e).clearPoison line = (s.clearPoison line).hears e := foldl_hears e (fun _ _ => rfl) _ s

theorem State.putBytes_eq (s : State) (pa : Nat) (bs : List Byte) : ∃ m : Memory, s.putBytes pa bs = { s with mem := m } := ⟨_, rfl⟩
theorem State.putBytes_hears (s : State) (e : Ev) (pa : Nat) (bs : List Byte) : (s.hears e).putBytes pa bs = (s.putBytes pa bs).hears e := rfl

theorem State.wipeCell_eq (s : State) (line : Nat) : ∃ (m : Memory) (ps : List Nat), s.wipeCell line = { s with mem := m, mm.pois := ps, mm.ctag := tdel s.mm.ctag line } := by
  obtain ⟨m, hm⟩ := s.putBytes_eq (128 * line) (zeros 128)
  obtain ⟨ps, h⟩ := ({ s with mem := m } : State).clearPoison_eq line
  rw [State.wipeCell, hm, h]
  exact ⟨m, ps, rfl⟩

/-- Lines of the Cellar zeroed: of the rest of the state only poison changes. -/
theorem State.foldl_wipeCell_eq (ls : List Nat) (s : State) : ∃ (m : Memory) (ps : List Nat), ls.foldl State.wipeCell s = { s with mem := m, mm.pois := ps, mm.ctag := ls.foldl tdel s.mm.ctag } := by
  induction ls generalizing s with
  | nil => exact ⟨s.mem, s.mm.pois, rfl⟩
  | cons line ls ih =>
    obtain ⟨m, ps, h⟩ := s.wipeCell_eq line
    obtain ⟨m', ps', k⟩ := ih (s.wipeCell line)
    rw [List.foldl_cons, List.foldl_cons, k, h]
    exact ⟨m', ps', rfl⟩

theorem State.scrub_ten : (s.scrub w).ten = s.ten := by
  obtain ⟨m, ps, h⟩ := State.foldl_wipeCell_eq (s.cells w) (s.dropLines w)
  rw [State.scrub_eq, h]
  rfl

/-- A world's lines are gone (R88). -/
theorem State.scrub_untagged : (s.scrub w).Untagged w := by
  obtain ⟨m, ps, h⟩ := State.foldl_wipeCell_eq (s.cells w) (s.dropLines w)
  rw [State.scrub_eq, h]
  refine ⟨fun y hy => ?_, fun y hy => ?_, fun y hy hw => ?_⟩
  · simpa using (List.mem_filter.mp hy).2
  · simpa using (List.mem_filter.mp hy).2
  · obtain ⟨hm, hn⟩ := mem_foldl_tdel.mp hy
    exact hn (List.mem_map.mpr ⟨y, List.mem_filter.mpr ⟨hm, by simpa using hw⟩, rfl⟩)

theorem State.wipeCell_hears (s : State) (e : Ev) (line : Nat) : (s.hears e).wipeCell line = (s.wipeCell line).hears e := by
  unfold State.wipeCell
  rw [State.putBytes_hears, State.clearPoison_hears]
  rfl

theorem State.scrub_hears (e : Ev) : (s.hears e).scrub w = (s.scrub w).hears e := by
  have dropped : (s.hears e).dropLines w = (s.dropLines w).hears e := rfl
  rw [State.scrub_eq, State.scrub_eq, dropped]
  exact foldl_hears e (fun t line => t.wipeCell_hears e line) _ _

end Scrub

/-! ## The end of a world -/

/-- A launch that estimates nothing ends with its completion record, once the record's place is there (R62). -/
theorem State.finish_of_ready {s : State} {l : Launch} {pa : Nat} {attr : PAttr} (st : Nat) (he : l.est = none) (hc : l.lrec.compl % 64 = 0)
    (hx : s.reeveXl l.tenant l.lrec.compl 5 = .ok pa attr) (hs : s.storeReady pa 64 = true) :
    s.finish l st = some ((s.completed pa l.tenant l.queue l.ctx l.lrec st l.arith).forget l st) := by
  unfold State.finish
  rw [he]
  exact congrArg (Option.map _) (State.complete_of_ready l.queue l.ctx st l.arith hc hx hs)

/-- A world's number and its slot's user given back (R88). -/
def State.giveBackWorld (s : State) (w slot : Nat) : State := (({ s with ten.worlds := tdel s.ten.worlds w }.dropUser slot).retryHeld).pokePlaces

theorem State.worlds_of_standing {s u : State} (h : u.standing = s.standing) : u.ten.worlds = s.ten.worlds := congrArg (·.2.2.1) h

section Free

variable (s : State) (w slot : Nat)

theorem State.dropUser_eq (n : Nat) : ∃ (ks : Tab Nat KeySlot) (ss : Tab (Nat × Nat) Session), s.dropUser n = { s with ten.keys := ks, ten.sess := ss } := by
  unfold State.dropUser
  obtain ⟨ks, ss, h⟩ := State.endSession_eq (s.setSlot n (if (s.slot n).state = 2 ∧ (s.slot n).users - 1 = 0 then { s.slot n with users := 0 }.zeroise else { s.slot n with users := (s.slot n).users - 1 }))
    (s.slot n).tenant
  exact ⟨ks, ss, h⟩

theorem State.dropUser_users (n : Nat) : ((s.dropUser n).slot n).users = (s.slot n).users - 1 := by
  unfold State.dropUser
  rw [State.endSession_slot_users, State.slot_setSlot_self]
  split
  · next h => exact h.2.symm
  · rfl

theorem State.giveBackWorld_warded : (s.giveBackWorld w slot).warded = ({ s with ten.worlds := tdel s.ten.worlds w }.dropUser slot).warded := State.retryHeld_warded _

theorem State.giveBackWorld_tagged : (s.giveBackWorld w slot).tagged = s.tagged := by
  obtain ⟨ks, ss, h⟩ := State.dropUser_eq { s with ten.worlds := tdel s.ten.worlds w } slot
  exact (State.tagged_of_warded (s.giveBackWorld_warded w slot)).trans (by rw [h]; rfl)

theorem State.giveBackWorld_worlds : (s.giveBackWorld w slot).ten.worlds = tdel s.ten.worlds w := by
  obtain ⟨ks, ss, h⟩ := State.dropUser_eq { s with ten.worlds := tdel s.ten.worlds w } slot
  exact (State.worlds_of_standing (State.standing_of_warded (s.giveBackWorld_warded w slot))).trans (by rw [h])

theorem State.giveBackWorld_launch (c : Nat) : (s.giveBackWorld w slot).launch c = s.launch c := by
  obtain ⟨ks, ss, h⟩ := State.dropUser_eq { s with ten.worlds := tdel s.ten.worlds w } slot
  have kept : (s.giveBackWorld w slot).run = s.run := (State.retryHeld_run _).trans (by rw [h])
  rw [State.launch, kept, State.launch]

theorem State.giveBackWorld_users : ((s.giveBackWorld w slot).slot slot).users = (s.slot slot).users - 1 := by
  rw [State.slot_of_standing (State.standing_of_warded (s.giveBackWorld_warded w slot)), State.dropUser_users]
  rfl

end Free

section Complete

variable {s : State} {w : Nat} {x : World} {l : Launch} {pa : Nat} {attr : PAttr}

/-- s once a scrubbed world's completion record is written and its launch is gone (R88). -/
def State.recordWorld (s : State) (w : Nat) (l : Launch) (pa st : Nat) : State := ((s.scrub w).completed pa l.tenant l.queue l.ctx l.lrec st l.arith).forget l st

theorem State.recordWorld_warded (s : State) (w : Nat) (l : Launch) (pa st : Nat) : (s.recordWorld w l pa st).warded = (s.scrub w).warded :=
  (State.forget_warded ..).trans (State.completed_logs ..).warded

/-- WORLD_SCRUB_COMPLETE of a world whose completion record has its place (R88). -/
theorem exec_worldScrubComplete (hx : tget s.ten.worlds w = some x) (hl : s.launch x.ctx = some l) (hp : x.phase = 3) (he : l.est = none) (hc : l.lrec.compl % 64 = 0)
    (ht : (s.scrub w).reeveXl l.tenant l.lrec.compl 5 = .ok pa attr) (hs : (s.scrub w).storeReady pa 64 = true) :
    exec .worldScrubComplete (s.hears (.worldScrubComplete w)) =
      .next (((s.hears (.worldScrubComplete w)).recordWorld w l pa (if x.status ≠ 0 then x.status else l.ending.getD 0)).giveBackWorld w x.slot) := by
  have found : tget (s.hears (.worldScrubComplete w)).ten.worlds w = some x := hx
  have listed : (s.hears (.worldScrubComplete w)).launch x.ctx = some l := hl
  have finished := State.finish_of_ready (s := (s.hears (.worldScrubComplete w)).scrub w) (if x.status ≠ 0 then x.status else l.ending.getD 0) he hc
    (by rw [State.scrub_hears]; exact ht) (by rw [State.scrub_hears, State.storeReady_hears]; exact hs)
  change execWorldScrubComplete (s.hears (.worldScrubComplete w)) = _
  unfold execWorldScrubComplete
  rw [State.hears_op]
  dsimp only
  rw [found]
  dsimp only
  rw [if_neg (not_not.mpr hp), listed]
  dsimp only
  rw [finished]
  rfl

end Complete

end Sys2Proof.Machine
end

section
/-! SUPPORT. Worlds that end abnormally (R89, R90) and interfaces that leave RUN (R91). -/

namespace Sys2Proof.Machine

open Sys2Proof

/-! ## What an abnormal end discards -/

section Discards

variable (s : State)

theorem State.drop_standing (ctx : Nat) : (s.drop ctx).standing = s.standing := by
  have released : ((s.releaseBlocks (s.worldOfCtx ctx) ((s.core.gangs.filter (fun g => g.ctx == ctx)).flatMap (fun g => g.block :: g.tblocks))).standing = s.standing) :=
    State.standing_of_warded (State.releaseBlocks_warded ..)
  exact released

/-- The bytes of a world's entries are poisoned. -/
def State.poisonWords (s : State) (ws : List Nat) : State := ws.foldl (fun (s : State) x => s.setPoison x true) s

theorem State.poisonWords_eq (s : State) (ws : List Nat) : ∃ ps : List Nat, s.poisonWords ws = { s with mm.pois := ps } := by
  refine List.foldlRecOn (motive := fun (u : State) => ∃ ps : List Nat, u = { s with mm.pois := ps }) _ _ ⟨s.mm.pois, rfl⟩ fun u hu i _ => ?_
  obtain ⟨ps, rfl⟩ := hu
  exact ⟨_, rfl⟩

/-- The destination words of a world's entries. -/
def State.aliasWords (s : State) (w : Nat) : List Nat :=
  (s.ali.entries.filter (fun e => e.wtag == w)).flatMap (fun e => e.left.flatMap (fun r => (List.range ((r.1 + r.2 + 7) / 8 - r.1 / 8)).map (fun i => r.1 / 8 + i)))

/-- An entry without the holders that are gone. -/
def holdOnly (ps : List Piece) (e : Alias) : Alias := { e with holders := e.holders.filter (fun h => ps.any (fun p => p.id == h)) }

/-- s without the pieces and entries of a world. -/
def State.strikeAliases (s : State) (w : Nat) : State :=
  { s with
    ali.entries := (((s.ali.entries.filter (fun e => e.wtag != w)).map (holdOnly (s.ali.pieces.filter (fun p => p.entry.wtag != w)))).filter (fun e => !e.left.isEmpty || e.hold)),
    ali.pieces := s.ali.pieces.filter (fun p => p.entry.wtag != w) }

theorem State.dropAliases_eq (w : Nat) : s.dropAliases w = (s.poisonWords (s.aliasWords w)).strikeAliases w := rfl

theorem State.dropAliases_standing (w : Nat) : (s.dropAliases w).standing = s.standing := by
  obtain ⟨ps, h⟩ := s.poisonWords_eq (s.aliasWords w)
  rw [State.dropAliases_eq, h]
  rfl

theorem State.dropAliases_coh (w : Nat) : (s.dropAliases w).coh = s.coh := by
  obtain ⟨ps, h⟩ := s.poisonWords_eq (s.aliasWords w)
  rw [State.dropAliases_eq, h]
  rfl

/-- No entry of the world is left (R123). -/
theorem State.dropAliases_entries (w : Nat) : ∀ e ∈ (s.dropAliases w).ali.entries, e.wtag ≠ w := by
  intro e he
  rw [State.dropAliases_eq] at he
  obtain ⟨a, ha, rfl⟩ := List.mem_map.mp (List.mem_filter.mp he).1
  have kept : a.wtag ≠ w := by simpa using (List.mem_filter.mp ha).2
  exact kept

end Discards

/-! ## WORLD_ABORT -/

section Abort

variable {s : State} {w : Nat} {x : World}

theorem State.updWorld_eq (s : State) {w : Nat} {x : World} (hx : tget s.ten.worlds w = some x) (f : World → World) : s.updWorld w f = { s with ten.worlds := tset s.ten.worlds w (f x) } := by
  unfold State.updWorld
  rw [hx]

theorem State.updWorld_worlds (f : World → World) (hx : tget s.ten.worlds w = some x) : (s.updWorld w f).ten.worlds = tset s.ten.worlds w (f x) := by
  rw [State.updWorld_eq s hx]

/-- The world that starts to end, with the ending that was stamped (R89, R90). -/
theorem State.abortStart_world (st : Nat) (hx : tget s.ten.worlds w = some x) : tget (s.abortStart w x st).ten.worlds w = some { x with phase := 2, status := st } := by
  have started : (s.abortStart w x st).ten.worlds = (s.updWorld w (fun x => { x with phase := 2, status := st })).ten.worlds :=
    congrArg (·.2.1.2.2.1) (State.releaseBlocks_warded ..)
  rw [started, State.updWorld_worlds _ hx, tget_tset_self]

/-- The lines, entries, stores and whatever else a world's launch had are discarded (R89). -/
def State.discard (s : State) (w ctx st : Nat) : State :=
  let s2 := (((s.endLaunch ctx st).unsend (fun e => e == .launchComplete ctx)).drop ctx).dropStores w
  { s2 with coh.l2 := s2.coh.l2.filter (fun l => l.world != w) }.dropAliases w

theorem State.discard_standing (s : State) (w ctx st : Nat) : (s.discard w ctx st).standing = s.standing := by
  unfold State.discard
  exact (State.dropAliases_standing _ w).trans ((State.drop_standing _ ctx).trans (s.endLaunch_standing ctx st))

theorem State.discard_l2 (s : State) (w ctx st : Nat) : ∀ y ∈ (s.discard w ctx st).coh.l2, y.world ≠ w := by
  unfold State.discard
  dsimp only
  rw [State.dropAliases_coh]
  intro y hy
  simpa using (List.mem_filter.mp hy).2

theorem State.discard_entries (s : State) (w ctx st : Nat) : ∀ e ∈ (s.discard w ctx st).ali.entries, e.wtag ≠ w := State.dropAliases_entries _ w

/-- With no gang of the context bound nothing is waited for: no thread of it runs (R89). -/
theorem State.abortStart_allStopped (st : Nat) (hg : ∀ g ∈ s.core.gangs, g.ctx ≠ x.ctx) : (s.abortStart w x st).allStopped x.ctx = true := by
  have gangs : ∃ f : Gang → Gang, (∀ g, (f g).ctx = g.ctx) ∧ (s.abortStart w x st).core.gangs = s.core.gangs.map f := by
    refine ⟨fun g => if g.ctx = x.ctx then { g with preempt := true } else g, fun g => by dsimp only; split <;> rfl, ?_⟩
    exact congrArg (fun c : CoreS => c.gangs.map fun g => if g.ctx = x.ctx then { g with preempt := true } else g) (State.core_of_warded (State.releaseBlocks_warded ..))
  obtain ⟨f, hf, h⟩ := gangs
  have none_bound : (s.abortStart w x st).core.gangs.filter (fun g => g.ctx == x.ctx) = [] := by
    rw [h, List.filter_eq_nil_iff]
    intro g hm
    obtain ⟨a, ha, rfl⟩ := List.mem_map.mp hm
    simpa [hf] using hg a ha
  rw [State.allStopped, none_bound]
  rfl

/-- WORLD_ABORT of a world that has no thread bound (R89, R90). -/
theorem exec_worldAbort (st : Nat) (hx : tget s.ten.worlds w = some x) (hp : x.phase ≤ 1) (hg : ∀ g ∈ s.core.gangs, g.ctx ≠ x.ctx) :
    exec .worldAbort (s.hears (.worldAbort w st)) = .next (((((s.hears (.worldAbort w st)).abortStart w x (if x.status = 0 then st else x.status)).discard w x.ctx
      (if x.status = 0 then st else x.status)).updWorld w (fun x => { x with phase := 3 })).send (.worldScrubComplete w)) := by
  have found : tget (s.hears (.worldAbort w st)).ten.worlds w = some x := hx
  have stopped := State.abortStart_allStopped (s := s.hears (.worldAbort w st)) (w := w) (if x.status = 0 then st else x.status) hg
  change execWorldAbort (s.hears (.worldAbort w st)) = _
  unfold execWorldAbort
  rw [State.hears_op]
  dsimp only
  unfold State.worldAbort
  rw [found]
  dsimp only
  rw [if_pos hp, if_pos hp, if_neg (by omega), if_pos stopped]
  rfl

end Abort

/-! ## Endings of a tenant's worlds -/

/-- A world is listed. -/
def State.lists (s : State) (v : Nat) : Prop := ∃ z, tget s.ten.worlds v = some z

/-- A world's ending is stamped, and its message is under way. -/
def State.ends (s : State) (v : Nat) : Prop := s.due (fun e => e == .worldAbort v 6 || e == .worldAbort v 7) = true ∧ ∃ z, tget s.ten.worlds v = some z ∧ z.status ≠ 0

section Endings

variable {s : State} {v w : Nat} {x : World}

theorem State.due_send (s : State) (e : Ev) (p : Ev → Bool) : (s.send e).due p = (s.due p || p e) := by
  simp only [State.due, State.send, List.any_append, List.any_cons, List.any_nil, Bool.or_false]
  cases s.ctl.agenda.any p <;> cases s.ctl.waiting.any p <;> cases p e <;> simp

/-- A stamp leaves every listed world listed, and stamped where it was. -/
theorem State.stampEnd_world {z : World} (status : Nat) (hx : tget s.ten.worlds w = some x) (hz : tget s.ten.worlds v = some z) :
    ∃ y, tget (s.stampEnd w x status).ten.worlds v = some y ∧ (z.status ≠ 0 → y.status ≠ 0) ∧ (v = w → status ≠ 0 → y.status ≠ 0) := by
  unfold State.stampEnd
  by_cases h0 : x.status = 0
  · rw [if_pos h0]
    by_cases hv : v = w
    · subst hv
      obtain rfl : x = z := Option.some.inj (hx.symm.trans hz)
      exact ⟨_, tget_tset_self .., fun h => absurd h0 h, fun _ h => h⟩
    · exact ⟨z, (tget_tset_ne _ _ hv).trans hz, id, fun e => absurd e hv⟩
  · rw [if_neg h0]
    refine ⟨z, hz, id, fun e _ => ?_⟩
    subst e
    rw [← Option.some.inj (hx.symm.trans hz)]
    exact h0

theorem State.stampEnd_due (s : State) (w : Nat) (x : World) (status : Nat) (p : Ev → Bool) : (s.stampEnd w x status).due p = s.due p := by
  obtain ⟨ws, h⟩ := s.stampEnd_eq w x status
  rw [h]
  rfl

/-- The message for a world's ending is sent unless one is under way; whatever is due stays so. -/
theorem State.sendAbort_due (hx : tget s.ten.worlds w = some x) (p : Ev → Bool) : s.due p = true → (s.sendAbort w 6).due p = true := by
  intro h
  rw [State.sendAbort_of_world hx]
  split
  · rw [State.stampEnd_due, h]
  · rw [State.due_send, State.stampEnd_due, h, Bool.true_or]

theorem State.sendAbort_worlds (hx : tget s.ten.worlds w = some x) : (s.sendAbort w 6).ten.worlds = (s.stampEnd w x 6).ten.worlds := by
  rw [State.sendAbort_of_world hx]
  split <;> rfl

theorem State.sendAbort_lists (w : Nat) (h : s.lists v) : (s.sendAbort w 6).lists v := by
  obtain ⟨z, hz⟩ := h
  cases hx : tget s.ten.worlds w with
  | none => exact ⟨z, by rw [State.sendAbort_of_none hx, hz]⟩
  | some x =>
    obtain ⟨y, hy, -⟩ := State.stampEnd_world 6 hx hz
    exact ⟨y, by rw [State.sendAbort_worlds hx, hy]⟩

theorem State.sendAbort_keeps_ends (w : Nat) (h : s.ends v) : (s.sendAbort w 6).ends v := by
  obtain ⟨hd, z, hz, h0⟩ := h
  cases hx : tget s.ten.worlds w with
  | none =>
    rw [State.sendAbort_of_none hx]
    exact ⟨hd, z, hz, h0⟩
  | some x =>
    obtain ⟨y, hy, kept, -⟩ := State.stampEnd_world 6 hx hz
    exact ⟨State.sendAbort_due hx _ hd, y, by rw [State.sendAbort_worlds hx, hy], kept h0⟩

/-- A listed world ends. -/
theorem State.sendAbort_ends (h : s.lists v) : (s.sendAbort v 6).ends v := by
  obtain ⟨x, hx⟩ := h
  obtain ⟨y, hy, -, stamped⟩ := State.stampEnd_world 6 hx hx
  refine ⟨?_, y, by rw [State.sendAbort_worlds hx, hy], stamped rfl (by decide)⟩
  rw [State.sendAbort_of_world hx]
  split
  · next hd => exact hd
  · rw [State.due_send]
    simp

theorem State.foldl_sendAbort_keeps_ends (l : List (Nat × World)) (h : s.ends v) : (l.foldl (fun (s : State) e => s.sendAbort e.1 6) s).ends v :=
  List.foldlRecOn (motive := fun u => State.ends u v) l _ h fun _ hu e _ => State.sendAbort_keeps_ends e.1 hu

theorem State.foldl_sendAbort_ends {l : List (Nat × World)} {y : World} (hm : (v, y) ∈ l) (h : s.lists v) : (l.foldl (fun (s : State) e => s.sendAbort e.1 6) s).ends v := by
  induction l generalizing s with
  | nil => cases hm
  | cons e l ih =>
    rw [List.foldl_cons]
    rcases List.mem_cons.mp hm with rfl | hm
    · exact State.foldl_sendAbort_keeps_ends l (State.sendAbort_ends h)
    · exact ih hm (State.sendAbort_lists e.1 h)

/-- Every world of the tenant ends (R91, R92). -/
theorem State.abortWorlds_ends {t : Nat} {y : World} (hm : (v, y) ∈ s.ten.worlds) (ht : s.tenantOfCtx y.ctx = t) : (s.abortWorlds t).ends v :=
  State.foldl_sendAbort_ends (List.mem_filter.mpr ⟨hm, by simpa using ht⟩) (tget_of_mem hm)

end Endings

/-! ## TDISP_LEAVE_RUN -/

section Leave

variable {s : State} {p f t : Nat}

theorem State.poisonReads_standing (s : State) (t : Nat) : (s.poisonReads t).standing = s.standing := rfl
theorem State.poisonReads_run (s : State) (t : Nat) : (s.poisonReads t).run = s.run := rfl
theorem State.tdi_of_standing {s u : State} (h : u.standing = s.standing) : u.ten.tdi = s.ten.tdi := congrArg (·.2.2.2.1) h

/-- The two events of an interface that leaves RUN, and between them the reads of its tenant's that are answered with poison (R91). -/
def State.logLeave (s : State) (t p f n : Nat) : State :=
  ((s.logEvent t (srcPort p) 0x33 (some 3) [(24, 8, n), (22, 2, p), (20, 2, f)]).poisonReads t).logEvent t (srcPort p) 0x34 (some 3) [(22, 2, p), (20, 2, f)]

theorem State.logLeave_standing (s : State) (t p f n : Nat) : (s.logLeave t p f n).standing = s.standing :=
  (State.logEvent_logs ..).standing.trans ((State.poisonReads_standing ..).trans (State.logEvent_logs ..).standing)

theorem State.logLeave_run (s : State) (t p f n : Nat) : (s.logLeave t p f n).run = s.run :=
  (State.logEvent_logs ..).run.trans ((State.poisonReads_run ..).trans (State.logEvent_logs ..).run)

/-- TDISP_LEAVE_RUN of an interface in RUN: its stores to the host change, R91's events are logged, and its tenant's worlds end. -/
theorem exec_tdispLeaveRun (h : tget s.ten.tdi (p, f) = some 2) (ht : s.tenantOfAny p f = some t) : ∃ (txs : List Tx) (n : Nat), exec .tdispLeaveRun (s.hears (.tdispLeaveRun p f)) =
    .next ((({ s.hears (.tdispLeaveRun p f) with ten.tdi := tset s.ten.tdi (p, f) 3, coh.txs := txs } : State).logLeave t p f n).abortWorlds t) := by
  have own : (s.hears (.tdispLeaveRun p f)).tenantOfAny p f = some t := ht
  have running : tget (s.hears (.tdispLeaveRun p f)).ten.tdi (p, f) = some 2 := h
  refine ⟨?txs, ?n, ?exec⟩
  case exec =>
    change execTdispLeaveRun (s.hears (.tdispLeaveRun p f)) = _
    unfold execTdispLeaveRun
    rw [State.hears_op]
    dsimp only
    rw [running, if_neg (by decide), own]
    rfl

/-- TDISP_LEAVE_RUN of an interface in RUN that concerns no tenant: it goes to ERROR (log 6, log 86). -/
theorem exec_tdispLeaveRun_of_none (h : tget s.ten.tdi (p, f) = some 2) (ht : s.tenantOfAny p f = none) :
    exec .tdispLeaveRun (s.hears (.tdispLeaveRun p f)) = .next { s.hears (.tdispLeaveRun p f) with ten.tdi := tset s.ten.tdi (p, f) 3 } := by
  have running : tget (s.hears (.tdispLeaveRun p f)).ten.tdi (p, f) = some 2 := h
  have own : (s.hears (.tdispLeaveRun p f)).tenantOfAny p f = none := ht
  change execTdispLeaveRun (s.hears (.tdispLeaveRun p f)) = _
  unfold execTdispLeaveRun
  rw [State.hears_op]
  dsimp only
  rw [running, if_neg (by decide), own]
  rfl

/-- TDISP_LEAVE_RUN of an interface that is not in RUN changes nothing. -/
theorem exec_tdispLeaveRun_of_not_run (h : tget s.ten.tdi (p, f) ≠ some 2) : exec .tdispLeaveRun (s.hears (.tdispLeaveRun p f)) = .next (s.hears (.tdispLeaveRun p f)) := by
  have idle : (tget (s.hears (.tdispLeaveRun p f)).ten.tdi (p, f)).getD 0 ≠ 2 := by
    intro e
    cases k : tget s.ten.tdi (p, f) with
    | none => exact absurd ((congrArg (·.getD 0) k).symm.trans e) (by decide)
    | some v => exact h (k.trans (congrArg some ((congrArg (·.getD 0) k).symm.trans e)))
  change execTdispLeaveRun (s.hears (.tdispLeaveRun p f)) = _
  unfold execTdispLeaveRun
  rw [State.hears_op]
  dsimp only
  rw [if_pos idle]

end Leave

end Sys2Proof.Machine
end

section
/-! SUPPORT. Worlds at their end and TDISP: the statement. -/

namespace Sys2Proof.Machine

open Sys2Proof

theorem State.standing_of_ten {s u : State} (h : u.ten = s.ten) : u.standing = s.standing := by rw [State.standing, h, State.standing]

/-- What a world leaves once it is scrubbed and its record is written (R88). -/
theorem State.giveBackWorld_spec (s : State) (w slot pa st : Nat) {l : Launch} {c : Nat} (hc : l.ctx = c) :
    let t := (s.recordWorld w l pa st).giveBackWorld w slot
    tget t.ten.worlds w = none ∧ (∀ y ∈ t.coh.l2, y.world ≠ w) ∧ (∀ y ∈ t.coh.l1, y.wtag ≠ w) ∧ (∀ y ∈ t.mm.ctag, y.2 ≠ w) ∧ t.launch c = none ∧
      (t.slot slot).users = (s.slot slot).users - 1 := by
  have recorded := s.recordWorld_warded w l pa st
  obtain ⟨l2, l1, ctag⟩ := (s.scrub_untagged w).of_tagged ((State.giveBackWorld_tagged _ w slot).trans (State.tagged_of_warded recorded))
  refine ⟨?worlds, l2, l1, ctag, ?launch, ?users⟩
  case worlds => rw [State.giveBackWorld_worlds, tget_tdel_self]
  case launch => rw [State.giveBackWorld_launch, ← hc, State.recordWorld, State.forget_launch]
  case users =>
    have kept : (s.recordWorld w l pa st).slot slot = (s.scrub w).slot slot := 
      State.slot_of_standing (State.standing_of_warded recorded) slot
    rw [State.giveBackWorld_users, kept, State.slot_of_standing (State.standing_of_ten (s.scrub_ten w))]

/-- A world whose scrub starts. -/
theorem State.startScrub_spec {u : State} {w : Nat} {y : World} (hy : tget u.ten.worlds w = some y) :
    let t := (u.updWorld w (fun x => { x with phase := 3 })).send (.worldScrubComplete w)
    tget t.ten.worlds w = some { y with phase := 3 } ∧ t.coh = u.coh ∧ t.ali = u.ali ∧ Ev.worldScrubComplete w ∈ t.ctl.agenda := by
  rw [State.updWorld_eq u hy]
  exact ⟨tget_tset_self .., rfl, rfl, List.mem_append_right _ (List.mem_singleton.mpr rfl)⟩

/-- What an abnormal end leaves of a world (R89, R90). -/
theorem State.aborted_spec {s : State} {w st : Nat} {x : World} (hx : tget s.ten.worlds w = some x) :
    let t := (((s.abortStart w x st).discard w x.ctx st).updWorld w (fun x => { x with phase := 3 })).send (.worldScrubComplete w)
    (∃ y, tget t.ten.worlds w = some y ∧ y.phase = 3 ∧ y.status = st ∧ y.ctx = x.ctx) ∧ (∀ y ∈ t.coh.l2, y.world ≠ w) ∧ (∀ e ∈ t.ali.entries, e.wtag ≠ w) ∧ Ev.worldScrubComplete w ∈ t.ctl.agenda := by
  have listed : tget ((s.abortStart w x st).discard w x.ctx st).ten.worlds w = some { x with phase := 2, status := st } := by
    rw [State.worlds_of_standing (State.discard_standing ..), State.abortStart_world st hx]
  obtain ⟨world, coh, ali, due⟩ := State.startScrub_spec listed
  refine ⟨⟨_, world, rfl, rfl, rfl⟩, ?l2, ?entries, due⟩
  case l2 => rw [coh]; exact State.discard_l2 _ w x.ctx st
  case entries => rw [ali]; exact State.discard_entries _ w x.ctx st

/-- An interface that leaves RUN is in ERROR, and its tenant's worlds end (R91). -/
theorem tdispLeaveRun_ends {s : State} {p f t : Nat} (h : tget s.ten.tdi (p, f) = some 2) (ht : s.tenantOfAny p f = some t) :
    Happens .tdispLeaveRun (.tdispLeaveRun p f) s (fun u => tget u.ten.tdi (p, f) = some 3 ∧ ∀ v y, (v, y) ∈ s.ten.worlds → s.tenantOfCtx y.ctx = t → u.ends v) := by
  obtain ⟨txs, n, left⟩ := exec_tdispLeaveRun h ht
  let r : State := { s.hears (.tdispLeaveRun p f) with ten.tdi := tset s.ten.tdi (p, f) 3, coh.txs := txs }
  refine ⟨rfl, _, left, ?tdi, fun v y hm hy => State.abortWorlds_ends (y := y) ?listed ?own⟩
  case tdi =>
    obtain ⟨ws, ag, kept⟩ := State.abortWorlds_eq (r.logLeave t p f n) t
    have error : tget (r.logLeave t p f n).ten.tdi (p, f) = some 3 := by rw [State.tdi_of_standing (State.logLeave_standing ..), tget_tset_self]
    exact (congrArg (fun u : State => tget u.ten.tdi (p, f)) kept).trans error
  case listed => exact (State.worlds_of_standing (r.logLeave_standing t p f n)).symm ▸ hm
  case own =>
    have same : (r.logLeave t p f n).run = s.run := r.logLeave_run t p f n
    rw [State.tenantOfCtx, State.launch, same, ← hy, State.tenantOfCtx, State.launch]

/-- Settles O42, message by message. -/
theorem worldEvents : Obligations.WorldEvents := by
  intro s w p f st x
  refine ⟨fun hx l hl => ⟨fun hp h0 hend hleft htx hpc => ?retire, fun hp he hc pa attr ht hs => ?scrub, fun hp hg => ?abort⟩, ⟨rfl, rfl⟩, fun h => ⟨rfl, exec_tdispLeaveRun_of_not_run h⟩, fun h => ?leave⟩
  case retire =>
    have step := exec_worldRetire hx hl hp h0 hend hleft htx hpc
    have dirty : (s.hears (.worldRetire w)).dirtyLine w = true ↔ ∃ y ∈ s.coh.l2, y.world = w ∧ y.dirty = true := State.dirtyLine_iff
    have opened : (s.hears (.worldRetire w)).openAlias w = true ↔ ∃ e ∈ s.ali.entries, e.wtag = w ∧ e.left ≠ [] := State.openAlias_iff
    refine ⟨fun hd => ⟨rfl, step.trans ?lines⟩, fun hd ho => ⟨rfl, step.trans ?materialise⟩, fun hd ho hr => ⟨rfl, step.trans ?release⟩, fun hd ho hr => ⟨rfl, step.trans ?start⟩⟩
    case lines => rw [State.retireStep, if_pos (dirty.mpr hd)]
    case materialise => rw [State.retireStep, if_neg (dirty.not.mpr hd), if_pos (opened.mpr ho)]
    case release => rw [State.retireStep, if_neg (dirty.not.mpr hd), if_neg (opened.not.mpr ho), hr, if_pos (by decide)]
    case start => rw [State.retireStep, if_neg (dirty.not.mpr hd), if_neg (opened.not.mpr ho), hr, if_neg (by decide)]
  case scrub =>
    exact ⟨rfl, _, exec_worldScrubComplete hx hl hp he hc ht hs, State.giveBackWorld_spec (s.hears (.worldScrubComplete w)) w x.slot pa _ (by simpa using List.find?_some hl)⟩
  case abort => exact ⟨rfl, _, exec_worldAbort st hx hp hg, State.aborted_spec (s := s.hears (.worldAbort w st)) hx⟩
  case leave =>
    cases ht : s.tenantOfAny p f with
    | none => exact ⟨rfl, _, exec_tdispLeaveRun_of_none h ht, tget_tset_self .., fun u hu => nomatch hu⟩
    | some t =>
      obtain ⟨e, u, left, error, ends⟩ := tdispLeaveRun_ends h ht
      refine ⟨e, u, left, error, fun t' ht' v y hm hy => ends v y hm (hy.trans (Option.some.inj ht').symm)⟩

end Sys2Proof.Machine
end

section
/-! SUPPORT. Memory keeps its canonical form (R94) in what the homes, the event arbiter, translation, the caches and the directories do to the state: a lemma for each function, by its file. -/

namespace Sys2Proof.Machine

open Sys2Proof

/-- The outcome of a move has canonical memory, if the machine goes on. -/
def Out.inv (o : Out) : Prop := ∀ t, o = .next t → t.inv

/-- So has a state that may not be there. -/
def Opt.inv (o : Option State) : Prop := ∀ t, o = some t → t.inv

theorem Out.inv.next {s : State} (h : s.inv) : Out.inv (.next s) := by
  rintro t ⟨⟩
  exact h

theorem Out.inv.fault {f : Fault} : Out.inv (.fault f) := by rintro t ⟨⟩

theorem Out.inv.refused {f : Refusal} : Out.inv (.refused f) := by rintro t ⟨⟩

theorem Opt.inv.some {s : State} (h : s.inv) : Opt.inv (some s) := by
  rintro t ⟨⟩
  exact h

theorem Opt.inv.none : Opt.inv none := by rintro t ⟨⟩

theorem Opt.inv.map {f : State → State} {o : Option State} (h : Opt.inv o) (hf : ∀ t, t.inv → (f t).inv) : Opt.inv (o.map f) := by
  intro t e
  obtain ⟨u, hu, rfl⟩ := Option.map_eq_some_iff.mp e
  exact hf u (h u hu)

theorem Out.inv.ite {c : Prop} [Decidable c] {a b : Out} (ha : Out.inv a) (hb : Out.inv b) : Out.inv (if c then a else b) := by
  split <;> assumption

theorem Opt.inv.bind {f : State → Option State} {o : Option State} (h : Opt.inv o) (hf : ∀ t, t.inv → Opt.inv (f t)) : Opt.inv (o.bind f) := by
  intro t e
  obtain ⟨u, hu, hf'⟩ := Option.bind_eq_some_iff.mp e
  exact hf u (h u hu) t hf'

theorem Opt.inv.ite {c : Prop} [Decidable c] {a b : Option State} (ha : Opt.inv a) (hb : Opt.inv b) : Opt.inv (if c then a else b) := by
  split <;> assumption

section
variable {s : State} (h : s.inv) {ctl mm pkg host ten coh ali xl run core eng nb}
include h

/-- A write of any other part of the state. -/
theorem State.inv.upd : State.inv ⟨ctl, s.mem, mm, pkg, host, ten, coh, ali, xl, run, core, eng, nb⟩ := h

theorem State.inv.putAll {pa : Nat} {bs : List Byte} : State.inv ⟨ctl, s.mem.putAll pa bs, mm, pkg, host, ten, coh, ali, xl, run, core, eng, nb⟩ :=
  Memory.putAll_wf pa bs h

theorem State.inv.patch {base : Nat} {p : Patch} : State.inv ⟨ctl, s.mem.patch base p, mm, pkg, host, ten, coh, ali, xl, run, core, eng, nb⟩ :=
  Memory.patch_wf base p h

end

theorem State.inv.ite {c : Prop} [Decidable c] {a b : State} (ha : a.inv) (hb : b.inv) : (if c then a else b).inv := by
  split <;> assumption

theorem State.inv.iteFst {β : Type} {c : Prop} [Decidable c] {a b : State × β} (ha : a.1.inv) (hb : b.1.inv) : (if c then a else b).1.inv := by
  split <;> assumption

theorem State.inv.foldl {α : Type} {f : State → α → State} {l : List α} {s : State} (h : s.inv) (hf : ∀ t x, t.inv → (f t x).inv) :
    (l.foldl f s).inv := by
  induction l generalizing s with
  | nil => exact h
  | cons x l ih => exact ih (hf s x h)

theorem State.inv.foldlFst {α β : Type} {f : State × β → α → State × β} {l : List α} {q : State × β} (h : q.1.inv)
    (hf : ∀ q x, q.1.inv → (f q x).1.inv) : (l.foldl f q).1.inv := by
  induction l generalizing q with
  | nil => exact h
  | cons x l ih => exact ih (hf q x h)

section
/-! `Base` -/
variable {s : State} (h : s.inv) {core ctx hearth id lane pa periods q slot status t v w word : Nat} {b : Bool} {e : Ev} {m : HostMsg} {bytes : List
  Byte} {es : List Ev}
include h

theorem State.inv.send : (s.send e).inv := h.upd

theorem State.inv.sendAll : (s.sendAll es).inv := h.upd

theorem State.inv.urge : (s.urge e).inv := h.upd

theorem State.inv.urgeAll : (s.urgeAll es).inv := h.upd

theorem State.inv.wait : (s.wait e).inv := h.upd

theorem State.inv.waitFirst : (s.waitFirst es).inv := h.upd

theorem State.inv.after : (s.after periods e).inv := h.upd

theorem State.inv.cancel {p : Ev → Bool} : (s.cancel p).inv := h.upd

theorem State.inv.unsend {p : Ev → Bool} : (s.unsend p).inv := h.upd

theorem State.inv.later : (s.later e).inv := .ite h h.wait

theorem State.inv.bump : (s.bump).inv := h.upd

theorem State.inv.toHost : (s.toHost m).inv := h.upd

theorem State.inv.putBytes : (s.putBytes pa bytes).inv := h.putAll

theorem State.inv.updHearth {f : Hearth → Hearth} : (s.updHearth hearth f).inv := h.upd

theorem State.inv.setPoison : (s.setPoison word b).inv := h.upd

theorem State.inv.setTrec : (s.setTrec t w v).inv := h.upd

theorem State.inv.setTState : (s.setTState t v).inv := h.setTrec

theorem State.inv.updQueue {f : Queue → Queue} : (s.updQueue q f).inv := h.upd

theorem State.inv.pokeReeve : (s.pokeReeve).inv := by
  unfold State.pokeReeve
  split
  · exact h
  · split
    exacts [h.upd.send, h]

theorem State.inv.retryHeld : (s.retryHeld).inv := .ite h.upd.pokeReeve h

theorem State.inv.updLaunch {f : Launch → Launch} : (s.updLaunch ctx f).inv := h.upd

theorem State.inv.updTcb {f : TCB → TCB} : (s.updTcb id f).inv := h.upd

theorem State.inv.updGang {f : Gang → Gang} : (s.updGang core slot f).inv := h.upd

theorem State.inv.updThread {f : Thread → Thread} : (s.updThread core slot lane f).inv := h.updGang

theorem State.inv.updTok {f : Token → Token} : (s.updTok id f).inv := h.upd

theorem State.inv.updTx {f : Tx → Tx} : (s.updTx id f).inv := h.upd

theorem State.inv.updTask {f : Task → Task} : (s.updTask id f).inv := h.upd

theorem State.inv.updCmd {f : Cmd → Cmd} : (s.updCmd id f).inv := h.upd

theorem State.inv.sendAbort : (s.sendAbort w status).inv := by
  unfold State.sendAbort
  split
  exacts [.ite (.ite h.upd h) (.send (.ite h.upd h)), h]

end

section
/-! `Ways` -/
variable {s : State} (h : s.inv) {k l n : Nat} {st : LinkState} {bs : List Node} {a b : Node}
include h

theorem State.inv.updLink {f : Link → Link} : (s.updLink l f).inv := h.upd

theorem State.inv.updEnds {f : Link → Link} : (s.updEnds l f).inv := by
  unfold State.updEnds
  split
  exacts [h.updLink, h.updLink.updLink]

theorem State.inv.setLink : (s.setLink l st).inv := h.updEnds

theorem State.inv.counted : (s.counted l n).inv := .ite h.send (.ite h.urge h)

theorem State.inv.bridgeFlit : (s.bridgeFlit l k).1.inv := by
  unfold State.bridgeFlit
  split
  exacts [h, .iteFst h.updLink.updLink.setLink.upd h.updLink.updLink.counted]

theorem State.inv.sendOver : (s.sendOver l n).1.inv := h.foldlFst fun _ _ k => .iteFst k.bridgeFlit k

theorem State.inv.reach : (s.reach a b).1.inv := by
  unfold State.reach
  split
  exacts [h, h.upd, .iteFst h (.iteFst (.iteFst h.sendOver.sendOver h.sendOver) (.upd (.iteFst h.sendOver.sendOver h.sendOver)))]

theorem State.inv.reachAll : (s.reachAll a bs).1.inv := h.foldlFst fun _ _ k => .iteFst k.reach k

end

section
/-! `Homes` -/
variable {s : State} (h : s.inv) {before hearth home id k line n pa wtag : Nat} {e : Alias} {store : Bool} {x : Half} {bytes : List Byte} {hs lines
  pois : List Nat} {irq v : Option (Nat × Nat × Nat)} {p : Patch} {t : Tx}
include h

theorem State.inv.materialiseLine : (s.materialiseLine e line).inv := by
  refine .upd ?_
  refine .foldl ?_ fun _ _ k => .ite k.setPoison k
  split
  · exact h.patch
  · split
    exacts [h.putAll, h]

theorem State.inv.materialise : (s.materialise e lines).inv := by
  refine h.foldl fun _ _ k => ?_
  split
  exacts [k.materialiseLine, k]

theorem State.inv.destWrite : (s.destWrite line).inv := h.foldl fun _ _ k => k.materialise

theorem State.inv.failLine : (s.failLine wtag line).inv := .ite h.upd h

theorem State.inv.srcMaterialise : (s.srcMaterialise home line).inv := ((h.foldl fun _ _ k => k.failLine).upd).foldl fun _ _ k => k.materialise

theorem State.inv.srcWriteNow : (s.srcWriteNow line).inv := (h.foldl fun _ _ k => k.srcMaterialise).upd

theorem State.inv.setHalf : (s.setHalf hearth x).inv := h.upd

theorem State.inv.askHalves : (s.askHalves hs store).inv := h.foldl fun _ _ k => .ite k k.send

theorem State.inv.dirtyHalves : (s.dirtyHalves line p).inv := .ite (h.foldl fun _ _ k => k.setHalf) h

theorem State.inv.mscUse : (s.mscUse line).inv := by
  unfold State.mscUse
  split
  exacts [h.upd, h]

theorem State.inv.mscDirty : (s.mscDirty line).inv := h.upd

theorem State.inv.mscFill : (s.mscFill line).1.inv := by
  dsimp only [State.mscFill]
  split
  · exact h.mscUse
  · split
    · exact h.upd.mscUse
    · split
      · exact h
      · split
        exacts [h.send, h]

theorem State.inv.giveUp : (s.giveUp pa n).inv := by
  dsimp only [State.giveUp]
  refine h.foldl fun _ _ k => ?_
  split
  exacts [.ite (.ite k.destWrite k) (.send (.ite k.destWrite k)), .ite k.destWrite k]

theorem State.inv.snoopHost : (s.snoopHost line p).inv := h.foldl fun _ _ k => k.upd.toHost

theorem State.inv.dropResv : (s.dropResv line).inv := .ite h.upd h

theorem State.inv.applyPatch : (s.applyPatch line p pois).inv :=
  ((h.snoopHost.dropResv.patch.foldl fun _ _ k => k.setPoison).foldl fun _ _ k => k.setPoison).dirtyHalves

theorem State.inv.homeUpdates : (s.homeUpdates t).inv := .ite h.updTx.sendAll h.updTx.sendAll

theorem State.inv.raiseMsi : (s.raiseMsi v).inv := by
  unfold State.raiseMsi
  split
  exacts [.ite h h.toHost, h]

theorem State.inv.settleDev : (s.settleDev id).inv := h.upd

theorem State.inv.nbTake : (s.nbTake line p).inv := .ite h.send h

theorem State.inv.homeWrite : (s.homeWrite t irq).inv := h.destWrite.srcWriteNow.applyPatch.mscDirty.updTx.nbTake.homeUpdates.raiseMsi.settleDev

theorem State.inv.devStoreLine : (s.devStoreLine pa bytes irq).inv := by
  dsimp only [State.devStoreLine]
  split
  · exact h.upd
  · split
    · exact h.upd.raiseMsi
    · exact .ite h.raiseMsi (.ite (.ite h.mscFill.bump.upd.reach.upd.raiseMsi h.mscFill.bump.upd.reach.homeWrite) h.mscFill.bump.upd.send)

theorem State.inv.readNeed : (s.readNeed pa n).inv := .ite h.askHalves.upd h.askHalves

theorem State.inv.readOver : (s.readOver pa n).1.inv := h.reachAll

theorem State.inv.storeNeed : (s.storeNeed pa n).inv := (h.foldl fun _ _ k => k.mscFill).askHalves

theorem State.inv.devStoreN : (s.devStoreN k pa bytes irq).inv := by
  induction k generalizing s pa bytes irq with
  | zero => exact h
  | succ k ih => exact .ite h.devStoreLine (ih h.devStoreLine)

theorem State.inv.devStore : (s.devStore pa bytes irq).inv := .ite h.raiseMsi h.devStoreN

theorem State.inv.devStoreAfter : (s.devStoreAfter pa bytes before).inv := .ite h.devStore h.bump.upd.send

theorem State.inv.noteRead : (s.noteRead pa).inv := .ite h h.upd

end

section
/-! `Events` -/
variable {s : State} (h : s.inv) {addr code core ctx event hearth k lane off pa ring slot source state structure_ typ v va world writer : Nat}
  {refetch : Bool} {fs : List (Nat × Nat × Nat)} {entry r : List Byte} {cls t : Option Nat} {e : RingEntry}
include h

theorem State.inv.ringPut : (s.ringPut e).inv := .ite h.devStore h.upd.storeNeed

theorem State.inv.eventDrain : (s.eventDrain).inv := by
  refine h.foldl fun _ _ k => ?_
  split
  exacts [.ite k.upd.devStore k.storeNeed, k]

theorem State.inv.logEvent : (s.logEvent ring source code cls fs).inv := .ite h.upd.ringPut h.upd

theorem State.inv.logTenant {cls : Nat} : (s.logTenant t source code cls fs).inv := by
  unfold State.logTenant
  split <;> exact h.logEvent

theorem State.inv.intErr : (s.intErr state event).inv := h.logEvent

theorem State.inv.hfltPut : (s.hfltPut hearth entry).inv := h.upd.devStore.updHearth

theorem State.inv.logFault : (s.logFault ctx source fs).inv := .ite h.logEvent (.ite h.upd.upd (.ite h.upd.hfltPut h.upd.upd.storeNeed))

theorem State.inv.hfltDrain : (s.hfltDrain k hearth).inv := by
  induction k generalizing s with
  | zero => exact h
  | succ k ih =>
    unfold State.hfltDrain
    split
    · exact .ite h (.ite h.storeNeed (ih h.upd.hfltPut))
    · exact h

theorem State.inv.hsPut {t : Nat} : (s.hsPut t r).inv := h.devStore.upd

theorem State.inv.sampleDrain : (s.sampleDrain).inv := by
  refine h.foldl fun _ _ k => ?_
  split
  exacts [.ite k.upd.hsPut k.storeNeed, k]

theorem State.inv.ringDrain : (s.ringDrain).inv := (h.eventDrain.foldl fun _ _ k => k.hfltDrain).sampleDrain

theorem State.inv.sample : (s.sample ctx core slot lane va typ).inv := .ite (.ite h.upd.upd (.ite h.upd.hsPut h.upd.upd.storeNeed)) h.upd

theorem State.inv.logMemUe : (s.logMemUe source structure_ addr).inv := h.logEvent

theorem State.inv.logMemCe : (s.logMemCe source structure_ addr refetch).inv := h.logEvent

theorem State.inv.badReply : (s.badReply t source off v).inv := h.logTenant

theorem State.inv.sealWr : (s.sealWr pa world writer).inv := by
  unfold State.sealWr
  extract_lets owner fs s1
  have h1 : s1.inv := by
    unfold s1
    clear_value owner
    cases owner
    exacts [h, h.logEvent]
  exact .ite h1.logEvent h1

end

section
/-! `Translate` -/
variable {s : State} (h : s.inv) {acc cause ctx fattr fid id pa size source stack t va : Nat} {a d r : Bool} {stop : Option (Nat × Nat)} {attr :
  PAttr} {k w : Walk}
include h

theorem State.inv.needWalk : (s.needWalk stack t ctx va acc).inv := .ite h (.ite h.bump.upd.toHost h.bump.upd.send)

theorem State.inv.dropWalk : (s.dropWalk id).inv := h.upd

theorem State.inv.updWalk {f : Walk → Walk} : (s.updWalk id f).inv := h.upd

theorem State.inv.installTlb : (s.installTlb stack t va pa size attr a d).inv := h.upd

theorem State.inv.newFault : (s.newFault ctx fid va cause acc source stop).inv := .ite h.upd h.upd.logFault

theorem State.inv.openFault : (s.openFault ctx va cause acc source).1.inv := by
  unfold State.openFault
  split
  · exact h
  · split
    exacts [h.newFault, h]

theorem State.inv.freeFault : (s.freeFault ctx fid).inv := .ite h.upd h.upd.send

theorem State.inv.failWalk : (s.failWalk w cause fattr).inv := .ite h.updWalk h.openFault.updWalk

theorem State.inv.walkOver : (s.walkOver w).1.inv := .iteFst h h.reachAll

theorem State.inv.pageWalk : (s.pageWalk id).inv := by
  dsimp only [State.pageWalk]
  split
  · exact h
  · split
    · exact h
    · split
      · exact .ite h.failWalk h
      · split
        · exact h.askHalves.wait
        · exact .ite h.walkOver.failWalk h.walkOver.wait
        · split
          · exact h.walkOver.wait
          · split
            exacts [.ite h.walkOver.devStore.installTlb.dropWalk h.walkOver.storeNeed.wait, h.walkOver.installTlb.dropWalk]

theorem State.inv.pageRequest : (s.pageRequest w ctx fid).inv := .ite h.bump.upd h.bump.upd.toHost

theorem State.inv.failAts : (s.failAts k cause).inv := by
  dsimp only [State.failAts]
  split
  · exact h.updWalk
  · split
    exacts [.ite h.openFault.updWalk.pageRequest h.openFault.updWalk, h.openFault.updWalk]

theorem State.inv.atsComplete {w : Bool} : (s.atsComplete id r w pa size).inv := by
  unfold State.atsComplete
  split
  exacts [h, .ite h (.ite h.updWalk.toHost (.ite h.installTlb.dropWalk h.failAts))]

theorem State.inv.entryFreed : (s.entryFreed ctx).inv := by
  refine .upd ?_
  refine h.foldl fun _ _ k => ?_
  split
  exacts [.ite k.failAts k.failWalk, k]

end

section
/-! `Coherence` -/
variable {s : State} (h : s.inv) {core cp id lane level line n node off old pa scope slice slot source stack tag tx va w world : Nat} {acq fill inval
  : Bool} {l : L2Line} {bytes : List Byte} {pois : List Nat} {p : Patch} {e : SEnt} {t : Tx}
include h

theorem State.inv.updL1 {f : L1Line → L1Line} : (s.updL1 core line f).inv := h.upd

theorem State.inv.endFwd : (s.endFwd core line).inv := h.upd

theorem State.inv.dropL1 : (s.dropL1 core line).inv := h.upd.endFwd

theorem State.inv.notice : (s.notice core line).inv := h.send

theorem State.inv.rdZero {l : L1Line} : (s.rdZero l).inv := by
  unfold State.rdZero
  split
  · exact h.dropL1
  · split
    exacts [h.dropL1, h.updL1.upd]

theorem State.inv.clearRd : (s.clearRd core slot).inv := h.foldl fun _ _ k => .ite k.updL1.rdZero k.updL1

theorem State.inv.clearLoaded : (s.clearLoaded core slot lane).inv := by
  dsimp only [State.clearLoaded]
  split
  exacts [.ite h.updThread h.updThread.clearRd, h.updThread]

theorem State.inv.acquire : (s.acquire core slot lane).inv := h.clearLoaded.updThread

theorem State.inv.defer : (s.defer core line tx inval p pois).inv := h.upd.updL1

theorem State.inv.freeze : (s.freeze core line).inv := h.updL1.notice

theorem State.inv.endFwdTx : (s.endFwdTx core tx).inv := h.upd

theorem State.inv.letFwd : (s.letFwd core tx).inv := h.upd

theorem State.inv.fwdAway : (s.fwdAway core line tx).inv := .ite h.letFwd h.endFwdTx

theorem State.inv.l1Update : (s.l1Update core id).inv := by
  unfold State.l1Update
  split
  · exact h
  extract_lets s0 p
  have h0 : s0.inv := .ite h.updTx h
  split
  · exact h0.endFwdTx.send
  · exact .ite h0.letFwd.send (.ite h0.updL1.endFwdTx.send (.ite h0.defer.letFwd.send h0.freeze.letFwd.send))

theorem State.inv.l1Invalidation : (s.l1Invalidation core line id).inv := by
  unfold State.l1Invalidation
  split
  exacts [h.send, .ite h.send (.ite h.dropL1.send (.ite h.defer.send h.freeze.send))]

theorem State.inv.updL2 {f : L2Line → L2Line} : (s.updL2 slice line world f).inv := h.upd

theorem State.inv.dropL2 : (s.dropL2 slice line world).inv := h.upd

theorem State.inv.hdirAdd : (s.hdirAdd line slice).inv := h.upd

theorem State.inv.hdirRemove : (s.hdirRemove line slice).inv := by
  unfold State.hdirRemove
  split
  exacts [h.upd, h]

theorem State.inv.invalDone : (s.invalDone t).inv := .ite h.upd.dropL2.hdirRemove (.ite h.upd.upd h.upd)

theorem State.inv.sharedInval : (s.sharedInval slice line).inv := by
  unfold State.sharedInval
  split
  exacts [h, .ite h (.ite h.invalDone h.bump.upd.sendAll)]

theorem State.inv.sealBack : (s.sealBack l).inv := by
  unfold State.sealBack
  split
  · exact ((((h.destWrite.srcWriteNow.snoopHost.putAll.foldl fun _ _ k => k.setPoison).mscDirty).dirtyHalves).updL2).foldl fun _ _ k => k.sharedInval
  · exact h

theorem State.inv.dropWorldLine : (s.dropWorldLine l).inv := .ite h.dropL2 h.dropL2.bump.upd.sendAll

theorem State.inv.handOver : (s.handOver slice line).inv := by
  unfold State.handOver
  split
  exacts [h, .ite h.dropWorldLine (.ite h.askHalves.wait h.sealBack.dropWorldLine)]

theorem State.inv.worldPut : (s.worldPut w line p).inv := by
  dsimp only [State.worldPut]
  split
  · exact h.upd
  · split
    · exact h.bump.upd.send
    · split
      exacts [h.upd, (h.foldl fun _ _ k => k.dropWorldLine).sealBack]

theorem State.inv.putAs : (s.putAs w pa bytes).inv := .ite h.devStore (h.foldl fun _ _ k => k.worldPut)

theorem State.inv.checkAs : (s.checkAs w pa n).inv := .ite h h.upd

theorem State.inv.integrity : (s.integrity source world pa).inv := by
  unfold State.integrity
  split
  exacts [.ite h h.upd.logTenant.sendAbort, h]

theorem State.inv.takeWays : (s.takeWays world slice).inv := by
  unfold State.takeWays
  split
  · split
    · exact h
    · split
      exacts [h.upd, h]
  · exact h

theorem State.inv.l2Use : (s.l2Use slice line world cp fill).inv := by
  unfold State.l2Use
  split
  exacts [h.upd, h]

theorem State.inv.l2Room : (s.l2Room slice line world).1.inv := by
  dsimp only [State.l2Room]
  split
  · exact h.takeWays
  · split
    · exact h
    · split
      · exact h
      · split
        exacts [h.send, h]

theorem State.inv.countReads : (s.countReads line).inv := h.foldl fun _ _ k => .ite k.upd.upd.send k.upd

theorem State.inv.sliceFill : (s.sliceFill slice line world cp).1.inv := by
  unfold State.sliceFill
  split
  · exact .ite h h.send
  refine .iteFst (.iteFst h h.l2Use) (.iteFst h (.iteFst h.upd (.iteFst h ?_)))
  extract_lets s0 m missing r q d s1
  have hm : m.1.inv := .mscFill (.ite h.destWrite h)
  have hr : r.1.inv := hm.l2Room
  refine .iteFst hm (.iteFst hm.askHalves ?_)
  split
  · exact hm.integrity
  split
  · exact hr
  refine .iteFst hr.reach ?_
  extract_lets put
  have h1 : s1.inv := hr.reach.countReads
  have hp (x y) : (put x y).1.inv := .l2Use (.ite h1.upd.hdirAdd h1.upd)
  refine .iteFst (hp _ _) ?_
  split
  · exact hp _ _
  · refine .iteFst ?_ h1.integrity
    split
    exacts [hp _ _, h1.integrity]
  · exact h

theorem State.inv.bankRead : (s.bankRead node line world).1.inv := h.reach

theorem State.inv.sliceRead : (s.sliceRead node stack line world cp).1.inv := by
  dsimp only [State.sliceRead]
  split
  · exact h.bankRead
  · split <;> exact h.sliceFill

theorem State.inv.homeRead : (s.homeRead node stack line world off n).1.inv := by
  unfold State.homeRead
  refine .iteFst h.bankRead (.iteFst h.sliceRead ?_)
  split
  · exact .ite h h.send
  extract_lets _ s0 m missing q
  have hm : m.1.inv := .mscFill (.ite h.destWrite h)
  exact .iteFst h.upd (.iteFst h (.iteFst hm (.iteFst hm.askHalves (.iteFst hm.reach hm.reach.countReads))))

theorem State.inv.readMiss : (s.readMiss core line tag cp).inv := by
  dsimp only [State.readMiss]
  split
  · exact .ite h.wait (.ite h.upd.send h.send)
  · split
    exacts [h.sliceFill.updL2.send, h.sliceFill.wait, h.sliceFill]

theorem State.inv.evictionNotice : (s.evictionNotice core line).inv := by
  unfold State.evictionNotice
  split
  · split
    exacts [h.upd, h]
  · exact h.upd

theorem State.inv.atomDone : (s.atomDone t p old).inv := h.updTx.upd

theorem State.inv.reap : (s.reap id).inv := by
  unfold State.reap
  split
  exacts [.ite h.upd h, h]

theorem State.inv.checkAcks : (s.checkAcks id).inv := by
  unfold State.checkAcks
  split
  exacts [h, .ite h.send (.ite h.send h)]

theorem State.inv.dirStore {fadd : Nat → Nat → Nat → Nat} : (s.dirStore fadd id).inv := by
  unfold State.dirStore
  split
  · exact h
  next t _ =>
  refine .ite h.wait (.ite h.updTx.endFwdTx.send (.ite h.updTx.fwdAway.send (.ite ?_ ?_)))
  · split
    · exact h.sealWr.updTx.endFwdTx.checkAcks
    extract_lets cur pa s1 s2 _ s3 cs s4 s5 s6
    have h1 : s1.inv := by
      dsimp only [s1]
      split
      exacts [h.atomDone, h]
    have h3 : s3.inv := .ite h1.applyPatch h1.applyPatch.upd
    have h5 : s5.inv := .ite h3.updTx.sendAll h3.updTx.sendAll.fwdAway
    have h6 : s6.inv := .ite h5.send h5
    exact h6.checkAcks
  · extract_lets held r
    have hr : r.1.inv := .iteFst h.sliceFill h.askHalves
    split
    · exact hr.wait
    · exact hr
    · exact hr
    · refine .ite hr.send ?_
      extract_lets pa s1 d s2 cs s3 s4 s5 s6
      have h1 : s1.inv := by
        dsimp only [s1]
        split
        exacts [hr.atomDone, hr]
      have h4 : s4.inv := .ite h1.updL2.updTx.sendAll h1.updL2.updTx.sendAll.fwdAway
      have h5 : s5.inv := .ite h4.send h4
      have h6 : s6.inv := .ite h5.send h5
      exact h6.checkAcks

theorem State.inv.homeStore {fadd : Nat → Nat → Nat → Nat} : (s.homeStore fadd id).inv := by
  unfold State.homeStore
  split
  · exact h
  next t _ =>
  refine .ite h.wait (.ite h.updTx.sharedInval.sendAll (.ite (.ite h.giveUp.wait ?_) ?_))
  · extract_lets s1 s2 s3
    have h1 : s1.inv := by
      dsimp only [s1]
      split
      exacts [h.sealWr, h]
    exact .send (.ite h1.updTx.sharedInval.send h1.updTx.sharedInval)
  extract_lets touched missing _ s0 m s1 deps pa s2 s3 s4 mine s5 s6 s7
  refine .ite h.wait ?_
  have hm : m.1.inv := .mscFill (.ite h.upd h)
  refine .ite hm.wait (.ite hm.askHalves.wait (.ite hm.wait ?_))
  have h1 : s1.inv := hm.destWrite
  refine .ite h1.updTx.sendAll ?_
  have h2 : s2.inv := by
    dsimp only [s2]
    split
    exacts [h1.atomDone, h1]
  have h4 : s4.inv := h2.applyPatch.mscDirty.updTx.nbTake
  have h5 : s5.inv := by
    dsimp only [s5]
    split
    · exact .ite h4.updL2.updTx.sendAll h4.updL2.updTx.sendAll.fwdAway.updTx
    · exact h4.fwdAway.updTx
    · exact h4
  have h7 : s7.inv := .raiseMsi (.homeUpdates (.ite h5.send h5))
  split
  exacts [.ite h7.send h7, h7]

theorem State.inv.l2HomeUpdate : (s.l2HomeUpdate slice id).inv := by
  dsimp only [State.l2HomeUpdate]
  split
  · exact h
  · split
    · split
      exacts [.ite h.updTx.send h.updTx, h.updTx]
    · split
      · split
        exacts [.ite h.updL2.updTx.send h.updL2.updTx, h.updL2.updTx]
      · exact h.updL2.updTx.sendAll

theorem State.inv.dirAck : (s.dirAck id core).inv := by
  unfold State.dirAck
  split
  exacts [h, .ite (.ite (.ite h.updTx.invalDone h.updTx) (.ite h.updTx.updTx.reap h.updTx.checkAcks)) (.ite h.updTx.send h.updTx)]

theorem State.inv.homeAck : (s.homeAck id).inv := by
  unfold State.homeAck
  split
  exacts [h, .ite h.updTx.reap h.updTx.checkAcks]

theorem State.inv.storeAck : (s.storeAck id level).inv := h.updTx.reap

theorem State.inv.l2Inval : (s.l2Inval slice line world).inv := by
  unfold State.l2Inval
  split
  exacts [h, .ite h.sharedInval (.ite h.dropWorldLine (.ite (.ite h h.send) h.sealBack.dropWorldLine))]

theorem State.inv.l2Victim : (s.l2Victim slice line world).inv := .ite h h.l2Inval

theorem State.inv.purge : (s.purge line).inv := h.foldl fun _ _ k => k.l2Inval

theorem State.inv.askSources : (s.askSources line).inv := .ite h h.upd.sendAll

theorem State.inv.mscVictim : (s.mscVictim line).inv := .ite h (.ite h.askSources.wait (.ite h.purge.wait (.ite h.upd.send h.upd)))

theorem State.inv.launchTx : (s.launchTx t).inv := h.bump.upd.send

theorem State.inv.drainEntry : (s.drainEntry e).inv := h.launchTx.upd

theorem State.inv.drain : (s.drain core slot lane).inv := h.foldl fun _ _ k => k.drainEntry

theorem State.inv.startRelease : (s.startRelease core slot lane scope acq).inv := h.drain.bump.upd.send

theorem State.inv.releaseComplete : (s.releaseComplete id).inv := by
  unfold State.releaseComplete
  split
  exacts [h, .ite (.updThread (.ite h.upd.acquire h.upd)) h.wait]

theorem State.inv.spill : (s.spill core slot lane).inv := (h.foldl fun _ _ k => k.startRelease).send

theorem State.inv.entryDrained : (s.entryDrained core slot).inv := .ite h.wait h

theorem State.inv.enterStore : (s.enterStore core slot lane va pa bytes cp).inv := .ite h.upd h.upd

end

end Sys2Proof.Machine
end

section
/-! SUPPORT. Memory keeps its canonical form in what the words of a run do to the state. -/

namespace Sys2Proof.Machine

open Sys2Proof

section
/-! `Ops` -/
variable {s : State} (h : s.inv) {acc cause core ctx fid group grp id lane n pa pc res slot source status va world : Nat} {g : Grp} {rs : List (Nat ×
  Nat × Nat)} {ws : List (RLane × Option Nat)} {ls : List (RLane × PVal)} {bs clusters : List Nat} {lanes : List RLane}
include h

theorem State.inv.killOps : (s.killOps core slot lane).inv := h.updGang.upd

theorem State.inv.logArith : (s.logArith source pc ctx rs).inv := h.foldl fun _ _ k => k.logEvent.updLaunch

theorem State.inv.logRun : (s.logRun g).inv := h.logArith

theorem State.inv.updGrp {f : Grp → Grp} : (s.updGrp id f).inv := h.upd

theorem State.inv.dropGrp : (s.dropGrp id).inv := h.upd

theorem State.inv.rotate : (s.rotate).inv := by
  unfold State.rotate
  split
  exacts [h, h.upd]

theorem State.inv.cancelToks : (s.cancelToks grp).inv := h.upd

theorem State.inv.leave {f : Thread → Thread} : (s.leave core slot lane f).inv := h.updThread

theorem State.inv.undoAllocs {slots : Nat → Bool} : (s.undoAllocs g slots).inv := by
  refine h.foldl fun _ _ k => ?_
  split
  exacts [k.upd.updGang, k]

theorem State.inv.cancelLanes : (s.cancelLanes g).inv := h.upd

theorem State.inv.abandon : (s.abandon g).inv :=
  .foldl (.dropGrp (.ite h.logRun.undoAllocs.cancelLanes h.logRun.undoAllocs.cancelToks)) fun _ _ k => k.leave

theorem State.inv.evalJoins : (s.evalJoins core slot lane).inv := h.updGang

theorem State.inv.wipe : (s.wipe pa n).inv := h.foldl fun _ _ k => (k.putBytes.foldl fun _ _ m => m.setPoison).upd

theorem State.inv.releaseBlocks : (s.releaseBlocks world bs).inv := .retryHeld (.upd (.ite h (h.foldl fun _ _ k => k.wipe)))

theorem State.inv.endLaunch : (s.endLaunch ctx status).inv := by
  unfold State.endLaunch
  split
  · exact h
  extract_lets s0 s1 _ s2 s2' gone _ _ s3 _ _ _ s4 s4'
  have h0 : s0.inv := h.foldl fun _ _ k => k.logRun
  have h2 : s2'.inv := h0.updLaunch.upd.foldl fun _ _ k => k.foldl fun _ _ m => m.clearLoaded
  have h4 : s4'.inv := h2.releaseBlocks.upd.upd.sendAll
  exact .ite h (.ite h4 h4.send)

theorem State.inv.checkDone : (s.checkDone ctx).inv := by
  unfold State.checkDone
  split
  · exact h
  split
  · extract_lets stages s1
    have h1 : s1.inv := h.foldl fun _ _ k => .ite k k.send
    exact .ite h1 (.ite h1.send (.ite h1 h1.send))
  · exact .ite h h.send

theorem State.inv.coreTrap : (s.coreTrap g cause lanes).inv := ((h.foldl fun _ _ k => k.logTenant).abandon).endLaunch

theorem State.inv.maybePark : (s.maybePark ctx group).inv := .ite h.send h

theorem State.inv.maybeParkSlot : (s.maybeParkSlot core slot).inv := by
  unfold State.maybeParkSlot
  split
  exacts [h.maybePark, h]

theorem State.inv.waitTrap : (s.waitTrap g ws).inv := (h.abandon.foldl fun _ _ k => k.killOps.updThread).foldl fun _ _ k => k.maybeParkSlot

theorem State.inv.ownFault : (s.ownFault ctx va cause acc source).1.inv := by
  unfold State.ownFault
  split
  exacts [h.newFault, h]

theorem State.inv.poisonTrap : (s.poisonTrap g acc ls).inv := by
  unfold State.poisonTrap
  extract_lets der mem mended r1 r2 s3 s4
  have h1 : r1.1.inv := .iteFst h h.ownFault
  have h2 : r2.1.inv := .iteFst h1 h1.ownFault
  have h3 : s3.inv := .ite h2 (h2.foldl fun _ _ k => k.updThread)
  exact .ite h2.abandon.endLaunch (h3.waitTrap.foldl fun _ _ k => k.killOps)

theorem State.inv.derivedTrap {ls : List RLane} : (s.derivedTrap g acc ls).inv := h.poisonTrap

theorem State.inv.flushRegions : (s.flushRegions core slot).inv := by
  unfold State.flushRegions
  split
  · exact h
  · refine h.foldl fun _ _ k => ?_
    split
    exacts [.ite k k.send, k]

theorem State.inv.pokeBinds : (s.pokeBinds clusters).inv := h.sendAll

theorem State.inv.freeGroup : (s.freeGroup ctx group).inv := .ite h (((h.releaseBlocks.upd.foldl fun _ _ k => .ite k k.upd).pokeBinds).checkDone)

theorem State.inv.freeSlot : (s.freeSlot core slot).inv := by
  unfold State.freeSlot
  split
  exacts [h.freeGroup, h]

theorem State.inv.endThread : (s.endThread core slot lane).inv := by
  dsimp only [State.endThread]
  split
  · refine .freeGroup ?_
    split
    · split
      exacts [h.clearLoaded.killOps.updGang.updGang.evalJoins.flushRegions.send, h.clearLoaded.killOps.updGang.updGang.evalJoins.flushRegions]
    · exact h.clearLoaded.killOps.updGang.updGang.evalJoins.flushRegions
  · exact h.clearLoaded.killOps.updGang.updGang.evalJoins.flushRegions

theorem State.inv.wake {f : Thread → Thread} : (s.wake ctx fid f).inv := h.upd

theorem State.inv.wakeEngines : (s.wakeEngines ctx fid).inv := h.upd.sendAll

theorem State.inv.recordReply : (s.recordReply ctx fid res).inv := by
  unfold State.recordReply
  split
  exacts [h.upd.devStore, h]

end

section
/-! `Operands` -/
variable {s : State} (h : s.inv) {acc need np : Nat} {gd k : BitVec 3} {a b d : BitVec 7} {g : Grp} {srcs : List Nat} {t : Token}
include h

theorem State.inv.word {body : State → Grp → State} (hbody : ∀ {t a1}, t.inv → (body t a1).inv) : (s.word body).inv := by
  unfold State.word
  split
  exacts [h, hbody h]

theorem State.inv.advance : (s.advance g).inv := h.updGrp

theorem State.inv.lanewise {d : Nat} {f : RLane → List Nat → Nat × List Nat} : (s.lanewise gd d srcs np f).inv := by
  refine h.word (fun k => ?_)
  split
  · exact k.coreTrap
  · split
    exacts [k.coreTrap, k.coreTrap, k.advance]

theorem State.inv.lanewise' {d : Nat} {f : List Nat → Nat} : (s.lanewise' gd d srcs f).inv := h.lanewise

theorem State.inv.int2 {f : Nat → Nat → Nat} : (s.int2 gd d a b f).inv := h.lanewise'

theorem State.inv.int1 {f : Nat → Nat} : (s.int1 gd d a f).inv := h.lanewise'

theorem State.inv.log2 {f : Nat → Nat → Nat × List Nat} : (s.log2 gd d a b f).inv := h.lanewise

theorem State.inv.log3 {f : Nat → Nat → Nat → Nat × List Nat} : (s.log3 gd d a b f).inv := h.lanewise

theorem State.inv.log1 {f : Nat → Nat × List Nat} : (s.log1 gd d a f).inv := h.lanewise

theorem State.inv.predWord {f : RLane → List PVal → RLane × List Nat} : (s.predWord need srcs f).inv := by
  refine h.word (fun k => ?_)
  split
  · exact k.coreTrap
  · split
    exacts [k.coreTrap, k.advance]

theorem State.inv.nameToken : (s.nameToken t).inv := .ite h (.ite h.bump.upd.send h.bump.upd)

theorem State.inv.tokWord {d : Nat} {k : Nat} {f : List (RLane × List PVal) → RLane → Gate → Option (PVal × List Nat)} :
    (s.tokWord gd d k srcs f).inv := by
  refine h.word (fun k => ?_)
  split
  · exact k.coreTrap
  · split
    exacts [k.coreTrap, k.coreTrap, .ite k.rotate k.nameToken.advance]

theorem State.inv.funWord {f : Nat → Nat × List Nat} : (s.funWord gd d a k f).inv := h.tokWord

theorem State.inv.crossWord {f : List (RLane × PVal) → RLane → Nat × List Nat} : (s.crossWord gd d a k f).inv := h.tokWord

theorem State.inv.consume {body : State → Grp → List (RLane × List PVal) → State} (hbody : ∀ {t a1 a2}, t.inv → (body t a1 a2).inv) :
    (s.consume acc gd srcs body).inv := by
  refine h.word (fun k => ?_)
  split
  · exact k.coreTrap
  · split
    exacts [k.coreTrap, .ite k.poisonTrap (hbody k)]

end

section
/-! `Debug` -/
variable {s : State} (h : s.inv) {core n off reason slot : Nat} {write : Bool} {g : Grp} {hits : List (RLane × Nat × Nat)} {bytes : List Byte} {lanes
  : List Nat} {r : NbRec}
include h

theorem State.inv.boardStore : (s.boardStore off bytes).inv := by
  unfold State.boardStore
  split
  exacts [h.devStoreAfter, h.devStore]

theorem State.inv.nbRecord : (s.nbRecord r).inv := .ite h h.upd.boardStore.boardStore

theorem State.inv.nbStatus : (s.nbStatus).inv := h.boardStore

theorem State.inv.stopSet : (s.stopSet core slot lanes reason r).inv := by
  unfold State.stopSet
  split
  · exact h
  · split
    exacts [h.foldl fun _ _ k => k.updThread, (h.newFault.foldl fun _ _ k => k.killOps.updThread).nbRecord]

theorem State.inv.watchTrap : (s.watchTrap g write n hits).inv := by
  refine (h.abandon.foldl fun _ _ k => k.updThread).foldl fun _ _ k => ?_
  split
  exacts [k, .ite k k.stopSet]

end

section
/-! `Access` -/
variable {s : State} (h : s.inv) {align core cp ctx fmt lane line n off pa pstart size slot tag : Nat} {home sx uncached : Bool} {g : Grp} {l : List
  (RLane × Nat × Nat × PAttr)} {ws : List Nat} {x : XLanes}
include h

theorem State.inv.feedFaults : (s.feedFaults ctx).inv := h.foldl fun _ _ k => .ite k.upd.send k.upd

theorem State.inv.useL1 : (s.useL1 core line).inv := h.upd

theorem State.inv.markLoad : (s.markLoad core slot lane).inv := h.updThread

theorem State.inv.noteLoad : (s.noteLoad core slot lane line).inv := h.updL1.updThread

theorem State.inv.threadLine : (s.threadLine core slot lane line tag pstart cp).1.inv := by
  dsimp only [State.threadLine]
  split
  · exact .iteFst h h.sliceRead
  · split
    · split
      exacts [h.noteLoad.useL1, .iteFst h h.sliceRead]
    · exact .ite h h.send

theorem State.inv.strongRead : (s.strongRead core slot lane pa size sx home cp).1.inv := by
  dsimp only [State.strongRead]
  split
  · exact h
  · split
    exacts [.ite (.l2Use (.iteFst h.homeRead h.sliceRead)) (.iteFst h.homeRead h.sliceRead), .iteFst h.homeRead h.sliceRead]

theorem State.inv.plainFind : (s.plainFind core slot lane pa size sx fmt uncached cp).1.inv := by
  dsimp only [State.plainFind]
  split
  · exact h
  · split
    · exact h.strongRead
    · split
      · exact h
      · split
        · exact h
        · split <;> exact h.threadLine

theorem State.inv.plainRead : (s.plainRead core slot lane pa size sx fmt uncached cp).1.inv := by
  dsimp only [State.plainRead]
  split
  exacts [h.plainFind, h.plainFind.markLoad]

theorem State.inv.takeFaults : (s.takeFaults ws).inv := h.upd

theorem State.inv.sampleLanes {typ : PAttr → Nat} : (s.sampleLanes g typ l).inv := h.foldl fun _ _ k => k.sample

theorem State.inv.faultTrap : (s.faultTrap g x).inv := h.takeFaults.waitTrap

theorem State.inv.fillLine {l : RLane} : (s.fillLine g l off).1.inv := by
  unfold State.fillLine
  split
  · exact h
  split
  · exact h
  refine .iteFst h ?_
  extract_lets t
  split
  · exact h.needWalk
  · exact h
  · extract_lets line own q r
    have hr : r.1.inv := .iteFst h (.iteFst h.homeRead (.iteFst h h.threadLine))
    split
    exacts [hr, hr.sample.updGang]

theorem State.inv.fillFor {g : Gang} : (s.fillFor g off).1.inv := .iteFst h h.fillLine

theorem State.inv.fillLanes {l : List (RLane × Nat)} : (s.fillLanes g l).st.inv := by
  refine List.foldlRecOn l _ (motive := fun x : Fills => x.st.inv) h fun x k a _ => ?_
  dsimp only
  split
  exacts [k.fillLine, k.fillLine, k.fillLine]

theorem State.inv.spadCheck {l : List (RLane × Nat)} {body : State → State} (hbody : ∀ {t}, t.inv → (body t).inv) : (s.spadCheck g align n l body).inv :=
  .ite h.coreTrap (.ite h.coreTrap (.ite h.fillLanes.takeFaults.waitTrap (.ite h.fillLanes.rotate (hbody h.fillLanes))))

end

section
/-! `Mem` -/
variable {s : State} (h : s.inv) {aop core lane n pa size slot ty va : Nat} {a : AtomOp} {f : BitVec 1} {gd k w : BitVec 3} {o : BitVec 4} {b d ds :
  BitVec 7} {returns sx : Bool} {g : Grp} {dsts srcs : List Nat} {lanes : List RLane} {l : RLane}
include h

theorem State.inv.loading {body : State → Grp → List (RLane × List PVal) → List RLane → State} (hbody : ∀ {t a1 a2 a3}, t.inv → (body t a1 a2 a3).inv) :
    (s.loading gd k srcs dsts body).inv := by
  refine h.word (fun k => ?_)
  split
  · exact k.coreTrap
  · split
    exacts [k.coreTrap, k.coreTrap, .ite k.poisonTrap (.ite k.rotate (hbody k))]

theorem State.inv.acquireLanes : (s.acquireLanes g lanes).inv := .ite h.rotate ((h.foldl fun _ _ k => k.acquire).advance)

theorem State.inv.xlLanes {l : List (RLane × Nat)} : (s.xlLanes g acc l).st.inv := by
  refine List.foldlRecOn l _ (motive := fun x : XLanes => x.st.inv) h fun x k a _ => ?_
  unfold State.xlLane
  dsimp only
  split
  exacts [k, k, k.needWalk]

theorem State.inv.loadWord : (s.loadWord gd d b o k size sx).inv := by
  unfold State.loadWord
  refine h.word fun k => .ite k.acquireLanes (k.loading fun m => ?_)
  extract_lets vas mis x strong fmtOf rd faults guards _ tok s1
  refine .ite m.coreTrap (.ite m.xlLanes.rotate ?_)
  have hrd : rd.1.inv := by
    refine m.xlLanes.foldlFst fun _ _ n => ?_
    extract_lets _ _ _ _ r _
    have hr : r.1.inv := .iteFst n (.iteFst n.strongRead n.plainRead)
    split
    exacts [hr, hr, hr]
  have h1 : s1.inv := hrd.takeFaults.sampleLanes.nameToken
  exact .ite hrd.rotate (.ite h1.updGrp h1.advance)

theorem State.inv.storeWord : (s.storeWord gd ds b o size).inv := by
  dsimp only [State.storeWord]
  exact h.consume (fun k => .ite k.coreTrap (.ite k.xlLanes.rotate (.ite k.xlLanes.faultTrap k.xlLanes.sampleLanes.advance)))

theorem State.inv.hideEntry : (s.hideEntry core slot lane pa n).inv := h.upd

theorem State.inv.sendAtom : (s.sendAtom g l va pa a).inv := h.hideEntry.launchTx

theorem State.inv.atomWord : (s.atomWord gd d b aop ty returns).inv := by
  unfold State.atomWord
  refine h.word fun k => .ite (.ite k.rotate (.ite k.acquireLanes k.advance)) (.ite (.ite k.rotate k.updGrp) (k.consume fun m => ?_))
  split
  · exact m.coreTrap
  extract_lets vas mis x r val q
  refine .ite m.coreTrap (.ite m.xlLanes.rotate (.ite m.xlLanes.faultTrap (.ite ?_ ?_)))
  · exact (State.inv.foldlFst (q := (_, [])) m.xlLanes fun _ _ n => n.startRelease).updGrp
  · have hx : x.st.inv := m.xlLanes
    have hr : q.1.inv := by
      unfold q
      refine .foldlFst ?_ fun _ _ n => ?_
      · dsimp only
        exact hx.sampleLanes
      · exact n.sendAtom
    exact .ite hr.updGrp (.ite hr.updGrp hr.advance)

theorem State.inv.ldsWord : (s.ldsWord gd d b w f k size).inv :=
  h.loading (fun k => .ite k.coreTrap (.ite k.coreTrap (.ite k.watchTrap (.ite k.fillLanes.rotate k.fillLanes.takeFaults.nameToken.advance))))

theorem State.inv.stsWord : (s.stsWord gd ds b w f size).inv := h.consume (fun k => .ite (k.spadCheck (fun m => m.advance)) k.watchTrap)

theorem State.inv.cacheWord {f : State → Grp → Nat → Nat → State × Bool} (hf : ∀ {t a1 a2 a3}, t.inv → (f t a1 a2 a3).1.inv) :
    (s.cacheWord gd b o f).inv := by
  dsimp only [State.cacheWord]
  refine h.word (fun k => ?_)
  split
  · exact k.advance
  · split
    · exact k.advance
    · split
      · refine .rotate ?_
        refine k.foldlFst fun _ _ m => ?_
        split
        exacts [m, m.dropWalk, m.needWalk]
      · split
        · refine .advance ?_
          refine .foldlFst ?_ fun _ _ m => hf m
          refine k.foldlFst fun _ _ m => ?_
          split
          exacts [m, m.dropWalk, m.needWalk]
        · refine .rotate ?_
          refine .foldlFst ?_ fun _ _ m => hf m
          refine k.foldlFst fun _ _ m => ?_
          split
          exacts [m, m.dropWalk, m.needWalk]

end

section
/-! `Tiles` -/
variable {s : State} (h : s.inv) {ctx gang n : Nat}
include h

theorem State.inv.updTreg {f : TileReg → TileReg} : (s.updTreg ctx gang n f).inv := h.upd

end

section
/-! `Control` -/
variable {s : State} (h : s.inv) {gd : BitVec 3} {a b d : BitVec 7} {all : Bool} {srcs : List Nat}
include h

theorem State.inv.branchWord {bad : RLane → Bool} {f : Grp → RLane → List PVal → RLane} : (s.branchWord gd srcs bad f).inv :=
  h.consume (fun k => .ite k.coreTrap k.advance)

theorem State.inv.waitWord : (s.waitWord gd d a b all).inv := by
  refine h.consume (fun k => ?_)
  split
  exacts [k.coreTrap, k.spadCheck (fun m => m.advance)]

theorem State.inv.fenceWord {f : Nat → Fx} : (s.fenceWord gd f).inv := h.consume (fun k => k.advance)

end

section
/-! `Trailer` -/
variable {s : State} (h : s.inv) {aw core cp ctx d draw id k key lane line pa scope slot stage v va : Nat} {first y : Bool} {f : Fx} {g g0 : Grp}
  {bytes : List Byte} {offs : List Nat} {p : Patch} {l : RLane}
include h

theorem State.inv.supersede : (s.supersede core slot lane line p).inv := h.upd

theorem State.inv.strongStore : (s.strongStore core slot lane va pa bytes scope cp).inv := h.supersede.launchTx.upd

theorem State.inv.early : (s.early g f).1.inv := by
  unfold State.early
  split
  · exact .iteFst (.iteFst h h.enterStore) (.iteFst h.spill h.enterStore)
  · split
    exacts [h.startRelease, .iteFst h.strongStore h, h.strongStore]
  · exact h.updGang
  · exact h.updGang
  · exact h

theorem State.inv.earlies : (s.earlies k g).1.inv := by
  induction k generalizing s g with
  | zero => exact h
  | succ k ih =>
    unfold State.earlies
    split
    · exact h
    · exact .iteFst (ih h.early) h.early

theorem State.inv.readyAt : (s.readyAt g l offs).1.inv := .iteFst h.fillLanes.takeFaults.waitTrap h.fillLanes

theorem State.inv.barCheck : (s.barCheck ctx k key).inv := by
  unfold State.barCheck
  split
  exacts [h, .ite h.upd h]

theorem State.inv.startFence : (s.startFence core slot lane scope).inv := h.bump.upd.send

theorem State.inv.awaitRel {start : State → State} (hstart : ∀ {t}, t.inv → (start t).inv) : (s.awaitRel g l start id f).inv := by
  unfold State.awaitRel
  split
  exacts [(hstart h).updGrp, .ite h.updGrp h]

theorem State.inv.laneWait : (s.laneWait g l f).inv := by
  dsimp only [State.laneWait]
  split
  · exact .ite h (.ite h.updGrp (h.awaitRel (fun k => k.startFence)))
  · exact h.awaitRel (fun k => k.startRelease)
  · split
    · exact h
    · split
      exacts [h.startRelease.updGrp, .ite h.updGrp h]
  · split
    · split
      · exact .ite h h.acquire.updGrp
      · split
        · exact h.barCheck
        · split
          exacts [h, .ite h.updGrp.barCheck h]
    · exact h
  · split
    · exact h
    · split
      · exact .ite h h.acquire.cancel.updGrp
      · split
        · exact h.readyAt
        · split
          · exact h.readyAt.derivedTrap
          · split
            · exact h.readyAt.readyAt
            · split
              · exact .ite h.readyAt.readyAt.cancel.updGrp (.ite h.readyAt.readyAt.updGrp h.readyAt.readyAt.acquire.cancel.updGrp)
              · exact .ite h.readyAt.readyAt.cancel.updGrp (.ite (.maybeParkSlot (.ite h.readyAt.readyAt.updGrp h.readyAt.readyAt.updGrp.after)) h.readyAt.readyAt)
  · exact h

theorem State.inv.waitTimedOut : (s.waitTimedOut core slot lane id).inv := h.upd

theorem State.inv.slotFx : (s.slotFx g slot f).1.inv := by
  unfold State.slotFx
  split
  · exact h
  · split
    exacts [.iteFst h.flushRegions h.updGang, h.updGang, .iteFst h h.updTreg, .iteFst h h.upd.updGang, h.updGang.upd, h]

theorem State.inv.post : (s.post ctx stage v).inv := h.updLaunch

theorem State.inv.contribute {v : DWord} : (s.contribute ctx draw first v).inv := .ite h.updLaunch.send h.updLaunch

theorem State.inv.tryReply : (s.tryReply core slot lane).inv := by
  dsimp only [State.tryReply]
  split
  exacts [.ite h h.updGang.acquire.updThread, h]

theorem State.inv.commitLane : (s.commitLane g l aw y d).inv := by
  unfold State.commitLane
  extract_lets core mine pc s1 n a
  split
  · exact h
  next x0 _ =>
  extract_lets s2 _ late s3 s4 _ s5 s5' s6 s7
  have h2 : s2.inv := by
    refine h.updGang.foldl fun _ f k => ?_
    split
    exacts [k.updTreg, k.post, k.contribute.updThread, k]
  have h4 : s4.inv := .ite h2.updThread.killOps h2.updThread
  have h6 : s6.inv := .updGrp (.ite h4.upd.send h4.upd)
  refine .ite h6.send (.ite ?_ ?_)
  · exact .endThread (.ite h6.updLaunch h6)
  · split
    exacts [h6.killOps.updThread.evalJoins, .ite h6.killOps.updThread.tryReply h6]

theorem State.inv.finishGrp : (s.finishGrp id).inv := by
  unfold State.finishGrp
  split
  exacts [h, .ite (h.logRun.dropGrp.foldl fun _ _ k => k.maybeParkSlot) h]

theorem State.inv.lanePass : (s.lanePass aw y d id lane k).inv := by
  induction k generalizing s with
  | zero => exact h
  | succ k ih =>
    unfold State.lanePass
    split
    · exact h
    next g _ =>
    refine .ite h ?_
    split
    · dsimp only
      split
      exacts [.ite h.laneWait (ih h.laneWait), h.laneWait]
    · split
      · exact .ite (ih h.slotFx.updGrp) h.slotFx
      · exact .ite (ih h.updGrp) h.commitLane

theorem State.inv.barReleases : (s.barReleases g).1.inv := by
  unfold State.barReleases
  split
  · exact h
  · refine h.foldlFst fun _ _ k => ?_
    split
    exacts [k.startRelease, k]

theorem State.inv.trailerStep : (s.trailerStep g0 aw y d).inv := by
  unfold State.trailerStep
  extract_lets b r s1 cancels s2
  have hb : b.1.inv := .iteFst h h.barReleases
  have h1 : s1.inv := .updGrp (.iteFst h hb.earlies)
  refine .ite h1.rotate ?_
  split
  · exact h1.updGrp
  next g _ =>
  extract_lets firsts fills s3 bad s4 s5
  have h3 : s3.inv := h1.updGrp.fillLanes
  have h5 : s5.inv := .finishGrp (h3.foldl fun _ _ k => k.lanePass)
  exact .ite h3.takeFaults.waitTrap (.ite h3.rotate (.ite h3.derivedTrap (.ite h5.rotate h5)))

end

section
/-! `Service` -/
variable {s : State} (h : s.inv) {acc ctx n scope t va w : Nat} {gd : BitVec 3} {a : BitVec 7} {g : Grp} {_b block bytes : List Byte} {irq : Option
  (Nat × Nat × Nat)} {_l l : RLane}
include h

theorem State.inv.reeveNeed : (s.reeveNeed t va acc).inv := h.needWalk

theorem State.inv.reeveCheck : (s.reeveCheck w t va n).inv := by
  unfold State.reeveCheck
  split
  exacts [h.checkAs, h]

theorem State.inv.reeveWriteAsk : (s.reeveWriteAsk t va n).inv := by
  unfold State.reeveWriteAsk
  split
  exacts [h.storeNeed, h, h.reeveNeed]

theorem State.inv.reeveAsk : (s.reeveAsk t va n).inv := by
  unfold State.reeveAsk
  split
  exacts [h.readNeed, h.dropWalk, h.reeveNeed]

theorem State.inv.reeveWrite : Opt.inv (s.reeveWrite t va bytes irq) := by
  unfold State.reeveWrite
  split
  exacts [.ite (.some h.devStore) .none, .some h.dropWalk.raiseMsi, .none]

theorem State.inv.reeveWriteAs : Opt.inv (s.reeveWriteAs w t va bytes) := by
  unfold State.reeveWriteAs
  split
  exacts [.ite (.some h.putAs) .none, .some h.dropWalk, .none]

theorem State.inv.ringWord {chk : State → Grp → RLane → List Byte → Bool} {put : State → Grp → RLane → List Byte → Option State}
    {full : State → Grp → RLane → List Byte → Bool} {ask : State → Grp → RLane → List Byte → State} {fin : Nat → List Fx}
    (hput : ∀ {t a1 a2 a3}, t.inv → Opt.inv (put t a1 a2 a3)) (hask : ∀ {t a1 a2 a3}, t.inv → (ask t a1 a2 a3).inv) :
    (s.ringWord gd a scope chk put full ask fin).inv := by
  unfold State.ringWord
  refine h.word fun k => .ite (.ite k.rotate k.updGrp) (.ite ?_ (k.consume fun m => m.spadCheck fun n => ?_))
  · split
    · exact k.advance
    · split
      · next e => exact (hput k _ e).updGrp
      · exact .ite k.updGrp.maybeParkSlot.rotate (hask k).rotate
  · exact .ite n.poisonTrap (.ite n.derivedTrap (n.foldlFst fun _ _ w => w.startRelease).updGrp)

theorem State.inv.noteCall : (s.noteCall g l block).inv := h.updThread

theorem State.inv.svcPut : Opt.inv (s.svcPut g l block) := by
  unfold State.svcPut
  split
  · exact .some h
  extract_lets t s1 r slog hearth addr
  have h1 : s1.inv := h.noteCall
  exact .ite (.ite (.some h1.updThread) (.ite .none (.some h1.upd.devStore))) (.ite .none (.some h1.upd.devStore.updHearth))

theorem State.inv.svcAsk : (svcAsk s g _l _b).inv := h.storeNeed

theorem State.inv.updGraph {f : GraphS → GraphS} : (s.updGraph ctx f).inv := h.updLaunch

theorem State.inv.emitPut : Opt.inv (s.emitPut g l block) := by
  unfold State.emitPut
  split
  · refine .ite .none (.map h.reeveWriteAs fun _ k => ?_)
    extract_lets s1 s2
    have h2 : s2.inv := .ite k.updGraph k.updGraph.after
    exact .ite h2 h2.send
  · exact .some h

theorem State.inv.emitAsk : (emitAsk s g _l block).inv := by
  dsimp only [Machine.emitAsk]
  split
  exacts [h.reeveWriteAsk, h]

end

section
/-! `EngineWords` -/
variable {s : State} (h : s.inv) {acc aq core ctx lane line n off opc pa rl stack t tenant va world : Nat} {gd : BitVec 3} {a : BitVec 7} {c : Cmd} {k
  : CollBlk} {g : Grp} {es : List (Nat × Nat × Nat)} {b : List Byte} {pages : List Nat} {lanes : List RLane} {alloc : Option Nat} {l : RLane}
include h

theorem State.inv.xlRange : (s.xlRange stack t ctx va acc pages).1.inv := by
  dsimp only [State.xlRange]
  refine h.foldlFst fun _ _ k => ?_
  split
  · exact k
  · exact k
  · exact k.needWalk
  · split
    exacts [k, k, k.needWalk]

theorem State.inv.xlExtents : (s.xlExtents stack t ctx es).1.inv := by
  dsimp only [State.xlExtents]
  refine h.foldlFst fun _ _ k => ?_
  split
  · split <;> exact k.xlRange
  · exact k

theorem State.inv.engLine : (s.engLine stack line world tenant off n).1.inv := .iteFst h (.iteFst h h.homeRead)

theorem State.inv.engBytes : (s.engBytes stack world tenant pa n).1.inv := by
  dsimp only [State.engBytes]
  split <;> exact h.engLine

theorem State.inv.commonCheck : (s.commonCheck stack world t ctx k).1.inv := by
  dsimp only [State.commonCheck]
  split
  · split
    · split
      exacts [h.engLine.engLine, h.engLine.engLine, .iteFst h.engLine.engLine h.engLine.engLine.xlExtents]
    · exact h.engLine.engLine
  · exact h
  · exact h
  · exact h.needWalk.needWalk

theorem State.inv.collCheck : (s.collCheck g l b).1.inv := .iteFst h (.iteFst h.commonCheck h.xlExtents)

theorem State.inv.cmdCheck : (s.cmdCheck opc g l b).1.inv := .iteFst h.collCheck (.iteFst h h.xlExtents)

theorem State.inv.sourceFilled : (s.sourceFilled core alloc opc b).1.inv := by
  dsimp only [State.sourceFilled]
  split
  · split
    exacts [h.foldlFst fun _ _ k => k.fillFor, h]
  · exact h

theorem State.inv.placeCmd : (s.placeCmd c).inv := .ite h.bump.upd.send h.bump.upd.send

theorem State.inv.startAq : (s.startAq g lanes aq).inv := .ite h.updGrp ((h.foldlFst fun _ _ k => k.startRelease).updGrp)

theorem State.inv.awaitAq : (s.awaitAq g).inv := .ite h.rotate h.updGrp

theorem State.inv.didLane : (s.didLane g lane).inv := h.updGrp

theorem State.inv.advanceDid : (s.advanceDid g).inv := h.advance

theorem State.inv.holdChecked {block : RLane → List Byte} {coll : RLane → Option (Nat × Nat)} {pages : List (Nat × List (Nat × Nat × Nat))} :
    (s.holdChecked g block coll pages).inv :=
  h.updGrp

theorem State.inv.checkLanes {ls : List RLane} {f : State → RLane → State × EngChk} (hf : ∀ {t l}, t.inv → (f t l).1.inv) : (s.checkLanes ls f).st.inv := by
  refine List.foldlRecOn ls _ (motive := fun x : ChkAll => x.st.inv) h fun x k l _ => ?_
  dsimp only
  split
  exacts [hf k, hf k, hf k, hf k]

omit h in
theorem State.inv.chkFinish {x : ChkAll} {body : State → State} (h : x.st.inv) (hbody : ∀ {t}, t.inv → (body t).inv) : (x.finish g body).inv := by
  unfold ChkAll.finish
  split
  exacts [h.coreTrap, .ite h.rotate (.ite h.takeFaults.waitTrap (hbody h))]

theorem State.inv.engineWord : (s.engineWord gd a opc aq rl).inv := by
  unfold State.engineWord
  refine h.word fun k => ?_
  extract_lets off block
  refine .ite k.awaitAq (.ite ?_ (k.consume fun m => ?_))
  · split
    exacts [k.advanceDid, .ite k.rotate (.ite k.sourceFilled.placeCmd.didLane k.sourceFilled.rotate)]
  · extract_lets ls out f bad x
    have hf : f.st.inv := m.fillLanes
    have hx : x.st.inv := hf.checkLanes fun n => .iteFst n n.cmdCheck
    exact .ite m.coreTrap (.ite hf.takeFaults.waitTrap (.ite hf.rotate (.ite hf.poisonTrap (hx.chkFinish fun n => n.holdChecked.startAq))))

end

section
/-! `Aliases` -/
variable {s : State} (h : s.inv) {cmd core home id k line pa piece stack tenant world wtag : Nat} {e : Alias} {c : Cmd} {bs : List (Byte × Bool)} {es
  : List Alias} {ls : List L2Line} {bad lines txs : List Nat} {p : Piece}
include h

theorem State.inv.pokeCmd : (s.pokeCmd id).inv := .ite h h.send

theorem State.inv.engPatch {p : Patch} : (s.engPatch core world tenant line p bad).1.inv := h.bump.upd.send

theorem State.inv.engStoreLine : (s.engStoreLine core world tenant pa bs).1.inv := h.engPatch

theorem State.inv.engStoreN : (s.engStoreN k core world tenant pa bs).1.inv := by
  induction k generalizing s pa bs with
  | zero => exact h
  | succ k ih => exact .iteFst h (ih h.engStoreLine)

theorem State.inv.ofCmd : (s.ofCmd id txs).inv := h.upd

theorem State.inv.cmdStore : (s.cmdStore c pa bs).inv := h.engStoreN.ofCmd.updCmd

theorem State.inv.cmdPatch {bs : List (Nat × Byte × Bool)} : (s.cmdPatch c bs).inv := h.foldl fun _ _ k => k.engPatch.ofCmd.updCmd

theorem State.inv.readLines : (s.readLines stack world tenant lines).1.inv := by
  dsimp only [State.readLines]
  refine h.foldlFst fun _ _ k => ?_
  split <;> exact k.engLine

theorem State.inv.updPiece {f : Piece → Piece} : (s.updPiece id f).inv := h.upd

theorem State.inv.sendPiece : (s.sendPiece cmd e).inv := h.bump.upd.updCmd.send

theorem State.inv.pieceDone : (s.pieceDone p).inv := h.upd.updCmd.pokeCmd

theorem State.inv.askHandovers : (s.askHandovers ls).inv := h.foldl fun _ _ k => .ite k k.send

theorem State.inv.eagerPiece : (s.eagerPiece p c).inv := .ite h.readLines.wait h.readLines.cmdStore.upd.pieceDone

theorem State.inv.goEager : (s.goEager p).inv := .ite h.updPiece.send h.updPiece.sendAll

theorem State.inv.recordPiece : (s.recordPiece p c).inv := by
  dsimp only [State.recordPiece]
  split
  · exact h.wait
  · split
    · exact h.goEager
    · split
      exacts [h.sealWr.pieceDone, .ite h.askHandovers.wait (((h.foldl fun _ _ k => k.destWrite).updPiece).sendAll)]

theorem State.inv.putDest {bs : List (Nat × Byte × Bool)} : (s.putDest wtag line bs).inv := by
  refine .foldl ?_ fun _ _ k => k.setPoison
  refine .foldl ?_ fun _ _ k => k.setPoison
  split
  exacts [.ite (.foldl (.putAll (.ite h h.failLine)) fun _ _ k => k.setPoison) (.putAll (.ite h h.failLine)), h.patch]

theorem State.inv.putCaught : (s.putCaught p).inv := h.foldl fun _ _ k => k.destWrite.putDest

theorem State.inv.installPiece : (s.installPiece p c).inv := by
  refine .ite h.updPiece.send ?_
  split
  · exact h.sealWr.pieceDone
  refine .ite (State.inv.foldl h fun _ _ k => k.l2Inval).wait (.ite (State.inv.foldl h fun _ _ k => k.askSources).wait ?_)
  extract_lets _ s0 s1 again s2 s3
  have h1 : s1.inv := h.upd.foldl fun _ _ k => k.destWrite.snoopHost
  have h2 : s2.inv := h1.foldl fun _ _ k => k.upd
  have h3 : s3.inv := h2.foldl fun _ _ k => k.setPoison
  exact h3.upd.putCaught.pieceDone

theorem State.inv.aliasRecord : (s.aliasRecord id).inv := by
  unfold State.aliasRecord
  split
  · exact h
  · split
    · exact h.upd
    · split
      exacts [h.recordPiece, h.installPiece, h.eagerPiece, h]

theorem State.inv.holdEntries : (s.holdEntries piece es).inv := h.upd

theorem State.inv.resolvePlain {p : Alias} : (s.resolvePlain piece p home).1.inv :=
  h.foldlFst fun _ _ k => (k.foldl fun _ _ w' => w'.materialise).holdEntries

theorem State.inv.resolveForm {p : Alias} : (s.resolveForm piece p home).1.inv := by
  dsimp only [State.resolveForm]
  split
  exacts [h.holdEntries, h.foldl fun _ _ k => k.materialise]

theorem State.inv.aliasResolve : (s.aliasResolve id home).inv := by
  unfold State.aliasResolve
  split
  exacts [h, .ite h (.send (.updPiece (.iteFst h.resolvePlain h.resolveForm)))]

theorem State.inv.resolveReply : (s.resolveReply id).inv := by
  unfold State.resolveReply
  split
  exacts [h, .ite h (.ite h.updPiece (.ite h.goEager h.updPiece.sendAll))]

theorem State.inv.markGranule : (s.markGranule id line).inv := by
  unfold State.markGranule
  split
  exacts [h, .ite h (.ite h.wait (.ite h.askHandovers.wait (((h.foldl fun _ _ k => k.upd).updPiece).send)))]

theorem State.inv.markedReply : (s.markedReply id).inv := by
  unfold State.markedReply
  split
  exacts [h, .ite h (.ite h.updPiece (.ite h.updPiece.send h.updPiece.sendAll))]

theorem State.inv.hotFreed : (s.hotFreed home).inv := h.upd

theorem State.inv.releaseHold : (s.releaseHold id home).inv := by
  unfold State.releaseHold
  split
  exacts [h, .ite h (.ite (((h.upd.foldl fun _ _ k => k.hotFreed).updPiece).send) ((h.upd.foldl fun _ _ k => k.hotFreed).updPiece))]

theorem State.inv.srcAck : (s.srcAck line home).inv := .waitFirst (.ite ((h.foldl fun _ _ k => k.updTx).upd) (((h.foldl fun _ _ k => k.updTx).upd).upd))

theorem State.inv.hotOne : (s.hotOne home).inv := by
  dsimp only [State.hotOne]
  split
  · exact h
  · split
    · exact h.wait
    · split
      exacts [h.upd, .ite h.upd.materialise h.upd.materialise.hotFreed]

end

section
/-! `Alu` -/
variable {s : State} (h : s.inv) {op : Nat} {gd k : BitVec 3} {a d : BitVec 7} {scan : Bool}
include h

theorem State.inv.foldWord : (s.foldWord gd d a k op scan).inv := h.tokWord

end

end Sys2Proof.Machine
end

section
/-! SUPPORT. Memory keeps its canonical form in what messages and the Hearth cores do to the state. -/

namespace Sys2Proof.Machine

open Sys2Proof

section
/-! `Package` -/
variable {s : State} (h : s.inv) {c counter event f i l mv q r tb tl tm why : Nat} {b : Bool} {v : DWord} {flit payload : List Byte}
include h

theorem State.inv.toReset : (s.toReset).inv := h.upd

theorem State.inv.boot : (s.boot).inv := .ite h h.upd.send

theorem State.inv.railOut : (s.railOut r).inv := h.upd.toReset.cancel.after

theorem State.inv.setVolts : (s.setVolts i mv).inv := .ite h.toHost h

theorem State.inv.setRun : (s.setRun i f).inv := h.upd

theorem State.inv.islandWrite : (s.islandWrite i v).inv := by
  unfold State.islandWrite
  split
  exacts [h, .ite h (.send (.setVolts (.ite h.upd.setRun h.upd)))]

theorem State.inv.setThrottle : (s.setThrottle q b).inv := h.upd

theorem State.inv.nextSample : (s.nextSample c).inv := .ite h h.after

theorem State.inv.tcolSample : (s.tcolSample c tb tl tm).inv := .ite h.upd.send (.ite h.upd.setThrottle h.upd)

theorem State.inv.linkErr : (s.linkErr l event).inv := h.intErr

theorem State.inv.linkDown : (s.linkDown l why).inv := h.logEvent

theorem State.inv.linkFail : (s.linkFail l counter).inv := h.setLink.logEvent.unsend.foldl fun _ _ k => .ite k.endLaunch k.sendAbort

theorem State.inv.bridgeIn : (s.bridgeIn l flit).inv := by
  unfold State.bridgeIn
  split
  exacts [h.send, h]

theorem State.inv.flitSend : (s.flitSend l payload).inv := .ite h.updLink.bridgeIn.counted (.ite h h.wait)

theorem State.inv.flitReceive : (s.flitReceive l flit).inv := by
  dsimp only [State.flitReceive]
  split
  · split
    · exact .ite h (.ite h.updLink.counted h.updLink)
    · split
      · exact h.updLink.linkFail
      · split
        exacts [h.updLink.send, h.updLink]
  · exact h

theorem State.inv.land : (s.land l).inv := by
  refine h.unsend.foldl fun _ _ k => ?_
  split
  exacts [k.flitReceive, k]

end

section
/-! `Replies` -/
variable {s : State} (h : s.inv) {ctx gang group lane : Nat} {hearth : Hold} {reply : List Byte}
include h

theorem State.inv.updSaved {f : Saved → Saved} : (s.updSaved ctx gang f).inv := h.upd

theorem State.inv.placeSaved : (s.placeSaved ctx group).inv := by
  unfold State.placeSaved
  split
  · split
    exacts [.ite h.updTcb.send h, h]
  · exact h

theorem State.inv.wakeSaved {p : Saved → Bool} : (s.wakeSaved p hearth).inv := h.upd.foldl fun _ _ k => k.placeSaved

theorem State.inv.pokePlaces : (s.pokePlaces).inv := h.sendAll

theorem State.inv.acceptReply : (s.acceptReply ctx gang lane reply).inv := by
  unfold State.acceptReply
  split
  · exact h.devStore.updThread.tryReply
  · split
    exacts [h.devStore.updSaved.placeSaved, h]

end

section
/-! `Host` -/
variable {s : State} (h : s.inv) {addr code half hearth i line n port v : Nat} {own write : Bool} {e : Ev} {body bytes : List Byte}
include h

theorem State.inv.memRequest : (s.memRequest port addr write bytes).inv := by
  dsimp only [State.memRequest]
  split
  · exact h.toHost
  · split
    · split
      exacts [h.sealWr.toHost, h.upd.devStoreLine.toHost]
    · split
      exacts [h.homeRead.upd.toHost, h.homeRead.wait]

theorem State.inv.bridgeAsk : (s.bridgeAsk half own).inv := .ite h h.upd.toHost

theorem State.inv.giveLine : (s.giveLine line e).inv := (h.foldl fun _ _ k => .ite k k.send).wait

theorem State.inv.putHreqBase : (s.putHreqBase hearth v).inv := .ite h.upd h

theorem State.inv.putHfltBase : (s.putHfltBase hearth v).inv := .ite h.upd h

theorem State.inv.extLower : (s.extLower hearth).inv := .ite h.updHearth h

theorem State.inv.putHreqHead : (s.putHreqHead hearth v).inv := h.upd.extLower.wakeSaved

theorem State.inv.putHfltHead : (s.putHfltHead hearth v).inv := h.upd.extLower.hfltDrain

theorem State.inv.extend {v : List Byte} : (s.extend i v).inv := h.upd

theorem State.inv.bootStep : (s.bootStep n).inv := h.upd

theorem State.inv.bootFail : (s.bootFail code).inv := h.upd

theorem State.inv.loadImage : (s.loadImage body).inv := by
  refine h.putBytes.foldl fun t l k => ?_
  extract_lets s1 s2 s3 s4
  have h1 : s1.inv := k.foldl fun _ _ m => m.setPoison
  have h2 : s2.inv := .ite h1.setHalf h1
  have h3 : s3.inv := .ite h2.setHalf h2
  exact .ite h3.mscFill h3.mscFill.upd

end

section
/-! `Tenants` -/
variable {s : State} (h : s.inv) {off port qst w : Nat} {v : DWord} {t : Option Nat} {x : Queue}
include h

theorem State.inv.syncQueue : (s.syncQueue x qst).inv := h.devStore.devStore

theorem State.inv.putQueue : (s.putQueue x).inv := h.updQueue.syncQueue

theorem State.inv.badBell : (s.badBell t port v).inv := h.logTenant

theorem State.inv.recordEvents {t : Nat} : (s.recordEvents t w v).inv := h.urgeAll

theorem State.inv.freplyEvent : (s.freplyEvent v).inv := by
  unfold State.freplyEvent
  split
  exacts [.ite h.urge h.badReply, .ite h.urge h.badReply, h]

theorem State.inv.windowWrite : (s.windowWrite off v).inv := by
  refine .ite h.urge (.ite (.ite h.urge h) (.ite (.ite h.recordEvents h) (.ite h.upd (.ite h.upd.pokeReeve (.ite h.upd.pokeReeve ?_)))))
  refine .ite h.upd (.ite h.urge (.ite h.freplyEvent (.ite h.urge (.ite (.ite h.upd h) (.ite (.ite h.upd h) (.ite (.ite h.upd h) ?_))))))
  refine .ite h.urge (.ite h.urge (.ite h.upd (.ite h.upd (.ite h.urge (.ite h.urge (.ite (.ite h.urge h) (.ite h.urge ?_)))))))
  exact .ite (.ite h.urge h) (.ite (.ite h.urge (.ite h.upd h)) (.ite h.urge (.ite (.ite h.urge h) (.ite (.ite h (.ite h.upd (.ite h.upd h))) h))))

end

section
/-! `Launch` -/
variable {s : State} (h : s.inv) {arith code ctx group k n seeds seq stage status t va : Nat} {again : Ev} {r : LRec} {l : Launch} {b extra : List
  Byte} {q : Queue} {x : Taken}
include h

theorem State.inv.addTcb {t : TCB} : (s.addTcb t).inv := h.bump.upd.send

theorem State.inv.pokePinned : (s.pokePinned ctx group).inv := by
  unfold State.pokePinned
  split
  exacts [.ite h h.send, h]

theorem State.inv.cutTcbs : (s.cutTcbs k ctx).inv := by
  induction k generalizing s with
  | zero => exact h
  | succ k ih =>
    unfold State.cutTcbs
    split
    · exact h
    · exact .ite h (.ite (ih h.updLaunch.pokePinned) (.ite (ih h.updLaunch.addTcb) h.updLaunch.addTcb))

theorem State.inv.cutMore : (s.cutMore ctx).inv := .ite h h.cutTcbs

theorem State.inv.complete {q : Nat} : Opt.inv (s.complete t q ctx r status arith extra) := by
  unfold State.complete
  exact .ite (.some h.logEvent) (.map h.reeveWrite fun _ k => k.logEvent)

theorem State.inv.reject {q : Nat} : Opt.inv (s.reject t q r status) := h.complete

theorem State.inv.reeveSpanAsk : (s.reeveSpanAsk t k va n).inv := by
  induction k generalizing s va n with
  | zero => exact h
  | succ k ih =>
    refine .ite h (ih ?_)
    split
    exacts [h.reeveAsk, h]

theorem State.inv.attach : (s.attach l).inv := .ite h.upd.nbRecord.nbStatus h

theorem State.inv.activate : (s.activate ctx stage seeds).inv := by
  unfold State.activate
  split
  · exact h
  · split
    exacts [h, ((h.foldl fun _ _ k => k.addTcb).foldl fun _ _ k => k.addTcb).updGraph]

theorem State.inv.startLaunch : (s.startLaunch l).inv := by
  unfold State.startLaunch
  split
  exacts [.ite h.activate h.activate.after, (h.foldl fun _ _ k => k.addTcb).cutTcbs]

theorem State.inv.dropLog : (s.dropLog q code seq).inv := h.logEvent

theorem State.inv.pastRecord : (s.pastRecord q).inv := h.putQueue.pokeReeve

theorem State.inv.countTaken : (s.countTaken).inv := h.upd

/-- The state that the taking of a record leaves. -/
def Taken.st : Taken → State
  | .done s => s
  | .held s => s
  | .wait s => s

theorem State.inv.rejected {q : Nat} : (s.rejected t q r status).st.inv := by
  unfold State.rejected
  split
  · next e => exact h.reject _ e
  · exact h.reeveWriteAsk

theorem State.inv.dispatch {q : Queue} {stages : List (List Byte)} : (s.dispatch q r stages).st.inv := by
  unfold State.dispatch
  extract_lets sealed_ lr _ slot
  split
  · extract_lets l s1 ways _ s2
    have h1 : s1.inv := h.upd.devStore
    have h2 : s2.inv := .ite h1.upd h1
    exact h2.attach.startLaunch.after
  · exact h

omit h in
theorem State.inv.iteTaken {c : Prop} [Decidable c] {a b : Taken} (ha : a.st.inv) (hb : b.st.inv) : (if c then a else b).st.inv := by
  split <;> assumption

theorem State.inv.takeRecord {q : Queue} {b : List Byte} : (s.takeRecord q b).st.inv := by
  unfold State.takeRecord
  extract_lets r t
  refine .iteTaken h.rejected (.iteTaken h.rejected (.iteTaken ?_ (.iteTaken h.rejected (.iteTaken ?_ (.iteTaken h.rejected h.dispatch)))))
  · split
    · split
      · next e => exact h.logEvent.reject _ e
      · exact h.reeveWriteAsk
    · exact h.reeveWriteAsk
  · split
    · exact h.reeveSpanAsk
    · exact h.rejected
    · exact .iteTaken h.rejected (.iteTaken h.rejected h.dispatch)

omit h in
theorem State.inv.settleRecord {x : Taken} (hx : x.st.inv) : (settleRecord q x again).inv := by
  cases x with
  | done t => exact hx.countTaken.pastRecord
  | held t => exact hx.putQueue.pokeReeve
  | wait t => exact hx.wait

theorem State.inv.launchRecord : (s.launchRecord q b again).inv := by
  unfold State.launchRecord
  refine .ite h.pastRecord (.ite h.takeRecord.settleRecord (.ite h.dropLog.pastRecord (.ite h.dropLog.pastRecord
    (.ite h.dropLog.pastRecord (.ite h.dropLog.pastRecord (.ite h.dropLog.pastRecord ?_))))))
  have hx := h.takeRecord (q := q) (b := b)
  generalize s.takeRecord q b = x at hx
  cases x with
  | done t => exact hx.countTaken.pastRecord
  | held t => exact hx.settleRecord
  | wait t => exact hx.settleRecord

theorem State.inv.controlRecord : (s.controlRecord q b).inv := .ite h.pastRecord (.ite (.pastRecord (.logEvent (.ite h h.setTrec))) h.dropLog.pastRecord)

theorem State.inv.lostRecord : (s.lostRecord q).inv := h.logEvent.pastRecord

theorem State.inv.readRecord {f : State → Queue → List Byte → State} (hf : ∀ {t a1 a2}, t.inv → (f t a1 a2).inv) : (s.readRecord n again f).inv := by
  unfold State.readRecord
  split
  · exact h.pokeReeve
  · split
    · exact h.pokeReeve
    · split
      · exact h.pastRecord
      · split
        exacts [.ite h.readOver.wait (.ite h.readOver.lostRecord (hf h.readOver)), h.dropWalk.lostRecord, h.reeveAsk.wait]

end

section
/-! `Ending` -/
variable {s : State} (h : s.inv) {ctx n period status t w : Nat} {k : KeySlot} {l : Launch} {x : World}
include h

theorem State.inv.setSlot : (s.setSlot n k).inv := h.upd

theorem State.inv.zeroiseSlots : (s.zeroiseSlots t).inv := h.foldl fun _ _ k => .ite k k.setSlot

theorem State.inv.endSession : (s.endSession t).inv := by
  unfold State.endSession
  split
  · split
    exacts [.ite h (.ite h.zeroiseSlots h.zeroiseSlots.upd), h]
  · exact h

theorem State.inv.dropUser : (s.dropUser n).inv := h.setSlot.endSession

theorem State.inv.endAttach : (s.endAttach ctx status).inv := .ite h.upd.nbRecord.nbStatus h

theorem State.inv.forget : (s.forget l status).inv := h.cancel.unsend.releaseBlocks.upd.upd.endAttach.retryHeld

theorem State.inv.finish : Opt.inv (s.finish l status) := by
  unfold State.finish
  exact .map h.complete fun _ k => k.forget

theorem State.inv.askFinish : (s.askFinish l).inv := .ite h.reeveWriteAsk h

theorem State.inv.putResult : Opt.inv (s.putResult l) := by
  dsimp only [State.putResult]
  split
  exacts [.ite h.reeveWrite (.some h), .some h]

theorem State.inv.releaseLanes : (s.releaseLanes l).inv := h.foldl fun _ _ k => k.startRelease

theorem State.inv.startRels : (s.startRels l).inv := by
  unfold State.startRels
  split
  · next e => exact (h.putResult _ e).updLaunch.releaseLanes
  · exact h.reeveWriteAsk

theorem State.inv.clearUp : (s.clearUp ctx).inv := (h.foldl fun _ _ k => k.flushRegions).foldl fun _ _ k => k.freeGroup

theorem State.inv.updWorld {f : World → World} : (s.updWorld w f).inv := h.upd

theorem State.inv.sealAll : (s.sealAll w).inv := h.foldl fun _ _ k => .ite k.sealBack k.askHalves

theorem State.inv.materialiseWorld : (s.materialiseWorld w).inv := h.foldl fun _ _ k => k.materialise

theorem State.inv.dropAliases : (s.dropAliases w).inv := (h.foldl fun _ _ k => k.setPoison).upd

theorem State.inv.scrub : (s.scrub w).inv := h.unsend.upd.foldl fun _ _ k => (k.putBytes.foldl fun _ _ m => m.setPoison).upd

theorem State.inv.drop : (s.drop ctx).inv := h.releaseBlocks.upd.upd

theorem State.inv.dropStores : (s.dropStores w).inv := h.upd.unsend

theorem State.inv.abortStart : (s.abortStart w x status).inv := h.updWorld.releaseBlocks.upd

theorem State.inv.worldAbort : (s.worldAbort w status).inv := by
  unfold State.worldAbort
  split
  · exact h
  extract_lets st x' s1 s2 _ s3
  have h1 : s1.inv := .ite h.abortStart h
  have h2 : s2.inv := h1.endLaunch.unsend.drop.dropStores
  exact .ite h.updWorld (.ite h2.upd.dropAliases.updWorld.send h1.wait)

theorem State.inv.abortWorlds : (s.abortWorlds t).inv := h.foldl fun _ _ k => k.sendAbort

theorem State.inv.poisonReads : (s.poisonReads t).inv := h.upd.sendAll

theorem State.inv.watchHeart : (s.watchHeart t period).inv := h.cancel.after

theorem State.inv.killQueues : (s.killQueues t).inv := by
  refine h.foldl fun _ _ k => ?_
  refine .logEvent ?_
  split
  exacts [k.putQueue, k.upd.syncQueue]

end

section
/-! `CoreEvents` -/
variable {s : State} (h : s.inv) {addr alloc aux core count cp ctx id kind line off pa slice tag : Nat} {keep lost : Bool} {l : L1Line} {data : List
  Byte} {pois : List Nat} {t : Token}
include h

theorem State.inv.evictL1 : (s.evictL1 l).inv := .ite h.dropL1 h.dropL1.notice

theorem State.inv.roomL1 : (s.roomL1 core line).inv := by
  dsimp only [State.roomL1]
  split
  · exact h
  · split
    exacts [h.evictL1, h.evictL1, h]

theorem State.inv.installL1 : (s.installL1 core line tag cp data pois).inv := h.dropL1.roomL1.upd

theorem State.inv.feedTokens : (s.feedTokens core line tag keep data pois).inv :=
  h.foldl fun _ _ k => .ite (.send (.updTok (.ite (k.foldl fun _ _ m => .ite m.noteLoad m) k))) (.updTok (.ite (k.foldl fun _ _ m => .ite m.noteLoad m) k))

theorem State.inv.fillReturn : (s.fillReturn core line tag cp keep data pois).inv := .feedTokens (.ite h.installL1 h)

theorem State.inv.entryError : (s.entryError core pa).inv := h.upd

theorem State.inv.lostTag : (s.lostTag slice line).inv := .ite (.ite h.upd h.bump.upd.sendAll) (.ite (h.foldl fun _ _ k => k.l2Inval) h.purge)

theorem State.inv.loseData : (s.loseData kind addr aux).inv := by
  dsimp only [State.loseData]
  split
  · split
    exacts [h.evictL1.send, h]
  · exact h.lostTag
  · exact h.lostTag
  · exact h.entryError
  · exact h.updGang
  · exact h.updGang
  · split
    exacts [h.upd, h]
  · exact h.updL2
  · split
    exacts [.ite h.integrity h.dropWorldLine, h]
  · exact h.setPoison
  · exact h.foldl fun _ _ k => k.setPoison

theorem State.inv.softError : (s.softError kind addr aux lost).inv :=
  .ite h.loseData.logMemCe (.ite h.logMemCe (.ite h.loseData.logMemCe (.ite h.loseData.logMemUe.send h.loseData.logMemUe)))

theorem State.inv.restored : (s.restored ctx).inv := h.upd

theorem State.inv.afterToken : (s.afterToken core t).inv := by
  refine .foldl (.foldl (.ite ((h.foldl fun _ _ k => k.updThread).restored) (h.foldl fun _ _ k => k.updThread)) fun _ _ k => k.tryReply) fun _ _ k => ?_
  split
  exacts [.ite k k.freeGroup, k]

theorem State.inv.tokenComplete : (s.tokenComplete id).inv := by
  unfold State.tokenComplete
  split
  exacts [h, .ite h (.ite h.wait (.ite h.wait (.afterToken (.upd (.ite h (h.foldl fun _ _ k => k.updGang))))))]

theorem State.inv.atomicReturn : (s.atomicReturn id).inv := by
  unfold State.atomicReturn
  split
  · exact h
  · split
    · refine .reap ?_
      refine .updTx ?_
      refine .updGrp ?_
      split
      exacts [.ite h.updGang h, h]
    · exact h

theorem State.inv.watchdog : (s.watchdog ctx).inv := .ite h.endLaunch h

theorem State.inv.arrive : (s.arrive core alloc off count).inv := by
  unfold State.arrive
  split
  exacts [h, .ite h.fillFor.wait h.fillFor.updGang]

end

section
/-! `Engines` -/
variable {s : State} (h : s.inv) {arrive b f i id line off opc : Nat} {l : CList} {c : Cmd} {k : CmdBlk} {bs src : List (Byte × Bool)} {bad ls pas :
  List Nat} {fid : Option Nat} {p : Patch}
include h

theorem State.inv.cmdOver : (s.cmdOver c arrive b).inv := by
  dsimp only [State.cmdOver]
  split
  exacts [.ite (.ite h.upd.send h.upd) (.send (.ite h.upd.send h.upd)), .ite h.upd.send h.upd]

theorem State.inv.cmdEnd : (s.cmdEnd c).inv := .ite h.cmdOver h.pokeCmd

theorem State.inv.cmdFault {again : State → State} (hagain : ∀ {t}, t.inv → (again t).inv) : (s.cmdFault c fid again).inv := by
  unfold State.cmdFault
  split
  exacts [h.updCmd, hagain h]

theorem State.inv.copyStep : (s.copyStep c).inv := .ite h.cmdEnd (.ite (.ite h.sendPiece.updCmd h) ((h.foldl fun _ _ k => k.sendPiece).updCmd))

theorem State.inv.rlayStep : (s.rlayStep c).inv :=
  .ite h.cmdEnd (.ite ((h.foldl fun _ _ k => k.sendPiece).updCmd) (.ite h.readLines.pokeCmd (((h.readLines.foldl fun _ _ k => k.cmdStore.upd).updCmd).pokeCmd)))

theorem State.inv.matlStep : (s.matlStep c).inv := .ite h.cmdEnd (((h.foldl fun _ _ k => k.foldl fun _ _ m => m.destWrite).updCmd).pokeCmd)

theorem State.inv.elemPages {us : Nat → Nat} : (s.elemPages opc k us id f i).1.inv := by
  induction f generalizing s i with
  | zero => exact h
  | succ f ih =>
    unfold State.elemPages
    split
    · exact h
    extract_lets va acc r
    refine .iteFst ?_ (.iteFst (ih h) ?_)
    · split
      exacts [h.ownFault.updCmd, h.ownFault.pokeCmd]
    · split
      exacts [ih h.updCmd, h.takeFaults.cmdFault fun k => k.pokeCmd, h.needWalk.pokeCmd]

theorem State.inv.gathSpad : (s.gathSpad c off bs).inv := by
  unfold State.gathSpad
  split
  exacts [h, h.updGang]

theorem State.inv.accLine : (s.accLine c line p bad).inv :=
  .ite (.ite h.bump.upd.updCmd.homeStore h.bump.upd.updCmd.homeStore.upd) h.bump.upd.updCmd.dirStore

theorem State.inv.accAsk : (s.accAsk line).inv := .ite h.askHalves h.askHalves.askSources

theorem State.inv.scatAcc : (s.scatAcc c k pas src).inv :=
  .ite ((h.foldl fun _ _ k => k.accAsk).pokeCmd) (.ite h.readLines.pokeCmd (((h.readLines.foldl fun _ _ k => k.accLine).updCmd).pokeCmd))

theorem State.inv.listStep : (s.listStep c).inv := by
  unfold State.listStep
  extract_lets k e idx r list r' us x s1 held pas spad srcs q f q' src s2 out
  have hr : r.1.inv := .iteFst h.readLines h
  have h1 : s1.inv := hr.updCmd.elemPages.updCmd
  have hq : q.1.inv := h1.readLines
  have hf : f.1.inv := by
    dsimp only [f]
    split
    exacts [.iteFst (.foldlFst (q := (_, true)) hq fun _ _ k => k.fillFor) hq, hq]
  refine .ite h.cmdEnd (.ite hr.pokeCmd (.ite h1 (.ite hq.pokeCmd (.ite hf.pokeCmd ?_))))
  split
  · have h2 : s2.inv := .ite hf.gathSpad (hf.foldl fun _ _ k => k.cmdStore)
    exact h2.updCmd.pokeCmd
  · exact hf.cmdPatch.updCmd.pokeCmd
  · exact hf.scatAcc

theorem State.inv.cmdStep : (s.cmdStep id).inv := by
  unfold State.cmdStep
  split
  · exact h
  · split
    · exact h
    · split
      exacts [h.copyStep, h.rlayStep, h.matlStep, h, h.listStep]

theorem State.inv.updList {f : CList → CList} : (s.updList id f).inv := h.upd

theorem State.inv.pokeList : (s.pokeList id).inv := .ite h h.send

theorem State.inv.listFault : (s.listFault id fid).inv := by
  unfold State.listFault
  split
  exacts [h.updList, h.pokeList]

theorem State.inv.startEntry {b : List Byte} : (s.startEntry l b).inv := by
  dsimp only [State.startEntry]
  split
  · exact h
  · split
    · exact h.logTenant.endLaunch
    · split
      · exact h.xlExtents.pokeList
      · exact h.xlExtents
      · exact h.xlExtents.takeFaults.listFault
      · exact .ite h.xlExtents.sourceFilled.pokeList (.ite h.xlExtents.sourceFilled.placeCmd.upd h.xlExtents.sourceFilled.placeCmd.updList.pokeList)

theorem State.inv.listStart : (s.listStart id).inv := by
  dsimp only [State.listStart]
  split
  · exact h
  · split
    · exact h
    · split
      · exact h.pokeList
      · split
        · exact h.needWalk.pokeList
        · exact h.takeFaults.listFault
        · split
          exacts [h.engBytes.pokeList, .ite h.engBytes.ownFault.listFault h.engBytes.startEntry]

theorem State.inv.collInteg : (s.collInteg c).inv := h.logTenant.endLaunch

theorem State.inv.linkEnds : (s.linkEnds c).inv := .ite h.endLaunch h.sendAbort

theorem State.inv.pinTargets : (s.pinTargets c).inv := h.foldl fun _ _ k => .ite k.mscFill.upd k.mscFill

theorem State.inv.collMatch : (s.collMatch id).inv := by
  unfold State.collMatch
  split
  · exact h
  extract_lets k pas r tab node ranks here away stks bridges ports s1 peers mine
  have h1 : s1.inv := h.readLines.updCmd
  refine .ite h (.ite h.readLines.wait (.ite h1.linkEnds (.ite h1 (.ite (h1.foldl fun _ _ k => k.collInteg) ?_))))
  exact h1.foldl fun _ _ k => .send (.ite k.updCmd k.updCmd.pinTargets)

theorem State.inv.pokeColl : (s.pokeColl id).inv := .ite h h.send

theorem State.inv.sendFrames : (s.sendFrames c).inv := h.foldl fun _ _ k => k.sendAll

theorem State.inv.crossEnds : (s.crossEnds ls).inv := h.foldl fun _ _ k => .ite k.sendOver k.sendOver.upd

theorem State.inv.takeFrames : (s.takeFrames c).inv := by
  refine h.foldl fun _ _ k => ?_
  split
  exacts [k.updLink, k]

theorem State.inv.collRead : (s.collRead c).inv := by
  unfold State.collRead
  extract_lets k hd hdr pas r bs q
  have hr : r.1.inv := .readLines (.iteFst h.readLines h)
  exact .ite hr.pokeColl (.ite hr.later (.ite (hr.ownFault.cmdFault fun k => k.pokeColl) hr.updCmd.crossEnds.sendFrames.pokeColl))

theorem State.inv.collExchange : (s.collExchange c).inv := by
  dsimp only [State.collExchange]
  split
  · exact h.later
  · split
    exacts [h.collInteg, h.integrity, .ite h.later (h.crossEnds.foldl fun _ _ k => k.takeFrames.updCmd.pokeColl)]

theorem State.inv.collWrite : (s.collWrite c).inv := by
  refine .ite (.ite h.readLines.pokeColl (.ite h.readLines.upd.logTenant.endLaunch h.readLines.cmdPatch.updCmd.pokeColl)) ?_
  exact (h.foldl fun _ _ k => k.cmdStore).updCmd.pokeColl

theorem State.inv.collStep : (s.collStep id).inv := by
  unfold State.collStep
  split
  · exact h
  · split
    · exact h
    · split
      exacts [h.collRead, h.collExchange, h.collWrite, .ite h.cmdOver h.pokeColl]

end

section
/-! `Faults` -/
variable {s : State} (h : s.inv) {core ctx fid id index line pa prg region slot va va0 : Nat} {ok strong : Bool} {x : Gang} {i i0 : Inval} {r :
  Refill} {l : TLane} {t : Token}
include h

theorem State.inv.updFault {f : FaultEnt → FaultEnt} : (s.updFault ctx fid f).inv := h.upd

theorem State.inv.markAnswered : (s.markAnswered ctx fid).inv := h.updFault.upd

theorem State.inv.refill : (s.refill ctx fid va0 r).1.inv := by
  dsimp only [State.refill]
  split
  · exact h.needWalk
  · split
    exacts [h.takeFaults, h]
  · split <;> exact .iteFst h h.plainRead

theorem State.inv.redoLane : (s.redoLane ctx fid va0 t l).1.inv := by
  dsimp only [State.redoLane]
  split
  · exact h.needWalk
  · split
    exacts [h.takeFaults, h]
  · split <;> exact .iteFst h h.plainRead

theorem State.inv.clearReply : (s.clearReply ctx fid).inv := by
  unfold State.clearReply
  split
  exacts [h.upd.devStore, h]

theorem State.inv.retryEnd {f : Thread → Thread} : (s.retryEnd ctx fid f).inv :=
  .ite (.foldl (.ite h.wake.wakeEngines.restored h.wake.wakeEngines.restored.recordReply) fun _ _ k => k.placeSaved) h.wake.wakeEngines.restored.clearReply.freeFault

theorem State.inv.retryAway : (s.retryAway ctx fid).inv := .foldl (.ite h.markAnswered h.markAnswered.recordReply) fun _ _ k => k.placeSaved

theorem State.inv.retry : (s.retry ctx fid).inv := by
  unfold State.retry
  split
  · exact h
  extract_lets brk quiet s1 r q
  have hr : r.1.inv := by
    refine h.markAnswered.foldlFst fun q x k => ?_
    dsimp only
    split
    exacts [k.refill.nameToken, k.refill]
  have hq : q.1.inv := by
    refine hr.foldlFst fun q x k => ?_
    dsimp only
    split
    exacts [k.redoLane.upd, k.redoLane]
  exact .ite h.retryAway (.ite hq.later hq.retryEnd)

theorem State.inv.prgResponse : (s.prgResponse prg ok).inv := by
  unfold State.prgResponse
  split
  exacts [h, .ite h.updFault.markAnswered.urge h.updFault.logFault]

theorem State.inv.writeLine : (s.writeLine x line va pa strong).inv := h.sample.launchTx.updGang

theorem State.inv.writeBack : (s.writeBack core slot region index).inv := by
  dsimp only [State.writeBack]
  split
  · exact h
  · split
    · split
      · exact h.updGang
      · split
        exacts [h.writeLine.wait, h.needWalk.wait, .ite h.updGang.wait h.wait]
    · exact .ite h.wait (.ite h h.freeGroup)

theorem State.inv.flushRemoved : (s.flushRemoved i).inv := by
  dsimp only [State.flushRemoved]
  refine h.foldl fun _ _ k => ?_
  refine k.foldl fun _ _ m => ?_
  split
  · exact m
  · split
    · split
      · split
        exacts [m.writeLine, m]
      · exact m
    · exact m

theorem State.inv.noteStores : (s.noteStores i).1.inv := h.foldlFst fun _ _ k => k.startRelease

theorem State.inv.startInval : (s.startInval i0).inv := h.bump.flushRemoved.noteStores.upd.send

theorem State.inv.nextDtinv : (s.nextDtinv).inv := by
  unfold State.nextDtinv
  split
  exacts [h, h.upd.startInval]

theorem State.inv.invalStep : (s.invalStep id).inv := by
  unfold State.invalStep
  split
  · exact h
  · split
    · exact .ite h.wait h.noteStores.upd.wait
    · split
      · exact h.wait
      · split
        exacts [h.upd.devStore.upd.send, h.upd.toHost, h.upd.logEvent.nextDtinv, h.upd.upd]

end

section
/-! `Scheduling` -/
variable {s : State} (h : s.inv) {c cluster ctx for_ group id k slot state thief : Nat} {b parked : Bool} {g : Gang} {r : Grp} {ctxs ids skipped vs :
  List Nat} {l ts : List TCB} {t : TCB}
include h

theorem State.inv.seat : (s.seat g).inv := h.bump.upd

theorem State.inv.cacheParams : (s.cacheParams cluster ctxs).inv := h.upd

theorem State.inv.bindOne : Opt.inv (s.bindOne t) := by
  dsimp only [State.bindOne]
  split
  · exact .some h.upd
  · split
    · exact .some h.upd.checkDone
    · split
      · exact .none
      · refine .some ?_
        refine .updLaunch ?_
        refine .updGraph ?_
        refine .takeWays ?_
        refine .updTcb ?_
        refine h.foldl fun _ _ k => ?_
        split
        exacts [k.upd.seat, k]

theorem State.inv.bindUnit : Opt.inv (s.bindUnit l) := by
  induction l generalizing s with
  | nil => exact .some h
  | cons t l ih =>
    refine .ite .none ?_
    split
    · next e => exact ih (h.bindOne _ e)
    · exact .none

theorem State.inv.passOver : (s.passOver ids).inv := h.upd

theorem State.inv.scan : (s.scan cluster skipped ts).1.inv := by
  induction ts generalizing skipped with
  | nil => exact h
  | cons t ts ih =>
    unfold State.scan
    extract_lets r
    have hr : Opt.inv r := by
      dsimp only [r]
      split
      · intro t e
        obtain ⟨_, _, rfl⟩ := Option.map_eq_some_iff.mp e
        exact h.send
      · exact h.bindUnit
    refine .iteFst h ?_
    clear_value r
    cases r with
    | some t => exact (hr t rfl).passOver
    | none => exact .iteFst h ih

theorem State.inv.pokeThieves : (s.pokeThieves).inv := h.sendAll

theorem State.inv.enqueue : (s.enqueue t c).inv := .ite h.upd.cacheParams h.upd.cacheParams.send

theorem State.inv.placeAll {l : Launch} : Opt.inv (s.placeAll l ts) := by
  induction ts generalizing s with
  | nil => exact .some h
  | cons t ts ih =>
    unfold State.placeAll
    split
    · exact ih h.enqueue
    · exact .none

theorem State.inv.askNext : (s.askNext thief vs).inv := by
  unfold State.askNext
  split
  exacts [h.upd.send, .ite h.upd h.upd.after]

theorem State.inv.abandonLane {l : RLane} : (s.abandonLane r l).inv := by
  unfold State.abandonLane
  extract_lets s1 _ s2 s3 s4
  have h4 : s4.inv := h.updGrp.upd.cancel.unsend.killOps.leave
  split
  · extract_lets left s5
    have h5 : s5.inv := .ite h4 h4.undoAllocs.updGrp
    exact .ite h5.dropGrp h5.finishGrp
  · exact h4

theorem State.inv.splitLanes : (s.splitLanes r slot).inv := by
  dsimp only [State.splitLanes]
  split
  · exact h
  · split
    exacts [.ite h.updGrp.bump.upd.dropGrp h.updGrp.bump.upd, h.updGrp.bump.upd]

theorem State.inv.stopWaiters : (s.stopWaiters g).inv := h.foldl fun _ _ k => .foldl (.ite k.splitLanes k) fun _ _ m => m.abandonLane

theorem State.inv.quiesce : (s.quiesce ctx group).1.inv := .iteFst h (h.foldl fun _ _ k => (k.foldl fun _ _ m => m.drain).flushRegions)

theorem State.inv.saveBlocks : (s.saveBlocks g parked).inv := by
  refine .foldl (.putAs (.ite h.putAs.putAs h.putAs)) fun _ _ k => ?_
  split
  exacts [k.putAs, k]

theorem State.inv.detach : (s.detach id group state).1.inv := by
  unfold State.detach
  split
  exacts [h, .iteFst h.updTcb h.bump.upd]

theorem State.inv.cancelSaved {which : TCB → Bool} : (s.cancelSaved ctx k which).inv := by
  unfold State.cancelSaved
  extract_lets tcbs xs out fids hit s1 _ s2 s3 gone s4 s5
  have h2 : s2.inv := (h.foldl fun _ _ k => k.putAs).upd
  have h3 : s3.inv := .ite h2 h2.updLaunch
  have h4 : s4.inv := h3.foldl fun _ _ k => k.releaseBlocks.upd
  have h5 : s5.inv := h4.foldl fun _ _ k => .ite k.clearReply.freeFault k
  exact h5.foldl fun _ _ k => k.placeSaved

theorem State.inv.saveGroup : (s.saveGroup ctx group parked).inv := by
  unfold State.saveGroup
  extract_lets gs gone
  clear_value gs
  cases gs with
  | nil => exact h
  | cons g0 rest =>
    dsimp -zeta only
    extract_lets d s1 _ _ _ _ s2 s3 s4
    have h2 : s2.inv := (h.detach.foldl fun _ _ k => k.saveBlocks.foldl fun _ _ m => m.clearLoaded).upd
    have h3 : s3.inv := .ite h2.updTcb h2
    have h4 : s4.inv := h3.pokeBinds.placeSaved
    split
    · split
      exacts [.ite h4.cancelSaved h4, h4]
    · exact h4

theorem State.inv.setSaving : (s.setSaving ctx group b).inv := .ite h (.ite h.upd (h.upd.foldl fun _ _ k => k.foldl fun _ _ m => m.tryReply))

theorem State.inv.parkStop : (s.parkStop ctx group).inv := (h.foldl fun _ _ k => k.stopWaiters).foldl fun _ _ k => k.updThread

theorem State.inv.startPreempt : (s.startPreempt ctx group for_).inv := h.upd.send

end

section
/-! `Anvil` -/
variable {s : State} (h : s.inv) {acc base bi bj c core id op va walk world : Nat} {x : Gang} {f : HFault} {a b hearth : Hdr} {bs : List (Nat × Byte ×
  Bool)} {es : List (Nat × Nat × Elem)} {hb : List Byte} {is js lines logs : List Nat} {d : Option Hdr} {fid : Option Nat} {t : Task} {r : TaskRec}
include h

theorem State.inv.tongs : (s.tongs t world lines).1.inv := by
  dsimp only [State.tongs]
  split
  exacts [h.xlRange, .iteFst h.xlRange (.iteFst h.xlRange.readLines h.xlRange.readLines), h.xlRange]

theorem State.inv.fetchTile : (s.fetchTile t world base hearth is js).1.inv := by
  dsimp only [State.fetchTile]
  split
  · split <;> exact h.tongs.tongs
  · exact h.tongs

theorem State.inv.headLine : (s.headLine t world op va).1.inv := by
  unfold State.headLine
  dsimp only
  split
  · exact h
  · exact h.needWalk
  · split
    · split <;> exact h.tongs
    · exact h.tongs
    · exact h.tongs

omit h in
theorem State.inv.headThen {x : State × HeadR} {f : State → List (List Byte) → State × HeadR} (hx : x.1.inv)
    (hf : ∀ {t a1}, t.inv → (f t a1).1.inv) : (headThen x f).1.inv := by
  unfold Machine.headThen
  split
  exacts [hf hx, hx]

theorem State.inv.heads : (s.heads t x).1.inv := by
  unfold State.heads
  extract_lets r
  refine h.headLine.headThen fun k => k.headLine.headThen fun m => ?_
  extract_lets a b acc regs check
  split
  · exact m
  have hc {t hd} (n : t.inv) : (check t hd).1.inv := by
    dsimp only [check]
    split
    exacts [n, n]
  exact .iteFst (m.headLine.headThen hc) (hc m)

theorem State.inv.taskPatch : (s.taskPatch t core world bs).inv := h.foldl fun _ _ k => k.engPatch.updTask

theorem State.inv.taskFault : (s.taskFault t walk fid).inv := by
  unfold State.taskFault
  dsimp only
  split
  exacts [h.takeFaults.updTask, h.takeFaults]

theorem State.inv.stepDone : (s.stepDone t logs).inv := .ite h.updTask.send h.updTask

theorem State.inv.toRegister : (s.toRegister t x r a b acc bi bj es).inv := h.updTreg.stepDone

theorem State.inv.toMemory : (s.toMemory t x r hb hearth es).inv := by
  unfold State.toMemory
  dsimp only
  split
  exacts [h.xlRange.taskFault, h.xlRange.taskPatch.stepDone, h.xlRange]

theorem State.inv.startVals : (s.startVals t x r d bi bj).1.inv := by
  refine .iteFst h ?_
  dsimp only
  split
  · split
    · split <;> exact h.fetchTile
    · exact h
  · split <;> exact h

theorem State.inv.outStep : (s.outStep t x a b d).inv := by
  unfold State.outStep
  extract_lets r p bi bj is js all open_ fa fb st
  have ha : fa.1.inv := .iteFst h.fetchTile h
  have hb : fb.1.inv := .iteFst ha.fetchTile ha
  have hs : st.1.inv := .iteFst hb.startVals hb
  split
  · exact ha
  · exact ha.taskFault
  split
  · exact hb
  · exact hb.taskFault
  split
  exacts [hs, hs.taskFault, .ite hs.toRegister hs.toMemory]

theorem State.inv.tileFault : (s.tileFault t f).inv := h.logTenant.upd.endLaunch

theorem State.inv.anvil : (s.anvil c).inv := by
  unfold State.anvil
  split
  · exact h
  next t x _ =>
  extract_lets _ s1 r
  have hr : r.1.inv := .iteFst h.upd.send.heads h.upd.send
  split
  exacts [hr, hr.taskFault, hr.tileFault, hr.updTask.outStep]

theorem State.inv.taskComplete : (s.taskComplete id).inv := by
  unfold State.taskComplete
  split
  · exact h
  · split
    · exact h
    · split
      · exact h.wait
      · split
        exacts [h.upd, .freeGroup (.maybePark (.ite (.ite h.upd.logArith.send h.upd.logArith) (.send (.ite h.upd.logArith.send h.upd.logArith))))]

end

section
/-! `Board` -/
variable {s : State} (h : s.inv) {ctx gang : Nat} {v : BitVec 128} {step : Bool}
include h

theorem State.inv.nbCommand {status : State → NbCmd → Nat} {effect : State → NbCmd → State} (heffect : ∀ {t a1}, t.inv → (effect t a1).inv) :
    (s.nbCommand v status effect).inv :=
  .ite (heffect h.upd.boardStore.nbRecord) h.upd.boardStore.nbRecord

theorem State.inv.letGo : (s.letGo ctx gang step).inv := h.foldl fun _ _ k => k.retryEnd

theorem State.inv.nbSettle : (s.nbSettle).inv := by
  unfold State.nbSettle
  split
  · exact h
  · refine (h.foldl fun _ _ k => .ite k.upd.nbRecord k).foldl fun _ _ k => ?_
    split
    exacts [k.upd.nbRecord, k]

theorem State.inv.noStep : (s.noStep ctx gang).inv := h.upd

theorem State.inv.resumeGang : (s.resumeGang ctx gang).inv := h.upd.letGo

end

section
/-! `Graphs` -/
variable {s : State} (h : s.inv) {ctx stage : Nat} {q : GraphS} {l : Launch}
include h

theorem State.inv.watchRing : (s.watchRing ctx stage q).inv := by
  unfold State.watchRing
  split
  exacts [.ite h h.after, h]

theorem State.inv.formGang : (s.formGang ctx stage).inv := by
  unfold State.formGang
  split
  · exact h
  split
  · exact h
  refine .ite h ?_
  split
  · exact (h.foldl fun _ _ k => k.reeveAsk).wait
  extract_lets g lost keep s9 s0 s1 s2
  have h9 : s9.inv := h.foldl fun _ _ k => k.reeveCheck
  have h1 : s1.inv := h9.updGraph.wakeSaved
  have h2 : s2.inv := .ite h1.checkDone h1.addTcb.send
  split
  exacts [h2.watchRing, h2]

theorem State.inv.rebalanceOne : (s.rebalanceOne ctx stage).inv := by
  unfold State.rebalanceOne
  split
  · exact h
  · split
    · exact h
    · split
      exacts [h.startPreempt.updGraph, h]

theorem State.inv.putPwords : Opt.inv (s.putPwords l q) := by
  refine List.foldlRecOn q.ran _ (motive := Opt.inv) (.some h) fun o k t _ => k.bind fun _ m => m.reeveWrite

theorem State.inv.waveEnd : (s.waveEnd ctx).inv := by
  unfold State.waveEnd
  split
  · exact h
  split
  · exact h
  refine .ite h (.ite ?_ ?_)
  · split
    · exact (h.foldl fun _ _ k => k.reeveWriteAsk).wait
    · next e => exact (h.putPwords _ e).logEvent.updGraph
  · exact .ite h.updGraph.send (h.updGraph.foldl fun _ _ k => k.activate).checkDone

end

section
/-! `Estimates` -/
variable {s : State} (h : s.inv) {c core ctx draw k lane slot : Nat} {e : EstS} {l : Launch}
include h

theorem State.inv.cancelThread : (s.cancelThread core slot lane).inv := by
  unfold State.cancelThread
  split
  exacts [h, .ite h.startRelease.updLaunch.endThread.clearReply.freeFault h.startRelease.updLaunch.endThread]

theorem State.inv.cutQueued {which : TCB → Bool} : (s.cutQueued ctx k which).inv := by
  unfold State.cutQueued
  split
  exacts [h, h.upd]

theorem State.inv.stopAt : (s.stopAt l e).inv := .checkDone (.sendAll (.ite h.logEvent.updLaunch.cutQueued.cancelSaved h.logEvent.updLaunch.cutQueued))

theorem State.inv.contribution : (s.contribution ctx draw).inv := by
  unfold State.contribution
  split
  · exact h
  · split
    exacts [h, .ite h (.ite h.stopAt h.updLaunch.pokePlaces)]

theorem State.inv.stopArrive : (s.stopArrive ctx c).inv := by
  unfold State.stopArrive
  split
  · exact h
  · split
    · exact h
    · split
      exacts [h, .checkDone (.ite ((h.updLaunch.cutQueued.foldl fun _ _ k => k.cancelThread).cancelSaved) h.updLaunch.cutQueued)]

end

section
/-! `RunCheck` -/
variable {s : State} (h : s.inv) {base core ctx k pc t tenant va world : Nat} {g : Grp} {L : Launch} {pages : List (Nat × Nat × Nat)} {hz : List
  (RLane × List Nat)} {ls : List RLane}
include h

theorem State.inv.fetchBytes : (s.fetchBytes core ctx world tenant va pages).1.inv := by
  refine h.foldlFst fun q p k => ?_
  split
  · extract_lets r
    have hr : r.1.inv := by
      refine .iteFst k ?_
      split
      exacts [.iteFst k.homeRead k.sliceRead, k.sliceRead]
    split
    exacts [hr, hr]
  · exact k

theorem State.inv.fetchPacket : (s.fetchPacket core t ctx world va).1.inv := by
  unfold State.fetchPacket
  dsimp only
  split
  · exact h.xlRange
  · exact h.xlRange
  · exact h.xlRange
  · split
    exacts [h.xlRange.fetchBytes, .iteFst h.xlRange.fetchBytes h.xlRange.fetchBytes]

theorem State.inv.fetchRun : (s.fetchRun core t ctx world base k pc).1.inv := by
  induction k generalizing s pc with
  | zero => exact h
  | succ k ih =>
    unfold State.fetchRun
    extract_lets r q
    split
    · refine .iteFst h.fetchPacket ?_
      split
      exacts [ih h.fetchPacket, ih h.fetchPacket]
    · exact h.fetchPacket

theorem State.inv.debugStops : (s.debugStops core).inv := h.foldl fun _ _ k => k.stopSet

theorem State.inv.tokHaz : (s.tokHaz g hz).inv := (h.foldl fun _ _ k => k.logTenant).foldl fun _ _ k => k.killOps.updThread

theorem State.inv.startGrp : (s.startGrp g).inv := (h.foldl fun _ _ k => .updThread (.ite k.acquire k)).upd

theorem State.inv.issueRun : (s.issueRun L core pc ls).inv := by
  dsimp only [State.issueRun]
  split
  · exact h.bump.fetchRun
  · exact h.bump.fetchRun.takeFaults.waitTrap
  · exact h.bump.fetchRun.poisonTrap
  · split
    exacts [h.bump.fetchRun.coreTrap, .ite h.bump.fetchRun.startGrp h.bump.fetchRun.tokHaz]

theorem State.inv.runStart : (s.runStart core).inv := by
  dsimp only [State.runStart]
  split
  · exact h.debugStops
  · split
    exacts [h.debugStops, h.debugStops.issueRun]

end

section
/-! `Hearths` -/
variable {s : State} (h : s.inv) {cause hearth len n pa raw rd rs1 size tval v : Nat} {imm : Bool} {k : RvCsr} {i : RvInstr}
include h

theorem State.inv.csrPut : (s.csrPut hearth n v).inv := by
  unfold State.csrPut
  split
  exacts [h.putHreqBase, h.putHfltBase, h.putHreqHead, h.putHfltHead, h.updHearth]

theorem State.inv.hearthDone {f : Hearth → Hearth} : (s.hearthDone hearth len f).inv := h.updHearth

theorem State.inv.hearthTrap : (s.hearthTrap hearth cause tval).inv := h.updHearth

/-- The state that an access of a Hearth core leaves. -/
def HMem.st : HMem → State
  | .ok s _ => s
  | .fault s => s
  | .wait s => s

theorem State.inv.hearthRead {code : Bool} : (s.hearthRead hearth pa n code).st.inv := by
  unfold State.hearthRead
  split
  · exact h
  split
  · exact h.readNeed
  dsimp only
  split
  exacts [h.reach.upd, h.reach.updHearth]

theorem State.inv.hearthWrite {bytes : List Byte} : (s.hearthWrite hearth pa bytes).st.inv := by
  unfold State.hearthWrite
  dsimp only
  split
  · exact h
  split
  · exact h.storeNeed
  split
  · exact h.upd
  split
  exacts [h.mscFill.bump.upd.reach.upd, h.mscFill.bump.upd.reach.homeWrite.updHearth]

theorem State.inv.hearthAccess {m : State → HMem} {k : State → Nat → State} (hm : ∀ {t}, t.inv → (m t).st.inv) (hk : ∀ {t v}, t.inv → (k t v).inv) :
    (s.hearthAccess hearth pa size cause m k).inv := by
  refine .ite h.hearthTrap ?_
  have hx := hm h
  generalize m s = x at hx
  cases x with
  | ok t v => exact hk hx
  | fault t => exact hx.hearthTrap
  | wait t => exact hx

theorem State.inv.hearthAmo {new : Nat → Nat} : (s.hearthAmo hearth len size rd pa new).inv := by
  refine h.hearthAccess (fun k => ?_) fun {t v} k => ?_
  · split
    exacts [k.storeNeed, k.hearthRead]
  · have hx := k.hearthWrite (hearth := hearth) (pa := pa) (bytes := leBytes (2 ^ size) (new v))
    generalize t.hearthWrite hearth pa (leBytes (2 ^ size) (new v)) = x at hx
    cases x with
    | ok t v => exact hx.hearthDone
    | fault t => exact hx.hearthTrap
    | wait t => exact hx

theorem State.inv.hearthCsr : (s.hearthCsr hearth len raw k imm rd rs1 n).inv := by
  dsimp only [State.hearthCsr]
  split
  exacts [h.hearthTrap, .ite h.hearthTrap (.ite h.hearthDone.csrPut h.hearthDone)]

theorem State.inv.hearthExec : (s.hearthExec hearth len raw i).inv := by
  dsimp only [State.hearthExec]
  split
  case h_6 => exact h.hearthAccess (fun k => k.hearthRead) (fun k => k.hearthDone)
  case h_7 => exact h.hearthAccess (fun k => k.hearthWrite) (fun k => k.hearthDone)
  case h_12 => exact h.hearthTrap
  case h_13 => exact h.hearthTrap
  case h_14 => exact .ite h.hearthTrap h.hearthDone
  case h_15 => exact .ite h.hearthTrap h.hearthDone
  case h_16 => exact .ite h.hearthTrap h.hearthDone
  case h_17 => exact .ite h.hearthTrap h.hearthDone
  case h_18 => exact h.hearthCsr
  case h_19 => exact h.hearthAccess (fun k => k.hearthRead) (fun k => k.hearthDone)
  case h_20 => exact .ite (h.hearthAccess (fun k => k.hearthWrite) (fun k => k.hearthDone)) (.ite h.hearthTrap h.hearthDone)
  case h_21 => exact h.hearthAmo
  all_goals exact h.hearthDone

theorem State.inv.hearthTake {i : Option RvInstr} : (s.hearthTake hearth len raw i).inv := by
  unfold State.hearthTake
  split
  exacts [h.hearthExec, h.hearthTrap]

theorem State.inv.hearthStep : (s.hearthStep hearth).inv := by
  unfold State.hearthStep
  dsimp only
  refine .ite h ?_
  split
  · exact h.updHearth
  refine .ite h ?_
  have hx := h.hearthRead (hearth := hearth) (pa := (s.hearth hearth).pc) (n := 2) (code := true)
  generalize s.hearthRead hearth (s.hearth hearth).pc 2 true = x at hx
  cases x with
  | wait t => exact hx
  | fault t => exact hx.hearthTrap
  | ok t lo =>
    have ht : (t.updHearth hearth fun c => { c with wfi := false }).inv := hx.updHearth
    refine .ite ht.hearthTake ?_
    have hy := ht.hearthRead (hearth := hearth) (pa := (s.hearth hearth).pc + 2) (n := 2) (code := true)
    generalize State.hearthRead _ hearth ((s.hearth hearth).pc + 2) 2 true = y at hy
    cases y with
    | wait u => exact hy
    | fault u => exact hy.hearthTrap
    | ok u hi => exact hy.hearthTake

theorem State.inv.forward {i : Nat} {k : Nat} : (s.forward hearth i k).inv := .ite h h.upd.devStore.updHearth

end

end Sys2Proof.Machine
end

section
/-! SUPPORT. Memory keeps its canonical form in every instruction and message and in every step. -/

namespace Sys2Proof.Machine

open Sys2Proof

/-- Settles O6: reset writes no memory (log 9). -/
theorem resetHasMemoryForm : Obligations.ResetHasMemoryForm := ⟨rfl, rfl⟩

section
/-! `Routes` -/
variable {s : State} (h : s.inv) {e : Ev} {cs : List Nat}
include h

theorem State.inv.cutContexts : (s.cutContexts cs).inv := h.foldl fun _ _ k => .ite k.endLaunch k.sendAbort

theorem State.inv.crossFail : (s.crossFail e).inv := by
  unfold State.crossFail
  split
  exacts [h.cutContexts.upd.unsend, h.cutContexts]

theorem State.inv.delivered : (s.delivered e).1.inv := by
  unfold State.delivered
  split
  exacts [.iteFst h.crossFail (.iteFst h.sendOver h.sendOver.crossFail), h]

theorem State.inv.noteDue : (s.noteDue).inv :=
  ((((h.upd.foldl fun _ _ k => k.linkFail).upd).foldl fun _ _ k => k.integrity).foldl fun _ _ k => k.sealWr).upd

end

section
/-! The outcomes of the instructions. -/
variable {s : State} (h : s.inv)
include h

theorem State.inv.execAcqx {c : BitVec 1} : Out.inv (execAcqx c s) := by
  refine .next (h.word fun k => .ite k.coreTrap (.advance (k.foldl fun _ _ m => ?_)))
  split
  exacts [.ite m m.updGang, m]

theorem State.inv.execBrk {c : BitVec 1} {g : BitVec 3} : Out.inv (execBrk c g s) := by
  refine .next (h.consume fun k => .ite k.advance (.ite (k.abandon.foldl fun _ _ m => m.stopSet) ?_))
  split
  exacts [k.newFault.waitTrap, k.waitTrap]

theorem State.inv.execPrd {c : BitVec 1} {d : BitVec 7} : Out.inv (execPrd c d s) := by
  dsimp only [Machine.execPrd]
  refine .next ?_
  refine h.word (fun k => ?_)
  split
  exacts [k.coreTrap, k.advance]

theorem State.inv.execThrd {c : BitVec 1} {g : BitVec 3} {d : BitVec 7} {a : BitVec 7} {n : BitVec 4} : Out.inv (execThrd c g d a n s) := by
  refine .next (h.word fun k => .ite k.coreTrap ?_)
  split
  exacts [k.coreTrap, .ite k.coreTrap k.advance]

theorem State.inv.execTalloc {c : BitVec 1} {n : BitVec 4} : Out.inv (execTalloc c n s) := by
  refine .next (h.word fun k => .ite k.coreTrap (.advance (k.foldl fun _ _ m => ?_)))
  split
  exacts [m, .ite m m.upd.updGang]

theorem State.inv.execTq {c : BitVec 1} {g : BitVec 3} {a : BitVec 7} {q : BitVec 3} {l : BitVec 3} : Out.inv (execTq c g a q l s) := by
  refine .next (h.word fun k => ?_)
  extract_lets vs off rec_
  refine .ite k.awaitAq (.ite ?_ (k.consume fun m => ?_))
  · split
    · exact k.advanceDid
    · exact k
    · split
      · exact k
      · refine .ite k.updGrp.maybeParkSlot.rotate (.updGrp ?_)
        exact .ite k.bump.upd.updGang k.bump.upd.updGang.send
  · have hf {g l} := m.fillLanes (g := g) (l := l)
    exact .ite m.coreTrap (.ite m.coreTrap (.ite hf.takeFaults.waitTrap (.ite hf.rotate
      (.ite hf.poisonTrap (.ite hf.coreTrap (.ite hf.coreTrap hf.holdChecked.startAq))))))

theorem State.inv.execEvct {c : BitVec 1} {g : BitVec 3} {b : BitVec 7} {o : BitVec 4} : Out.inv (execEvct c g b o s) := by
  dsimp only [Machine.execEvct]
  refine .next ?_
  refine h.cacheWord (fun k => ?_)
  split
  exacts [.ite k.dropL1.notice k, k]

theorem State.inv.execCpyq {c : BitVec 1} {g : BitVec 3} {a : BitVec 7} {b : BitVec 7} {q : BitVec 3} {l : BitVec 3} : Out.inv (execCpyq c g a b q l s) := by
  refine .next (h.word fun k => .ite k.awaitAq (.ite ?_ (k.consume fun m => .ite m.coreTrap m.startAq)))
  split
  exacts [k.advanceDid, .ite k.rotate k.bump.upd.send.didLane]

theorem State.inv.execFlitReplay : Out.inv (execFlitReplay s) := by
  refine .next ?_
  split
  · split
    · split
      exacts [h.updLink.bridgeIn, h]
    · exact h
  · exact h

theorem State.inv.execBridgeGrant : Out.inv (execBridgeGrant s) := by
  dsimp only [Machine.execBridgeGrant]
  refine .next ?_
  split
  · split
    · exact h
    · split
      · exact h.mscFill.wait
      · split
        · exact .setHalf (.ite (h.mscFill.upd.putBytes.foldl fun _ _ k => k.setPoison) h.mscFill.upd)
        · exact .setHalf (.ite (h.mscFill.upd.putBytes.foldl fun _ _ k => k.setPoison) h.mscFill.upd)
        · exact .ite (h.mscFill.upd.putBytes.foldl fun _ _ k => k.setPoison) h.mscFill.upd
  · exact h

theorem State.inv.execBridgeMscEviction : Out.inv (execBridgeMscEviction s) := by
  refine .next ?_
  split
  · split
    · exact h.wait
    · split
      · exact h
      · refine h.foldl fun _ _ k => ?_
        split
        exacts [k, k.setHalf.toHost, k.setHalf.toHost, k.setHalf.toHost]
  · exact h

theorem State.inv.execHostSnpdata : Out.inv (execHostSnpdata s) := by
  refine .next ?_
  split
  · split
    · exact h
    · split
      · exact h.giveLine
      · split
        exacts [h.setHalf.toHost, h.setHalf.toHost, h.toHost]
  · exact h

theorem State.inv.execBootStart : Out.inv (execBootStart s) := by
  refine .next ?_
  split
  · exact .ite h (.ite h.extend.bootStep.bootFail (.ite h.extend.bootStep.extend.bootStep.upd.after.send h.extend.bootStep.extend.bootStep.upd.after))
  · exact h

theorem State.inv.execBootHeaderFetched : Out.inv (execBootHeaderFetched s) := by
  refine .next ?_
  split
  · split
    · exact h
    · split
      exacts [h.upd.extend.bootStep, h.bootFail]
  · exact h

theorem State.inv.execDoorbellSetTail : Out.inv (execDoorbellSetTail s) := by
  refine .next ?_
  split
  · split
    · exact h.toHost
    · split
      · exact h.badBell
      · split
        exacts [h.badBell, .ite h.badBell h.putQueue.pokeReeve]
  · exact h

theorem State.inv.execDoorbellOpen : Out.inv (execDoorbellOpen s) := by
  refine .next ?_
  split
  · refine .ite h.toHost ?_
    split
    · exact h.badBell
    refine .ite h.badBell ?_
    extract_lets place r d s0
    have hr : r.1.inv := .iteFst h.readOver h.readNeed
    exact .ite hr.wait (.ite hr.noteRead.badBell hr.noteRead.upd.syncQueue.pokeReeve)
  · exact h

theorem State.inv.execDoorbellClose : Out.inv (execDoorbellClose s) := by
  refine .next ?_
  split
  · split
    · exact h.toHost
    · split
      · exact h.badBell
      · split
        exacts [h.badBell, h.upd.syncQueue]
  · exact h

theorem State.inv.execLaunchComplete : Out.inv (execLaunchComplete s) := by
  refine .next ?_
  split
  · split
    · exact h
    · split
      · exact h
      · split
        · exact .ite h h.send
        · split
          · exact h.clearUp.later
          · split
            · exact h.startRels.later
            · split
              · exact h.clearUp.later
              · split
                · rename_i u e
                  have k := h.finish u e
                  exact k
                · exact h.askFinish.later
  · exact h

theorem State.inv.execHeartbeatRequest : Out.inv (execHeartbeatRequest s) := by
  refine .next ?_
  split
  · split
    · split
      exacts [.ite h h.upd.watchHeart, h]
    · exact h
  · exact h

theorem State.inv.execHeartbeatTimeout : Out.inv (execHeartbeatTimeout s) := by
  refine .next ?_
  split
  · split
    · split
      exacts [.ite h (.ite h.killQueues.setTState.abortWorlds.zeroiseSlots.upd.endSession.pokeReeve h.upd), h]
    · exact h
  · exact h

theorem State.inv.execKeyInstall : Out.inv (execKeyInstall s) := by
  refine .next ?_
  split
  · split
    · exact h
    · split
      · exact h.toHost
      · split
        exacts [h.toHost, h.setSlot.toHost]
  · exact h

theorem State.inv.execKeyRemove : Out.inv (execKeyRemove s) := by
  refine .next ?_
  split
  · split
    exacts [h, .ite h.toHost (.toHost (.ite h h.setSlot))]
  · exact h

theorem State.inv.execWorldRetire : Out.inv (execWorldRetire s) := by
  refine .next ?_
  split
  · split
    · exact h
    split
    · exact h
    split
    · exact h
    refine .ite h (.ite h.updWorld.releaseLanes.later (.ite h.clearUp.later (.ite h.later (.ite h.sealAll.later ?_))))
    exact .ite h.materialiseWorld.later (.ite h.startRels.later h.updWorld.send)
  · exact h

theorem State.inv.execWorldScrubComplete : Out.inv (execWorldScrubComplete s) := by
  dsimp only [Machine.execWorldScrubComplete]
  refine .next ?_
  split
  · split
    · exact h
    · split
      · exact h
      · split
        · exact h.upd
        · split
          · rename_i u e
            have k := h.scrub.finish u e
            exact k.upd.dropUser.retryHeld.pokePlaces
          · exact h.scrub.askFinish.later
  · exact h

theorem State.inv.execTdispLeaveRun : Out.inv (execTdispLeaveRun s) := by
  refine .next ?_
  split
  · split
    · exact h
    · split
      exacts [h.upd, h.upd.upd.logEvent.poisonReads.logEvent.abortWorlds]
  · exact h

theorem State.inv.execReleaseComplete : Out.inv (execReleaseComplete s) := by
  refine .next ?_
  split
  · split
    exacts [.ite h.releaseComplete.freeSlot h.releaseComplete, h.releaseComplete]
  · exact h

theorem State.inv.execFreplyRetry : Out.inv (execFreplyRetry s) := by
  refine .next ?_
  split
  · split
    exacts [.ite h.retry h.badReply, h.retry]
  · exact h

theorem State.inv.execTcbPlace : Out.inv (execTcbPlace s) := by
  refine .next ?_
  split
  · split
    · exact h
    split
    · exact h
    refine .ite h ?_
    split
    · next e => exact (h.placeAll _ e).cutMore.pokeThieves
    · exact h
  · exact h

theorem State.inv.execStealServe : Out.inv (execStealServe s) := by
  refine .next ?_
  split
  · split
    exacts [h, .ite h.wait (.ite h.askNext ((h.upd.foldl fun _ _ k => k.enqueue).pokePlaces))]
  · exact h

theorem State.inv.execPreemptTimer : Out.inv (execPreemptTimer s) := by
  refine .next ?_
  split
  · split
    · exact h
    · split
      · exact h
      · split
        · exact h.after
        · split
          exacts [h.after.startPreempt, h.after]
  · exact h

theorem State.inv.execPreemptSave : Out.inv (execPreemptSave s) := by
  refine .next ?_
  split
  · extract_lets again _ s1 q
    have h1 : s1.inv := h.foldl fun _ _ k => k.stopWaiters
    exact .ite h.upd (.ite h1.setSaving.wait (.ite h1.setSaving.quiesce.saveGroup h1.setSaving.quiesce.wait))
  · exact h

theorem State.inv.execGroupRestore : Out.inv (execGroupRestore s) := by
  refine .next ?_
  split
  · dsimp only
    split
    · exact h
    split
    · split
      · exact h
      · have h0 {xs : List Saved} : (xs.foldl (fun (s : State) x => (x.block :: x.tblocks).foldl (fun s b => s.checkAs x.world b 32768) s) s).inv :=
          h.foldl fun _ _ k => k.foldl fun _ _ m => m.checkAs
        refine .pokePlaces (.send (.foldl (.foldl ?_ fun _ _ k => k.retry) fun _ _ k => k.foldl fun _ _ m => m.tryReply))
        exact (h0.foldl fun _ _ k => k.seat.upd).upd.updTcb.takeWays.updLaunch
    · exact h
  · exact h

theorem State.inv.execRebalanceTimer : Out.inv (execRebalanceTimer s) := by
  refine .next ?_
  split
  · split
    · exact h
    · split
      exacts [h, .ite h ((h.foldl fun _ _ k => k.rebalanceOne).after)]
  · exact h

theorem State.inv.execGstepWrite : Out.inv (execGstepWrite s) := by
  dsimp only [Machine.execGstepWrite]
  refine .next ?_
  split
  · split
    exacts [h.badReply, .ite h.badReply (.ite h.updGraph.cancel.send (.ite h.badReply h.updGraph.after))]
  · exact h

theorem State.inv.execGstepWaveTimer : Out.inv (execGstepWaveTimer s) := by
  refine .next ?_
  split
  · split
    exacts [h, .ite ((h.updGraph.foldl fun _ _ k => k.activate).checkDone) h]
  · exact h

theorem State.inv.execSvcheadWrite : Out.inv (execSvcheadWrite s) := by
  refine .next ?_
  split
  · split
    · exact h.toHost
    · split
      exacts [h.upd.wakeSaved, h]
  · exact h

theorem State.inv.execSvrgo : Out.inv (execSvrgo s) := by
  refine .next ?_
  split
  · split
    · exact h.toHost
    · split
      exacts [.ite h.acceptReply h.badReply, h.badReply]
  · exact h

theorem State.inv.execNbDetach : Out.inv (execNbDetach s) := by
  refine .next ?_
  split
  · refine h.nbCommand (fun k => ?_)
    refine .nbStatus ?_
    refine .upd ?_
    split
    exacts [k.foldl fun _ _ m => m.resumeGang, k]
  · exact h

theorem State.inv.execSpdmKeyExchange : Out.inv (execSpdmKeyExchange s) := by
  refine .next ?_
  split
  · split
    exacts [h.upd.watchHeart.toHost, h]
  · exact h

/-- Every instruction and message keeps the form of memory. -/
theorem State.inv.exec : ∀ i, Out.inv (exec i s)
  | .nop .. => .next (h.word (fun k => k.advance))
  | .endRun .. => .next (h.word (fun k => k.trailerStep))
  | .bra .. => .next h.branchWord
  | .call .. => .next h.branchWord
  | .brx .. => .next h.branchWord
  | .exit .. => .next (h.consume (fun k => k.advance))
  | .ret .. => .next h.branchWord
  | .acqx c => h.execAcqx (c := c)
  | .relx .. => .next (h.word (fun k => k.advance))
  | .brk c .. => h.execBrk (c := c)
  | .join .. => .next (h.consume (fun k => k.advance))
  | .svc .. => .next (h.ringWord (fun k => k.svcPut) (fun k => k.svcAsk))
  | .bar .. => .next (h.consume (fun k => k.advance))
  | .waitAny .. => .next h.waitWord
  | .waitAll .. => .next h.waitWord
  | .arm .. => .next (h.consume (fun k => .ite (k.spadCheck (fun m => m.advance)) k.watchTrap))
  | .fenceAcq .. => .next h.fenceWord
  | .fenceRel .. => .next h.fenceWord
  | .fenceAr .. => .next h.fenceWord
  | .phase .. => .next h.fenceWord
  | .emit .. => .next (h.ringWord (fun k => k.emitPut) (fun k => k.emitAsk))
  | .post .. => .next (h.consume (fun k => k.advance))
  | .eacc .. => .next (h.consume (fun k => k.advance))
  | .kext .. => .next (h.word (fun k => k.updGrp))
  | .iadd .. => .next h.int2
  | .isub .. => .next h.int2
  | .imul .. => .next h.int2
  | .imad .. => .next h.log3
  | .imulhS32 .. => .next h.int2
  | .imulhN32 .. => .next h.int2
  | .idivS32 .. => .next h.log2
  | .idivN32 .. => .next h.log2
  | .iremS32 .. => .next h.log2
  | .iremN32 .. => .next h.log2
  | .iminS32 .. => .next h.int2
  | .iminN32 .. => .next h.int2
  | .imaxS32 .. => .next h.int2
  | .imaxN32 .. => .next h.int2
  | .movi .. => .next (h.word (fun k => k.lanewise'))
  | .mov .. => .next h.int1
  | .iabs .. => .next h.int1
  | .ineg .. => .next h.int1
  | .popc .. => .next h.int1
  | .clz .. => .next h.int1
  | .ctz .. => .next h.int1
  | .brev .. => .next h.int1
  | .andW .. => .next h.int2
  | .orW .. => .next h.int2
  | .xor .. => .next h.int2
  | .andn .. => .next h.int2
  | .shl .. => .next h.int2
  | .shr .. => .next h.int2
  | .sar .. => .next h.int2
  | .rotl .. => .next h.int2
  | .bfxN32 .. => .next h.int2
  | .bfxS32 .. => .next h.int2
  | .bfi .. => .next h.log3
  | .sel .. => .next h.lanewise
  | .icmp .. => .next h.predWord
  | .fcmp .. => .next h.predWord
  | .ppop .. => .next h.predWord
  | .pdup .. => .next h.predWord
  | .pswp .. => .next h.predWord
  | .pand .. => .next h.predWord
  | .por .. => .next h.predWord
  | .pxor .. => .next h.predWord
  | .prd c .. => h.execPrd (c := c)
  | .pwr .. => .next h.predWord
  | .srd .. => .next (h.word (fun k => k.lanewise.updGrp))
  | .swr .. => .next (h.consume (fun k => .ite k.coreTrap k.advance))
  | .fadd .. => .next h.log2
  | .fsub .. => .next h.log2
  | .fmul .. => .next h.log2
  | .fma .. => .next h.log3
  | .fmin .. => .next h.log2
  | .fmax .. => .next h.log2
  | .fscl .. => .next h.log2
  | .frcp .. => .next h.funWord
  | .frsq .. => .next h.funWord
  | .fsqrt .. => .next h.funWord
  | .fex2 .. => .next h.funWord
  | .flg2 .. => .next h.funWord
  | .fsin .. => .next h.funWord
  | .fcos .. => .next h.funWord
  | .fcls .. => .next h.funWord
  | .cvtS32F32 .. => .next h.log1
  | .cvtN32F32 .. => .next h.log1
  | .cvtF32S32 .. => .next h.log1
  | .cvtF32N32 .. => .next h.log1
  | .cvti .. => .next h.log1
  | .pack .. => .next (h.word (fun k => k.lanewise))
  | .unpk .. => .next (h.word (fun k => k.int1))
  | .shfl .. => .next h.tokWord
  | .vote .. => .next h.crossWord
  | .redx .. => .next h.foldWord
  | .scan .. => .next h.foldWord
  | .matchW .. => .next h.tokWord
  | .matchF .. => .next h.tokWord
  | .qual .. => .next (h.word (fun k => k.updGrp))
  | .trd .. => .next (h.loading (fun k => .ite k.coreTrap (.ite k.rotate k.nameToken.advance)))
  | .thrd c .. => h.execThrd (c := c)
  | .thwr .. => .next (h.consume (fun k => .ite k.coreTrap k.advance))
  | .scrd .. => .next (h.word (fun k => k.lanewise))
  | .scwr .. => .next (h.consume (fun k => k.advance))
  | .talloc c .. => h.execTalloc (c := c)
  | .tfree .. => .next (h.consume (fun k => k.advance))
  | .twr .. => .next (h.consume (fun k => .ite k.coreTrap (.ite k.rotate k.advance)))
  | .tq c .. => h.execTq (c := c)
  | .paddB4 .. => .next h.int2
  | .psubB4 .. => .next h.int2
  | .pmulB4 .. => .next h.int2
  | .pminB4 .. => .next h.int2
  | .pmaxB4 .. => .next h.int2
  | .pshlB4 .. => .next h.int2
  | .pshrB4 .. => .next h.int2
  | .psarB4 .. => .next h.int2
  | .paddH2 .. => .next h.int2
  | .psubH2 .. => .next h.int2
  | .pmulH2 .. => .next h.int2
  | .pminH2 .. => .next h.int2
  | .pmaxH2 .. => .next h.int2
  | .pshlH2 .. => .next h.int2
  | .pshrH2 .. => .next h.int2
  | .psarH2 .. => .next h.int2
  | .ld8 .. => .next h.loadWord
  | .ld8s .. => .next h.loadWord
  | .ld16 .. => .next h.loadWord
  | .ld16s .. => .next h.loadWord
  | .ld32 .. => .next h.loadWord
  | .ld64 .. => .next h.loadWord
  | .ld128 .. => .next h.loadWord
  | .pref .. => .next (h.cacheWord (fun k => .ite k k.send))
  | .prefL2 .. => .next (h.cacheWord (fun k => .iteFst k k.sliceFill))
  | .evct c .. => h.execEvct (c := c)
  | .evctL2 .. => .next (h.cacheWord (fun k => .ite k.send k))
  | .st8 .. => .next h.storeWord
  | .st16 .. => .next h.storeWord
  | .st32 .. => .next h.storeWord
  | .st64 .. => .next h.storeWord
  | .st128 .. => .next h.storeWord
  | .atom .. => .next h.atomWord
  | .cas .. => .next h.atomWord
  | .red .. => .next h.atomWord
  | .lds8 .. => .next h.ldsWord
  | .lds16 .. => .next h.ldsWord
  | .lds32 .. => .next h.ldsWord
  | .lds64 .. => .next h.ldsWord
  | .lds128 .. => .next h.ldsWord
  | .sts8 .. => .next h.stsWord
  | .sts16 .. => .next h.stsWord
  | .sts32 .. => .next h.stsWord
  | .sts64 .. => .next h.stsWord
  | .sts128 .. => .next h.stsWord
  | .copy .. => .next h.engineWord
  | .rlay .. => .next h.engineWord
  | .matl .. => .next h.engineWord
  | .gath .. => .next h.engineWord
  | .scat .. => .next h.engineWord
  | .scatAcc .. => .next h.engineWord
  | .coll .. => .next h.engineWord
  | .cpyq c .. => h.execCpyq (c := c)
  | .packageReset => .next (by split; exacts [.ite h.upd.toReset (.ite h.upd.boot h), h])
  | .railOutOfLimits => .next (by split; exacts [h.railOut, h])
  | .railSettledTimer => .next (by split; exacts [.ite h.upd.boot h, h])
  | .islandWrite => .next (by split; exacts [h.islandWrite, h])
  | .islandChangeComplete => .next (by split; exacts [h.upd, h])
  | .tcolSample => .next (by split; exacts [h.tcolSample.nextSample, h])
  | .thermalThrottle => .next (by split; exacts [.ite h.setThrottle h, h])
  | .tcolHotClear => .next (by split; exacts [.ite h.upd h, h])
  | .flitSend => .next (by split; exacts [h.flitSend, h])
  | .flitReceive => .next (by split; exacts [h.flitReceive, h])
  | .flitReplay => h.execFlitReplay
  | .keyUpdateStart => .next (by split; exacts [.ite h.updEnds h, h])
  | .keyExpire => .next (by split; exacts [.ite (.ite h.setLink h) h.linkErr, h])
  | .linkPeerDetected => .next (by split; exacts [.ite h.setLink.after h.linkErr, h])
  | .linkTrainingComplete => .next (by split; exacts [.ite h.cancel.setLink.after h.linkErr, h])
  | .linkTrainingTimeout => .next (by split; exacts [.ite h.cancel.setLink.linkDown h.linkErr, h])
  | .linkSessionEstablished => .next (by split; exacts [.ite h.cancel.updEnds.updLink h.linkErr, h])
  | .linkKeyingFail => .next (by split; exacts [.ite h.cancel.setLink.linkDown h.linkErr, h])
  | .linkKeyingTimeout => .next (by split; exacts [.ite h.cancel.setLink.linkDown h.linkErr, h])
  | .linkSessionAttemptFail => .next (by split; exacts [.ite h.cancel.linkDown.after h.linkErr, h])
  | .linkRetryTimer => .next (by split; exacts [h.cancel, h])
  | .keyUpdateComplete => .next (by split; exacts [.ite (.ite h.land.wait h.land.updEnds) h.land.linkErr, h])
  | .linkSessionExpire => .next (by split; exacts [.ite h.setLink h.linkErr, h])
  | .linkDrainComplete => .next (by split; exacts [.ite (.ite h.wait h.setLink) h.linkErr, h])
  | .linkPortReset => .next (by split; exacts [h.cancel.updEnds, h])
  | .hostLinkTrainingComplete => .next (by split; exacts [.ite h.upd.send h.upd, h])
  | .hdmbaseWrite => .next (by split; exacts [.ite h.upd h, h])
  | .hdmsizeWrite => .next (by split; exacts [.ite h.upd h, h])
  | .cxlmemRequest => .next (by split; exacts [h.memRequest, h])
  | .registerWrite => .next (by split; exacts [h.windowWrite, h])
  | .hartidWrite => .next (by split; exacts [.ite h h.upd, h])
  | .bridgePackageRead => .next (by split; exacts [.ite h.bridgeAsk h, h])
  | .bridgePackageStore => .next (by split; exacts [.ite h (.ite (.ite h.bridgeAsk h) (.devStoreLine (.ite h.bridgeAsk h))), h])
  | .bridgeGrant => h.execBridgeGrant
  | .bridgeMscEviction => h.execBridgeMscEviction
  | .hostSnpinv => .next (by split; exacts [.ite h (.ite h.toHost.intErr (.ite h.purge.wait (.toHost (.ite h.setHalf.upd h.setHalf)))), h])
  | .hostSnpdata => h.execHostSnpdata
  | .hostSnpcur => .next (by split; exacts [.ite h (.ite h.giveLine h.toHost), h])
  | .tenantModesWrite => .next (by split; exacts [.ite h.toHost h.setTrec, h])
  | .tenantSetOn => .next (by split; exacts [.ite h (.ite h.setTState h.logEvent), h])
  | .tenantSetOff => .next (by split; exacts [.ite h h.setTState, h])
  | .tenantRecordWrite => .next (by split; exacts [.ite h h.setTrec, h])
  | .hreqbaseWrite => .next (by split; exacts [h.putHreqBase, h])
  | .hfltbaseWrite => .next (by split; exacts [h.putHfltBase, h])
  | .hreqheadWrite => .next (by split; exacts [.ite h h.putHreqHead, h])
  | .hfltheadWrite => .next (by split; exacts [.ite h h.putHfltHead, h])
  | .hearthRestart => .next (by split; exacts [.ite h (h.updHearth.foldl fun _ _ k => .ite k.acceptReply k), h])
  | .bootStart => h.execBootStart
  | .bootCxlReady => .next (by split; exacts [.ite h.upd.cancel.bootStep h, h])
  | .bootCxlTimeout => .next (by split; exacts [.ite h.bootFail h, h])
  | .bootHeaderFetched => h.execBootHeaderFetched
  | .bootBodyFetched => .next (by split; exacts [.ite h (.ite h.loadImage.bootFail h.loadImage.extend.bootStep.upd.bootStep), h])
  | .measExtend => .next (by split; exacts [.ite h h.extend, h])
  | .firmwareReady => .next (by split; exacts [.ite h.upd.bootStep h, h])
  | .imageLineUe => .next (by split; exacts [.ite h.upd h, h])
  | .recoveryReloadComplete => .next (by split; exacts [.ite h (.ite h.loadImage.upd h.upd), h])
  | .doorbellSetTail => h.execDoorbellSetTail
  | .doorbellOpen => h.execDoorbellOpen
  | .doorbellClose => h.execDoorbellClose
  | .doorbellCmd3 => .next (by split; exacts [.ite h.toHost (.ite h h.badBell), h])
  | .launchRecord => .next (by split; exacts [h.readRecord (fun k => .ite k.pokeReeve (.ite k.urge k.launchRecord)), h])
  | .controlRecord => .next (by split; exacts [h.readRecord (fun k => .ite k.controlRecord k.launchRecord), h])
  | .queueHeadRetry => .next (by split; exacts [.ite (h.readRecord (fun k => k.launchRecord)) h.pokeReeve, h])
  | .launchComplete => h.execLaunchComplete
  | .heartbeatRequest => h.execHeartbeatRequest
  | .heartbeatTimeout => h.execHeartbeatTimeout
  | .keyInstall => h.execKeyInstall
  | .keyRemove => h.execKeyRemove
  | .worldRetire => h.execWorldRetire
  | .worldScrubComplete => h.execWorldScrubComplete
  | .worldAbort => .next (by split; exacts [h.worldAbort, h])
  | .tdispLeaveRun => h.execTdispLeaveRun
  | .l1FillReturn => .next (by split; exacts [h.fillReturn, h])
  | .l1Update => .next (by split; exacts [h.l1Update, h])
  | .l1Invalidation => .next (by split; exacts [h.l1Invalidation, h])
  | .dirReadMiss => .next (by split; exacts [h.readMiss, h])
  | .dirStore => .next (by split; exacts [h.dirStore, h])
  | .dirAck => .next (by split; exacts [h.dirAck, h])
  | .dirEvictionNotice => .next (by split; exacts [h.evictionNotice, h])
  | .l2Victim => .next (by split; exacts [h.l2Victim, h])
  | .homeStore => .next (by split; exacts [h.homeStore, h])
  | .l2HomeUpdate => .next (by split; exacts [h.l2HomeUpdate, h])
  | .homeAck => .next (by split; exacts [h.homeAck, h])
  | .storeAck => .next (by split; exacts [h.storeAck, h])
  | .mscVictim => .next (by split; exacts [h.mscVictim, h])
  | .worldLineHandover => .next (by split; exacts [h.handOver, h])
  | .storeEntryDrainComplete => .next (by split; exacts [h.entryDrained, h])
  | .releaseComplete => h.execReleaseComplete
  | .softError => .next (by split; exacts [h.softError, h])
  | .patrolScrub => .next h.after
  | .hsctlWrite => .next (by split; exacts [.ite h.upd.upd h.upd, h])
  | .aliasRecord => .next (by split; exacts [h.aliasRecord, h])
  | .aliasResolve => .next (by split; exacts [h.aliasResolve, h])
  | .aliasResolveReply => .next (by split; exacts [h.resolveReply, h])
  | .mark => .next (by split; exacts [h.markGranule, h])
  | .marked => .next (by split; exacts [h.markedReply, h])
  | .holdRelease => .next (by split; exacts [h.releaseHold, h])
  | .srcw => .next (by split; exacts [h.srcMaterialise.send, h])
  | .srcack => .next (by split; exacts [h.srcAck, h])
  | .hotMaterialise => .next (by split; exacts [h.hotOne, h])
  | .catctlWrite => .next (by split; exacts [h.upd, h])
  | .pageWalkComplete => .next (by split; exacts [h.pageWalk, h])
  | .faultEntryWaitFree => .next (by split; exacts [h.entryFreed.feedFaults.wakeSaved, h])
  | .freplyRetry => h.execFreplyRetry
  | .freplyKill => .next (by split; exacts [.ite h.endLaunch h.badReply, h])
  | .atsTranslationCompletion => .next (by split; exacts [h.atsComplete, h])
  | .prgResponse => .next (by split; exacts [h.prgResponse, h])
  | .atsInvalidationRequest => .next (by split; exacts [h.startInval, h])
  | .shootdownStart => .next (by split; exacts [.ite h.logEvent h.upd.startInval, h])
  | .shootdownDrainComplete => .next (by split; exacts [h.invalStep, h])
  | .dtinvWrite => .next (by split; exacts [.ite h (.ite (.ite h.upd h.wait) h.startInval), h])
  | .regionWriteback => .next (by split; exacts [h.writeBack, h])
  | .tcbPlace => h.execTcbPlace
  | .tcbBind => .next (by split; exacts [.ite h.scan.send.pokePlaces (.ite h.scan.send h.scan), h])
  | .stealRequest => .next (by split; exacts [.ite h.askNext h, h])
  | .stealServe => h.execStealServe
  | .stealRetryTimer => .next (by split; exacts [.ite h.send h, h])
  | .preemptTimer => h.execPreemptTimer
  | .preemptSave => h.execPreemptSave
  | .groupRestore => h.execGroupRestore
  | .gangPark => .next (by split; exacts [.ite h (.ite h.setSaving (.ite h.setSaving.quiesce.parkStop.saveGroup h.setSaving.quiesce.wait)), h])
  | .runStart => .next (by split; exacts [h.runStart, h])
  | .tokenComplete => .next (by split; exacts [h.tokenComplete, h])
  | .atomicReturn => .next (by split; exacts [h.atomicReturn, h])
  | .watchdogExpire => .next (by split; exacts [h.watchdog, h])
  | .arrivalDelivery => .next (by split; exacts [h.arrive, h])
  | .waitTimeout => .next (by split; exacts [h.waitTimedOut, h])
  | .graphGangForm => .next (by split; exacts [h.formGang, h])
  | .partialGangTimer => .next (by split; exacts [.ite h h.formGang, h])
  | .rebalanceTimer => h.execRebalanceTimer
  | .waveEnd => .next (by split; exacts [h.waveEnd, h])
  | .gstepWrite => h.execGstepWrite
  | .gstepWaveTimer => h.execGstepWaveTimer
  | .contributionArrive => .next (by split; exacts [h.contribution, h])
  | .stopArrive => .next (by split; exacts [h.stopArrive, h])
  | .estselWrite => .next (by split; exacts [h.upd, h])
  | .svcReply => .next (by split; exacts [.ite h.acceptReply h, h])
  | .anvilStep => .next (by split; exacts [h.anvil, h])
  | .tileTaskComplete => .next (by split; exacts [h.taskComplete, h])
  | .engineCommandComplete => .next (by split; exacts [h.cmdStep, h])
  | .cpyqEntryStart => .next (by split; exacts [h.listStart, h])
  | .collMatch => .next (by split; exacts [h.collMatch, h])
  | .collComplete => .next (by split; exacts [h.collStep, h])
  | .svcringWrite => .next (by split; exacts [.ite h (.ite h.upd.upd h.upd), h])
  | .svcheadWrite => h.execSvcheadWrite
  | .svrplyWrite => .next (by split; exacts [.ite h.toHost (.ite h.upd h.badReply), h])
  | .svrgo => h.execSvrgo
  | .placepinWrite => .next (by split; exacts [h.upd, h])
  | .nbctlWrite => .next (by split; exacts [.ite h (.ite h.upd.upd.devStore.devStore h.upd), h])
  | .nbAttach => .next (by split; exacts [h.nbCommand (fun k => k.upd.nbStatus), h])
  | .nbSetbp => .next (by split; exacts [h.nbCommand (fun k => k.upd), h])
  | .nbClrbp => .next (by split; exacts [h.nbCommand (fun k => k.upd), h])
  | .nbSetwp => .next (by split; exacts [h.nbCommand (fun k => k.upd), h])
  | .nbClrwp => .next (by split; exacts [h.nbCommand (fun k => k.upd), h])
  | .nbHalt => .next (by split; exacts [h.nbCommand (fun k => k.upd), h])
  | .nbStep => .next (by split; exacts [h.nbCommand (fun k => .ite k.noStep.upd.letGo.upd k.noStep.upd.nbRecord), h])
  | .nbResume => .next (by split; exacts [h.nbCommand (fun k => k.resumeGang), h])
  | .nbDetach => h.execNbDetach
  | .nbBadcmd => .next (by split; exacts [h.nbCommand (fun k => k), h])
  | .tdispEnterRun => .next (by split; exacts [h.upd, h])
  | .spdmKeyExchange => h.execSpdmKeyExchange
  | .hdmDecoderCommit => .next (by split; exacts [h.upd, h])

end

section
/-! `Step` -/
variable {s : State} (h : s.inv) {n : Nat} {e : Ev} {cs : List Nat} {m : Move} {o : Out}
include h

theorem State.inv.happen : Out.inv (s.happen e) := .ite (h.upd.exec _) (.next h)

theorem State.inv.issueNext : Out.inv (s.issueNext) := by
  unfold State.issueNext
  split
  · exact .next h
  · split
    exacts [h.upd.exec _, .next h.dropGrp]

theorem State.inv.toFront : (s.toFront n).inv := by
  unfold State.toFront
  split
  exacts [h.upd, h]

omit h in
theorem Out.inv.keepPlace {o : Out} (ho : Out.inv o) : Out.inv (keepPlace n e o) := by
  cases o with
  | next t => exact .next (.ite (ho t rfl).upd (ho t rfl))
  | fault f => exact .fault
  | refused r => exact .refused

theorem State.inv.make : Out.inv (s.make m) := by
  unfold State.make
  split
  · split
    exacts [h.upd.happen, .next h]
  · split
    exacts [.ite h.upd.delivered.happen (.next h.upd.delivered), .next h]
  · split
    exacts [h.upd.happen.keepPlace, .next h]
  · exact h.happen
  · exact h.toFront.issueNext
  · exact .next h.hearthStep
  · exact .next h.forward
  · exact .next h

theorem State.inv.endCut {e : Option Ev} : (s.endCut e cs).inv := by
  unfold State.endCut
  split
  · split
    exacts [.ite h.upd.unsend.crossFail.cutContexts h.upd.cutContexts, h.upd.cutContexts]
  · exact h

theorem State.inv.tick : (s.tick).inv := h.upd

theorem State.inv.settle : (s.settle).inv := h.upd.noteDue.ringDrain.nbSettle.tick

omit h in
theorem Out.inv.closeStep {o : Out} {e : Option Ev} {cs : List Nat} (ho : Out.inv o) : Out.inv (closeStep e cs o) := by
  cases o with
  | next t =>
    unfold Machine.closeStep
    dsimp only
    split
    exacts [.fault, .next (ho t rfl).endCut.settle]
  | fault f => exact .fault
  | refused r => exact .refused

theorem State.inv.step : Out.inv (step s) := .closeStep h.upd.make

end

/-- Settles O5: memory is written by `Memory.putAll` and `Memory.patch` alone, which keep its form, and a step is made of such writes and of writes of other parts
of the state. -/
theorem stepKeepsMemoryForm : Obligations.StepKeepsMemoryForm :=
  fun _ _ h e => h.step _ e

end Sys2Proof.Machine
end

section
/-! SUPPORT. The L1's table (R99, R155, R156): what a fill, an update and an invalidation come to, by what the L1 holds of the line. -/

namespace Sys2Proof.Machine

open Sys2Proof

section
variable {s : State} {c line tag cp n : Nat} {data : List Byte} {pois : List Nat}

/-! ## Fills -/

/-- A token has a lane that waits for a line of a core. -/
def State.Awaited (s : State) (c line tag : Nat) (k : Token) : Prop := k.core = c ∧ ∃ l ∈ k.lanes, l.vals = none ∧ l.pa / 128 = line ∧ s.slotWorld c l.slot = tag

theorem State.awaits_iff (l : TLane) : s.awaits c line tag l = true ↔ l.vals = none ∧ l.pa / 128 = line ∧ s.slotWorld c l.slot = tag := by
  simp [State.awaits, lineOf, and_assoc]

theorem State.awaited_iff (k : Token) : (k.core == c && k.lanes.any (s.awaits c line tag)) = true ↔ s.Awaited c line tag k := by
  simp [State.Awaited, State.awaits_iff]

/-- Where no token waits for the line, there is none to feed. -/
theorem State.feedTokens_of_none {keep : Bool} (h : ∀ k ∈ s.core.toks, ¬ s.Awaited c line tag k) : s.feedTokens c line tag keep data pois = s := by
  have none : s.core.toks.filter (fun t => t.core == c && t.lanes.any (fun l => s.awaits c line tag l)) = [] :=
    List.filter_eq_nil_iff.mpr fun k hk => (State.awaited_iff k).not.mpr (h k hk)
  rw [State.feedTokens, none]
  rfl

/-- The only lane of the only token, waiting for the line, gets its registers, and the token is complete. -/
theorem State.feedTokens_singleton {k : Token} {l : TLane} (ht : s.core.toks = [k]) (hl : k.lanes = [l]) (hc : k.core = c) (hw : s.awaits c line tag l = true) :
    s.feedTokens c line tag false data pois =
      { s with core.toks := [{ k with lanes := [{ l with vals := some (lineRegs k.size k.sx l.fmt (l.pa % 128) l.own data (pois ++ l.lost)) }] }] }.send (.tokenComplete k.id) := by
  have waits : (k.core == c && k.lanes.any (fun l => s.awaits c line tag l)) = true := by simp [hl, hc, hw]
  have one : s.core.toks.filter (fun t => t.core == c && t.lanes.any (fun l => s.awaits c line tag l)) = [k] := by
    rw [ht]
    exact List.filter_cons_of_pos waits
  rw [State.feedTokens, one]
  simp [ht, hl, hw, State.updTok]

/-- An L1 with room in the line's set evicts nothing for it. -/
theorem State.installL1_of_room (h : (s.coh.l1.filter (fun l => l.core == c && l.line % 128 == line % 128 && l.line != line)).length < 8) :
    s.installL1 c line tag cp data pois = { s.dropL1 c line with
      coh.l1 := (let v : L1Line := { core := c, line := line, frozen := false, rd := 0, data := data, pois := pois, queue := [], recNo := 0, wtag := tag }
        let rest := s.coh.l1.filter (fun l => !(l.core == c && l.line == line))
        if cp = 1 ∨ cp = 2 then v :: rest else rest ++ [v]) } := by
  have set : ((s.dropL1 c line).coh.l1.filter (fun l => l.core == c && l.line % 128 == line % 128)) =
      s.coh.l1.filter (fun l => l.core == c && l.line % 128 == line % 128 && l.line != line) := by
    simp only [State.dropL1, State.endFwd, List.filter_filter]
    refine List.filter_congr fun l _ => ?_
    cases l.core == c <;> simp [bne]
  have room : (s.dropL1 c line).roomL1 c line = s.dropL1 c line := by rw [State.roomL1, set, if_pos h]
  rw [State.installL1, room]
  rfl

/-- A line that comes to an L1 with room for it, and for which no token waits. -/
theorem State.fillReturn_of_room (free : ∀ k ∈ s.core.toks, ¬ s.Awaited c line tag k)
    (room : (s.coh.l1.filter (fun l => l.core == c && l.line % 128 == line % 128 && l.line != line)).length < 8) :
    s.fillReturn c line tag cp true data pois = { s.dropL1 c line with
      coh.l1 := (let v : L1Line := { core := c, line := line, frozen := false, rd := 0, data := data, pois := pois, queue := [], recNo := 0, wtag := tag }
        let rest := s.coh.l1.filter (fun l => !(l.core == c && l.line == line))
        if cp = 1 ∨ cp = 2 then v :: rest else rest ++ [v]) } := by
  rw [State.fillReturn, if_pos rfl, State.installL1_of_room room]
  exact State.feedTokens_of_none free

theorem gives_l1FillReturn {keep : Bool} {f : State → State}
    (h : (s.hears (.l1FillReturn c line tag cp keep data pois)).fillReturn c line tag cp keep data pois = f (s.hears (.l1FillReturn c line tag cp keep data pois))) :
    Gives .l1FillReturn (.l1FillReturn c line tag cp keep data pois) s f := ⟨rfl, congrArg Host.Outcome.next h⟩

/-! ## Updates -/

theorem gives_l1Update {f : State → State} (h : (s.hears (.l1Update c n)).l1Update c n = f (s.hears (.l1Update c n))) : Gives .l1Update (.l1Update c n) s f :=
  ⟨rfl, congrArg Host.Outcome.next h⟩

section
variable {x : Tx} {l : L1Line} (hx : s.tx n = some x) (hc : x.core ≠ c)
include hx hc

theorem State.l1Update_absent (h : s.l1At c x.line x.world = none) : s.l1Update c n = (s.endFwdTx c n).send (.dirAck n c false) := by
  simp only [State.l1Update, hx, if_neg hc, h]

variable (h : s.l1At c x.line x.world = some l)
include h

theorem State.l1Update_frozen (hf : l.frozen = true) : s.l1Update c n = (s.letFwd c n).send (.dirAck n c false) := by
  simp only [State.l1Update, hx, if_neg hc, h, if_pos hf]

theorem State.l1Update_applied (hf : l.frozen = false) (hr : l.rd = 0) :
    s.l1Update c n =
      (let d := patchData l.data l.pois (x.through (sliceFor (stackOf c) x.line)) x.pois
       ((s.updL1 c x.line (fun y => { y with data := d.1, pois := d.2 })).endFwdTx c n).send (.dirAck n c true)) := by
  simp only [State.l1Update, hx, if_neg hc, h, hf, if_pos hr, Bool.false_eq_true, if_false]

theorem State.l1Update_deferred (hf : l.frozen = false) (hr : l.rd ≠ 0) (hd : s.deferred c < 32) :
    s.l1Update c n = ((s.defer c x.line n false (x.through (sliceFor (stackOf c) x.line)) x.pois).letFwd c n).send (.dirAck n c true) := by
  simp only [State.l1Update, hx, if_neg hc, h, hf, if_neg hr, if_pos hd, Bool.false_eq_true, if_false]

theorem State.l1Update_full (hf : l.frozen = false) (hr : l.rd ≠ 0) (hd : 32 ≤ s.deferred c) :
    s.l1Update c n = ((s.freeze c x.line).letFwd c n).send (.dirAck n c false) := by
  simp only [State.l1Update, hx, if_neg hc, h, hf, if_neg hr, if_neg (Nat.not_lt.mpr hd), Bool.false_eq_true, if_false]

end

/-! ## Invalidations -/

theorem gives_l1Invalidation {f : State → State} (h : (s.hears (.l1Invalidation c line n)).l1Invalidation c line n = f (s.hears (.l1Invalidation c line n))) :
    Gives .l1Invalidation (.l1Invalidation c line n) s f := ⟨rfl, congrArg Host.Outcome.next h⟩

theorem State.l1Invalidation_absent (h : s.coh.l1.find? (fun l => l.core == c && l.line == line) = none) :
    s.l1Invalidation c line n = s.send (.dirAck n c false) := by
  simp only [State.l1Invalidation, h]

section
variable {l : L1Line} (h : s.coh.l1.find? (fun l => l.core == c && l.line == line) = some l)
include h

theorem State.l1Invalidation_frozen (hf : l.frozen = true) : s.l1Invalidation c line n = s.send (.dirAck n c false) := by
  simp only [State.l1Invalidation, h, if_pos hf]

theorem State.l1Invalidation_applied (hf : l.frozen = false) (hr : l.rd = 0) : s.l1Invalidation c line n = (s.dropL1 c line).send (.dirAck n c true) := by
  simp only [State.l1Invalidation, h, hf, if_pos hr, Bool.false_eq_true, if_false]

theorem State.l1Invalidation_deferred (hf : l.frozen = false) (hr : l.rd ≠ 0) (hd : s.deferred c < 32) :
    s.l1Invalidation c line n = (s.defer c line n true [] []).send (.dirAck n c true) := by
  simp only [State.l1Invalidation, h, hf, if_neg hr, if_pos hd, Bool.false_eq_true, if_false]

theorem State.l1Invalidation_full (hf : l.frozen = false) (hr : l.rd ≠ 0) (hd : 32 ≤ s.deferred c) :
    s.l1Invalidation c line n = (s.freeze c line).send (.dirAck n c false) := by
  simp only [State.l1Invalidation, h, hf, if_neg hr, if_neg (Nat.not_lt.mpr hd), Bool.false_eq_true, if_false]

end

end

/-- Settles O44: a clause for each cell of the L1's table. -/
theorem l1Events : Obligations.L1Events := by
  intro s c line tag cp n data pois
  refine ⟨fun free => ⟨gives_l1FillReturn (State.feedTokens_of_none free), fun room =>
    ⟨rfl, _, congrArg Host.Outcome.next (State.fillReturn_of_room (s := s.hears _) free room), rfl, rfl, rfl, rfl, rfl⟩⟩, ?feed, ?update, ?inval⟩
  case feed =>
    intro k l ht hl hc hv hp hw
    exact gives_l1FillReturn (State.feedTokens_singleton ht hl hc ((State.awaits_iff l).mpr ⟨hv, hp, hw⟩))
  case update =>
    intro x hx hc
    refine ⟨fun h => gives_l1Update (State.l1Update_absent hx hc h), fun l h => ⟨fun hf => ?_, fun hf hr => ?_, fun hf hr hd => ?_, fun hf hr hd => ?_⟩⟩
    · exact gives_l1Update (State.l1Update_frozen hx hc h hf)
    · exact gives_l1Update (State.l1Update_applied hx hc h hf hr)
    · exact gives_l1Update (State.l1Update_deferred hx hc h hf hr hd)
    · exact gives_l1Update (State.l1Update_full hx hc h hf hr hd)
  case inval =>
    refine ⟨fun h => gives_l1Invalidation (State.l1Invalidation_absent h), fun l h => ⟨fun hf => ?_, fun hf hr => ?_, fun hf hr hd => ?_, fun hf hr hd => ?_⟩⟩
    · exact gives_l1Invalidation (State.l1Invalidation_frozen h hf)
    · exact gives_l1Invalidation (State.l1Invalidation_applied h hf hr)
    · exact gives_l1Invalidation (State.l1Invalidation_deferred h hf hr hd)
    · exact gives_l1Invalidation (State.l1Invalidation_full h hf hr hd)

end Sys2Proof.Machine
end

section
/-! SUPPORT. The directories' table (R100 to R102, R104): what a read miss, an eviction notice, a victim and a handover come to, by what the slice, the Cellar and the MSC slice hold of
the line. -/

namespace Sys2Proof.Machine

open Sys2Proof

section
variable {s : State} {c line tag cp slice : Nat} {l : L2Line}

/-! ## An access at its slice -/

/-- A use of an L2 line changes the order in which the set's lines go. -/
theorem State.l2Use_eq (s : State) (slice line world cp : Nat) (fill : Bool) : ∃ pl, s.l2Use slice line world cp fill = { s with coh.plru := pl } := by
  unfold State.l2Use
  split
  · exact ⟨_, rfl⟩
  · exact ⟨_, rfl⟩

@[simp] theorem State.l2Use_l2At (s : State) (slice line world cp : Nat) (fill : Bool) (k n w : Nat) : (s.l2Use slice line world cp fill).l2At k n w = s.l2At k n w := by
  obtain ⟨pl, h⟩ := s.l2Use_eq slice line world cp fill
  rw [h]
  rfl

/-- The line of another slice or world that an access of a slice for a world finds in a world's ways. -/
def State.inOtherWays (s : State) (slice line world : Nat) : Option L2Line :=
  s.coh.l2.find? (fun l => l.line == line && l.world != 0x7F && !(l.world == world && l.slice == slice))

theorem State.sliceFill_of_here (other : s.inOtherWays slice line tag = none) (here : (s.l2At slice line tag).isSome = true) (idle : s.invalBusy slice line = false) :
    s.sliceFill slice line tag cp = (s.l2Use slice line tag cp false, .ok) := by
  rw [State.inOtherWays] at other
  simp only [State.sliceFill, other, if_pos here, idle, Bool.false_eq_true, if_false]

theorem State.sliceFill_of_busy (other : s.inOtherWays slice line tag = none) (here : (s.l2At slice line tag).isSome = true) (busy : s.invalBusy slice line = true) :
    s.sliceFill slice line tag cp = (s, .wait) := by
  rw [State.inOtherWays] at other
  simp only [State.sliceFill, other, if_pos here, if_pos busy]

theorem State.sliceFill_of_other (other : s.inOtherWays slice line tag = some l) (free : s.due (fun e => e == .worldLineHandover l.slice line) = false) :
    s.sliceFill slice line tag cp = (s.send (.worldLineHandover l.slice line), .wait) := by
  rw [State.inOtherWays] at other
  simp only [State.sliceFill, other, free, Bool.false_eq_true, if_false]

/-! ## Read misses -/

theorem gives_dirReadMiss {f : State → State} (h : (s.hears (.dirReadMiss c line tag cp)).readMiss c line tag cp = f (s.hears (.dirReadMiss c line tag cp))) :
    Gives .dirReadMiss (.dirReadMiss c line tag cp) s f := ⟨rfl, congrArg Host.Outcome.next h⟩

section
variable (cell : ¬ isCellar (128 * line) = true)
include cell

theorem State.readMiss_of_wait {t : State} (h : s.sliceFill (sliceFor (stackOf c) line) line tag cp = (t, .wait)) :
    s.readMiss c line tag cp = t.wait (.dirReadMiss c line tag cp) := by
  simp only [State.readMiss, if_neg cell, h]

theorem State.readMiss_of_here (other : s.inOtherWays (sliceFor (stackOf c) line) line tag = none) (here : s.l2At (sliceFor (stackOf c) line) line tag = some l)
    (idle : s.invalBusy (sliceFor (stackOf c) line) line = false) :
    s.readMiss c line tag cp = ((s.l2Use (sliceFor (stackOf c) line) line tag cp false).updL2 (sliceFor (stackOf c) line) line tag
      (fun l => { l with dir := dirAdd l.dir (c % 128) 4 })).send (.l1FillReturn c line tag cp true l.data l.pois) := by
  have fill := State.sliceFill_of_here (cp := cp) other (here ▸ rfl) idle
  simp only [State.readMiss, if_neg cell, fill, State.l2Use_l2At, here]

end

section
variable (cell : isCellar (128 * line) = true)
include cell

theorem State.readMiss_of_cellarBusy (busy : ∃ t ∈ s.coh.txs, t.inval = true ∧ t.line = line) : s.readMiss c line tag cp = s.wait (.dirReadMiss c line tag cp) := by
  have any : s.coh.txs.any (fun t => t.inval && t.line == line) = true := by simpa using busy
  simp only [State.readMiss, if_pos cell, if_pos any]

variable (idle : ∀ t ∈ s.coh.txs, t.inval = true → t.line ≠ line) (free : tget s.mm.ctag line = none)
include idle free

/-- A read miss at the Cellar: in the column's own stack the core is registered, in another it gets the line alone. -/
theorem State.readMiss_of_cellar : s.readMiss c line tag cp =
    if cellarColumn (128 * line) / 32 = stackOf c then
      { s with coh.cdir := tset s.coh.cdir line (dirAdd ((tget s.coh.cdir line).getD noDir) (c % 128) 4) }.send
        (.l1FillReturn c line tag cp true (s.bytesAt (128 * line) 128) (s.linePois line))
    else s.send (.l1FillReturn c line tag cp false (s.bytesAt (128 * line) 128) (s.linePois line)) := by
  have any : ¬ s.coh.txs.any (fun t => t.inval && t.line == line) = true := by simpa using idle
  have bytes : s.cellarLine line tag = (s.bytesAt (128 * line) 128, s.linePois line) := by simp [State.cellarLine, free]
  simp only [State.readMiss, if_pos cell, if_neg any, bytes]

end

/-! ## Victims -/

theorem gives_l2Victim {f : State → State} (h : (s.hears (.l2Victim slice line tag)).l2Victim slice line tag = f (s.hears (.l2Victim slice line tag))) :
    Gives .l2Victim (.l2Victim slice line tag) s f := ⟨rfl, congrArg Host.Outcome.next h⟩

theorem gives_mscVictim {f : State → State} (h : (s.hears (.mscVictim line)).mscVictim line = f (s.hears (.mscVictim line))) :
    Gives .mscVictim (.mscVictim line) s f := ⟨rfl, congrArg Host.Outcome.next h⟩

theorem State.hdirRemove_eq (s : State) (line slice : Nat) : ∃ d, s.hdirRemove line slice = { s with coh.hdir := d } := by
  unfold State.hdirRemove
  split
  · exact ⟨_, rfl⟩
  · exact ⟨_, rfl⟩

theorem State.dropL2_l2At (s : State) (slice line world : Nat) : (s.dropL2 slice line world).l2At slice line world = none := by
  simp only [State.dropL2, State.l2At, List.find?_eq_none, List.mem_filter]
  rintro x ⟨-, kept⟩ same
  simp [same] at kept

/-- An invalidation in a slice that is over: the slice holds the line no more. -/
theorem State.invalDone_slice {t : Tx} (h : t.slice < 96) :
    (s.invalDone t).l2At t.slice t.line t.world = none ∧ (s.invalDone t).mem = s.mem ∧ (s.invalDone t).core = s.core := by
  obtain ⟨d, e⟩ := ({ s with coh.txs := s.coh.txs.filter (fun u => u.id != t.id) }.dropL2 t.slice t.line t.world).hdirRemove_eq t.line t.slice
  have gone : s.invalDone t = { { s with coh.txs := s.coh.txs.filter (fun u => u.id != t.id) }.dropL2 t.slice t.line t.world with coh.hdir := d } := by
    rw [State.invalDone, if_pos h, e]
  rw [gone]
  exact ⟨State.dropL2_l2At { s with coh.txs := s.coh.txs.filter (fun u => u.id != t.id) } .., rfl, rfl⟩

section
variable (free : s.pinned line = false)
include free

theorem State.l2Victim_of_free : s.l2Victim slice line tag = s.l2Inval slice line tag := by simp only [State.l2Victim, free, Bool.false_eq_true, if_false]

/-- A victim outside the worlds: its sharers are invalidated, and with none it goes at once. -/
theorem State.l2Victim_shared (here : s.l2At slice line 0x7F = some l) (idle : ∀ t ∈ s.coh.txs, ¬ (t.inval = true ∧ t.line = line ∧ t.slice = slice)) :
    let t := { blankTx s.ctl.nextId line [] with inval := true, slice := slice, own := dirCores (slice / 32) l.dir }
    s.l2Victim slice line 0x7F = if dirCores (slice / 32) l.dir = [] then s.invalDone t else
      { s.bump with coh.txs := s.coh.txs ++ [t] }.sendAll ((dirCores (slice / 32) l.dir).map (fun c => .l1Invalidation c line s.ctl.nextId)) := by
  have quiet : ¬ s.invalBusy slice line = true := by simpa [State.invalBusy, and_assoc] using idle
  simp only [State.l2Victim_of_free free, State.l2Inval, State.sharedInval, here, if_neg quiet, if_true, List.isEmpty_iff]

theorem State.l2Victim_world_clean (world : tag ≠ 0x7F) (here : s.l2At slice line tag = some l) (clean : l.dirty = false) (sealed : (tget s.mm.sealed line).isSome = true) :
    s.l2Victim slice line tag = s.dropWorldLine l := by
  simp only [State.l2Victim_of_free free, State.l2Inval, here, if_neg world, clean, sealed, Bool.not_false, Bool.and_self, if_true]

theorem State.l2Victim_world_dirty (world : tag ≠ 0x7F) (here : s.l2At slice line tag = some l) (dirty : l.dirty = true ∨ tget s.mm.sealed line = none)
    (owned : s.unowned line = []) : s.l2Victim slice line tag = (s.sealBack l).dropWorldLine l := by
  have unsealed : ¬ (!l.dirty && (tget s.mm.sealed line).isSome) = true := by rcases dirty with h | h <;> simp [h]
  simp only [State.l2Victim_of_free free, State.l2Inval, here, if_neg world, if_neg unsealed, owned, List.isEmpty_nil, Bool.not_true, Bool.false_eq_true, if_false]

variable (alone : s.dephHomes line = [])
include alone

theorem State.mscVictim_held (held : s.l2Holds line = true) : s.mscVictim line = (s.purge line).wait (.mscVictim line) := by
  simp only [State.mscVictim, free, alone, if_pos held, List.isEmpty_nil, Bool.not_true, Bool.false_eq_true, if_false]

theorem State.mscVictim_free (held : s.l2Holds line = false) : s.mscVictim line =
    (let t : State := { s with coh.msc := s.coh.msc.filter (fun m => m.line != line) }
     if isHost (128 * line) then t.send (.bridgeMscEviction line) else t) := by
  simp only [State.mscVictim, free, alone, held, List.isEmpty_nil, Bool.not_true, Bool.false_eq_true, if_false]

end

/-! ## Handovers -/

theorem gives_worldLineHandover {f : State → State} (h : (s.hears (.worldLineHandover slice line)).handOver slice line = f (s.hears (.worldLineHandover slice line))) :
    Gives .worldLineHandover (.worldLineHandover slice line) s f := ⟨rfl, congrArg Host.Outcome.next h⟩

theorem State.dropWorldLine_of_sharers (shared : dirCores (l.slice / 32) l.dir ≠ []) : s.dropWorldLine l =
    ({ s with ctl.nextId := s.ctl.nextId + 1, coh.txs := s.coh.txs ++ [{ blankTx s.ctl.nextId l.line [] with inval := true, slice := l.slice, own := dirCores (l.slice / 32) l.dir, world := l.world }] }.dropL2
      l.slice l.line l.world).sendAll ((dirCores (l.slice / 32) l.dir).map (fun c => .l1Invalidation c l.line s.ctl.nextId)) := by
  rw [State.dropWorldLine, if_neg (List.isEmpty_iff.not.mpr shared)]
  rfl

theorem State.dropWorldLine_of_none (alone : dirCores (l.slice / 32) l.dir = []) : s.dropWorldLine l = s.dropL2 l.slice l.line l.world := by
  rw [State.dropWorldLine, if_pos (List.isEmpty_iff.mpr alone)]

section
variable (here : s.coh.l2.find? (fun l => l.slice == slice && l.line == line && l.world != 0x7F) = some l)
include here

/-- The line that is found is that of the slice. -/
theorem State.worldLine_place : l.slice = slice ∧ l.line = line := by
  have h := List.find?_some here
  simp only [Bool.and_eq_true, beq_iff_eq] at h
  exact h.1

theorem State.handOver_clean (clean : l.dirty = false) (sealed : (tget s.mm.sealed line).isSome = true) : s.handOver slice line = s.dropWorldLine l := by
  simp only [State.handOver, here, clean, sealed, Bool.not_false, Bool.and_self, if_true]

variable (dirty : l.dirty = true ∨ tget s.mm.sealed line = none)
include dirty

theorem State.handOver_dirty : s.handOver slice line =
    if s.unowned line = [] then (s.sealBack l).dropWorldLine l else (s.askHalves (s.unowned line) true).wait (.worldLineHandover slice line) := by
  have unsealed : ¬ (!l.dirty && (tget s.mm.sealed line).isSome) = true := by rcases dirty with h | h <;> simp [h]
  simp only [State.handOver, here, if_neg unsealed, Bool.not_eq_true', List.isEmpty_eq_false_iff, ne_eq, ite_not]

end

end

/-- Settles O45: a clause for each cell of the directories' table. -/
theorem directoryEvents : Obligations.DirectoryEvents := by
  intro s c line tag cp slice l
  refine ⟨?here, ?own, ?away, ?cellarBusy, ?busy, ?other, ?notice, ?pinned, ?shared, ?world, ?msc, ?handover⟩
  case here => exact fun cell other h idle => gives_dirReadMiss (State.readMiss_of_here cell other h idle)
  case own => exact fun cell idle free near => gives_dirReadMiss ((State.readMiss_of_cellar (s := s.hears _) cell idle free).trans (if_pos near))
  case away => exact fun cell idle free far => gives_dirReadMiss ((State.readMiss_of_cellar (s := s.hears _) cell idle free).trans (if_neg far))
  case cellarBusy => exact fun cell busy => gives_dirReadMiss (State.readMiss_of_cellarBusy cell busy)
  case busy => exact fun cell other h busy => gives_dirReadMiss (State.readMiss_of_wait cell (State.sliceFill_of_busy other (h ▸ rfl) busy))
  case other => exact fun cell other free => gives_dirReadMiss (State.readMiss_of_wait cell (State.sliceFill_of_other other free))
  case notice => exact fun cell => ⟨rfl, congrArg Host.Outcome.next (if_neg cell)⟩
  case pinned => exact fun h => ⟨gives_l2Victim (if_pos h), gives_mscVictim (if_pos h)⟩
  case shared =>
    intro free here idle
    have victim (e : Ev) := State.l2Victim_shared (s := s.hears e) free here idle
    refine ⟨fun shared => gives_l2Victim ((victim _).trans (if_neg shared)), fun alone low => ⟨rfl, _, congrArg Host.Outcome.next ((victim _).trans (if_pos alone)), ?_⟩⟩
    exact State.invalDone_slice (s := s.hears _) (t := { blankTx s.ctl.nextId line [] with inval := true, slice := slice, own := dirCores (slice / 32) l.dir }) low
  case world =>
    exact fun free world here => ⟨fun clean sealed => gives_l2Victim (State.l2Victim_world_clean free world here clean sealed),
      fun dirty owned => gives_l2Victim (State.l2Victim_world_dirty free world here dirty owned)⟩
  case msc =>
    intro free alone
    refine ⟨fun held => gives_mscVictim (State.mscVictim_held free alone held), fun held local_ => ?_, fun held host => ?_⟩
    · exact gives_mscVictim ((State.mscVictim_free (s := s.hears _) free alone held).trans (if_neg (by simp [local_])))
    · exact gives_mscVictim ((State.mscVictim_free (s := s.hears _) free alone held).trans (if_pos host))
  case handover =>
    intro here
    obtain ⟨rfl, rfl⟩ := State.worldLine_place here
    refine ⟨fun clean sealed => ⟨fun shared => ?_, fun alone => ?_⟩, fun dirty => ⟨fun owned => ?_, fun owned => ?_⟩⟩
    · exact gives_worldLineHandover ((State.handOver_clean (s := s.hears _) here clean sealed).trans (State.dropWorldLine_of_sharers shared))
    · exact gives_worldLineHandover ((State.handOver_clean (s := s.hears _) here clean sealed).trans (State.dropWorldLine_of_none alone))
    · exact gives_worldLineHandover ((State.handOver_dirty (s := s.hears _) here dirty).trans (if_pos owned))
    · exact gives_worldLineHandover ((State.handOver_dirty (s := s.hears _) here dirty).trans (if_neg owned))

end Sys2Proof.Machine
end

section
/-! SUPPORT. A store and an atomic whose bytes lie beyond their line, at a host address: their home waits for the half-lines it finds missing there. -/

namespace Sys2Proof.Machine

open Sys2Proof

/-- A store of core 5 to line 32, of the byte at an offset that makes its address a host one. -/
def strayStore : Tx := { blankTx 7 32 [(2 ^ 55, 1)] with core := 5, slice := 0, tenant := 0, l1 := false, ackStack := false }

/-- An addition of core 5 to the word at such an offset. -/
def strayAtomic : Tx := { strayStore with bytes := [], atom := some { aop := 0, ty := 0, off := 2 ^ 55, x := 5, y := 0, scope := 5, dst := none, grp := 5 } }

/-- The access on its way, with no copy of its line in any cache and no half-line owned. -/
def strayState (x : Tx) : State := { State.reset with coh.txs := [x] }

theorem strayState_homeStore_store : (((strayState strayStore).hears (.homeStore 7)).homeStore faddBits 7).tx 7 = some strayStore := by decide

theorem strayState_homeStore_atomic : (((strayState strayAtomic).hears (.homeStore 7)).homeStore faddBits 7).tx 7 = some strayAtomic := by decide

/-- Refutes O46: the statement does not keep a store's bytes within its line, and where an offset makes the address of a byte a host one, whose half-lines are all in I, the home asks for
that half-line and the store waits: HOME_STORE leaves it not applied at its home. The line of strayStore is that of HBM address 4096, and the offset of its byte is 2 ^ 55. -/
theorem not_storeEvents : ¬ Obligations.StoreEvents := by
  intro h
  obtain ⟨-, -, -, home, -⟩ := h (strayState strayStore) strayStore rfl
  obtain ⟨-, t, ht, -, -, -, -, y, hy, applied, -⟩ :=
    home rfl (by decide) rfl (by decide) (by decide) (by decide) (by decide) (by decide) (by decide) (by decide) (by decide) (by decide) (by decide) (.inl (by decide))
  have left : t.tx 7 = some strayStore := (Host.Outcome.next.inj ht) ▸ strayState_homeStore_store
  have same : strayStore = y := Option.some.inj (left.symm.trans hy)
  rw [← same] at applied
  exact absurd applied (by decide)

/-- Refutes O47: nor does the statement keep an atomic's word within its line. The line of strayAtomic is that of HBM address 4096 and its offset 2 ^ 55, so that the home asks for a half-line
of the host and HOME_STORE leaves the atomic without its old value. -/
theorem not_atomicEvents : ¬ Obligations.AtomicEvents := by
  intro h
  obtain ⟨-, -, home, -⟩ := h (strayState strayAtomic) strayAtomic _ rfl rfl
  obtain ⟨-, t, ht, -, -, -, ⟨y, hy, done, -⟩, -⟩ :=
    home rfl (by decide) rfl (by decide) (by decide) (by decide) (by decide) (by decide) (by decide) (by decide) (by decide) (by decide)
  have left : t.tx 7 = some strayAtomic := (Host.Outcome.next.inj ht) ▸ strayState_homeStore_atomic
  have same : strayAtomic = y := Option.some.inj (left.symm.trans hy)
  rw [← same] at done
  exact absurd done nofun

end Sys2Proof.Machine
end

section
/-! SUPPORT. Releases that end, what a soft error leaves (R105), and the fields of HSCTL (R109). -/

namespace Sys2Proof.Machine

open Sys2Proof

variable {s : State}

/-! ## Releases -/

theorem State.rdZero_rels (s : State) (l : L1Line) : (s.rdZero l).coh.rels = s.coh.rels := by
  unfold State.rdZero
  split
  · rfl
  · split <;> rfl

theorem State.clearRd_rels (s : State) (core slot : Nat) : (s.clearRd core slot).coh.rels = s.coh.rels := by
  refine foldl_keeps (fun s : State => s.coh.rels) (fun t l => ?_) _ _
  dsimp only
  split
  · exact State.rdZero_rels ..
  · rfl

/-- An acquire clears the RD bits of its slot and leaves the releases as they are. -/
theorem State.acquire_rels (s : State) (core slot lane : Nat) : (s.acquire core slot lane).coh.rels = s.coh.rels := by
  change (s.clearLoaded core slot lane).coh.rels = _
  unfold State.clearLoaded
  dsimp only
  split
  · split
    · rfl
    · exact State.clearRd_rels ..
  · rfl

theorem State.relDone_of_removed {t : State} {id : Nat} (h : t.coh.rels = s.coh.rels.filter (fun x => x.id != id)) : t.relDone id = true := by
  simp [State.relDone, h]

section
variable {r : Rel} (found : s.coh.rels.find? (fun x => x.id == r.id) = some r)
include found

/-- A release that is over: its thread goes on, and its slot's group is freed where nothing of it is left. -/
theorem gives_releaseComplete {f : State → State} (h : (s.hears (.releaseComplete r.id)).releaseComplete r.id = f (s.hears (.releaseComplete r.id)))
    (gone : (f (s.hears (.releaseComplete r.id))).coh.rels = s.coh.rels.filter (fun x => x.id != r.id)) :
    Gives .releaseComplete (.releaseComplete r.id) s (fun s => (f s).freeSlot r.core r.slot) := by
  have done : (f (s.hears (.releaseComplete r.id))).relDone r.id = true := State.relDone_of_removed gone
  refine ⟨rfl, congrArg Host.Outcome.next ?_⟩
  simp only [State.hears_op, State.hears_coh, found, h, done, if_true]

theorem State.releaseComplete_plain (acked : r.txs.all (fun x => s.acked x r.scope) = true) (plain : r.acq = false) : s.releaseComplete r.id =
    { s with coh.rels := s.coh.rels.filter (fun x => x.id != r.id) }.updThread r.core r.slot r.lane (fun t => if t.hold = Hold.release r.id then { t with hold := .none, stamp := s.ctl.freeCtr } else t) := by
  unfold State.releaseComplete
  simp only [found, acked, plain, Bool.false_and, Bool.not_false, Bool.and_self, if_true, Bool.false_eq_true, if_false]

theorem State.releaseComplete_acquire (acked : r.txs.all (fun x => s.acked x r.scope) = true) (acq : r.acq = true) (loads : s.loadsPending r.core r.slot r.lane = false) : s.releaseComplete r.id =
    ({ s with coh.rels := s.coh.rels.filter (fun x => x.id != r.id) }.acquire r.core r.slot r.lane).updThread r.core r.slot r.lane
      (fun t => if t.hold = Hold.release r.id then { t with hold := .none, stamp := s.ctl.freeCtr } else t) := by
  unfold State.releaseComplete
  simp only [found, acked, acq, loads, Bool.true_and, Bool.not_false, Bool.and_self, if_true]

theorem State.releaseComplete_waits (h : r.txs.all (fun x => s.acked x r.scope) = false ∨ (r.acq = true ∧ s.loadsPending r.core r.slot r.lane = true)) :
    s.releaseComplete r.id = s.wait (.releaseComplete r.id) := by
  unfold State.releaseComplete
  rcases h with unacked | ⟨acq, loads⟩
  · simp only [found, unacked, Bool.false_and, Bool.false_eq_true, if_false]
  · simp only [found, acq, loads, Bool.and_self, Bool.not_true, Bool.and_false, Bool.false_eq_true, if_false]

/-- A release that waits is still there. -/
theorem gives_releaseComplete_waits (h : r.txs.all (fun x => s.acked x r.scope) = false ∨ (r.acq = true ∧ s.loadsPending r.core r.slot r.lane = true)) :
    Gives .releaseComplete (.releaseComplete r.id) s (fun s => s.wait (.releaseComplete r.id)) := by
  have waits : (s.hears (.releaseComplete r.id)).releaseComplete r.id = (s.hears (.releaseComplete r.id)).wait (.releaseComplete r.id) := State.releaseComplete_waits (s := s.hears _) found h
  have there : ((s.hears (.releaseComplete r.id)).wait (.releaseComplete r.id)).relDone r.id = false := by
    have any : s.coh.rels.any (fun x => x.id == r.id) = true := List.any_eq_true.mpr ⟨r, List.mem_of_find?_eq_some found, by simp⟩
    exact congrArg not any
  refine ⟨rfl, congrArg Host.Outcome.next ?_⟩
  simp only [State.hears_op, State.hears_coh, found, waits, there, Bool.false_eq_true, if_false]

end

variable {c g : Nat}

/-- The store entries of a slot are drained once no release of it is under way (R97). -/
theorem State.entryDrained_any_iff (s : State) (c g : Nat) : (s.coh.rels.any (fun r => r.core == c && r.slot == g && r.scope == 4) = true) ↔ ∃ x ∈ s.coh.rels, x.core = c ∧ x.slot = g ∧ x.scope = 4 := by
  simp [and_assoc]

theorem State.entryDrained_of_none (h : ∀ x ∈ s.coh.rels, ¬ (x.core = c ∧ x.slot = g ∧ x.scope = 4)) : s.entryDrained c g = s :=
  if_neg fun any => by
    obtain ⟨x, hx, mine⟩ := (s.entryDrained_any_iff c g).mp any
    exact h x hx mine

theorem State.entryDrained_of_some (h : ∃ x ∈ s.coh.rels, x.core = c ∧ x.slot = g ∧ x.scope = 4) : s.entryDrained c g = s.wait (.storeEntryDrainComplete c g) :=
  if_pos ((s.entryDrained_any_iff c g).mpr h)

theorem gives_storeEntryDrainComplete {f : State → State} (h : (s.hears (.storeEntryDrainComplete c g)).entryDrained c g = f (s.hears (.storeEntryDrainComplete c g))) :
    Gives .storeEntryDrainComplete (.storeEntryDrainComplete c g) s f := ⟨rfl, congrArg Host.Outcome.next h⟩

/-! ## Soft errors -/

variable {kind addr aux : Nat}

theorem State.softError_corrected (h0 : kind ≠ 0) (hk : kind < 4 ∨ 6 < kind) : s.softError kind addr aux false = s.logMemCe (errSource kind addr aux) kind addr false := by
  unfold State.softError
  simp only [h0, if_false, Bool.not_false, if_true, if_neg (show ¬ (4 ≤ kind ∧ kind ≤ 6) by omega)]

/-- What is lost is logged, and a line of the pinned image sends for a reload (R51). -/
theorem State.softError_lost (h0 : kind ≠ 0) (hk : kind < 4 ∨ 7 < kind) : s.softError kind addr aux true =
    (let t := (s.loseData kind addr aux).logMemUe (errSource kind addr aux) kind addr
     if 10 ≤ kind ∧ s.coh.pins.contains (addr / 128, 0) then t.send (.imageLineUe (addr / 128)) else t) := by
  unfold State.softError
  simp only [h0, if_false, Bool.not_true, Bool.false_eq_true, if_neg (show ¬ kind = 7 by omega), if_neg (show ¬ (4 ≤ kind ∧ kind ≤ 6) by omega)]
  rfl

theorem State.softError_lost_small (h0 : kind ≠ 0) (hk : kind < 4 ∨ 7 < kind) (h10 : kind < 10) :
    s.softError kind addr aux true = (s.loseData kind addr aux).logMemUe (errSource kind addr aux) kind addr :=
  (State.softError_lost h0 hk).trans (if_neg (by omega))

/-- Memory that loses a line is poisoned in all its words. -/
theorem State.loseData_memory (h : 10 ≤ kind) : s.loseData kind addr aux = (List.range 16).foldl (fun (s : State) w => s.setPoison (16 * (addr / 128) + w) true) s := by
  obtain ⟨k, rfl⟩ := Nat.exists_eq_add_of_le' h
  rfl

theorem State.lostTag_slice {slice line : Nat} (hc : isCellar (128 * line) = false) (here : s.coh.l2.filter (fun l => l.slice == slice && l.line == line) ≠ []) :
    s.lostTag slice line = (s.coh.l2.filter (fun l => l.slice == slice && l.line == line)).foldl (fun (s : State) l => s.l2Inval slice line l.world) s := by
  have any : s.coh.l2.any (fun l => l.slice == slice && l.line == line) = true := by
    obtain ⟨l, hl⟩ := List.exists_mem_of_ne_nil _ here
    exact List.any_eq_true.mpr ⟨l, List.mem_filter.mp hl⟩
  unfold State.lostTag
  simp only [hc, any, Bool.false_eq_true, if_false, if_true]

theorem State.lostTag_home {slice line : Nat} (hc : isCellar (128 * line) = false) (gone : s.coh.l2.filter (fun l => l.slice == slice && l.line == line) = []) : s.lostTag slice line = s.purge line := by
  have none : ¬ s.coh.l2.any (fun l => l.slice == slice && l.line == line) = true := by
    rw [List.any_eq_true]
    rintro ⟨l, hl, here⟩
    exact List.filter_eq_nil_iff.mp gone l hl here
  unfold State.lostTag
  simp only [hc, none, Bool.false_eq_true, if_false]

theorem gives_softError {lost : Bool} {f : State → State} (h : (s.hears (.softError kind addr aux lost)).softError kind addr aux lost = f (s.hears (.softError kind addr aux lost))) :
    Gives .softError (.softError kind addr aux lost) s f := ⟨rfl, congrArg Host.Outcome.next h⟩

theorem gives_softError_memory (h : 10 ≤ kind) :
    let lost := fun s : State => ((List.range 16).foldl (fun (s : State) w => s.setPoison (16 * (addr / 128) + w) true) s).logMemUe (errSource kind addr aux) kind addr
    ((addr / 128, 0) ∉ s.coh.pins → Gives .softError (.softError kind addr aux true) s lost) ∧
    ((addr / 128, 0) ∈ s.coh.pins → Gives .softError (.softError kind addr aux true) s (fun s => (lost s).send (.imageLineUe (addr / 128)))) := by
  have step := fun s : State => State.softError_lost (s := s) (addr := addr) (aux := aux) (show kind ≠ 0 by omega) (show kind < 4 ∨ 7 < kind by omega)
  simp only [State.loseData_memory h] at step
  exact ⟨fun free => gives_softError ((step _).trans (if_neg fun pinned => free (List.contains_iff_mem.mp pinned.2))),
    fun pinned => gives_softError ((step _).trans (if_pos ⟨h, List.contains_iff_mem.mpr pinned⟩))⟩

theorem gives_softError_directory (hc : isCellar (128 * (addr / 128)) = false) :
    let here := s.coh.l2.filter (fun l => l.slice == aux && l.line == addr / 128)
    (here ≠ [] → Gives .softError (.softError 2 addr aux true) s (fun s => (here.foldl (fun (s : State) l => s.l2Inval aux (addr / 128) l.world) s).logMemUe (errSource 2 addr aux) 2 addr)) ∧
    (here = [] → Gives .softError (.softError 2 addr aux true) s (fun s => (s.purge (addr / 128)).logMemUe (errSource 2 addr aux) 2 addr)) := by
  have step := fun s : State => State.softError_lost_small (s := s) (addr := addr) (aux := aux) (show 2 ≠ 0 by decide) (.inl (by decide)) (by decide)
  exact ⟨fun here => gives_softError ((step _).trans (congrArg (State.logMemUe · _ 2 addr) (State.lostTag_slice (s := s.hears _) hc here))),
    fun gone => gives_softError ((step _).trans (congrArg (State.logMemUe · _ 2 addr) (State.lostTag_home (s := s.hears _) hc gone)))⟩

/-! ## Hotness -/

/-- HSCTL with EN 0 and the fields that a write of v sets: TARGET, and SLOG and K where EN was 0 (R109). -/
def hsctlFields (old v : Nat) : Nat :=
  let c := setBits (setBits old 31 16 (bits v 31 16)) 0 0 0
  if bit old 0 then c else setBits (setBits c 15 11 (bits v 15 11)) 10 7 (bits v 10 7)

/-- SLOG and K of HSCTL are in range. -/
def hsctlInRange (n : Nat) : Bool := decide (4 ≤ bits n 15 11) && decide (bits n 15 11 ≤ 20) && decide (6 ≤ bits n 10 7) && decide (bits n 10 7 ≤ 15)

theorem hsctlValue_on {old v : Nat} (h : (bit v 0 && hsctlInRange (hsctlFields old v)) = true) :
    hsctlValue old v = setBit (if bit old 0 then hsctlFields old v else setBits (setBits (hsctlFields old v) 63 48 0) 47 32 0) 0 true := if_pos h

theorem hsctlValue_off {old v : Nat} (h : ¬ (bit v 0 && hsctlInRange (hsctlFields old v)) = true) : hsctlValue old v = hsctlFields old v := if_neg h

theorem testBit_hsctlFields_target (old v : Nat) {i : Nat} (h : 16 ≤ i ∧ i ≤ 31) : (hsctlFields old v).testBit i = v.testBit i := by
  have target : (setBits (setBits old 31 16 (bits v 31 16)) 0 0 0).testBit i = v.testBit i := by
    rw [testBit_setBits _ _ _ (Nat.le_refl 0), if_neg (by omega), testBit_setBits_bits _ _ _ (by decide), if_pos h]
  unfold hsctlFields
  split
  · exact target
  · rw [testBit_setBits_bits _ _ _ (by decide), if_neg (by omega), testBit_setBits_bits _ _ _ (by decide), if_neg (by omega), target]

theorem testBit_hsctlFields_kept {old : Nat} (v : Nat) (on : bit old 0 = true) {i : Nat} (h : 1 ≤ i ∧ i ≤ 15) : (hsctlFields old v).testBit i = old.testBit i := by
  rw [hsctlFields, if_pos on, testBit_setBits _ _ _ (Nat.le_refl 0), if_neg (by omega), testBit_setBits_bits _ _ _ (by decide), if_neg (by omega)]

theorem testBit_hsctlFields_set {old : Nat} (v : Nat) (off : bit old 0 = false) {i : Nat} (h : 7 ≤ i ∧ i ≤ 15) : (hsctlFields old v).testBit i = v.testBit i := by
  rw [hsctlFields, if_neg (Bool.eq_false_iff.mp off), testBit_setBits_bits _ _ _ (by decide), testBit_setBits_bits _ _ _ (by decide)]
  by_cases low : i ≤ 10
  · rw [if_pos ⟨h.1, low⟩]
  · rw [if_neg (by omega), if_pos (by omega)]

theorem testBit_hsctlFields_zero (old v : Nat) : (hsctlFields old v).testBit 0 = false := by
  have zero (x : Nat) : (setBits x 0 0 0).testBit 0 = false := by rw [testBit_setBits _ _ _ (Nat.le_refl 0), if_pos (by decide), Nat.zero_testBit]
  unfold hsctlFields
  split
  · exact zero _
  · rw [testBit_setBits_bits _ _ _ (by decide), if_neg (by decide), testBit_setBits_bits _ _ _ (by decide), if_neg (by decide), zero]

/-- Setting EN changes none of the fields below bit 32. -/
theorem testBit_hsctlValue (old v : Nat) {i : Nat} (h : 1 ≤ i ∧ i ≤ 31) : (hsctlValue old v).testBit i = (hsctlFields old v).testBit i := by
  by_cases on : (bit v 0 && hsctlInRange (hsctlFields old v)) = true
  · rw [hsctlValue_on on, testBit_setBit, if_neg (by omega)]
    split
    · rfl
    · rw [testBit_setBits _ _ _ (by decide), if_neg (by omega), testBit_setBits _ _ _ (by decide), if_neg (by omega)]
  · rw [hsctlValue_off on]

theorem testBit_hsctlValue_zero (old v : Nat) : (hsctlValue old v).testBit 0 = (bit v 0 && hsctlInRange (hsctlFields old v)) := by
  by_cases on : (bit v 0 && hsctlInRange (hsctlFields old v)) = true
  · rw [hsctlValue_on on, testBit_setBit, if_pos rfl, on]
  · rw [hsctlValue_off on, testBit_hsctlFields_zero, Bool.not_eq_true _ |>.mp on]

theorem bits_eq_of_testBit {x v hi lo : Nat} (h : ∀ i, lo ≤ i → i ≤ hi → x.testBit i = v.testBit i) : bits x hi lo = bits v hi lo := by
  apply Nat.eq_of_testBit_eq
  intro i
  rw [testBit_bits, testBit_bits]
  by_cases hi' : i < hi + 1 - lo
  · rw [h (i + lo) (by omega) (by omega)]
  · rw [decide_eq_false hi', Bool.false_and, Bool.false_and]

theorem hsctlInRange_iff (v : DWord) : hsctlInRange v.toNat = true ↔ 4 ≤ (v.extractLsb' 11 5).toNat ∧ (v.extractLsb' 11 5).toNat ≤ 20 ∧ 6 ≤ (v.extractLsb' 7 4).toNat := by
  have slog : (v.extractLsb' 11 5).toNat = bits v.toNat 15 11 := toNat_extractLsb' v 11 5
  have k : (v.extractLsb' 7 4).toNat = bits v.toNat 10 7 := toNat_extractLsb' v 7 4
  have small : bits v.toNat 10 7 < 16 := k ▸ (v.extractLsb' 7 4).isLt
  rw [slog, k, hsctlInRange]
  simp only [Bool.and_eq_true, decide_eq_true_eq]
  omega

/-- Where EN was 0, the fields are in range as the value written has them. -/
theorem hsctlInRange_fields {old : Nat} (v : Nat) (off : bit old 0 = false) : hsctlInRange (hsctlFields old v) = hsctlInRange v := by
  have slog : bits (hsctlFields old v) 15 11 = bits v 15 11 := bits_eq_of_testBit fun i lo hi => testBit_hsctlFields_set v off ⟨by omega, hi⟩
  have k : bits (hsctlFields old v) 10 7 = bits v 10 7 := bits_eq_of_testBit fun i lo hi => testBit_hsctlFields_set v off ⟨lo, by omega⟩
  rw [hsctlInRange, slog, k, hsctlInRange]

theorem extractLsb'_ofNat_eq {x lo n : Nat} {v : DWord} (hn : lo + n ≤ 64) (h : ∀ i, lo ≤ i → i < lo + n → x.testBit i = v.toNat.testBit i) :
    (BitVec.ofNat 64 x).extractLsb' lo n = v.extractLsb' lo n := by
  apply BitVec.eq_of_getLsbD_eq
  intro i hi
  rw [BitVec.getLsbD_extractLsb', BitVec.getLsbD_extractLsb', BitVec.getLsbD_ofNat, h _ (by omega) (by omega), BitVec.testBit_toNat, decide_eq_true (show lo + i < 64 by omega), Bool.true_and]

/-- HSCTL under R109's rules, field by field. -/
theorem hsctlValue_fields (old new : DWord) : let r := BitVec.ofNat 64 (hsctlValue old.toNat new.toNat)
    (old.getLsbD 0 = true → r.extractLsb' 7 9 = old.extractLsb' 7 9) ∧ r.extractLsb' 16 16 = new.extractLsb' 16 16 ∧
    (old.getLsbD 0 = false → r.extractLsb' 7 9 = new.extractLsb' 7 9 ∧ (r.getLsbD 0 = true ↔ new.getLsbD 0 = true ∧ 4 ≤ (new.extractLsb' 11 5).toNat ∧
      (new.extractLsb' 11 5).toNat ≤ 20 ∧ 6 ≤ (new.extractLsb' 7 4).toNat)) := by
  refine ⟨fun on => ?kept, ?target, fun off => ⟨?set, ?enable⟩⟩
  case kept =>
    exact extractLsb'_ofNat_eq (by decide) fun i lo hi =>
      (testBit_hsctlValue _ _ ⟨by omega, by omega⟩).trans (testBit_hsctlFields_kept _ ((bit_toNat old 0).trans on) ⟨by omega, by omega⟩)
  case target =>
    exact extractLsb'_ofNat_eq (by decide) fun i lo hi =>
      (testBit_hsctlValue _ _ ⟨by omega, by omega⟩).trans (testBit_hsctlFields_target _ _ ⟨lo, by omega⟩)
  case set =>
    exact extractLsb'_ofNat_eq (by decide) fun i lo hi =>
      (testBit_hsctlValue _ _ ⟨by omega, by omega⟩).trans (testBit_hsctlFields_set _ ((bit_toNat old 0).trans off) ⟨lo, by omega⟩)
  case enable =>
    rw [BitVec.getLsbD_ofNat, testBit_hsctlValue_zero, hsctlInRange_fields _ ((bit_toNat old 0).trans off), bit_toNat, ← hsctlInRange_iff, decide_eq_true (by decide : 0 < 64),
      Bool.true_and, Bool.and_eq_true]

theorem gives_hsctlWrite (s : State) (t : Nat) (v : DWord) : Gives .hsctlWrite (.hsctlWrite t v) s (fun s =>
    let old := nget 0 s.ten.hsctl t
    let new := hsctlValue old v.toNat
    { s with ten.hsctl := nset 0 s.ten.hsctl t new, ten.hsWait := if bit old 0 = false ∧ bit new 0 = true then s.ten.hsWait.filter (fun w => w.1 != t) else s.ten.hsWait }) := by
  refine ⟨rfl, congrArg Host.Outcome.next ?_⟩
  by_cases starts : bit (nget 0 s.ten.hsctl t) 0 = false ∧ bit (hsctlValue (nget 0 s.ten.hsctl t) v.toNat) 0 = true
  · simp [State.hears_op, starts]
  · have no : (!bit (nget 0 s.ten.hsctl t) 0 && bit (hsctlValue (nget 0 s.ten.hsctl t) v.toNat) 0) = false := by simpa using starts
    simp [State.hears_op, starts, no]

/-- Settles O48, event by event. -/
theorem releaseAndErrorEvents : Obligations.ReleaseAndErrorEvents := by
  refine fun s r c g kind addr aux t v => ⟨fun found => ⟨fun acked plain => ?plain, fun acked acq loads => ?acquire, gives_releaseComplete_waits found⟩, ?drained, ?drains, ?corrected, ?cellar, gives_softError_memory,
    gives_softError_directory, ⟨rfl, rfl⟩, gives_hsctlWrite s t v, hsctlValue_fields⟩
  case plain => exact gives_releaseComplete found (State.releaseComplete_plain (s := s.hears _) found acked plain) rfl
  case acquire => exact gives_releaseComplete found (State.releaseComplete_acquire (s := s.hears _) found acked acq loads) (State.acquire_rels ..)
  case drained => exact fun none => gives_storeEntryDrainComplete (State.entryDrained_of_none (s := s.hears _) none)
  case drains => exact fun some => gives_storeEntryDrainComplete (State.entryDrained_of_some (s := s.hears _) some)
  case corrected => exact fun h0 hk => gives_softError (State.softError_corrected h0 hk)
  case cellar => exact gives_softError (State.softError_lost_small (by decide) (.inr (by decide)) (by decide))

end Sys2Proof.Machine
end

section
/-! SUPPORT. Copy aliases in the making (R112, R117, R118, R120, R121): what each message comes to for the piece, the source line or the hot entry that it names. -/

namespace Sys2Proof.Machine

open Sys2Proof

variable {s : State} {p : Piece} {c : Cmd} {id home line : Nat}

/-! ## Pieces -/

/-- A piece changed in its fields other than its number is still found by it. -/
theorem State.updPiece_piece (found : s.piece p.id = some p) {f : Piece → Piece} (keeps : ∀ q, (f q).id = q.id) : (s.updPiece p.id f).piece p.id = some (f p) := by
  have same : ((fun q : Piece => q.id == p.id) ∘ fun q => if q.id = p.id then f q else q) = fun q => q.id == p.id := by
    funext q
    by_cases mine : q.id = p.id <;> simp [mine, keeps]
  have named : s.ali.pieces.find? (fun q => q.id == p.id) = some p := found
  simp only [State.piece, State.updPiece, List.find?_map, same, named, Option.map_some, if_true]

theorem State.pokeCmd_eq (s : State) (n : Nat) : ∃ es, s.pokeCmd n = s.sendAll es := by
  unfold State.pokeCmd
  split
  · exact ⟨[], by simp [State.sendAll]⟩
  · exact ⟨[.engineCommandComplete n], rfl⟩

section
variable (s : State) (p : Piece)

/-- A piece acknowledged to its engine leaves its home, and no byte or mark of memory changes with it. -/
theorem State.pieceDone_eq : ∃ es, s.pieceDone p =
    ({ s with ali.pieces := s.ali.pieces.filter (fun x => x.id != p.id) }.updCmd p.cmd (fun c => { c with pieces := c.pieces.filter (fun x => x != p.id) })).sendAll es := State.pokeCmd_eq ..

theorem State.pieceDone_ali : (s.pieceDone p).ali = { s.ali with pieces := s.ali.pieces.filter (fun x => x.id != p.id) } := by
  obtain ⟨es, done⟩ := s.pieceDone_eq p
  rw [done]
  rfl

theorem State.pieceDone_mem : (s.pieceDone p).mem = s.mem := by
  obtain ⟨es, done⟩ := s.pieceDone_eq p
  rw [done]
  rfl

theorem State.pieceDone_mm : (s.pieceDone p).mm = s.mm := by
  obtain ⟨es, done⟩ := s.pieceDone_eq p
  rw [done]
  rfl

end

/-- A line with no entry over it has nothing to materialise before a write. -/
theorem State.destWrite_of_none (free : s.aliasesOn line = []) : s.destWrite line = s := by
  rw [State.destWrite, free]
  rfl

/-! ## Marks in DEPH -/

theorem bit_eq_testBit (x i : Nat) : bit x i = x.testBit i := (Nat.testBit_eq_decide_div_mod_eq ..).symm

/-- DEPH of a line with the bit of a home set (R112). -/
def markDeph (home : Nat) (m : NMap Nat) (line : Nat) : NMap Nat := nset 0 m line (setBit (nget 0 m line) home true)

theorem bit_markDeph (home : Nat) (m : NMap Nat) (k line : Nat) : bit (nget 0 (markDeph home m k) line) home = (decide (line = k) || bit (nget 0 m line) home) := by
  by_cases here : line = k
  · subst here
    rw [markDeph, nget_nset_self, bit_eq_testBit, testBit_setBit, if_pos rfl, decide_eq_true rfl, Bool.true_or]
  · rw [markDeph, nget_nset_ne _ _ _ here, decide_eq_false here, Bool.false_or]

/-- Every line that is marked has the bit, and none loses it. -/
theorem bit_foldl_markDeph (home : Nat) (ls : List Nat) (m : NMap Nat) {line : Nat} (marked : line ∈ ls ∨ bit (nget 0 m line) home = true) :
    bit (nget 0 (ls.foldl (markDeph home) m) line) home = true := by
  induction ls generalizing m with
  | nil => simpa using marked
  | cons k ls ih =>
    refine ih _ ?_
    rw [bit_markDeph]
    simp only [List.mem_cons] at marked
    simp only [Bool.or_eq_true, decide_eq_true_eq]
    tauto

theorem State.foldl_markDeph (home : Nat) (ls : List Nat) (s : State) :
    ls.foldl (fun (s : State) l => { s with mm.deph := nset 0 s.mm.deph l (setBit (nget 0 s.mm.deph l) home true) }) s = { s with mm.deph := ls.foldl (markDeph home) s.mm.deph } := by
  induction ls generalizing s with
  | nil => rfl
  | cons k ls ih => exact ih _

/-! ## Recording -/

theorem gives_aliasRecord {f : State → State} (h : (s.hears (.aliasRecord id)).aliasRecord id = f (s.hears (.aliasRecord id))) : Gives .aliasRecord (.aliasRecord id) s f :=
  ⟨rfl, congrArg Host.Outcome.next h⟩

section
variable (found : s.piece p.id = some p) (issued : s.cmd p.cmd = some c)
include found issued

theorem State.aliasRecord_arrived (h : p.stage = 0) : s.aliasRecord p.id = s.recordPiece p c := by
  simp only [State.aliasRecord, found, issued, h]

theorem State.aliasRecord_marked (h : p.stage = 4) : s.aliasRecord p.id = s.installPiece p c := by
  simp only [State.aliasRecord, found, issued, h]

end

/-- The homes of the source extent that a piece asks. -/
def Alias.sourceHomes (e : Alias) : List Nat := rangeHomes (aliasExtent e).1 (aliasExtent e).2

/-- Lines with no entry over them have nothing to materialise before they are written. -/
theorem State.foldl_destWrite_of_none {ls : List Nat} (free : ∀ l ∈ ls, s.aliasesOn l = []) : ls.foldl (fun (s : State) l => s.destWrite l) s = s :=
  List.foldlRecOn (motive := fun t => t = s) ls _ rfl fun _ same l hl => same.symm ▸ State.destWrite_of_none (free l hl)

/-- A piece may be recorded (R112, R114, R117): its lines may be pinned, no world holds them, no earlier piece has begun on them, its home has room for its entries, and its bytes and those of its
source are apart and lie in HBM, in no world's ways. -/
structure State.Records (s : State) (p : Piece) (c : Cmd) : Prop where
  room : ∀ l ∈ p.entry.lines, s.pinRoom l = true
  inside : s.pieceOutsider c p.entry = none
  first : ∀ q ∈ s.ali.pieces, q.id < p.id → 1 ≤ q.stage → meet q.entry.range p.entry.range = false
  few : s.usedSoon p.entry.home p.id < s.ali.limit
  apart : meet (aliasExtent p.entry) p.entry.range = false
  dst : isHbm p.entry.dbase = true
  dstEnd : isHbm (p.entry.dbase + p.entry.len - 1) = true
  src : isHbm (aliasExtent p.entry).1 = true
  srcEnd : isHbm ((aliasExtent p.entry).1 + (aliasExtent p.entry).2 - 1) = true
  plain : s.worldSources p.entry = []

/-- A piece that may be recorded, and whose destination no entry covers, asks the homes of its source (R117). -/
theorem State.recordPiece_asks (may : s.Records p c) (free : ∀ l ∈ p.entry.lines, s.aliasesOn l = []) : s.recordPiece p c =
    (s.updPiece p.id (fun q => { q with stage := 1, parts := [], asked := [], due := p.entry.sourceHomes, stale := false, failed := false, marks := [], caught := [] })).sendAll
      (p.entry.sourceHomes.map (fun h => .aliasResolve p.id h)) := by
  have goes : (s.ali.pieces.any (fun q => decide (q.id < p.id) && decide (1 ≤ q.stage) && meet q.entry.range p.entry.range) || !p.entry.lines.all s.pinRoom) = false := by
    simpa [List.all_eq_true.mpr may.room] using may.first
  have recorded : (decide (s.ali.limit ≤ s.usedSoon p.entry.home p.id) || meet (aliasExtent p.entry) p.entry.range || !isHbm (p.entry.dbase + p.entry.len - 1) || !isHbm p.entry.dbase ||
      !isHbm (aliasExtent p.entry).1 || !isHbm ((aliasExtent p.entry).1 + (aliasExtent p.entry).2 - 1)) = false := by
    simpa [may.apart, may.dst, may.dstEnd, may.src, may.srcEnd] using may.few
  simp only [State.recordPiece, goes, recorded, may.inside, may.plain, State.foldl_destWrite_of_none free, List.isEmpty_nil, Bool.not_true, Bool.false_eq_true, if_false]
  rfl

/-! ## Installation -/

/-- A host that may hold a line is told of its write, and nothing but what it holds and hears changes (R31). -/
theorem State.snoopHost_eq (s : State) (line : Nat) (bs : Patch) : ∃ hst, s.snoopHost line bs = { s with host := hst } := by
  refine List.foldlRecOn (motive := fun t => ∃ hst, t = { s with host := hst }) _ _ ⟨s.host, rfl⟩ ?_
  rintro _ ⟨hst, rfl⟩ lent -
  exact ⟨_, rfl⟩

/-- The writes of destination lines with no entry over them do no more than tell the hosts. -/
theorem State.foldl_write_of_none {ls : List Nat} (free : ∀ l ∈ ls, s.aliasesOn l = []) (bs : Nat → Patch) :
    ∃ hst, ls.foldl (fun (s : State) l => (s.destWrite l).snoopHost l (bs l)) s = { s with host := hst } := by
  refine List.foldlRecOn (motive := fun t => ∃ hst, t = { s with host := hst }) ls _ ⟨s.host, rfl⟩ ?_
  rintro _ ⟨hst, rfl⟩ l hl
  have nothing : ({ s with host := hst } : State).destWrite l = { s with host := hst } := State.destWrite_of_none (s := { s with host := hst }) (free l hl)
  rw [nothing]
  exact State.snoopHost_eq { s with host := hst } l (bs l)

theorem State.foldl_clearWords_eq (ws : List Nat) (s : State) : ∃ ps, ws.foldl (fun (s : State) w => s.setPoison w false) s = { s with mm.pois := ps } := by
  simpa only [Nat.mul_zero, Nat.zero_add] using State.foldl_setPoison_eq 0 ws s

theorem State.putCaught_of_none (h : p.caught = []) : s.putCaught p = s := by
  rw [State.putCaught, h]
  rfl

/-- The lines of its destination that a piece also takes bytes from. -/
def Piece.ownSources (p : Piece) : List Nat := p.entry.lines.filter (fun l => p.parts.any (fun e => meet (aliasExtent e) (128 * l, 128)))

/-- No L2 slice holds a line of some, or is still invalidating one. -/
def State.Unshared (s : State) (ls : List Nat) : Prop := (∀ l ∈ s.coh.l2, l.line ∉ ls) ∧ ∀ t ∈ s.coh.txs, t.inval = true → t.line ∉ ls

theorem State.Unshared.copies {ls : List Nat} (h : s.Unshared ls) : s.coh.l2.filter (fun l => ls.contains l.line) = [] := by
  simpa using h.1

theorem State.Unshared.invalidations {ls : List Nat} (h : s.Unshared ls) : s.coh.txs.any (fun t => t.inval && ls.contains t.line) = false := by
  simpa using h.2

section
variable (fresh : p.stale = false)
include fresh

theorem State.installPiece_outside {w : Nat × Nat} (outside : s.pieceOutsider c p.entry = some w) : s.installPiece p c = (s.sealWr (128 * w.2) w.1 c.tenant).pieceDone p := by
  simp only [State.installPiece, fresh, outside, Bool.false_eq_true, if_false]

variable (inside : s.pieceOutsider c p.entry = none) (alone : s.Unshared p.entry.lines)
include inside alone

/-- A piece whose destination has dependents takes the source-write steps first (R118, R405). -/
theorem State.installPiece_asks (one : p.entry.lines = [line]) (deps : s.dephHomes line ≠ []) : s.installPiece p c = (s.askSources line).wait (.aliasRecord p.id) := by
  have any : p.entry.lines.any (fun l => !(s.dephHomes l).isEmpty) = true := by simp [one, deps]
  have asked : p.entry.lines.filter (fun l => !(s.dephHomes l).isEmpty) = [line] := by simp [one, deps]
  simp only [State.installPiece, fresh, inside, alone.copies, alone.invalidations, List.isEmpty_nil, Bool.not_true, Bool.or_self, Bool.false_eq_true, if_false, any, if_true, asked, List.foldl_cons,
    List.foldl_nil]

/-- A piece whose destination has neither sharers, entries nor dependents left installs its entries, marks the lines that are source and destination, and clears the poison of the words that it
writes whole (R117, R405, R409). -/
theorem State.installPiece_installs (uncaught : p.caught = []) (free : ∀ l ∈ p.entry.lines, s.aliasesOn l = [] ∧ s.dephHomes l = []) : ∃ hst ps, s.installPiece p c =
    ({ s with host := hst, mm.pois := ps, mm.deph := p.ownSources.foldl (markDeph p.entry.home) s.mm.deph, ali.pieces := s.ali.pieces.filter (fun x => x.id != p.id),
              ali.entries := s.ali.entries ++ p.parts } : State).pieceDone p := by
  have none : p.entry.lines.any (fun l => !(s.dephHomes l).isEmpty) = false := by simpa using fun l hl => (free l hl).2
  obtain ⟨hst, written⟩ := State.foldl_write_of_none (s := { s with ali.pieces := s.ali.pieces.filter (fun x => x.id != p.id) }) (fun l hl => (free l hl).1)
    (fun l => (List.range 128).filterMap (fun i => if meet p.entry.range (128 * l + i, 1) then some (i, 0) else Option.none))
  obtain ⟨ps, cleared⟩ := State.foldl_clearWords_eq p.entry.wholeWords
    { s with host := hst, mm.deph := p.ownSources.foldl (markDeph p.entry.home) s.mm.deph, ali.pieces := s.ali.pieces.filter (fun x => x.id != p.id) }
  refine ⟨hst, ps, ?_⟩
  simp only [State.installPiece, fresh, inside, alone.copies, alone.invalidations, none, List.isEmpty_nil, Bool.not_true, Bool.or_self, Bool.false_eq_true, if_false, written, State.foldl_markDeph,
    State.putCaught_of_none uncaught]
  exact congrArg (fun t : State => ({ t with ali.entries := t.ali.entries ++ p.parts } : State).pieceDone p) cleared

end

/-- A line of the destination that the piece also takes bytes from keeps the bit of its home (R405). -/
theorem Piece.mem_ownSources {l : Nat} : l ∈ p.ownSources ↔ l ∈ p.entry.lines ∧ p.parts.any (fun e => meet (aliasExtent e) (128 * l, 128)) = true := List.mem_filter

theorem happens_aliasRecord_installs (found : s.piece p.id = some p) (issued : s.cmd p.cmd = some c) (last : p.stage = 4) (fresh : p.stale = false)
    (inside : s.pieceOutsider c p.entry = none) (uncaught : p.caught = []) (alone : s.Unshared p.entry.lines) (free : ∀ l ∈ p.entry.lines, s.aliasesOn l = [] ∧ s.dephHomes l = []) :
    Happens .aliasRecord (.aliasRecord p.id) s (fun t => t.ali.entries = s.ali.entries ++ p.parts ∧ t.mem = s.mem ∧ (∀ q ∈ t.ali.pieces, q.id ≠ p.id) ∧
      ∀ l ∈ p.entry.lines, p.parts.any (fun x => meet (aliasExtent x) (128 * l, 128)) = true → bit (nget 0 t.mm.deph l) p.entry.home = true) := by
  obtain ⟨hst, ps, installs⟩ := State.installPiece_installs (s := s.hears (.aliasRecord p.id)) fresh inside alone uncaught free
  refine ⟨rfl, _, congrArg Host.Outcome.next ((State.aliasRecord_marked (s := s.hears _) found issued last).trans installs), ?_⟩
  beta_reduce
  rw [State.pieceDone_ali, State.pieceDone_mem, State.pieceDone_mm]
  refine ⟨rfl, rfl, fun q hq => by simpa using (List.mem_filter.mp hq).2, fun l hl taken => ?_⟩
  exact bit_foldl_markDeph p.entry.home _ _ (.inl (Piece.mem_ownSources.mpr ⟨hl, taken⟩))

/-! ## Resolution -/

section
variable (none : s.ali.entries = [])
include none

theorem State.entriesOver_of_none (home : Nat) (r : Nat × Nat) : s.entriesOver home r = [] := by
  rw [State.entriesOver, none]
  rfl

theorem State.holdEntries_of_none (n : Nat) (es : List Alias) : s.holdEntries n es = s := by
  have same : s.ali.entries.map (fun (e : Alias) => if es.any (fun x => sameAlias x e) then { e with holders := addSorted e.holders n } else e) = s.ali.entries := by
    rw [none]
    rfl
  rw [State.holdEntries, same]

end

/-- The parts of an identity piece whose source bytes have a home, where no entry covers them (R120). -/
def Alias.plainParts (e : Alias) (home : Nat) : List Alias :=
  (homeParts e.sbase e.len home).flatMap (fun g => if g.1 < g.2 then [composePart e (g.1, g.2 - g.1, none)] else [])

/-- A fold whose steps leave the state and add to a list collects what they add. -/
theorem foldl_collects {β γ : Type} {f : State × List γ → β → State × List γ} {k : β → List γ} (step : ∀ acc x, f (s, acc) x = (s, acc ++ k x)) (l : List β) (acc : List γ) :
    l.foldl f (s, acc) = (s, acc ++ l.flatMap k) := by
  induction l generalizing acc with
  | nil => simp
  | cons x l ih => rw [List.foldl_cons, step, ih, List.flatMap_cons, List.append_assoc]

/-- A home without entries answers for an identity piece with plain parts. -/
theorem State.resolvePlain_of_none (none : s.ali.entries = []) (n : Nat) (e : Alias) (home : Nat) : s.resolvePlain n e home = (s, e.plainParts home) := by
  have parts (g : Nat × Nat) : (coverParts g.1 g.2 []).map (composePart e) = if g.1 < g.2 then [composePart e (g.1, g.2 - g.1, Option.none)] else [] := by
    rw [coverParts]
    split <;> rfl
  refine (foldl_collects (k := fun g : Nat × Nat => if g.1 < g.2 then [composePart e (g.1, g.2 - g.1, Option.none)] else []) (fun acc g => ?_) _ []).trans rfl
  have uncovered : sortBy (fun c : Nat × Nat × Alias => c.1) [] = [] := rfl
  simp only [State.entriesOver_of_none none, State.holdEntries_of_none none, List.filter_nil, List.foldl_nil, List.flatMap_nil, uncovered, parts]

theorem gives_aliasResolveReply {f : State → State} (h : (s.hears (.aliasResolveReply id home)).resolveReply id = f (s.hears (.aliasResolveReply id home))) :
    Gives .aliasResolveReply (.aliasResolveReply id home) s f := ⟨rfl, congrArg Host.Outcome.next h⟩

section
variable (found : s.piece p.id = some p) (asking : p.stage = 1)
include found asking

/-- The answer of a home without entries to an identity piece (R117, R120). -/
theorem State.aliasResolve_plain (plain : p.entry.xform = 0) (none : s.ali.entries = []) (home : Nat) : s.aliasResolve p.id home =
    (s.updPiece p.id (fun q => { q with parts := q.parts ++ p.entry.plainParts home, asked := q.asked ++ [home] })).send (.aliasResolveReply p.id home) := by
  simp only [State.aliasResolve, found, asking, plain, State.resolvePlain_of_none none, bne_self_eq_false, Bool.false_eq_true, if_false, if_true]

theorem happens_aliasResolve (plain : p.entry.xform = 0) (none : s.ali.entries = []) : Happens .aliasResolve (.aliasResolve p.id home) s (fun t => t.mem = s.mem ∧
    Ev.aliasResolveReply p.id home ∈ t.ctl.agenda ∧ ∃ q, t.piece p.id = some q ∧ q.asked = p.asked ++ [home] ∧ q.parts = p.parts ++ p.entry.plainParts home) := by
  refine ⟨rfl, _, congrArg Host.Outcome.next (State.aliasResolve_plain (s := s.hears _) found asking plain none home), rfl, List.mem_concat_self, ?_⟩
  exact ⟨_, State.updPiece_piece (s := s.hears _) found fun _ => rfl, rfl, rfl⟩

/-- An answer that is not the last. -/
theorem State.resolveReply_next (more : p.due.drop 1 ≠ []) : s.resolveReply p.id = s.updPiece p.id (fun q => { q with due := p.due.drop 1 }) := by
  have waits : (!(p.due.drop 1).isEmpty) = true := by simpa using more
  simp only [State.resolveReply, found, asking, waits, bne_self_eq_false, Bool.false_eq_true, if_false, if_true]

end

theorem composePart_fields (p : Alias) (a n : Nat) (x : Alias) : (composePart p (a, n, none)).sbase = a ∧ (x.xform = 0 → (composePart p (a, n, some x)).sbase = x.sbase + (a - x.dbase)) ∧
    (composePart p (a, n, some x)).dbase = p.dbase + (a - p.sbase) ∧ (composePart p (a, n, some x)).len = n := by
  by_cases plain : x.xform = 0 <;> simp [composePart, plain]

/-! ## Marks and releases -/

theorem gives_marked {f : State → State} (h : (s.hears (.marked id line)).markedReply id = f (s.hears (.marked id line))) : Gives .marked (.marked id line) s f :=
  ⟨rfl, congrArg Host.Outcome.next h⟩

theorem gives_mark {f : State → State} (h : (s.hears (.mark id line)).markGranule id line = f (s.hears (.mark id line))) : Gives .mark (.mark id line) s f :=
  ⟨rfl, congrArg Host.Outcome.next h⟩

/-- The lines of a granule that a piece's parts take bytes from. -/
def Piece.sourceLines (p : Piece) (g : Nat) : List Nat := ((List.range 32).map (fun i => g * 32 + i)).filter (fun l => p.parts.any (fun e => meet (aliasExtent e) (128 * l, 128)))

theorem Piece.mem_sourceLines {l g : Nat} : l ∈ p.sourceLines g ↔ l / 32 = g ∧ p.parts.any (fun e => meet (aliasExtent e) (128 * l, 128)) = true := by
  have inGranule : (∃ i < 32, g * 32 + i = l) ↔ l / 32 = g := ⟨by omega, fun h => ⟨l % 32, by omega, by omega⟩⟩
  simp only [Piece.sourceLines, List.mem_filter, List.mem_map, List.mem_range, inGranule]

section
variable (found : s.piece p.id = some p) (marking : p.stage = 2)
include found marking

theorem State.markedReply_next (more : p.due.drop 1 ≠ []) : s.markedReply p.id = s.updPiece p.id (fun q => { q with due := p.due.drop 1 }) := by
  have waits : (!(p.due.drop 1).isEmpty) = true := by simpa using more
  simp only [State.markedReply, found, marking, waits, bne_self_eq_false, Bool.false_eq_true, if_false, if_true]

theorem State.markedReply_records (last : p.due.drop 1 = []) (unheld : p.asked = []) :
    s.markedReply p.id = (s.updPiece p.id (fun q => { q with due := [], stage := 4 })).send (.aliasRecord p.id) := by
  simp only [State.markedReply, found, marking, last, unheld, List.isEmpty_nil, Bool.not_true, bne_self_eq_false, Bool.false_eq_true, if_false, if_true]

theorem State.markedReply_releases (last : p.due.drop 1 = []) (held : p.asked ≠ []) :
    s.markedReply p.id = (s.updPiece p.id (fun q => { q with due := [], stage := 3 })).sendAll (p.asked.map (fun h => .holdRelease p.id h)) := by
  have some : p.asked.isEmpty = false := by simpa using held
  simp only [State.markedReply, found, marking, last, some, List.isEmpty_nil, Bool.not_true, bne_self_eq_false, Bool.false_eq_true, if_false]

theorem State.markGranule_waits (h : s.granuleBusy (line / 32) = true ∨ s.granuleOwed (line / 32) = true) : s.markGranule p.id line = s.wait (.mark p.id line) := by
  have waits : (s.granuleBusy (line / 32) || s.granuleOwed (line / 32)) = true := Bool.or_eq_true_iff.mpr h
  simp only [State.markGranule, found, marking, waits, bne_self_eq_false, Bool.false_eq_true, if_false, if_true]

section
variable (idle : s.granuleBusy (line / 32) = false) (paid : s.granuleOwed (line / 32) = false) (kept : s.partWorlds p (line / 32) = [])
include idle paid kept

/-- A granule with no write waiting, no acknowledged store owed and no line in a world's ways is marked (R117, R162). -/
theorem State.markGranule_marks : ∃ covered, s.markGranule p.id line = ({ s with mm.deph := (p.sourceLines (line / 32)).foldl (markDeph p.entry.home) s.mm.deph }.updPiece p.id
    (fun q => { q with marks := line / 32 :: q.marks, stale := q.stale || covered })).send (.marked p.id line) := by
  simp only [State.markGranule, found, marking, idle, paid, kept, State.foldl_markDeph, List.isEmpty_nil, Bool.not_true, Bool.or_self, bne_self_eq_false, Bool.false_eq_true, if_false]
  exact ⟨_, rfl⟩

theorem happens_mark : Happens .mark (.mark p.id line) s (fun t => t.mem = s.mem ∧ Ev.marked p.id line ∈ t.ctl.agenda ∧
    ∀ l, l / 32 = line / 32 → p.parts.any (fun x => meet (aliasExtent x) (128 * l, 128)) = true → bit (nget 0 t.mm.deph l) p.entry.home = true) := by
  obtain ⟨covered, marks⟩ := State.markGranule_marks (s := s.hears (.mark p.id line)) found marking idle paid kept
  refine ⟨rfl, _, congrArg Host.Outcome.next marks, rfl, List.mem_concat_self, fun l inGranule taken => ?_⟩
  exact bit_foldl_markDeph p.entry.home _ _ (.inl (Piece.mem_sourceLines.mpr ⟨inGranule, taken⟩))

end

end

/-- An entry once a home has released a piece's hold (R117). -/
def Alias.released (n home : Nat) (e : Alias) : Alias :=
  if e.home == home && e.holders.contains n then { e with holders := e.holders.erase n, stale := e.stale && decide (1 < e.holders.length) } else e

theorem Alias.released_home (n home : Nat) (e : Alias) : (e.released n home).home = e.home := by
  unfold Alias.released
  split <;> rfl

theorem Alias.released_holders {n home : Nat} {e : Alias} (here : e.home = home) (once : e.holders.Nodup) : n ∉ (e.released n home).holders := by
  unfold Alias.released
  by_cases held : n ∈ e.holders
  · simp [here, held, once.mem_erase_iff]
  · simp [held]

/-- A piece whose holds are released, with what a home says of STALE: one that was to be recorded is in its last step (R117). -/
def Piece.letGo (p : Piece) (stale : Bool) : Piece := { p with asked := [], stale := p.stale || stale, stage := if p.stage == 3 then 4 else p.stage }

theorem State.foldl_hotFreed_eq (es : List Alias) (s : State) : ∃ hm : NMap Nat, es.foldl (fun (s : State) e => s.hotFreed e.home) s = { s with ali.hotmat := hm } := by
  refine List.foldlRecOn (motive := fun t => ∃ hm : NMap Nat, t = { s with ali.hotmat := hm }) es _ ⟨s.ali.hotmat, rfl⟩ ?_
  rintro _ ⟨hm, rfl⟩ e -
  exact ⟨_, rfl⟩

section
variable (found : s.piece p.id = some p) (releasing : p.stage = 3) (last : p.asked = [home])
include found releasing last

/-- With the last home's hold released the piece goes on to its record. -/
theorem State.releaseHold_last : ∃ hm stale, s.releaseHold p.id home =
    ({ s with ali.hotmat := hm, ali.entries := (s.ali.entries.map (Alias.released p.id home)).filter (fun e => !e.left.isEmpty || e.hold) }.updPiece p.id
      (fun q => q.letGo stale)).send (.aliasRecord p.id) := by
  obtain ⟨hm, freed⟩ := State.foldl_hotFreed_eq ((s.ali.entries.map (Alias.released p.id home)).filter (fun e => e.left.isEmpty && !e.hold && e.hot && !s.ali.queue.contains (e.home, e.dbase)))
    { s with ali.entries := (s.ali.entries.map (Alias.released p.id home)).filter (fun e => !e.left.isEmpty || e.hold) }
  refine ⟨hm, s.ali.entries.any (fun e => e.home == home && e.holders.contains p.id && e.stale), ?_⟩
  have none : p.asked.erase home = [] := by rw [last, List.erase_cons_head]
  unfold State.releaseHold
  simp only [found, releasing, none]
  exact congrArg (fun t : State => (t.updPiece p.id (fun q => q.letGo (s.ali.entries.any (fun e => e.home == home && e.holders.contains p.id && e.stale)))).send (.aliasRecord p.id)) freed

theorem happens_holdRelease (once : ∀ x ∈ s.ali.entries, x.holders.Nodup) : Happens .holdRelease (.holdRelease p.id home) s (fun t => t.mem = s.mem ∧ Ev.aliasRecord p.id ∈ t.ctl.agenda ∧
    (∃ q, t.piece p.id = some q ∧ q.stage = 4 ∧ q.asked = []) ∧ ∀ x ∈ t.ali.entries, x.home = home → p.id ∉ x.holders) := by
  obtain ⟨hm, stale, released⟩ := State.releaseHold_last (s := s.hears (.holdRelease p.id home)) found releasing last
  refine ⟨rfl, _, congrArg Host.Outcome.next released, rfl, List.mem_concat_self, ⟨_, State.updPiece_piece (s := { s with ali.hotmat := hm, ali.entries := _ }) found fun _ => rfl, ?_, rfl⟩, ?_⟩
  · simp [Piece.letGo, releasing]
  · intro x hx here
    obtain ⟨e, he, rfl⟩ := List.mem_map.mp (List.mem_filter.mp hx).1
    exact Alias.released_holders ((Alias.released_home ..).symm.trans here) (once e he)

end

/-! ## Source writes -/

theorem gives_srcack {f : State → State} (h : (s.hears (.srcack line home)).srcAck line home = f (s.hears (.srcack line home))) : Gives .srcack (.srcack line home) s f :=
  ⟨rfl, congrArg Host.Outcome.next h⟩

/-- The last answer that a write waits for lets it go on, before the writes that came after it, and clears DEPH of its line (R118, R320). -/
theorem State.srcAck_last {x : Tx} (only : s.coh.txs = [x]) (here : x.line = line) (waits : x.waitSrc = [home]) (others : ∀ a ∈ s.ali.srcAcks, a.1 ≠ line ∧ a.2 ≠ []) :
    s.srcAck line home = ({ s with coh.txs := [{ x with waitSrc := [] }], mm.deph := nset 0 s.mm.deph line 0 } : State).waitFirst [.homeStore x.id] := by
  have answered : s.coh.txs.filter (fun t => t.line == line && t.waitSrc.contains home) = [x] := by simp [only, here, waits]
  have same : s.ali.srcAcks.map (fun a => if a.1 = line then (a.1, a.2.erase home) else a) = s.ali.srcAcks :=
    (List.map_congr_left fun a ha => if_neg (others a ha).1).trans (List.map_id _)
  have kept : s.ali.srcAcks.filter (fun a => !a.2.isEmpty) = s.ali.srcAcks := List.filter_eq_self.mpr fun a ha => by simpa using (others a ha).2
  have updated : s.updTx x.id (fun t => { t with waitSrc := t.waitSrc.erase home }) = { s with coh.txs := [{ x with waitSrc := [] }] } := by simp [State.updTx, only, waits]
  have ready : [x].filter (fun t => (t.waitSrc.erase home).isEmpty) = [x] := by simp [waits]
  simp only [State.srcAck, answered, List.foldl_cons, List.foldl_nil, updated, ready, same, kept, List.isEmpty_cons, Bool.false_and, Bool.false_eq_true, if_false, List.map_cons, List.map_nil]

theorem happens_srcack {x : Tx} (only : s.coh.txs = [x]) (here : x.line = line) (waits : x.waitSrc = [home]) (others : ∀ a ∈ s.ali.srcAcks, a.1 ≠ line ∧ a.2 ≠ []) :
    Happens .srcack (.srcack line home) s (fun t => t.mem = s.mem ∧ nget 0 t.mm.deph line = 0 ∧ t.ctl.waiting = .homeStore x.id :: s.ctl.waiting ∧ ∀ y ∈ t.coh.txs, y.waitSrc = []) := by
  refine ⟨rfl, _, congrArg Host.Outcome.next (State.srcAck_last (s := s.hears _) only here waits others), rfl, nget_nset_self (0 : Nat) s.mm.deph line 0, rfl, ?_⟩
  exact List.forall_mem_singleton.mpr rfl

/-- The last answer for a line that no write waits for. -/
theorem State.srcAck_clears (idle : s.coh.txs = []) (asked : s.ali.srcAcks = [(line, [home])]) :
    s.srcAck line home = { s with ali.srcAcks := [], mm.deph := nset 0 s.mm.deph line 0 } := by
  simp [State.srcAck, idle, asked, State.waitFirst]

/-! ## Hot entries -/

theorem gives_hotMaterialise {f : State → State} (h : (s.hears (.hotMaterialise home)).hotOne home = f (s.hears (.hotMaterialise home))) :
    Gives .hotMaterialise (.hotMaterialise home) s f := ⟨rfl, congrArg Host.Outcome.next h⟩

/-- The entry that a queued destination address names at its home, as long as it is hot and covers bytes. -/
def State.hotEntry (s : State) (home dbase : Nat) : Option Alias := s.ali.entries.find? (fun e => e.home == home && e.dbase == dbase && e.hot && !e.left.isEmpty)

section
variable {dbase : Nat} (queued : s.ali.queue = [(home, dbase)])
include queued

theorem State.hotOne_waits (h : s.ali.hot = 0 ∨ s.homeBusy home = true) : s.hotOne home = s.wait (.hotMaterialise home) := by
  have waits : (decide (s.ali.hot = 0) || s.homeBusy home) = true := by simpa using h
  simp [State.hotOne, queued, waits]

variable (on : s.ali.hot ≠ 0) (idle : s.homeBusy home = false)
include on idle

theorem State.hotOne_gone (none : s.hotEntry home dbase = none) : s.hotOne home = { s with ali.queue := [] } := by
  rw [State.hotEntry] at none
  simp [State.hotOne, queued, on, idle, none]

theorem State.hotOne_materialises {x : Alias} (some : s.hotEntry home dbase = some x) : s.hotOne home =
    (let t := { s with ali.queue := [] }.materialise x (aliasLines x)
     if x.hold then t else t.hotFreed home) := by
  rw [State.hotEntry] at some
  simp [State.hotOne, queued, on, idle, some]

end

/-! ## CATCTL -/

theorem gives_catctlWrite (s : State) (v : DWord) :
    Gives .catctlWrite (.catctlWrite v) s (fun s => { s with ali.limit := min 8192 (v.extractLsb' 16 14).toNat, ali.hot := (v.extractLsb' 0 8).toNat }) := by
  have limit : (v.extractLsb' 16 14).toNat = bits v.toNat 29 16 := toNat_extractLsb' v 16 14
  have hot : (v.extractLsb' 0 8).toNat = bits v.toNat 7 0 := toNat_extractLsb' v 0 8
  simp only [limit, hot]
  exact ⟨rfl, rfl⟩

/-- Settles O49, message by message. -/
theorem aliasEvents : Obligations.AliasEvents := by
  intro s p c h line v found issued e ext
  refine ⟨?asks, ?installs, ?outside, ?sources, fun asking plain none => happens_aliasResolve found asking plain none, fun a n x => composePart_fields e a n x,
    fun asking more => gives_aliasResolveReply (State.resolveReply_next (s := s.hears _) found asking more), fun marking more => gives_marked (State.markedReply_next (s := s.hears _) found marking more),
    fun marking last unheld => gives_marked (State.markedReply_records (s := s.hears _) found marking last unheld),
    fun marking last held => gives_marked (State.markedReply_releases (s := s.hears _) found marking last held),
    fun marking waits => gives_mark (State.markGranule_waits (s := s.hears _) found marking waits), fun marking idle paid kept => happens_mark found marking idle paid kept,
    fun releasing last once => happens_holdRelease found releasing last once, ⟨rfl, rfl⟩, fun x only here waits others => happens_srcack only here waits others,
    fun idle asked => gives_srcack (State.srcAck_clears (s := s.hears _) idle asked), ?hot, gives_catctlWrite s v⟩
  case asks =>
    intro arrived room inside first few apart dst dstEnd src srcEnd plain free
    exact gives_aliasRecord ((State.aliasRecord_arrived (s := s.hears _) found issued arrived).trans
      (State.recordPiece_asks (s := s.hears _) ⟨room, inside, first, few, apart, dst, dstEnd, src, srcEnd, plain⟩ free))
  case installs =>
    intro last fresh inside uncaught uncopied still free
    exact happens_aliasRecord_installs found issued last fresh inside uncaught ⟨uncopied, still⟩ free
  case outside =>
    intro last fresh w outside
    exact gives_aliasRecord ((State.aliasRecord_marked (s := s.hears _) found issued last).trans (State.installPiece_outside (s := s.hears _) fresh outside))
  case sources =>
    intro last fresh inside uncopied still one deps
    exact gives_aliasRecord ((State.aliasRecord_marked (s := s.hears _) found issued last).trans (State.installPiece_asks (s := s.hears _) fresh inside ⟨uncopied, still⟩ one deps))
  case hot =>
    intro db queued
    refine ⟨fun waits => gives_hotMaterialise (State.hotOne_waits (s := s.hears _) queued waits), fun on idle => ⟨fun none => ?_, fun x some => ?_⟩⟩
    · exact gives_hotMaterialise (State.hotOne_gone (s := s.hears _) queued on idle none)
    · exact gives_hotMaterialise (State.hotOne_materialises (s := s.hears _) queued on idle some)

end Sys2Proof.Machine
end

section
/-! SUPPORT. Invalidation (R143 to R146) and region write-backs (R148): what each message comes to, by what is under way and by what has drained. -/

namespace Sys2Proof.Machine

open Sys2Proof

/-! ## Registers -/

/-- SDCTL as a shootdown takes it: BUSY set, bits 7 to 2 clear (R144). -/
theorem ofNat_sdctl_start (v : DWord) : BitVec.ofNat 64 (setBit (setBits v.toNat 7 2 0) 1 true) = (v &&& 0xFFFFFFFFFFFFFF01) ||| 2 := by
  apply BitVec.eq_of_getLsbD_eq
  intro i hi
  have kept : (0xFFFFFFFFFFFFFF01 : DWord).getLsbD i = (decide (i = 0) || decide (8 ≤ i)) := by revert i; decide
  have set : (2 : DWord).getLsbD i = decide (i = 1) := by revert i; decide
  rw [BitVec.getLsbD_ofNat, decide_eq_true hi, Bool.true_and, testBit_setBit, testBit_setBits _ _ _ (by decide), BitVec.testBit_toNat, BitVec.getLsbD_or, BitVec.getLsbD_and, kept, set]
  by_cases one : i = 1
  · simp [one]
  · by_cases field : 2 ≤ i ∧ i ≤ 7
    · have zero : ¬ i = 0 := by omega
      have low : ¬ 8 ≤ i := by omega
      simp [one, field, zero, low]
    · have out : i = 0 ∨ 8 ≤ i := by omega
      rcases out with rfl | high
      · simp
      · simp [one, field, high]

/-- SDCTL once BUSY clears (R144). -/
theorem ofNat_sdctl_end (v : DWord) : BitVec.ofNat 64 (setBit v.toNat 1 false) = v &&& 0xFFFFFFFFFFFFFFFD := by
  refine ofNat_eq_and (fun i => decide (i ≠ 1)) (by decide) fun i _ => ?_
  rw [testBit_setBit, BitVec.testBit_toNat]
  by_cases h : i = 1 <;> simp [h]

/-! ## What begins an invalidation -/

theorem State.Logs.xl {s t : State} (h : s.Logs t) : t.xl = s.xl := by obtain ⟨-, _, _, _, _, _, _, _, _, _, _, _, rfl⟩ := h; rfl

/-- An invalidation as its message asks for it: nothing that it waits for is noted yet. -/
def Inval.fresh (kind : Nat) (v : DWord) (port : Nat) : Inval := { id := 0, kind := kind, v := v, port := port, rels := [], txs := [], toks := [], cmds := [], runs := [], fills := [] }

section
variable {s : State} {v : DWord}

theorem gives_shootdownStart_busy (busy : s.xl.sdctl.getLsbD 1 = true) :
    Gives .shootdownStart (.shootdownStart v) s (fun s => s.logEvent 256 2 0x43 none [(24, 8, v.toNat)]) :=
  .of_pos ((bit_toNat s.xl.sdctl 1).trans busy) rfl rfl

theorem gives_shootdownStart_idle (idle : s.xl.sdctl.getLsbD 1 = false) :
    Gives .shootdownStart (.shootdownStart v) s (fun s => { s with xl.sdctl := (v &&& 0xFFFFFFFFFFFFFF01) ||| 2 }.startInval (.fresh 0 v 0)) := by
  have clear : ¬ bit s.xl.sdctl.toNat 1 = true := by rw [bit_toNat, idle]; decide
  rw [← ofNat_sdctl_start]
  exact .of_neg clear rfl rfl

theorem gives_atsInvalidationRequest (s : State) (port pasid va order : Nat) : Gives .atsInvalidationRequest (.atsInvalidationRequest port pasid va order) s
    (fun s => s.startInval (.fresh 1 (BitVec.ofNat 64 (va % 2 ^ 64 / 2 ^ 12 * 2 ^ 12 + min 64 order)) (port + 2 * pasid))) := ⟨rfl, rfl⟩

theorem bits_3_0 (n : Nat) : bits n 3 0 = n % 16 := by simp [bits]

/-- What is left in a TLB once an invalidation has begun is nothing that it removes (R145). -/
theorem State.startInval_tlb (s : State) (i : Inval) : ∃ u : State, ∀ e ∈ (s.startInval i).xl.tlb, u.removes { i with id := s.ctl.nextId } e.tenant e.va = false :=
  ⟨_, fun e he => by simpa using (List.mem_filter.mp he).2⟩

/-- A DTINV of the whole tenant removes every translation of its device half (R146). -/
theorem State.removes_wholeTenant (s : State) {i : Inval} (t va : Nat) (kind : i.kind = 2) (whole : i.v.toNat % 16 = 15) :
    s.removes i t va = (t == (i.v.extractLsb' 4 8).toNat && bit va 56) := by
  have size : bits i.v.toNat 3 0 = 15 := (bits_3_0 _).trans whole
  have tenant : bits i.v.toNat 11 4 = (i.v.extractLsb' 4 8).toNat := (toNat_extractLsb' i.v 4 8).symm
  simp [State.removes, kind, size, tenant]

/-! ## DTINV -/

/-- A DTINV is under way (R146). -/
def State.dtinvBusy (s : State) : Bool := s.xl.invals.any (fun i => i.kind == 2)

theorem State.dtinvBusy_iff {s : State} : s.dtinvBusy = true ↔ ∃ i ∈ s.xl.invals, i.kind = 2 := by simp [State.dtinvBusy]

theorem gives_dtinvWrite_reserved (low : 10 ≤ v.toNat % 16) (high : v.toNat % 16 ≤ 14) : Gives .dtinvWrite (.dtinvWrite v) s id := by
  rw [← bits_3_0] at low high
  exact .of_pos ⟨low, high⟩ rfl rfl

section
variable (known : v.toNat % 16 < 10 ∨ v.toNat % 16 = 15)
include known

theorem exec_dtinvWrite : exec .dtinvWrite (s.hears (.dtinvWrite v)) = .next (
    let t := s.hears (.dtinvWrite v)
    if t.dtinvBusy then (if t.xl.dtq.length < 16 then { t with xl.dtq := t.xl.dtq ++ [v] } else t.wait (.dtinvWrite v))
    else t.startInval (.fresh 2 v 0)) := by
  rw [← bits_3_0] at known
  exact congrArg Host.Outcome.next (if_neg (by omega))

theorem exec_dtinvWrite_starts (idle : ∀ i ∈ s.xl.invals, i.kind ≠ 2) :
    exec .dtinvWrite (s.hears (.dtinvWrite v)) = .next ((s.hears (.dtinvWrite v)).startInval (.fresh 2 v 0)) := by
  have free : ¬ s.dtinvBusy = true := fun busy => by
    obtain ⟨i, hi, kind⟩ := State.dtinvBusy_iff.mp busy
    exact idle i hi kind
  exact (exec_dtinvWrite known).trans (congrArg Host.Outcome.next (if_neg free))

theorem gives_dtinvWrite_queued (busy : ∃ i ∈ s.xl.invals, i.kind = 2) (room : s.xl.dtq.length < 16) :
    Gives .dtinvWrite (.dtinvWrite v) s (fun s => { s with xl.dtq := s.xl.dtq ++ [v] }) :=
  ⟨rfl, (exec_dtinvWrite known).trans (congrArg Host.Outcome.next ((if_pos (State.dtinvBusy_iff.mpr busy)).trans (if_pos room)))⟩

theorem gives_dtinvWrite_stalls (busy : ∃ i ∈ s.xl.invals, i.kind = 2) (full : 16 ≤ s.xl.dtq.length) :
    Gives .dtinvWrite (.dtinvWrite v) s (fun s => s.wait (.dtinvWrite v)) :=
  ⟨rfl, (exec_dtinvWrite known).trans (congrArg Host.Outcome.next ((if_pos (State.dtinvBusy_iff.mpr busy)).trans (if_neg (Nat.not_lt.mpr full))))⟩

end

theorem happens_dtinvWrite_wholeTenant (whole : v.toNat % 16 = 15) (idle : ∀ i ∈ s.xl.invals, i.kind ≠ 2) :
    Happens .dtinvWrite (.dtinvWrite v) s (fun t => ∀ e ∈ t.xl.tlb, ¬ (e.tenant = (v.extractLsb' 4 8).toNat ∧ bit e.va 56 = true)) := by
  refine ⟨rfl, _, exec_dtinvWrite_starts (.inr whole) idle, fun e he ⟨tenant, device⟩ => ?_⟩
  obtain ⟨u, kept⟩ := State.startInval_tlb (s.hears (.dtinvWrite v)) (.fresh 2 v 0)
  have left := kept e he
  rw [u.removes_wholeTenant e.tenant e.va rfl whole] at left
  simp [Inval.fresh, tenant, device] at left

end

/-! ## What ends it -/

section
variable {s : State} {i : Inval}

theorem gives_shootdownDrainComplete {id : Nat} {f : State → State} (h : (s.hears (.shootdownDrainComplete id)).invalStep id = f (s.hears (.shootdownDrainComplete id))) :
    Gives .shootdownDrainComplete (.shootdownDrainComplete id) s f := ⟨rfl, congrArg Host.Outcome.next h⟩

/-- s without an invalidation. -/
def State.dropInval (s : State) (id : Nat) : State := { s with xl.invals := s.xl.invals.filter (fun x => x.id != id) }

variable (found : s.xl.invals.find? (fun x => x.id == i.id) = some i)
include found

/-- A run in issue still holds a store through a removed translation (R145). -/
theorem State.invalStep_runs (holds : ∃ g ∈ s.core.issue, g.id ∈ i.runs ∧ s.holdsRemoved i g = true) : s.invalStep i.id = s.wait (.shootdownDrainComplete i.id) := by
  obtain ⟨g, issued, mine, removed⟩ := holds
  have some : (!i.runs.isEmpty) = true := by simpa using List.ne_nil_of_mem mine
  have held : s.core.issue.any (fun g => i.runs.contains g.id && s.holdsRemoved i g) = true := List.any_eq_true.mpr ⟨g, issued, by simp [mine, removed]⟩
  simp only [State.invalStep, found, some, held, if_true]

variable (noRuns : i.runs = [])
include noRuns

theorem State.invalStep_undrained (busy : s.invalDrained i = false) : s.invalStep i.id = s.wait (.shootdownDrainComplete i.id) := by
  simp [State.invalStep, found, noRuns, busy]

variable (drained : s.invalDrained i = true)
include drained

/-- The acknowledgement word of a shootdown is stored, and the store is waited for (R145). -/
theorem State.invalStep_acknowledges (kind : i.kind = 0) : s.invalStep i.id =
    (let u := (s.dropInval i.id).devStore (hostPa 0 s.xl.sdack.toNat) (leBytes 8 (i.v.extractLsb' 32 32).toNat) none
     { u with xl.invals := u.xl.invals ++ [{ Inval.fresh 3 i.v i.port with id := i.id, txs := [s.ctl.nextId] }] }.send (.shootdownDrainComplete i.id)) := by
  have seq : (i.v.extractLsb' 32 32).toNat = bits i.v.toNat 63 32 := toNat_extractLsb' i.v 32 32
  simp [State.invalStep, found, noRuns, drained, kind, seq, State.dropInval, Inval.fresh]

theorem State.invalStep_tellsHost (kind : i.kind = 1) : s.invalStep i.id = (s.dropInval i.id).toHost (.invDone (i.port % 2) (i.port / 2) (i.v.toNat / 2 ^ 12 * 2 ^ 12)) := by
  simp [State.invalStep, found, noRuns, drained, kind, State.dropInval]

/-- INVDONE is logged; no further DTINV waits its turn (R146). -/
theorem State.invalStep_logs (kind : i.kind = 2) (last : s.xl.dtq = []) : s.invalStep i.id = (s.dropInval i.id).logEvent 256 2 0x44 none [(24, 8, i.v.toNat)] := by
  have none : ((s.dropInval i.id).logEvent 256 2 0x44 .none [(24, 8, i.v.toNat)]).xl.dtq = [] := (congrArg XlS.dtq (State.logEvent_logs ..).xl).trans last
  have next : ((s.dropInval i.id).logEvent 256 2 0x44 .none [(24, 8, i.v.toNat)]).nextDtinv = (s.dropInval i.id).logEvent 256 2 0x44 .none [(24, 8, i.v.toNat)] := by
    rw [State.nextDtinv, none]
  rw [← next]
  simp [State.invalStep, found, noRuns, drained, kind, State.dropInval]

theorem State.invalStep_clears (kind : i.kind = 3) : s.invalStep i.id = { s.dropInval i.id with xl.sdctl := s.xl.sdctl &&& 0xFFFFFFFFFFFFFFFD } := by
  rw [← ofNat_sdctl_end]
  simp [State.invalStep, found, noRuns, drained, kind, State.dropInval]

end

/-! ## Region write-backs -/

/-- A written line of a WB region that is translated leaves as a store of its gang, and is waited for (R148). -/
theorem gives_regionWriteback {s : State} {core slot k j : Nat} {x : Gang} {d : Region} {line va pa : Nat} {attr : PAttr} (bound : s.gang core slot = some x)
    (descriptor : (x.regions.drop k).headD { rgva := 0, rgcf := 0 } = d) (atLine : (d.rgcf.extractLsb' 0 11).toNat + j = line) (atVa : (d.rgva.toNat / 128 * 128 + 128 * j) % 2 ^ 64 = va)
    (enabled : d.rgcf.getLsbD 31 = true) (lazily : d.rgcf.getLsbD 30 = true) (written : line ∈ x.written)
    (translated : s.xlate (stackOf core) (s.tenantOfCtx x.ctx) x.ctx va 7 = .ok pa attr) :
    Gives .regionWriteback (.regionWriteback core slot k j) s (fun s => (s.writeLine x line va pa attr.uncached).wait (.regionWriteback core slot k j)) := by
  subst atLine atVa
  have first : (d.rgcf.extractLsb' 0 11).toNat = bits d.rgcf.toNat 10 0 := toNat_extractLsb' d.rgcf 0 11
  rw [← bit_toNat] at enabled lazily
  rw [first] at written ⊢
  refine ⟨rfl, congrArg Host.Outcome.next ?_⟩
  have bound' : (s.hears (.regionWriteback core slot k j)).gang core slot = some x := bound
  have translated' : (s.hears (.regionWriteback core slot k j)).xlate (stackOf core) ((s.hears (.regionWriteback core slot k j)).tenantOfCtx x.ctx) x.ctx
    ((d.rgva.toNat / 128 * 128 + 128 * j) % 2 ^ 64) 7 = .ok pa attr := translated
  simp only [State.hears_op, State.writeBack, bound', descriptor, List.contains_iff_mem, written, enabled, lazily, translated', Bool.and_self, Bool.not_true, Bool.false_eq_true, if_true, if_false]

/-- Settles O51, message by message. -/
theorem invalidationEvents : Obligations.InvalidationEvents := by
  intro s v i port pasid va order core slot k j x
  refine ⟨gives_shootdownStart_busy, gives_shootdownStart_idle, gives_dtinvWrite_reserved, fun known => ⟨fun idle => ⟨⟨rfl, exec_dtinvWrite_starts known idle⟩, fun whole => happens_dtinvWrite_wholeTenant whole idle⟩,
    gives_dtinvWrite_queued known, gives_dtinvWrite_stalls known⟩, gives_atsInvalidationRequest s port pasid va order, fun found => ⟨fun holds => ?_, fun noRuns => ?_⟩, ?writeback⟩
  · exact gives_shootdownDrainComplete (State.invalStep_runs (s := s.hears _) found holds)
  · exact ⟨fun busy => gives_shootdownDrainComplete (State.invalStep_undrained (s := s.hears _) found noRuns busy),
      fun drained kind => gives_shootdownDrainComplete (State.invalStep_acknowledges (s := s.hears _) found noRuns drained kind),
      fun drained kind => gives_shootdownDrainComplete (State.invalStep_tellsHost (s := s.hears _) found noRuns drained kind),
      fun drained kind last => gives_shootdownDrainComplete (State.invalStep_logs (s := s.hears _) found noRuns drained kind last),
      fun drained kind => gives_shootdownDrainComplete (State.invalStep_clears (s := s.hears _) found noRuns drained kind)⟩
  case writeback =>
    intro bound d line va enabled lazily written pa attr translated
    exact gives_regionWriteback bound rfl rfl rfl enabled lazily written translated

end Sys2Proof.Machine
end

section
/-! SUPPORT. Gangs and their threads, found again after a change of the gangs that leaves their slots. -/

namespace Sys2Proof.Machine

open Sys2Proof

theorem headD_drop_map {α β : Type} (f : α → β) (l : List α) (i : Nat) (d : α) : ((l.map f).drop i).headD (f d) = f ((l.drop i).headD d) := by
  rw [← List.map_drop]
  cases l.drop i <;> rfl

/-- s with every gang changed. -/
def State.mapGangs (s : State) (f : Gang → Gang) : State := { s with core.gangs := s.core.gangs.map f }

theorem State.mapGangs_gang (s : State) {f : Gang → Gang} (place : ∀ g, (f g).core = g.core ∧ (f g).slot = g.slot) (core slot : Nat) :
    (s.mapGangs f).gang core slot = (s.gang core slot).map f := by
  have same : (fun g : Gang => g.core == core && g.slot == slot) ∘ f = fun g => g.core == core && g.slot == slot := by
    funext g
    simp [place g]
  rw [State.gang, State.mapGangs, List.find?_map, same]
  rfl

/-- g with every thread changed. -/
def Gang.mapThreads (g : Gang) (f : Thread → Thread) : Gang := { g with threads := g.threads.map f }

theorem Gang.mapThreads_thread (g : Gang) {f : Thread → Thread} (empty : f emptyThread = emptyThread) (lane : Nat) : (g.mapThreads f).thread lane = f (g.thread lane) := by
  have h := headD_drop_map f g.threads lane emptyThread
  rwa [empty] at h

theorem State.thread_of_gang {s : State} {core slot : Nat} {g : Gang} (h : s.gang core slot = some g) (lane : Nat) : s.thread core slot lane = g.thread lane := by rw [State.thread, h]

end Sys2Proof.Machine
end

section
/-! SUPPORT. Walks, page requests and fault entries (R131, R135, R139 to R142): what a walk comes to by what it finds, and what an answer does to its entry and to the threads that wait for it. -/

namespace Sys2Proof.Machine

open Sys2Proof

/-! ## Walks of the tables -/

theorem State.walkFrom_hears (s : State) (e : Ev) (t va acc : Nat) (dev : Bool) (k table : Nat) : (s.hears e).walkFrom t va acc dev k table = s.walkFrom t va acc dev k table := by
  induction k generalizing table with
  | zero => rfl
  | succ k ih =>
    simp only [State.walkFrom, ih]
    rfl

theorem State.walkVa_hears (s : State) (e : Ev) (t va acc : Nat) : (s.hears e).walkVa t va acc = s.walkVa t va acc := by
  simp only [State.walkVa, State.walkFrom_hears]
  rfl

theorem gives_pageWalkComplete {s : State} {id : Nat} {f : State → State} (h : (s.hears (.pageWalkComplete id)).pageWalk id = f (s.hears (.pageWalkComplete id))) :
    Gives .pageWalkComplete (.pageWalkComplete id) s f := ⟨rfl, congrArg Host.Outcome.next h⟩

section
variable {s : State} {w : Walk} (found : s.xl.walks.find? (fun x => x.id == w.id) = some w) (fresh : w.fault = none)
include found

theorem State.updWalk_find {f : Walk → Walk} (keeps : ∀ x, (f x).id = x.id) : (s.updWalk w.id f).xl.walks.find? (fun x => x.id == w.id) = some (f w) := by
  have same : ((fun x : Walk => x.id == w.id) ∘ fun x => if x.id = w.id then f x else x) = fun x => x.id == w.id := by
    funext x
    by_cases mine : x.id = w.id <;> simp [mine, keeps]
  simp only [State.updWalk, List.find?_map, same, found, Option.map_some, if_true]

section
variable (direct : w.ats = false)
include fresh direct

/-- The leaf has the A and D it needs: the translation is installed once the walk's reads have gone their ways (R131). -/
theorem State.pageWalk_installs {pa : Nat} {attr : PAttr} {a d : Bool} (leaf : s.walkVa w.tenant w.va w.acc = .ok pa attr a d none) : s.pageWalk w.id =
    (let r := s.walkOver w
     if r.2 then (r.1.installTlb w.stack w.tenant w.va pa 12 attr a d).dropWalk w.id else r.1.wait (.pageWalkComplete w.id)) := by
  cases arrives : (s.walkOver w).2 <;> simp [State.pageWalk, found, fresh, direct, leaf, arrives]

/-- The leaf lacks A or D: they are stored first, once its line is free (R131). -/
theorem State.pageWalk_updates {pa : Nat} {attr : PAttr} {a d : Bool} {at_ v : Nat} (leaf : s.walkVa w.tenant w.va w.acc = .ok pa attr a d (some (at_, v))) : s.pageWalk w.id =
    (let r := s.walkOver w
     if r.2 = false then r.1.wait (.pageWalkComplete w.id)
     else if r.1.storeReady at_ 8 then ((r.1.devStore at_ (leBytes 8 v) none).installTlb w.stack w.tenant w.va pa 12 attr a d).dropWalk w.id
     else (r.1.storeNeed at_ 8).wait (.pageWalkComplete w.id)) := by
  cases arrives : (s.walkOver w).2 <;> simp [State.pageWalk, found, fresh, direct, leaf, arrives]

theorem State.pageWalk_asks {hs : List Nat} {store : Bool} (needs : s.walkVa w.tenant w.va w.acc = .need hs store) :
    s.pageWalk w.id = (s.askHalves hs store).wait (.pageWalkComplete w.id) := by
  simp [State.pageWalk, found, fresh, direct, needs]

theorem State.pageWalk_fails {cause k : Nat} (fault : s.walkVa w.tenant w.va w.acc = .fault cause k) (arrives : (s.walkOver w).2 = true) :
    s.pageWalk w.id = (s.walkOver w).1.failWalk w cause k := by
  simp [State.pageWalk, found, fresh, direct, fault, arrives]

end

end

/-! ## Fault entries -/

/-- What no record of the arbiter changes: translation, scheduling and the cores. -/
def State.atWork (s : State) : XlS × RunS × CoreS := (s.xl, s.run, s.core)

theorem State.Writes.atWork {s t : State} (h : s.Writes t) : t.atWork = s.atWork := by obtain ⟨_, _, _, _, _, _, _, rfl⟩ := h; rfl
theorem State.Logs.atWork {s t : State} (h : s.Logs t) : t.atWork = s.atWork := by obtain ⟨-, _, _, _, _, _, _, _, _, _, _, _, rfl⟩ := h; rfl
theorem State.Sent.atWork {s t : State} (h : s.Sent t) : t.atWork = s.atWork := by obtain ⟨_, _, _, _, rfl⟩ := h; rfl

theorem State.with_ten_atWork (s : State) (t : TenS) : { s with ten := t }.atWork = s.atWork := rfl

theorem State.hfltPut_atWork (s : State) (h : Nat) (entry : List Byte) : (s.hfltPut h entry).atWork = s.atWork :=
  (State.devStore_writes ..).atWork.trans (s.with_ten_atWork _)

theorem State.logFault_atWork (s : State) (ctx source : Nat) (fs : List (Nat × Nat × Nat)) : (s.logFault ctx source fs).atWork = s.atWork := by
  unfold State.logFault
  dsimp only
  split
  · exact (State.logEvent_logs ..).atWork
  · split
    · exact s.with_ten_atWork _
    · split
      · exact (State.hfltPut_atWork ..).trans (s.with_ten_atWork _)
      · exact (State.storeNeed_logs ..).atWork.trans (s.with_ten_atWork _)

/-- An entry as it is opened (R135). -/
def FaultEnt.fresh (ctx fid va cause acc : Nat) : FaultEnt := { ctx := ctx, fid := fid, va := va, cause := cause, acc := acc, prg := none, stop := none, logged := true }

section
variable (s : State) (ctx fid va cause acc source : Nat)

theorem State.newFault_atWork : (s.newFault ctx fid va cause acc source none).atWork = ({ s.xl with faults := s.xl.faults ++ [.fresh ctx fid va cause acc] }, s.run, s.core) := by
  unfold State.newFault
  simp only [Option.isSome_none, Bool.false_eq_true, if_false, Option.isNone_none, State.logFault_atWork]
  rfl

theorem State.newFault_xl : (s.newFault ctx fid va cause acc source none).xl = { s.xl with faults := s.xl.faults ++ [.fresh ctx fid va cause acc] } := congrArg (·.1) (State.newFault_atWork ..)
theorem State.newFault_core : (s.newFault ctx fid va cause acc source none).core = s.core := congrArg (·.2.2) (State.newFault_atWork ..)

end

/-- A walk that fails opens the entry of the lowest free FID (R135; log 23). -/
theorem State.failWalk_opens {s : State} {w : Walk} {cause n : Nat} (k : Nat) (own : w.ctx ≠ 0xFFFF) (new : s.faultFor w.ctx w.va cause = none) (free : s.freeFid w.ctx = some n) :
    s.failWalk w cause k = (s.newFault w.ctx n w.va cause w.acc (srcXlate w.stack) none).updWalk w.id (fun x => { x with fault := some cause, fid := some n, fattr := k }) := by
  simp [State.failWalk, State.openFault, own, new, free]

theorem State.Sent.faultFor {s t : State} (h : s.Sent t) (ctx va cause : Nat) : t.faultFor ctx va cause = s.faultFor ctx va cause := by obtain ⟨_, _, _, _, rfl⟩ := h; rfl
theorem State.Sent.freeFid {s t : State} (h : s.Sent t) (ctx : Nat) : t.freeFid ctx = s.freeFid ctx := by obtain ⟨_, _, _, _, rfl⟩ := h; rfl

theorem State.walkOver_sent (s : State) (w : Walk) : s.Sent (s.walkOver w).1 := by
  unfold State.walkOver
  dsimp only
  exact iteInduction (motive := fun q : State × Bool => s.Sent q.1) (fun _ => .refl s) fun _ => State.reachAll_sent ..

theorem happens_pageWalkComplete_faults {s : State} {w : Walk} {cause k n : Nat} (found : s.xl.walks.find? (fun x => x.id == w.id) = some w) (fresh : w.fault = none) (direct : w.ats = false)
    (own : w.ctx ≠ 0xFFFF) (arrives : ((s.hears (.pageWalkComplete w.id)).walkOver w).2 = true) (fault : s.walkVa w.tenant w.va w.acc = .fault cause k)
    (new : s.faultFor w.ctx w.va cause = none) (free : s.freeFid w.ctx = some n) :
    Happens .pageWalkComplete (.pageWalkComplete w.id) s (fun t => (∃ e ∈ t.xl.faults, e.ctx = w.ctx ∧ e.fid = n ∧ e.va = w.va ∧ e.cause = cause ∧ e.acc = w.acc) ∧
      (∃ x, t.xl.walks.find? (fun x => x.id == w.id) = some x ∧ x.fault = some cause ∧ x.fid = some n ∧ x.fattr = k) ∧ t.core = s.core) := by
  have sent := (s.hears (.pageWalkComplete w.id)).walkOver_sent w
  have fails := State.pageWalk_fails (s := s.hears (.pageWalkComplete w.id)) found fresh direct ((s.walkVa_hears ..).trans fault) arrives
  rw [State.failWalk_opens k own ((sent.faultFor ..).trans new) ((sent.freeFid _).trans free)] at fails
  have opened := State.newFault_xl ((s.hears (.pageWalkComplete w.id)).walkOver w).1 w.ctx n w.va cause w.acc (srcXlate w.stack)
  have walks : (((s.hears (.pageWalkComplete w.id)).walkOver w).1.newFault w.ctx n w.va cause w.acc (srcXlate w.stack) none).xl.walks = s.xl.walks := by
    rw [opened, sent.xl]
    rfl
  have listed : FaultEnt.fresh w.ctx n w.va cause w.acc ∈ (((s.hears (.pageWalkComplete w.id)).walkOver w).1.newFault w.ctx n w.va cause w.acc (srcXlate w.stack) none).xl.faults := by simp [opened]
  refine ⟨rfl, _, congrArg Host.Outcome.next fails, ⟨_, listed, rfl, rfl, rfl, rfl, rfl⟩, ⟨_, State.updWalk_find ((congrArg (List.find? _) walks).trans found) (fun _ => rfl), rfl, rfl, rfl⟩, ?_⟩
  exact (State.newFault_core ..).trans sent.core

/-! ## Completions of the host -/

theorem gives_atsTranslationCompletion {s : State} {id pa size : Nat} {r wr : Bool} {f : State → State}
    (h : (s.hears (.atsTranslationCompletion id r wr pa size)).atsComplete id r wr pa size = f (s.hears (.atsTranslationCompletion id r wr pa size))) :
    Gives .atsTranslationCompletion (.atsTranslationCompletion id r wr pa size) s f := ⟨rfl, congrArg Host.Outcome.next h⟩

section
variable {s : State} {w : Walk} (found : s.xl.walks.find? (fun x => x.id == w.id) = some w) (fresh : w.fault = none) (asked : w.ats = true)
include found fresh asked

/-- An overlapping invalidation came in meanwhile: the request is sent again (R143). -/
theorem State.atsComplete_again (again : w.again = true) (r wr : Bool) (pa size : Nat) : s.atsComplete w.id r wr pa size =
    (s.updWalk w.id (fun x => { x with again := false })).toHost (.translate w.id (s.tPasid w.tenant) w.va (accWrites w.acc)) := by
  simp [State.atsComplete, found, fresh, asked, again]

theorem State.atsComplete_installs (once : w.again = false) {r wr : Bool} {pa size : Nat} (permitted : (if w.acc = 3 then r else if accWrites w.acc then wr else r) = true)
    (mapped : isMapped (hostPa (s.tPort w.tenant) (pa / 2 ^ size * 2 ^ size + w.va % 2 ^ size)) = true) : s.atsComplete w.id r wr pa size =
      (s.installTlb w.stack w.tenant w.va (hostPa (s.tPort w.tenant) (pa / 2 ^ size * 2 ^ size + w.va % 2 ^ size)) (min size 12)
        { fattr := 0, stbl := false, uncached := false, size := size, r := r, w := wr, x := r } true wr).dropWalk w.id := by
  have allowed : permits { fattr := 0, stbl := false, uncached := false, size := size, r := r, w := wr, x := r } w.acc = true := permitted
  simp [State.atsComplete, found, fresh, asked, once, allowed, mapped]

end

/-! ## Entries that come free -/

/-- Threads of a context that wait for a free entry may start again (R135). -/
def State.letTry (s : State) (c : Nat) : State :=
  { s with core.gangs := s.core.gangs.map (fun (g : Gang) => if g.ctx = c then
    { g with threads := g.threads.map (fun (t : Thread) => if t.hold = Hold.noEntry then { t with hold := .none, stamp := s.ctl.freeCtr } else t) } else g) }

theorem State.entryFreed_noWalks {s : State} {c : Nat} (walks : ∀ w ∈ s.xl.walks, w.ctx = c → w.fault = none ∨ w.fid ≠ none) : s.entryFreed c = s.letTry c := by
  have none_ : s.xl.walks.filter (fun w => w.ctx == c && w.fault.isSome && w.fid.isNone) = [] := by
    simp only [List.filter_eq_nil_iff, Bool.and_eq_true, beq_iff_eq, Option.isSome_iff_ne_none, Option.isNone_iff_eq_none]
    rintro w hw ⟨⟨mine, fault⟩, fid⟩
    exact (walks w hw mine).elim fault (· fid)
  rw [State.entryFreed, none_]
  rfl

theorem State.feedFaults_noWalks {s : State} {c : Nat} (toks : ∀ t ∈ s.core.toks, t.ctx = c → ∀ l ∈ t.lanes, l.walk = none) : s.feedFaults c = s := by
  unfold State.feedFaults
  dsimp only
  rw [List.filter_eq_nil_iff.mpr]
  · rfl
  · intro t ht hit
    simp only [Bool.and_eq_true, beq_iff_eq, List.any_eq_true] at hit
    obtain ⟨mine, l, hl, waits⟩ := hit
    simp [toks t ht mine l hl] at waits

theorem gives_faultEntryWaitFree {s : State} {c : Nat} (walks : ∀ w ∈ s.xl.walks, w.ctx = c → w.fault = none ∨ w.fid ≠ none)
    (toks : ∀ t ∈ s.core.toks, t.ctx = c → ∀ l ∈ t.lanes, l.walk = none) :
    Gives .faultEntryWaitFree (.faultEntryWaitFree c) s (fun s => (s.letTry c).wakeSaved (fun x => x.ctx == c) Hold.noEntry) := by
  have fed : ((s.hears (.faultEntryWaitFree c)).letTry c).feedFaults c = (s.hears (.faultEntryWaitFree c)).letTry c := State.feedFaults_noWalks toks
  refine ⟨rfl, congrArg Host.Outcome.next ?_⟩
  simp only [State.hears_op, State.entryFreed_noWalks (s := s.hears (.faultEntryWaitFree c)) walks, fed]

/-! ## Answers -/

section
variable {s : State} {c f : Nat}

section
variable (closed : s.outstanding c f = false)
include closed

theorem gives_freplyRetry_bad (v : Nat) : Gives .freplyRetry (.freplyRetry c f (some v)) s (fun s => s.badReply ((s.launch c).map (fun l => l.tenant)) 2 0xC030 v) :=
  .of_neg (c := s.outstanding c f = true) (by simp [closed]) rfl rfl

theorem gives_freplyKill_bad (v : Nat) : Gives .freplyKill (.freplyKill c f v) s (fun s => s.badReply ((s.launch c).map (fun l => l.tenant)) 2 0xC030 v) :=
  .of_neg (c := s.outstanding c f = true) (by simp [closed]) rfl rfl

end

variable {e : FaultEnt} (entry : s.faultEnt c f = some e)
include entry

theorem State.outstanding_of_open (unanswered : e.cause < answered) : s.outstanding c f = true := by simp [State.outstanding, entry, unanswered]

theorem gives_freplyKill (unanswered : e.cause < answered) (v : Nat) : Gives .freplyKill (.freplyKill c f v) s (fun s => s.endLaunch c 4) :=
  .of_pos (State.outstanding_of_open entry unanswered) rfl rfl

end

/-- A thread that an entry lets go: from BREAK it executes its BRK words as NOP (R347). -/
def FaultEnt.quiets (e : FaultEnt) (t : Thread) : Thread := if e.cause % answered == 0x0C then { t with brkPass := true } else t

section
variable {s : State} {c f : Nat} (noSaved : ∀ x ∈ s.run.saved, x.ctx ≠ c)
include noSaved

/-- With no load left to perform again, a RETRY goes on to its end (R140). -/
theorem State.retry_ends {e : FaultEnt} (entry : s.faultEnt c f = some e) (noRefills : s.refills c f = []) (noLate : s.lateLanes c f = [])
    (noToks : ∀ t ∈ s.core.toks, t.grp ≠ refillGrp c f) : s.retry c f = (s.markAnswered c f).retryEnd c f e.quiets := by
  have resident : s.run.saved.any (fun x => x.ctx == c) = false := by simpa using noSaved
  have refills : (s.markAnswered c f).refills c f = [] := noRefills
  have late : (s.markAnswered c f).lateLanes c f = [] := noLate
  have toks : (s.markAnswered c f).core.toks.any (fun t => t.grp == refillGrp c f && t.lanes.any (fun l => l.vals.isNone)) = false := by
    simp only [List.any_eq_false, Bool.and_eq_true, beq_iff_eq, not_and]
    exact fun t ht mine => absurd mine (noToks t ht)
  simp only [State.retry, entry, resident, Bool.and_false, Bool.false_eq_true, if_false, refills, late, List.foldl_nil, toks, Bool.or_self]
  rfl

/-- With no gang of the context saved and no reply recorded, the entry is freed (R140). -/
theorem State.retryEnd_frees (unrecorded : tget s.xl.freply (c, f) = none) (g : Thread → Thread) :
    s.retryEnd c f g = (((s.wake c f g).wakeEngines c f).restored c).freeFault c f := by
  have saved : (((s.wake c f g).wakeEngines c f).restored c).savedWaits c f = false := by
    simp only [State.savedWaits, List.any_eq_false, Bool.and_eq_true, beq_iff_eq, not_and]
    exact fun x hx mine => absurd mine (noSaved x hx)
  have record : tget (((s.wake c f g).wakeEngines c f).restored c).xl.freply (c, f) = none := unrecorded
  have kept : (((s.wake c f g).wakeEngines c f).restored c).clearReply c f = ((s.wake c f g).wakeEngines c f).restored c := by
    rw [State.clearReply, record]
  simp only [State.retryEnd, saved, kept, Bool.false_eq_true, if_false]

end

section
variable (s : State) (c f : Nat)

theorem State.freeFault_faultEnt : (s.freeFault c f).faultEnt c f = none := by
  have faults : (s.freeFault c f).xl.faults = s.xl.faults.filter (fun x => !(x.ctx == c && x.fid == f)) := by
    unfold State.freeFault
    dsimp only
    split <;> rfl
  rw [State.faultEnt, faults, List.find?_eq_none]
  intro x hx
  simpa [imp_iff_not_or] using (List.mem_filter.mp hx).2

theorem State.freeFault_mem : (s.freeFault c f).mem = s.mem := ite_keeps State.mem (s := s) rfl rfl
theorem State.freeFault_core : (s.freeFault c f).core = s.core := ite_keeps State.core (s := s) rfl rfl

/-- A thread that waits on an FID, let go (R140). -/
def wokenOn (f stamp : Nat) (h : Thread → Thread) (t : Thread) : Thread := if t.status = .faultwait ∧ t.fid = f then h { t with status := .runnable, stamp := stamp } else t

theorem wokenOn_empty (f stamp : Nat) (h : Thread → Thread) : wokenOn f stamp h emptyThread = emptyThread := if_neg (by simp [emptyThread])

theorem State.wake_eq (h : Thread → Thread) : s.wake c f h = s.mapGangs (fun g => if g.ctx = c then g.mapThreads (wokenOn f s.ctl.freeCtr h) else g) := rfl

/-- A gang that is being restored, once its refills have been looked at (R407). -/
def State.refilledGang (g : Gang) : Gang :=
  if g.ctx = c ∧ g.restoring then
    { g with restoring := ((s.xl.freply.filter (fun e => e.1.1 == c)).map (fun e => e.1.2)).any (fun f => (s.refills c f).any (fun r => r.1.core == g.core && r.1.slot == g.slot)) ||
        s.core.toks.any (fun t => decide (8 ≤ t.k) && t.core == g.core && t.lanes.any (fun l => l.slot == g.slot)) }
  else g

theorem State.restored_eq : s.restored c = s.mapGangs (s.refilledGang c) := rfl

theorem State.refilledGang_place (g : Gang) : (s.refilledGang c g).core = g.core ∧ (s.refilledGang c g).slot = g.slot := by
  unfold State.refilledGang
  split <;> exact ⟨rfl, rfl⟩

theorem State.refilledGang_threads (g : Gang) : (s.refilledGang c g).threads = g.threads := by
  unfold State.refilledGang
  split <;> rfl

theorem State.restored_gang {core slot : Nat} {g : Gang} (bound : s.gang core slot = some g) : ∃ y, (s.restored c).gang core slot = some y ∧ y.threads = g.threads :=
  ⟨_, by rw [State.restored_eq, State.mapGangs_gang s (s.refilledGang_place c), bound, Option.map_some], s.refilledGang_threads c g⟩

end

/-- Whoever waits on the FID in the gang of a slot goes on (R140 step 4). -/
theorem State.retryEnd_thread {s : State} {c f core slot lane : Nat} {g : Gang} {h : Thread → Thread} (noSaved : ∀ x ∈ s.run.saved, x.ctx ≠ c) (unrecorded : tget s.xl.freply (c, f) = none)
    (bound : s.gang core slot = some g) (mine : g.ctx = c) (waits : (g.thread lane).status = .faultwait) (on : (g.thread lane).fid = f) :
    (s.retryEnd c f h).thread core slot lane = h { g.thread lane with status := .runnable, stamp := s.ctl.freeCtr } := by
  have woken : ((s.wake c f h).wakeEngines c f).gang core slot = some (g.mapThreads (wokenOn f s.ctl.freeCtr h)) := by
    have found := s.mapGangs_gang (f := fun g => if g.ctx = c then g.mapThreads (wokenOn f s.ctl.freeCtr h) else g) (fun g => by split <;> exact ⟨rfl, rfl⟩) core slot
    rw [bound, Option.map_some, if_pos mine, ← s.wake_eq c f h] at found
    exact found
  obtain ⟨y, there, threads⟩ := State.restored_gang _ c woken
  have freed : (s.retryEnd c f h).gang core slot = some y := by
    rw [State.retryEnd_frees noSaved unrecorded, State.gang, State.freeFault_core]
    exact there
  calc (s.retryEnd c f h).thread core slot lane
    _ = y.thread lane := State.thread_of_gang freed lane
    _ = (g.mapThreads (wokenOn f s.ctl.freeCtr h)).thread lane := by rw [Gang.thread, threads]; rfl
    _ = wokenOn f s.ctl.freeCtr h (g.thread lane) := g.mapThreads_thread (wokenOn_empty ..) lane
    _ = _ := if_pos ⟨waits, on⟩

theorem happens_freplyRetry {s : State} {c f : Nat} {e : FaultEnt} (v : Nat) (entry : s.faultEnt c f = some e) (unanswered : e.cause < answered) (noRefills : s.refills c f = [])
    (noLate : s.lateLanes c f = []) (noToks : ∀ t ∈ s.core.toks, t.grp ≠ refillGrp c f) (noSaved : ∀ x ∈ s.run.saved, x.ctx ≠ c) (unrecorded : tget s.xl.freply (c, f) = none) :
    Happens .freplyRetry (.freplyRetry c f (some v)) s (fun t => t.faultEnt c f = none ∧ t.mem = s.mem ∧
      ∀ core slot lane g, s.gang core slot = some g → g.ctx = c → (g.thread lane).status = .faultwait → (g.thread lane).fid = f →
        (t.thread core slot lane).status = .runnable ∧ (t.thread core slot lane).pc = (g.thread lane).pc ∧ (e.cause = 0x0C → (t.thread core slot lane).brkPass = true)) := by
  have answers : exec .freplyRetry (s.hears (.freplyRetry c f (some v))) = .next (((s.hears (.freplyRetry c f (some v))).markAnswered c f).retryEnd c f e.quiets) :=
    congrArg Host.Outcome.next ((if_pos (State.outstanding_of_open entry unanswered)).trans (State.retry_ends (s := s.hears _) noSaved entry noRefills noLate noToks))
  have frees := State.retryEnd_frees (s := (s.hears (.freplyRetry c f (some v))).markAnswered c f) noSaved unrecorded e.quiets
  refine ⟨rfl, _, answers, ?_, ?_, ?_⟩
  · rw [frees, State.freeFault_faultEnt]
  · rw [frees, State.freeFault_mem]
    rfl
  · intro core slot lane g bound mine waits on
    rw [State.retryEnd_thread (s := (s.hears (.freplyRetry c f (some v))).markAnswered c f) noSaved unrecorded bound mine waits on]
    unfold FaultEnt.quiets
    refine ⟨by split <;> rfl, by split <;> rfl, fun brk => ?_⟩
    rw [if_pos (by rw [brk]; rfl)]

/-! ## Page request groups -/

section
variable {s : State} {n : Nat}

theorem gives_prgResponse {ok : Bool} {f : State → State} (h : (s.hears (.prgResponse n ok)).prgResponse n ok = f (s.hears (.prgResponse n ok))) :
    Gives .prgResponse (.prgResponse n ok) s f := ⟨rfl, congrArg Host.Outcome.next h⟩

theorem State.prgResponse_unknown (unknown : ∀ f ∈ s.xl.faults, f.prg ≠ some n) (ok : Bool) : s.prgResponse n ok = s := by
  have none_ : s.xl.faults.find? (fun f => f.prg == some n && decide (f.cause < answered)) = none := by
    simp only [List.find?_eq_none, Bool.and_eq_true, beq_iff_eq, not_and]
    exact fun f hf mine => absurd mine (unknown f hf)
  simp only [State.prgResponse, none_]

variable {e : FaultEnt} (found : s.xl.faults.find? (fun f => f.prg == some n && decide (f.cause < answered)) = some e)
include found

theorem State.prgResponse_succeeds : s.prgResponse n true =
    ((s.updFault e.ctx e.fid (fun f => { f with prg := none })).markAnswered e.ctx e.fid).urge (.freplyRetry e.ctx e.fid none) := by
  simp only [State.prgResponse, found, if_true]

theorem State.prgResponse_denied : s.prgResponse n false = (s.updFault e.ctx e.fid (fun f => { f with prg := none, cause := 0x09 })).logFault e.ctx (8 + s.tPort (s.tenantOfCtx e.ctx))
    [(24, 8, e.va), (22, 2, e.ctx), (20, 2, e.fid), (19, 1, 0x09), (18, 1, e.acc)] := by
  simp only [State.prgResponse, found, Bool.false_eq_true, if_false, srcPort]

end

/-- Settles O50, message by message. -/
theorem faultEvents : Obligations.FaultEvents := by
  intro s w c f v
  refine ⟨fun found fresh => ⟨?installs, ?updates, ?asks, ?faults, ?again, ?translated⟩, gives_faultEntryWaitFree, fun closed => ⟨gives_freplyRetry_bad closed v, gives_freplyKill_bad closed v⟩,
    fun e entry unanswered => ⟨gives_freplyKill entry unanswered v, fun noRefills noLate noToks noSaved unrecorded _ => happens_freplyRetry v entry unanswered noRefills noLate noToks noSaved unrecorded⟩,
    fun n e found => ⟨gives_prgResponse (State.prgResponse_succeeds (s := s.hears _) found), gives_prgResponse (State.prgResponse_denied (s := s.hears _) found)⟩,
    fun n b unknown => gives_prgResponse (State.prgResponse_unknown (s := s.hears _) unknown b)⟩
  case installs => exact fun direct pa attr a d leaf => gives_pageWalkComplete (State.pageWalk_installs (s := s.hears _) found fresh direct ((s.walkVa_hears ..).trans leaf))
  case updates => exact fun direct pa attr a d at_ v leaf => gives_pageWalkComplete (State.pageWalk_updates (s := s.hears _) found fresh direct ((s.walkVa_hears ..).trans leaf))
  case asks => exact fun direct hs st needs => gives_pageWalkComplete (State.pageWalk_asks (s := s.hears _) found fresh direct ((s.walkVa_hears ..).trans needs))
  case faults => exact fun direct own arrives n cause k fault new free => happens_pageWalkComplete_faults found fresh direct own arrives fault new free
  case again => exact fun asked again r wr pa size => gives_atsTranslationCompletion (State.atsComplete_again (s := s.hears _) found fresh asked again r wr pa size)
  case translated => exact fun asked once r wr pa size permitted mapped => gives_atsTranslationCompletion (State.atsComplete_installs (s := s.hears _) found fresh asked once permitted mapped)

end Sys2Proof.Machine
end

section
/-! SUPPORT. Runs that are abandoned and launches that end (R138, R209, R210): what stands of the threads, of the runs in issue and of the launch. -/

namespace Sys2Proof.Machine

open Sys2Proof

/-! ## A thread that stands in a slot -/

/-- The thread in a lane slot of a bound gang is t. -/
def State.Stands (s : State) (core slot lane : Nat) (t : Thread) : Prop := ∃ x, s.gang core slot = some x ∧ lane < x.threads.length ∧ x.thread lane = t

theorem length_modAt {α : Type} (l : List α) (i : Nat) (f : α → α) : (modAt l i f).length = l.length := by
  induction l generalizing i with
  | nil => rfl
  | cons x l ih =>
    cases i with
    | zero => rfl
    | succ i => exact congrArg (· + 1) (ih i)

theorem mem_modAt {α : Type} {l : List α} {i : Nat} {f : α → α} {y : α} (h : y ∈ modAt l i f) : ∃ x ∈ l, y = x ∨ y = f x := by
  induction l generalizing i with
  | nil => cases h
  | cons x l ih =>
    cases i with
    | zero =>
      rcases List.mem_cons.mp h with rfl | later
      · exact ⟨x, List.mem_cons_self, .inr rfl⟩
      · exact ⟨y, List.mem_cons_of_mem _ later, .inl rfl⟩
    | succ i =>
      rcases List.mem_cons.mp h with rfl | later
      · exact ⟨y, List.mem_cons_self, .inl rfl⟩
      · obtain ⟨z, hz, same⟩ := ih later
        exact ⟨z, List.mem_cons_of_mem _ hz, same⟩

section
variable {s : State} {core slot lane : Nat} {t : Thread}

theorem State.Stands.thread (h : s.Stands core slot lane t) : s.thread core slot lane = t := by
  obtain ⟨x, bound, -, rfl⟩ := h
  exact State.thread_of_gang bound lane

theorem State.Stands.of_gangs {u : State} (h : s.Stands core slot lane t) (same : u.core.gangs = s.core.gangs) : u.Stands core slot lane t := by
  obtain ⟨x, bound, held⟩ := h
  exact ⟨x, by rw [State.gang, same]; exact bound, held⟩

/-- The gang of the slot, or another, is changed, but not in its threads. -/
theorem State.Stands.updGang (h : s.Stands core slot lane t) (c k : Nat) {f : Gang → Gang} (keeps : ∀ g, (f g).core = g.core ∧ (f g).slot = g.slot ∧ (f g).threads = g.threads) :
    (s.updGang c k f).Stands core slot lane t := by
  obtain ⟨x, bound, short, held⟩ := h
  have found := s.mapGangs_gang (f := fun g => if g.core = c ∧ g.slot = k then f g else g) (fun g => by split <;> simp [keeps]) core slot
  rw [bound, Option.map_some] at found
  refine ⟨_, found, ?_⟩
  have threads : (if x.core = c ∧ x.slot = k then f x else x).threads = x.threads := by split <;> simp [keeps]
  rw [Gang.thread, threads]
  exact ⟨short, held⟩

/-- The thread itself is changed. -/
theorem State.Stands.updThread (h : s.Stands core slot lane t) (f : Thread → Thread) : (s.updThread core slot lane f).Stands core slot lane (f t) := by
  obtain ⟨x, bound, short, rfl⟩ := h
  have mine : x.core = core ∧ x.slot = slot := by simpa using List.find?_some bound
  have found := s.mapGangs_gang (f := fun g => if g.core = core ∧ g.slot = slot then g.updThread lane f else g) (fun g => by split <;> exact ⟨rfl, rfl⟩) core slot
  rw [bound, Option.map_some, if_pos mine] at found
  exact ⟨_, found, (length_modAt ..).symm ▸ short, headD_drop_modAt_self _ short⟩

theorem State.Stands.killOps (h : s.Stands core slot lane t) (c k l : Nat) : (s.killOps c k l).Stands core slot lane t := (h.updGang c k (f := fun g => g.killOc l) fun _ => ⟨rfl, rfl, rfl⟩).of_gangs rfl

end

/-! ## Runs that are abandoned -/

/-- Messages, memory, launches and the runs in issue. -/
def State.abreast (s : State) : Ctl × Memory × RunS × List Grp := (s.ctl, s.mem, s.run, s.core.issue)

section
variable {s : State} {g : Grp}

theorem State.undoAllocs_abreast (s : State) (g : Grp) (slots : Nat → Bool) : (s.undoAllocs g slots).abreast = s.abreast := by
  refine foldl_keeps State.abreast (fun t a => ?_) _ s
  split <;> rfl

theorem State.Stands.undoAllocs {core slot lane : Nat} {t : Thread} (h : s.Stands core slot lane t) (g : Grp) (slots : Nat → Bool) : (s.undoAllocs g slots).Stands core slot lane t := by
  refine List.foldlRecOn (motive := fun u : State => u.Stands core slot lane t) _ _ h fun u hu a _ => ?_
  split
  · next x _ => exact State.Stands.updGang (s := { u with eng.tregs := u.eng.tregs.filter (fun t => !(t.ctx == x.ctx && t.gang == x.gang && t.name == a.2)) }) hu _ _ fun _ => ⟨rfl, rfl, rfl⟩
  · exact hu

/-- A run none of whose lanes has committed logs nothing (R211). -/
theorem Grp.records_of_going (going : ∀ l ∈ g.lanes, l.done = false) : g.records = [] := by
  have uncommitted (slot n : Nat) : g.lanes.any (fun l => l.slot == slot && l.lane == n && l.done) = false := by
    simp only [List.any_eq_false, Bool.and_eq_true, not_and]
    exact fun l hl _ => by simp [going l hl]
  refine List.filter_eq_nil_iff.mpr fun r hr => ?_
  obtain ⟨slot, -, rfl⟩ := List.mem_map.mp hr
  have unmasked (ns : List Nat) : maskOf (ns.filter (fun n => g.lanes.any (fun l => l.slot == slot.1 && l.lane == n && l.done))) = 0 := by simp [uncommitted, maskOf]
  simp [unmasked]

theorem State.logRun_of_going (going : ∀ l ∈ g.lanes, l.done = false) : s.logRun g = s := by rw [State.logRun, Grp.records_of_going going]; rfl

variable {l : RLane} (alone : g.lanes = [l]) (going : l.done = false)
include alone going

theorem State.abandon_alone : s.abandon g = (((s.undoAllocs g (fun x => !g.lanes.any (fun l => l.slot == x && l.done))).cancelToks g.id).dropGrp g.id).leave g.core l.slot l.lane id := by
  have unlogged : s.logRun g = s := State.logRun_of_going (by simp [alone, going])
  simp [State.abandon, unlogged, alone, going]

/-- The run leaves the issue queue, and nothing of it has reached memory (R209). -/
theorem State.abandon_abreast : (s.abandon g).abreast = (s.ctl, s.mem, s.run, s.core.issue.filter (fun h => h.id != g.id)) := by
  have undone := s.undoAllocs_abreast g (fun x => !g.lanes.any (fun l => l.slot == x && l.done))
  rw [State.abandon_alone alone going]
  exact congrArg (fun q : Ctl × Memory × RunS × List Grp => (q.1, q.2.1, q.2.2.1, q.2.2.2.filter (fun h => h.id != g.id))) undone

/-- Its thread stands at the first word of the run. -/
theorem State.Stands.abandon {t : Thread} (h : s.Stands g.core l.slot l.lane t) : (s.abandon g).Stands g.core l.slot l.lane { t with inRun := false, stamp := s.ctl.freeCtr } := by
  have undone := congrArg (·.1.freeCtr) (s.undoAllocs_abreast g (fun x => !g.lanes.any (fun l => l.slot == x && l.done)))
  have left := ((h.undoAllocs g (fun x => !g.lanes.any (fun l => l.slot == x && l.done))).of_gangs (u := ((s.undoAllocs g _).cancelToks g.id).dropGrp g.id) rfl).updThread
    (fun t => { t with inRun := false, stamp := (s.undoAllocs g (fun x => !g.lanes.any (fun l => l.slot == x && l.done))).ctl.freeCtr })
  rw [State.abandon_alone alone going]
  exact undone ▸ left

end

/-! ## Threads that wait -/

theorem State.maybeParkSlot_core (s : State) (core slot : Nat) : (s.maybeParkSlot core slot).core = s.core := by
  unfold State.maybeParkSlot
  split
  · exact ite_keeps State.core (s := s) rfl rfl
  · rfl

theorem State.maybeParkSlot_mem (s : State) (core slot : Nat) : (s.maybeParkSlot core slot).mem = s.mem := by
  unfold State.maybeParkSlot
  split
  · exact ite_keeps State.mem (s := s) rfl rfl
  · rfl

/-- The run of g is over in t: it is not in issue, and memory is as it was in s. -/
structure State.Leaves (s : State) (g : Grp) (t : State) : Prop where
  issue : ∀ h ∈ t.core.issue, h.id ≠ g.id
  mem : t.mem = s.mem

/-- Refillable poison: the thread waits on the FID of its tag, or starts its run again where the value is repaired already (R138; log 95). -/
theorem State.poisonTrap_refillable (s : State) (g : Grp) (l : RLane) {acc : Nat} {v : PVal} (kind : v.kind = 0) : s.poisonTrap g acc [(l, v)] =
    if s.refilled g l v.fid then (s.abandon g).killOps g.core l.slot l.lane else s.waitTrap g [(l, some v.fid)] := by
  cases mended : s.refilled g l v.fid <;> simp [State.poisonTrap, kind, mended, State.waitTrap]

section
variable {s : State} {g : Grp} {l : RLane} (alone : g.lanes = [l]) (going : l.done = false)
include alone going

theorem State.abandon_leaves : s.Leaves g (s.abandon g) := by
  have left := State.abandon_abreast (s := s) alone going
  have issue : (s.abandon g).core.issue = s.core.issue.filter (fun h => h.id != g.id) := congrArg (·.2.2.2) left
  refine ⟨fun h hh => ?_, congrArg (·.2.1) left⟩
  rw [issue] at hh
  simpa using (List.mem_filter.mp hh).2

/-- A thread whose word faults waits on the FID, its run abandoned (R138). -/
theorem State.waitTrap_alone {t : Thread} (fid : Nat) (h : s.Stands g.core l.slot l.lane t) :
    s.Leaves g (s.waitTrap g [(l, some fid)]) ∧ (s.waitTrap g [(l, some fid)]).Stands g.core l.slot l.lane
      { t with inRun := false, stamp := s.ctl.freeCtr, status := .faultwait, fid := fid, quiet := t.quiet && !t.stepping } := by
  have left := State.abandon_leaves (s := s) alone going
  have waits := ((h.abandon alone going).killOps g.core l.slot l.lane).updThread (fun t => { t with status := .faultwait, fid := fid, quiet := t.quiet && !t.stepping })
  have parks := State.maybeParkSlot_core (((s.abandon g).killOps g.core l.slot l.lane).updThread g.core l.slot l.lane (fun t => { t with status := .faultwait, fid := fid, quiet := t.quiet && !t.stepping })) g.core l.slot
  exact ⟨⟨(congrArg CoreS.issue parks) ▸ left.issue, (State.maybeParkSlot_mem ..).trans left.mem⟩, waits.of_gangs (congrArg CoreS.gangs parks)⟩

end

/-! ## Launches that end -/

/-- No run of a context is in issue, and no thread of it lives. -/
structure State.Over (s : State) (ctx : Nat) : Prop where
  issue : ∀ h ∈ s.core.issue, h.ctx ≠ ctx
  threads : ∀ y ∈ s.core.gangs, y.ctx = ctx → ∀ h ∈ y.threads, h.live = false

section
variable {s : State} {ctx : Nat}

theorem State.Over.of_core {u : State} (h : s.Over ctx) (same : u.core = s.core) : u.Over ctx := ⟨same.symm ▸ h.issue, same.symm ▸ h.threads⟩

theorem State.Over.updThread (h : s.Over ctx) (core slot lane : Nat) {f : Thread → Thread} (live : ∀ t, (f t).live = t.live) : (s.updThread core slot lane f).Over ctx := by
  refine ⟨h.issue, fun y hy mine t ht => ?_⟩
  obtain ⟨x, hx, rfl⟩ := List.mem_map.mp hy
  by_cases here : x.core = core ∧ x.slot = slot
  · rw [if_pos here] at mine ht
    obtain ⟨u, hu, rfl | rfl⟩ := mem_modAt ht
    · exact h.threads x hx mine t hu
    · exact (live u).trans (h.threads x hx mine u hu)
  · rw [if_neg here] at mine ht
    exact h.threads x hx mine t ht

/-- The cores and the launches. -/
def State.going (s : State) : CoreS × List Launch := (s.core, s.run.launches)

theorem State.rdZero_going (s : State) (l : L1Line) : (s.rdZero l).going = s.going := by
  unfold State.rdZero
  split
  · rfl
  · split <;> rfl

theorem State.clearRd_going (s : State) (core slot : Nat) : (s.clearRd core slot).going = s.going := by
  refine foldl_keeps State.going (fun t l => ?_) _ _
  dsimp only
  split
  · exact State.rdZero_going ..
  · rfl

theorem State.clearLoaded_going (s : State) (core slot lane : Nat) : (s.clearLoaded core slot lane).going = (s.updThread core slot lane (fun t => { t with loaded := false })).going := by
  unfold State.clearLoaded
  dsimp only
  split
  · split
    · rfl
    · exact State.clearRd_going ..
  · rfl

/-- The lane masks of a context's gangs cleared (R99). -/
def State.unload (s : State) (ctx : Nat) : State :=
  (s.core.gangs.filter (fun g => g.ctx == ctx)).foldl (fun (s : State) g => (List.range 32).foldl (fun (s : State) l => s.clearLoaded g.core g.slot l) s) s

theorem State.Over.unload (h : s.Over ctx) : (s.unload ctx).Over ctx :=
  List.foldlRecOn (motive := fun u : State => u.Over ctx) _ _ h fun _ hu g _ => List.foldlRecOn (motive := fun u : State => u.Over ctx) _ _ hu fun v hv l _ =>
    (hv.updThread g.core g.slot l (f := fun t => { t with loaded := false }) fun _ => rfl).of_core (congrArg (·.1) (v.clearLoaded_going g.core g.slot l))

/-- A launch stamped with its status, its runs and threads stopped (R63). -/
def State.halt (s : State) (ctx status : Nat) : State :=
  let s1 := s.updLaunch ctx (fun l => { l with ending := some status })
  { s1 with
    core.issue := s1.core.issue.filter (fun g => g.ctx != ctx),
    core.toks := s1.core.toks.map (fun (t : Token) => if t.ctx = ctx then
      { t with dead := true, lanes := t.lanes.map (fun (l : TLane) => if l.walk.isSome then { l with vals := some [], walk := none } else l) } else t),
    core.gangs := s1.core.gangs.map (fun (g : Gang) => if g.ctx = ctx then
      { g with threads := g.threads.map (fun (t : Thread) => if t.status = Status.empty then t else { t with status := .exited, inRun := false, hold := .none }) } else g) }

theorem State.halt_over (s : State) (ctx status : Nat) : (s.halt ctx status).Over ctx := by
  refine ⟨fun h hh => by simpa using (List.mem_filter.mp hh).2, fun y hy mine t ht => ?_⟩
  obtain ⟨x, -, rfl⟩ := List.mem_map.mp hy
  by_cases own : x.ctx = ctx
  · rw [if_pos own] at ht
    obtain ⟨u, -, rfl⟩ := List.mem_map.mp ht
    by_cases empty : u.status = .empty <;> simp [Thread.live, empty]
  · rw [if_neg own] at mine
    exact absurd mine own

/-- The runs of a context logged (R211). -/
def State.logRuns (s : State) (ctx : Nat) : State := (s.core.issue.filter (fun g => g.ctx == ctx)).foldl (fun (s : State) g => s.logRun g) s

/-- The launches. -/
def State.launches (s : State) : List Launch := s.run.launches

theorem State.with_sealed_launches (s : State) (m : Tab Nat (Nat × Nat)) : { s with mm.sealed := m }.launches = s.launches := rfl

theorem State.with_blocks_launches (s : State) (bs : List Nat) : { s with run.blocks := bs }.launches = s.launches := rfl

theorem State.wipe_launches (s : State) (pa n : Nat) : (s.wipe pa n).launches = s.launches :=
  foldl_keeps State.launches (fun t _ => (State.with_sealed_launches _ _).trans (foldl_keeps State.launches (fun _ _ => by rfl) _ (t.putBytes _ _))) _ _

/-- Extents of n bytes wiped, for any n: the kernel would compute with a numeral. -/
theorem State.wipes_launches (n : Nat) (bs : List Nat) (s : State) : (bs.foldl (fun (s : State) b => s.wipe b n) s).launches = s.launches :=
  foldl_keeps State.launches (fun t b => t.wipe_launches b n) bs s

theorem State.releaseBlocks_launches (s : State) (world : Nat) (bs : List Nat) : (s.releaseBlocks world bs).launches = s.launches :=
  (congrArg RunS.launches (State.retryHeld_run _)).trans ((State.with_blocks_launches _ _).trans (ite_keeps State.launches rfl (State.wipes_launches 32768 bs s)))

theorem State.releaseBlocks_going (s : State) (world : Nat) (bs : List Nat) : (s.releaseBlocks world bs).going = s.going :=
  Prod.ext (State.core_of_warded (s.releaseBlocks_warded world bs)) (s.releaseBlocks_launches world bs)

theorem State.unload_launches (s : State) (ctx : Nat) : (s.unload ctx).launches = s.launches :=
  foldl_keeps State.launches (fun _ _ => foldl_keeps State.launches (fun v _ => congrArg (·.2) (v.clearLoaded_going ..)) _ _) _ _

/-- What the end of a launch leaves of the cores and the launches. -/
theorem State.endLaunch_going {L : Launch} (status : Nat) (found : s.launch ctx = some L) (first : L.ending = none) :
    (s.endLaunch ctx status).going = (((s.logRuns ctx).halt ctx status).unload ctx).going := by
  have sent (t : State) : (if t.due (fun e => e == .launchComplete ctx) then t else t.send (.launchComplete ctx)).going = t.going := ite_keeps State.going rfl rfl
  unfold State.endLaunch
  rw [found]
  simp only [first, Option.isSome_none, Bool.false_eq_true, if_false]
  exact (sent _).trans (State.releaseBlocks_going (((s.logRuns ctx).halt ctx status).unload ctx) _ _)

theorem State.endLaunch_over {L : Launch} (status : Nat) (found : s.launch ctx = some L) (first : L.ending = none) : (s.endLaunch ctx status).Over ctx :=
  ((State.halt_over _ ctx status).unload).of_core (congrArg (·.1) (State.endLaunch_going status found first))

/-- The status of a launch, once it is ending. -/
def State.endingOf (s : State) (ctx : Nat) : Option (Option Nat) := (s.launch ctx).map (fun l => l.ending)

theorem State.updLaunch_endingOf (s : State) (c : Nat) {f : Launch → Launch} (keeps : ∀ l, (f l).ctx = l.ctx ∧ (f l).ending = l.ending) : (s.updLaunch c f).endingOf ctx = s.endingOf ctx := by
  rw [State.endingOf, State.launch_updLaunch s c ctx fun l => (keeps l).1, State.endingOf]
  cases s.launch ctx with
  | none => rfl
  | some l => simp only [Option.map_some]; split <;> simp [keeps]

theorem State.endingOf_of_launches {u : State} (same : u.run.launches = s.run.launches) : u.endingOf ctx = s.endingOf ctx := by
  rw [State.endingOf, State.launch, same]
  rfl

theorem State.logEvent_endingOf (s : State) (ring source code : Nat) (cls : Option Nat) (fs : List (Nat × Nat × Nat)) : (s.logEvent ring source code cls fs).endingOf ctx = s.endingOf ctx :=
  State.endingOf_of_launches (congrArg RunS.launches (State.logEvent_logs ..).run)

theorem State.logTenant_endingOf (s : State) (t : Option Nat) (source code cls : Nat) (fs : List (Nat × Nat × Nat)) : (s.logTenant t source code cls fs).endingOf ctx = s.endingOf ctx := by
  cases t with
  | none => exact s.logEvent_endingOf 256 source code none fs
  | some t => exact s.logEvent_endingOf t source code (some cls) fs

theorem State.logRun_endingOf (s : State) (g : Grp) : (s.logRun g).endingOf ctx = s.endingOf ctx := by
  unfold State.logRun State.logArith
  refine foldl_keeps (fun u => u.endingOf ctx) (fun t r => ?_) _ s
  refine (State.updLaunch_endingOf _ g.ctx fun l => ?_).trans (State.logEvent_endingOf ..)
  exact ⟨rfl, rfl⟩

theorem State.endLaunch_endingOf {L : Launch} (status : Nat) (found : s.launch ctx = some L) (first : L.ending = none) : (s.endLaunch ctx status).endingOf ctx = some (some status) := by
  have logged : (s.logRuns ctx).endingOf ctx = some none := (foldl_keeps (fun u => u.endingOf ctx) (fun t g => t.logRun_endingOf g) _ s).trans (by rw [State.endingOf, found, Option.map_some, first])
  have stamped : ((s.logRuns ctx).halt ctx status).endingOf ctx = some (some status) := by
    obtain ⟨M, there, -⟩ := Option.map_eq_some_iff.mp logged
    have mine : M.ctx = ctx := by simpa using List.find?_some there
    have marked := State.launch_updLaunch (s.logRuns ctx) ctx ctx (f := fun l => { l with ending := some status }) fun _ => rfl
    rw [there, Option.map_some, if_pos mine] at marked
    exact congrArg (Option.map fun l => l.ending) marked
  have launches := (congrArg (·.2) (State.endLaunch_going status found first)).trans (State.unload_launches ((s.logRuns ctx).halt ctx status) ctx)
  exact (State.endingOf_of_launches launches).trans stamped

/-! ## Traps that are handled as ILLEGAL -/

theorem State.leave_run (s : State) (core slot lane : Nat) (f : Thread → Thread) : (s.leave core slot lane f).run = s.run := rfl

theorem State.abandon_run (s : State) (g : Grp) : (s.abandon g).run = (s.logRun g).run := by
  unfold State.abandon
  dsimp only
  refine (foldl_keeps State.run (fun t (l : RLane) => t.leave_run g.core l.slot l.lane id) _ _).trans ((State.dropGrp_run ..).trans ?_)
  have undone : ((s.logRun g).undoAllocs g (fun x => !g.lanes.any (fun l => l.slot == x && l.done))).run = (s.logRun g).run := congrArg (·.2.2.1) ((s.logRun g).undoAllocs_abreast g _)
  exact ite_keeps State.run (s := s.logRun g) undone undone

theorem State.abandon_endingOf (s : State) (g : Grp) : (s.abandon g).endingOf ctx = s.endingOf ctx :=
  (State.endingOf_of_launches (congrArg RunS.launches (s.abandon_run g))).trans (s.logRun_endingOf g)

end

/-- A trap ends its launch with FAULT (R210). -/
theorem State.coreTrap_ends {s : State} {g : Grp} {L : Launch} (cause : Nat) (lanes : List RLane) (found : s.launch g.ctx = some L) (first : L.ending = none) :
    (s.coreTrap g cause lanes).endingOf g.ctx = some (some 4) ∧ (s.coreTrap g cause lanes).Over g.ctx := by
  have logs (u : State) (h : u.endingOf g.ctx = some none) : ((u.abandon g).endLaunch g.ctx 4).endingOf g.ctx = some (some 4) ∧ ((u.abandon g).endLaunch g.ctx 4).Over g.ctx := by
    obtain ⟨M, there, going⟩ := Option.map_eq_some_iff.mp ((u.abandon_endingOf g).trans h)
    exact ⟨State.endLaunch_endingOf 4 there going, State.endLaunch_over 4 there going⟩
  unfold State.coreTrap
  dsimp only
  refine logs _ ((foldl_keeps (fun u => u.endingOf g.ctx) (fun t _ => t.logTenant_endingOf ..) _ s).trans ?_)
  rw [State.endingOf, found, Option.map_some, first]

/-! ## Stores that trap -/

theorem misaligned_map (n : Nat) (ls : List RLane) (va : RLane → Nat) : misaligned n (ls.map (fun l => (l, va l))) = ls.filter (fun l => va l % n != 0) := by
  simp [misaligned, List.filter_map, Function.comp_def]

section
variable {s : State} {g : Grp} {rest : List Grp} {gd : BitVec 3} {d b : BitVec 7} {o : BitVec 4} {va : RLane → Nat} (issues : Issues s g rest gd (d.toNat :: baseSrcs b.toNat) [])
  (at_ : ∀ l, s.va g ((baseSrcs b.toNat).map (s.readD g l)) (g.off4 o.toNat 4) = va l)
include issues at_

/-- A misaligned store traps with ALIGN before any byte of it (R319). -/
theorem State.storeWord_misaligned (broken : (g.active gd).filter (fun l => va l % 4 != 0) ≠ []) :
    s.storeWord gd d b o 4 = s.coreTrap g 0x16 ((g.active gd).filter (fun l => va l % 4 != 0)) := by
  have regs : regCodes d.toNat (regCount 4) ++ baseSrcs b.toNat = d.toNat :: baseSrcs b.toNat := rfl
  have addresses : ((g.active gd).map (fun l => (l, (d.toNat :: baseSrcs b.toNat).map (s.readD g l)))).map (fun x => (x.1, s.va g (x.2.drop (regCount 4)) (g.off4 o.toNat 4))) =
      (g.active gd).map (fun l => (l, va l)) := by
    simp [regCount, at_]
  have some : (!((g.active gd).filter (fun l => va l % 4 != 0)).isEmpty) = true := by simpa using broken
  simp only [State.storeWord, regs, consume_issues 1 _ issues, addresses, misaligned_map, some, if_true]

/-- A store of one lane whose page faults (R138). -/
theorem State.storeWord_faults {l : RLane} {w cause fid : Nat} (alone : g.active gd = [l]) (aligned : va l % 4 = 0)
    (fault : s.xlate (stackOf g.core) (s.tenantOfCtx g.ctx) g.ctx (va l) 1 = .fault w cause (some fid)) :
    s.storeWord gd d b o 4 = (s.takeFaults [w]).waitTrap g [(l, some fid)] := by
  have regs : regCodes d.toNat (regCount 4) ++ baseSrcs b.toNat = d.toNat :: baseSrcs b.toNat := rfl
  simp only [State.storeWord, regs, consume_issues 1 _ issues]
  simp [alone, regCount, at_, misaligned, aligned, State.xlLanes, State.xlLane, fault, State.faultTrap]

end

/-! ## Branches on poison -/

theorem State.consume_poisoned {s : State} {g : Grp} {rest : List Grp} {gd : BitVec 3} {a : Nat} {l : RLane} {v : PVal} (acc : Nat) (body : State → Grp → List (RLane × List PVal) → State)
    (head : s.core.issue = g :: rest) (alone : g.lanes = [l]) (on : l.gate gd = .on) (deep : guardEntry gd ≤ l.depth) (read : s.read g l a = .ok v) (bad : v.bad = true) :
    s.consume acc gd [a] body = s.poisonTrap g acc [(l, v)] := by
  have readable : s.readTrap g l a = none := by rw [State.readTrap, read]
  have value : s.readD g l a = v := by rw [State.readD, read]
  have act : g.active gd = [l] := by simp [Grp.active, alone, on]
  have guards : g.guardPois gd = [] := by simp [Grp.guardPois, alone, on]
  simp [State.consume, State.word, head, Grp.deep, alone, deep, act, guards, State.operandTrap, readable, value, bad]

/-- Settles O7: the store by its alignment and its page, the trap by the end of its launch, the branch by whether its value is repaired. -/
theorem trapWords : Obligations.TrapWords := by
  intro c s g rest gd d b o
  refine ⟨fun issues => ⟨fun broken => ?misaligned, ?faults⟩, fun cause lanes L found first => ?ends, ?poison⟩
  case misaligned => exact congrArg Host.Outcome.next (State.storeWord_misaligned issues (fun _ => rfl) broken)
  case faults =>
    intro l x w cause fid alone on going bound short _ aligned fault
    have act : g.active gd = [l] := by simp [Grp.active, alone, on]
    obtain ⟨left, waits⟩ := State.waitTrap_alone (s := s.takeFaults [w]) alone going fid ⟨x, bound, short, rfl⟩
    refine ⟨_, congrArg Host.Outcome.next (State.storeWord_faults issues (fun _ => rfl) act aligned fault), ?_⟩
    rw [waits.thread]
    exact ⟨rfl, rfl, left.issue, left.mem⟩
  case ends =>
    obtain ⟨ending, ended⟩ := State.coreTrap_ends cause lanes found first
    obtain ⟨M, there, status⟩ := Option.map_eq_some_iff.mp ending
    exact ⟨⟨M, there, status⟩, ended.issue, ended.threads⟩
  case poison =>
    intro l x v head _ alone on going deep bound short read bad kind
    have traps : exec (.brx c gd b) s = .next (s.poisonTrap g 3 [(l, v)]) := congrArg Host.Outcome.next (State.consume_poisoned 3 _ head alone on deep read bad)
    rw [State.poisonTrap_refillable _ _ _ kind] at traps
    refine ⟨_, traps, ?_⟩
    cases mended : s.refilled g l v.fid with
    | false =>
      obtain ⟨left, waits⟩ := State.waitTrap_alone alone going v.fid ⟨x, bound, short, rfl⟩
      simp only [Bool.false_eq_true, if_false]
      rw [waits.thread]
      exact ⟨fun _ => ⟨rfl, rfl⟩, nofun, rfl, left.issue, left.mem⟩
    | true =>
      have left := State.abandon_leaves (s := s) alone going
      have stands := ((State.Stands.abandon alone going ⟨x, bound, short, rfl⟩).killOps g.core l.slot l.lane)
      simp only [if_true]
      rw [stands.thread]
      exact ⟨nofun, fun _ => rfl, rfl, left.issue, left.mem⟩

end Sys2Proof.Machine
end

section
/-! SUPPORT. Lists in the order of a key, the least of a list as a fold finds it, and what changes of the scheduler's leave alone. -/

namespace Sys2Proof.Machine

open Sys2Proof

/-! ## Lists in the order of a key -/

section
variable {α : Type} (key : α → Nat)

theorem insertBy_perm (x : α) (l : List α) : (insertBy key x l).Perm (x :: l) := by
  induction l with
  | nil => exact .refl _
  | cons y l ih =>
    unfold insertBy
    split
    · exact .refl _
    · exact (ih.cons y).trans (.swap x y l)

theorem sortBy_perm (l : List α) : (sortBy key l).Perm l := by
  suffices h : ∀ l t : List α, (l.foldl (fun s x => insertBy key x s) t).Perm (t ++ l) from h l []
  intro l
  induction l with
  | nil => exact fun t => by simp
  | cons x l ih => exact fun t => (ih _).trans (((insertBy_perm key x t).append_right l).trans List.perm_middle.symm)

theorem mem_sortBy {l : List α} {x : α} : x ∈ sortBy key l ↔ x ∈ l := (sortBy_perm key l).mem_iff

end

/-! ## The least of a list -/

section
variable {α : Type} {R : α → α → Prop} [DecidableRel R]

/-- Of two, the one that R puts first; the earlier where it puts none first. -/
def pickLeast (R : α → α → Prop) [DecidableRel R] (a b : α) : α := if R b a then b else a

section
variable (irrefl : ∀ a, ¬ R a a) (trans : ∀ a b c, R a b → R b c → R a c)
include trans

/-- What the fold finds is where it began, or goes before that. -/
theorem foldl_pickLeast_le (a : α) (l : List α) : l.foldl (pickLeast R) a = a ∨ R (l.foldl (pickLeast R) a) a := by
  induction l generalizing a with
  | nil => exact .inl rfl
  | cons b l ih =>
    rw [List.foldl_cons]
    by_cases less : R b a
    · rw [pickLeast, if_pos less]
      rcases ih b with here | before
      · exact .inr (by rwa [here])
      · exact .inr (trans _ _ _ before less)
    · rw [pickLeast, if_neg less]
      exact ih a

include irrefl

/-- A fold that keeps the lesser of two finds a member that none goes before. -/
theorem foldl_pickLeast (a : α) (l : List α) : l.foldl (pickLeast R) a ∈ a :: l ∧ ∀ x ∈ a :: l, ¬ R x (l.foldl (pickLeast R) a) := by
  induction l generalizing a with
  | nil => simpa using irrefl a
  | cons b l ih =>
    obtain ⟨found, first⟩ := ih (pickLeast R a b)
    have below := foldl_pickLeast_le trans (pickLeast R a b) l
    rw [List.foldl_cons]
    by_cases less : R b a
    · rw [pickLeast, if_pos less] at found first below ⊢
      refine ⟨List.mem_cons_of_mem _ found, List.forall_mem_cons.mpr ⟨fun h => ?_, first⟩⟩
      exact first b List.mem_cons_self (trans _ _ _ less h)
    · rw [pickLeast, if_neg less] at found first below ⊢
      refine ⟨?_, List.forall_mem_cons.mpr ⟨first a List.mem_cons_self, List.forall_mem_cons.mpr ⟨fun h => ?_, fun x hx => first x (List.mem_cons_of_mem _ hx)⟩⟩⟩
      · rcases List.mem_cons.mp found with here | later
        · rw [here]
          exact List.mem_cons_self
        · exact List.mem_cons_of_mem _ (List.mem_cons_of_mem _ later)
      · rcases below with here | before
        · exact less (here ▸ h)
        · exact less (trans _ _ _ h before)

end

end

theorem headD_drop_of_getElem? {α : Type} {l : List α} {i : Nat} {x : α} (d : α) (h : l[i]? = some x) : (l.drop i).headD d = x := by
  rw [List.headD_eq_head?_getD, List.head?_drop, h, Option.getD_some]

/-! ## What is left alone -/

/-- A world's ways are the world's alone (R80). -/
theorem State.takeWays_eq (s : State) (world slice : Nat) : ∃ ws, s.takeWays world slice = { s with ten.worlds := ws } := by
  unfold State.takeWays
  split
  · split
    · exact ⟨_, rfl⟩
    · split
      · exact ⟨_, rfl⟩
      · exact ⟨_, rfl⟩
  · exact ⟨_, rfl⟩

/-- In t the cores and memory are those of s, and every task control block of s is there. -/
structure State.Adds (s t : State) : Prop where
  core : t.core = s.core
  mem : t.mem = s.mem
  tcbs : ∀ x ∈ s.run.tcbs, x ∈ t.run.tcbs

theorem State.Adds.refl (s : State) : s.Adds s := ⟨rfl, rfl, fun _ h => h⟩

theorem State.Adds.trans {s t u : State} (h : s.Adds t) (k : t.Adds u) : s.Adds u := ⟨k.core.trans h.core, k.mem.trans h.mem, fun x hx => k.tcbs x (h.tcbs x hx)⟩

theorem State.addTcb_adds (s : State) (t : TCB) : s.Adds (s.addTcb t) := ⟨rfl, rfl, fun _ h => List.mem_append_left _ h⟩

theorem State.updLaunch_adds (s : State) (ctx : Nat) (f : Launch → Launch) : s.Adds (s.updLaunch ctx f) := ⟨rfl, rfl, fun _ h => h⟩

theorem State.pokePinned_adds (s : State) (ctx group : Nat) : s.Adds (s.pokePinned ctx group) := by
  unfold State.pokePinned
  split
  · split
    · exact .refl s
    · exact ⟨rfl, rfl, fun _ h => h⟩
  · exact .refl s

/-- Task control blocks are cut, and none goes (R167). -/
theorem State.cutTcbs_adds (k : Nat) (s : State) (ctx : Nat) : s.Adds (State.cutTcbs k s ctx) := by
  induction k generalizing s with
  | zero => exact .refl s
  | succ k ih =>
    unfold State.cutTcbs
    split
    · exact .refl s
    · next l _ =>
      have cut (n : Nat) : s.Adds ((s.updLaunch ctx (fun l => { l with cut := l.cut + n })).addTcb (l.tcb l.cut n none)) := (s.updLaunch_adds ..).trans (State.addTcb_adds _ _)
      split
      · exact .refl s
      · dsimp only
        split
        · exact ((s.updLaunch_adds ..).trans (State.pokePinned_adds ..)).trans (ih _)
        · split
          · exact (cut _).trans (ih _)
          · exact cut _

theorem State.cutMore_adds (s : State) (ctx : Nat) : s.Adds (s.cutMore ctx) := by
  unfold State.cutMore
  split
  · exact .refl s
  · exact State.cutTcbs_adds ..

end Sys2Proof.Machine
end

section
/-! SUPPORT. Placing, binding and stealing (R166, R168 to R172): where a task control block goes, what a gang is at its bind, and whom a cluster without work asks. -/

namespace Sys2Proof.Machine

open Sys2Proof

/-! ## The coolest column (R169) -/

/-- HOT of a column (R24). -/
def State.isHot (s : State) (c : Nat) : Bool := bit ((s.pkg.tcol.drop c).headD 0).toNat 30

/-- What R169 goes by: temperature, then the length of the queue, then the number. -/
def State.placeKey (s : State) (c : Nat) : Nat := (s.tempKey c * 2 ^ 32 + s.queued c) * 96 + c

/-- The columns among some that come into question: the ones not HOT, or all where all are. -/
def State.cooler (s : State) (cs : List Nat) : List Nat := if (cs.filter (fun c => !s.isHot c)).isEmpty then cs else cs.filter (fun c => !s.isHot c)

section
variable {s : State} {cs : List Nat} {c : Nat}

theorem State.mem_cooler {d : Nat} : d ∈ s.cooler cs ↔ d ∈ cs ∧ (s.isHot d = true → ∀ x ∈ cs, s.isHot x = true) := by
  have allHot : (cs.filter (fun c => !s.isHot c)).isEmpty = true ↔ ∀ x ∈ cs, s.isHot x = true := by simp
  unfold State.cooler
  split
  · next none => exact ⟨fun h => ⟨h, fun _ => allHot.mp none⟩, fun h => h.1⟩
  · next some =>
    rw [List.mem_filter]
    refine and_congr_right fun _ => ⟨fun cool hot => ?_, fun h => ?_⟩
    · simp [hot] at cool
    · cases hot : s.isHot d
      · rfl
      · exact absurd (allHot.mpr (h hot)) some

theorem State.coolest_least (h : s.coolest cs = some c) : c ∈ s.cooler cs ∧ ∀ d ∈ s.cooler cs, s.placeKey c ≤ s.placeKey d := by
  unfold State.coolest at h
  dsimp only at h
  split at h
  · cases h
  · next a rest some =>
    have here : s.cooler cs = a :: rest := some
    obtain ⟨found, first⟩ := foldl_pickLeast (R := fun b a => s.placeKey b < s.placeKey a) (fun _ => Nat.lt_irrefl _) (fun _ _ _ => Nat.lt_trans) a rest
    cases h
    rw [here]
    exact ⟨found, fun d hd => Nat.le_of_not_lt (first d hd)⟩

theorem State.coolest_spec (h : s.coolest cs = some c) :
    c ∈ cs ∧ (s.isHot c = true → ∀ d ∈ cs, s.isHot d = true) ∧ ∀ d ∈ cs, s.isHot d = s.isHot c → s.placeKey c ≤ s.placeKey d := by
  obtain ⟨member, least⟩ := State.coolest_least h
  obtain ⟨here, hot⟩ := State.mem_cooler.mp member
  exact ⟨here, hot, fun d hd same => least d (State.mem_cooler.mpr ⟨hd, fun e => hot (same ▸ e)⟩)⟩

end

/-! ## Placing (R168, R169) -/

section
variable {s : State} {l : Launch} {t : TCB} {c : Nat}

theorem State.waits_of_unsaved (unsaved : s.savedGroup t = none) (queued : t.state = 0) : s.waits t = true := by
  have none : s.run.saved.find? (fun x => x.tcb == t.id) = none := Option.map_eq_none_iff.mp unsaved
  simp [State.waits, none, queued]

theorem State.unitOf_of_loose (launched : s.launch t.ctx = some l) (loose : t.pinned = false) : s.unitOf t = [t] := by simp [State.unitOf, launched, loose]

theorem State.placeAll_of_one (cool : s.coolest (s.candidates l t) = some c) : s.placeAll l [t] = some (s.enqueue t c) := by simp [State.placeAll, cool]

theorem State.enqueue_core (s : State) (t : TCB) (c : Nat) : (s.enqueue t c).core = s.core := ite_keeps State.core (s := s) rfl rfl
theorem State.enqueue_mem (s : State) (t : TCB) (c : Nat) : (s.enqueue t c).mem = s.mem := ite_keeps State.mem (s := s) rfl rfl

theorem State.mem_enqueue (s : State) (t : TCB) (c : Nat) : { t with place := c, passed := 0 } ∈ (s.enqueue t c).run.tcbs := by
  unfold State.enqueue
  dsimp only
  split <;> exact List.mem_append_right _ (List.mem_singleton.mpr rfl)

/-- A task control block in the Reeve that waits alone is placed, and the next of its launch are cut. -/
theorem exec_tcbPlace {n : Nat} (found : s.tcb n = some t) (launched : s.launch t.ctx = some l) (loose : t.pinned = false) (inReeve : t.place = 96) (queued : t.state = 0)
    (unsaved : s.savedGroup t = none) (plain : l.est = none) (cut : l.unitCut t = true) (cool : s.coolest (s.candidates l t) = some c) :
    exec .tcbPlace (s.hears (.tcbPlace n)) = .next ((((s.hears (.tcbPlace n)).enqueue t c).cutMore t.ctx).pokeThieves) := by
  have found' : (s.hears (.tcbPlace n)).tcb n = some t := found
  have launched' : (s.hears (.tcbPlace n)).launch t.ctx = some l := launched
  have unsaved' : (s.hears (.tcbPlace n)).savedGroup t = none := unsaved
  have waits := State.waits_of_unsaved unsaved' queued
  have unit := State.unitOf_of_loose launched' loose
  have placed := State.placeAll_of_one (s := s.hears (.tcbPlace n)) cool
  have released : l.released? t = true := by simp [Launch.released?, plain]
  have alone (key : TCB → Nat) : sortBy key [t] = [t] := rfl
  refine congrArg Host.Outcome.next ?_
  simp [State.hears_op, found', launched', unsaved', waits, unit, inReeve, alone, released, cut, placed]

theorem happens_tcbPlace {n : Nat} (found : s.tcb n = some t) (launched : s.launch t.ctx = some l) (loose : t.pinned = false) (inReeve : t.place = 96) (queued : t.state = 0)
    (unsaved : s.savedGroup t = none) (plain : l.est = none) (cut : l.unitCut t = true) (cool : s.coolest (s.candidates l t) = some c) :
    Happens .tcbPlace (.tcbPlace n) s (fun u => u.core = s.core ∧ u.mem = s.mem ∧ ∃ x ∈ u.run.tcbs, x.id = t.id ∧ x.place = c ∧ x.state = 0 ∧ x.ctx = t.ctx ∧ x.first = t.first ∧ x.ngrp = t.ngrp) := by
  have adds := ((s.hears (.tcbPlace n)).enqueue t c).cutMore_adds t.ctx
  refine ⟨rfl, _, exec_tcbPlace found launched loose inReeve queued unsaved plain cut cool, ?_, ?_, _, adds.tcbs _ (State.mem_enqueue ..), rfl, rfl, queued, rfl, rfl, rfl⟩
  · exact adds.core.trans (State.enqueue_core ..)
  · exact adds.mem.trans (State.enqueue_mem ..)

end

/-! ## The scan of a queue (R170) -/

theorem mem_preemptedFirst (n : Nat) (l : List TCB) : ∀ t ∈ preemptedFirst n l, t ∈ l := by
  induction n generalizing l with
  | zero => exact fun _ h => h
  | succ n ih =>
    cases l with
    | nil => exact fun _ h => h
    | cons a rest =>
      intro t ht
      unfold preemptedFirst at ht
      split at ht
      · next u found =>
        have later : u ∈ rest := by
          split at found
          · cases found
          · exact List.mem_of_find?_eq_some found
        rcases List.mem_cons.mp ht with rfl | ht
        · exact List.mem_cons_of_mem _ later
        · rcases List.mem_cons.mp (ih _ t ht) with rfl | ht
          · exact List.mem_cons_self
          · exact List.mem_cons_of_mem _ (List.mem_filter.mp ht).1
      · rcases List.mem_cons.mp ht with rfl | ht
        · exact List.mem_cons_self
        · exact List.mem_cons_of_mem _ (ih _ t ht)

theorem State.mem_of_scanOrder {s : State} {c : Nat} {t : TCB} (h : t ∈ s.scanOrder c) : t ∈ s.run.tcbs :=
  (List.mem_filter.mp ((mem_sortBy _).mp (mem_preemptedFirst _ _ t h))).1

theorem State.passOver_nil (s : State) : s.passOver [] = s := by simp [State.passOver]

/-! ## Binding (R166, R170, R171) -/

/-- A task control block of one gang is bound: the gang takes its slot and its save blocks, the world its ways, and the launch waits from now on. -/
def State.bindLone (s : State) (l : Launch) (t : TCB) (p : Plan) (x : Spot) (bs : List Nat) : State :=
  ((((({ s with run.blocks := s.run.blocks ++ bs }.seat (s.newGang l t p x bs)).updTcb t.id (fun u => { u with state := 1, passed := 0 })).takeWays l.world t.place).updGraph t.ctx
    (fun q => q.taken t.stage)).updLaunch t.ctx (fun l => { l with waitSince := s.ctl.time }))

/-- What a bind of one gang changes among the cores, of memory, and of the scheduler's blocks and task control blocks. -/
theorem State.bindLone_parts (s : State) (l : Launch) (t : TCB) (p : Plan) (x : Spot) (bs : List Nat) :
    let u := s.bindLone l t p x bs
    u.core = { s.core with gangs := s.core.gangs ++ [s.newGang l t p x bs] } ∧ u.mem = s.mem ∧ u.run.blocks = s.run.blocks ++ bs ∧
      u.run.tcbs = s.run.tcbs.map (fun u => if u.id = t.id then { u with state := 1, passed := 0 } else u) := by
  unfold State.bindLone
  obtain ⟨ws, ways⟩ := State.takeWays_eq (({ s with run.blocks := s.run.blocks ++ bs }.seat (s.newGang l t p x bs)).updTcb t.id (fun u => { u with state := 1, passed := 0 })) l.world t.place
  rw [ways]
  exact ⟨rfl, rfl, rfl, rfl⟩

section
variable {s : State} {l : Launch} {t : TCB} {p : Plan} {x : Spot} {bs : List Nat}
variable (launched : s.launch t.ctx = some l) (one : l.plans t = [p]) (fits : s.fit l t [p] l.lrec.blocks = some [x]) (free : s.freeBlocks l.lrec.blocks = some bs)
include launched one fits free

theorem State.bindOne_lone : s.bindOne t = some (s.bindLone l t p x bs) := by
  simp [State.bindOne, State.bindLone, launched, one, fits, free]

variable {c : Nat} {rest : List TCB} (order : s.scanOrder c = t :: rest) (unsaved : s.savedGroup t = none) (loose : t.pinned = false) (placed : t.place < 96)
include order unsaved loose placed

theorem State.scan_lone : s.scan c [] (s.scanOrder c) = (s.bindLone l t p x bs, true) := by
  have bound : s.bindUnit [t] = some (s.bindLone l t p x bs) := by
    simp [State.bindUnit, Nat.not_le_of_lt placed, State.bindOne_lone launched one fits free]
  rw [order]
  simp [State.scan, unsaved, State.unitOf_of_loose launched loose, bound, State.passOver_nil]

/-- The first task control block of a cluster's scan that fits, of one gang, is bound. -/
theorem happens_tcbBind : Happens .tcbBind (.tcbBind c) s (fun u => u.core.gangs = s.core.gangs ++ [s.newGang l t p x bs] ∧ u.run.blocks = s.run.blocks ++ bs ∧
    (∃ y ∈ u.run.tcbs, y.id = t.id ∧ y.state = 1) ∧ u.mem = s.mem ∧ u.core.issue = s.core.issue) := by
  have scanned := State.scan_lone (s := s.hears (.tcbBind c)) launched one fits free order unsaved loose placed
  obtain ⟨core, mem, blocks, tcbs⟩ := (s.hears (.tcbBind c)).bindLone_parts l t p x bs
  have answers : exec .tcbBind (s.hears (.tcbBind c)) = .next (((s.hears (.tcbBind c)).bindLone l t p x bs).send (.tcbBind c)).pokePlaces := by
    refine congrArg Host.Outcome.next ?_
    simp [State.hears_op, scanned]
  have here : t ∈ s.run.tcbs := State.mem_of_scanOrder (order ▸ List.mem_cons_self)
  refine ⟨rfl, _, answers, (congrArg CoreS.gangs core :), blocks, ⟨{ t with state := 1, passed := 0 }, ?_, rfl, rfl⟩, mem, (congrArg CoreS.issue core :)⟩
  show _ ∈ ((s.hears (.tcbBind c)).bindLone l t p x bs).run.tcbs
  rw [tcbs]
  exact List.mem_map.mpr ⟨t, here, if_pos rfl⟩

end

/-! ## A gang at its bind (R166, R203) -/

section
variable (s : State) (l : Launch) (t : TCB) (p : Plan) (x : Spot) (bs : List Nat)

/-- Without records every lane register is 0 (R203). -/
theorem State.newGang_reg (plain : t.recs = []) (r lane : Nat) : (s.newGang l t p x bs).reg r lane = pzero := by
  have v : (s.newGang l t p x bs).v = [] := by simp [State.newGang, plain, recordRegs]
  rw [Gang.reg, v]
  rfl

theorem State.newGang_thread {i : Nat} {b : Bool} (live : p.live[i]? = some b) : (s.newGang l t p x bs).thread i = if b then newThread s t.entry else emptyThread :=
  headD_drop_of_getElem? _ (by simp [State.newGang, live])

/-- A lane that has a thread starts at the launch's entry, any other is empty (R166). -/
theorem State.newGang_starts {i : Nat} {b : Bool} (live : p.live[i]? = some b) :
    ((s.newGang l t p x bs).thread i).status = (if b then .runnable else .empty) ∧
      (b = true → ((s.newGang l t p x bs).thread i).pc = t.entry ∧ ((s.newGang l t p x bs).thread i).first = true) := by
  rw [s.newGang_thread l t p x bs live]
  cases b
  · exact ⟨rfl, fun h => absurd h Bool.false_ne_true⟩
  · exact ⟨rfl, fun _ => ⟨rfl, rfl⟩⟩

end

/-! ## Victims (R172) -/

/-- The clusters of a stack. -/
def clustersOf (k : Nat) : List Nat := (List.range 32).map (fun i => 32 * k + i)

theorem mem_clustersOf {k v : Nat} : v ∈ clustersOf k ↔ v / 32 = k := by
  simp only [clustersOf, List.mem_map, List.mem_range]
  exact ⟨fun ⟨i, hi, e⟩ => by omega, fun h => ⟨v % 32, by omega, by omega⟩⟩

theorem nodup_clustersOf (k : Nat) : (clustersOf k).Nodup := List.nodup_range.map fun _ _ h => by simpa using h

/-- The victims on a thief's own stack, in some order. -/
def ownVictims (c : Nat) : List Nat := sortBy (fun v => 32 * hops c v + v % 32) ((clustersOf (c / 32)).filter (fun v => v != c))

theorem victims_eq (c : Nat) : victims c = ownVictims c ++ (clustersOf ((c / 32 + 1) % 3) ++ clustersOf ((c / 32 + 2) % 3)) := List.append_assoc ..

theorem ownVictims_perm (c : Nat) : (ownVictims c).Perm ((clustersOf (c / 32)).erase c) := by
  rw [(nodup_clustersOf _).erase_eq_filter]
  exact sortBy_perm _ _

theorem length_ownVictims (c : Nat) : (ownVictims c).length = 31 := by
  rw [(ownVictims_perm c).length_eq, List.length_erase_of_mem (mem_clustersOf.mpr rfl)]
  simp [clustersOf]

theorem mem_ownVictims {c v : Nat} : v ∈ ownVictims c ↔ v / 32 = c / 32 ∧ v ≠ c := by
  rw [(ownVictims_perm c).mem_iff, (nodup_clustersOf _).mem_erase_iff, mem_clustersOf, and_comm]

/-- A thief tries each of the other 95 clusters once, those of its own stack first and those of the stack before its own last. -/
theorem victims_spec (c : Nat) : (victims c).length = 95 ∧ (victims c).Nodup ∧ c ∉ victims c ∧ (∀ w ∈ (victims c).take 31, w / 32 = c / 32) ∧
    (∀ w ∈ (victims c).drop 63, w / 32 = (c / 32 + 2) % 3) := by
  have length (k : Nat) : (clustersOf k).length = 32 := by simp [clustersOf]
  have own := length_ownVictims c
  have apart : ∀ w, w ∈ clustersOf ((c / 32 + 1) % 3) ++ clustersOf ((c / 32 + 2) % 3) → w / 32 ≠ c / 32 := by
    intro w hw
    rw [List.mem_append, mem_clustersOf, mem_clustersOf] at hw
    omega
  rw [victims_eq]
  refine ⟨by simp [own, length], ?nodup, ?self, ?near, ?last⟩
  case nodup =>
    refine List.nodup_append.mpr ⟨(ownVictims_perm c).nodup_iff.mpr ((nodup_clustersOf _).erase c), List.nodup_append.mpr ⟨nodup_clustersOf _, nodup_clustersOf _, ?_⟩, ?_⟩
    · intro v hv w hw e
      rw [mem_clustersOf] at hv hw
      omega
    · intro v hv w hw e
      exact apart w hw (e ▸ (mem_ownVictims.mp hv).1)
  case self =>
    rw [List.mem_append, not_or]
    exact ⟨fun h => (mem_ownVictims.mp h).2 rfl, fun h => apart c h rfl⟩
  case near =>
    rw [List.take_append_of_le_length (by omega), List.take_of_length_le (by omega)]
    exact fun w hw => (mem_ownVictims.mp hw).1
  case last =>
    rw [← List.append_assoc, List.drop_append_of_le_length (by simp [own, length]), List.drop_of_length_le (by simp [own, length])]
    exact fun w hw => mem_clustersOf.mp hw

/-! ## Stealing (R172) -/

section
variable {s : State} {c v : Nat}

theorem gives_stealRequest_asks (may : s.mayAsk c = true) {w : Nat} {ws : List Nat} (order : victims c = w :: ws) :
    Gives .stealRequest (.stealRequest c) s (fun s => { s with run.steals := tset s.run.steals c ws }.send (.stealServe w c)) := by
  refine .of_pos (c := s.mayAsk c = true) (t := s.hears (.stealRequest c)) may rfl ?_
  refine congrArg Host.Outcome.next ?_
  simp only [State.hears_op, order, State.askNext]
  rfl

theorem gives_stealRequest_not (may : s.mayAsk c = false) : Gives .stealRequest (.stealRequest c) s id :=
  .of_neg (c := s.mayAsk c = true) (by simp [may]) rfl rfl

theorem gives_stealRetryTimer (may : s.mayAsk c = true) : Gives .stealRetryTimer (.stealRetryTimer c) s (fun s => s.send (.stealRequest c)) :=
  .of_pos (c := s.mayAsk c = true) may rfl rfl

theorem gives_stealRetryTimer_not (may : s.mayAsk c = false) : Gives .stealRetryTimer (.stealRetryTimer c) s id :=
  .of_neg (c := s.mayAsk c = true) (by simp [may]) rfl rfl

/-- The task control blocks that a victim gives: of those that may move the newer half, as far as the thief's queue has room. -/
def State.given (s : State) (v c : Nat) : List TCB :=
  let may := s.run.tcbs.filter (fun t => t.place == v && t.state == 0 && !t.pinned && s.waysOk t.wtag c)
  may.drop (may.length - min (may.length / 2) (64 - s.queued c))

variable {rest : List Nat} (asking : tget s.run.steals c = some rest)
include asking

theorem exec_stealServe : exec .stealServe (s.hears (.stealServe v c)) = .next (
    let t := s.hears (.stealServe v c)
    if t.ctl.agenda.any (fun e => e == .tcbBind v) then t.wait (.stealServe v c)
    else if (t.given v c).isEmpty then t.askNext c rest
    else ((t.given v c).foldl (fun (s : State) t => s.enqueue t c) { t with run.steals := tdel t.run.steals c }).pokePlaces) := by
  have asking' : tget (s.hears (.stealServe v c)).run.steals c = some rest := asking
  refine congrArg Host.Outcome.next ?_
  simp only [State.hears_op, asking']
  rfl

/-- Binding goes first. -/
theorem gives_stealServe_waits (binding : Ev.tcbBind v ∈ s.ctl.agenda) : Gives .stealServe (.stealServe v c) s (fun s => s.wait (.stealServe v c)) := by
  have first : (s.hears (.stealServe v c)).ctl.agenda.any (fun e => e == .tcbBind v) = true := List.any_eq_true.mpr ⟨_, binding, beq_self_eq_true _⟩
  exact ⟨rfl, (exec_stealServe asking).trans (congrArg Host.Outcome.next (if_pos first))⟩

variable (idle : Ev.tcbBind v ∉ s.ctl.agenda)
include idle

theorem exec_stealServe_idle : exec .stealServe (s.hears (.stealServe v c)) = .next (
    let t := s.hears (.stealServe v c)
    if (t.given v c).isEmpty then t.askNext c rest
    else ((t.given v c).foldl (fun (s : State) t => s.enqueue t c) { t with run.steals := tdel t.run.steals c }).pokePlaces) := by
  have none : ¬ (s.hears (.stealServe v c)).ctl.agenda.any (fun e => e == .tcbBind v) = true := by
    rw [List.any_eq_true]
    rintro ⟨e, he, same⟩
    exact idle (beq_iff_eq.mp same ▸ he)
  exact (exec_stealServe asking).trans (congrArg Host.Outcome.next (if_neg none))

theorem gives_stealServe_gives (some : s.given v c ≠ []) : Gives .stealServe (.stealServe v c) s (fun u =>
    ((s.given v c).foldl (fun (s : State) t => s.enqueue t c) { u with run.steals := tdel u.run.steals c }).pokePlaces) := by
  have taken : ¬ ((s.hears (.stealServe v c)).given v c).isEmpty = true := fun h => some (List.isEmpty_iff.mp h)
  exact ⟨rfl, (exec_stealServe_idle asking idle).trans (congrArg Host.Outcome.next (if_neg taken))⟩

variable (none : s.given v c = [])
include none

theorem gives_stealServe_next : Gives .stealServe (.stealServe v c) s (fun s => s.askNext c rest) := by
  have empty : ((s.hears (.stealServe v c)).given v c).isEmpty = true := List.isEmpty_iff.mpr none
  exact ⟨rfl, (exec_stealServe_idle asking idle).trans (congrArg Host.Outcome.next (if_pos empty))⟩

end

/-- A thief that got nothing from anyone tries again after 4,096 cycles, while there is a launch. -/
theorem State.askNext_nil {s : State} (some : s.run.launches ≠ []) (c : Nat) :
    s.askNext c [] = { s with run.steals := tdel s.run.steals c, ctl.timers := s.ctl.timers ++ [(s.ctl.time + 8192, .stealRetryTimer c)] } := by
  have launched : ¬ s.run.launches.isEmpty = true := fun h => some (List.isEmpty_iff.mp h)
  exact if_neg launched

/-- Settles O52, message by message. -/
theorem schedulingEvents : Obligations.SchedulingEvents := by
  intro s n c v l t
  refine ⟨happens_tcbPlace, fun cs => State.coolest_spec, fun rest p x bs order launched _ unsaved loose placed one fits free => happens_tcbBind launched one fits free order unsaved loose placed,
    fun p x bs => ⟨rfl, rfl, rfl, rfl, rfl, rfl, rfl, s.newGang_reg l t p x bs, fun i b => s.newGang_starts l t p x bs⟩, fun may w ws => gives_stealRequest_asks may, gives_stealRequest_not,
    fun _ => victims_spec c, fun rest asking => ⟨gives_stealServe_waits asking, fun idle some => ?gives, fun idle none => ⟨fun w ws more => ?asks, fun last some => ?retries⟩⟩,
    gives_stealRetryTimer, gives_stealRetryTimer_not⟩
  case gives => exact gives_stealServe_gives asking idle some
  case asks =>
    subst more
    exact gives_stealServe_next asking idle none
  case retries =>
    subst last
    obtain ⟨instr, answers⟩ := gives_stealServe_next asking idle none
    exact ⟨instr, answers.trans (congrArg Host.Outcome.next (State.askNext_nil (s := s.hears _) some c))⟩

end Sys2Proof.Machine
end

section
/-! SUPPORT. Pre-emption and parking (R173, R174, R386): the group that is taken for a launch that waits, and what of a group that stands still is written to its blocks. -/

namespace Sys2Proof.Machine

open Sys2Proof

/-! ## The group that is taken (R173) -/

/-- Of two gangs the one of the lower class, of equals the one bound last. -/
abbrev Worse (cls : Gang → Nat) (b a : Gang) : Prop := cls b < cls a ∨ (cls b = cls a ∧ a.bornAt < b.bornAt)

theorem worst_eq_none {cls : Gang → Nat} {gs : List Gang} : worst cls gs = none ↔ gs = [] := by
  cases gs <;> simp [worst]

theorem worst_spec {cls : Gang → Nat} {gs : List Gang} {g : Gang} (h : worst cls gs = some g) : g ∈ gs ∧ ∀ x ∈ gs, cls g ≤ cls x ∧ (cls x = cls g → x.bornAt ≤ g.bornAt) := by
  cases gs with
  | nil => cases h
  | cons a gs =>
    obtain ⟨found, first⟩ := foldl_pickLeast (R := Worse cls) (fun a => by omega) (fun a b c => by omega) a gs
    have here : gs.foldl (pickLeast (Worse cls)) a = g := Option.some.inj h
    rw [here] at found first
    refine ⟨found, fun x hx => ?_⟩
    have notWorse := first x hx
    omega

theorem State.mem_waitingTcbs {s : State} {l : Launch} {u : TCB} :
    u ∈ s.waitingTcbs l ↔ u ∈ s.run.tcbs ∧ u.ctx = l.ctx ∧ s.waits u = true ∧ max l.waitSince u.since + 170000 ≤ s.ctl.time := by
  have wait : 100 * perUs = 170000 := rfl
  rw [State.waitingTcbs, wait, List.mem_filter]
  simp only [Bool.and_eq_true, beq_iff_eq, decide_eq_true_eq, and_assoc]

section
variable {s : State} {c : Nat} {l : Launch} (launched : s.launch c = some l) (going : l.ending = none)
include launched going

/-- Nothing is taken while a group is being saved for the launch, nor where none can be found. -/
theorem gives_preemptTimer_again (nothing : (∃ p ∈ s.run.preempts, p.2.2 = c) ∨ ∀ u ∈ s.waitingTcbs l, s.victimFor l u = none) :
    Gives .preemptTimer (.preemptTimer c) s (fun s => s.after 170000 (.preemptTimer c)) := by
  have launched' : (s.hears (.preemptTimer c)).launch c = some l := launched
  refine ⟨rfl, congrArg Host.Outcome.next ?_⟩
  simp only [State.hears_op, launched', going, Option.isSome_none, Bool.false_eq_true, if_false]
  rcases nothing with ⟨p, hp, mine⟩ | none
  · exact if_pos (List.any_eq_true.mpr ⟨p, hp, (beq_iff_eq : (p.2.2 == c) = true ↔ _).mpr mine⟩)
  · have none' : ((s.hears (.preemptTimer c)).waitingTcbs l).findSome? ((s.hears (.preemptTimer c)).victimFor l) = Option.none := List.findSome?_eq_none_iff.mpr none
    rw [none']
    exact ite_self _

theorem exec_preemptTimer {g : Gang} (idle : ∀ p ∈ s.run.preempts, p.2.2 ≠ c) (found : (s.waitingTcbs l).findSome? (s.victimFor l) = some g) :
    exec .preemptTimer (s.hears (.preemptTimer c)) = .next (((s.hears (.preemptTimer c)).after 170000 (.preemptTimer c)).startPreempt g.ctx g.group c) := by
  have launched' : (s.hears (.preemptTimer c)).launch c = some l := launched
  have found' : ((s.hears (.preemptTimer c)).waitingTcbs l).findSome? ((s.hears (.preemptTimer c)).victimFor l) = some g := found
  have free : (s.hears (.preemptTimer c)).run.preempts.any (fun p => p.2.2 == c) = false := by simpa using idle
  refine congrArg Host.Outcome.next ?_
  simp only [State.hears_op, launched', going, Option.isSome_none, free, found', Bool.false_eq_true, if_false]
  rfl

/-- For the first task control block for which one can be found, a group is marked and its saving begins. -/
theorem happens_preemptTimer {t : TCB} {before after : List TCB} {g : Gang} (order : s.waitingTcbs l = before ++ t :: after) (nothing : ∀ u ∈ before, s.victimFor l u = none)
    (idle : ∀ p ∈ s.run.preempts, p.2.2 ≠ c) (taken : s.victimFor l t = some g) :
    Happens .preemptTimer (.preemptTimer c) s (fun u => (g.ctx, g.group, c) ∈ u.run.preempts ∧ Ev.preemptSave g.ctx g.group ∈ u.ctl.agenda ∧
      (∀ x ∈ u.core.gangs, x.ctx = g.ctx → x.group = g.group → x.preempt = true) ∧ (s.ctl.time + 170000, .preemptTimer c) ∈ u.ctl.timers) := by
  have found : (s.waitingTcbs l).findSome? (s.victimFor l) = some g := List.findSome?_eq_some_iff.mpr ⟨before, t, after, order, taken, nothing⟩
  refine ⟨rfl, _, exec_preemptTimer launched going idle found, List.mem_append_right _ List.mem_cons_self, List.mem_append_right _ List.mem_cons_self, fun x hx ctx group => ?_,
    List.mem_append_right _ List.mem_cons_self⟩
  obtain ⟨y, -, rfl⟩ := List.mem_map.mp hx
  by_cases mine : y.ctx = g.ctx ∧ y.group = g.group
  · rw [if_pos mine]
  · rw [if_neg mine] at ctx group
    exact absurd ⟨ctx, group⟩ mine

end

/-! ## Stores of the device for a world (R79) -/

theorem State.sharedInval_writes (s : State) (slice line : Nat) : s.Writes (s.sharedInval slice line) := by
  have gone (t : Tx) : s.Writes (s.invalDone t) := by
    unfold State.invalDone
    refine .ite ?_ (.ite ⟨_, _, _, _, _, _, _, rfl⟩ ⟨_, _, _, _, _, _, _, rfl⟩)
    unfold State.hdirRemove
    split <;> exact ⟨_, _, _, _, _, _, _, rfl⟩
  unfold State.sharedInval
  split
  · exact .refl s
  · exact .ite (.refl s) (.ite (gone _) ⟨_, _, _, _, _, _, _, rfl⟩)

theorem State.sealBack_writes (s : State) (l : L2Line) : s.Writes (s.sealBack l) := by
  unfold State.sealBack
  split
  · next slot key _ =>
    extract_lets c s1 _ s2 s3 s4
    have stored : s.Writes s1 := ((s.destWrite_writes _).trans (State.srcWriteNow_writes ..)).trans (State.snoopHost_writes ..)
    have filled : s1.Writes s2 := ⟨_, _, _, _, _, _, _, rfl⟩
    have marked : s2.Writes s3 := (State.Writes.foldl (fun t _ => t.setPoison_writes _ _) _ _).trans (State.mscDirty_writes ..)
    have clean : s3.Writes s4 := (s3.dirtyHalves_writes ..).trans ⟨_, _, _, _, _, _, _, rfl⟩
    exact (((stored.trans filled).trans marked).trans clean).trans (.foldl (fun t _ => t.sharedInval_writes _ _) _ _)
  · exact .refl s

theorem State.dropWorldLine_writes (s : State) (l : L2Line) : s.Writes (s.dropWorldLine l) := .ite ⟨_, _, _, _, _, _, _, rfl⟩ ⟨_, _, _, _, _, _, _, rfl⟩

theorem State.worldPut_writes (s : State) (w line : Nat) (p : Patch) : s.Writes (s.worldPut w line p) := by
  unfold State.worldPut
  dsimp only
  split
  · exact ⟨_, _, _, _, _, _, _, rfl⟩
  · refine .ite ⟨_, _, _, _, _, _, _, rfl⟩ ?_
    split
    · exact ⟨_, _, _, _, _, _, _, rfl⟩
    · exact (State.Writes.foldl (fun t l => t.dropWorldLine_writes l) _ s).trans (State.sealBack_writes _ _)

theorem State.putAs_writes (s : State) (w pa : Nat) (bytes : List Byte) : s.Writes (s.putAs w pa bytes) :=
  .ite (s.devStore_writes pa bytes none) (.foldl (fun t _ => t.worldPut_writes ..) _ s)

theorem State.Writes.core {s t : State} (h : s.Writes t) : t.core = s.core := by obtain ⟨_, _, _, _, _, _, _, rfl⟩ := h; rfl

/-- A gang written to its blocks (R175). -/
theorem State.saveBlocks_writes (s : State) (g : Gang) (parked : Bool) : s.Writes (s.saveBlocks g parked) := by
  unfold State.saveBlocks
  refine .trans (.trans (.trans (s.putAs_writes _ _ _) (.ite (State.putAs_writes ..) (.refl _))) (State.putAs_writes ..)) (.foldl (fun t e => ?_) _ _)
  split
  · exact t.putAs_writes ..
  · exact .refl t

theorem State.rdZero_run (s : State) (l : L1Line) : (s.rdZero l).run = s.run := by
  unfold State.rdZero
  split
  · rfl
  · split <;> rfl

theorem State.clearRd_run (s : State) (core slot : Nat) : (s.clearRd core slot).run = s.run := by
  refine foldl_keeps State.run (fun t l => ?_) _ _
  dsimp only
  split
  · exact State.rdZero_run ..
  · rfl

theorem State.clearLoaded_run (s : State) (core slot lane : Nat) : (s.clearLoaded core slot lane).run = s.run := by
  unfold State.clearLoaded
  dsimp only
  split
  · split
    · rfl
    · exact State.clearRd_run ..
  · rfl

/-! ## A group that is saved (R174) -/

/-- The gangs of a group, each written to its blocks and its lane masks cleared. -/
def State.saveGangs (s : State) (gs : List Gang) (parked : Bool) : State :=
  gs.foldl (fun (s : State) g => (List.range 32).foldl (fun (s : State) l => s.clearLoaded g.core g.slot l) (s.saveBlocks g parked)) s

theorem State.saveGangs_run (s : State) (gs : List Gang) (parked : Bool) : (s.saveGangs gs parked).run = s.run :=
  foldl_keeps State.run (fun t g => (foldl_keeps State.run (fun u _ => u.clearLoaded_run ..) _ _).trans (t.saveBlocks_writes g parked).run) _ _

/-- Gangs give up their slots, and what is kept of them is recorded under a task control block (R174, R175). -/
def State.unseat (s : State) (gs : List Gang) (ctx group tcb : Nat) (parked : Bool) : State :=
  let gone (core slot : Nat) : Bool := gs.any (fun g => g.core == core && g.slot == slot)
  { s with
    run.saved := s.run.saved ++ gs.map (fun (g : Gang) => { g.saved parked tcb with
      tpois := (s.eng.tregs.filter (fun (t : TileReg) => t.ctx == g.ctx && t.gang == g.gang)).map (fun (t : TileReg) => (t.name, t.pois)) }),
    run.preempts := s.run.preempts.filter (fun (p : Nat × Nat × Nat) => !(p.1 == ctx && p.2.1 == group)),
    core.gangs := s.core.gangs.filter (fun (y : Gang) => !gone y.core y.slot),
    coh.fwd := s.coh.fwd.filter (fun (f : FwdEnt) => !gone f.core f.slot),
    eng.tregs := s.eng.tregs.filter (fun (t : TileReg) => !(t.ctx == ctx && gs.any (fun (g : Gang) => g.gang == t.gang))) }

/-- The launches, the saved gangs and the bound ones. -/
def State.seats (s : State) : List Launch × List Saved × List Gang := (s.run.launches, s.run.saved, s.core.gangs)

theorem State.placeSaved_seats (s : State) (ctx group : Nat) : (s.placeSaved ctx group).seats = s.seats := by
  unfold State.placeSaved
  split
  · split
    · split <;> rfl
    · rfl
  · rfl

theorem State.detach_launches (s : State) (id group state : Nat) : (s.detach id group state).1.run.launches = s.run.launches := by
  unfold State.detach
  split
  · rfl
  · split <;> rfl

theorem State.launch_of_launches {s t : State} (same : t.run.launches = s.run.launches) (c : Nat) : t.launch c = s.launch c := by rw [State.launch, same]; rfl

theorem State.pokeBinds_seats (s : State) (cs : List Nat) : (s.pokeBinds cs).seats = s.seats := rfl

theorem State.updTcb_seats (s : State) (id : Nat) (f : TCB → TCB) : (s.updTcb id f).seats = s.seats := rfl

/-- A group's task control block leaves its place, its gangs are written and give up their slots, and the slots are looked at (R174). -/
theorem State.saveGroup_eq {u : State} {ctx group : Nat} {g0 : Gang} {gs : List Gang} (parked : Bool) (bound : u.groupGangs ctx group = g0 :: gs) :
    u.saveGroup ctx group parked =
      let d := u.detach g0.tcb group (if u.run.preempts.any (fun p => p.1 == ctx && p.2.1 == group && p.2.2 == 4096) then 0 else 3)
      let s2 := (d.1.saveGangs (g0 :: gs) parked).unseat (g0 :: gs) ctx group d.2 parked
      let s3 := if d.2 != g0.tcb && !(s2.core.gangs.any (fun g => g.tcb == g0.tcb)) then s2.updTcb g0.tcb (fun t => if t.state = 1 then { t with state := 2, place := 97 } else t) else s2
      let s4 := (s3.pokeBinds ((g0 :: gs).map (fun g => clusterOf g.core))).placeSaved ctx group
      match s4.launch ctx with
      | some l => match l.est.bind (fun e => e.k) with
        | some k => if bit l.lrec.flags 0 && !(l.est.any (fun e => e.reached.contains (clusterOf g0.core))) then s4.cancelSaved ctx k (fun t => t.id == d.2) else s4
        | none => s4
      | none => s4 := by
  unfold State.saveGroup
  rw [bound]
  rfl

/-- What of a group that is saved, in a launch that makes no estimate. -/
theorem State.saveGroup_seats {u : State} {ctx group : Nat} {g0 : Gang} {gs : List Gang} (parked : Bool) (bound : u.groupGangs ctx group = g0 :: gs) (draws : ∀ l, u.launch ctx = some l → l.est = none) :
    ∃ (s1 : State) (tcb : Nat), (u.saveGroup ctx group parked).seats = (s1.unseat (g0 :: gs) ctx group tcb parked).seats := by
  rw [State.saveGroup_eq parked bound]
  extract_lets d s2 s3 s4
  have placed : s4.seats = s2.seats := by
    refine (State.placeSaved_seats ..).trans ((State.pokeBinds_seats ..).trans ?_)
    unfold s3
    split
    · exact State.updTcb_seats ..
    · rfl
  have launches : s4.run.launches = u.run.launches :=
    (congrArg (·.1) placed).trans ((congrArg RunS.launches (State.saveGangs_run ..)).trans (State.detach_launches ..))
  refine ⟨d.1.saveGangs (g0 :: gs) parked, d.2, ?_⟩
  cases h : s4.launch ctx with
  | none => exact placed
  | some l => simpa [draws l ((State.launch_of_launches launches ctx).symm.trans h)] using placed

/-- What a saved group leaves: none of its gangs in a slot, and a record of each (R174, R175). -/
theorem State.saveGroup_saves {u : State} {ctx group : Nat} (parked : Bool) (draws : ∀ l, u.launch ctx = some l → l.est = none) {g : Gang} (hg : g ∈ u.groupGangs ctx group) :
    (∀ y ∈ (u.saveGroup ctx group parked).core.gangs, ¬ (y.core = g.core ∧ y.slot = g.slot)) ∧
      ∃ x ∈ (u.saveGroup ctx group parked).run.saved,
        x.ctx = ctx ∧ x.group = group ∧ x.gang = g.gang ∧ x.block = g.block ∧ x.tblocks = g.tblocks ∧ x.wids = g.wids ∧ x.parked = parked := by
  obtain ⟨g0, gs, bound⟩ := List.exists_cons_of_ne_nil (List.ne_nil_of_mem hg)
  obtain ⟨s1, tcb, seats⟩ := State.saveGroup_seats parked bound draws
  have gangs : (u.saveGroup ctx group parked).core.gangs = _ := congrArg (·.2.2) seats
  have saved : (u.saveGroup ctx group parked).run.saved = _ := congrArg (·.2.1) seats
  obtain ⟨hctx, hgroup⟩ : g.ctx = ctx ∧ g.group = group := by simpa using (List.mem_filter.mp hg).2
  rw [gangs, saved]
  rw [bound] at hg
  refine ⟨fun y hy same => ?_, _, List.mem_append_right _ (List.mem_map_of_mem hg), hctx, hgroup, rfl, rfl, rfl, rfl, rfl⟩
  have out := (List.mem_filter.mp hy).2
  rw [Bool.not_eq_true', List.any_eq_false] at out
  exact out g hg (by simp [same])

/-! ## The saving of a group (R174, R386) -/

section
variable {s : State} {c n : Nat}

/-- A group is saved once it stands still and has quiesced; until then it is looked at again. -/
theorem exec_preemptSave (bound : s.groupGangs c n ≠ []) : exec .preemptSave (s.hears (.preemptSave c n)) = .next (
    let e := s.hears (.preemptSave c n)
    let u := (e.groupGangs c n).foldl (fun (s : State) g => s.stopWaiters g) e
    if !((u.groupGangs c n).all (fun g => g.atRest && !u.atStop g)) then (u.setSaving c n false).wait (.preemptSave c n)
    else
      let q := (u.setSaving c n true).quiesce c n
      if q.2 then q.1.saveGroup c n false else q.1.wait (.preemptSave c n)) := by
  have bound' : ((s.hears (.preemptSave c n)).groupGangs c n).isEmpty = false := List.isEmpty_eq_false_iff.mpr bound
  refine congrArg Host.Outcome.next ?_
  simp only [State.hears_op, bound', Bool.false_eq_true, if_false]

theorem exec_gangPark : exec .gangPark (s.hears (.gangPark c n)) = .next (
    let e := s.hears (.gangPark c n)
    if s.run.preempts.any (fun p => p.1 == c && p.2.1 == n) then e
    else if !s.parkable c n then e.setSaving c n false
    else
      let q := (e.setSaving c n true).quiesce c n
      if q.2 then (q.1.parkStop c n).saveGroup c n true else q.1.wait (.gangPark c n)) := rfl

end

/-! ## Restore (R177) -/

theorem State.tryReply_of_none {s : State} {core slot lane : Nat} (none : (s.thread core slot lane).reply = none) : s.tryReply core slot lane = s := by
  unfold State.tryReply
  dsimp only
  rw [none]
  split
  · next h => cases h
  · rfl

/-- Reads for a world change at most the lines whose check is due to fail (R83). -/
theorem State.foldl_checkAs (s : State) (w n : Nat) (pas : List Nat) : ∃ ds, pas.foldl (fun (s : State) pa => s.checkAs w pa n) s = { s with ctl.integDue := ds } := by
  induction pas generalizing s with
  | nil => exact ⟨_, rfl⟩
  | cons pa pas ih =>
    have one : ∃ ds, s.checkAs w pa n = { s with ctl.integDue := ds } := by
      unfold State.checkAs
      split
      · exact ⟨_, rfl⟩
      · exact ⟨_, rfl⟩
    obtain ⟨ds, h⟩ := one
    obtain ⟨ds', h'⟩ := ih (s.checkAs w pa n)
    exact ⟨ds', h'.trans (by rw [h])⟩

section
variable (s : State) (ds : List (Nat × Nat))

theorem State.bytesAs_due (w pa n : Nat) : State.bytesAs { s with ctl.integDue := ds } w pa n = s.bytesAs w pa n := rfl

theorem State.loadGang_due (l : Launch) (t : TCB) (x : Saved) (p : Spot) : State.loadGang { s with ctl.integDue := ds } l t x p = s.loadGang l t x p := by
  unfold State.loadGang
  rw [State.bytesAs_due]
  rfl

theorem State.loadTiles_due (g : Gang) (tpois : List (Nat × List Nat)) : State.loadTiles { s with ctl.integDue := ds } g tpois = s.loadTiles g tpois := by
  unfold State.loadTiles
  simp only [State.bytesAs_due]

end

theorem foldl_id {α β : Type} {f : α → β → α} {a : α} (l : List β) (same : ∀ b ∈ l, f a b = a) : l.foldl f a = a := by
  induction l with
  | nil => rfl
  | cons b l ih =>
    rw [List.foldl_cons, same b List.mem_cons_self]
    exact ih fun b hb => same b (List.mem_cons_of_mem _ hb)

/-- A gang takes its slot with its tile registers, and is no longer kept as saved. -/
def State.reseat (s : State) (g : Gang) (x : Saved) (c n : Nat) : State :=
  { s.seat g with run.saved := s.run.saved.filter (fun x => !(x.ctx == c && x.group == n)), eng.tregs := s.eng.tregs ++ s.loadTiles g x.tpois }

/-- A saved gang takes its slot with what its blocks hold (R177). -/
def State.bringBack (s : State) (l : Launch) (t : TCB) (x : Saved) (p : Spot) (c n : Nat) : State :=
  (((s.reseat (s.loadGang l t x p) x c n).updTcb t.id (fun t => { t with state := 1, passed := 0 })).takeWays l.world t.place).updLaunch c (fun l => { l with waitSince := s.ctl.time })

/-- What of the state a restored gang changes. -/
theorem State.bringBack_parts (s : State) (l : Launch) (t : TCB) (x : Saved) (p : Spot) (c n : Nat) :
    let u := s.bringBack l t x p c n
    u.core = { s.core with gangs := s.core.gangs ++ [s.loadGang l t x p] } ∧ u.mem = s.mem ∧ u.xl = s.xl ∧ u.eng.tregs = s.eng.tregs ++ s.loadTiles (s.loadGang l t x p) x.tpois ∧
      u.run.saved = s.run.saved.filter (fun x => !(x.ctx == c && x.group == n)) ∧
      u.run.tcbs = s.run.tcbs.map (fun u => if u.id = t.id then { u with state := 1, passed := 0 } else u) := by
  unfold State.bringBack
  obtain ⟨ws, ways⟩ := State.takeWays_eq ((s.reseat (s.loadGang l t x p) x c n).updTcb t.id (fun t => { t with state := 1, passed := 0 })) l.world t.place
  rw [ways]
  exact ⟨rfl, rfl, rfl, rfl, rfl, rfl⟩

/-- The fault replies recorded for a group that is back are applied, then its service replies (R177). -/
def State.applyReplies (s : State) (c n : Nat) : State :=
  let gs := s.groupGangs c n
  let fids := ((s.xl.freply.filter (fun e => e.1.1 == c)).map (fun e => e.1.2)).filter (fun f =>
    s.engineWaits c f || gs.any (fun g => g.threads.any (fun t => t.status == .faultwait && t.fid == f) || !(g.held f).isEmpty))
  gs.foldl (fun (s : State) g => (List.range 32).foldl (fun (s : State) n => s.tryReply g.core g.slot n) s) (fids.foldl (fun (s : State) f => s.retry c f) s)

/-- Where there are none, nothing is applied. -/
theorem State.applyReplies_of_none {s : State} {c n : Nat} (unanswered : ∀ e ∈ s.xl.freply, e.1.1 ≠ c) (silent : ∀ g ∈ s.groupGangs c n, ∀ lane, (s.thread g.core g.slot lane).reply = none) :
    s.applyReplies c n = s := by
  have none : s.xl.freply.filter (fun e => e.1.1 == c) = [] := by simpa using unanswered
  unfold State.applyReplies
  rw [none]
  exact foldl_id _ (fun g hg => foldl_id _ fun lane _ => State.tryReply_of_none (silent g hg lane))

theorem Gang.reply_of_silent {g : Gang} (silent : ∀ h ∈ g.threads, h.reply = none) (lane : Nat) : (g.thread lane).reply = none := by
  unfold Gang.thread
  rcases hd : g.threads.drop lane with _ | ⟨h, rest⟩
  · rfl
  · exact silent h (List.mem_of_mem_drop (hd ▸ List.mem_cons_self))

/-- A restored gang's threads have the replies they were saved with. -/
theorem State.loadGang_reply {s : State} {l : Launch} {t : TCB} {x : Saved} {p : Spot} (silent : ∀ h ∈ x.threads, h.reply = none) : ∀ h ∈ (s.loadGang l t x p).threads, h.reply = none := by
  intro h hh
  obtain ⟨e, he, rfl⟩ := List.mem_map.mp hh
  exact silent e.2 (List.of_mem_zip he).2

section
variable {s : State} {c n : Nat} {l : Launch} {t : TCB} {x : Saved} {pl : Plan} {p : Spot}
variable (saved : s.run.saved.filter (fun x => x.ctx == c && x.group == n) = [x]) (found : s.tcb x.tcb = some t) (launched : s.launch c = some l) (preempted : t.state = 3) (placed : t.place < 96)
variable (fits : s.restoreFit t = some ([pl], [p])) (unanswered : ∀ e ∈ s.xl.freply, e.1.1 ≠ c) (silent : ∀ h ∈ x.threads, h.reply = none)
variable (away : s.groupGangs c n = []) (free : s.gang p.core p.slot = none)

section
include saved found launched preempted placed fits

theorem exec_groupRestore : ∃ ds, exec .groupRestore (s.hears (.groupRestore c n)) = .next
    ((((State.bringBack { s.hears (.groupRestore c n) with ctl.integDue := ds } l t x p c n).applyReplies c n).send (.tcbBind t.place)).pokePlaces) := by
  obtain ⟨ds, checked⟩ := (s.hears (.groupRestore c n)).foldl_checkAs x.world 32768 (x.block :: x.tblocks)
  refine ⟨ds, congrArg Host.Outcome.next ?_⟩
  have saved' : (s.hears (.groupRestore c n)).run.saved.filter (fun x => x.ctx == c && x.group == n) = [x] := saved
  have found' : (s.hears (.groupRestore c n)).tcb x.tcb = some t := found
  have launched' : (s.hears (.groupRestore c n)).launch c = some l := launched
  have fits' : (s.hears (.groupRestore c n)).restoreFit t = some ([pl], [p]) := fits
  have may : t.state ≠ 1 ∧ t.place < 96 := ⟨by omega, placed⟩
  rw [List.foldl_cons] at checked
  simp only [State.hears_op, saved', found', launched', may, and_self, if_true, fits', List.foldl_cons, List.foldl_nil, ne_eq, not_false_eq_true, List.zip_cons_cons, List.zip_nil_right]
  rw [checked]
  rfl

end

include saved found launched preempted placed fits unanswered silent away free

/-- A saved group of one gang comes back in its new slot. -/
theorem happens_groupRestore : Happens .groupRestore (.groupRestore c n) s (fun u => u.core.gangs = s.core.gangs ++ [s.loadGang l t x p] ∧ (∀ y ∈ u.run.saved, ¬ (y.ctx = c ∧ y.group = n)) ∧
    u.mem = s.mem ∧ u.eng.tregs = s.eng.tregs ++ s.loadTiles (s.loadGang l t x p) x.tpois ∧ ∃ y ∈ u.run.tcbs, y.id = t.id ∧ y.state = 1) := by
  obtain ⟨ds, answers⟩ := exec_groupRestore saved found launched preempted placed fits
  obtain ⟨core, mem, xl, tregs, kept, tcbs⟩ := State.bringBack_parts { s.hears (.groupRestore c n) with ctl.integDue := ds } l t x p c n
  rw [State.loadGang_due] at core tregs
  rw [State.loadTiles_due] at tregs
  generalize State.bringBack { s.hears (.groupRestore c n) with ctl.integDue := ds } l t x p c n = v at *
  have gangs : v.core.gangs = s.core.gangs ++ [s.loadGang l t x p] := congrArg CoreS.gangs core
  have seated : v.gang p.core p.slot = some (s.loadGang l t x p) := by
    have free' : s.core.gangs.find? (fun g => g.core == p.core && g.slot == p.slot) = none := free
    rw [State.gang, gangs, List.find?_append, free', Option.none_or]
    exact List.find?_cons_of_pos (by simp [State.loadGang, State.newGang])
  have back : v.groupGangs c n ⊆ [s.loadGang l t x p] := by
    have away' : s.core.gangs.filter (fun g => g.ctx == c && g.group == n) = [] := away
    rw [State.groupGangs, gangs, List.filter_append, away', List.nil_append]
    exact List.filter_sublist.subset
  have applied : v.applyReplies c n = v := State.applyReplies_of_none (fun e he => unanswered e (xl ▸ he)) fun g hg lane => by
    rw [List.mem_singleton.mp (back hg)]
    show (v.thread p.core p.slot lane).reply = none
    rw [State.thread, seated]
    exact Gang.reply_of_silent (State.loadGang_reply silent) lane
  rw [applied] at answers
  refine ⟨rfl, _, answers, gangs, fun y hy => ?_, mem, tregs, { t with state := 1, passed := 0 }, ?_, rfl, rfl⟩
  · have hy' : y ∈ v.run.saved := hy
    rw [kept] at hy'
    rintro ⟨rfl, rfl⟩
    simpa using (List.mem_filter.mp hy').2
  · show _ ∈ v.run.tcbs
    rw [tcbs]
    exact List.mem_map.mpr ⟨t, List.mem_of_find?_eq_some found, if_pos rfl⟩

end

/-! ## What a save block gives back (R175, R177) -/

section
variable {α : Type} [DecidableEq α] (d : α)

theorem nget_foldl_row (val : Nat → α) (base n : Nat) (m : NMap α) (k : Nat) :
    nget d ((List.range n).foldl (fun m l => nset d m (base + l) (val l)) m) k = if base ≤ k ∧ k < base + n then val (k - base) else nget d m k := by
  induction n with
  | zero => exact (if_neg (by omega)).symm
  | succ n ih =>
    rw [List.range_succ, List.foldl_append, List.foldl_cons, List.foldl_nil]
    by_cases here : k = base + n
    · rw [here, nget_nset_self, if_pos (by omega), Nat.add_sub_cancel_left]
    · rw [nget_nset_ne d _ _ here, ih]
      exact ite_congr (propext (by omega)) (fun _ => rfl) (fun _ => rfl)

theorem nget_foldl_rows (val : Nat → Nat → α) (n : Nat) (m : NMap α) (k : Nat) :
    nget d ((List.range n).foldl (fun m v => (List.range 32).foldl (fun m l => nset d m (32 * v + l) (val v l)) m) m) k = if k < 32 * n then val (k / 32) (k % 32) else nget d m k := by
  induction n with
  | zero => exact (if_neg (by omega)).symm
  | succ n ih =>
    rw [List.range_succ (n := n), List.foldl_append, List.foldl_cons, List.foldl_nil, nget_foldl_row, ih]
    by_cases here : 32 * n ≤ k ∧ k < 32 * n + 32
    · have row : k / 32 = n := by omega
      have lane : k % 32 = k - 32 * n := by omega
      rw [if_pos here, if_pos (by omega), row, lane]
    · rw [if_neg here]
      exact ite_congr (propext (by omega)) (fun _ => rfl) (fun _ => rfl)

end

theorem nget_blockRegs (b : List Byte) (xacq : Bool) {r lane : Nat} (hr : r < 64) (hl : lane < 32) :
    nget pzero (blockRegs b xacq) (32 * r + lane) = { val := BitVec.ofNat 32 (fieldOf b (128 * r + 4 * lane) 4), tag := BitVec.ofNat 32 (fieldOf b (0x4000 + 128 * r + 4 * lane) 4) } := by
  have row : (32 * r + lane) / 32 = r := by omega
  have col : (32 * r + lane) % 32 = lane := by omega
  have inside : 32 * r + lane < 32 * (if xacq then 96 else 64) := by split <;> omega
  unfold blockRegs
  rw [nget_foldl_rows, if_pos inside, row, col]

section
variable (s : State) (l : Launch) (t : TCB) (x : Saved) (p : Spot)

/-- A restored gang has the registers and tags of its block. -/
theorem State.loadGang_reg {r lane : Nat} (hr : r < 64) (hl : lane < 32) :
    let b := s.bytesAs x.world x.block 32768
    (s.loadGang l t x p).reg r lane = { val := BitVec.ofNat 32 (fieldOf b (128 * r + 4 * lane) 4), tag := BitVec.ofNat 32 (fieldOf b (0x4000 + 128 * r + 4 * lane) 4) } := nget_blockRegs _ _ hr hl

theorem State.loadGang_thread {lane : Nat} (hl : lane < 32) (there : lane < x.threads.length) :
    (s.loadGang l t x p).thread lane = blockThread (s.bytesAs x.world x.block 32768) lane x.threads[lane] s.ctl.freeCtr :=
  headD_drop_of_getElem? _ (by simp [State.loadGang, hl, there])

end

theorem not_any_preempts {ps : List (Nat × Nat × Nat)} {c n : Nat} (free : ∀ p ∈ ps, ¬ (p.1 = c ∧ p.2.1 = n)) : ¬ ps.any (fun p => p.1 == c && p.2.1 == n) = true := by
  rw [List.any_eq_true]
  rintro ⟨p, hp, same⟩
  exact free p hp (by simpa using same)

/-- Settles O53, message by message. -/
theorem preemptionEvents : Obligations.PreemptionEvents := by
  intro s c n l t
  refine ⟨fun launched going => ?timer, fun bound => ?save, fun taken => ?chosen, fun not free => ?gaveUp, fun may free => ?parks, fun x pl p => happens_groupRestore, fun x p => ?block⟩
  case timer =>
    refine ⟨fun u => State.mem_waitingTcbs, gives_preemptTimer_again launched going, fun before after order nothing idle => ⟨?_, fun low => ?_⟩⟩
    · exact worst_eq_none.symm
    · obtain ⟨g, taken⟩ := Option.ne_none_iff_exists'.mp fun h => low (worst_eq_none.mp h)
      obtain ⟨here, least⟩ := worst_spec taken
      exact ⟨g, here, least, happens_preemptTimer launched going order nothing idle taken⟩
  case save =>
    refine ⟨fun still => ?_, fun still quiet => ?_, fun still quiet draws => ⟨rfl, _, ?_, fun g => State.saveGroup_saves false draws⟩⟩
    · exact (exec_preemptSave bound).trans (congrArg Host.Outcome.next (if_pos (by simpa using still)))
    · exact (exec_preemptSave bound).trans (congrArg Host.Outcome.next ((if_neg (by simpa using still)).trans (if_neg (ne_true_of_eq_false quiet))))
    · exact (exec_preemptSave bound).trans (congrArg Host.Outcome.next ((if_neg (by simpa using still)).trans (if_pos quiet)))
  case chosen =>
    obtain ⟨p, hp, mine⟩ := taken
    exact ⟨rfl, exec_gangPark.trans (congrArg Host.Outcome.next (if_pos (List.any_eq_true.mpr ⟨p, hp, by simpa using mine⟩)))⟩
  case gaveUp =>
    exact ⟨rfl, exec_gangPark.trans (congrArg Host.Outcome.next ((if_neg (not_any_preempts free)).trans (if_pos (by simpa using not))))⟩
  case parks =>
    refine ⟨fun quiet => ?_, fun quiet draws => ⟨rfl, _, ?_, fun g => State.saveGroup_saves true draws⟩⟩
    · exact exec_gangPark.trans (congrArg Host.Outcome.next ((if_neg (not_any_preempts free)).trans ((if_neg (by simpa using may)).trans (if_neg (ne_true_of_eq_false quiet)))))
    · exact exec_gangPark.trans (congrArg Host.Outcome.next ((if_neg (not_any_preempts free)).trans ((if_neg (by simpa using may)).trans (if_pos quiet))))
  case block =>
    refine ⟨rfl, rfl, fun r lane => s.loadGang_reg l t x p, fun lane hl there => ?_⟩
    rw [s.loadGang_thread l t x p hl there]
    exact ⟨rfl, congrArg (fieldOf _ · 1) (by omega)⟩

end Sys2Proof.Machine
end

section
/-! SUPPORT. Run starts (R178, R196, R281): which group of a core starts, what its fetched words come to, and what of a gang a run keeps. -/

namespace Sys2Proof.Machine

open Sys2Proof

/-! ## The thread that is picked (R178) -/

/-- The thread ready earliest is a ready one, and none was ready before it. -/
theorem oldest_spec {es : List (Gang × Nat)} {h : Gang × Nat} (picked : oldest es = some h) : h ∈ es ∧ ∀ e ∈ es, (h.1.thread h.2).stamp ≤ (e.1.thread e.2).stamp := by
  cases es with
  | nil => cases picked
  | cons a es =>
    obtain ⟨found, first⟩ := foldl_pickLeast (R := fun b a : Gang × Nat => (b.1.thread b.2).stamp < (a.1.thread a.2).stamp) (fun _ => Nat.lt_irrefl _) (fun _ _ _ => Nat.lt_trans) a es
    have here : es.foldl (pickLeast (fun b a : Gang × Nat => (b.1.thread b.2).stamp < (a.1.thread a.2).stamp)) a = h := Option.some.inj picked
    rw [here] at found first
    exact ⟨found, fun e he => Nat.le_of_not_lt (first e he)⟩

/-- Without a held launch no thread stops for the debugger (R398). -/
theorem State.debugStops_of_free {s : State} (free : s.nb.heldCtx = none) (c : Nat) : s.debugStops c = s := by
  have held (x : Gang) : s.held x.ctx = false := by simp [State.held, free]
  have none (x : Gang) (lane pc : Nat) : s.stopReason x lane pc = Option.none := by simp [State.stopReason, held]
  simp [State.debugStops, none, sortBy]

/-- The words of a run with their packets. -/
def placedWords (pc : Nat) (run : List Word) : List (Word × Nat) := (List.range run.length).zip run |>.map (fun e => (e.2, (pc + e.1 / 3) % 2 ^ 32))

theorem placedWords_words (pc : Nat) (run : List Word) : (placedWords pc run).map (fun w => w.1) = run := by
  rw [placedWords, List.map_map]
  exact List.map_snd_zip (by simp)

theorem placedWords_packet {pc i : Nat} {run : List Word} {w : Word × Nat} (h : (placedWords pc run)[i]? = some w) : w.2 = (pc + i / 3) % 2 ^ 32 := by
  simp only [placedWords, List.getElem?_map, List.getElem?_zip_eq_some, Option.map_eq_some_iff] at h
  obtain ⟨⟨n, v⟩, ⟨place, -⟩, rfl⟩ := h
  obtain ⟨_, same⟩ := List.getElem?_eq_some_iff.mp place
  rw [List.getElem_range] at same
  rw [← same]

section
variable {s : State} {c : Nat} (free : s.nb.heldCtx = none)
include free

theorem gives_runStart_idle (none : s.readyThreads c = []) : Gives .runStart (.runStart c) s id := by
  have none' : (s.hears (.runStart c)).readyThreads c = [] := none
  refine ⟨rfl, congrArg Host.Outcome.next ?_⟩
  show (s.hears (.runStart c)).runStart c = _
  rw [State.runStart, State.debugStops_of_free (s := s.hears (.runStart c)) free, none']
  rfl

/-- The group around the thread ready earliest is fetched. -/
theorem exec_runStart {h : Gang × Nat} {L : Launch} (picked : oldest (s.readyThreads c) = some h) (launched : s.launch h.1.ctx = some L) :
    exec .runStart (s.hears (.runStart c)) =
      .next ((s.hears (.runStart c)).issueRun L c (h.1.thread h.2).pc ((groupAround (s.readyThreads c) h).map laneOf)) := by
  have picked' : oldest ((s.hears (.runStart c)).readyThreads c) = some h := picked
  have launched' : (s.hears (.runStart c)).launch h.1.ctx = some L := launched
  refine congrArg Host.Outcome.next ?_
  show (s.hears (.runStart c)).runStart c = _
  rw [State.runStart, State.debugStops_of_free (s := s.hears (.runStart c)) free]
  simp only [picked', launched']
  rfl

end

/-- A group at the start of a run in a launch, before its words are there. -/
def State.freshGrp (s : State) (L : Launch) (c pc : Nat) (ls : List RLane) : Grp :=
  { id := s.ctl.nextId, core := c, ctx := L.ctx, pc := pc, words := [], idx := 0, kext := [], qual := none, named := [], shifted := 0, fx := [], arith := [], stage := 0, stallTx := [],
    trailer := false, pads := [], allocs := [], lanes := ls }

section
variable {s u : State} {L : Launch} {c pc : Nat} {ls : List RLane} {raw : List Word} (fetched : State.fetchRun c L.tenant L.ctx L.world L.lrec.codebase 8 s.bump pc = (u, .words raw))
include fetched

/-- A faulty run traps before any word of it executes (R281). -/
theorem State.issueRun_faulty {cause : Nat} (faulty : runFault L.lrec raw = some cause) : s.issueRun L c pc ls = u.coreTrap (s.freshGrp L c pc ls) cause ls := by
  unfold State.issueRun
  rw [fetched]
  dsimp only
  rw [faulty]
  rfl

theorem State.issueRun_sound (sound : runFault L.lrec raw = none) (clear : u.hazards c ls (runRegs raw) = []) :
    s.issueRun L c pc ls = u.startGrp { s.freshGrp L c pc ls with words := placedWords pc (uptoEnd (raw.take 24)) } := by
  unfold State.issueRun
  rw [fetched]
  dsimp only
  rw [sound]
  dsimp only
  rw [clear]
  rfl

end

/-! ## What of a gang a run keeps (R281, R359, R367) -/

/-- In h nothing of g that a run keeps has changed, and no thread has left its run. -/
structure Gang.Starts (g h : Gang) : Prop where
  pad : h.pad = g.pad
  length : h.threads.length = g.threads.length
  inRun : ∀ lane, (g.thread lane).inRun = true → (h.thread lane).inRun = true

theorem Gang.Starts.refl (g : Gang) : g.Starts g := ⟨rfl, rfl, fun _ h => h⟩
theorem Gang.Starts.trans {f g h : Gang} (a : f.Starts g) (b : g.Starts h) : f.Starts h := ⟨b.pad.trans a.pad, b.length.trans a.length, fun lane r => b.inRun lane (a.inRun lane r)⟩

theorem Gang.updThread_thread_self {g : Gang} {lane : Nat} (h : lane < g.threads.length) (f : Thread → Thread) : (g.updThread lane f).thread lane = f (g.thread lane) := headD_drop_modAt_self _ h

theorem Gang.updThread_starts (g : Gang) (lane : Nat) {f : Thread → Thread} (keeps : ∀ t, t.inRun = true → (f t).inRun = true) : g.Starts (g.updThread lane f) := by
  refine ⟨rfl, length_modAt .., fun k running => ?_⟩
  by_cases here : k = lane
  · subst here
    rcases Nat.lt_or_ge k g.threads.length with inside | outside
    · rw [Gang.updThread_thread_self inside]
      exact keeps _ running
    · rwa [Gang.updThread, modAt_of_length_le outside]
  · rwa [Gang.thread, Gang.updThread, headD_drop_modAt_ne _ here]

theorem State.updGang_gang (s : State) (c k : Nat) {f : Gang → Gang} (place : ∀ g, (f g).core = g.core ∧ (f g).slot = g.slot) (core slot : Nat) :
    (s.updGang c k f).gang core slot = (s.gang core slot).map (fun g => if g.core = c ∧ g.slot = k then f g else g) :=
  s.mapGangs_gang (fun g => by split <;> simp [place]) core slot

/-- From s to t no group in issue changes, and every bound gang keeps what a run keeps. -/
structure State.Starts (s t : State) : Prop where
  issue : t.core.issue = s.core.issue
  gangs : ∀ core slot x, s.gang core slot = some x → ∃ y, t.gang core slot = some y ∧ x.Starts y

theorem State.Starts.refl (s : State) : s.Starts s := ⟨rfl, fun _ _ x h => ⟨x, h, .refl x⟩⟩

theorem State.Starts.trans {s t u : State} (a : s.Starts t) (b : t.Starts u) : s.Starts u := by
  refine ⟨b.issue.trans a.issue, fun core slot x bound => ?_⟩
  obtain ⟨y, there, first⟩ := a.gangs core slot x bound
  obtain ⟨z, last, second⟩ := b.gangs core slot y there
  exact ⟨z, last, first.trans second⟩

theorem State.Starts.of_core {s t u : State} (a : s.Starts t) (same : u.core = t.core) : s.Starts u := by
  refine ⟨(congrArg CoreS.issue same).trans a.issue, fun core slot x bound => ?_⟩
  rw [State.gang, same]
  exact a.gangs core slot x bound

theorem State.updThread_starts (s : State) (core slot lane : Nat) {f : Thread → Thread} (keeps : ∀ t, t.inRun = true → (f t).inRun = true) : s.Starts (s.updThread core slot lane f) := by
  refine ⟨rfl, fun c k x bound => ⟨_, by rw [State.updThread, State.updGang_gang _ _ _ (f := fun g => g.updThread lane f) (fun _ => ⟨rfl, rfl⟩), bound, Option.map_some], ?_⟩⟩
  split
  · exact x.updThread_starts lane keeps
  · exact .refl x

theorem State.acquire_starts (s : State) (core slot lane : Nat) : s.Starts (s.acquire core slot lane) :=
  ((s.updThread_starts core slot lane (f := fun t => { t with loaded := false }) fun _ h => h).of_core (congrArg (·.1) (s.clearLoaded_going core slot lane))).trans
    (State.updThread_starts _ core slot lane fun _ h => h)

/-- A lane of a group starts its run: an acquire where it is its thread's first (R157). -/
def State.startLane (s : State) (core : Nat) (l : RLane) : State :=
  (if (s.thread core l.slot l.lane).first then s.acquire core l.slot l.lane else s).updThread core l.slot l.lane (fun t => { t with inRun := true })

theorem State.startLane_starts (s : State) (core : Nat) (l : RLane) : s.Starts (s.startLane core l) := by
  refine .trans ?_ (State.updThread_starts _ _ _ _ fun _ _ => rfl)
  split
  · exact s.acquire_starts ..
  · exact .refl s

theorem State.startLane_inRun {s : State} {core : Nat} {l : RLane} {x : Gang} (bound : s.gang core l.slot = some x) (there : l.lane < x.threads.length) :
    ((s.startLane core l).thread core l.slot l.lane).inRun = true := by
  have before : s.Starts (if (s.thread core l.slot l.lane).first then s.acquire core l.slot l.lane else s) := by
    split
    · exact s.acquire_starts ..
    · exact .refl s
  obtain ⟨y, found, keeps⟩ := before.gangs _ _ x bound
  have stands := State.Stands.updThread ⟨y, found, keeps.length ▸ there, rfl⟩ (fun t => { t with inRun := true })
  rw [State.startLane, stands.thread]

/-- The lanes of a group start their run. -/
def State.startLanes (s : State) (core : Nat) (ls : List RLane) : State := ls.foldl (fun (s : State) l => s.startLane core l) s

theorem State.startLanes_starts (core : Nat) (ls : List RLane) (s : State) : s.Starts (s.startLanes core ls) :=
  List.foldlRecOn (motive := fun t => s.Starts t) ls _ (.refl s) fun t h l _ => h.trans (t.startLane_starts core l)

theorem State.startLanes_inRun {core : Nat} {ls : List RLane} {l : RLane} (member : l ∈ ls) {s : State} {x : Gang} (bound : s.gang core l.slot = some x) (there : l.lane < x.threads.length) :
    ((s.startLanes core ls).thread core l.slot l.lane).inRun = true := by
  induction ls generalizing s x with
  | nil => cases member
  | cons a ls ih =>
    rcases List.mem_cons.mp member with rfl | later
    · have running := State.startLane_inRun bound there
      obtain ⟨y, found, -⟩ := (s.startLane_starts core l).gangs _ _ x bound
      obtain ⟨z, last, keeps⟩ := (State.startLanes_starts core ls (s.startLane core l)).gangs _ _ y found
      rw [State.thread_of_gang found] at running
      exact (State.thread_of_gang last _).symm ▸ keeps.inRun _ running
    · obtain ⟨y, found, keeps⟩ := (s.startLane_starts core a).gangs _ _ x bound
      exact ih later found (keeps.length ▸ there)

/-- A group in issue has its lanes in their run, and the scratchpads of its gangs as they stand. -/
theorem State.startGrp_keeps {s : State} {g : Grp} {l : RLane} {x : Gang} (bound : s.gang g.core l.slot = some x) (slot : l.slot < 32) (there : l.lane < x.threads.length) (member : l ∈ g.lanes) :
    ((s.startGrp g).thread g.core l.slot l.lane).inRun = true ∧ ∃ ps, (s.startGrp g).core.issue = s.core.issue ++ [{ g with pads := ps }] ∧
      ∃ p ∈ ps, p.slot = l.slot ∧ p.spad = x.spad ∧ p.spois = x.spois ∧ p.valid = x.valid := by
  have starts := State.startLanes_starts g.core g.lanes s
  obtain ⟨y, found, keeps⟩ := starts.gangs _ _ x bound
  have found' : (s.startLanes g.core g.lanes).gang g.core l.slot = some y := found
  have mine : x.slot = l.slot := by
    have here : x.core = g.core ∧ x.slot = l.slot := by simpa using List.find?_some bound
    exact here.2
  refine ⟨State.startLanes_inRun member bound there, _, congrArg (· ++ _) starts.issue, y.pad, ?_, ?_⟩
  · refine List.mem_filterMap.mpr ⟨l.slot, List.mem_filter.mpr ⟨List.mem_range.mpr slot, List.any_eq_true.mpr ⟨l, member, beq_self_eq_true _⟩⟩, ?_⟩
    exact congrArg (Option.map Gang.pad) found'
  · rw [keeps.pad]
    exact ⟨mine, rfl, rfl, rfl⟩

end Sys2Proof.Machine
end

section
/-! SUPPORT. Tokens (R154, R206): what a token's completion writes, and what it leaves alone. -/

namespace Sys2Proof.Machine

open Sys2Proof

/-! ## Results (R203 to R206) -/

section
variable (g : Gang)

theorem Gang.reg_setReg_self (r lane : Nat) (v : PVal) : (g.setReg r lane v).reg r lane = v := nget_nset_self ..

theorem Gang.reg_setReg_ne {r q lane l : Nat} (v : PVal) (hl : l < 32) (hlane : lane < 32) (other : q ≠ r ∨ l ≠ lane) : (g.setReg r lane v).reg q l = g.reg q l :=
  nget_nset_ne _ _ _ (by omega)

end

/-- One result written to its register, extended register or operand-cache entry. -/
def Gang.putResult (lane dst : Nat) (g : Gang) (e : Nat × PVal) : Gang :=
  let d := dst + e.1
  if d < 64 then g.setReg d lane e.2
  else if d < 96 then (if g.xacq then g.setReg d lane e.2 else g)
  else if 104 ≤ d ∧ d < 112 then g.setOc (d - 104) lane (some e.2)
  else g

theorem Gang.writeResults_eq (g : Gang) (lane dst : Nat) (vs : List PVal) : g.writeResults lane dst vs = ((List.range vs.length).zip vs).foldl (Gang.putResult lane dst) g := rfl

/-- A write of a result changes the register it names, if any. -/
theorem Gang.reg_putResult_ne (g : Gang) {lane dst r l : Nat} (e : Nat × PVal) (hl : l < 32) (hlane : lane < 32) (other : r ≠ dst + e.1 ∨ l ≠ lane) : (g.putResult lane dst e).reg r l = g.reg r l := by
  unfold Gang.putResult
  dsimp only
  split
  · exact g.reg_setReg_ne _ hl hlane other
  · split
    · split
      · exact g.reg_setReg_ne _ hl hlane other
      · rfl
    · split <;> rfl

theorem Gang.reg_putResults_ne {lane dst r l : Nat} (hl : l < 32) (hlane : lane < 32) (es : List (Nat × PVal)) (other : ∀ e ∈ es, r ≠ dst + e.1 ∨ l ≠ lane) (g : Gang) :
    (es.foldl (Gang.putResult lane dst) g).reg r l = g.reg r l :=
  List.foldlRecOn (motive := fun h : Gang => h.reg r l = g.reg r l) es _ rfl fun h same e he => (h.reg_putResult_ne e hl hlane (other e he)).trans same

/-- Registers that no result names are as they were. -/
theorem Gang.reg_writeResults_ne (g : Gang) {lane off r l : Nat} {vs : List PVal} (other : r < off ∨ off + vs.length ≤ r ∨ l ≠ lane) (hl : l < 32) (hlane : lane < 32) :
    (g.writeResults lane off vs).reg r l = g.reg r l := by
  refine Gang.reg_putResults_ne hl hlane _ (fun e he => ?_) g
  have inside := List.mem_range.mp (List.of_mem_zip he).1
  omega

/-- Results to lane registers are there after. -/
theorem Gang.reg_writeResults (g : Gang) {lane off i : Nat} {vs : List PVal} {v : PVal} (fits : off + vs.length ≤ 64) (hlane : lane < 32) (there : vs[i]? = some v) :
    (g.writeResults lane off vs).reg (off + i) lane = v := by
  induction vs using List.reverseRecOn with
  | nil => cases there
  | append_singleton vs w ih =>
    have split : (List.range (vs ++ [w]).length).zip (vs ++ [w]) = (List.range vs.length).zip vs ++ [(vs.length, w)] := by
      rw [List.length_append, List.length_singleton, List.range_succ, List.zip_append (by simp)]
      rfl
    rw [List.length_append, List.length_singleton] at fits
    have last (h : Gang) : h.putResult lane off (vs.length, w) = h.setReg (off + vs.length) lane w := if_pos (by omega)
    rw [Gang.writeResults_eq, split, List.foldl_append, List.foldl_cons, List.foldl_nil, last]
    rcases Nat.lt_trichotomy i vs.length with before | here | after
    · rw [Gang.reg_setReg_ne _ _ hlane hlane (by omega)]
      exact ih (by omega) (by rwa [List.getElem?_append_left before] at there)
    · subst here
      rw [Gang.reg_setReg_self]
      simpa using there
    · rw [List.getElem?_eq_none (by simp; omega)] at there
      cases there

theorem Gang.putResult_place (g : Gang) (lane dst : Nat) (e : Nat × PVal) : (g.putResult lane dst e).core = g.core ∧ (g.putResult lane dst e).slot = g.slot ∧ (g.putResult lane dst e).threads = g.threads := by
  unfold Gang.putResult
  dsimp only
  split
  · exact ⟨rfl, rfl, rfl⟩
  · split
    · split <;> exact ⟨rfl, rfl, rfl⟩
    · split <;> exact ⟨rfl, rfl, rfl⟩

/-- Results change neither a gang's place nor its threads. -/
theorem Gang.writeResults_place (g : Gang) (lane dst : Nat) (vs : List PVal) :
    (g.writeResults lane dst vs).core = g.core ∧ (g.writeResults lane dst vs).slot = g.slot ∧ (g.writeResults lane dst vs).threads = g.threads :=
  List.foldlRecOn (motive := fun h : Gang => h.core = g.core ∧ h.slot = g.slot ∧ h.threads = g.threads) _ _ ⟨rfl, rfl, rfl⟩ fun h same e _ => by
    obtain ⟨core, slot, threads⟩ := h.putResult_place lane dst e
    exact ⟨core.trans same.1, slot.trans same.2.1, threads.trans same.2.2⟩

/-! ## The completion of a token -/

/-- A thread that awaited the token is ready from now on (R178). -/
def Token.readies (t : Token) (now : Nat) (u : Thread) : Thread := if u.status = Status.runnable ∧ u.inRun = false ∧ bit u.await t.k = true then { u with stamp := now } else u

theorem Token.readies_keeps (t : Token) (now : Nat) (u : Thread) : (t.readies now u).reply = u.reply ∧ (t.readies now u).live = u.live := by
  unfold Token.readies
  split <;> exact ⟨rfl, rfl⟩

/-- What a token's completion makes of the thread of a lane; a dead token readies none. -/
def Token.after (t : Token) (now : Nat) (u : Thread) : Thread := if t.dead then u else t.readies now u

theorem Token.after_keeps (t : Token) (now : Nat) (u : Thread) : (t.after now u).reply = u.reply ∧ (t.after now u).live = u.live := by
  unfold Token.after
  split
  · exact ⟨rfl, rfl⟩
  · exact t.readies_keeps now u

theorem Token.after_eq (t : Token) (now : Nat) :
    (fun u => if (!t.dead && u.status == .runnable && !u.inRun && bit u.await t.k) = true then { u with stamp := now } else u) = t.after now := by
  funext u
  cases hd : t.dead <;> simp [Token.after, Token.readies, hd, and_assoc]

/-- Replies and lives of a gang's threads after a change that keeps them. -/
theorem Gang.updThread_silent {g : Gang} {lane : Nat} {f : Thread → Thread} (keeps : ∀ u, (f u).reply = u.reply) (silent : ∀ h ∈ g.threads, h.reply = none) :
    ∀ h ∈ (g.updThread lane f).threads, h.reply = none := by
  intro h hh
  obtain ⟨u, hu, rfl | rfl⟩ := mem_modAt hh
  · exact silent h hu
  · exact (keeps u).trans (silent u hu)

theorem any_modAt {α : Type} {p : α → Bool} {f : α → α} (keeps : ∀ x, p (f x) = p x) (l : List α) (i : Nat) : (modAt l i f).any p = l.any p := by
  induction l generalizing i with
  | nil => rfl
  | cons x l ih =>
    cases i with
    | zero => simp [modAt, keeps]
    | succ i => simp [modAt, ih]

/-- After a token of one lane, of a gang with a live thread and without replies, the thread that awaited it is ready. -/
theorem State.afterToken_lone {s : State} {t : Token} {x : TLane} {g : Gang} (alone : t.lanes = [x]) (plain : t.k < 8) (bound : s.gang t.core x.slot = some g)
    (living : ∃ h ∈ g.threads, h.live = true) (silent : ∀ h ∈ g.threads, h.reply = none) :
    s.afterToken t.core t = s.updThread t.core x.slot x.lane (t.after s.ctl.freeCtr) := by
  have mine : g.core = t.core ∧ g.slot = x.slot := by simpa using List.find?_some bound
  have here : (s.updThread t.core x.slot x.lane (t.after s.ctl.freeCtr)).gang t.core x.slot = some (g.updThread x.lane (t.after s.ctl.freeCtr)) := by
    rw [State.updThread, State.updGang_gang _ _ _ (f := fun g => g.updThread x.lane (t.after s.ctl.freeCtr)) (fun _ => ⟨rfl, rfl⟩), bound, Option.map_some, if_pos mine]
  have lives : (g.updThread x.lane (t.after s.ctl.freeCtr)).threads.any (fun u => u.live) = true :=
    (any_modAt (fun u => (t.after_keeps _ u).2) _ _).trans (List.any_eq_true.mpr living)
  have quiet : ((s.updThread t.core x.slot x.lane (t.after s.ctl.freeCtr)).thread t.core x.slot x.lane).reply = none := by
    rw [State.thread_of_gang here]
    exact Gang.reply_of_silent (Gang.updThread_silent (fun u => (t.after_keeps _ u).1) silent) x.lane
  unfold State.afterToken
  simp only [alone, List.foldl_cons, List.foldl_nil, Nat.not_le_of_lt plain, if_false]
  rw [Token.after_eq, State.tryReply_of_none quiet]
  refine foldl_id _ fun k hk => ?_
  have slot : x.slot = k := by simpa using (List.mem_filter.mp hk).2
  rw [← slot, here]
  exact if_pos lives

/-- A token is free. -/
def State.freeTok (s : State) (n : Nat) : State := { s with core.toks := s.core.toks.filter (fun y => y.id != n) }

theorem State.freeTok_gang (s : State) (n core slot : Nat) : (s.freeTok n).gang core slot = s.gang core slot := rfl

section
variable {s : State} {n : Nat} {t : Token} {x : TLane} {vs : List PVal} (found : s.core.toks.find? (fun t => t.id == n) = some t) (alone : t.lanes = [x]) (data : x.vals = some vs) (plain : t.k < 8)
include found alone data plain

/-- A token that is dead, or whose bytes no unfinished release holds back, completes. -/
theorem State.tokenComplete_lone (seen : t.dead = true ∨ s.veiled t.core x.slot x.lane (lineOf x.pa) (x.pa % 128) t.size = false) (kept : x.drop = false) :
    s.tokenComplete n = ((if t.dead then s else s.updGang t.core x.slot (fun g => g.writeResults x.lane t.dst vs)).freeTok n).afterToken t.core t := by
  have open_ : (!t.dead && s.veiled t.core x.slot x.lane (lineOf x.pa) (x.pa % 128) t.size) = false := by
    rcases seen with dead | clear <;> simp [*]
  simp [State.tokenComplete, State.freeTok, found, alone, data, kept, plain, Nat.not_le_of_lt plain, open_]

theorem State.tokenComplete_veiled (going : t.dead = false) (veiled : s.veiled t.core x.slot x.lane (lineOf x.pa) (x.pa % 128) t.size = true) : s.tokenComplete n = s.wait (.tokenComplete n) := by
  simp [State.tokenComplete, found, alone, data, Nat.not_le_of_lt plain, going, veiled]

end

theorem modAt_id {α : Type} (l : List α) (i : Nat) : modAt l i (fun x => x) = l := by
  induction l generalizing i with
  | nil => rfl
  | cons x l ih =>
    cases i with
    | zero => rfl
    | succ i => exact congrArg (x :: ·) (ih i)

theorem State.updThread_id (s : State) (core slot lane : Nat) : s.updThread core slot lane (fun u => u) = s := by
  have same (g : Gang) : (if g.core = core ∧ g.slot = slot then g.updThread lane (fun u => u) else g) = g := by
    rw [Gang.updThread, modAt_id]
    exact ite_self g
  simp [State.updThread, State.updGang, same]

section
variable {s : State} {n : Nat} {t : Token} {x : TLane} {vs : List PVal} {g : Gang} (found : s.core.toks.find? (fun t => t.id == n) = some t) (alone : t.lanes = [x]) (data : x.vals = some vs)
variable (kept : x.drop = false) (plain : t.k < 8) (bound : s.gang t.core x.slot = some g) (living : ∃ h ∈ g.threads, h.live = true) (silent : ∀ h ∈ g.threads, h.reply = none)

section
include found alone data kept plain bound living silent

/-- The results are written, the token frees, and the thread that awaited it is ready. -/
theorem gives_tokenComplete (going : t.dead = false) (clear : s.veiled t.core x.slot x.lane (lineOf x.pa) (x.pa % 128) t.size = false) :
    Gives .tokenComplete (.tokenComplete n) s (fun s => { s.updGang t.core x.slot (fun g => g.writeResults x.lane t.dst vs) with core.toks := s.core.toks.filter (fun y => y.id != n) }.updThread
      t.core x.slot x.lane (t.readies s.ctl.freeCtr)) := by
  have mine : g.core = t.core ∧ g.slot = x.slot := by simpa using List.find?_some bound
  obtain ⟨-, -, threads⟩ := g.writeResults_place x.lane t.dst vs
  refine ⟨rfl, congrArg Host.Outcome.next ((State.tokenComplete_lone (s := s.hears (.tokenComplete n)) found alone data plain (.inr clear) kept).trans ?_)⟩
  have written : (((s.hears (.tokenComplete n)).updGang t.core x.slot (fun g => g.writeResults x.lane t.dst vs)).freeTok n).gang t.core x.slot = some (g.writeResults x.lane t.dst vs) := by
    rw [State.freeTok_gang, State.updGang_gang _ _ _ (f := fun g => g.writeResults x.lane t.dst vs) (fun g => ⟨(g.writeResults_place ..).1, (g.writeResults_place ..).2.1⟩)]
    show (s.gang t.core x.slot).map _ = _
    rw [bound, Option.map_some, if_pos mine]
  have readies (now : Nat) : t.after now = t.readies now := by
    funext u
    simp [Token.after, going]
  rw [if_neg (ne_true_of_eq_false going), State.afterToken_lone alone plain written (threads ▸ living) (threads ▸ silent), readies]
  rfl

theorem gives_tokenComplete_dead (dead : t.dead = true) : Gives .tokenComplete (.tokenComplete n) s (fun s => { s with core.toks := s.core.toks.filter (fun y => y.id != n) }) := by
  refine ⟨rfl, congrArg Host.Outcome.next ((State.tokenComplete_lone (s := s.hears (.tokenComplete n)) found alone data plain (.inl dead) kept).trans ?_)⟩
  have bound' : ((s.hears (.tokenComplete n)).freeTok n).gang t.core x.slot = some g := bound
  have none (now : Nat) : t.after now = fun u => u := by
    funext u
    simp [Token.after, dead]
  rw [if_pos dead, State.afterToken_lone alone plain bound' living silent, none, State.updThread_id]
  rfl

end

include found alone data plain in
theorem gives_tokenComplete_veiled (going : t.dead = false) (veiled : s.veiled t.core x.slot x.lane (lineOf x.pa) (x.pa % 128) t.size = true) :
    Gives .tokenComplete (.tokenComplete n) s (fun s => s.wait (.tokenComplete n)) :=
  ⟨rfl, congrArg Host.Outcome.next (State.tokenComplete_veiled (s := s.hears (.tokenComplete n)) found alone data plain going veiled)⟩

end

/-! ## Arrivals (R220) -/

theorem arriveWord_counts (target count gen n : Nat) (ht : target < 2 ^ 24) (hc : count < 2 ^ 24) (hg : gen < 2 ^ 16) (pos : 0 < target) :
    arriveWord (target + 2 ^ 24 * count + 2 ^ 48 * gen) n = target + 2 ^ 24 * ((count + n) % target) + 2 ^ 48 * ((gen + (count + n) / target) % 2 ^ 16) := by
  have low : bits (target + 2 ^ 24 * count + 2 ^ 48 * gen) 23 0 = target := by simp only [bits]; omega
  have mid : bits (target + 2 ^ 24 * count + 2 ^ 48 * gen) 47 24 = count := by simp only [bits]; omega
  have high : bits (target + 2 ^ 24 * count + 2 ^ 48 * gen) 63 48 = gen := by simp only [bits]; omega
  rw [arriveWord, low, mid, high, if_neg (Nat.ne_of_gt pos)]

end Sys2Proof.Machine
end

section
/-! SUPPORT. Arrivals and deadlines (R148, R216, R220, R221). -/

namespace Sys2Proof.Machine

open Sys2Proof

section
variable {s : State} {c k off n : Nat} {g : Gang} (found : s.core.gangs.find? (fun g => g.core == c && g.alloc == k) = some g)
include found

/-- An arrival counts once the region line of its word is filled (R148). -/
theorem exec_arrivalDelivery : exec .arrivalDelivery (s.hears (.arrivalDelivery c k off n)) = .next (
    let r := (s.hears (.arrivalDelivery c k off n)).fillFor g off
    if !r.2 then r.1.wait (.arrivalDelivery c k off n)
    else r.1.updGang c g.slot (fun g => (g.spadPut off (leBytes 8 (arriveWord (leNat (g.spadBytes off 8)) n))).noteWrite off)) := by
  have found' : (s.hears (.arrivalDelivery c k off n)).core.gangs.find? (fun g => g.core == c && g.alloc == k) = some g := found
  refine congrArg Host.Outcome.next ?_
  show (s.hears (.arrivalDelivery c k off n)).arrive c k off n = _
  rw [State.arrive, found']

/-- Nothing is to be filled outside every region, or where the line is there. -/
theorem State.fillFor_filled (bound : s.gang c g.slot = some g) (there : g.regionOf (off / 128) = none ∨ off / 128 ∈ g.valid) : s.fillFor g off = (s, true) := by
  have core : g.core = c := by
    have mine : g.core = c ∧ g.alloc = k := by simpa using List.find?_some found
    exact mine.1
  have filled : s.fillLine { (default : Grp) with core := g.core, ctx := g.ctx } { (default : RLane) with slot := g.slot } off = (s, .done) := by
    unfold State.fillLine
    rw [core]
    dsimp only
    rw [bound]
    dsimp only
    split
    · rfl
    · next region =>
      rcases there with outside | valid
      · rw [outside] at region
        cases region
      · exact if_pos (List.contains_iff_mem.mpr valid)
  unfold State.fillFor
  split
  · rfl
  · rw [filled]
    rfl

end

theorem gives_arrivalDelivery_gone {s : State} {c k off n : Nat} (gone : s.core.gangs.find? (fun g => g.core == c && g.alloc == k) = none) : Gives .arrivalDelivery (.arrivalDelivery c k off n) s id := by
  have gone' : (s.hears (.arrivalDelivery c k off n)).core.gangs.find? (fun g => g.core == c && g.alloc == k) = none := gone
  refine ⟨rfl, congrArg Host.Outcome.next ?_⟩
  show (s.hears (.arrivalDelivery c k off n)).arrive c k off n = _
  rw [State.arrive, gone']
  rfl

/-! ## Timeouts (R221) -/

/-- The lanes of the WAIT whose time is up look once more. -/
theorem happens_waitTimeout (s : State) (c slot lane n : Nat) : Happens .waitTimeout (.waitTimeout c slot lane n) s (fun t => t.mem = s.mem ∧ t.core.gangs = s.core.gangs ∧
    ∀ g ∈ s.core.issue, ∃ h ∈ t.core.issue, h.id = g.id ∧ h.lanes.length = g.lanes.length ∧
      (g.id = n → g.core = c → ∀ l ∈ g.lanes, l.lane = lane → l.slot = slot → l.done = false → 2 ≤ l.wait → l.wait < never → l.wait ≤ 2 + s.ctl.time → { l with wait := 1 } ∈ h.lanes)) := by
  refine ⟨rfl, (s.hears (.waitTimeout c slot lane n)).waitTimedOut c slot lane n, rfl, rfl, rfl, fun g hg => ⟨_, List.mem_map_of_mem hg, ?_⟩⟩
  split
  · refine ⟨rfl, List.length_map _, fun _ _ l hl hlane hslot going waits finite due => List.mem_map.mpr ⟨l, hl, if_pos ⟨hlane, hslot, ?_, waits, finite, due⟩⟩⟩
    simp [going]
  · next other => exact ⟨rfl, rfl, fun hid hcore => absurd ⟨hid, hcore⟩ other⟩

/-! ## Deadlines (R216) -/

section
variable {s : State} {ctx : Nat}

/-- A thread of the gang, of the launch, has gone past its deadline. -/
def State.Late (s : State) (ctx : Nat) (g : Gang) : Prop := g.ctx = ctx ∧ ∃ t ∈ g.threads, t.live = true ∧ s.overdue ctx t = true

theorem State.any_late : (s.core.gangs.any (fun g => g.ctx == ctx && g.threads.any (fun t => t.live && s.overdue ctx t))) = true ↔ ∃ g ∈ s.core.gangs, s.Late ctx g := by
  simp [State.Late]

theorem gives_watchdogExpire_inTime (none : ∀ g ∈ s.core.gangs, ¬ s.Late ctx g) : Gives .watchdogExpire (.watchdogExpire ctx) s id := by
  have late : (s.core.gangs.any (fun g => g.ctx == ctx && g.threads.any (fun t => t.live && s.overdue ctx t))) = false := by
    rw [Bool.eq_false_iff, ne_eq, State.any_late]
    exact fun ⟨g, hg, h⟩ => none g hg h
  exact ⟨rfl, congrArg Host.Outcome.next (if_neg fun h => Bool.false_ne_true (late.symm.trans (Bool.and_eq_true_iff.mp h).1))⟩

theorem gives_watchdogExpire (some : ∃ g ∈ s.core.gangs, s.Late ctx g) (going : tget s.ten.worlds (s.worldOfCtx ctx) = none) :
    Gives .watchdogExpire (.watchdogExpire ctx) s (fun s => s.endLaunch ctx 5) := by
  have going' : tget (s.hears (.watchdogExpire ctx)).ten.worlds ((s.hears (.watchdogExpire ctx)).worldOfCtx ctx) = none := going
  have late : (s.hears (.watchdogExpire ctx)).core.gangs.any (fun g => g.ctx == ctx && g.threads.any (fun t => t.live && (s.hears (.watchdogExpire ctx)).overdue ctx t)) = true := State.any_late.mpr some
  refine ⟨rfl, congrArg Host.Outcome.next ?_⟩
  show (s.hears (.watchdogExpire ctx)).watchdog ctx = _
  rw [State.watchdog, going', late]
  rfl

end

/-- Settles O54, message by message. -/
theorem runEvents : Obligations.RunEvents := by
  intro s c n k slot lane off ctx
  refine ⟨fun free => ⟨gives_runStart_idle free, fun h L picked launched => ⟨oldest_spec picked, fun u raw fetched => ⟨fun cause faulty => ?faulty, fun sound clear => ?sound⟩⟩⟩,
    fun g l x bound slot there member => State.startGrp_keeps bound slot there member,
    fun t x vs g found alone data kept plain bound living silent => ⟨gives_tokenComplete found alone data kept plain bound living silent, gives_tokenComplete_veiled found alone data plain,
      gives_tokenComplete_dead found alone data kept plain bound living silent⟩,
    fun g vs i v => g.reg_writeResults, fun g vs r l other hl hlane => g.reg_writeResults_ne other hl hlane, fun g found => ⟨fun filled => ?filled, fun waits => ?waits, fun bound there => ?there⟩,
    gives_arrivalDelivery_gone, fun target count gen pos ht hc hg => arriveWord_counts target count gen n ht hc hg pos, happens_waitTimeout s c slot lane n, gives_watchdogExpire_inTime, gives_watchdogExpire⟩
  case faulty => exact (exec_runStart free picked launched).trans (congrArg Host.Outcome.next (State.issueRun_faulty fetched faulty))
  case sound =>
    exact ⟨placedWords _ _, (exec_runStart free picked launched).trans (congrArg Host.Outcome.next (State.issueRun_sound fetched sound clear)), placedWords_words _ _, fun i w => placedWords_packet⟩
  case filled => exact (exec_arrivalDelivery found).trans (congrArg Host.Outcome.next (if_neg (by simpa using filled)))
  case waits => exact (exec_arrivalDelivery found).trans (congrArg Host.Outcome.next (if_pos (by simpa using waits)))
  case there => exact State.fillFor_filled (s := s.hears (.arrivalDelivery c k off n)) found bound there

end Sys2Proof.Machine
end

section
/-! SUPPORT. Reads of the Reeve and writes by the device do not depend on the message that happens. -/

namespace Sys2Proof.Machine

open Sys2Proof

section
variable (s : State) (e : Ev)

theorem State.lineFor_hears (wtag line : Nat) : (s.hears e).lineFor wtag line = s.lineFor wtag line := rfl

theorem State.failLine_hears (wtag line : Nat) : (s.hears e).failLine wtag line = (s.failLine wtag line).hears e := by
  unfold State.failLine
  rw [State.lineFor_hears]
  split <;> rfl

/-- A piece of a copy that has read or waits to, of the line's source (R119). -/
def srcHit (home line : Nat) (p : Piece) : Bool := homeOf p.entry.dbase == home && p.marks.contains (line / 32) && decide (2 ≤ p.stage) && decide (p.stage ≤ 4)

/-- The bytes that pieces under way catch of a line, as it stands in s, noted in t. -/
def State.noteCaught (s t : State) (home line : Nat) : State :=
  { t with ali.pieces := t.ali.pieces.map (fun (p : Piece) => if srcHit home line p then { p with caught := p.caught ++ (s.catchLine p line).filter (fun b => !p.caught.any (fun c => c.1 == b.1)) } else p) }

theorem State.noteCaught_hears (t : State) (home line : Nat) : (s.hears e).noteCaught (t.hears e) home line = (s.noteCaught t home line).hears e := rfl

theorem State.srcMaterialise_eq (home line : Nat) : s.srcMaterialise home line =
    let s1 := s.noteCaught ((s.ali.pieces.filter (fun p => srcHit home line p && !(s.catchLine p line).isEmpty)).foldl (fun (s : State) p => s.failLine p.entry.wtag line) s) home line
    (s1.ali.entries.filter (fun e => e.home == home && !e.left.isEmpty && meet (aliasExtent e) (128 * line, 128))).foldl (fun (s : State) e => s.materialise e (aliasLines e)) s1 := rfl

theorem State.catchLine_hears (p : Piece) (line : Nat) : (s.hears e).catchLine p line = s.catchLine p line := rfl

theorem State.srcMaterialise_hears (home line : Nat) : (s.hears e).srcMaterialise home line = (s.srcMaterialise home line).hears e := by
  rw [State.srcMaterialise_eq, State.srcMaterialise_eq]
  simp only [State.hears_ali, State.catchLine_hears]
  rw [foldl_hears e (fun t (p : Piece) => t.failLine_hears e p.entry.wtag line), State.noteCaught_hears]
  exact foldl_hears e (fun t (a : Alias) => t.materialise_hears e a (aliasLines a)) _ _

theorem State.srcWriteNow_hears (line : Nat) : (s.hears e).srcWriteNow line = (s.srcWriteNow line).hears e :=
  congrArg (fun t : State => { t with mm.deph := nset 0 t.mm.deph line 0 }) (foldl_hears e (fun t _ => t.srcMaterialise_hears e _ line) (s.dephHomes line) s)

theorem State.snoopHost_hears (line : Nat) (p : Patch) : (s.hears e).snoopHost line p = (s.snoopHost line p).hears e := foldl_hears e (fun _ _ => rfl) _ s

theorem State.dropResv_hears (line : Nat) : (s.hears e).dropResv line = (s.dropResv line).hears e := by
  unfold State.dropResv
  rw [State.hears_host]
  split <;> rfl

theorem State.dirtyHalves_hears (line : Nat) (p : Patch) : (s.hears e).dirtyHalves line p = (s.dirtyHalves line p).hears e := by
  unfold State.dirtyHalves
  split
  · exact foldl_hears e (fun _ _ => rfl) _ s
  · rfl

/-- Words marked poisoned, or no longer so. -/
theorem State.setPoisons_hears (line : Nat) (b : Bool) (ws : List Nat) : ws.foldl (fun (s : State) w => s.setPoison (16 * line + w) b) (s.hears e) = (ws.foldl (fun (s : State) w => s.setPoison (16 * line + w) b) s).hears e :=
  foldl_hears e (fun _ _ => rfl) ws s

/-- Bytes of a line written, which seals it no longer. -/
def State.putPatch (s : State) (line : Nat) (p : Patch) : State := { s with mem := Memory.patch s.mem (128 * line) p, mm.sealed := tdel s.mm.sealed line }

theorem State.putPatch_hears (line : Nat) (p : Patch) : (s.hears e).putPatch line p = (s.putPatch line p).hears e := rfl

theorem State.applyPatch_eq (line : Nat) (p : Patch) (pois : List Nat) : s.applyPatch line p pois =
    (pois.foldl (fun (s : State) w => s.setPoison (16 * line + w) true) ((fullWords p).foldl (fun (s : State) w => s.setPoison (16 * line + w) false)
      (((s.snoopHost line p).dropResv line).putPatch line p))).dirtyHalves line p := rfl

theorem State.applyPatch_hears (line : Nat) (p : Patch) (pois : List Nat) : (s.hears e).applyPatch line p pois = (s.applyPatch line p pois).hears e := by
  rw [State.applyPatch_eq, State.applyPatch_eq, State.snoopHost_hears, State.dropResv_hears, State.putPatch_hears, State.setPoisons_hears, State.setPoisons_hears, State.dirtyHalves_hears]

theorem State.nbBase_hears : (s.hears e).nbBase = s.nbBase := rfl

theorem State.nbTake_hears (line : Nat) (p : Patch) : (s.hears e).nbTake line p = (s.nbTake line p).hears e := by
  unfold State.nbTake
  rw [State.hears_nb, State.nbBase_hears]
  split <;> rfl

theorem State.homeUpdates_hears (t : Tx) : (s.hears e).homeUpdates t = (s.homeUpdates t).hears e := by
  unfold State.homeUpdates
  split <;> rfl

theorem State.refuses_hears (port func : Nat) : (s.hears e).refuses port func = s.refuses port func := rfl

theorem State.raiseMsi_hears (v : Option (Nat × Nat × Nat)) : (s.hears e).raiseMsi v = (s.raiseMsi v).hears e := by
  unfold State.raiseMsi
  split
  · rw [State.refuses_hears]
    split <;> rfl
  · rfl

theorem State.mscDirty_hears (line : Nat) : (s.hears e).mscDirty line = (s.mscDirty line).hears e := rfl
theorem State.updTx_hears (id : Nat) (f : Tx → Tx) : (s.hears e).updTx id f = (s.updTx id f).hears e := rfl
theorem State.settleDev_hears (id : Nat) : (s.hears e).settleDev id = (s.settleDev id).hears e := rfl

theorem State.homeWrite_hears (t : Tx) (irq : Option (Nat × Nat × Nat)) : (s.hears e).homeWrite t irq = (s.homeWrite t irq).hears e := by
  unfold State.homeWrite
  dsimp only
  rw [State.destWrite_hears, State.srcWriteNow_hears, State.applyPatch_hears, State.mscDirty_hears, State.updTx_hears, State.nbTake_hears, State.homeUpdates_hears, State.raiseMsi_hears, State.settleDev_hears]

theorem State.withDevTx_hears (pa : Nat) (bytes : List Byte) (irq : Option (Nat × Nat × Nat)) : (s.hears e).withDevTx pa bytes irq = (s.withDevTx pa bytes irq).hears e := by
  unfold State.withDevTx
  rw [State.mscFill_hears]
  rfl

theorem State.outsider_hears (t : Tx) : (s.hears e).outsider t = s.outsider t := rfl
theorem State.lineReady_hears (line : Nat) : (s.hears e).lineReady line = s.lineReady line := rfl
theorem State.halvesMissing_hears (pa n : Nat) (store : Bool) : (s.hears e).halvesMissing pa n store = s.halvesMissing pa n store := rfl

/-- A store of the device's that the way to its home cuts is as if it had not been begun. -/
def State.lostOnWay (s t : State) (id : Nat) : State := { t with ctl.cut := s.ctl.cut, coh.txs := t.coh.txs.filter (fun t => t.id != id) }

theorem State.devStoreLine_eq (pa : Nat) (bytes : List Byte) (irq : Option (Nat × Nat × Nat)) : s.devStoreLine pa bytes irq =
    let line := lineOf pa
    let t := s.devTx pa bytes irq
    if !isMapped pa then { s with ctl.badPA := some pa }
    else match s.outsider t with
    | some w => ({ s with ctl.sealDue := s.ctl.sealDue ++ [(pa, w, t.tenant)] }).raiseMsi irq
    | none =>
      if s.way deviceNode (lineNode line) = .cut then s.raiseMsi irq
      else if (s.mscFill line).2 && s.lineReady line && (s.halvesMissing pa bytes.length true).isEmpty then
        let r := (s.withDevTx pa bytes irq).reach deviceNode (lineNode line)
        if !r.2 then (s.lostOnWay r.1 t.id).raiseMsi irq else r.1.homeWrite t irq
      else (s.withDevTx pa bytes irq).send (.homeStore t.id) := rfl

theorem State.devStoreLine_hears (pa : Nat) (bytes : List Byte) (irq : Option (Nat × Nat × Nat)) : (s.hears e).devStoreLine pa bytes irq = (s.devStoreLine pa bytes irq).hears e := by
  have tx : (s.hears e).devTx pa bytes irq = s.devTx pa bytes irq := rfl
  rw [State.devStoreLine_eq, State.devStoreLine_eq]
  simp only [tx, State.outsider_hears, State.way_hears, State.mscFill_snd_hears, State.lineReady_hears, State.halvesMissing_hears, State.withDevTx_hears, State.reach_hears, hearsFst]
  split
  · rfl
  · split
    · exact State.raiseMsi_hears { s with ctl.sealDue := _ } e irq
    · split
      · exact s.raiseMsi_hears e irq
      · split
        · split
          · exact State.raiseMsi_hears (s.lostOnWay _ _) e irq
          · exact State.homeWrite_hears ..
        · rfl

theorem State.devStoreN_hears (k pa : Nat) (bytes : List Byte) (irq : Option (Nat × Nat × Nat)) : State.devStoreN k (s.hears e) pa bytes irq = (State.devStoreN k s pa bytes irq).hears e := by
  induction k generalizing s pa bytes with
  | zero => rfl
  | succ k ih =>
    unfold State.devStoreN
    dsimp only
    split
    · exact s.devStoreLine_hears ..
    · rw [State.devStoreLine_hears, ih]

theorem State.devStore_hears (pa : Nat) (bytes : List Byte) (irq : Option (Nat × Nat × Nat)) : (s.hears e).devStore pa bytes irq = (s.devStore pa bytes irq).hears e := by
  unfold State.devStore
  split
  · exact s.raiseMsi_hears ..
  · exact s.devStoreN_hears ..

theorem State.reeveXl_hears (t va acc : Nat) : (s.hears e).reeveXl t va acc = s.reeveXl t va acc := rfl

theorem State.dropWalk_hears (id : Nat) : (s.hears e).dropWalk id = (s.dropWalk id).hears e := rfl

theorem State.reeveWrite_hears (t va : Nat) (bytes : List Byte) (irq : Option (Nat × Nat × Nat)) :
    (s.hears e).reeveWrite t va bytes irq = (s.reeveWrite t va bytes irq).map (fun u => u.hears e) := by
  unfold State.reeveWrite
  rw [State.reeveXl_hears]
  split
  · rw [State.storeReady_hears]
    split
    · rw [State.devStore_hears]
      rfl
    · rfl
  · rw [State.dropWalk_hears, State.raiseMsi_hears]
    rfl
  · rfl

theorem State.putPwords_hears (l : Launch) (q : GraphS) : (s.hears e).putPwords l q = (s.putPwords l q).map (fun u => u.hears e) := by
  refine List.foldl_hom (Option.map (fun u : State => u.hears e)) (init := some s) fun acc t => ?_
  cases acc with
  | none => rfl
  | some u => exact u.reeveWrite_hears ..

theorem State.readReady_hears (pa n : Nat) : (s.hears e).readReady pa n = s.readReady pa n := rfl

theorem State.checkAs_hears (w pa n : Nat) : (s.hears e).checkAs w pa n = (s.checkAs w pa n).hears e := by
  unfold State.checkAs
  split <;> rfl

theorem State.bytesAs_hears (w pa n : Nat) : (s.hears e).bytesAs w pa n = s.bytesAs w pa n := rfl

theorem State.reeveReadAs_hears (w t va n : Nat) : (s.hears e).reeveReadAs w t va n = s.reeveReadAs w t va n := by
  unfold State.reeveReadAs
  simp only [State.reeveXl_hears, State.readReady_hears, State.checkAs_hears, State.bytesAs_hears]
  rfl

theorem State.ringRecs_hears (w t : Nat) (q : GraphS) (stage : Nat) : (s.hears e).ringRecs w t q stage = s.ringRecs w t q stage := by
  simp only [State.ringRecs, State.reeveReadAs_hears]

end

end Sys2Proof.Machine
end

section
/-! SUPPORT. Graph gangs (R180, R181): which records make a gang, and what of the state their leaving the ring changes. -/

namespace Sys2Proof.Machine

open Sys2Proof

/-! ## The records of a gang (R181) -/

/-- The records of a ring of one EOFF. -/
def ofEoff (rs : List GRec) (e : Nat) : List GRec := rs.filter (fun r => eoff r == e)

section
variable {s : State} {c st : Nat} {rs : List GRec}

theorem State.nextGang_of_find {e : Nat} (found : ((rs.map eoff).eraseDups).find? (fun e => decide (32 ≤ (ofEoff rs e).length)) = some e) : s.nextGang c st rs = (ofEoff rs e).take 32 := by
  have found' : ((rs.map eoff).eraseDups).find? (fun e => decide (32 ≤ (rs.filter (fun r => eoff r == e)).length)) = some e := found
  unfold State.nextGang
  dsimp only
  rw [found']
  rfl

/-- 32 records of equal EOFF make a gang. -/
theorem State.nextGang_full {e : Nat} (many : 32 ≤ (ofEoff rs e).length) : (s.nextGang c st rs).length = 32 ∧ ∃ k, ∀ r ∈ s.nextGang c st rs, r ∈ rs ∧ eoff r = k := by
  have listed : e ∈ (rs.map eoff).eraseDups := by
    obtain ⟨r, hr⟩ := List.exists_mem_of_length_pos (Nat.lt_of_lt_of_le (by omega) many)
    obtain ⟨here, mine⟩ := List.mem_filter.mp hr
    exact List.mem_eraseDups.mpr (List.mem_map.mpr ⟨r, here, beq_iff_eq.mp mine⟩)
  have found : (((rs.map eoff).eraseDups).find? (fun e => decide (32 ≤ (ofEoff rs e).length))).isSome = true := List.find?_isSome.mpr ⟨e, listed, decide_eq_true many⟩
  obtain ⟨k, hk⟩ := Option.isSome_iff_exists.mp found
  have enough : 32 ≤ (ofEoff rs k).length := by simpa using List.find?_some hk
  rw [State.nextGang_of_find hk]
  refine ⟨List.length_take_of_le enough, k, fun r hr => ?_⟩
  obtain ⟨here, mine⟩ := List.mem_filter.mp (List.mem_of_mem_take hr)
  exact ⟨here, beq_iff_eq.mp mine⟩

/-- Else the oldest record's gang goes, where it is due. -/
theorem State.nextGang_partial {r : GRec} (few : ∀ e, (ofEoff (r :: rs) e).length < 32) :
    s.nextGang c st (r :: rs) = if r.2.1 + 16384 ≤ s.ctl.time ∨ s.noneOutside c st = true then ofEoff (r :: rs) (eoff r) else [] := by
  have none : (((r :: rs).map eoff).eraseDups).find? (fun e => decide (32 ≤ ((r :: rs).filter (fun r => eoff r == e)).length)) = Option.none :=
    List.find?_eq_none.mpr fun e _ h => Nat.not_le_of_lt (few e) (of_decide_eq_true h)
  unfold State.nextGang
  dsimp only
  rw [none]
  rfl

end

/-! ## What sending and timing leave alone -/

theorem State.checkDone_eq (s : State) (c : Nat) : ∃ es, s.checkDone c = { s with ctl.agenda := es } := by
  have forms (sts : List Nat) : ∃ es, sts.foldl (fun (s : State) st => if s.due (fun e => e == .graphGangForm c st) then s else s.send (.graphGangForm c st)) s = { s with ctl.agenda := es } :=
    List.foldlRecOn (motive := fun t : State => ∃ es, t = { s with ctl.agenda := es }) sts _ ⟨_, rfl⟩ fun t ht st _ => by
      obtain ⟨es, rfl⟩ := ht
      split <;> exact ⟨_, rfl⟩
  unfold State.checkDone
  split
  · exact ⟨_, rfl⟩
  · split
    · next q _ =>
      obtain ⟨es, h⟩ := forms ((q.recs.map (fun r => r.1)).eraseDups)
      dsimp only
      rw [h]
      split
      · exact ⟨_, rfl⟩
      · split
        · exact ⟨_, rfl⟩
        · split <;> exact ⟨_, rfl⟩
    · split <;> exact ⟨_, rfl⟩

theorem State.watchRing_eq (s : State) (c st : Nat) (q : GraphS) : ∃ ts, s.watchRing c st q = { s with ctl.timers := ts } := by
  unfold State.watchRing
  split
  · split <;> exact ⟨_, rfl⟩
  · exact ⟨_, rfl⟩

/-- Reads of a ring change at most the lines whose check is due to fail (R83). -/
theorem State.foldl_reeveCheck {β : Type} (s : State) (w t n : Nat) (va : β → Nat) (rs : List β) :
    ∃ ds, rs.foldl (fun (s : State) r => s.reeveCheck w t (va r) n) s = { s with ctl.integDue := ds } :=
  List.foldlRecOn (motive := fun u : State => ∃ ds, u = { s with ctl.integDue := ds }) rs _ ⟨_, rfl⟩ fun u hu r _ => by
    obtain ⟨ds, rfl⟩ := hu
    unfold State.reeveCheck
    split
    · obtain ⟨es, h⟩ := State.foldl_checkAs { s with ctl.integDue := ds } w n [_]
      exact ⟨es, h⟩
    · exact ⟨_, rfl⟩

/-- Where nothing of a launch is saved, no saved group is looked at. -/
theorem State.wakeSaved_of_none {s : State} {c : Nat} (none : ∀ x ∈ s.run.saved, x.ctx ≠ c) (h : Hold) : ∃ ss, s.wakeSaved (fun x => x.ctx == c) h = { s with run.saved := ss } := by
  have empty : s.run.saved.filter (fun x => x.ctx == c) = [] := by simpa using none
  unfold State.wakeSaved
  rw [empty]
  exact ⟨_, rfl⟩

/-! ## A gang formed (R180, R181) -/

/-- The ring of a stage without the records of a gang. -/
def GraphS.without (q : GraphS) (st : Nat) (g : List GRec) : GraphS :=
  { q with recs := q.recs.filter (fun r => !(r.1 == st && g.any (fun x => x.1 == r.2.1))), groups := q.groups + (if g.isEmpty then 0 else 1) }

/-- What follows for a ring from which a gang has gone, or none: a task control block is placed, or the launch looks at what remains. -/
def State.gangOut (s : State) (c st : Nat) (t : TCB) (none : Bool) : State :=
  let s2 := if none then s.checkDone c else (s.addTcb t).send (.graphGangForm c st)
  match s2.graphOf c with
  | some q => s2.watchRing c st q
  | .none => s2

theorem State.gangOut_none (s : State) (c st : Nat) (t : TCB) : ∃ es ts, s.gangOut c st t true = { s with ctl.agenda := es, ctl.timers := ts } := by
  obtain ⟨es, h⟩ := s.checkDone_eq c
  unfold State.gangOut
  simp only [if_true, h]
  split
  · obtain ⟨ts, h'⟩ := State.watchRing_eq { s with ctl.agenda := es } c st _
    exact ⟨es, ts, h'⟩
  · exact ⟨es, _, rfl⟩

theorem State.gangOut_some (s : State) (c st : Nat) (t : TCB) : ∃ ts, s.gangOut c st t false = { (s.addTcb t).send (.graphGangForm c st) with ctl.timers := ts } := by
  unfold State.gangOut
  simp only [Bool.false_eq_true, if_false]
  split
  · exact State.watchRing_eq ..
  · exact ⟨_, rfl⟩

section
variable {s : State} {c : Nat} {l : Launch} {q : GraphS} (launched : s.launch c = some l) (graph : l.graph = some q)
include launched graph

theorem State.graphOf_eq : s.graphOf c = some q := by rw [State.graphOf, launched, Option.bind_some, graph]

theorem State.graphOf_updGraph (f : GraphS → GraphS) : (s.updGraph c f).graphOf c = some (f q) := by
  have mine : l.ctx = c := by simpa using List.find?_some launched
  rw [State.graphOf, State.updGraph, State.launch_updLaunch s c c (f := fun L => { L with graph := L.graph.map f }) fun _ => rfl, launched, Option.map_some, if_pos mine, Option.bind_some, graph]
  rfl

variable {st : Nat} {rs : List GRec} (going : l.ending = none) (unsaved : ∀ x ∈ s.run.saved, x.ctx ≠ c) (read : s.ringRecs l.world l.tenant q st = some rs)
variable (whole : rs.map (fun r => r.1) = (q.ring st).map (fun r => r.2.1))
include going unsaved read whole

theorem State.formGang_eq : ∃ ds ss, s.formGang c st =
    State.gangOut { s.updGraph c (fun q => q.without st (s.nextGang c st rs)) with ctl.integDue := ds, run.saved := ss } c st (l.recordTcb q st (s.nextGang c st rs)) (s.nextGang c st rs).isEmpty := by
  have lost : (q.ring st).filter (fun r => !rs.any (fun x => x.1 == r.2.1)) = [] := by
    refine List.filter_eq_nil_iff.mpr fun r hr => ?_
    have there : r.2.1 ∈ rs.map (fun r => r.1) := whole ▸ List.mem_map_of_mem hr
    obtain ⟨x, hx, same⟩ := List.mem_map.mp there
    have found : rs.any (fun x => x.1 == r.2.1) = true := List.any_eq_true.mpr ⟨x, hx, by simpa using same⟩
    simp [found]
  obtain ⟨ds, checked⟩ := s.foldl_reeveCheck l.world l.tenant 64 (fun r : Nat × Nat × Nat => q.recVa st r.2.1) (q.ring st)
  obtain ⟨ss, woken⟩ := State.wakeSaved_of_none (s := { s.updGraph c (fun p => p.without st (s.nextGang c st rs)) with ctl.integDue := ds }) unsaved .ring
  refine ⟨ds, ss, ?_⟩
  unfold State.formGang
  simp only [launched, graph, going, Option.isSome_none, Bool.false_eq_true, if_false, read, lost, List.any_nil, Bool.or_false, checked]
  exact congrArg (fun t : State => t.gangOut c st (l.recordTcb q st (s.nextGang c st rs)) (s.nextGang c st rs).isEmpty) woken

/-- The records of a gang leave their ring as a task control block that is to be placed. -/
theorem State.formGang_some (some : s.nextGang c st rs ≠ []) :
    let g := s.nextGang c st rs
    let u := s.formGang c st
    u.mem = s.mem ∧ u.core = s.core ∧ (∃ x ∈ u.run.tcbs, x.id = s.ctl.nextId ∧ x.ctx = l.ctx ∧ x.stage = st ∧ x.recs = g.map (fun r => r.2.2) ∧ x.seqs = g.map (fun r => r.1) ∧
      x.entry = (q.fld st 0 4 + eoff (g.headD default)) % 2 ^ 32 ∧ x.state = 0 ∧ x.place = 96) ∧ Ev.tcbPlace s.ctl.nextId ∈ u.ctl.agenda ∧
      ∃ p, u.graphOf c = .some p ∧ p.recs = q.recs.filter (fun r => !(r.1 == st && g.any (fun x => x.1 == r.2.1))) ∧ p.groups = q.groups + 1 := by
  have full : (s.nextGang c st rs).isEmpty = false := List.isEmpty_eq_false_iff.mpr some
  obtain ⟨ds, ss, formed⟩ := State.formGang_eq launched graph going unsaved read whole
  obtain ⟨ts, out⟩ := State.gangOut_some { s.updGraph c (fun q => q.without st (s.nextGang c st rs)) with ctl.integDue := ds, run.saved := ss } c st (l.recordTcb q st (s.nextGang c st rs))
  rw [full, out] at formed
  have left := State.graphOf_updGraph launched graph (fun q => q.without st (s.nextGang c st rs))
  intro g u
  rw [show u = _ from formed]
  refine ⟨rfl, rfl, ⟨_, List.mem_append_right _ (List.mem_singleton.mpr rfl), rfl, rfl, rfl, rfl, rfl, rfl, rfl, rfl⟩, ?_, _, left, rfl, ?_⟩
  · exact List.mem_append_left _ (List.mem_append_right _ (List.mem_singleton.mpr rfl))
  · exact congrArg (q.groups + ·) (if_neg (ne_true_of_eq_false full))

/-- Without a gang nothing leaves the ring. -/
theorem State.formGang_none (none : s.nextGang c st rs = []) :
    let u := s.formGang c st
    u.mem = s.mem ∧ u.core = s.core ∧ u.run.tcbs = s.run.tcbs ∧ ∃ p, u.graphOf c = some p ∧ p.recs = q.recs := by
  obtain ⟨ds, ss, formed⟩ := State.formGang_eq launched graph going unsaved read whole
  obtain ⟨es, ts, out⟩ := State.gangOut_none { s.updGraph c (fun q => q.without st (s.nextGang c st rs)) with ctl.integDue := ds, run.saved := ss } c st (l.recordTcb q st (s.nextGang c st rs))
  have empty : (s.nextGang c st rs).isEmpty = true := List.isEmpty_iff.mpr none
  rw [empty, out] at formed
  have left := State.graphOf_updGraph launched graph (fun q => q.without st (s.nextGang c st rs))
  intro u
  rw [show u = _ from formed]
  refine ⟨rfl, rfl, rfl, _, left, ?_⟩
  simp [GraphS.without, none]

end

end Sys2Proof.Machine
end

section
/-! SUPPORT. Rebalancing (R181), waves (R182) and stepping by GSTEP (R183). -/

namespace Sys2Proof.Machine

open Sys2Proof

/-! ## Rebalancing (R181) -/

/-- Along an ascending list a fold that takes the next where it is no greater finds the least, of equals the last. -/
theorem foldl_lastLeast (f : Nat → Nat) (a : Nat) (l : List Nat) (ascends : (a :: l).Pairwise (· < ·)) :
    l.foldl (fun a b => if f b ≤ f a then b else a) a ∈ a :: l ∧ ∀ e ∈ a :: l, f (l.foldl (fun a b => if f b ≤ f a then b else a) a) ≤ f e ∧
      (f e = f (l.foldl (fun a b => if f b ≤ f a then b else a) a) → e ≤ l.foldl (fun a b => if f b ≤ f a then b else a) a) := by
  induction l generalizing a with
  | nil => simp
  | cons b l ih =>
    obtain ⟨below, ascends'⟩ := List.pairwise_cons.mp ascends
    rw [List.foldl_cons]
    by_cases takes : f b ≤ f a
    · rw [if_pos takes]
      obtain ⟨found, least⟩ := ih b ascends'
      obtain ⟨le, last⟩ := least b List.mem_cons_self
      have first := below b List.mem_cons_self
      refine ⟨List.mem_cons_of_mem _ found, List.forall_mem_cons.mpr ⟨⟨by omega, fun same => ?_⟩, least⟩⟩
      have here := last (by omega)
      omega
    · rw [if_neg takes]
      obtain ⟨found, least⟩ := ih a (List.pairwise_cons.mpr ⟨fun x hx => below x (List.mem_cons_of_mem _ hx), (List.pairwise_cons.mp ascends').2⟩)
      obtain ⟨le, -⟩ := least a List.mem_cons_self
      refine ⟨?_, List.forall_mem_cons.mpr ⟨least a List.mem_cons_self, List.forall_mem_cons.mpr ⟨⟨by omega, fun same => by omega⟩, fun e he => least e (List.mem_cons_of_mem _ he)⟩⟩⟩
      rcases List.mem_cons.mp found with here | later
      · exact List.mem_cons.mpr (.inl here)
      · exact List.mem_cons_of_mem _ (List.mem_cons_of_mem _ later)

/-- The donor has the lowest fill above its MINGS, of equals the higher number. -/
theorem State.donor_spec {s : State} {c d : Nat} {q : GraphS} (h : s.donor c q = some d) : q.fld d 18 1 < s.keptSlots c d ∧
    ∀ e < q.stages.length, q.fld e 18 1 < s.keptSlots c e → q.fill d ≤ q.fill e ∧ (q.fill e = q.fill d → e ≤ d) := by
  unfold State.donor at h
  split at h
  · cases h
  · next a rest some =>
    have ascends : (a :: rest).Pairwise (· < ·) := some ▸ List.pairwise_lt_range.filter _
    obtain ⟨found, least⟩ := foldl_lastLeast q.fill a rest ascends
    rw [Option.some.inj h] at found least
    rw [← some] at found least
    refine ⟨by simpa using (List.mem_filter.mp found).2, fun e he spare => least e (List.mem_filter.mpr ⟨List.mem_range.mpr he, decide_eq_true spare⟩)⟩

/-- The stages of a graph that take a slot: their rings three quarters full, and fewer slots than MAXGS. -/
def State.fullStages (s : State) (c : Nat) (q : GraphS) : List Nat :=
  (List.range q.stages.length).filter (fun t => decide (3 * 2 ^ q.qlog t ≤ 4 * q.fill t) && decide (s.keptSlots c t < q.fld t 17 1))

section
variable {s : State} {c : Nat} {l : Launch} {q : GraphS} (launched : s.launch c = some l) (graph : l.graph = some q)
include launched graph

section
variable (going : l.ending = none)
include going

theorem exec_rebalanceTimer : exec .rebalanceTimer (s.hears (.rebalanceTimer c)) = .next
    (((sortBy (fun t => 4096 - q.fill t) (s.fullStages c q)).foldl (fun (s : State) t => s.rebalanceOne c t) (s.hears (.rebalanceTimer c))).after 1024 (.rebalanceTimer c)) := by
  have launched' : (s.hears (.rebalanceTimer c)).launch c = some l := launched
  refine congrArg Host.Outcome.next ?_
  simp only [State.hears_op, launched', graph, going, Option.isSome_none, Bool.false_eq_true, if_false]
  rfl

theorem gives_rebalanceTimer_idle (none : s.fullStages c q = []) : Gives .rebalanceTimer (.rebalanceTimer c) s (fun s => s.after 1024 (.rebalanceTimer c)) := by
  have answers := exec_rebalanceTimer launched graph going
  rw [none] at answers
  exact ⟨rfl, answers⟩

theorem happens_rebalanceTimer {t d : Nat} {g : Gang} (one : s.fullStages c q = [t]) (donor : s.donor c q = some d)
    (taken : worst (fun _ => 0) (s.core.gangs.filter (fun g => g.ctx == c && g.stage == d && s.mayPreempt g)) = some g) : Happens .rebalanceTimer (.rebalanceTimer c) s (fun u =>
      (c, g.group, 4096) ∈ u.run.preempts ∧ Ev.preemptSave c g.group ∈ u.ctl.agenda ∧ (s.ctl.time + 1024, .rebalanceTimer c) ∈ u.ctl.timers ∧
        ∃ p, u.graphOf c = some p ∧ p.given = q.given ++ [(d, t)]) := by
  have answers := exec_rebalanceTimer launched graph going
  have alone (key : Nat → Nat) : sortBy key [t] = [t] := rfl
  have graph' : (s.hears (.rebalanceTimer c)).graphOf c = some q := State.graphOf_eq (s := s.hears _) launched graph
  have donor' : (s.hears (.rebalanceTimer c)).donor c q = some d := donor
  have taken' : worst (fun _ => 0) ((s.hears (.rebalanceTimer c)).core.gangs.filter (fun g => g.ctx == c && g.stage == d && (s.hears (.rebalanceTimer c)).mayPreempt g)) = some g := taken
  have moved : (s.hears (.rebalanceTimer c)).rebalanceOne c t =
      ((s.hears (.rebalanceTimer c)).startPreempt c g.group 4096).updGraph c (fun q => { q with given := q.given ++ [(d, t)] }) := by
    simp only [State.rebalanceOne, graph', donor', taken']
  rw [one, alone, List.foldl_cons, List.foldl_nil, moved] at answers
  have given := State.graphOf_updGraph (s := (s.hears (.rebalanceTimer c)).startPreempt c g.group 4096) launched graph (fun q => { q with given := q.given ++ [(d, t)] })
  exact ⟨rfl, _, answers, List.mem_append_right _ (List.mem_singleton.mpr rfl), List.mem_append_right _ (List.mem_singleton.mpr rfl), List.mem_append_right _ (List.mem_singleton.mpr rfl), _, given, rfl⟩

end

/-! ## Waves (R182, R183) -/

section
variable (going : l.ending = none) (open_ : l.released = false) (running : q.waiting = false) (idle : s.launchBusy l = false) (empty : q.recs = [])
include going open_ running idle empty

theorem exec_waveEnd : exec .waveEnd (s.hears (.waveEnd c)) = .next (
    let e := s.hears (.waveEnd c)
    if bit (s.tModes l.tenant) 2 then
      match e.putPwords l q with
      | none => (q.ran.foldl (fun (s : State) t => s.reeveWriteAsk l.tenant (l.lrec.stageTab + 32 * t + 4) 4) e).wait (.waveEnd c)
      | some u => (u.logEvent l.tenant 0 3 (some 2) [(30, 2, c), (28, 2, q.wave), (16, 8, q.ran.foldl (fun m t => m ||| 2 ^ t) 0)]).updGraph c (fun q => { q.nextWave with waiting := true, picked := [] })
    else if q.branches.isEmpty then (e.updGraph c GraphS.nextWave).send (.launchComplete c)
    else (q.branches.foldl (fun (s : State) t => s.activate c t (q.fld t 20 4)) (e.updGraph c GraphS.nextWave)).checkDone c) := by
  have launched' : (s.hears (.waveEnd c)).launch c = some l := launched
  have idle' : (s.hears (.waveEnd c)).launchBusy l = false := idle
  refine congrArg Host.Outcome.next ?_
  show (s.hears (.waveEnd c)).waveEnd c = _
  simp only [State.waveEnd, launched', graph, going, open_, running, idle', empty, Option.isSome_none, List.isEmpty_nil, Bool.or_self, Bool.not_true, Bool.false_eq_true, if_false]
  rfl

end

end

theorem GraphS.mem_branches {q : GraphS} {t : Nat} (ran : t ∈ q.ran) (branches : 0 < q.fld t 16 1) : q.fld t (12 + min (q.pOf t) (q.fld t 16 1 - 1)) 1 ∈ q.branches :=
  List.mem_map.mpr ⟨t, List.mem_filter.mpr ⟨ran, decide_eq_true branches⟩, rfl⟩

theorem State.putPwords_one {s : State} {l : Launch} {q : GraphS} {t pa : Nat} {attr : PAttr} (one : q.ran = [t]) (xl : s.reeveXl l.tenant (l.lrec.stageTab + 32 * t + 4) 5 = .ok pa attr)
    (ready : s.storeReady pa 4 = true) : s.putPwords l q = some (s.devStore pa (leBytes 4 (q.pOf t)) none) := by
  have written := State.reeveWrite_of_ready (bytes := leBytes 4 (q.pOf t)) none xl (by rwa [length_leBytes])
  rw [State.putPwords, one]
  exact written

/-! ## GSTEP (R183) -/

section
variable {s : State} {c : Nat} {l : Launch} {q : GraphS} {v : DWord} (launched : s.launch c = some l) (graph : l.graph = some q)

section
variable (names : (v.extractLsb' 48 16).toNat = c)
include launched graph names

theorem exec_gstepWrite : exec .gstepWrite (s.hears (.gstepWrite v)) = .next (
    let e := s.hears (.gstepWrite v)
    let stage := (v.extractLsb' 0 8).toNat
    if !q.waiting then e.badReply (some l.tenant) 2 0xC038 v.toNat
    else if stage = 0xFF then ((e.updGraph c (fun q => { q with waiting := false, picked := [] })).cancel (fun e => e == .gstepWaveTimer c q.serial)).send (.launchComplete c)
    else if q.stages.length ≤ stage then e.badReply (some l.tenant) 2 0xC038 v.toNat
    else (e.updGraph c (fun q => { q with picked := q.picked ++ [stage], serial := q.serial + 1 })).after perUs (.gstepWaveTimer c (q.serial + 1))) := by
  have ctx : bits v.toNat 63 48 = c := (toNat_extractLsb' v 48 16).symm.trans names
  have stage : bits v.toNat 7 0 = (v.extractLsb' 0 8).toNat := (toNat_extractLsb' v 0 8).symm
  have launched' : (s.hears (.gstepWrite v)).launch c = some l := launched
  have graph' : (s.hears (.gstepWrite v)).graphOf c = some q := State.graphOf_eq launched' graph
  refine congrArg Host.Outcome.next ?_
  simp only [State.hears_op, ctx, stage, launched', graph', Option.map_some]

end

include launched graph

theorem exec_gstepWaveTimer (n : Nat) : exec .gstepWaveTimer (s.hears (.gstepWaveTimer c n)) = .next (
    let e := s.hears (.gstepWaveTimer c n)
    if q.waiting && q.serial == n then
      (q.picked.foldl (fun (s : State) t => s.activate c t (q.fld t 20 4)) (e.updGraph c (fun q => { q with waiting := false, picked := [] }))).checkDone c
    else e) := by
  have graph' : (s.hears (.gstepWaveTimer c n)).graphOf c = some q := State.graphOf_eq (s := s.hears _) launched graph
  refine congrArg Host.Outcome.next ?_
  simp only [State.hears_op, graph']

end

/-- Settles O55, message by message. -/
theorem graphEvents : Obligations.GraphEvents := by
  intro s c st n l q v launched graph
  refine ⟨fun rs going unsaved read whole => ⟨fun some => ⟨?forms, fun notDue => ?due⟩, fun none => ⟨?stays, fun notDue => ?dueStays⟩⟩, fun rs e many => State.nextGang_full many,
    fun r rs few => State.nextGang_partial few, fun going => ⟨gives_rebalanceTimer_idle launched graph going, fun t d one donor => ⟨State.donor_spec donor, fun g => happens_rebalanceTimer launched graph going one donor⟩⟩,
    fun going open_ running idle empty => ?wave, fun t => GraphS.mem_branches, fun t pa attr => State.putPwords_one, fun names => ?gstep, fun waiting serial => ?timer, fun not => ?late⟩
  case forms => exact ⟨rfl, _, rfl, State.formGang_some (s := s.hears (.graphGangForm c st)) launched graph going unsaved (by rwa [State.ringRecs_hears]) whole some⟩
  case due =>
    have notDue' : ¬ (s.hears (.partialGangTimer c st)).due (fun e => e == .graphGangForm c st) = true := ne_true_of_eq_false notDue
    exact ⟨rfl, _, congrArg Host.Outcome.next (if_neg notDue'), State.formGang_some (s := s.hears (.partialGangTimer c st)) launched graph going unsaved (by rwa [State.ringRecs_hears]) whole some⟩
  case stays => exact ⟨rfl, _, rfl, State.formGang_none (s := s.hears (.graphGangForm c st)) launched graph going unsaved (by rwa [State.ringRecs_hears]) whole none⟩
  case dueStays =>
    have notDue' : ¬ (s.hears (.partialGangTimer c st)).due (fun e => e == .graphGangForm c st) = true := ne_true_of_eq_false notDue
    exact ⟨rfl, _, congrArg Host.Outcome.next (if_neg notDue'), State.formGang_none (s := s.hears (.partialGangTimer c st)) launched graph going unsaved (by rwa [State.ringRecs_hears]) whole none⟩
  case wave =>
    have answers := exec_waveEnd launched graph going open_ running idle empty
    refine ⟨fun device => ⟨fun last => ⟨rfl, ?_⟩, fun more => ⟨rfl, ?_⟩⟩, fun host none => ⟨rfl, ?_⟩, fun host u written => ?_⟩
    · exact answers.trans (congrArg Host.Outcome.next ((if_neg (ne_true_of_eq_false device)).trans (if_pos (List.isEmpty_iff.mpr last))))
    · exact answers.trans (congrArg Host.Outcome.next ((if_neg (ne_true_of_eq_false device)).trans (if_neg fun h => more (List.isEmpty_iff.mp h))))
    · refine answers.trans (congrArg Host.Outcome.next ((if_pos host).trans ?_))
      rw [State.putPwords_hears, none]
      rfl
    · refine answers.trans (congrArg Host.Outcome.next ((if_pos host).trans ?_))
      rw [written]
      rfl
  case gstep =>
    have answers := exec_gstepWrite launched graph names
    refine ⟨fun bad => ⟨rfl, ?_⟩, fun waiting ends => ⟨rfl, ?_⟩, fun waiting goesOn present => ⟨rfl, ?_⟩⟩
    · rcases bad with idle | ⟨goesOn, absent⟩
      · exact answers.trans (congrArg Host.Outcome.next (if_pos (by simp [idle])))
      · refine answers.trans (congrArg Host.Outcome.next ?_)
        simp only [goesOn, absent, if_true, if_false, ite_self]
    · exact answers.trans (congrArg Host.Outcome.next ((if_neg (by simp [waiting])).trans (if_pos ends)))
    · exact answers.trans (congrArg Host.Outcome.next ((if_neg (by simp [waiting])).trans ((if_neg goesOn).trans (if_neg (Nat.not_le_of_lt present)))))
  case timer => exact ⟨rfl, (exec_gstepWaveTimer launched graph n).trans (congrArg Host.Outcome.next (if_pos (by simp [waiting, serial])))⟩
  case late => exact ⟨rfl, (exec_gstepWaveTimer launched graph n).trans (congrArg Host.Outcome.next (if_neg (by rcases not with idle | other <;> simp [*])))⟩

end Sys2Proof.Machine
end

section
/-! SUPPORT. Threads that end and task control blocks that go (R191): what a step by which draws are given up can do to the gangs, to the Reeve's queues and to the estimates. -/

namespace Sys2Proof.Machine

open Sys2Proof

/-! ## States in which less is at work -/

/-- The estimate of a context, whether or not CANCEL has ended a thread of it. -/
def State.estimate (s : State) (c : Nat) : Option EstS := ((s.launch c).bind (fun l => l.est)).map (fun e => { e with cancelled := false })

/-- What decides whether a task control block is QUEUED at a place for a context's draws. -/
def TCB.standing (t : TCB) : Nat × Nat × Nat × Nat := (t.state, t.ctx, t.place, t.first)

/-- From s to t threads only end and QUEUED task control blocks only go; the estimates stay. -/
structure State.Ends (s t : State) : Prop where
  gangs : ∀ g ∈ t.core.gangs, ∃ h ∈ s.core.gangs, h.core = g.core ∧ h.slot = g.slot ∧ ∀ n, (g.thread n).live = true → (h.thread n).live = true
  tcbs : ∀ y ∈ t.run.tcbs, y.state = 0 → ∃ x ∈ s.run.tcbs, x.standing = y.standing
  estimates : ∀ c, t.estimate c = s.estimate c

/-- The gangs, the task control blocks and the launches. -/
def State.scene (s : State) : List Gang × List TCB × List Launch := (s.core.gangs, s.run.tcbs, s.run.launches)

theorem State.scene_eq {s t : State} (core : t.core = s.core) (run : t.run = s.run) : t.scene = s.scene := by rw [State.scene, core, run]; rfl

theorem State.estimate_of_launches {s t : State} (same : t.run.launches = s.run.launches) (c : Nat) : t.estimate c = s.estimate c := by
  rw [State.estimate, State.launch_of_launches same]
  rfl

namespace State.Ends

/-- Gangs and task control blocks gone, the others as they were. -/
theorem of_subset {s t : State} (gangs : t.core.gangs ⊆ s.core.gangs) (tcbs : t.run.tcbs ⊆ s.run.tcbs) (launches : t.run.launches = s.run.launches) : s.Ends t :=
  ⟨fun g hg => ⟨g, gangs hg, rfl, rfl, fun _ => id⟩, fun y hy _ => ⟨y, tcbs hy, rfl⟩, State.estimate_of_launches launches⟩

theorem of_scene {s t : State} (same : t.scene = s.scene) : s.Ends t := 
  of_subset (List.Perm.of_eq (congrArg (·.1) same)).subset (List.Perm.of_eq (congrArg (·.2.1) same)).subset (congrArg (·.2.2) same)

theorem refl (s : State) : s.Ends s := of_scene rfl

theorem trans {s t u : State} (h : s.Ends t) (k : t.Ends u) : s.Ends u := by
  refine ⟨fun g hg => ?_, fun z hz queued => ?_, fun c => (k.estimates c).trans (h.estimates c)⟩
  · obtain ⟨x, hx, core, slot, lives⟩ := k.gangs g hg
    obtain ⟨y, hy, core', slot', lives'⟩ := h.gangs x hx
    exact ⟨y, hy, core'.trans core, slot'.trans slot, fun n living => lives' n (lives n living)⟩
  · obtain ⟨y, hy, same⟩ := k.tcbs z hz queued
    obtain ⟨x, hx, same'⟩ := h.tcbs y hy ((congrArg (·.1) same).trans queued)
    exact ⟨x, hx, same'.trans same⟩

theorem ite {s t u : State} {c : Prop} [Decidable c] (ht : s.Ends t) (hu : s.Ends u) : s.Ends (if c then t else u) := by
  split
  · exact ht
  · exact hu

theorem foldl {β : Type} {f : State → β → State} (h : ∀ s x, State.Ends s (f s x)) (l : List β) (s : State) : s.Ends (l.foldl f s) :=
  List.foldlRecOn (motive := fun t => s.Ends t) l f (refl s) fun _ ht x _ => ht.trans (h _ x)

theorem of_writes {s t : State} (h : s.Writes t) : s.Ends t := of_scene (State.scene_eq h.core h.run)

end State.Ends

/-- Task control blocks changed, none of them into a QUEUED one of other draws or at another place. -/
theorem State.mapTcbs_ends (s : State) {f : TCB → TCB} (queued : ∀ t, (f t).state = 0 → t.standing = (f t).standing) : s.Ends { s with run.tcbs := s.run.tcbs.map f } := by
  refine ⟨(State.Ends.refl s).gangs, fun y hy zero => ?_, fun _ => rfl⟩
  obtain ⟨x, hx, rfl⟩ := List.mem_map.mp hy
  exact ⟨x, hx, queued x zero⟩

/-- The gang of a slot changed, its threads at most ended. -/
theorem State.updGang_ends (s : State) (core slot : Nat) {f : Gang → Gang} (place : ∀ g, (f g).core = g.core ∧ (f g).slot = g.slot)
    (lives : ∀ g n, ((f g).thread n).live = true → (g.thread n).live = true) : s.Ends (s.updGang core slot f) := by
  refine ⟨fun y hy => ?_, (State.Ends.refl s).tcbs, fun _ => rfl⟩
  obtain ⟨x, hx, rfl⟩ := List.mem_map.mp hy
  refine ⟨x, hx, ?_⟩
  split
  · exact ⟨(place x).1.symm, (place x).2.symm, lives x⟩
  · exact ⟨rfl, rfl, fun _ => id⟩

/-- The launch of a context changed in nothing of its estimate but whether CANCEL has ended a thread. -/
theorem State.markCancelled_ends (s : State) (c : Nat) : s.Ends (s.updLaunch c (fun l => { l with est := l.est.map (fun (e : EstS) => { e with cancelled := true }) })) := by
  refine ⟨(State.Ends.refl s).gangs, (State.Ends.refl s).tcbs, fun b => ?_⟩
  have found := State.launch_updLaunch s c b (f := fun l => { l with est := l.est.map (fun (e : EstS) => { e with cancelled := true }) }) fun _ => rfl
  rw [State.estimate, found, State.estimate]
  cases s.launch b with
  | none => rfl
  | some l =>
    simp only [Option.map_some, Option.bind_some]
    split
    · exact Option.map_map ..
    · rfl

/-! ## Threads of a gang -/

theorem Gang.updThread_thread_cases (g : Gang) (lane n : Nat) (f : Thread → Thread) : (g.updThread lane f).thread n = g.thread n ∨ (n = lane ∧ (g.updThread lane f).thread n = f (g.thread n)) := by
  by_cases here : n = lane
  · subst here
    by_cases inside : n < g.threads.length
    · exact .inr ⟨rfl, Gang.updThread_thread_self inside f⟩
    · exact .inl (by rw [Gang.updThread, modAt_of_length_le (Nat.le_of_not_lt inside)])
  · exact .inl (headD_drop_modAt_ne _ here)

/-- A thread changed that does not come to life. -/
theorem Gang.updThread_lives (g : Gang) (lane : Nat) {f : Thread → Thread} (lives : (f (g.thread lane)).live = true → (g.thread lane).live = true) (n : Nat)
    (living : ((g.updThread lane f).thread n).live = true) : (g.thread n).live = true := by
  rcases g.updThread_thread_cases lane n f with same | ⟨rfl, changed⟩
  · rwa [same] at living
  · exact lives (by rwa [changed] at living)

/-- A thread changed into one that has ended, or that never was. -/
theorem Gang.updThread_gone (g : Gang) (lane : Nat) {f : Thread → Thread} (gone : ∀ t, (f t).live = false) : ((g.updThread lane f).thread lane).live = false := by
  by_cases inside : lane < g.threads.length
  · rw [Gang.updThread_thread_self inside]
    exact gone _
  · have outside : g.threads.length ≤ lane := Nat.le_of_not_lt inside
    rw [Gang.updThread, modAt_of_length_le outside, Gang.thread, List.drop_eq_nil_of_le outside]
    rfl

/-- Only parked threads, which live, are released from their joins (R214). -/
theorem Gang.releases_lives (g : Gang) {f : Thread → Thread} {rel : List Nat} (ready : ∀ l ∈ rel, joinReady g l = true) (n : Nat) :
    ((rel.foldl (fun g' l => g'.updThread l f) g).thread n).live = true → (g.thread n).live = true := by
  refine List.foldlRecOn (motive := fun h : Gang => (h.thread n).live = true → (g.thread n).live = true) rel _ id fun h lives l hl living => ?_
  rcases h.updThread_thread_cases l n f with same | ⟨rfl, -⟩
  · exact lives (by rwa [same] at living)
  · have parked : (g.thread n).status = .joinwait := by
      have := ready n hl
      simp only [joinReady, Bool.and_eq_true, beq_iff_eq] at this
      exact this.1
    simp [Thread.live, parked]

theorem State.evalJoins_ends (s : State) (core slot lane : Nat) : s.Ends (s.evalJoins core slot lane) := by
  refine s.updGang_ends core slot (fun g => ?_) fun g n => g.releases_lives (fun l hl => (List.mem_filter.mp hl).2) n
  exact List.foldlRecOn (motive := fun h : Gang => h.core = g.core ∧ h.slot = g.slot) _ _ ⟨rfl, rfl⟩ fun _ h _ _ => h

/-- A lane leaves the join masks of the others (R215). -/
theorem State.leaveJoins_ends (s : State) (core slot lane : Nat) :
    s.Ends (s.updGang core slot (fun g => { g with threads := g.threads.map (fun t => if t.status = .joinwait then { t with joinMask := setBit t.joinMask lane false } else t) })) := by
  refine s.updGang_ends core slot (fun _ => ⟨rfl, rfl⟩) fun g n living => ?_
  have changed := g.mapThreads_thread (f := fun t => if t.status = .joinwait then { t with joinMask := setBit t.joinMask lane false } else t) rfl n
  refine Eq.trans ?_ (changed ▸ living)
  split <;> rfl

/-! ## Groups that are freed -/

theorem State.with_sealed_run (s : State) (m : Tab Nat (Nat × Nat)) : { s with mm.sealed := m }.run = s.run := rfl

theorem State.with_blocks_tcbs (s : State) (bs : List Nat) : { s with run.blocks := bs }.run.tcbs = s.run.tcbs := rfl

theorem State.wipe_run (s : State) (pa n : Nat) : (s.wipe pa n).run = s.run :=
  foldl_keeps State.run (fun t _ => (State.with_sealed_run _ _).trans (foldl_keeps State.run (fun _ _ => by rfl) _ (t.putBytes _ _))) _ _

/-- Extents of n bytes wiped, for any n: the kernel would compute with a numeral. -/
theorem State.wipes_run (n : Nat) (bs : List Nat) (s : State) : (bs.foldl (fun (s : State) b => s.wipe b n) s).run = s.run := foldl_keeps State.run (fun t b => t.wipe_run b n) bs s

/-- Save blocks given back change neither the cores nor the Reeve's queues (R177). -/
theorem State.releaseBlocks_tcbs (s : State) (world : Nat) (bs : List Nat) : (s.releaseBlocks world bs).run.tcbs = s.run.tcbs :=
  (congrArg RunS.tcbs (State.retryHeld_run _)).trans ((State.with_blocks_tcbs _ _).trans (congrArg RunS.tcbs (ite_keeps State.run rfl (State.wipes_run 32768 bs s))))

/-- A launch that may be done is at most sent for (R62). -/
theorem State.checkDone_sends (s : State) (c : Nat) : ∃ es, s.checkDone c = s.sendAll es := by
  have none : s = s.sendAll [] := by rw [State.sendAll, List.append_nil]
  have more (es : List Ev) (e : Ev) : ∃ fs, (s.sendAll es).send e = s.sendAll fs := ⟨es ++ [e], by simp [State.sendAll, State.send]⟩
  have forms (sts : List Nat) : ∃ es, sts.foldl (fun (s : State) st => if s.due (fun e => e == .graphGangForm c st) then s else s.send (.graphGangForm c st)) s = s.sendAll es :=
    List.foldlRecOn (motive := fun t : State => ∃ es, t = s.sendAll es) sts _ ⟨_, none⟩ fun t ht st _ => by
      obtain ⟨es, rfl⟩ := ht
      split
      · exact ⟨es, rfl⟩
      · exact more es _
  unfold State.checkDone
  split
  · exact ⟨_, none⟩
  · split
    · next q _ =>
      obtain ⟨es, h⟩ := forms ((q.recs.map (fun r => r.1)).eraseDups)
      dsimp only
      rw [h]
      split
      · exact ⟨es, rfl⟩
      · split
        · exact more es _
        · split
          · exact ⟨es, rfl⟩
          · exact more es _
    · split
      · exact ⟨_, none⟩
      · exact ⟨_, rfl⟩

theorem State.checkDone_ends (s : State) (c : Nat) : s.Ends (s.checkDone c) := by
  obtain ⟨es, sent⟩ := s.checkDone_sends c
  rw [sent]
  exact .of_scene rfl

/-- The task control block of a gang that is freed is DONE. -/
theorem State.doneTcb_ends (s : State) (g : Gang) :
    s.Ends { s with run.tcbs := s.run.tcbs.map (fun (t : TCB) => if t.id = g.tcb ∧ t.state = 1 then { t with state := 2, place := 97 } else t) } := by
  refine s.mapTcbs_ends fun t => ?_
  split
  · exact fun done => nomatch done
  · exact fun _ => rfl

theorem State.freeGroup_ends (s : State) (c group : Nat) : s.Ends (s.freeGroup c group) := by
  unfold State.freeGroup
  refine .ite (.refl s) ?_
  extract_lets gs _ _ _ s1 s2
  have unbound : s.Ends s1 := .of_subset (List.filter_subset_self _) (List.Perm.of_eq (s.releaseBlocks_tcbs ..)).subset (s.releaseBlocks_launches ..)
  have done : s1.Ends s2 := .foldl (fun t g => .ite (.refl t) (t.doneTcb_ends g)) gs s1
  have poked : s2.Ends (s2.pokeBinds (gs.map (fun g => clusterOf g.core))) := .of_scene rfl
  exact ((unbound.trans done).trans poked).trans (State.checkDone_ends _ c)

/-! ## Threads that end -/

theorem State.clearLoaded_ends (s : State) (core slot lane : Nat) : s.Ends (s.clearLoaded core slot lane) := by
  have going := s.clearLoaded_going core slot lane
  have unloaded : s.Ends (s.updThread core slot lane (fun t => { t with loaded := false })) := s.updGang_ends core slot (fun _ => ⟨rfl, rfl⟩) fun g => g.updThread_lives lane id
  exact unloaded.trans (.of_scene (Prod.ext (congrArg (·.1.gangs) going) (Prod.ext (congrArg RunS.tcbs (s.clearLoaded_run core slot lane)) (congrArg (·.2) going))))

theorem State.killOps_ends (s : State) (core slot lane : Nat) : s.Ends (s.killOps core slot lane) :=
  (s.updGang_ends core slot (f := fun g => g.killOc lane) (fun _ => ⟨rfl, rfl⟩) fun _ _ => id).trans (.of_scene rfl)

theorem State.flushRegions_ends (s : State) (core slot : Nat) : s.Ends (s.flushRegions core slot) := by
  unfold State.flushRegions
  split
  · exact .refl s
  · refine .foldl (fun t line => ?_) _ s
    split
    · exact .ite (.refl t) (.of_scene rfl)
    · exact .refl t

/-- The thread of a lane slot has ended: no gang that holds the slot has a live thread there. -/
def State.Gone (s : State) (core slot lane : Nat) : Prop := ∀ g ∈ s.core.gangs, g.core = core → g.slot = slot → (g.thread lane).live = false

section
variable {s t : State} {core slot lane : Nat}

theorem State.Gone.ends (h : s.Gone core slot lane) (k : s.Ends t) : t.Gone core slot lane := by
  intro g hg mine own
  obtain ⟨x, hx, core', slot', lives⟩ := k.gangs g hg
  exact Bool.eq_false_iff.mpr fun living => ne_true_of_eq_false (h x hx (core'.trans mine) (slot'.trans own)) (lives lane living)

theorem State.Gone.thread (h : s.Gone core slot lane) : (s.thread core slot lane).live = false := by
  unfold State.thread
  split
  · next g bound =>
    have mine : g.core = core ∧ g.slot = slot := by simpa using List.find?_some bound
    exact h g (List.mem_of_find?_eq_some bound) mine.1 mine.2
  · rfl

theorem State.gone_of_unbound (unbound : s.gang core slot = none) : s.Gone core slot lane := fun g hg mine own => by
  have other := List.find?_eq_none.mp unbound g hg
  simp [mine, own] at other

end

section
variable (s : State) (core slot lane : Nat)

/-- A thread marked as ended, before those that it leaves behind hear of it. -/
def State.exited (s : State) (core slot lane : Nat) : State :=
  ((s.clearLoaded core slot lane).killOps core slot lane).updThread core slot lane (fun t => { t with status := .exited, inRun := false, hold := .none })

theorem State.ends_exited : s.Ends (s.exited core slot lane) := by
  have exits (t : State) : t.Ends (t.updThread core slot lane (fun t => { t with status := .exited, inRun := false, hold := .none })) :=
    t.updGang_ends core slot (fun _ => ⟨rfl, rfl⟩) fun g => g.updThread_lives lane fun living => absurd living (by simp [Thread.live])
  exact ((s.clearLoaded_ends core slot lane).trans (State.killOps_ends _ core slot lane)).trans (exits _)

theorem State.exited_gone : (s.exited core slot lane).Gone core slot lane := by
  intro y hy mine own
  obtain ⟨x, -, rfl⟩ := List.mem_map.mp hy
  by_cases here : x.core = core ∧ x.slot = slot
  · rw [if_pos here]
    exact x.updThread_gone lane fun _ => by simp [Thread.live]
  · rw [if_neg here] at mine own
    exact absurd ⟨mine, own⟩ here

theorem State.exited_ends : (s.exited core slot lane).Ends (s.endThread core slot lane) := by
  have left := (((s.exited core slot lane).leaveJoins_ends core slot lane).trans (State.evalJoins_ends _ core slot lane)).trans (State.flushRegions_ends _ core slot)
  unfold State.endThread
  dsimp only
  split
  · next g _ =>
    refine (left.trans ?_).trans (State.freeGroup_ends _ g.ctx g.group)
    split
    · split
      · exact .of_scene rfl
      · exact .refl _
    · exact .refl _
  · exact left

theorem State.endThread_ends : s.Ends (s.endThread core slot lane) := (s.ends_exited core slot lane).trans (s.exited_ends core slot lane)

theorem State.endThread_gone : (s.endThread core slot lane).Gone core slot lane := (s.exited_gone core slot lane).ends (s.exited_ends core slot lane)

end

/-! ## Draws given up under CANCEL (R191) -/

theorem State.startRelease_ends (s : State) (core slot lane scope : Nat) (acq : Bool) : s.Ends (s.startRelease core slot lane scope acq) := by
  have drained : (s.drain core slot lane).scene = s.scene := foldl_keeps State.scene (fun t e => (rfl : (t.drainEntry e).scene = t.scene)) _ s
  exact .of_scene drained

theorem State.clearReply_ends (s : State) (c f : Nat) : s.Ends (s.clearReply c f) := by
  unfold State.clearReply
  split
  · next l _ _ =>
    have void : s.Ends { s with xl.freply := tdel s.xl.freply (c, f) } := .of_scene rfl
    exact void.trans (.of_writes (State.devStore_writes _ (l.hdr + f) [0] none))
  · exact .refl s

theorem State.freeFault_ends (s : State) (c f : Nat) : s.Ends (s.freeFault c f) := .of_scene (ite_keeps State.scene (s := s) rfl rfl)

/-- A fault entry that nothing waits on any more is freed. -/
theorem State.freeEntry_ends (s : State) (c f : Nat) : s.Ends ((s.clearReply c f).freeFault c f) := (s.clearReply_ends c f).trans (State.freeFault_ends _ c f)

theorem State.cancelThread_spec (s : State) (core slot lane : Nat) : s.Ends (s.cancelThread core slot lane) ∧ (s.cancelThread core slot lane).Gone core slot lane := by
  unfold State.cancelThread
  split
  · next unbound => exact ⟨.refl s, State.gone_of_unbound unbound⟩
  · next x _ =>
    extract_lets t sc s1 s2
    have released : s.Ends s1 := (s.startRelease_ends core slot lane sc false).trans (State.markCancelled_ends _ x.ctx)
    have freed : s2.Ends (if t.status = .faultwait ∧ !s2.boundWaits x.ctx t.fid ∧ !s2.savedWaits x.ctx t.fid then (s2.clearReply x.ctx t.fid).freeFault x.ctx t.fid else s2) :=
      .ite (s2.freeEntry_ends x.ctx t.fid) (.refl s2)
    exact ⟨(released.trans (s1.endThread_ends core slot lane)).trans freed, (s1.endThread_gone core slot lane).ends freed⟩

/-- Threads cancelled one after the other have all ended. -/
theorem State.cancelThreads_spec (s : State) (xs : List (Nat × Nat × Nat)) :
    let t := xs.foldl (fun (s : State) x => s.cancelThread x.1 x.2.1 x.2.2) s
    s.Ends t ∧ ∀ x ∈ xs, t.Gone x.1 x.2.1 x.2.2 := by
  induction xs generalizing s with
  | nil => exact ⟨.refl s, fun _ h => absurd h List.not_mem_nil⟩
  | cons y ys ih =>
    obtain ⟨ends, gone⟩ := s.cancelThread_spec y.1 y.2.1 y.2.2
    obtain ⟨ends', gone'⟩ := ih (s.cancelThread y.1 y.2.1 y.2.2)
    refine ⟨ends.trans ends', fun x hx => ?_⟩
    rcases List.mem_cons.mp hx with rfl | later
    · exact gone.ends ends'
    · exact gone' x later

theorem State.placeSaved_ends (s : State) (c group : Nat) : s.Ends (s.placeSaved c group) := by
  unfold State.placeSaved
  split
  · split
    · next t _ =>
      have stamped : s.Ends (s.updTcb t.id (fun t => { t with since := if t.since = 0 then s.ctl.time else t.since })) := s.mapTcbs_ends fun x _ => by split <;> rfl
      exact .ite (stamped.trans (.of_scene rfl)) (.refl s)
    · exact .refl s
  · exact .refl s

theorem State.cancelSaved_ends (s : State) (c k : Nat) (which : TCB → Bool) : s.Ends (s.cancelSaved c k which) := by
  unfold State.cancelSaved
  extract_lets tcbs xs out fids hit s1 _ s2 s3 gone s4 s5
  have written : s.Ends s1 := .of_writes (.foldl (fun t x => t.putAs_writes ..) hit s)
  have left : s1.Ends s2 := .of_scene rfl
  have marked : s2.Ends s3 := .ite (.refl s2) (s2.markCancelled_ends c)
  have discarded : s3.Ends s4 := by
    refine .foldl (fun t x => ?_) gone s3
    exact .of_subset (List.Perm.of_eq (congrArg (·.1.gangs) (t.releaseBlocks_going ..))).subset (List.filter_subset_self _) (t.releaseBlocks_launches ..)
  have freed : s4.Ends s5 := .foldl (fun t f => .ite (t.freeEntry_ends c f) (.refl t)) fids s4
  have placed : s5.Ends (hit.foldl (fun (s : State) x => s.placeSaved c x.group) s5) := .foldl (fun t x => t.placeSaved_ends c x.group) hit s5
  exact ((((written.trans left).trans marked).trans discarded).trans freed).trans placed

end Sys2Proof.Machine
end

section
/-! SUPPORT. Estimates (R187 to R191): how draws fold, what the stop leaves, what STOP does where it arrives, and the snapshot of ESTSEL. -/

namespace Sys2Proof.Machine

open Sys2Proof

/-! ## Draws that fold (R187, R189) -/

/-- The window once a message for a draw has come: a draw without a contribution is an empty one. -/
def EstS.arrived (e : EstS) (d : Nat) : EstS := { e with window := if e.window.any (fun w => w.1 == d) then e.window else e.window ++ [(d, none)] }

theorem EstS.fold_p (e : EstS) (w : Option Nat) : (e.fold w).p = e.p + 1 := by cases w <;> rfl

theorem EstS.fold_window (e : EstS) (w : Option Nat) : (e.fold w).window = e.window := by cases w <;> rfl

/-- The stopping rule computes E at most (R189). -/
theorem EstS.test_eq (e : EstS) (r : LRec) : ∃ b, (e.test r).1 = { e with e := b } := by
  unfold EstS.test
  split
  · exact ⟨e.e, rfl⟩
  · exact ⟨_, rfl⟩

/-- Nothing folds while the next draw in draw order has not arrived. -/
theorem EstS.run_waits {e : EstS} (r : LRec) (fuel : Nat) (missing : ∀ w ∈ e.window, w.1 ≠ e.p) : EstS.run r fuel e = (e, false) := by
  cases fuel with
  | zero => rfl
  | succ k =>
    have none : e.window.find? (fun w => w.1 == e.p) = Option.none := List.find?_eq_none.mpr fun w hw => by simpa using missing w hw
    rw [EstS.run, none]

/-- The next draw, alone in the window, folds, and nothing more does. -/
theorem EstS.run_next {e : EstS} {w : Option Nat} (r : LRec) (fuel : Nat) (alone : e.window = [(e.p, w)]) : EstS.run r (fuel + 1) e = (({ e with window := [] } : EstS).fold w).test r := by
  have found : e.window.find? (fun x => x.1 == e.p) = some (e.p, w) := by simp [alone]
  have empty : e.window.filter (fun x => x.1 != e.p) = [] := by simp [alone]
  obtain ⟨b, tested⟩ := EstS.test_eq (({ e with window := [] } : EstS).fold w) r
  have none : ((({ e with window := [] } : EstS).fold w).test r).1.window = [] := by rw [tested]; exact EstS.fold_window _ w
  rw [EstS.run, found]
  dsimp only
  rw [empty]
  split
  · rfl
  · next goesOn =>
    rw [EstS.run_waits r fuel (by simp [none])]
    exact Prod.ext rfl (Bool.eq_false_iff.mpr goesOn).symm

section
variable {s : State} {c d : Nat} {l : Launch} {e : EstS} (launched : s.launch c = some l) (estimates : l.est = some e)
include launched estimates

theorem State.estimate_eq : s.estimate c = some { e with cancelled := false } := by rw [State.estimate, launched, Option.bind_some, estimates]; rfl

theorem exec_contributionArrive : exec .contributionArrive (s.hears (.contributionArrive c d)) = .next (
    let t := s.hears (.contributionArrive c d)
    if e.k.isSome || decide (d < e.p) then t
    else
      let r := EstS.run l.lrec ((e.arrived d).window.length + 1) (e.arrived d)
      if r.2 then t.stopAt l r.1 else (t.updLaunch c (fun l => { l with est := some r.1 })).pokePlaces) := by
  have launched' : (s.hears (.contributionArrive c d)).launch c = some l := launched
  have arrived : (if e.window.any (fun w => w.1 == d) then e else { e with window := e.window ++ [(d, none)] }) = e.arrived d := by
    unfold EstS.arrived
    split <;> rfl
  refine congrArg Host.Outcome.next ?_
  show (s.hears (.contributionArrive c d)).contribution c d = _
  simp only [State.contribution, launched', estimates, arrived]

/-- A draw folded already, or one after the stop (R189, R191). -/
theorem gives_contributionArrive_late (late : e.k ≠ none ∨ d < e.p) : Gives .contributionArrive (.contributionArrive c d) s id := by
  have late' : (e.k.isSome || decide (d < e.p)) = true := by simpa [Option.isSome_iff_ne_none] using late
  exact ⟨rfl, (exec_contributionArrive launched estimates).trans (congrArg Host.Outcome.next (if_pos late'))⟩

/-- A draw in time is noted, and what can be folded is. -/
theorem exec_contributionArrive_going (going : e.k = none) (ahead : e.p ≤ d) : exec .contributionArrive (s.hears (.contributionArrive c d)) = .next (
    let t := s.hears (.contributionArrive c d)
    let r := EstS.run l.lrec ((e.arrived d).window.length + 1) (e.arrived d)
    if r.2 then t.stopAt l r.1 else (t.updLaunch c (fun l => { l with est := some r.1 })).pokePlaces) := by
  have inTime : ¬ (e.k.isSome || decide (d < e.p)) = true := by simpa [going] using ahead
  exact (exec_contributionArrive launched estimates).trans (congrArg Host.Outcome.next (if_neg inTime))

/-- A draw beyond the next waits in the window. -/
theorem gives_contributionArrive_waits (going : e.k = none) (beyond : e.p < d) (missing : ∀ w ∈ e.window, w.1 ≠ e.p) : Gives .contributionArrive (.contributionArrive c d) s (fun s =>
    (s.updLaunch c (fun l => { l with est := some (e.arrived d) })).pokePlaces) := by
  have missing' : ∀ w ∈ (e.arrived d).window, w.1 ≠ (e.arrived d).p := by
    intro w hw
    unfold EstS.arrived at hw
    split at hw
    · exact missing w hw
    · rcases List.mem_append.mp hw with before | here
      · exact missing w before
      · rw [List.mem_singleton.mp here]
        exact Nat.ne_of_gt beyond
  have answers := exec_contributionArrive_going launched estimates going (Nat.le_of_lt beyond)
  rw [EstS.run_waits _ _ missing'] at answers
  exact ⟨rfl, answers⟩

/-- The next draw in draw order folds, and the test is made. -/
theorem exec_contributionArrive_next {w : Option Nat} (going : e.k = none) (next : e.p = d) (alone : (e.window = [] ∧ w = none) ∨ e.window = [(d, w)]) :
    exec .contributionArrive (s.hears (.contributionArrive c d)) = .next (
      let t := s.hears (.contributionArrive c d)
      let f := (({ e with window := [] } : EstS).fold w).test l.lrec
      if f.2 then t.stopAt l f.1 else (t.updLaunch c (fun l => { l with est := some f.1 })).pokePlaces) := by
  have window : (e.arrived d).window = [((e.arrived d).p, w)] := by
    show _ = [(e.p, w)]
    rcases alone with ⟨empty, rfl⟩ | here
    · simp [EstS.arrived, empty, next]
    · simp [EstS.arrived, here, next]
  have answers := exec_contributionArrive_going launched estimates going (Nat.le_of_eq next)
  rw [EstS.run_next _ _ window] at answers
  exact answers

end

/-! ## The stop (R191) -/

theorem State.cutQueued_eq {s : State} {c : Nat} {l : Launch} (launched : s.launch c = some l) (k : Nat) (which : TCB → Bool) : s.cutQueued c k which =
    { s with run.tcbs := s.run.tcbs.filter (fun t => !(t.ctx == c && t.state == 0 && which t && decide (k ≤ t.first * 2 ^ l.lrec.shift l.lrec.split))) } := by
  rw [State.cutQueued, launched]

theorem State.cutQueued_ends (s : State) (c k : Nat) (which : TCB → Bool) : s.Ends (s.cutQueued c k which) := by
  unfold State.cutQueued
  split
  · exact .refl s
  · exact .of_subset (List.Subset.refl _) (List.filter_subset_self _) rfl

section
variable {s : State} {l : Launch} (launched : s.launch l.ctx = some l) (e : EstS)
include launched

/-- K is the number of draws folded, and STOP goes to every cluster. -/
theorem State.stopAt_spec : (∃ m y, (s.stopAt l e).launch l.ctx = some m ∧ m.est = some y ∧ y.k = some e.p ∧ y.n = e.n ∧ y.mean = e.mean ∧ y.m2 = e.m2 ∧ y.window = []) ∧
    ∀ i < 96, Ev.stopArrive l.ctx i ∈ (s.stopAt l e).ctl.agenda := by
  unfold State.stopAt
  extract_lets k late s1 s2 s3 s4
  have logged : s1.launch l.ctx = some l := (State.launch_of_launches (congrArg RunS.launches (State.logEvent_logs ..).run) _).trans launched
  have stopped := State.launch_updLaunch s1 l.ctx l.ctx (f := fun l => { l with est := some { e with k := some k, stopSerial := s1.ten.serial, window := [], disc := e.disc + late } }) fun _ => rfl
  rw [logged, Option.map_some, if_pos rfl] at stopped
  have cut : s2.Ends s4 := (s2.cutQueued_ends l.ctx k (fun t => t.place == 96)).trans (.ite (s3.cancelSaved_ends l.ctx k (fun t => t.place == 96)) (.refl s3))
  obtain ⟨es, sent⟩ := (s4.sendAll ((List.range 96).map (fun c => Ev.stopArrive l.ctx c))).checkDone_sends l.ctx
  rw [sent]
  refine ⟨?_, fun i hi => List.mem_append_left _ (List.mem_append_right _ (List.mem_map_of_mem (List.mem_range.mpr hi)))⟩
  have kept := (cut.estimates l.ctx).trans (State.estimate_eq stopped rfl)
  obtain ⟨y, hy, same⟩ := Option.map_eq_some_iff.mp kept
  obtain ⟨m, hm, est⟩ := Option.bind_eq_some_iff.mp hy
  refine ⟨m, y, hm, est, ?_⟩
  exact ⟨congrArg (·.k) same, congrArg (·.n) same, congrArg (·.mean) same, congrArg (·.m2) same, congrArg (·.window) same⟩

end

/-! ## STOP at a cluster (R191) -/

/-- STOP noted at a cluster, and the draws placed there and not bound gone. -/
def State.stopReached (s : State) (c x k : Nat) : State :=
  (s.updLaunch c (fun l => { l with est := l.est.map (fun (e : EstS) => { e with reached := addSorted e.reached x }) })).cutQueued c k (fun t => t.place == x)

/-- The lane slots of a cluster whose threads CANCEL ends where they are parked. -/
def State.parkedFrom (s : State) (c x k : Nat) : List (Nat × Nat × Nat) :=
  (s.core.gangs.filter (fun g => g.ctx == c && clusterOf g.core == x)).flatMap (fun g => ((List.range 32).filter (fun n =>
    let t := g.thread n
    decide (k ≤ (g.wids.drop n).headD 0) && (t.status == .joinwait || t.status == .svcwait || t.status == .faultwait))).map (fun n => (g.core, g.slot, n)))

theorem State.mem_parkedFrom {s : State} {c x k core slot lane : Nat} {g : Gang} (bound : s.gang core slot = some g) (mine : g.ctx = c) (here : clusterOf core = x) (inside : lane < 32)
    (late : k ≤ (g.wids.drop lane).headD 0) (parked : (g.thread lane).status = .joinwait ∨ (g.thread lane).status = .svcwait ∨ (g.thread lane).status = .faultwait) :
    (core, slot, lane) ∈ s.parkedFrom c x k := by
  obtain ⟨rfl, rfl⟩ : g.core = core ∧ g.slot = slot := by simpa using List.find?_some bound
  refine List.mem_flatMap.mpr ⟨g, List.mem_filter.mpr ⟨List.mem_of_find?_eq_some bound, by simp [mine, here]⟩, List.mem_map.mpr ⟨lane, List.mem_filter.mpr ⟨List.mem_range.mpr inside, ?_⟩, rfl⟩⟩
  simp only [Bool.and_eq_true, Bool.or_eq_true, decide_eq_true_eq, beq_iff_eq]
  exact ⟨late, or_assoc.mpr parked⟩

/-- CANCEL at a cluster that STOP has reached: parked threads end, bound ones and then saved ones. -/
def State.cancelAt (s : State) (c x k : Nat) : State :=
  ((s.parkedFrom c x k).foldl (fun (s : State) x => s.cancelThread x.1 x.2.1 x.2.2) s).cancelSaved c k (fun t => t.place == x)

theorem State.cancelAt_spec (s : State) (c x k : Nat) : s.Ends (s.cancelAt c x k) ∧ ∀ y ∈ s.parkedFrom c x k, (s.cancelAt c x k).Gone y.1 y.2.1 y.2.2 := by
  obtain ⟨ends, gone⟩ := s.cancelThreads_spec (s.parkedFrom c x k)
  have saved := State.cancelSaved_ends ((s.parkedFrom c x k).foldl (fun (s : State) x => s.cancelThread x.1 x.2.1 x.2.2) s) c k (fun t => t.place == x)
  exact ⟨ends.trans saved, fun y hy => (gone y hy).ends saved⟩

section
variable {s : State} {c x k : Nat} {l : Launch} {e : EstS} (launched : s.launch c = some l)
include launched

theorem State.stopReached_eq : s.stopReached c x k = { s.updLaunch c (fun l => { l with est := l.est.map (fun (e : EstS) => { e with reached := addSorted e.reached x }) }) with
    run.tcbs := s.run.tcbs.filter (fun t => !(t.ctx == c && t.state == 0 && t.place == x && decide (k ≤ t.first * 2 ^ l.lrec.shift l.lrec.split))) } := by
  have mine : l.ctx = c := by simpa using List.find?_some launched
  have found := State.launch_updLaunch s c c (f := fun l => { l with est := l.est.map (fun (e : EstS) => { e with reached := addSorted e.reached x }) }) fun _ => rfl
  rw [launched, Option.map_some, if_pos mine] at found
  exact State.cutQueued_eq found k _

variable (estimates : l.est = some e)
include estimates

theorem gives_stopArrive_going (going : e.k = none) : Gives .stopArrive (.stopArrive c x) s id := by
  have launched' : (s.hears (.stopArrive c x)).launch c = some l := launched
  refine ⟨rfl, congrArg Host.Outcome.next ?_⟩
  show (s.hears (.stopArrive c x)).stopArrive c x = _
  simp only [State.stopArrive, launched', estimates, going]
  rfl

variable (stopped : e.k = some k)
include stopped

theorem exec_stopArrive : exec .stopArrive (s.hears (.stopArrive c x)) = .next (
    State.checkDone (if bit l.lrec.flags 0 then ((s.hears (.stopArrive c x)).stopReached c x k).cancelAt c x k else (s.hears (.stopArrive c x)).stopReached c x k) c) := by
  have launched' : (s.hears (.stopArrive c x)).launch c = some l := launched
  refine congrArg Host.Outcome.next ?_
  show (s.hears (.stopArrive c x)).stopArrive c x = _
  simp only [State.stopArrive, launched', estimates, stopped]
  rfl

theorem gives_stopArrive (keeps : bit l.lrec.flags 0 = false) : Gives .stopArrive (.stopArrive c x) s (fun s =>
    { s.updLaunch c (fun l => { l with est := l.est.map (fun (e : EstS) => { e with reached := addSorted e.reached x }) }) with
      run.tcbs := s.run.tcbs.filter (fun t => !(t.ctx == c && t.state == 0 && t.place == x && decide (k ≤ t.first * 2 ^ l.lrec.shift l.lrec.split))) }.checkDone c) := by
  have launched' : (s.hears (.stopArrive c x)).launch c = some l := launched
  have answers := exec_stopArrive (x := x) launched estimates stopped
  simp only [keeps, Bool.false_eq_true, if_false, State.stopReached_eq launched'] at answers
  exact ⟨rfl, answers⟩

/-- With CANCEL parked threads end, and what is placed at the cluster goes. -/
theorem happens_stopArrive_cancels (cancels : bit l.lrec.flags 0 = true) : Happens .stopArrive (.stopArrive c x) s (fun t =>
    (∀ core slot lane g, s.gang core slot = some g → g.ctx = c → clusterOf core = x → lane < 32 → k ≤ (g.wids.drop lane).headD 0 →
      ((g.thread lane).status = .joinwait ∨ (g.thread lane).status = .svcwait ∨ (g.thread lane).status = .faultwait) → (t.thread core slot lane).live = false) ∧
    ∀ y ∈ t.run.tcbs, ¬ (y.ctx = c ∧ y.state = 0 ∧ y.place = x ∧ k ≤ y.first * 2 ^ l.lrec.shift l.lrec.split)) := by
  have launched' : (s.hears (.stopArrive c x)).launch c = some l := launched
  have answers := exec_stopArrive (x := x) launched estimates stopped
  have reached := State.stopReached_eq (x := x) (k := k) launched'
  rw [if_pos cancels] at answers
  obtain ⟨ends, gone⟩ := ((s.hears (.stopArrive c x)).stopReached c x k).cancelAt_spec c x k
  have looked := State.checkDone_ends (((s.hears (.stopArrive c x)).stopReached c x k).cancelAt c x k) c
  refine ⟨rfl, _, answers, fun core slot lane g bound mine here inside late parked => ?_, fun y hy ⟨mine, queued, here, late⟩ => ?_⟩
  · have bound' : ((s.hears (.stopArrive c x)).stopReached c x k).gang core slot = some g := by rw [reached]; exact bound
    exact ((gone _ (State.mem_parkedFrom bound' mine here inside late parked)).ends looked).thread
  · obtain ⟨z, hz, same⟩ := (ends.trans looked).tcbs y hy queued
    obtain ⟨state, ctx, place, first⟩ : z.state = y.state ∧ z.ctx = y.ctx ∧ z.place = y.place ∧ z.first = y.first := by simpa [TCB.standing] using same
    rw [reached] at hz
    have kept := (List.mem_filter.mp hz).2
    simp [state, ctx, place, first, mine, queued, here, late] at kept

end

/-! ## ESTSEL (R190) -/

theorem ofNat_bits_63_48 (v : DWord) : BitVec.ofNat 64 (bits v.toNat 63 48 * 2 ^ 48) = v &&& 0xFFFF000000000000 :=
  ofNat_eq_and (fun i => decide (48 ≤ i) && decide (i < 64)) (by decide) fun i _ => testBit_bits_mul v.toNat 63 48 i

/-- What a snapshot shows of a context. -/
def State.estSnap (s : State) (c : Nat) : List Byte :=
  match s.launch c with
  | some l => if l.world = 0x7F then (match l.est with
      | some e => leBytes 8 e.p ++ leBytes 8 e.n ++ leBytes 8 e.mean ++ leBytes 8 e.m2
      | none => zeros 32) else zeros 32
  | none => zeros 32

theorem gives_estselWrite {s : State} {v : DWord} {b : List Byte} (shown : s.estSnap (v.extractLsb' 48 16).toNat = b) : Gives .estselWrite (.estselWrite v) s (fun s =>
    { s with run.estsel := v &&& 0xFFFF000000000000, run.estsnap := b }) := by
  have ctx : bits v.toNat 63 48 = (v.extractLsb' 48 16).toNat := (toNat_extractLsb' v 48 16).symm
  refine ⟨rfl, congrArg Host.Outcome.next ?_⟩
  show { s.hears (.estselWrite v) with run.estsel := BitVec.ofNat 64 (bits v.toNat 63 48 * 2 ^ 48), run.estsnap := s.estSnap (bits v.toNat 63 48) } = _
  rw [ofNat_bits_63_48, ctx, shown]

/-- Settles O56, message by message. -/
theorem estimateEvents : Obligations.EstimateEvents := by
  intro s c d x k l e v launched estimates
  have mine : l.ctx = c := by simpa using List.find?_some launched
  refine ⟨gives_contributionArrive_late launched estimates, gives_contributionArrive_waits launched estimates, fun going next w alone => ?next, ⟨rfl, fun z => ⟨rfl, rfl, rfl, rfl⟩⟩,
    gives_stopArrive_going launched estimates, fun stopped => ⟨gives_stopArrive launched estimates stopped, fun cancels _ => happens_stopArrive_cancels launched estimates stopped cancels⟩,
    fun named => ?named, fun unknown => ?unknown⟩
  case next =>
    have answers := exec_contributionArrive_next launched estimates going next alone
    refine ⟨fun fails => ⟨rfl, answers.trans (congrArg Host.Outcome.next (if_neg (ne_true_of_eq_false fails)))⟩, fun holds => ?_⟩
    subst mine
    obtain ⟨b, tested⟩ := EstS.test_eq (({ e with window := [] } : EstS).fold w) l.lrec
    have folded : ((({ e with window := [] } : EstS).fold w).test l.lrec).1.p = d + 1 := by rw [tested, ← next]; exact EstS.fold_p _ w
    have stop := State.stopAt_spec (s := s.hears (.contributionArrive l.ctx d)) launched ((({ e with window := [] } : EstS).fold w).test l.lrec).1
    rw [folded] at stop
    exact ⟨rfl, _, answers.trans (congrArg Host.Outcome.next (if_pos holds)), stop⟩
  case named =>
    refine gives_estselWrite ?_
    rw [named, State.estSnap, launched]
    simp only [estimates]
  case unknown =>
    refine gives_estselWrite ?_
    rw [State.estSnap, unknown]

end Sys2Proof.Machine
end

section
/-! SUPPORT. Words whose effects wait for the trailer (R209), prefixes (R267, R268) and the words of the scratchpad (R219, R327, R335, R336): what each leaves of its group. -/

namespace Sys2Proof.Machine

open Sys2Proof

/-! ## Words recorded for the trailer -/

section
variable {s : State} {g : Grp} {rest : List Grp} {gd : BitVec 3} {srcs dsts : List Nat}

/-- A word whose one act is to record effects for the trailer records those of its active lanes, and is over (R209). -/
theorem consume_addFx (acc : Nat) (fx : Grp → List (RLane × List PVal) → List Fx) (h : Issues s g rest gd srcs dsts) :
    s.consume acc gd srcs (fun s g acts => s.advance (g.addFx (fx g acts))) = s.headGrp ((g.addFx (fx g ((g.active gd).map (fun l => (l, srcs.map (s.readD g l)))))).adv) rest := by
  rw [consume_issues acc _ h]
  exact advance_head h.head h.ids rfl

/-- A word without sources records one effect for each active lane. -/
theorem consume_addFx_each (acc : Nat) (f : RLane → Fx) (h : Issues s g rest gd [] []) :
    s.consume acc gd [] (fun s g acts => s.advance (g.addFx (acts.map (fun x => f x.1)))) = s.headGrp ((g.addFx ((g.active gd).map f)).adv) rest := by
  rw [consume_addFx acc (fun _ acts => acts.map (fun x => f x.1)) h, List.map_map]
  rfl

/-- A word of one source records one effect for each active lane, with the value it reads. -/
theorem consume_addFx_value (acc : Nat) {a : BitVec 7} (f : RLane → Word → Fx) (h : Issues s g rest gd [a.toNat] []) :
    s.consume acc gd [a.toNat] (fun s g acts => s.advance (g.addFx (acts.map (fun x => f x.1 (x.2.headD pzero).val)))) =
      s.headGrp ((g.addFx ((g.active gd).map (fun l => f l (s.opnd g l a)))).adv) rest := by
  rw [consume_addFx acc (fun _ acts => acts.map (fun x => f x.1 (x.2.headD pzero).val)) h, List.map_map]
  rfl

/-- A meaning of a word acts on the group at the head of the issue queue. -/
theorem word_head (body : State → Grp → State) (head : s.core.issue = g :: rest) : s.word body = body s g := by rw [State.word, head]

end

/-- Every lane passes guard 0 (R261). -/
theorem Grp.active_zero (g : Grp) : g.active 0 = g.lanes := List.filter_eq_self.mpr fun _ _ => rfl

/-- An immediate without prefixes is its field (R267). -/
theorem Grp.imm_of_no_kext {g : Grp} (plain : g.kext = []) (w field : Nat) : g.imm w field = field := by simp [Grp.imm, plain]

/-- The payload of QUAL, by its fields (R268). -/
theorem qual_fields (w p m q : BitVec 3) : BitVec.ofNat 32 (q.toNat + 8 * m.toNat + 64 * p.toNat + 512 * w.toNat) = (w ++ p ++ m ++ q).setWidth 32 := by
  have cat {n : Nat} (x : BitVec n) (y : BitVec 3) : (x ++ y).toNat = y.toNat + 8 * x.toNat := by
    rw [BitVec.toNat_append, ← Nat.shiftLeft_add_eq_or_of_lt y.isLt, Nat.shiftLeft_eq]
    omega
  refine BitVec.eq_of_toNat_eq ?_
  simp only [BitVec.toNat_ofNat, BitVec.toNat_setWidth, cat]
  congr 1
  ring

/-- Settles O18, word by word. -/
theorem trailerAndPrefixWords : Obligations.TrailerAndPrefixWords := by
  refine ⟨fun c s g rest gd => ⟨fun hi => ⟨?exit, fun q => ?acq, fun r => ?rel, fun q r => ?ar, fun q r => ?phase, fun n => ?tfree⟩, fun hi plain k => ?bar, fun head ids => ?relx, fun a hi => ⟨?join, ?post⟩⟩,
    fun c s g rest head ids => ⟨?nop, fun p => ?kext, fun w p m q => ?qual⟩⟩
  case exit => exact congrArg Host.Outcome.next (consume_addFx_each 3 (fun l => Fx.exit l.lane) hi)
  case acq => exact congrArg Host.Outcome.next (consume_addFx_each 0 (fun l => Fx.fence l.lane q.toNat 7) hi)
  case rel => exact congrArg Host.Outcome.next (consume_addFx_each 0 (fun l => Fx.fence l.lane 7 r.toNat) hi)
  case ar => exact congrArg Host.Outcome.next (consume_addFx_each 0 (fun l => Fx.fence l.lane q.toNat r.toNat) hi)
  case phase => exact congrArg Host.Outcome.next (consume_addFx_each 0 (fun l => Fx.phase l.lane q.toNat) hi)
  case tfree => exact congrArg Host.Outcome.next (consume_addFx 0 (fun g _ => (slotsOf (g.active gd)).map (fun x => Fx.tfree x n.toNat)) hi)
  case bar =>
    have records := consume_addFx 0 (fun g acts => acts.map (fun x => Fx.bar x.1.lane (g.imm 7 k.toNat))) hi
    rw [Grp.active_zero, Grp.imm_of_no_kext plain, List.map_map] at records
    exact congrArg Host.Outcome.next records
  case relx => exact congrArg Host.Outcome.next ((word_head _ head).trans (advance_head head ids rfl))
  case join => exact congrArg Host.Outcome.next (consume_addFx_value 3 (fun l v => Fx.join l.lane v) hi)
  case post => exact congrArg Host.Outcome.next (consume_addFx_value 0 (fun l v => Fx.post l.lane v) hi)
  case nop => exact congrArg Host.Outcome.next ((word_head _ head).trans (advance_head head ids rfl))
  case kext => exact congrArg Host.Outcome.next ((word_head _ head).trans (updGrp_head head ids _))
  case qual =>
    rw [← qual_fields]
    exact congrArg Host.Outcome.next ((word_head _ head).trans (updGrp_head head ids _))

/-! ## Words of the scratchpad -/

section
variable {s : State} {g : Grp} {rest : List Grp} {gd : BitVec 3} {align size : Nat} {off : RLane → Nat}

theorem SpadReady.aligned (h : SpadReady s g gd align size off) : misaligned align ((g.active gd).map (fun l => (l, off l))) = [] := by
  simp only [misaligned, List.map_eq_nil_iff, List.filter_eq_nil_iff, List.mem_map]
  rintro _ ⟨l, hl, rfl⟩
  obtain ⟨multiple, -⟩ := h.2 l hl
  simp [multiple]

theorem SpadReady.within (h : SpadReady s g gd align size off) : s.beyondSpad g size ((g.active gd).map (fun l => (l, off l))) = [] := by
  simp only [State.beyondSpad, List.map_eq_nil_iff, List.filter_eq_nil_iff, List.mem_map]
  rintro _ ⟨l, hl, rfl⟩
  obtain ⟨-, inside, -⟩ := h.2 l hl
  simpa using inside

theorem SpadReady.filled (h : SpadReady s g gd align size off) :
    s.fillLanes g ((g.active gd).map (fun l => (l, off l))) = { st := s, wait := false, bad := [], walks := [], badWalk := [] } := by
  refine fillLanes_none fun a ha => ?_
  obtain ⟨l, hl, rfl⟩ := List.mem_map.mp ha
  obtain ⟨-, -, x, bound, -, unmapped⟩ := h.2 l hl
  exact ⟨x, bound, unmapped⟩

/-- No watchpoint is hit where a scratchpad access finds its bytes. -/
theorem SpadReady.unwatched (h : SpadReady s g gd align size off) (w : Bool) (n : Nat) (v : RLane → Nat) :
    s.watchHits g w n ((g.active gd).map (fun l => (l, off l, v l))) = [] := by
  refine watchHits_none h.1 fun a ha => ?_
  obtain ⟨l, hl, rfl⟩ := List.mem_map.mp ha
  obtain ⟨-, -, x, bound, mine, -⟩ := h.2 l hl
  exact ⟨x, bound, mine⟩

end

section
variable {s : State} {g : Grp} {rest : List Grp} {gd : BitVec 3} {b : BitVec 7} {w : BitVec 3} {f : BitVec 1} {size : Nat}

/-- The offset of LDS and STS without prefixes (R219, R327). -/
def State.spadAt (s : State) (g : Grp) (b : BitVec 7) (w : BitVec 3) (f : BitVec 1) (size : Nat) (l : RLane) : Nat := swizzle w.toNat ((s.opnd g l b).toNat + f.toNat * size)

theorem State.spadAt_eq (plain : g.kext = []) (l : RLane) : spadOff (s.readD g l b.toNat) g f.toNat size w.toNat = s.spadAt g b w f size l := by
  rw [spadOff, Grp.imm_of_no_kext plain]; rfl

/-- The lanes of a word with the offsets that LDS or STS accesses there. -/
theorem map_spadOff (plain : g.kext = []) (srcs : List Nat) :
    ((g.active gd).map (fun l => (l, (b.toNat :: srcs).map (s.readD g l)))).map (fun x => (x.1, spadOff (x.2.headD pzero) g f.toNat size w.toNat)) =
      (g.active gd).map (fun l => (l, s.spadAt g b w f size l)) := by
  rw [List.map_map]
  exact List.map_congr_left fun l _ => congrArg (Prod.mk l) (State.spadAt_eq plain l)

theorem State.takeFaults_nil (s : State) : s.takeFaults [] = s := by simp [State.takeFaults]

/-- What a lane of LDS reads of its gang's scratchpad. -/
def State.spadLoad (s : State) (g : Grp) (size : Nat) (l : RLane) (off : Nat) : List PVal :=
  match s.gang g.core l.slot with
  | some x => loadRegs size false 0 (x.spadBytes off size) (fun i => x.spadPois (off + i) 1)
  | none => []

/-- LDS that finds its bytes completes on its token (R206, R327). -/
theorem ldsWord_ready {d : BitVec 7} {k : BitVec 3} (plain : g.kext = []) (ready : SpadReady s g gd size size (s.spadAt g b w f size))
    (h : Tokens s g rest gd [b.toNat] (regCodes d.toNat (regCount size)) k) :
    s.ldsWord gd d b w f k size = s.named g.adv rest { g.token k.toNat d.toNat (regCount size)
      ((g.active gd).map (fun l => doneLane l (s.spadLoad g size l (s.spadAt g b w f size l)))) with size := size } := by
  have lanes : g.active gd ≠ [] := by
    obtain ⟨l, hl, on⟩ := h.some
    exact List.ne_nil_of_mem (Grp.mem_active.mpr ⟨hl, on⟩)
  have offs := map_spadOff (s := s) (gd := gd) (b := b) (w := w) (f := f) (size := size) plain []
  have unwatched := ready.unwatched false size (fun _ => 0)
  rw [State.ldsWord, loading_tokens _ h]
  simp only [offs, ready.aligned, ready.within, ready.filled, unwatched, List.map_map, Function.comp_def, List.isEmpty_nil, Bool.not_true, Bool.false_eq_true, if_false, List.map_nil, List.append_nil,
    List.find?_nil, State.takeFaults_nil, Grp.token]
  rw [List.map_congr_left (g := fun l => doneLane l (s.spadLoad g size l (s.spadAt g b w f size l))) fun l hl => ?lane]
  · refine named_advance h.head h.ids rfl ?_ ?_
    · simpa using lanes
    · simp [doneLane]
  case lane =>
    obtain ⟨-, -, x, bound, -⟩ := ready.2 l hl
    simp only [State.spadLoad, bound]

/-- STS that finds its bytes is recorded for the trailer (R209, R327). -/
theorem stsWord_ready {d : BitVec 7} (plain : g.kext = []) (ready : SpadReady s g gd size size (s.spadAt g b w f size))
    (h : Issues s g rest gd (b.toNat :: regCodes d.toNat (regCount size)) []) :
    s.stsWord gd d b w f size = s.headGrp ((g.addFx ((g.active gd).map (fun l =>
      Fx.sts l.lane (s.spadAt g b w f size l) (storeBytes size ((regCodes d.toNat (regCount size)).map (s.readD g l)))))).adv) rest := by
  have offs := map_spadOff (s := s) (gd := gd) (b := b) (w := w) (f := f) (size := size) plain (regCodes d.toNat (regCount size))
  rw [State.stsWord, consume_issues 1 _ h]
  simp only [offs, ready.aligned, ready.within, List.map_map, Function.comp_def, ready.unwatched true size, List.isEmpty_nil, Bool.or_true, if_true]
  rw [spadCheck_ready ready]
  rw [advance_head h.head h.ids (by rfl)]
  refine congrArg (fun fx => s.headGrp ((g.addFx fx).adv) rest) (List.map_congr_left fun l hl => ?_)
  have mine := find_lane (v := fun l => (b.toNat :: regCodes d.toNat (regCount size)).map (s.readD g l)) h.onceActive hl
  rw [mine]
  rfl

end

/-! ## WAIT and ARM -/

section
variable {s : State} {g : Grp} {rest : List Grp} {gd : BitVec 3} {d a b : BitVec 7}

/-- The lanes of a word with the offsets that its first operand gives. -/
theorem map_opnd (ls : List RLane) (srcs : List Nat) :
    (ls.map (fun l => (l, (a.toNat :: srcs).map (s.readD g l)))).map (fun x => (x.1, (x.2.headD pzero).val.toNat)) = ls.map (fun l => (l, (s.opnd g l a).toNat)) := by
  rw [List.map_map]
  rfl

/-- WAIT whose block lies in the scratchpad is recorded for the trailer, and shifts the window (R202, R209, R336). -/
theorem waitWord_ready (all : Bool) (h : Issues s g rest gd [a.toNat, b.toNat] [d.toNat]) (ready : SpadReady s g gd 32 32 (fun l => (s.opnd g l a).toNat)) :
    s.waitWord gd d a b all = s.headGrp (((g.shiftedTo d.toNat (g.lanes.map (fun l =>
      if l.gate gd = .on then l.shift (clean (Config.freeWord s.ctl.freeCtr)) else s.offLane g l d.toNat))).addFx ((g.active gd).map (fun l =>
        Fx.wait l.lane d.toNat (s.opnd g l a).toNat (s.opnd g l b).toNat all))).adv) rest := by
  have writable := operandTrap_none (s := s) (g := g) (ls := g.active gd) (srcs := []) (dsts := [d.toNat]) (fun _ _ _ hc => nomatch hc)
    (fun l hl => h.dsts l (Grp.mem_active.mp hl).1 (Grp.mem_active.mp hl).2)
  rw [State.waitWord, consume_issues 0 _ h]
  simp only [writable, map_opnd]
  rw [spadCheck_ready ready, List.map_map, advance_head h.head h.ids (by rfl)]
  congr 4
  refine List.map_congr_left fun l hl => ?_
  have clear := h.clear l hl
  cases hg : l.gate gd with
  | off => rfl
  | on => rfl
  | pois => exact absurd hg clear

/-- ARM of words in the scratchpad is recorded for the trailer (R209, R335). -/
theorem execArm_ready (c : BitVec 1) (h : Issues s g rest gd [a.toNat, b.toNat] []) (ready : SpadReady s g gd 8 8 (fun l => (s.opnd g l a).toNat)) :
    execArm c gd a b s = .next (s.headGrp ((g.addFx ((g.active gd).map (fun l => Fx.arm l.lane (s.opnd g l a).toNat ((s.opnd g l b).toNat % 2 ^ 24)))).adv) rest) := by
  rw [execArm, consume_issues 1 _ h]
  simp only [map_opnd]
  simp only [ready.aligned, ready.within, List.map_map, Function.comp_def, ready.unwatched true 8, List.isEmpty_nil, Bool.or_true, if_true]
  rw [spadCheck_ready ready, advance_head h.head h.ids (by rfl)]
  refine congrArg (fun fx => Host.Outcome.next (s.headGrp ((g.addFx fx).adv) rest)) (List.map_congr_left fun l hl => ?_)
  have mine := find_lane (v := fun l => [a.toNat, b.toNat].map (s.readD g l)) h.onceActive hl
  rw [mine]
  rfl

end

/-- Settles O25, word by word. -/
theorem scratchpadAndWaitWords : Obligations.ScratchpadAndWaitWords := by
  refine ⟨fun c s g rest gd d b w f size _ plain ready => ?spad, fun c s g rest gd d a b => ⟨fun hi ready => ⟨?any, ?all⟩, fun hi ready => ?arm⟩⟩
  case spad =>
    refine ⟨?_, ?_, ?_, ?_, ?_⟩ <;>
      · rintro rfl
        exact ⟨fun k h => congrArg Host.Outcome.next (ldsWord_ready plain ready h), fun h => congrArg Host.Outcome.next (stsWord_ready plain ready h)⟩
  case any => exact congrArg Host.Outcome.next (waitWord_ready false hi ready)
  case all => exact congrArg Host.Outcome.next (waitWord_ready true hi ready)
  case arm => exact execArm_ready c hi ready

end Sys2Proof.Machine
end

section
/-! SUPPORT. TALLOC (R353) and ACQX (R205, R345) in a group of one gang slot. -/

namespace Sys2Proof.Machine

open Sys2Proof

/-- A change of a slot's gang that leaves its place is found there. -/
theorem State.updGang_gang_self {s : State} {core slot : Nat} {x : Gang} (bound : s.gang core slot = some x) {f : Gang → Gang} (place : ∀ g, (f g).core = g.core ∧ (f g).slot = g.slot) :
    (s.updGang core slot f).gang core slot = some (f x) := by
  have mine : x.core = core ∧ x.slot = slot := by simpa using List.find?_some bound
  rw [State.updGang_gang s core slot place, bound, Option.map_some, if_pos mine]

/-- The tile register that TALLOC maps a name of a gang to (R353). -/
def freshTile (x : Gang) (n : Nat) : TileReg := { ctx := x.ctx, gang := x.gang, name := n, words := [], header := regHeader 0x52 0 0, pois := [] }

/-- s with a tile register mapped for the gang x of a slot. -/
def State.mapTile (s : State) (core slot : Nat) (x : Gang) (n : Nat) : State :=
  { s with eng.tregs := s.eng.tregs ++ [freshTile x n] }.updGang core slot (fun x => { x with tiles := addSorted x.tiles n })

theorem State.mapTile_issue (s : State) (core slot : Nat) (x : Gang) (n : Nat) : (s.mapTile core slot x n).core.issue = s.core.issue := rfl

/-- s with an extended block for the gang of a slot, X0 to X31 zero (R205). -/
def State.takeBlock (s : State) (core slot : Nat) : State := s.updGang core slot (fun x => { x with xacq := true, v := x.v.filter (fun e => decide (e.1 / 32 < 64)) })

theorem State.takeBlock_issue (s : State) (core slot : Nat) : (s.takeBlock core slot).core.issue = s.core.issue := rfl

/-- g with v pushed in every lane (R282). -/
def Grp.pushed (g : Grp) (v : Bool) : Grp := { g with lanes := g.lanes.map (fun l => l.push v false) }

section
variable {s : State} {g : Grp} {rest : List Grp} {slot : Nat} {x : Gang} {L : Launch}
  (head : s.core.issue = g :: rest) (ids : ∀ y ∈ rest, y.id ≠ g.id) (alone : slotsOf g.lanes = [slot]) (slots : ∀ l ∈ g.lanes, l.slot = slot)
  (bound : s.gang g.core slot = some x) (launched : s.launch g.ctx = some L)
include head ids alone slots bound launched

/-- TALLOC of a free name below TILES maps it, and pushes 1 in every lane. -/
theorem execTalloc_free (c : BitVec 1) {n : BitVec 4} (below : n.toNat < L.lrec.tiles) (free : x.tiles.contains n.toNat = false) :
    execTalloc c n s = .next ((s.mapTile g.core slot x n.toNat).headGrp ({ g.pushed true with allocs := g.allocs ++ [(slot, n.toNat)] }.adv) rest) := by
  have within (ls : List RLane) : ls.filter (fun _ => decide (n.toNat ≥ L.lrec.tiles)) = [] := List.filter_eq_nil_iff.mpr fun _ _ => by simpa using below
  rw [execTalloc, word_head _ head]
  simp only [launched, within, alone, List.foldl_cons, List.foldl_nil, bound, free, List.filter_cons, List.filter_nil]
  refine congrArg Host.Outcome.next ((congrArg (fun ls => (s.mapTile g.core slot x n.toNat).advance { g with lanes := ls, allocs := g.allocs ++ [(slot, n.toNat)] })
    (List.map_congr_left (g := fun l => l.push true false) fun l hl => ?_)).trans (advance_head (g := g) ((s.mapTile_issue ..).trans head) ids (by rfl)))
  rw [slots l hl, bound]
  simp only [free, Bool.not_false]

/-- ACQX where the launch has extended registers: the word is over, and pushes in every lane what the gang then holds. -/
theorem execAcqx_word (c : BitVec 1) (has : L.lrec.xregs ≠ 0) (without : x.xacq = false) :
    execAcqx c s = .next (if 16 ≤ s.blocksUsed g.core then s.headGrp ((g.pushed false).adv) rest else (s.takeBlock g.core slot).headGrp ((g.pushed true).adv) rest) := by
  rw [execAcqx, word_head _ head]
  simp only [launched, has, if_false, alone, List.foldl_cons, List.foldl_nil, bound, without, Bool.false_or, decide_eq_true_eq, ge_iff_le]
  split
  case isTrue full =>
    refine congrArg Host.Outcome.next ((congrArg (fun ls => s.advance { g with lanes := ls }) (List.map_congr_left (g := fun l => l.push false false) fun l hl => ?_)).trans
      (advance_head (g := g) head ids (by rfl)))
    rw [slots l hl, bound]
    simp only [without]
  case isFalse room =>
    have holds := State.updGang_gang_self bound (f := fun x => { x with xacq := true, v := x.v.filter (fun e => decide (e.1 / 32 < 64)) }) fun _ => ⟨rfl, rfl⟩
    refine congrArg Host.Outcome.next ((congrArg (fun ls => (s.takeBlock g.core slot).advance { g with lanes := ls }) (List.map_congr_left (g := fun l => l.push true false) fun l hl => ?_)).trans
      (advance_head (g := g) ((s.takeBlock_issue ..).trans head) ids (by rfl)))
    rw [slots l hl, holds]

end

/-- Settles O21: TALLOC of a free name, ACQX with a block free, ACQX with none. -/
theorem allocationWords : Obligations.AllocationWords := by
  intro c s g rest slot x L head ids alone slots bound _ _ launched
  refine ⟨fun n below free => ⟨_, execTalloc_free head ids alone slots bound launched c below free, rfl, rfl, rfl, ?tiles⟩, fun has without room => ?taken, fun has without full => ?none⟩
  case tiles => exact State.updGang_gang_self (s := { s with eng.tregs := s.eng.tregs ++ [freshTile x n.toNat] }) bound fun _ => ⟨rfl, rfl⟩
  case taken =>
    refine ⟨_, (execAcqx_word head ids alone slots bound launched c has without).trans (congrArg Host.Outcome.next (if_neg (Nat.not_le.mpr room))), rfl, rfl, ?_⟩
    exact State.updGang_gang_self bound fun _ => ⟨rfl, rfl⟩
  case none => exact (execAcqx_word head ids alone slots bound launched c has without).trans (congrArg Host.Outcome.next (if_pos full))

end Sys2Proof.Machine
end

section
/-! SUPPORT. END of a draw that a stop has cancelled (R191), in a slot to which two gangs are bound. -/

namespace Sys2Proof.Machine

open Sys2Proof

/-- An estimating launch with CANCEL that has stopped at draw 0, STOP having reached the first cluster (R191). -/
def stoppedLaunch : Launch :=
  { probeLaunch with lrec := { probeRecord with kind := 3, flags := 1 },
                     est := some { p := 0, n := 0, mean := 0, m2 := 0, e := 0, window := [], k := some 0, stopSerial := 0, disc := 0, cancelled := false, reached := [0] } }

/-- The gang of draw 0, of one thread. -/
def drawGang : Gang := { probeGang with threads := [{ emptyThread with status := .runnable, inRun := true }] }

/-- A gang of another group with no thread, bound to the same slot. -/
def twinGang : Gang := { drawGang with gang := 1, group := 1, threads := [] }

/-- The lane of draw 0, the release of its EXIT over. -/
def drawLane : RLane := { laneOf (drawGang, 0) with did := true }

/-- Its run, at an END with Y = 1. -/
def drawRun : Grp := { probeGrp 0x01010000 with lanes := [drawLane] }

/-- Both gangs are bound to slot 0 of core 0, that of the draw first. -/
def twiceBound : State := { State.reset with run.launches := [stoppedLaunch], core.gangs := [drawGang, twinGang], core.issue := [drawRun] }

/-- What that END leaves. -/
def twiceBoundEnded : State := twiceBound.word (fun s g => s.trailerStep g 0 true 0)

/-- The gang of the draw has given up the slot (R203), and the other is found there. -/
theorem twiceBoundEnded_gang : twiceBoundEnded.gang 0 0 = some twinGang := by decide

theorem twiceBoundEnded_issue : twiceBoundEnded.core.issue = [] := by decide

/-- Refutes O30: the statement does not keep a gang slot to one gang. At an END with Y = 1 the cancelled draw of twiceBound exits (R191), its gang is freed with it (R203) and its run is over, so
that the slot then shows the other gang bound to it, twinGang, whose lane 0 has no thread and is EMPTY, where the statement asks for an EXITED one or for a run still in issue. -/
theorem not_endOfRun : ¬ Obligations.EndOfRun := by
  intro h
  obtain ⟨ends, -⟩ := h
  obtain ⟨cancelled, -⟩ := ends twiceBound drawRun [] 0 1 0 drawLane drawGang stoppedLaunch rfl nofun rfl rfl rfl rfl rfl rfl rfl rfl rfl rfl (by decide) (by decide)
  obtain ⟨t, ht, left⟩ := cancelled (by decide) rfl
  have ended : t = twiceBoundEnded := (Host.Outcome.next.inj ht).symm
  subst ended
  rcases left with exited | ⟨g, there, -⟩
  · exact absurd (exited twinGang twiceBoundEnded_gang) (by decide)
  · rw [twiceBoundEnded_issue] at there
    cases there

end Sys2Proof.Machine
end

section
/-! SUPPORT. One step (R178, R196): which move each turn of the schedule and each fair turn makes, what the move comes to, and how the step closes. -/

namespace Sys2Proof.Machine

open Sys2Proof

/-! ## The move of a step -/

section
variable {s : State} {n : Nat} {e : Ev} {sch : List Turn} {m : Move}

/-- A step is its move, from the state whose schedule has lost its first turn. -/
theorem step_of_move (h : s.move = m) : step s = closeStep (s.moveEv m) (s.moveContexts m) ({ s with ctl.schedule := s.ctl.schedule.tail }.make m) := by rw [step, h]

theorem step_of_turn {turn : Turn} (scheduled : s.ctl.schedule = turn :: sch) (h : s.move = m) :
    step s = closeStep (s.moveEv m) (s.moveContexts m) ({ s with ctl.schedule := sch }.make m) := by rw [step_of_move h, scheduled, List.tail_cons]

/-- Without a schedule a step makes the fair move. -/
theorem step_of_fairMove (unscheduled : s.ctl.schedule = []) (h : s.fairMove = m) : step s = closeStep (s.moveEv m) (s.moveContexts m) (s.make m) := by
  have fair : s.move = m := by rw [State.move, unscheduled, h]
  rw [step_of_move fair, unscheduled, List.tail_nil, ← unscheduled]

theorem State.fairMove_of_timer (due : s.dueTimer = some n) : s.fairMove = .timer n := by rw [State.fairMove, due]

/-- The kind of move whose turn it is comes first, where it is possible (log 2). -/
theorem State.fairMove_of_kind (idle : s.dueTimer = none) (turn : s.kind s.ctl.freeCtr = some m) : s.fairMove = m := by
  simp only [State.fairMove, idle, turn, Option.orElse_some, Option.getD_some]

theorem State.kind_message (turn : s.ctl.freeCtr % 5 = 0) : s.kind s.ctl.freeCtr = s.firstFree.map Move.message := by simp only [State.kind, turn]
theorem State.kind_retry (turn : s.ctl.freeCtr % 5 = 1) : s.kind s.ctl.freeCtr = s.nextRetry.map Move.retry := by simp only [State.kind, turn]
theorem State.kind_word (turn : s.ctl.freeCtr % 5 = 3) {g : Grp} (head : s.core.issue[0]? = some g) : s.kind s.ctl.freeCtr = some (.word 0) := by
  rw [State.kind, turn]
  cases issue : s.core.issue with
  | nil => rw [issue] at head; cases head
  | cons => rfl

theorem State.move_issue (scheduled : s.ctl.schedule = .issue n :: sch) {g : Grp} (there : s.core.issue[n]? = some g) : s.move = .word n := by
  obtain ⟨inside, -⟩ := List.getElem?_eq_some_iff.mp there
  simp only [State.move, scheduled, inside, if_true]

theorem State.move_event (scheduled : s.ctl.schedule = .event n :: sch) (free : s.free n = true) : s.move = .message n := by simp only [State.move, scheduled, free, if_true]
theorem State.move_retry (scheduled : s.ctl.schedule = .retry n :: sch) (may : s.retryable n = true) : s.move = .retry n := by simp only [State.move, scheduled, may, if_true]

/-- A message that goes behind none, that nothing holds back and that stands in no crossing and at no bridge may happen (R15, R18, R20, R28). -/
theorem State.free_of (there : s.ctl.agenda[n]? = some e) (first : ∀ x ∈ s.ctl.agenda.take n, e.behind s x = false) (unblocked : s.blocked e = false) (clear : s.inCrossing e = false)
    (passes : s.atBridge e = false) : s.free n = true := by
  have front : (s.ctl.agenda.take n).any (fun x => e.behind s x) = false := List.any_eq_false.mpr fun x hx => by rw [first x hx]; decide
  simp only [State.free, there, front, unblocked, clear, passes]
  rfl

end

/-! ## What a move comes to -/

section
variable {s : State} {n k : Nat} {e : Ev}

/-- The next word of an issue group is executed, its group first in the queue. -/
theorem State.make_word {g : Grp} {i : Instr} (there : s.core.issue[n]? = some g) (word : g.next? = some i) :
    s.make (.word n) = exec i { s with ctl.op := none, core.issue := g :: s.core.issue.eraseIdx n } := by
  simp only [State.make, State.toFront, there, State.issueNext, word]

/-- A message whose objects exist happens where no reset is held (log 3). -/
theorem State.happen_of_ok (ok : e.ok = true) (runs : s.held0 = false) : s.happen e = exec e.instr { s with ctl.op := some e } := by
  rw [State.happen, ok, runs]; rfl

theorem State.make_timer {t : Nat} (there : s.ctl.timers[n]? = some (t, e)) (ok : e.ok = true) (runs : s.held0 = false) :
    s.make (.timer n) = exec e.instr { s with ctl.timers := s.ctl.timers.eraseIdx n, ctl.op := some e } := by
  simp only [State.make, there]
  exact State.happen_of_ok ok runs

theorem State.make_retry (there : s.ctl.waiting[n]? = some e) (ok : e.ok = true) (runs : s.held0 = false) :
    s.make (.retry n) = keepPlace n e (exec e.instr { s with ctl.waiting := s.ctl.waiting.eraseIdx n, ctl.op := some e }) := by
  simp only [State.make, there]
  exact congrArg (keepPlace n e) (State.happen_of_ok ok runs)

/-- A message that is delivered happens; one that is not has ended. -/
theorem State.make_message (there : s.ctl.agenda[n]? = some e) {d : State × Bool} (delivered : { s with ctl.agenda := s.ctl.agenda.eraseIdx n }.delivered e = d) :
    s.make (.message n) = if d.2 then d.1.happen e else .next d.1 := by
  simp only [State.make, there, delivered]

theorem State.delivered_of_near (near : e.bridge s = none) : s.delivered e = (s, true) := by rw [State.delivered, near]

theorem State.delivered_of_failed (far : e.bridge s = some k) (failed : (s.link k).st = .failed) : s.delivered e = (s.crossFail e, false) := by
  simp only [State.delivered, far, failed, if_true]

/-- The flits of a message go over a bridge that has not FAILED; where one is lost for good the message ends. -/
theorem State.delivered_over (far : e.bridge s = some k) (up : (s.link k).st ≠ .failed) :
    s.delivered e = if (s.sendOver k (flitCount s.ctl.freeCtr)).2 then s.sendOver k (flitCount s.ctl.freeCtr) else ((s.sendOver k (flitCount s.ctl.freeCtr)).1.crossFail e, false) := by
  simp only [State.delivered, far, up, if_false]

theorem State.not_failed_of_lets {m : Nat} (lets : s.lets k m = true) : (s.link k).st ≠ .failed := fun failed => by simp [State.lets, failed] at lets

theorem State.atBridge_of_near (near : e.bridge s = none) : s.atBridge e = false := by rw [State.atBridge, near]
theorem State.atBridge_of_failed (far : e.bridge s = some k) (failed : (s.link k).st = .failed) : s.atBridge e = false := by
  simp [State.atBridge, far, failed]
theorem State.atBridge_of_lets (far : e.bridge s = some k) (lets : s.lets k (flitCount s.ctl.freeCtr) = true) : s.atBridge e = false := by
  simp [State.atBridge, far, lets]

/-- Flits over a bridge leave resets as they are. -/
theorem State.Sent.held0 {s t : State} (h : s.Sent t) : t.held0 = s.held0 := by obtain ⟨_, _, _, _, rfl⟩ := h; rfl

end

/-! ## How a step closes -/

theorem State.nbSettle_unheld {s : State} (free : s.nb.heldCtx = none) : s.nbSettle = s := by rw [State.nbSettle, free]

theorem State.ringDrain_empty {s : State} (ev : s.ten.evWait = []) (hs : s.ten.hsWait = []) (hflt : s.ten.hfltWait = []) : s.ringDrain = s := by
  have events : s.eventDrain = s := by rw [State.eventDrain, ev]; rfl
  rw [State.ringDrain, hflt, events]
  show s.sampleDrain = s
  rw [State.sampleDrain, hs]
  rfl

theorem State.noteDue_empty {s : State} (fails : s.ctl.failDue = []) (integ : s.ctl.integDue = []) (sealed : s.ctl.sealDue = []) : s.noteDue = s := by
  have same : { s.ctl with failDue := [], integDue := [], sealDue := [] } = s.ctl := by
    cases c : s.ctl
    simp_all
  rw [State.noteDue, fails, integ, sealed]
  exact congrArg (fun c => { s with ctl := c }) same

/-! ## The steps -/

section
variable {s : State} {n k : Nat} {e : Ev} {sch : List Turn} {g : Grp} {i : Instr}

theorem step_issue (scheduled : s.ctl.schedule = .issue n :: sch) (there : s.core.issue[n]? = some g) (word : g.next? = some i) :
    step s = closeStep none [g.ctx] (exec i { s with ctl.schedule := sch, ctl.op := none, core.issue := g :: s.core.issue.eraseIdx n }) := by
  rw [step_of_turn scheduled (State.move_issue scheduled there), State.make_word (s := { s with ctl.schedule := sch }) there word, State.moveContexts, there]
  rfl

theorem step_fair_word (unscheduled : s.ctl.schedule = []) (idle : s.dueTimer = none) (turn : s.ctl.freeCtr % 5 = 3) (there : s.core.issue[0]? = some g) (word : g.next? = some i) :
    step s = closeStep none [g.ctx] (exec i { s with ctl.op := none, core.issue := g :: s.core.issue.eraseIdx 0 }) := by
  rw [step_of_fairMove unscheduled (State.fairMove_of_kind idle (State.kind_word turn there)), State.make_word there word, State.moveContexts, there]
  rfl

/-- The contexts of a move that a message makes are those of the message. -/
theorem State.moveContexts_of_ev {m : Move} (words : ∀ n, m ≠ .word n) (named : s.moveEv m = some e) : s.moveContexts m = s.contextsOf e := by
  cases m with
  | word n => exact absurd rfl (words n)
  | _ => simp only [State.moveContexts, named, Option.map_some, Option.getD_some]

theorem step_turn_of_ev {turn : Turn} {m : Move} (scheduled : s.ctl.schedule = turn :: sch) (h : s.move = m) (words : ∀ n, m ≠ .word n) (named : s.moveEv m = some e) :
    step s = closeStep (some e) (s.contextsOf e) ({ s with ctl.schedule := sch }.make m) := by
  rw [step_of_turn scheduled h, State.moveContexts_of_ev words named, named]

theorem step_fair_of_ev {m : Move} (unscheduled : s.ctl.schedule = []) (h : s.fairMove = m) (words : ∀ n, m ≠ .word n) (named : s.moveEv m = some e) :
    step s = closeStep (some e) (s.contextsOf e) (s.make m) := by
  rw [step_of_fairMove unscheduled h, State.moveContexts_of_ev words named, named]

section
variable (ok : e.ok = true) (runs : s.held0 = false)
include ok

/-- A message that the schedule names and that may happen is delivered, and then happens. -/
theorem step_event (scheduled : s.ctl.schedule = .event n :: sch) (there : s.ctl.agenda[n]? = some e) (free : s.free n = true) {d : State × Bool}
    (delivered : { s with ctl.schedule := sch, ctl.agenda := s.ctl.agenda.eraseIdx n }.delivered e = d) (held : d.2 = true → d.1.held0 = false) :
    step s = closeStep (some e) (s.contextsOf e) (if d.2 then exec e.instr { d.1 with ctl.op := some e } else .next d.1) := by
  rw [step_turn_of_ev scheduled (State.move_event scheduled free) (fun _ => nofun) there, State.make_message (s := { s with ctl.schedule := sch }) there delivered]
  split
  · next arrived => rw [State.happen_of_ok ok (held arrived)]
  · rfl

include runs

theorem step_fair_message (unscheduled : s.ctl.schedule = []) (idle : s.dueTimer = none) (turn : s.ctl.freeCtr % 5 = 0) (first : s.firstFree = some n) (there : s.ctl.agenda[n]? = some e)
    (near : e.bridge s = none) : step s = closeStep (some e) (s.contextsOf e) (exec e.instr { s with ctl.agenda := s.ctl.agenda.eraseIdx n, ctl.op := some e }) := by
  have fair := State.fairMove_of_kind idle ((State.kind_message turn).trans (congrArg (Option.map Move.message) first))
  have delivered := State.delivered_of_near (s := { s with ctl.agenda := s.ctl.agenda.eraseIdx n }) near
  rw [step_fair_of_ev unscheduled fair (fun _ => nofun) there, State.make_message there delivered]
  exact congrArg (closeStep _ _) (State.happen_of_ok ok runs)

theorem step_retry (scheduled : s.ctl.schedule = .retry n :: sch) (there : s.ctl.waiting[n]? = some e) (may : s.retryable n = true) :
    step s = closeStep (some e) (s.contextsOf e) (keepPlace n e (exec e.instr { s with ctl.schedule := sch, ctl.waiting := s.ctl.waiting.eraseIdx n, ctl.op := some e })) := by
  rw [step_turn_of_ev scheduled (State.move_retry scheduled may) (fun _ => nofun) there, State.make_retry (s := { s with ctl.schedule := sch }) there ok runs]

theorem step_fair_retry (unscheduled : s.ctl.schedule = []) (idle : s.dueTimer = none) (turn : s.ctl.freeCtr % 5 = 1) (next : s.nextRetry = some n) (there : s.ctl.waiting[n]? = some e) :
    step s = closeStep (some e) (s.contextsOf e) (keepPlace n e (exec e.instr { s with ctl.waiting := s.ctl.waiting.eraseIdx n, ctl.op := some e })) := by
  have fair := State.fairMove_of_kind idle ((State.kind_retry turn).trans (congrArg (Option.map Move.retry) next))
  rw [step_fair_of_ev unscheduled fair (fun _ => nofun) there, State.make_retry there ok runs]

theorem step_timer {t : Nat} (unscheduled : s.ctl.schedule = []) (due : s.dueTimer = some n) (there : s.ctl.timers[n]? = some (t, e)) :
    step s = closeStep (some e) (s.contextsOf e) (exec e.instr { s with ctl.timers := s.ctl.timers.eraseIdx n, ctl.op := some e }) := by
  have named : s.moveEv (.timer n) = some e := by rw [State.moveEv, there]; rfl
  rw [step_fair_of_ev unscheduled (State.fairMove_of_timer due) (fun _ => nofun) named, State.make_timer there ok runs]

end

end

/-- Settles O3, turn by turn. -/
theorem stepsRunTheirInstructions : Obligations.StepsRunTheirInstructions := by
  intro s n g i e sch
  refine ⟨fun there word => ⟨fun scheduled => step_issue scheduled there word, ?fairWord⟩,
    fun ok runs => ⟨fun scheduled there first unblocked clear => ?event, step_fair_message ok runs, fun there scheduled may => step_retry ok runs scheduled there may,
      fun there unscheduled idle turn next => step_fair_retry ok runs unscheduled idle turn next there, fun t => step_timer ok runs⟩,
    fun h k => ⟨fun scheduled => ?hearth, fun scheduled => ?forward⟩, fun x cs => ⟨fun mapped => ?closes, fun pa bad => ?stops, fun uncut => ?uncut⟩, ⟨rfl, rfl, rfl, rfl⟩,
    State.nbSettle_unheld, State.ringDrain_empty, State.noteDue_empty⟩
  case fairWord =>
    rintro unscheduled rfl idle turn
    exact step_fair_word unscheduled idle turn there word
  case event =>
    have may := State.free_of there first unblocked clear
    refine ⟨fun near => ?near, fun k far lets => ?crosses, fun k far failed => ?failed⟩
    case near => exact step_event ok scheduled there (may (State.atBridge_of_near near)) (State.delivered_of_near near) fun _ => runs
    case failed => exact step_event ok scheduled there (may (State.atBridge_of_failed far failed)) (State.delivered_of_failed far failed) nofun
    case crosses =>
      have sent := State.sendOver_sent { s with ctl.schedule := sch, ctl.agenda := s.ctl.agenda.eraseIdx n } k (flitCount s.ctl.freeCtr)
      have delivered := State.delivered_over (s := { s with ctl.schedule := sch, ctl.agenda := s.ctl.agenda.eraseIdx n }) far (State.not_failed_of_lets (s := s) lets)
      have free := may (State.atBridge_of_lets far lets)
      split at delivered
      · next arrived =>
        exact (step_event ok scheduled there free delivered fun _ => sent.held0.trans runs).trans (congrArg (closeStep _ _) ((if_pos arrived).trans (if_pos arrived).symm))
      · next lost =>
        exact (step_event ok scheduled there free delivered nofun).trans (congrArg (closeStep _ _) ((if_neg Bool.false_ne_true).trans (if_neg lost).symm))
  case hearth => exact step_of_turn scheduled (by rw [State.move, scheduled])
  case forward => exact step_of_turn scheduled (by rw [State.move, scheduled])
  case closes => simp only [closeStep, mapped, State.settle]
  case stops => simp only [closeStep, bad]
  case uncut => rw [State.endCut, uncut]; rfl

end Sys2Proof.Machine
end
